-- ==== Sys2Proof/Word.lean ====
section
/-!
DEFINITION. The word types of the block: bytes, the 64-bit register word (R13, "Registers and fields"), and byte strings.
-/

namespace Sys2Proof

/-- One byte. -/
abbrev Byte := BitVec 8

/-- A 64-bit register word. -/
abbrev W64 := BitVec 64

/-- A string of bytes, in the order sent or stored. -/
abbrev Bytes := List Byte

/-- A word from a natural number, modulo 2^64. -/
def w64 (n : Nat) : W64 := BitVec.ofNat 64 n

end Sys2Proof
end

