-- ==== Sys2Proof/Syntax.lean ====
section
/-!
DEFINITION. The commands of the block: one constructor of `Instr` for each row of spec/opcode_table.json, with the row's
operands. A command is a host frame, an accepted register write, a job's run, or an event inside the part or at its pins;
its operands carry what comes from outside (a frame's bytes, measured values, a received message).
-/

namespace Sys2Proof

/-- Outputs D0 to D3, A0, A1. -/
abbrev Output := Fin 6
/-- AC outlets A0, A1. -/
abbrev Outlet := Fin 2
/-- Host ports HP0 to HP3. -/
abbrev Port := Fin 4
/-- Session IDs 0 to 63 (R103). -/
abbrev Sid := Fin 64
/-- Job slots J0 to J15. -/
abbrev Slot := Fin 16
/-- Sluices S0 to S7. -/
abbrev Sluiceno := Fin 8
/-- Key slots. -/
abbrev KeySlotNo := Fin 256
/-- TRIP lines. -/
abbrev LineNo := Fin 16
/-- Input conditioners. -/
abbrev IcNo := Fin 48
/-- Modulator clocks. -/
abbrev MclkNo := Fin 4
/-- Vote groups. -/
abbrev GroupNo := Fin 32
/-- Metrological channels: an input conditioner 0 to 47, or 0x30 + the index of an FG port (R172). -/
abbrev ChannelNo := Fin 56
/-- Fluxgate ports. -/
abbrev FgNo := Fin 8
/-- Calibration slots. -/
abbrev CalNo := Fin 64
/-- Arithmetic cells. -/
abbrev MaNo := Fin 96
/-- Tamper inputs. -/
abbrev TamperNo := Fin 4
/-- Firmware components. -/
abbrev CompNo := Fin 5
/-- Words of a message. -/
abbrev WordList := List W64
/-- Samples of a measurement; `none` is a frame without VALID. -/
abbrev SampleList := List (Option Int)

/-- The Ethernet envelope of a frame on HP3 (R92). -/
structure Eth where
  src : BitVec 48
  dst : BitVec 48
  etherType : BitVec 16
  tagged : Bool
  /-- Length of the Ethernet payload in bytes. -/
  len : Nat
deriving DecidableEq, Repr

/-- A request frame as it arrives on a host port (R95). SYNC is 0xA5 where the port has it. -/
structure Frame where
  port : Port
  eth : Option Eth
  op : Byte
  sid : Byte
  flags : Byte
  seq : BitVec 16
  count : BitVec 16
  addr : BitVec 32
  payload : List W64
  crc : BitVec 32
  /-- The TAG bytes, when the frame carries a tag. -/
  tag : Bytes
deriving DecidableEq, Repr

/-- Parameters of KEY_DERIVE (R70). -/
structure DeriveParams where
  parent : KeySlotNo
  child : KeySlotNo
  kind : Nat
  engines : BitVec 10
  legacy : BitVec 16
  limit : BitVec 32
  expiry : W64
  label : Bytes
  context : Bytes
deriving DecidableEq, Repr

/-- Parameters of KEY_IMPORT (R70). -/
structure ImportParams where
  target : KeySlotNo
  blob : Bytes
  kind : Nat
  engines : BitVec 10
  legacy : BitVec 16
deriving DecidableEq, Repr

/-- A return authorisation (R54): the nonce it names and Joditu's two signatures. -/
structure ReturnAuth where
  nonce : W64
  ecdsa : Bytes
  lms : Bytes
deriving DecidableEq, Repr

/-- One excitation period of a fluxgate port (R166): the counts at 96 MHz from each polarity switch to the crossing, t+ and t-. -/
structure FgPeriod where
  plus : Nat
  minus : Nat
deriving DecidableEq, Repr

/-- What one frame brings to the Grate: 250 bits of each MDAT input, bit 0 first in time. -/
structure FrameIn where
  bits : Vector (BitVec 250) 48
  /-- The excitation period of each fluxgate port whose sample arrives in this frame. -/
  fg : Vector (Option FgPeriod) 8
deriving DecidableEq, Repr

/-- The conditions of R168 that take a fluxgate stream's VALID. -/
inductive FgFault | open_ | short | sat
deriving DecidableEq, Repr


/-- Cabinets on the networks. -/
abbrev CabNo := Fin 8
/-- DC outputs with an insulation monitor. -/
abbrev DcNo := Fin 4
/-- Modems. -/
abbrev ModemNo := Fin 7
/-- Mains phases L1, L2, L3. -/
abbrev PhaseNo := Fin 3
/-- Load-switch channels. -/
abbrev ChanNo := Fin 24
/-- Held-card numbers. -/
abbrev CardNo := Fin 4
/-- Bit maps of outputs D0 to A1. -/
abbrev OutMap := BitVec 6

/-- A measured pilot (R281, R282): the code of the accepted high plateau and both plateaus in mV. -/
structure PilotIn where
  high : Int
  low : Int
deriving DecidableEq, Repr

/-- How a modem failed (R288). -/
inductive ModemFault | heartbeat | loopback | afe
deriving DecidableEq, Repr

/-- What a vehicle sends to open TLS (R298). -/
structure TlsHello where
  version13 : Bool
  suiteOk : Bool
  /-- A client certificate is presented, and it verifies against the OEM roots. -/
  client : Bool
  clientOk : Bool
deriving DecidableEq, Repr

/-- An identification request (R304): identity type, identity, and the result of the chain and challenge checks. -/
structure Ident where
  type : Nat
  identity : Bytes
  /-- Contract payment (with a chain) or external identification. -/
  contract : Bool
  chainOk : Bool
deriving DecidableEq, Repr

/-- One answer of a card to a poll (R410 to R412): Type B or A, identity bytes, SAK and ATQA; `lost` when its Type B frame
collided in every slot. -/
structure CardIn where
  typeB : Bool
  uid : Bytes
  sak : Byte
  atqa : BitVec 16
  lost : Bool
deriving DecidableEq, Repr

/-- A ping's amplitude in 0.01 % of the START value and phase in 0.01° (R407, R408). -/
structure Ping where
  amp : Int
  phase : Int
deriving DecidableEq, Repr

/-- A received mesh frame before its checks (R436 to R440). -/
structure MeshIn where
  type : Nat
  orig : Fin 64
  send : Fin 64
  hops : Fin 8
  cost : Fin 256
  seq : Fin 256
  payload : BitVec 32
deriving DecidableEq, Repr

/-- Causes of a Fireguard reset other than power-on (R349). -/
inductive FgCause | lockstep | watchdog | image
deriving DecidableEq, Repr

/-- Wake sources of R466. -/
inductive WakeSource | hp0 | hp1 | hp2 | hp3 | pilot | tagField | mesh | alarm
deriving DecidableEq, Repr

/-- A write of 1 to 64 bytes to the tag, with the step of R428 at which the field collapses, if it does, and whether the
commit record or its clearing is then torn. -/
structure TagWrite where
  offset : Nat
  data : Bytes
  collapse : Option (Nat × Bool)
deriving DecidableEq, Repr

/-- The commands of the block (spec/opcode_table.json). -/
inductive Instr
  /-- READ (R102). A READ frame reads 1 to 128 consecutive registers or a window stream, in ascending order, stopping at the first register that fails. -/
  | read (f : Frame)
  /-- WRITE (R102). A WRITE frame writes consecutive registers in ascending order; this row covers every register write that has no row of its own. -/
  | write (f : Frame)
  /-- HELLO (R105). A HELLO frame allocates a session ID in the opening state and returns the device serial and a device nonce. -/
  | hello (f : Frame)
  /-- PROVE (R106). A PROVE frame checks the host's HMAC proof and, if it verifies, opens the session and answers with the device proof. -/
  | prove (f : Frame)
  /-- CLOSE (R114). A CLOSE frame closes the session, invalidates its key slot and frees its ID. -/
  | close (f : Frame)
  /-- SUBMIT (R116). A SUBMIT frame places a job in a named or free slot with a new job ID, in the queued state. -/
  | submit (f : Frame)
  /-- FEED (R120). A FEED frame appends words to a job's 128-word input buffer, whole or not at all. -/
  | feed (f : Frame)
  /-- NOP (R97). A NOP frame does nothing and returns a response that carries ATTN. -/
  | nop (f : Frame)
  /-- REQUEST_ABORTED (R88). CS_N rises on HP0 or HP1 before the last CRC byte, so the request is discarded and counted in DROPPED. -/
  | requestAborted (p : Port)
  /-- PARTIAL_FRAME_DISCARD (R90). HP2 stays idle for more than 4 character times inside a frame, so the partial frame is discarded and the port hunts for SYNC. -/
  | partialFrameDiscard
  /-- OPENING_TIMEOUT (R105). A session waits 2 s in the opening state without a PROVE and is released. -/
  | openingTimeout (sid : Sid)
  /-- IDLE_TIMEOUT (R114). IDLE seconds pass without a consumed frame and the session closes. -/
  | idleTimeout (sid : Sid)
  /-- PORT_RESTART (R12). A port with PENDING set and no open or opening session for 1 s restarts and takes up its S-class values. -/
  | portRestart (p : Port)
  /-- SLUICE_SEND (R49). A write to a sluice's transmit window stores one message whole, or returns FULL and counts OVERFLOWS. -/
  | sluiceSend (sid : Sid) (n : Sluiceno) (msg : WordList)
  /-- SLUICE_RECEIVE (R50). A read of a sluice's receive window returns the oldest message and removes it. -/
  | sluiceReceive (sid : Sid) (n : Sluiceno) (want : Nat)
  /-- JOB_CANCEL (R122). A write of JOB_CTRLn.CANCEL stops a queued job at once, or a running job at its next safe point, unless CANCELLABLE is 0. -/
  | jobCancel (sid : Sid) (j : Slot)
  /-- JOB_RELEASE (R121). A write of JOB_CTRLn.RELEASE returns a finished slot to idle. -/
  | jobRelease (sid : Sid) (j : Slot)
  /-- JOB_EXPIRE (R121). A finished job that has gone 600 s unreleased returns its slot to idle. -/
  | jobExpire (j : Slot)
  /-- SET_PASSWORD (R108). Job 0x02 sets, changes or clears the P3 or P5 password and closes that polder's password-mode sessions. -/
  | setPassword (j : Slot) (polder : Nat) (len : Nat) (pw : Bytes)
  /-- KEY_DERIVE (R69). Job 0x20 derives a child key into a slot by the SP 800-108 KDF and orphans the descendants of any earlier key there. -/
  | keyDerive (j : Slot) (p : DeriveParams)
  /-- KEY_IMPORT (R70). Job 0x21 unwraps a key blob into a target slot, raises its generation and orphans its descendants. -/
  | keyImport (j : Slot) (p : ImportParams)
  /-- KEY_INVALIDATE (R73). Job 0x22 invalidates a slot and orphans every descendant in the same cycle. -/
  | keyInvalidate (j : Slot) (target : KeySlotNo)
  /-- ATTEST (R79). Job 0x23 returns the identity certificate and an attestation report signed by ECDSA and HSS. -/
  | attest (j : Slot) (nonce : Bytes)
  /-- LIFECYCLE (R56). Job 0x24 makes a life-cycle transition in four fused steps and cold-resets the device. -/
  | lifecycle (j : Slot) (target : Nat) (auth : ReturnAuth)
  /-- LIFECYCLE_NONCE (R54). Job 0x25 issues the device serial and a fresh nonce for a return authorisation. -/
  | lifecycleNonce (j : Slot)
  /-- LIFECYCLE_NONCE_LAPSE (R54). The life-cycle nonce lapses 600 s after it was issued. -/
  | lifecycleNonceLapse
  /-- KEY_REMASK (R71). Every 2^20 CLK_BUS cycles the Key Register re-randomises the shares of every slot, one slot at a time. -/
  | keyRemask
  /-- KEY_SLOT_EXPIRE (R66). TB reaches a slot's expiry and the slot enters EXPIRED. -/
  | keySlotExpire (n : KeySlotNo)
  /-- HSS_TREE_READY (R81). The background computation of the next lower HSS tree completes and a waiting ATTEST can finish. -/
  | hssTreeReady
  /-- GRATE_FRAME (R129). At each Grate frame boundary, filter outputs latch, arithmetic cells are evaluated, integrators add, quantities are published and sequence cells step. -/
  | grateFrame (x : FrameIn)
  /-- TRIP_LINE_ASSERT (R353). A TRIP line bound by the plan asserts and the trip latch lowers HV_EN for the outputs named, with safe-off for action 1. -/
  | tripLineAssert (n : LineNo)
  /-- TRIP_LINE_CLEAR (R351). A TRIP line of action 0 has been deasserted for 10 ms, so its unlatched drop ends. -/
  | tripLineClear (n : LineNo)
  /-- IC_VALID_LOST (R136). An input conditioner sees no transition for 64 bit periods, or its MCLK stops, and clears VALID. -/
  | icValidLost (n : IcNo) (steady : Bool)
  /-- IC_VALID_RESTORED (R136). An input conditioner sees 250 bit periods with transitions and sets VALID again. -/
  | icValidRestored (n : IcNo)
  /-- MCLK_PAD_FAULT (R160). An MCLK pad reads back a level other than the one it drives on 4 consecutive edges, so PAD_FAULT sets and its channels lose VALID. -/
  | mclkPadFault (m : MclkNo)
  /-- VOTE_PERSISTENT_DISAGREE (R138). A group of two disagrees for 480 consecutive frames, so it reports DISAGREE and marks the output's Flue records uncertain. -/
  | votePersistentDisagree (g : GroupNo)
  /-- VOTE_DISAGREE_CLEAR (R138). The disagreement has been absent for 480 consecutive frames and the uncertain marking ends. -/
  | voteDisagreeClear (g : GroupNo)
  /-- SENSOR_LONG_LOSS (R172). A metrological channel stays not VALID for 48,000 frames, so T_SENSOR counts one occurrence. -/
  | sensorLongLoss (ch : ChannelNo)
  /-- SWAP_ARM (R151). A write of GRT_SWAP.ARM arms the swap of a verified shadow plan, if the diff allows the writer. -/
  | swapArm (sid : Sid) (v : W64)
  /-- SWAP_ABANDON (R152). A write of GRT_SWAP.ABANDON abandons an armed swap and returns the shadow state to verified. -/
  | swapAbandon (sid : Sid) (v : W64)
  /-- PLAN_SWAP (R153). At a qualifying frame or tick boundary the armed shadow plan replaces the running plan. -/
  | planSwap
  /-- PLAN_SWAP_WAIT_EXPIRE (R152). GRT_SWAP.WAIT seconds pass before a qualifying boundary, so the swap is abandoned with REFUSE code 11. -/
  | planSwapWaitExpire
  /-- FG_PORT_RETRY (R168). A fluxgate bridge that was switched off 100 ms earlier for OPEN or SHORT tries again. -/
  | fgPortRetry (n : FgNo)
  /-- MAG_FIELD_DETECT (R173). A MODE 2 fluxgate port reads |x| at or above MAG_TH on every sample for 1.000 s, which triggers T_MAG. -/
  | magFieldDetect (n : FgNo)
  /-- MAG_SAT_DETECT (R173). A metrological MODE 1 fluxgate port reports SAT for 100 ms without a break, which triggers T_MAG. -/
  | magSatDetect (n : FgNo)
  /-- MAG_EPISODE_END (R174). No T_MAG condition has been true for 10.0 s and the episode ends. -/
  | magEpisodeEnd
  /-- TRACK_WINDOW_OPEN (R182). The output's contactor gate has been open for 2.000 s and an offset-tracking window opens. -/
  | trackWindowOpen (c : CalNo)
  /-- TRACK_WINDOW_END (R182). An offset-tracking window of 48,000 frames ends, TRACK is clamped into place for the next tick, and LIMIT_HIT is checked. -/
  | trackWindowEnd (c : CalNo)
  /-- TEMP_STALE (R177). A CAL cell goes 10.0 s without a VALID temperature, so TEMP_STALE sets and the Flue records are marked uncertain. -/
  | tempStale (m : MaNo)
  /-- TICK_HANDOFF (R189). At cycle 4,800 of frame 479, each bound integrator hands its whole µWh to its energy register, and snapshots and SITE registers update. -/
  | tickHandoff
  /-- PULSE_START (R200). A queued pulse becomes active on PULSEn at cycle 4,900 of the frame in which the pin is free. -/
  | pulseStart (o : Output)
  /-- PULSE_END (R200). A pulse has been active for WIDTH frames and the pin returns inactive. -/
  | pulseEnd (o : Output)
  /-- PERIODIC_SAVE (R214). At every 100th tick boundary the metrology state is saved to the older FRAM copy. -/
  | periodicSave
  /-- PHASESEQ_REVERSED (R209). A reversed phase sequence holds on every L1 crossing for 1.0 s, which counts one T_PHASESEQ. -/
  | phaseseqReversed (o : Outlet)
  /-- PHASESEQ_EPISODE_END (R209). The sequence has been correct for 10.0 s and the T_PHASESEQ episode ends. -/
  | phaseseqEpisodeEnd (o : Outlet)
  /-- NEUTRAL_MISSING (R210). The phase-voltage spread exceeds 25 % of U0 in every window for 1.0 s, which counts T_NEUTRAL and clears the outlet's OUTPUT_READY. -/
  | neutralMissing (o : Outlet)
  /-- NEUTRAL_EPISODE_END (R210). The missing-neutral condition has been absent for 10.0 s and the episode ends. -/
  | neutralEpisodeEnd (o : Outlet)
  /-- POWER_FAIL_WARNING (R215). VIN falls below 2.65 V for 2 µs, so the NFC field and mesh stop and a power-fail save runs. -/
  | powerFailWarning
  /-- WARNING_CLEAR (R217). VIN recovers to 2.65 V or above for 1 ms without a brown-out, and the rest of the interrupted tick is handed off normally. -/
  | warningClear
  /-- BROWN_OUT (R454). VIN falls below 2.55 V for 2 µs, which causes a cold reset with code 1 and counts T_SUPPLY. -/
  | brownOut
  /-- BILLING_BOUNDARY (R230). At each tick boundary billing books the tick provisionally and applies period ends, calendar switches and tariff commands in order. -/
  | billingBoundary
  /-- TICK_COMMIT (R223). A tick commits 200 ticks after its hand-off and its energy goes to tariff registers, service registers or hold buckets. -/
  | tickCommit
  /-- DEMAND_INTERVAL_END (R237). Bill time reaches a demand grid point, and the interval closes with demand computed over its full length. -/
  | demandIntervalEnd
  /-- PERIOD_END (R241). Calendar time reaches a period-end entry, so maximum demand is copied and cleared, waiting demand settings take effect and the period count rises. -/
  | periodEnd
  /-- OFFSET_CHANGE (R233). Bill time reaches NEXT_AT, so OFFSET takes NEXT_OFFSET and NEXT_AT returns to 0. -/
  | offsetChange
  /-- CALENDAR_TARIFF_SWITCH (R232). Calendar time reaches an entry's START minute and the tariff in force changes from the next tick. -/
  | calendarTariffSwitch
  /-- TARIFF_COMMAND_EFFECTIVE (R234). A queued tariff command reaches its effective time and the named outputs switch tariff. -/
  | tariffCommandEffective
  /-- ATTR_TIMEOUT (R229). An output has held PENDING energy for 300 s without an outcome, and billing treats the session as withdrawn. -/
  | attrTimeout (o : Output)
  /-- BILL_SLEW_END (R246). Slewing bill time meets wall time and TIME returns to normal. -/
  | billSlewEnd
  /-- BILL_HOLD_END (R246). Wall time reaches the held bill time and the hold ends. -/
  | billHoldEnd
  /-- BILLING_STATE_WRITE (R255). At every 100th boundary, after the commit step, the billing state is written to the older copy. -/
  | billingStateWrite
  /-- BIL_TIMESET (R246). A write of BIL_TIMESET sets wall time, and bill time steps forward, slews or holds by the difference. -/
  | bilTimeset (sid : Sid) (v : W64)
  /-- BIL_TCMD (R234). A write of BIL_TCMD queues a tariff command and re-books the uncommitted ticks it covers. -/
  | bilTcmd (sid : Sid) (v : W64)
  /-- BIL_DSYNC (R243). A write of BIL_DSYNC ends the running interval at bill time X and moves the demand grid. -/
  | bilDsync (sid : Sid) (v : W64)
  /-- SEAL_OPEN (R257). Job 0x40 opens the metrology seal with the door open, counting T_SEAL and setting a deadline. -/
  | sealOpen (j : Slot)
  /-- SEAL_CLOSE (R261). Job 0x41 closes the seal and, after a metrology change, signs closing and opening records across a new key epoch. -/
  | sealClose (j : Slot)
  /-- SEAL_AUTO_CLOSE (R260). Wall time reaches the seal deadline and the seal closes by itself. -/
  | sealAutoClose
  /-- CAL_WRITE (R179). Job 0x48 counts T_CONFIG, writes a calibration slot to the sealed record and resets its TRACK. -/
  | calWrite (j : Slot)
  /-- CAL_MEASURE (R181). Job 0x49 averages a CAL cell's input over N VALID frames and writes partial and final records. -/
  | calMeasureRun (j : Slot)
  /-- FLUE_READ (R277). Job 0x42 signs READING or READING_EXPORT records for the named outputs at the latest committed boundary. -/
  | flueRead (j : Slot)
  /-- FLUE_FETCH (R277). Job 0x43 returns stored Flue records from a given COUNTER upward. -/
  | flueFetch (j : Slot)
  /-- FLUE_CERT (R277). Job 0x44 returns the Flue key certificate of an epoch. -/
  | flueCert (j : Slot)
  /-- FLUE_DEFERRED_SIGN (R276). Time becomes known and slot 3 becomes VALID, so queued Flue records are signed. -/
  | flueDeferredSign
  /-- TAMPER_INPUT_ACTIVE (R269). A tamper input shows its active level on 32 consecutive backup-clock samples and counts T_COVER. -/
  | tamperInputActive (n : TamperNo)
  /-- LEDGER_MERGE (R266). Backup-domain ledger deltas are merged into the flash ledger, writing flash first and then clearing the delta. -/
  | ledgerMerge
  /-- T_NRST (R484). NRST has been held for 30 s, so the backup domain counts one T_NRST. -/
  | tNrst (heldSeconds : Nat)
  /-- PILOT_STATE_CHANGE (R283). A new pilot state is accepted after 3 agreeing periods or samples and is passed to the sequencer. -/
  | pilotStateChange (o : Output) (p : PilotIn)
  /-- PP_CODE_CHANGE (R285). A proximity code is accepted after 20 ms without a change. -/
  | ppCodeChange (o : Output) (ohms : Nat)
  /-- MODEM_FAILED (R288). The Hearth declares a modem failed and, if GP6 is free, switches GP6 to that modem's coupler. -/
  | modemFailed (m : ModemNo) (why : ModemFault) (us : Nat)
  /-- CM_SLAC_PARM_REQ (R291). A CM_SLAC_PARM.REQ for a RUN_ID is answered on every candidate coupler. -/
  | cmSlacParmReq (run : Bytes)
  /-- CM_START_ATTEN_CHAR_IND (R292). A CM_START_ATTEN_CHAR.IND opens the 600 ms sound window. -/
  | cmStartAttenCharInd (run : Bytes)
  /-- SLAC_SOUND (R292). A sound is measured on every candidate coupler, and the tenth sound closes the window. -/
  | slacSound (run : Bytes) (atten : SampleList)
  /-- NEIGHBOUR_ATTEN_CHAR (R292). Another EVSE's CM_ATTEN_CHAR.IND for the same RUN_ID is heard and recorded as a neighbour value. -/
  | neighbourAttenChar (run : Bytes) (atten : Nat)
  /-- SLAC_WINDOW_CLOSE (R292). The sound window closes 600 ms after its start, and the winning coupler, if any, is sent CM_ATTEN_CHAR.IND. -/
  | slacWindowClose
  /-- CM_SLAC_MATCH_REQ (R293). A CM_SLAC_MATCH.REQ is confirmed only on a winner that still meets the margin. -/
  | cmSlacMatchReq (o : Output) (run : Bytes)
  /-- CM_VALIDATE (R294). The device takes part in CM_VALIDATE on candidates within MARGIN and counts B-C-B toggles. -/
  | cmValidate (o : Output) (run : Bytes) (toggles : Nat)
  /-- SLAC_FAILED (R295). The vehicle's SLAC retries end without a match, and the sequencer takes the pilot's SLAC as failed. -/
  | slacFailed (o : Output)
  /-- T1S_DISABLE (R296). The 10BASE-T1S PHY is disabled 1 s after its pilot returns to state A. -/
  | t1sDisable (n : DcNo)
  /-- T1S_LINK_DROP (R297). An enabled TS port has no link for 100 ms, which counts a link drop and reports loss of communication. -/
  | t1sLinkDrop (n : DcNo)
  /-- SDP_REQUEST (R302). A SECC Discovery Protocol request on UDP port 15118 is answered. -/
  | sdpRequest (o : Output) (tls : Bool)
  /-- SUPPORTED_APP_PROTOCOL (R302). supportedAppProtocol negotiates the protocol from the priority list in VEH_PROTOCFG. -/
  | supportedAppProtocol (o : Output) (offers : WordList)
  /-- TLS_HANDSHAKE (R298). The device runs a TLS server handshake and derives record keys into slots 48 to 95. -/
  | tlsHandshake (o : Output) (h : TlsHello)
  /-- SESSION_SETUP (R302). A SessionSetup request is answered and the EVCCID is posted to P2. -/
  | sessionSetup (o : Output) (evccid : Bytes)
  /-- SERVICE_DISCOVERY (R302). Service discovery, detail and selection requests are answered from the service settings. -/
  | serviceDiscovery (o : Output) (service : Nat)
  /-- IDENTIFICATION (R304). An identification request is settled by signature checks, the local list, P2 or the offline rule. -/
  | identification (o : Output) (id : Ident)
  /-- CERTIFICATE_INSTALLATION (R306). A CertificateInstallation or CertificateUpdate request is placed in the relay window for P2. -/
  | certificateInstallation (o : Output) (update : Bool) (exi : Bytes)
  /-- CHARGE_PARAMETER_DISCOVERY (R302). ChargeParameterDiscovery and ScheduleExchange requests are answered from the allocator. -/
  | chargeParameterDiscovery (o : Output) (vMax : Nat) (pMax : Int) (schedule : Bool)
  /-- CABLE_CHECK_REQUEST (R321). A CableCheck request is answered from the verdict, or starts a new test at the required voltage. -/
  | cableCheckRequest (o : Output)
  /-- PRECHARGE_REQUEST (R322). A PreCharge request names the vehicle's target and moves the setpoint to it. -/
  | prechargeRequest (o : Output) (target : Nat)
  /-- POWER_DELIVERY (R317). A PowerDelivery start takes a DC output from READY to CHARGING. -/
  | powerDelivery (o : Output) (start : Bool)
  /-- CHARGE_LOOP (R329). A CurrentDemand or ChargeLoop request updates the vehicle's target and is answered. -/
  | chargeLoop (o : Output) (target : Int) (volts : Nat) (power : Int)
  /-- METERING_RECEIPT (R302). A MeteringReceipt or MeteringConfirmation is answered and its signed content is relayed to P2. -/
  | meteringReceipt (o : Output) (signed : Bytes)
  /-- WELDING_DETECTION (R302). A WeldingDetection request is answered. -/
  | weldingDetection (o : Output)
  /-- SESSION_STOP (R338). The vehicle's SessionStop stops the session, or ends the 5 % pilot phase. -/
  | sessionStop (o : Output) (pause : Bool)
  /-- AUTH_DEADLINE (R304). DEADLINE seconds pass without a P2 decision, which counts as a denial. -/
  | authDeadline (o : Output)
  /-- VEH_DECIDE_AUTHORISATION (R306). A write of VEH_DECIDEn with KIND 1 accepts or denies an outstanding authorisation when SID and REQ_SEQ match. -/
  | vehDecideAuthorisation (sid : Sid) (o : Output) (v : W64)
  /-- VEH_DECIDE_WITHDRAW (R307). A write of VEH_DECIDEn with OUTCOME 2 withdraws an accepted authorisation and ends the session. -/
  | vehDecideWithdraw (sid : Sid) (o : Output) (v : W64)
  /-- VEH_DECIDE_RELAY_RESPONSE (R306). A write of VEH_DECIDEn with KIND 2 sends the EXI body in the response window to the vehicle. -/
  | vehDecideRelayResponse (sid : Sid) (o : Output) (v : W64)
  /-- LIST_ADD (R310). A write of VEH_LISTW2 with OP 1 adds or replaces a local-list entry. -/
  | listAdd (sid : Sid) (w0 : W64) (w1 : W64) (v : W64)
  /-- LIST_REMOVE (R310). A write of VEH_LISTW2 with OP 2 removes a local-list entry. -/
  | listRemove (sid : Sid) (w0 : W64) (w1 : W64) (v : W64)
  /-- LIST_CLEAR (R310). A write of VEH_LISTW2 with OP 3 clears the local list. -/
  | listClear (sid : Sid) (v : W64)
  /-- LIST_SALT_WRITE (R309). A write of a salt word sets it and empties the local list. -/
  | listSaltWrite (sid : Sid) (hi : Bool) (v : W64)
  /-- LOCK_TIMEOUT (R317). LOCK runs 2.0 s without confirmation, or with PP code 0 or 7, and the output goes to FAULT. -/
  | lockTimeout (o : Output)
  /-- SPEC_HOLD_TIMEOUT (R323). SPEC_READY lasts 60 s without an outcome, so the output is rolled back to LINK with its lock and SID kept. -/
  | specHoldTimeout (o : Output)
  /-- NO_OUTCOME_TIMEOUT (R314). A session has held the session start for 240 s without an outcome and is withdrawn with cause 5. -/
  | noOutcomeTimeout (o : Output)
  /-- ROLLBACK_TIMEOUT (R317). The output is still at 60 V or more 1.0 s after entry to ROLLBACK and goes to FAULT with cause 16. -/
  | rollbackTimeout (o : Output)
  /-- WAIT_UNPLUG_DONE (R317). The pilot has read A for 100 ms in WAIT_UNPLUG, so the output goes to IDLE and releases its SID. -/
  | waitUnplugDone (o : Output)
  /-- ALLOCATION_ZERO_PAUSE (R317). A DC output's allocation has been 0 W for 1.0 s in CHARGING and it enters PAUSED. -/
  | allocationZeroPause (o : Output)
  /-- AC_PAUSE_LIMIT (R338). An AC outlet in PAUSED has read pilot state B for 60 s, which stops the session. -/
  | acPauseLimit (o : Output)
  /-- STOPPING_TIMEOUT (R339). A DC output in STOPPING has not fallen below 5 A after 1.0 s, so the contactor request is withdrawn anyway. -/
  | stoppingTimeout (o : Output)
  /-- AC_STOP_TIMEOUT (R340). An AC outlet in STOPPING withdraws its contactor request after 3.0 s under load. -/
  | acStopTimeout (o : Output)
  /-- PILOT_5PCT_END (R339). 5.0 s after UNLOCK without SessionStop, the pilot turns from 5 % to steady +12 V. -/
  | pilot5pctEnd (o : Output)
  /-- OUTPUT_VOLTAGE_REACHED (R322). The output comes within 10 V of PRECHARGE_HINT or of the vehicle's target, and the state advances. -/
  | outputVoltageReached (o : Output) (mv : Nat)
  /-- OUTPUT_BELOW_60V (R317). The output falls below 60 V in ROLLBACK or FAULT, so the contactor request is withdrawn and the output goes to UNLOCK. -/
  | outputBelow60v (o : Output) (mv : Nat)
  /-- STOP_CURRENT_LOW (R339). The current of a DC output in STOPPING falls below 5 A, so the request is withdrawn and WELDCHECK starts. -/
  | stopCurrentLow (o : Output) (ma : Int)
  /-- LOCK_END_OF_TRAVEL (R400). A lock drive's current stays above STALL for 20 ms after blanking, so the channel turns off and reports end of travel. -/
  | lockEndOfTravel (n : ChanNo)
  /-- LOCK_DRIVE_TIMEOUT (R400). A lock drive has not reached end of travel after 2.0 s, so it turns off and reports a timeout. -/
  | lockDriveTimeout (n : ChanNo)
  /-- SETPOINT_PERIOD (R324). Every 10 ms the sequencer forms the site budget, allocates power and sends setpoint frames on CAN FD A. -/
  | setpointPeriod
  /-- CABINET_STATUS_FRAME (R327). A cabinet status frame arrives, the first good copy is taken and the second copy is compared. -/
  | cabinetStatusFrame (k : CabNo) (netB : Bool) (frame : Bytes)
  /-- CABINET_LOST (R328). No good status frame arrives from a cabinet for 50 ms, or it reports fault, and its outputs stop with cause 10. -/
  | cabinetLost (k : CabNo)
  /-- CABINET_START_TIMEOUT (R328). A cabinet has not reported ready 5.0 s after its first active setpoint and counts as lost. -/
  | cabinetStartTimeout (k : CabNo)
  /-- THERMAL_STOP (R335). A thermal cap of 0 has held for 30 s and the session stops with cause 11. -/
  | thermalStop (o : Output)
  /-- PUMP_POST_RUN_END (R336). POST_RUN seconds after the energised states, the pump PG stops. -/
  | pumpPostRunEnd (o : Output)
  /-- DEGRADED_STOP (R342). DEG_LEFT reaches 120 s and every running session enters STOPPING with cause 12. -/
  | degradedStop
  /-- HEARTH_RESUME (R343). After a failover or warm reset the sequencer resumes from the checkpoint in the same state. -/
  | hearthResume
  /-- SEQ_STOP (R338). A write of SEQ_CMD with OP 1 stops the sessions on the named outputs. -/
  | seqStop (sid : Sid) (v : W64)
  /-- SEQ_UNLOCK (R317). A write of SEQ_CMD with OP 2 releases the lock of an output in WAIT_UNPLUG. -/
  | seqUnlock (sid : Sid) (v : W64)
  /-- SEQ_CLEAR (R319). A write of SEQ_CMD with OP 3 clears a latched fault so readiness can return. -/
  | seqClear (sid : Sid) (v : W64)
  /-- SEQ_BLOCK (R341). A write of SEQ_CMD with OP 4 makes the named outputs unavailable after the running session. -/
  | seqBlock (sid : Sid) (v : W64)
  /-- SEQ_UNBLOCK (R341). A write of SEQ_CMD with OP 5 makes the named outputs available again. -/
  | seqUnblock (sid : Sid) (v : W64)
  /-- MESH_SHARE_RAISE (R333). A raised mesh share takes effect 40 s after the claim that raised it was sent. -/
  | meshShareRaise
  /-- MESH_FALLBACK (R333). No claim of another node has been heard for 60 s, so the share falls back and MESH_FALLBACK sets. -/
  | meshFallback
  /-- SAFETY_SLOT (R368). At each 500 µs slot the device frame is sent on CAN FD A and B. -/
  | safetySlot (readA : Option Bytes) (readB : Option Bytes)
  /-- CABINET_SAFETY_FRAME (R369). A cabinet safety frame arrives and is checked and compared with its copy on the other network. -/
  | cabinetSafetyFrame (k : CabNo) (netB : Bool) (frame : Bytes)
  /-- NETWORK_MISSING (R370). Expected frames are missing on one network for 10 slots, which enters degraded mode. -/
  | networkMissing (netB : Bool)
  /-- NETWORK_DISAGREEMENT (R370). Three disagreeing pairs within 1 s enter degraded mode. -/
  | networkDisagreement
  /-- BOTH_NETWORKS_LOST (R370). The device's own frames are missing on both networks for 10 slots, which runs safe-off on every output. -/
  | bothNetworksLost
  /-- CABINET_MISSING (R370). A cabinet is missing on both networks for 10 slots, or reports tripped or fault twice, and HV_EN drops for its outputs. -/
  | cabinetMissing (k : CabNo)
  /-- CABINET_FRAMES_RESTORED (R351). A cabinet's frames have been valid again for 1 s, so the reason 6 drop ends. -/
  | cabinetFramesRestored (k : CabNo)
  /-- NETWORKS_RESTORED (R351). Both networks have been good for 1 s, so the reason 7 drop ends. -/
  | networksRestored
  /-- DEGRADED_CLEAR (R373). After 60 clean seconds on both networks, degraded mode clears. -/
  | degradedClear
  /-- DEGRADED_LIMIT (R372). 5,400 s after entry to degraded mode, safe-off runs on every output still raised. -/
  | degradedLimit
  /-- LANE_LOST (R347). No safety-lane frame arrives for 48 frame periods, so the lane is lost. -/
  | laneLost
  /-- LANE_GOOD (R347). 48,000 consecutive lane frames arrive and the lane is good again. -/
  | laneGood
  /-- CLOCK_FAULT (R348). The TB pulse interval leaves 1 ms ± 2 %, or no pulse arrives for 3 ms, so safe-off runs on every output. -/
  | clockFault
  /-- HEARTBEAT_MISSING (R381). A warm reset or a 2 ms gap in the Hearth heartbeat starts the Fireguard hold. -/
  | heartbeatMissing
  /-- HOLD_END (R381). The heartbeat returns with the resumed flag and the hold ends. -/
  | holdEnd
  /-- HOLD_EXPIRE (R381). The hold has not ended 300 ms after it began, so safe-off runs with trigger 3. -/
  | holdExpire
  /-- FIREGUARD_RESET (R349). A Fireguard lockstep mismatch, watchdog expiry or image activation resets the Fireguard after safe-off. -/
  | fireguardReset (c : FgCause)
  /-- HV_EN_RAISE (R350). Every condition for an output holds, so the Fireguard raises its HV_EN. -/
  | hvEnRaise (o : Output)
  /-- ISO_HALF_END (R355). An insulation bridge half of T_HALF ends; a complete cycle computes R_ISO and its level, and may give a cable-check verdict or a fault drop. -/
  | isoHalfEnds (n : DcNo)
  /-- CABLE_CHECK_DWELL_START (R358). The output comes within 10 V of the test voltage, so the dwell starts and the bridge restarts at half a. -/
  | cableCheckDwellStart (n : DcNo) (mv : Nat)
  /-- CABLE_CHECK_RAMP_FAIL (R358). The output has not reached the test voltage 2.0 s after the first CHECK setpoint, which gives a bad ramp verdict. -/
  | cableCheckRampFail (n : DcNo)
  /-- RCD_EVALUATION (R362). Every half mains period the residual current is evaluated against the trip rows. -/
  | rcdEvaluate (k : Outlet)
  /-- RCD_SELFTEST_START (R364). A due residual-current self-test switches TEST_LS on and holds HV_EN low. -/
  | rcdSelftestStart (k : Outlet)
  /-- RCD_SELFTEST_END (R364). After 100 ms the self-test passes or fails on the measured DC component. -/
  | rcdSelftestEnds (k : Outlet)
  /-- WELD_CHECK (R366). 200 ms after an output's gate opens, the mirrors and phase voltages give the welding verdict. -/
  | weldCheck (o : Output) (volts : WordList)
  /-- GUARD_CHANGE (R375). The guard input changes between open and closed; opening lowers every HV_EN and runs safe-off where raised. -/
  | guardChange (a : Bool) (b : Bool)
  /-- GUARD_FAULT (R374). A non-antivalent guard combination lasts longer than 50 ms, which is a guard fault and demands the test. -/
  | guardFault
  /-- GUARD_TEST_PASS (R377). The guard read open for 100 ms and then closed for 100 ms, so GUARD_TESTED rises. -/
  | guardTestPass
  /-- SAFE_OFF_CURRENT_LOW (R379). During safe-off an affected output's current falls below 5 A and its HV_EN falls. -/
  | safeOffCurrentLow (o : Output) (ma : Int)
  /-- SAFE_OFF_FORCE (R379). 50 ms after the trigger, HV_EN falls on every affected output still raised. -/
  | safeOffForce
  /-- NRST_ASSERT (R483). NRST is held low for 10 µs, which causes a cold reset with safe-off. -/
  | nrstAssert
  /-- NRST_RELEASE (R484). NRST is released, the T_NRST argument takes the held time and the reset ends. -/
  | nrstRelease (heldSeconds : Nat)
  /-- THERMAL_RESET (R479). The digital die is at 150 °C or above for 1 ms, which causes a cold reset. -/
  | thermalReset
  /-- WATCHDOG (R480). The Hearth watchdog expires and causes a warm reset, or a failover when the shadow is ready. -/
  | watchdog
  /-- HEARTH_FAILOVER (R27). A lockstep mismatch in pair A makes pair B resume from the last checkpoint. -/
  | hearthFailover
  /-- ECC_UNCORRECTABLE (R27). An uncorrectable ECC error in pair A's memory is treated as a lockstep mismatch. -/
  | eccUncorrectable
  /-- ECC_CORRECTABLE (R27). A correctable ECC error is corrected in place and counted. -/
  | eccCorrectable
  /-- PAIR_A_SELFTEST_DONE (R28). Pair A's 150 ms self-test after a failover ends, and the pair rejoins as shadow or stays off. -/
  | pairASelftestDone (pass : Bool)
  /-- HEARTH_CHECKPOINT (R27). Every 1 ms the Hearth writes a checkpoint to ember-class SRAM. -/
  | hearthCheckpoint
  /-- CLOCK_LOSS (R473). The crystal stops or the PLL loses lock, so the main domains go to FIRC, safe-off runs and a cold reset follows. -/
  | clockLoss
  /-- CRYSTAL_RETRY (R473). With the crystal not started, the firmware on FIRC retries it every 1 s. -/
  | crystalRetry (starts : Bool)
  /-- XTAL32_FAIL (R474). The backup crystal shows no edge for 2 ms and the RTC continues on the LPRC. -/
  | xtal32Fail
  /-- XTAL32_RESTORE (R474). The backup crystal has run for 1 s without a gap and the RTC returns to it. -/
  | xtal32Restore
  /-- BACKUP_ANCHOR (R475). Every 1.000 s the Hearth writes a TB, RTC and wall-time anchor into the backup domain. -/
  | backupAnchor
  /-- RTC_RELOAD (R478). Every 1.000 s the RTC is reloaded from wall time. -/
  | rtcReload
  /-- PILOT_SUPPLY_UP (R453). VPP12 and VNN12 have been in range for 10 ms, so the pilot drivers may drive. -/
  | pilotSupplyUp
  /-- PILOT_SUPPLY_LOSS (R453). A pilot supply leaves its range and the pilot drivers go high impedance. -/
  | pilotSupplyLoss
  /-- VAUX_UNDERVOLTAGE (R401). VAUX stays below 8.0 V for 1 ms, so every channel turns off and UV sets. -/
  | vauxUndervoltage
  /-- VAUX_RECOVER (R401). VAUX reaches 8.5 V and requested HOST, PWM and LOCK channels turn on again. -/
  | vauxRecover
  /-- COLD_BOOT (R488). Reset release runs the boot ROM, verifies and starts HEARTH, restores the journal, replays billing and loads the plan. -/
  | coldBoot (strap : Fin 4) (rtcTicks : Nat) (crystal : Bool)
  /-- FLASH_RETRY (R487). The boot ROM retries a flash die that does not answer every 1 s. -/
  | flashRetry (answers : Bool)
  /-- COMMAND_WARM (R479). A write of SYS_RESET with KIND 1 takes an orderly save and a warm reset. -/
  | commandWarm (sid : Sid) (v : W64)
  /-- COMMAND_COLD (R479). A write of SYS_RESET with KIND 2 takes an orderly save and a cold reset, unless an HV_EN is raised. -/
  | commandCold (sid : Sid) (v : W64)
  /-- EMBER_ENTRY_AUTO (R458). With AUTO set, every sleep condition has held for IDLE_S seconds and the device enters EMBER. -/
  | emberEntryAuto
  /-- SLEEP (R458). A write of PWR_SLEEPCFG.SLEEP enters EMBER at once, or returns BUSY. -/
  | sleep (sid : Sid) (v : W64)
  /-- WAKE (R469). An enabled wake source brings the device out of EMBER, samples BOOT[1:0] (R486), checks the retained banks and
  splices TB. -/
  | wakeUp (src : WakeSource) (strap : Fin 4) (rtcTicks : Nat) (bad : BitVec 8)
  /-- LP_LIMIT (R462). The EMBER load exceeds 2.0 mA for 20 µs, which causes a cold reset with code 3. -/
  | lpLimit
  /-- EMBER_BROWN_OUT (R463). VIN browns out in EMBER and the device goes to VAULT, losing its embers. -/
  | emberBrownOut
  /-- RTC_ALARM (R466). Wall time reaches PWR_ALARM.WALL, the alarm fires and WALL returns to 0. -/
  | rtcAlarm
  /-- LSW_ON (R384). A write of LSW_ON requests HOST and PWM channels on or off within 50 µs. -/
  | lswOn (sid : Sid) (v : W64)
  /-- LSW_CLEAR (R395). A write of LSW_CLEAR clears channel latches at or below 150 °C and reloads RETRY_LEFT. -/
  | lswClear (sid : Sid) (v : W64)
  /-- CURRENT_LIMIT_TURNOFF (R392). A channel stays in current limit for LIMIT_TIME, turns off, and starts a retry wait or latches. -/
  | currentLimitTurnoff (n : ChanNo)
  /-- RETRY_DELAY_END (R392). A retry wait of RETRY_DELAY ends and a still-requested channel turns on again. -/
  | retryDelayEnd (n : ChanNo)
  /-- RETRY_RELOAD (R392). A channel carries current outside the limit for 1 s and RETRY_LEFT reloads from RETRY_MAX. -/
  | retryReload (n : ChanNo) (ma : Nat)
  /-- THERMAL_LATCH (R394). A channel reaches 170 °C, turns off and latches thermal. -/
  | thermalLatch (n : ChanNo)
  /-- OPEN_LOAD (R397). A channel that is on stays below OPEN_TH for 10 ms, so OPEN sets. -/
  | openLoad (n : ChanNo)
  /-- OFF_STATE_TEST (R398). The off-state test of an off channel runs every 10 ms in MIRROR mode, or every 100 ms otherwise, and updates LOAD_OFF or OPEN. -/
  | offStateTest (n : ChanNo) (sees : Bool)
  /-- NEG_VOLTAGE (R387). LSn_OUT falls below −26 V and NEG sets. -/
  | negVoltage (n : ChanNo)
  /-- PULLIN_END (R391). PULLIN × 2 ms after the gate closed, a CONTACTOR channel passes from full drive to its PG economiser. -/
  | pullinEnd (n : ChanNo)
  /-- NFC_ENABLE (R406). A write of NFC_RDCFG.ENABLE turns the reader field off, or starts the reader in START. -/
  | nfcEnable (sid : Sid) (v : W64)
  /-- NO_CARD_BASELINE (R406). No card has been seen or held for 1.0 s in START or RECOVERY, so a baseline is taken and the reader enters LPCD. -/
  | noCardBaseline (pings : List Ping)
  /-- LPCD_PING (R407). Every PERIOD ms an LPCD ping measures amplitude and phase against the baseline. -/
  | lpcdPing (p : Ping)
  /-- LPCD_CONFIRM_PING (R407). A detecting ping is repeated 1 ms later, and detection moves the reader to POLL. -/
  | lpcdConfirmPing (p : Ping)
  /-- POLL_CYCLE (R410). A poll cycle resolves Type A and Type B cards by anticollision and holds new cards. -/
  | pollCycle (cards : List CardIn)
  /-- INVENTORY (R414). Every 250 ms in HOLD an inventory poll finds the held cards and removes missing ones. -/
  | inventory (cards : List CardIn)
  /-- HOLD_MAX_EXPIRE (R406). HOLD_MAX seconds pass with the same cards and no exchange, so the cards become PARKED and the reader enters LPCD. -/
  | holdMaxExpire (pings : List Ping)
  /-- NFC_RF_FAULT (R406). A driver overcurrent or an antenna amplitude out of range turns the field off and puts the reader in FAULT. -/
  | nfcRfFault
  /-- NFC_FAULT_RECOVER (R406). 5.0 s in FAULT pass and the reader enters RECOVERY. -/
  | nfcFaultRecover
  /-- NFC_FIELD_RESTART (R404). VIN has been above 2.65 V for 100 ms after a warning, so the reader restarts in START. -/
  | nfcFieldRestart
  /-- NFC_TEST_MODE (R409). A write of NFC_TEST.MODE selects carrier or poll test mode, or leaves TEST. -/
  | nfcTestMode (sid : Sid) (v : W64)
  /-- NFC_TEST_LIMIT (R406). 600 s in TEST pass and the reader returns to START. -/
  | nfcTestLimit
  /-- NFC_BIND (R416). A write of NFC_BIND applies a held card to an output as its identification. -/
  | nfcBind (sid : Sid) (v : W64)
  /-- CARD_BIND_TIMEOUT (R416). A card has waited 10 s unbound, so it is applied to no output and its pseudonyms are posted. -/
  | cardBindTimeout (k : CardNo)
  /-- NFC_XCHG (R417). A write of NFC_XCHG.GO starts one APDU or raw Type 2 exchange with a held card. -/
  | nfcXchg (sid : Sid) (v : W64)
  /-- NFC_XCHG_DONE (R417). A card exchange completes with a response, or fails after retransmissions or card removal. -/
  | nfcXchgDone (answer : Option Bytes) (removed : Bool)
  /-- TAG_FIELD_ON (R429). The tag powers up in a field, replays any set commit record and pulls FDET low when enabled. -/
  | tagFieldOn
  /-- TAG_FIELD_LOST (R420). The field is lost, so the tag returns to Open. -/
  | tagFieldLost
  /-- FDET_RELEASE (R425). 10 ms after the field is lost, FDET is released. -/
  | fdetRelease
  /-- TAG_SELECT_APPLICATION (R421). SELECT application selects the NDEF application on the tag. -/
  | tagSelectApplication (aid : Bytes)
  /-- TAG_SELECT_FILE (R421). SELECT file selects a tag file by its ID. -/
  | tagSelectFile (fid : BitVec 16)
  /-- TAG_READ_BINARY (R421). READ BINARY returns bytes of the selected file as the access table allows. -/
  | tagReadBinary (offset : Nat) (le : Nat)
  /-- TAG_UPDATE_BINARY (R428). UPDATE BINARY writes 1 to 64 bytes through the six-step atomic page write. -/
  | tagUpdateBinary (w : TagWrite)
  /-- TAG_VERIFY (R423). VERIFY checks the 4-byte password and secures the tag, counting failures. -/
  | tagVerify (pw : BitVec 32)
  /-- TAG_AUTH_BEGIN (R422). AUTH_BEGIN draws RndB and returns it encrypted under the tag key. -/
  | tagAuthBegin
  /-- TAG_AUTH_FINISH (R422). AUTH_FINISH checks RndB′, returns RndA′ and secures the tag, counting failures. -/
  | tagAuthFinish (data : Bytes)
  /-- TAG_DESELECT (R420). DESELECT or HLTA ends the field transaction and returns the tag to Open. -/
  | tagDeselect
  /-- TAG_UNLOCK (R423). A write of NFC_TAGCFG.UNLOCK clears the tag's failure count. -/
  | tagUnlock (sid : Sid) (v : W64)
  /-- TAG_PASSWORD_WRITE (R423). A write of NFC_TAGPWD stores a new tag password in the system page. -/
  | tagPasswordWrite (sid : Sid) (v : W64)
  /-- TAG_WINDOW_WRITE (R427). A wired WRITE to the tag memory window writes pages in order, each through R428, or is answered BUSY during a field transaction. -/
  | tagWindowWrite (sid : Sid) (offset : Nat) (words : WordList)
  /-- TAG_WIRE_SERVE (R427). After a field transaction's first 50 ms, waiting wired pages are served between field commands. -/
  | tagWireServe
  /-- STATUS_LINE_WRITE (R431). The Hearth rewrites the tag status line after a change of readiness or fault, or at recovery. -/
  | statusLineWrite
  /-- STATUS_LINE_NRST (R431). NRST has been held for 1.0 s with VIN present, so the power die writes "controller held in reset". -/
  | statusLineNrst
  /-- STATUS_LINE_NOT_RUNNING (R431). The Hearth heartbeat has been missing for 5.0 s, so the power die writes "controller not running". -/
  | statusLineNotRunning
  /-- TRACKER_LOCK (R432). A zero-crossing tracker accepts 8 consecutive crossings and locks. -/
  | trackerLock (p : PhaseNo) (spacing : Nat)
  /-- TRACKER_UNLOCK (R432). A tracker rejects 4 consecutive crossings, or sees none for 30 ms, and unlocks. -/
  | trackerUnlock (p : PhaseNo) (silent : Bool)
  /-- MESH_CLAIM_DUE (R439). Every 20 s the post queues a CLAIM or BEACON frame. -/
  | meshClaimDue
  /-- MESH_TIME_DUE (R448). Every 600 s a time-source post queues a TIME frame. -/
  | meshTimeDue
  /-- MESH_FRAME_START (R441). After the channel is idle and the random back-off ends, a mesh frame starts at the next L1 crossing. -/
  | meshFrameStart
  /-- MESH_ATTEMPT_FAIL (R442). A slot sent as 0 reads 1, or a slot meets a jump, so the attempt stops and is retried or dropped. -/
  | meshAttemptFail
  /-- MESH_FRAME_SENT (R443). A mesh frame completes cleanly and the transmit cost T falls. -/
  | meshFrameSent
  /-- MESH_CLAIM_RX (R439). A CLAIM frame is received, checked, accepted as new and used for sharing and link costs. -/
  | meshClaimRx (f : MeshIn)
  /-- MESH_BEACON_RX (R439). A BEACON frame is received and accepted without taking part in sharing. -/
  | meshBeaconRx (f : MeshIn)
  /-- MESH_TIME_RX (R448). A TIME frame is received and its seconds and TB are stored in MSH_TIME. -/
  | meshTimeRx (f : MeshIn) (tb : Nat)
  /-- MESH_RELAY_SEND (R444). A relay wait ends without a cheaper copy heard, so the relayed copy is queued. -/
  | meshRelaySend
  /-- MESH_CONTEXT_EXPIRE (R445). 120 s after a node's last accepted frame, its mesh context is freed. -/
  | meshContextExpire (n : Fin 64)
  /-- UPDATE (R499). Job 0x30 takes one update object from its holder, block by block. -/
  | update (j : Slot)
  /-- UPDATE_VERIFY (R503). After the END block the update object is verified against format, signatures, rollback floor and compatibility. -/
  | updateVerify
  /-- UPDATE_TOKEN_EXPIRE (R497). The holder's 120 s token runs out, so the job fails with TOKEN and the object is discarded. -/
  | updateTokenExpire
  /-- CHECKPOINT_EXPIRE (R502). 120 s after LEVEL 2 without a RESUME, the update checkpoint is dropped and the slot discarded. -/
  | checkpointExpire
  /-- ACTIVATE (R506). A write of UPD_CTRL.ACTIVATE counts T_FW where needed, writes the boot record and restarts the component on trial. -/
  | activate (sid : Sid) (v : W64)
  /-- CONFIRM (R510). A write of UPD_CTRL.CONFIRM confirms a healthy trial and raises the anti-rollback floor. -/
  | confirm (sid : Sid) (v : W64)
  /-- REVERT (R509). A write of UPD_CTRL.REVERT reverts the running trial to the fallback slot. -/
  | revert (sid : Sid) (v : W64)
  /-- TRIAL_EXPIRE (R508). A trial reaches 1,800 s of running time without confirmation and reverts. -/
  | trialExpire (k : CompNo)
  /-- LOG_EXPORT (R531). Job 0x50 copies visible event-log entries in index order and can sign them. -/
  | logExport (j : Slot)
  /-- LOG_FLUSH (R528). Staged log entries are written to flash within 100 ms, or at once when 64 are waiting. -/
  | logFlush
  /-- LOG_FOLD (R529). At the end of a TB second, one entry records the entries folded in that second. -/
  | logFold
  /-- BW_WINDOW_END (R524). A port's bandwidth window ends, so CNT_BWn takes its counts and the peaks update. -/
  | bwWindowEnd (p : Port)
  /-- BWCFG_WRITE (R524). A write of a K_n in CNT_BWCFG discards the running window and starts the new length at the next multiple. -/
  | bwcfgWrite (sid : Sid) (v : W64)
  /-- FG_CONFIG_WRITE (R376). An accepted change to an FG_ configuration register demands the guard start-up test. -/
  | fgConfigWrite (sid : Sid) (addr : Nat) (v : W64)
  /-- FG_PORT_FAULT (R168). An excitation period of a fluxgate port shows OPEN, SHORT or SAT, so the stream loses VALID and OPEN or SHORT turns the H-bridge off for 100 ms. -/
  | fgPortFault (n : FgNo) (kind : FgFault)
  /-- FG_STREAM_VALID_RESTORED (R168). A fluxgate port has had 4 consecutive valid excitation periods and its stream becomes VALID again. -/
  | fgStreamValidRestored (n : FgNo)
  /-- VEHICLE_MESSAGE_TIMEOUT (R341). A vehicle message timer runs out and the session stops with cause 15. -/
  | vehicleMessageTimeout (o : Output)
  /-- MESH_FRAME_BAD (R437). A received mesh frame fails its CRC, has HOPS 0, shows an invalid phase pattern or met a jump, so it is discarded and counted in RX_BAD. -/
  | meshFrameBad
  /-- ZERO_CROSSING_JUMP (R433). A zero crossing arrives more than 150 µs from its prediction, so the tracker rejects it and counts it in MSH_ZC.JUMPS. -/
  | zeroCrossingJump (p : PhaseNo)
  /-- VBAT_LOST (R455). VBAT disappears while VIN is absent, so the backup domain loses its state and the device passes from VAULT to OFF. -/
  | vbatLost
  /-- FLASH_DIE_FAULT (R528). The flash die stops answering, so log entries stay staged and updates and attestation are refused until it returns. -/
  | flashDieFault
  /-- TRIAL_SECONDS_SAVE (R507). Every 60 s of a firmware trial, the running time SECONDS is saved to the boot record. -/
  | trialSecondsSave (k : CompNo)
deriving DecidableEq, Repr

end Sys2Proof
end

