-- ==== Sys2Proof/Decode.lean ====
section
/-!
DEFINITION. The commands that table words spell. No row of spec/opcode_table.json gives bits, so no word spells a command: a
command arrives as a host frame, a register write, a job or an event, and its constructor carries it (log entry 3).
-/

namespace Sys2Proof

/-- The command that a word of `nbits` bits spells by the table's bits: none, since the table gives no row any bits. -/
def decodeTableWord (_nbits _w : Nat) : Option Instr := none

end Sys2Proof
end

