-- ==== Sys2Proof/Machine/Bits.lean ====
section
/-!
DEFINITION. Bit-field, byte-order, checksum and table helpers shared by the whole model: little-endian bytes (R13),
CRC-32C (R96), signed views of words, saturation, and updates of fixed tables.
-/

namespace Sys2Proof.Machine

/-- The bits [lo + w - 1 : lo] of `v`. -/
def bitsOf (v lo w : Nat) : Nat := v / 2 ^ lo % 2 ^ w

/-- Bit `i` of `v`. -/
def bitOf (v i : Nat) : Bool := v / 2 ^ i % 2 == 1

/-- 1 for true, 0 for false. -/
def b2n (b : Bool) : Nat := if b then 1 else 0

/-- `n` bytes of `v`, little-endian (R13). -/
def leBytes : Nat → Nat → Bytes
  | 0, _ => []
  | n + 1, v => BitVec.ofNat 8 v :: leBytes n (v / 256)

/-- The number a little-endian byte string spells (R13). -/
def ofLE : Bytes → Nat
  | [] => 0
  | b :: bs => b.toNat + 256 * ofLE bs

/-- `n` bytes of `v`, big-endian. -/
def beBytes (n v : Nat) : Bytes := (leBytes n v).reverse

/-- The number a big-endian byte string spells. -/
def ofBE (bs : Bytes) : Nat := ofLE bs.reverse

/-- The bytes of a list of words, each little-endian (R13). -/
def wordBytes (ws : List W64) : Bytes := (ws.map (fun w => leBytes 8 w.toNat)).flatten

/-- The words of a byte string, eight bytes each, the last padded with zeros. -/
def bytesWords (bs : Bytes) : List W64 :=
  (List.range ((bs.length + 7) / 8)).map (fun i => w64 (ofLE ((bs.drop (8 * i)).take 8)))

/-- The ASCII bytes of a string. -/
def ascii (s : String) : Bytes := s.toList.map (fun c => BitVec.ofNat 8 c.toNat)

/-- `x` as a signed number of `w` bits. -/
def signed (w x : Nat) : Int := if x % 2 ^ w < 2 ^ (w - 1) then (x % 2 ^ w : Nat) else (x % 2 ^ w : Nat) - (2 ^ w : Nat)

/-- A signed number as a word of `w` bits (two's complement). -/
def unsigned (w : Nat) (x : Int) : Nat := (x % (2 ^ w : Nat)).toNat

/-- `x` limited to the signed range of `w` bits. -/
def clampSigned (w : Nat) (x : Int) : Int := max (-(2 ^ (w - 1) : Nat)) (min ((2 ^ (w - 1) : Nat) - 1) x)

/-- `x` limited to the range `lo` to `hi`. -/
def clampNat (lo hi x : Nat) : Nat := max lo (min hi x)

/-- A count of at most `2^w - 1` that saturates. -/
def satAdd (w x d : Nat) : Nat := min (2 ^ w - 1) (x + d)

/-- `a - b` as a signed number. -/
def diffInt (a b : Nat) : Int := (a : Int) - (b : Int)

/-- One step of the reflected CRC-32C (R96). -/
def crc32cBit (c : Nat) : Nat := if c % 2 = 1 then (c / 2) ^^^ 0x82F63B78 else c / 2

/-- The CRC-32C register after one byte (R96). -/
def crc32cByte (c : Nat) (b : Byte) : Nat :=
  crc32cBit (crc32cBit (crc32cBit (crc32cBit (crc32cBit (crc32cBit (crc32cBit (crc32cBit (c ^^^ b.toNat))))))))

/-- CRC-32C of a byte string: polynomial 0x1EDC_6F41 reflected, initial value and final XOR 0xFFFF_FFFF (R96). -/
def crc32c (bs : Bytes) : Nat := (bs.foldl crc32cByte 0xFFFFFFFF) ^^^ 0xFFFFFFFF

/-- Table `v` with entry `i` changed by `f`. -/
def upd {α : Type} {n : Nat} (v : Vector α n) (i : Fin n) (f : α → α) : Vector α n := v.set i.1 (f (v[i.1]'i.2)) i.2

/-- Table `v` with every entry changed by `f`, which is also given the index. -/
def updAll {α : Type} {n : Nat} (v : Vector α n) (f : Fin n → α → α) : Vector α n := Vector.ofFn (fun i => f i (v[i.1]'i.2))

/-- The indices of a table. -/
def idx (n : Nat) : List (Fin n) := List.finRange n

/-- A list of bits, bit 0 first, as a number. -/
def bitsToNat : List Bool → Nat
  | [] => 0
  | b :: bs => b2n b + 2 * bitsToNat bs

/-- The bit map of the indices of a table that satisfy `q`. -/
def bitmap (n : Nat) (q : Fin n → Bool) : Nat := bitsToNat ((List.finRange n).map q)

/-- Repeat `f` for the members of a list. -/
def forEach {α σ : Type} (l : List α) (s : σ) (f : σ → α → σ) : σ := l.foldl f s

/-- Insert or replace the value at a key of an association list kept with strictly rising keys. -/
def putKey {α : Type} (k : Nat) (v : α) : List (Nat × α) → List (Nat × α)
  | [] => [(k, v)]
  | (k', v') :: l =>
    if k < k' then (k, v) :: (k', v') :: l
    else if k = k' then (k, v) :: l
    else (k', v') :: putKey k v l

/-- Remove a key from an association list. -/
def dropKey {α : Type} (k : Nat) (l : List (Nat × α)) : List (Nat × α) := l.filter (fun p => p.1 != k)

/-- The value at a key. -/
def getKey {α : Type} (k : Nat) (l : List (Nat × α)) : Option α := (l.find? (fun p => p.1 == k)).map (·.2)

end Sys2Proof.Machine
end

