-- ==== Sys2Proof/Machine/Crypto.lean ====
section
/-!
DEFINITION. The cryptographic functions that the spec names by their public standards: SHA-384 and HMAC-SHA-384
(FIPS 180-4, FIPS 198-1), the SP 800-108 counter-mode KDF of R69, AES and its CBC, GMAC and GCM modes (FIPS 197,
SP 800-38A/D), ECDSA on P-384 with the deterministic k of RFC 6979 (FIPS 186-5, R270), and the verification of HSS signatures (RFC 8554, R78).
-/

namespace Sys2Proof.Machine

/-! ### SHA-384 -/

/-- Round constants of SHA-512, part 0. -/
def shaK0 : List W64 :=
  [0x428A2F98D728AE22, 0x7137449123EF65CD, 0xB5C0FBCFEC4D3B2F, 0xE9B5DBA58189DBBC,
   0x3956C25BF348B538, 0x59F111F1B605D019, 0x923F82A4AF194F9B, 0xAB1C5ED5DA6D8118,
   0xD807AA98A3030242, 0x12835B0145706FBE, 0x243185BE4EE4B28C, 0x550C7DC3D5FFB4E2,
   0x72BE5D74F27B896F, 0x80DEB1FE3B1696B1, 0x9BDC06A725C71235, 0xC19BF174CF692694,
   0xE49B69C19EF14AD2, 0xEFBE4786384F25E3, 0x0FC19DC68B8CD5B5, 0x240CA1CC77AC9C65]

/-- Round constants of SHA-512, part 1. -/
def shaK1 : List W64 :=
  [0x2DE92C6F592B0275, 0x4A7484AA6EA6E483, 0x5CB0A9DCBD41FBD4, 0x76F988DA831153B5,
   0x983E5152EE66DFAB, 0xA831C66D2DB43210, 0xB00327C898FB213F, 0xBF597FC7BEEF0EE4,
   0xC6E00BF33DA88FC2, 0xD5A79147930AA725, 0x06CA6351E003826F, 0x142929670A0E6E70,
   0x27B70A8546D22FFC, 0x2E1B21385C26C926, 0x4D2C6DFC5AC42AED, 0x53380D139D95B3DF,
   0x650A73548BAF63DE, 0x766A0ABB3C77B2A8, 0x81C2C92E47EDAEE6, 0x92722C851482353B]

/-- Round constants of SHA-512, part 2. -/
def shaK2 : List W64 :=
  [0xA2BFE8A14CF10364, 0xA81A664BBC423001, 0xC24B8B70D0F89791, 0xC76C51A30654BE30,
   0xD192E819D6EF5218, 0xD69906245565A910, 0xF40E35855771202A, 0x106AA07032BBD1B8,
   0x19A4C116B8D2D0C8, 0x1E376C085141AB53, 0x2748774CDF8EEB99, 0x34B0BCB5E19B48A8,
   0x391C0CB3C5C95A63, 0x4ED8AA4AE3418ACB, 0x5B9CCA4F7763E373, 0x682E6FF3D6B2B8A3,
   0x748F82EE5DEFB2FC, 0x78A5636F43172F60, 0x84C87814A1F0AB72, 0x8CC702081A6439EC]

/-- Round constants of SHA-512, part 3. -/
def shaK3 : List W64 :=
  [0x90BEFFFA23631E28, 0xA4506CEBDE82BDE9, 0xBEF9A3F7B2C67915, 0xC67178F2E372532B,
   0xCA273ECEEA26619C, 0xD186B8C721C0C207, 0xEADA7DD6CDE0EB1E, 0xF57D4F7FEE6ED178,
   0x06F067AA72176FBA, 0x0A637DC5A2C898A6, 0x113F9804BEF90DAE, 0x1B710B35131C471B,
   0x28DB77F523047D84, 0x32CAAB7B40C72493, 0x3C9EBE0A15C9BEBC, 0x431D67C49C100D4C,
   0x4CC5D4BECB3E42B6, 0x597F299CFC657E2A, 0x5FCB6FAB3AD6FAEC, 0x6C44198C4A475817]

/-- The 80 round constants of SHA-512 and SHA-384. -/
def shaK : List W64 := shaK0 ++ shaK1 ++ shaK2 ++ shaK3

/-- The initial hash value of SHA-384. -/
def shaInit : List W64 :=
  [0xCBBB9D5DC1059ED8, 0x629A292A367CD507, 0x9159015A3070DD17, 0x152FECD8F70E5939,
   0x67332667FFC00B31, 0x8EB44A8768581511, 0xDB0C2E0D64F98FA7, 0x47B5481DBEFA4FA4]

/-- The working variables of the SHA-512 compression. -/
structure ShaVars where
  a : W64
  b : W64
  c : W64
  d : W64
  e : W64
  f : W64
  g : W64
  h : W64

/-- One round of the SHA-512 compression with round constant `k` and schedule word `w`. -/
def shaRound (v : ShaVars) (k w : W64) : ShaVars :=
  let s1 := v.e.rotateRight 14 ^^^ v.e.rotateRight 18 ^^^ v.e.rotateRight 41
  let ch := (v.e &&& v.f) ^^^ (~~~v.e &&& v.g)
  let t1 := v.h + s1 + ch + k + w
  let s0 := v.a.rotateRight 28 ^^^ v.a.rotateRight 34 ^^^ v.a.rotateRight 39
  let mj := (v.a &&& v.b) ^^^ (v.a &&& v.c) ^^^ (v.b &&& v.c)
  { a := t1 + (s0 + mj), b := v.a, c := v.b, d := v.c, e := v.d + t1, f := v.e, g := v.f, h := v.g }

/-- The rounds, with the sixteen-word window of the message schedule. -/
def shaRounds : List W64 → List W64 → ShaVars → ShaVars
  | [], _, v => v
  | k :: ks, win, v =>
    let w := win.getD 0 0
    let x15 := win.getD 1 0
    let x2 := win.getD 14 0
    let s0 := x15.rotateRight 1 ^^^ x15.rotateRight 8 ^^^ (x15 >>> 7)
    let s1 := x2.rotateRight 19 ^^^ x2.rotateRight 61 ^^^ (x2 >>> 6)
    shaRounds ks (win.drop 1 ++ [w + s0 + win.getD 9 0 + s1]) (shaRound v k w)

/-- The compression of one 128-byte block, given as sixteen words. -/
def shaBlock (st : List W64) (win : List W64) : List W64 :=
  let g := fun i => st.getD i 0
  let v := shaRounds shaK win ⟨g 0, g 1, g 2, g 3, g 4, g 5, g 6, g 7⟩
  [g 0 + v.a, g 1 + v.b, g 2 + v.c, g 3 + v.d, g 4 + v.e, g 5 + v.f, g 6 + v.g, g 7 + v.h]

/-- The sixteen big-endian words of a block. -/
def shaWords (bs : Bytes) : List W64 := (List.range 16).map (fun i => w64 (ofBE ((bs.drop (8 * i)).take 8)))

/-- The padded message. -/
def shaPad (bs : Bytes) : Bytes :=
  bs ++ [0x80#8] ++ List.replicate ((239 - bs.length % 128) % 128) 0#8 ++ beBytes 16 (8 * bs.length)

/-- The blocks of a padded message, by block count. -/
def shaFold : Nat → Bytes → List W64 → List W64
  | 0, _, st => st
  | n + 1, bs, st => shaFold n (bs.drop 128) (shaBlock st (shaWords (bs.take 128)))

/-- SHA-384 of a byte string: 48 bytes. -/
def sha384 (bs : Bytes) : Bytes :=
  let p := shaPad bs
  (((shaFold (p.length / 128) p shaInit).take 6).map (fun w => beBytes 8 w.toNat)).flatten

/-- HMAC-SHA-384 of `msg` under `key`. -/
def hmac384 (key msg : Bytes) : Bytes :=
  let k0 := if key.length > 128 then sha384 key else key
  let k := k0 ++ List.replicate (128 - k0.length) 0#8
  sha384 (k.map (· ^^^ 0x5C#8) ++ sha384 (k.map (· ^^^ 0x36#8) ++ msg))

/-- R69: `bits` bits of key derived from `parent` with the label and the context. -/
def kdf (parent label context : Bytes) (bits : Nat) : Bytes :=
  let blocks := (bits / 8 + 47) / 48
  (((List.range blocks).map (fun i =>
    hmac384 parent (beBytes 4 (i + 1) ++ label ++ [0#8] ++ context ++ beBytes 4 bits))).flatten).take (bits / 8)

/-! ### AES -/

/-- Multiplication by x in GF(2^8) of AES. -/
def aesX (a : Nat) : Nat := if a < 128 then 2 * a else (2 * a - 256) ^^^ 0x1B

/-- Multiplication in GF(2^8), over the low `n` bits of `b`. -/
def aesMul : Nat → Nat → Nat → Nat
  | 0, _, _ => 0
  | n + 1, a, b => (if b % 2 = 1 then a else 0) ^^^ aesMul n (aesX a) (b / 2)

/-- `a` to the power 2^n - 2 style inverse chain: a^254 in GF(2^8). -/
def aesInv (a : Nat) : Nat :=
  let sq := fun x => aesMul 8 x x
  let a2 := sq a; let a4 := sq a2; let a8 := sq a4; let a16 := sq a8; let a32 := sq a16; let a64 := sq a32
  let a128 := sq a64
  aesMul 8 a2 (aesMul 8 a4 (aesMul 8 a8 (aesMul 8 a16 (aesMul 8 a32 (aesMul 8 a64 a128)))))

/-- The AES S-box. -/
def aesS (b : Byte) : Byte :=
  let i : Byte := BitVec.ofNat 8 (aesInv b.toNat)
  i ^^^ i.rotateLeft 1 ^^^ i.rotateLeft 2 ^^^ i.rotateLeft 3 ^^^ i.rotateLeft 4 ^^^ 0x63#8

/-- XOR of byte strings. -/
def xorBytes (a b : Bytes) : Bytes := List.zipWith (· ^^^ ·) a b

/-- The expanded key as words of four bytes, latest first; `nk` words of key, `n` words still to make. -/
def aesExpand (nk : Nat) : Nat → Nat → Nat → List Bytes → List Bytes
  | 0, _, _, ws => ws
  | n + 1, i, rc, ws =>
    let prev := ws.getD 0 []
    let t := if i % nk = 0 then xorBytes ((prev.drop 1 ++ prev.take 1).map aesS) [BitVec.ofNat 8 rc, 0#8, 0#8, 0#8]
             else if nk > 6 ∧ i % nk = 4 then prev.map aesS else prev
    aesExpand nk n (i + 1) (if i % nk = 0 then aesX rc else rc) (xorBytes (ws.getD (nk - 1) []) t :: ws)

/-- The four-byte words of a byte string. -/
def words4 (bs : Bytes) : List Bytes := (List.range (bs.length / 4)).map (fun i => (bs.drop (4 * i)).take 4)

/-- The round keys of an AES-128 or AES-256 key. -/
def aesKeys (key : Bytes) : List Bytes :=
  let nk := key.length / 4
  let ws := (aesExpand nk (4 * (nk + 7) - nk) nk 1 (words4 key).reverse).reverse
  (List.range (nk + 7)).map (fun r => ((ws.drop (4 * r)).take 4).flatten)

/-- ShiftRows. -/
def aesShift (s : Bytes) : Bytes := (List.range 16).map (fun i => s.getD ((i + 4 * (i % 4)) % 16) 0)

/-- MixColumns on one column. -/
def aesMix (c : Bytes) : Bytes :=
  let g := fun i => (c.getD (i % 4) 0).toNat
  (List.range 4).map (fun i => BitVec.ofNat 8
    (aesX (g i) ^^^ (aesX (g (i + 1)) ^^^ g (i + 1)) ^^^ g (i + 2) ^^^ g (i + 3)))

/-- The rounds after the first key addition. -/
def aesRounds : List Bytes → Bytes → Bytes
  | [], s => s
  | [k], s => xorBytes (aesShift (s.map aesS)) k
  | k :: ks, s => aesRounds ks (xorBytes ((words4 (aesShift (s.map aesS))).map aesMix).flatten k)

/-- AES encryption of one 16-byte block. -/
def aesEnc (key blk : Bytes) : Bytes :=
  match aesKeys key with
  | [] => blk
  | k :: ks => aesRounds ks (xorBytes blk k)

/-- AES-CBC encryption of `n` blocks under an initial vector. -/
def aesCbcEnc (key : Bytes) : Nat → Bytes → Bytes → Bytes
  | 0, _, _ => []
  | n + 1, iv, m => let c := aesEnc key (xorBytes (m.take 16) iv)
    c ++ aesCbcEnc key n c (m.drop 16)

/-- Multiplication in GF(2^128) of GCM, over `n` bits of `x` from the most significant. -/
def ghashMul : Nat → Nat → Nat → Nat → Nat
  | 0, _, _, z => z
  | n + 1, x, v, z =>
    ghashMul n x (if v % 2 = 1 then (v / 2) ^^^ (0xE1 * 2 ^ 120) else v / 2) (if x / 2 ^ n % 2 = 1 then z ^^^ v else z)

/-- GHASH over `n` 16-byte blocks. -/
def ghash (h : Nat) : Nat → Bytes → Nat → Nat
  | 0, _, y => y
  | n + 1, m, y => ghash h n (m.drop 16) (ghashMul 128 (y ^^^ ofBE (m.take 16)) h 0)

/-- A byte string padded with zeros to whole 16-byte blocks. -/
def pad16 (m : Bytes) : Bytes := m ++ List.replicate ((16 - m.length % 16) % 16) 0#8

/-- The AES-GCM tag of a ciphertext and additional data under a 96-bit IV. -/
def gcmTag (key iv aad ct : Bytes) : Bytes :=
  let h := ofBE (aesEnc key (List.replicate 16 0#8))
  let m := pad16 aad ++ pad16 ct ++ beBytes 8 (8 * aad.length) ++ beBytes 8 (8 * ct.length)
  xorBytes (beBytes 16 (ghash h (m.length / 16) m 0)) (aesEnc key (iv ++ beBytes 4 1))

/-- AES-GMAC: the GCM tag of an empty plaintext (R112). -/
def gmac (key iv aad : Bytes) : Bytes := gcmTag key iv aad []

/-- The AES-GCM key stream applied to a byte string from block counter `i`, `n` blocks. -/
def gcmCtr (key iv : Bytes) : Nat → Nat → Bytes → Bytes
  | 0, _, _ => []
  | n + 1, i, m => xorBytes (m.take 16) (aesEnc key (iv ++ beBytes 4 i)) ++ gcmCtr key iv n (i + 1) (m.drop 16)

/-- AES-GCM opening: the plaintext when the tag checks. -/
def gcmOpen (key iv aad ct tag : Bytes) : Option Bytes :=
  if gcmTag key iv aad ct = tag then some (gcmCtr key iv ((ct.length + 15) / 16) 2 ct) else none

/-! ### ECDSA on P-384 -/

/-- The prime of P-384. -/
def p384P : Nat := 2 ^ 384 - 2 ^ 128 - 2 ^ 96 + 2 ^ 32 - 1
/-- The order of P-384. -/
def p384N : Nat := 0xFFFFFFFFFFFFFFFFFFFFFFFFFFFFFFFFFFFFFFFFFFFFFFFFC7634D81F4372DDF581A0DB248B0A77AECEC196ACCC52973
/-- The base point of P-384. -/
def p384G : Option (Nat × Nat) :=
  some (0xAA87CA22BE8B05378EB1C71EF320AD746E1D3B628BA79B9859F741E082542A385502F25DBF55296C3A545E3872760AB7,
        0x3617DE4A96262C6F5D9E98BF9292DC29F8F41DBD289A147CE9DA3113B5F0B8C00A60B1CE1D7E819D7A431D7C90EA0E5F)

/-- `a ^ e mod m` over the low `n` bits of `e`, from the top. -/
def powMod (m a : Nat) : Nat → Nat → Nat
  | 0, _ => 1
  | n + 1, e => let r := powMod m a n (e / 2)
    if e % 2 = 1 then r * r % m * a % m else r * r % m

/-- The inverse of `a` modulo the prime `m`. -/
def invMod (m a : Nat) : Nat := powMod m (a % m) 384 (m - 2)

/-- Point addition on P-384; `none` is the point at infinity. -/
def ecAdd (p q : Option (Nat × Nat)) : Option (Nat × Nat) :=
  match p, q with
  | none, q => q
  | p, none => p
  | some (x1, y1), some (x2, y2) =>
    if x1 = x2 ∧ (y1 + y2) % p384P = 0 then none
    else
      let l := if x1 = x2 then (3 * x1 * x1 + (p384P - 3)) * invMod p384P (2 * y1) % p384P
               else (y2 + (p384P - y1)) * invMod p384P (x2 + (p384P - x1)) % p384P
      let x := (l * l + (p384P - x1) + (p384P - x2)) % p384P
      some (x, (l * (x1 + (p384P - x)) + (p384P - y1)) % p384P)

/-- Scalar multiplication over the low `n` bits of `k`. -/
def ecMul (p : Option (Nat × Nat)) : Nat → Nat → Option (Nat × Nat)
  | 0, _ => none
  | n + 1, k => let r := ecMul p n (k / 2)
    let d := ecAdd r r
    if k % 2 = 1 then ecAdd d p else d

/-- The state of the RFC 6979 generator after its seeding steps. -/
def rfcSeed (d h : Bytes) : Bytes × Bytes :=
  let v0 := List.replicate 48 1#8
  let k0 := List.replicate 48 0#8
  let k1 := hmac384 k0 (v0 ++ [0#8] ++ d ++ h)
  let v1 := hmac384 k1 v0
  let k2 := hmac384 k1 (v1 ++ [1#8] ++ d ++ h)
  (k2, hmac384 k2 v1)

/-- The RFC 6979 nonce, with `n` retries left. -/
def rfcNonce : Nat → Bytes × Bytes → Nat
  | 0, _ => 1
  | n + 1, (k, v) =>
    let v1 := hmac384 k v
    let c := ofBE v1
    if 0 < c ∧ c < p384N then c
    else let k1 := hmac384 k (v1 ++ [0#8]); rfcNonce n (k1, hmac384 k1 v1)

/-- The public key of a P-384 private key. -/
def ecPublic (d : Nat) : Nat × Nat := (ecMul p384G 384 d).getD (0, 0)

/-- The SEC1 uncompressed form of a public key: 0x04, X, Y (R263). -/
def sec1 (q : Nat × Nat) : Bytes := [4#8] ++ beBytes 48 q.1 ++ beBytes 48 q.2

/-- ECDSA P-384 over a 48-byte digest: r followed by s, 48 bytes each, big-endian (R270). -/
def ecdsaSign (key digest : Bytes) : Bytes :=
  let d := ofBE key
  let z := ofBE digest
  let k := rfcNonce 8 (rfcSeed (beBytes 48 d) (beBytes 48 (z % p384N)))
  let r := ((ecMul p384G 384 k).getD (0, 0)).1 % p384N
  let s := invMod p384N k * ((z + r * d) % p384N) % p384N
  beBytes 48 r ++ beBytes 48 s

/-- ECDSA P-384 verification of r followed by s over a digest under the public key `q`. -/
def ecdsaVerify (q : Nat × Nat) (digest sig : Bytes) : Bool :=
  let r := ofBE (sig.take 48)
  let s := ofBE ((sig.drop 48).take 48)
  let w := invMod p384N s
  let u := ecAdd (ecMul p384G 384 (ofBE digest * w % p384N)) (ecMul (some q) 384 (r * w % p384N))
  0 < r && r < p384N && 0 < s && s < p384N && (u.map (fun p => p.1 % p384N)) == some r

/-! ### SHA-256, and HSS of two levels (RFC 8554, SP 800-208; R78, R145) -/

/-- Round constants of SHA-256, first half. -/
def sha256K0 : List (BitVec 32) :=
  [0x428A2F98, 0x71374491, 0xB5C0FBCF, 0xE9B5DBA5, 0x3956C25B, 0x59F111F1, 0x923F82A4, 0xAB1C5ED5,
   0xD807AA98, 0x12835B01, 0x243185BE, 0x550C7DC3, 0x72BE5D74, 0x80DEB1FE, 0x9BDC06A7, 0xC19BF174,
   0xE49B69C1, 0xEFBE4786, 0x0FC19DC6, 0x240CA1CC, 0x2DE92C6F, 0x4A7484AA, 0x5CB0A9DC, 0x76F988DA,
   0x983E5152, 0xA831C66D, 0xB00327C8, 0xBF597FC7, 0xC6E00BF3, 0xD5A79147, 0x06CA6351, 0x14292967]

/-- Round constants of SHA-256, second half. -/
def sha256K1 : List (BitVec 32) :=
  [0x27B70A85, 0x2E1B2138, 0x4D2C6DFC, 0x53380D13, 0x650A7354, 0x766A0ABB, 0x81C2C92E, 0x92722C85,
   0xA2BFE8A1, 0xA81A664B, 0xC24B8B70, 0xC76C51A3, 0xD192E819, 0xD6990624, 0xF40E3585, 0x106AA070,
   0x19A4C116, 0x1E376C08, 0x2748774C, 0x34B0BCB5, 0x391C0CB3, 0x4ED8AA4A, 0x5B9CCA4F, 0x682E6FF3,
   0x748F82EE, 0x78A5636F, 0x84C87814, 0x8CC70208, 0x90BEFFFA, 0xA4506CEB, 0xBEF9A3F7, 0xC67178F2]

/-- The initial hash value of SHA-256. -/
def sha256Init : List (BitVec 32) :=
  [0x6A09E667, 0xBB67AE85, 0x3C6EF372, 0xA54FF53A, 0x510E527F, 0x9B05688C, 0x1F83D9AB, 0x5BE0CD19]

/-- The rounds over the eight working variables a to h, with the sixteen-word window of the message schedule. -/
def sha256Rounds : List (BitVec 32) → List (BitVec 32) → List (BitVec 32) → List (BitVec 32)
  | [], _, v => v
  | k :: ks, win, v =>
    let x := fun i => v.getD i 0
    let y := fun i => win.getD i 0
    let s1 := (x 4).rotateRight 6 ^^^ (x 4).rotateRight 11 ^^^ (x 4).rotateRight 25
    let t1 := x 7 + s1 + ((x 4 &&& x 5) ^^^ (~~~(x 4) &&& x 6)) + k + y 0
    let s0 := (x 0).rotateRight 2 ^^^ (x 0).rotateRight 13 ^^^ (x 0).rotateRight 22
    let t2 := s0 + ((x 0 &&& x 1) ^^^ (x 0 &&& x 2) ^^^ (x 1 &&& x 2))
    let w0 := (y 1).rotateRight 7 ^^^ (y 1).rotateRight 18 ^^^ (y 1 >>> 3)
    let w1 := (y 14).rotateRight 17 ^^^ (y 14).rotateRight 19 ^^^ (y 14 >>> 10)
    sha256Rounds ks (win.drop 1 ++ [y 0 + w0 + y 9 + w1]) [t1 + t2, x 0, x 1, x 2, x 3 + t1, x 4, x 5, x 6]

/-- The compression of `n` 64-byte blocks of a padded message. -/
def sha256Fold : Nat → Bytes → List (BitVec 32) → List (BitVec 32)
  | 0, _, st => st
  | n + 1, bs, st =>
    let win := (List.range 16).map (fun i => BitVec.ofNat 32 (ofBE ((bs.drop (4 * i)).take 4)))
    sha256Fold n (bs.drop 64) (List.zipWith (· + ·) st (sha256Rounds (sha256K0 ++ sha256K1) win st))

/-- SHA-256 of a byte string: 32 bytes. -/
def sha256 (bs : Bytes) : Bytes :=
  let p := bs ++ [0x80#8] ++ List.replicate ((119 - bs.length % 64) % 64) 0#8 ++ beBytes 8 (8 * bs.length)
  ((sha256Fold (p.length / 64) p sha256Init).map (fun w => beBytes 4 w.toNat)).flatten

/-- The chain of a one-time signature from step `j`, `n` steps on; `pre` is the identifier, the leaf and the chain's number. -/
def otsChain (pre : Bytes) : Nat → Nat → Bytes → Bytes
  | 0, _, x => x
  | n + 1, j, x => otsChain pre n (j + 1) (sha256 (pre ++ beBytes 1 j ++ x))

/-- LMOTS_SHA256_N32_W8: the public key that a one-time signature of a message implies. `sig` begins with its type. -/
def otsKey (ident : Bytes) (q : Nat) (msg sig : Bytes) : Bytes :=
  let pre := ident ++ beBytes 4 q
  let d := sha256 (pre ++ [0x81#8, 0x81#8] ++ (sig.drop 4).take 32 ++ msg)
  let digits := d ++ beBytes 2 ((d.map (fun b => 255 - b.toNat)).sum)
  let ends := (List.range 34).map (fun i =>
    let a := (digits.getD i 0).toNat
    otsChain (pre ++ beBytes 2 i) (255 - a) a ((sig.drop (36 + 32 * i)).take 32))
  sha256 (pre ++ [0x80#8, 0x80#8] ++ ends.flatten)

/-- The root that an authentication path gives from node `node`, level by level. -/
def lmsRoot (ident : Bytes) : Nat → Nat → Bytes → Bytes → Bytes
  | 0, _, _, x => x
  | n + 1, node, path, x =>
    let pair := if node % 2 = 1 then path.take 32 ++ x else x ++ path.take 32
    lmsRoot ident n (node / 2) (path.drop 32) (sha256 (ident ++ beBytes 4 (node / 2) ++ [0x83#8, 0x83#8] ++ pair))

/-- LMS_SHA256_M32_H15 with LMOTS_SHA256_N32_W8: a 1,612-byte signature verifies under a 56-byte public key. -/
def lmsVerify (key msg sig : Bytes) : Bool :=
  let ident := (key.drop 8).take 16
  let q := ofBE (sig.take 4)
  let leaf := sha256 (ident ++ beBytes 4 (2 ^ 15 + q) ++ [0x82#8, 0x82#8] ++ otsKey ident q msg ((sig.drop 4).take 1124))
  key.length == 56 && sig.length == 1612 && ofBE (key.take 4) == 7 && ofBE ((key.drop 4).take 4) == 4 && decide (q < 2 ^ 15)
  && ofBE ((sig.drop 4).take 4) == 4 && ofBE ((sig.drop 1128).take 4) == 7
  && lmsRoot ident 15 (2 ^ 15 + q) (sig.drop 1132) leaf == key.drop 24

/-- HSS of two levels: a 3,284-byte signature verifies under a 60-byte public key, L and the LMS public key of the upper tree. The message
is the SHA-384 digest that both signatures of an object sign. -/
def hssVerify (key msg sig : Bytes) : Bool :=
  let lower := (sig.drop 1616).take 56
  ofBE (key.take 4) == 2 && ofBE (sig.take 4) == 1 && lmsVerify (key.drop 4) lower ((sig.drop 4).take 1612)
  && lmsVerify lower msg (sig.drop 1672)

end Sys2Proof.Machine
end

