-- ==== Sys2Proof/Config.lean ====
section
/-!
DEFINITION. What an implementation fixes and the spec does not state: free values, fused identity, and the cryptographic
constructions that the spec names without a layout. Every constant here is opaque: no proof can see its value.
-/

namespace Sys2Proof

/-- Free values: the n-th value the spec leaves open (a random draw, an undefined or unstated result). The argument is
`State.draws`, which rises at every use (log entry 2). -/
opaque Config.free : Nat → Nat

/-- A value the spec does not state, as a function of the operands it depends on (log entry 2): the first argument names
the place, the second lists the operands. -/
opaque Config.freeOf : String → List Int → Nat

/-- The 64-bit device serial, fused (R54, R105). -/
opaque Config.serial : W64

/-- The fused root seed of a life-cycle state (R53): 1 VENDOR, 2 FIELD, 3 RETURNED. -/
opaque Config.root : Nat → Bytes

/-- The fixed label with which slot 1, 2, 4 or 6, and in RETURNED slot 11, is derived from slot 0 at boot (R57, R60, R69). -/
opaque Config.bootLabel : Nat → Bytes

/-- The event number within its block (R525, bits [5:0] of CODE) of an event whose number the spec does not give. -/
opaque Config.eventNumber : Nat → Nat

/-- HSS signing (RFC 8554) with a 48-byte key, at a one-time index, over a digest (R79, R80). -/
opaque Config.hssSign : Bytes → Nat → Bytes → Bytes

/-- Unwrapping of a key blob with the identity private key by ECDH and AES-256-GCM (R59, R70); `none` when it does not
open. The blob's layout is not stated. -/
opaque Config.unwrapBlob : Bytes → Bytes → Option Bytes

/-- The slot that the parameter words of KEY_DERIVE, KEY_IMPORT or KEY_INVALIDATE name as their target (R70), by the job code. The
layout of the parameters is not stated. -/
opaque Config.jobTarget : Nat → List W64 → Nat

/-- The length in bytes of a blob that wraps a key of a kind (R70, R570). The blob's layout is not stated. -/
opaque Config.blobLength : Nat → Nat

/-- Joditu's ECDSA public key for an object kind (R78): 0 return authorisations, 1 firmware, 2 plans. -/
opaque Config.jodituKey : Nat → Nat × Nat

/-- Joditu's LMS public key for an object kind (R78). -/
opaque Config.jodituLms : Nat → Bytes

/-- The identity certificate stored in flash (R79). -/
opaque Config.identityCert : Bytes

/-- The day of notAfter, since 1970, of a DER certificate; `none` when it does not parse (R300, R515). -/
opaque Config.certNotAfter : Bytes → Option Nat

/-- The bytes of the image that a new part holds in slot A of a component (R491; log entry 5). -/
opaque Config.releaseImage : Nat → Bytes

/-- The 96-bit IV under which the Flue store encrypts the record of a counter (R275). The spec does not state it. -/
opaque Config.storeIv : Nat → Bytes

/-- A frame's Green PHY, TLS, EXI or card payload that the spec leaves to an external standard, as bytes. -/
opaque Config.encode : String → List Int → Bytes

end Sys2Proof
end

