-- ==== Sys2Proof/Machine/RegMap.lean ====
section
/-!
DEFINITION. The register map: one `RegSpec` for each register heading of the spec's chapters, with its address, its
index dimensions, its reset value, the polders that may read and write it, and its fields with their access types and
change classes (R3, R5, R6, R9, R83). Field `F.<REGISTER>_<FIELD>`, register `R.<REGISTER>`.
-/

namespace Sys2Proof.Machine

/-- Access types of R6. -/
inductive Acc | ro | rw | wo | w1c | rc | lh | ll
deriving DecidableEq, Repr

/-- Change classes of R9. -/
inductive Cls | l | f | s | x
deriving DecidableEq, Repr

/-- What a register heading grants one polder: nothing, always, only with the metrology seal open (Ws), or only with
the service door open (Wd), as R42's key to the entries says. -/
inductive Grant | never | always | seal | door
deriving DecidableEq, Repr

/-- Headings whose grant depends on more than the polder: the sluice's ends (R51), the job's owner (R118), the slot's
grant (R77), the reading session itself, the counter masks (R518, R522), and the update holder (R497). -/
inductive Special | plain | sluiceEnds | sluiceTo | jobOwner | ownGrants | own | cntMask | maskPolder | holder
deriving DecidableEq, Repr

/-- The access a register heading grants, polder by polder. -/
structure Grants where
  p0 : Grant
  p1 : Grant
  p2 : Grant
  p3 : Grant
  p4 : Grant
  p5 : Grant
  special : Special
deriving DecidableEq, Repr

/-- One row of a register's field table. -/
structure Field where
  name : String
  lo : Nat
  width : Nat
  acc : Acc
  cls : Cls
deriving DecidableEq, Repr

/-- One register heading with its field table. `dims` lists (stride, count) for each index letter, widest stride first. -/
structure RegSpec where
  name : String
  base : Nat
  dims : List (Nat × Nat)
  rst : Nat
  rstAt : List (Nat × Nat)
  rd : Grants
  wr : Grants
  fields : List Field
deriving DecidableEq, Repr

/-! ### Block SYS -/

def F.SYS_SERVICE_LEVEL : Field := ⟨"LEVEL", 0, 4, .ro, .l⟩
def F.SYS_SERVICE_SHADOW_READY : Field := ⟨"SHADOW_READY", 4, 1, .ro, .l⟩
def F.SYS_SERVICE_SPARE_READY : Field := ⟨"SPARE_READY", 5, 1, .ro, .l⟩
def F.SYS_SERVICE_NET_A : Field := ⟨"NET_A", 6, 1, .ro, .l⟩
def F.SYS_SERVICE_NET_B : Field := ⟨"NET_B", 7, 1, .ro, .l⟩
def F.SYS_SERVICE_PLAN : Field := ⟨"PLAN", 8, 1, .ro, .l⟩
def F.SYS_SERVICE_TIME_KNOWN : Field := ⟨"TIME_KNOWN", 9, 1, .ro, .l⟩
def F.SYS_SERVICE_GUARD_TESTED : Field := ⟨"GUARD_TESTED", 10, 1, .ro, .l⟩
def F.SYS_SERVICE_PLL_LOCKED : Field := ⟨"PLL_LOCKED", 11, 1, .ro, .l⟩
def F.SYS_SERVICE_OUTPUT_READY : Field := ⟨"OUTPUT_READY", 16, 6, .ro, .l⟩
def R.SYS_SERVICE : RegSpec where
  name := "SYS_SERVICE"
  base := 0x18
  dims := []
  rst := 0x0
  rstAt := []
  rd := ⟨.always, .always, .always, .always, .always, .always, .plain⟩
  wr := ⟨.never, .never, .never, .never, .never, .never, .plain⟩
  fields := [F.SYS_SERVICE_LEVEL, F.SYS_SERVICE_SHADOW_READY, F.SYS_SERVICE_SPARE_READY, F.SYS_SERVICE_NET_A, F.SYS_SERVICE_NET_B, F.SYS_SERVICE_PLAN, F.SYS_SERVICE_TIME_KNOWN, F.SYS_SERVICE_GUARD_TESTED, F.SYS_SERVICE_PLL_LOCKED, F.SYS_SERVICE_OUTPUT_READY]

def F.SYS_ID_SERIAL : Field := ⟨"SERIAL", 0, 64, .ro, .l⟩
def R.SYS_ID : RegSpec where
  name := "SYS_ID"
  base := 0x0
  dims := []
  rst := 0x0
  rstAt := []
  rd := ⟨.always, .always, .always, .always, .always, .always, .plain⟩
  wr := ⟨.never, .never, .never, .never, .never, .never, .plain⟩
  fields := [F.SYS_ID_SERIAL]

def F.SYS_REV_PART : Field := ⟨"PART", 0, 16, .ro, .l⟩
def F.SYS_REV_SILICON : Field := ⟨"SILICON", 16, 8, .ro, .l⟩
def F.SYS_REV_PACKAGE : Field := ⟨"PACKAGE", 24, 8, .ro, .l⟩
def R.SYS_REV : RegSpec where
  name := "SYS_REV"
  base := 0x8
  dims := []
  rst := 0x1A03750
  rstAt := []
  rd := ⟨.always, .always, .always, .always, .always, .always, .plain⟩
  wr := ⟨.never, .never, .never, .never, .never, .never, .plain⟩
  fields := [F.SYS_REV_PART, F.SYS_REV_SILICON, F.SYS_REV_PACKAGE]

def F.SYS_STATUS_DARK : Field := ⟨"DARK", 0, 1, .w1c, .l⟩
def F.SYS_STATUS_TB_SPLICED : Field := ⟨"TB_SPLICED", 1, 1, .w1c, .l⟩
def F.SYS_STATUS_WARM_SEEN : Field := ⟨"WARM_SEEN", 2, 1, .w1c, .l⟩
def F.SYS_STATUS_RECOVERY : Field := ⟨"RECOVERY", 3, 1, .ro, .l⟩
def F.SYS_STATUS_STRAP : Field := ⟨"STRAP", 4, 2, .ro, .l⟩
def F.SYS_STATUS_LAST_RESET : Field := ⟨"LAST_RESET", 8, 8, .ro, .l⟩
def R.SYS_STATUS : RegSpec where
  name := "SYS_STATUS"
  base := 0x10
  dims := []
  rst := 0x0
  rstAt := []
  rd := ⟨.always, .always, .always, .always, .always, .always, .plain⟩
  wr := ⟨.never, .never, .always, .never, .never, .never, .plain⟩
  fields := [F.SYS_STATUS_DARK, F.SYS_STATUS_TB_SPLICED, F.SYS_STATUS_WARM_SEEN, F.SYS_STATUS_RECOVERY, F.SYS_STATUS_STRAP, F.SYS_STATUS_LAST_RESET]

def F.SYS_RESET_KIND : Field := ⟨"KIND", 0, 2, .wo, .l⟩
def R.SYS_RESET : RegSpec where
  name := "SYS_RESET"
  base := 0x20
  dims := []
  rst := 0x0
  rstAt := []
  rd := ⟨.never, .never, .never, .never, .never, .never, .plain⟩
  wr := ⟨.never, .never, .always, .never, .door, .never, .plain⟩
  fields := [F.SYS_RESET_KIND]

/-- The registers of block SYS. -/
def regsSys : List RegSpec :=
  [R.SYS_SERVICE, R.SYS_ID, R.SYS_REV, R.SYS_STATUS, R.SYS_RESET]

/-! ### Block SES -/

def F.SES_SLUICE_STATn_COUNT : Field := ⟨"COUNT", 0, 4, .ro, .l⟩
def F.SES_SLUICE_STATn_HEAD_WORDS : Field := ⟨"HEAD_WORDS", 16, 8, .ro, .l⟩
def F.SES_SLUICE_STATn_OVERFLOWS : Field := ⟨"OVERFLOWS", 32, 16, .w1c, .l⟩
def R.SES_SLUICE_STATn : RegSpec where
  name := "SES_SLUICE_STATn"
  base := 0x10800
  dims := [(8, 8)]
  rst := 0x0
  rstAt := []
  rd := ⟨.always, .always, .always, .always, .always, .always, .sluiceEnds⟩
  wr := ⟨.always, .always, .always, .always, .always, .always, .sluiceTo⟩
  fields := [F.SES_SLUICE_STATn_COUNT, F.SES_SLUICE_STATn_HEAD_WORDS, F.SES_SLUICE_STATn_OVERFLOWS]

def F.SES_PORTCFGn_ENABLE : Field := ⟨"ENABLE", 0, 1, .rw, .s⟩
def F.SES_PORTCFGn_TA_EXTRA : Field := ⟨"TA_EXTRA", 1, 1, .rw, .l⟩
def F.SES_PORTCFGn_RS485 : Field := ⟨"RS485", 2, 1, .rw, .s⟩
def F.SES_PORTCFGn_SLOW : Field := ⟨"SLOW", 3, 1, .rw, .s⟩
def F.SES_PORTCFGn_DIV_Q4 : Field := ⟨"DIV_Q4", 16, 16, .rw, .s⟩
def F.SES_PORTCFGn_MAC : Field := ⟨"MAC", 32, 32, .rw, .s⟩
def R.SES_PORTCFGn : RegSpec where
  name := "SES_PORTCFGn"
  base := 0x10000
  dims := [(8, 4)]
  rst := 0xC800001
  rstAt := []
  rd := ⟨.always, .always, .always, .always, .always, .never, .plain⟩
  wr := ⟨.never, .never, .always, .never, .door, .never, .plain⟩
  fields := [F.SES_PORTCFGn_ENABLE, F.SES_PORTCFGn_TA_EXTRA, F.SES_PORTCFGn_RS485, F.SES_PORTCFGn_SLOW, F.SES_PORTCFGn_DIV_Q4, F.SES_PORTCFGn_MAC]

def F.SES_PORTSTATn_LINK : Field := ⟨"LINK", 0, 1, .ro, .l⟩
def F.SES_PORTSTATn_PENDING : Field := ⟨"PENDING", 1, 1, .ro, .l⟩
def F.SES_PORTSTATn_OPEN : Field := ⟨"OPEN", 8, 6, .ro, .l⟩
def F.SES_PORTSTATn_OPENING : Field := ⟨"OPENING", 16, 3, .ro, .l⟩
def F.SES_PORTSTATn_DROPPED : Field := ⟨"DROPPED", 32, 16, .ro, .l⟩
def F.SES_PORTSTATn_TAG_FAILS : Field := ⟨"TAG_FAILS", 48, 16, .ro, .l⟩
def R.SES_PORTSTATn : RegSpec where
  name := "SES_PORTSTATn"
  base := 0x10020
  dims := [(8, 4)]
  rst := 0x0
  rstAt := []
  rd := ⟨.always, .always, .always, .always, .always, .never, .plain⟩
  wr := ⟨.never, .never, .never, .never, .never, .never, .plain⟩
  fields := [F.SES_PORTSTATn_LINK, F.SES_PORTSTATn_PENDING, F.SES_PORTSTATn_OPEN, F.SES_PORTSTATn_OPENING, F.SES_PORTSTATn_DROPPED, F.SES_PORTSTATn_TAG_FAILS]

def F.SES_SELF_SID : Field := ⟨"SID", 0, 6, .ro, .l⟩
def F.SES_SELF_PORT : Field := ⟨"PORT", 6, 2, .ro, .l⟩
def F.SES_SELF_POLDER : Field := ⟨"POLDER", 8, 3, .ro, .l⟩
def F.SES_SELF_PASSWORD : Field := ⟨"PASSWORD", 11, 1, .ro, .l⟩
def F.SES_SELF_SEALED : Field := ⟨"SEALED", 12, 1, .ro, .l⟩
def F.SES_SELF_NEXT_SEQ : Field := ⟨"NEXT_SEQ", 16, 16, .ro, .l⟩
def F.SES_SELF_IDLE_LEFT : Field := ⟨"IDLE_LEFT", 32, 12, .ro, .l⟩
def F.SES_SELF_TOKENS : Field := ⟨"TOKENS", 44, 12, .ro, .l⟩
def F.SES_SELF_KEY_SLOT : Field := ⟨"KEY_SLOT", 56, 8, .ro, .l⟩
def R.SES_SELF : RegSpec where
  name := "SES_SELF"
  base := 0x10040
  dims := []
  rst := 0x0
  rstAt := []
  rd := ⟨.never, .always, .always, .always, .always, .always, .own⟩
  wr := ⟨.never, .never, .never, .never, .never, .never, .plain⟩
  fields := [F.SES_SELF_SID, F.SES_SELF_PORT, F.SES_SELF_POLDER, F.SES_SELF_PASSWORD, F.SES_SELF_SEALED, F.SES_SELF_NEXT_SEQ, F.SES_SELF_IDLE_LEFT, F.SES_SELF_TOKENS, F.SES_SELF_KEY_SLOT]

def F.SES_USAGE_HOST : Field := ⟨"HOST", 0, 6, .ro, .l⟩
def F.SES_USAGE_VEHICLE : Field := ⟨"VEHICLE", 8, 3, .ro, .l⟩
def F.SES_USAGE_CARD : Field := ⟨"CARD", 16, 3, .ro, .l⟩
def F.SES_USAGE_MESH : Field := ⟨"MESH", 24, 5, .ro, .l⟩
def R.SES_USAGE : RegSpec where
  name := "SES_USAGE"
  base := 0x10048
  dims := []
  rst := 0x0
  rstAt := []
  rd := ⟨.always, .always, .always, .always, .always, .always, .plain⟩
  wr := ⟨.never, .never, .never, .never, .never, .never, .plain⟩
  fields := [F.SES_USAGE_HOST, F.SES_USAGE_VEHICLE, F.SES_USAGE_CARD, F.SES_USAGE_MESH]

def F.SES_DAMPER_P3_RATE : Field := ⟨"P3_RATE", 0, 16, .rw, .l⟩
def F.SES_DAMPER_P3_BURST : Field := ⟨"P3_BURST", 16, 16, .rw, .l⟩
def F.SES_DAMPER_P5_RATE : Field := ⟨"P5_RATE", 32, 16, .rw, .l⟩
def F.SES_DAMPER_P5_BURST : Field := ⟨"P5_BURST", 48, 16, .rw, .l⟩
def R.SES_DAMPER : RegSpec where
  name := "SES_DAMPER"
  base := 0x10050
  dims := []
  rst := 0x1003E8002000C8
  rstAt := []
  rd := ⟨.always, .always, .always, .always, .always, .never, .plain⟩
  wr := ⟨.never, .never, .always, .never, .never, .never, .plain⟩
  fields := [F.SES_DAMPER_P3_RATE, F.SES_DAMPER_P3_BURST, F.SES_DAMPER_P5_RATE, F.SES_DAMPER_P5_BURST]

def F.SES_DARK_COUNT : Field := ⟨"COUNT", 0, 32, .ro, .l⟩
def F.SES_DARK_LAST_BLOCK : Field := ⟨"LAST_BLOCK", 32, 8, .ro, .l⟩
def R.SES_DARK : RegSpec where
  name := "SES_DARK"
  base := 0x10058
  dims := []
  rst := 0x0
  rstAt := []
  rd := ⟨.always, .always, .always, .always, .always, .never, .plain⟩
  wr := ⟨.never, .never, .never, .never, .never, .never, .plain⟩
  fields := [F.SES_DARK_COUNT, F.SES_DARK_LAST_BLOCK]

/-- The registers of block SES. -/
def regsSes : List RegSpec :=
  [R.SES_SLUICE_STATn, R.SES_PORTCFGn, R.SES_PORTSTATn, R.SES_SELF, R.SES_USAGE, R.SES_DAMPER,
   R.SES_DARK]

/-! ### Block KEY -/

def F.KEY_LIFECYCLE_STATE : Field := ⟨"STATE", 0, 3, .ro, .l⟩
def F.KEY_LIFECYCLE_IN_TRANSIT : Field := ⟨"IN_TRANSIT", 3, 1, .ro, .l⟩
def F.KEY_LIFECYCLE_ROOT_PRESENT : Field := ⟨"ROOT_PRESENT", 4, 1, .ro, .l⟩
def F.KEY_LIFECYCLE_TRANSITIONS : Field := ⟨"TRANSITIONS", 8, 8, .ro, .l⟩
def R.KEY_LIFECYCLE : RegSpec where
  name := "KEY_LIFECYCLE"
  base := 0x30000
  dims := []
  rst := 0x0
  rstAt := []
  rd := ⟨.always, .always, .always, .always, .always, .always, .plain⟩
  wr := ⟨.never, .never, .never, .never, .never, .never, .plain⟩
  fields := [F.KEY_LIFECYCLE_STATE, F.KEY_LIFECYCLE_IN_TRANSIT, F.KEY_LIFECYCLE_ROOT_PRESENT, F.KEY_LIFECYCLE_TRANSITIONS]

def F.KEY_SLOT_SEL_SLOT : Field := ⟨"SLOT", 0, 8, .rw, .l⟩
def R.KEY_SLOT_SEL : RegSpec where
  name := "KEY_SLOT_SEL"
  base := 0x30008
  dims := []
  rst := 0x0
  rstAt := []
  rd := ⟨.never, .always, .always, .always, .always, .never, .plain⟩
  wr := ⟨.never, .always, .always, .always, .always, .never, .plain⟩
  fields := [F.KEY_SLOT_SEL_SLOT]

def F.KEY_SLOT_ATTR_STATE : Field := ⟨"STATE", 0, 3, .ro, .l⟩
def F.KEY_SLOT_ATTR_ENGINES : Field := ⟨"ENGINES", 8, 10, .ro, .l⟩
def F.KEY_SLOT_ATTR_GRANT : Field := ⟨"GRANT", 20, 3, .ro, .l⟩
def F.KEY_SLOT_ATTR_KIND : Field := ⟨"KIND", 24, 8, .ro, .l⟩
def F.KEY_SLOT_ATTR_LEGACY_POLDERS : Field := ⟨"LEGACY.POLDERS", 32, 6, .ro, .l⟩
def F.KEY_SLOT_ATTR_LEGACY_WORLD : Field := ⟨"LEGACY.WORLD", 38, 2, .ro, .l⟩
def F.KEY_SLOT_ATTR_LEGACY_LIFECYCLE : Field := ⟨"LEGACY.LIFECYCLE", 40, 5, .ro, .l⟩
def F.KEY_SLOT_ATTR_LEGACY_SPARE : Field := ⟨"LEGACY.SPARE", 45, 3, .ro, .l⟩
def F.KEY_SLOT_ATTR_PARENT : Field := ⟨"PARENT", 48, 8, .ro, .l⟩
def F.KEY_SLOT_ATTR_HAS_PARENT : Field := ⟨"HAS_PARENT", 56, 1, .ro, .l⟩
def R.KEY_SLOT_ATTR : RegSpec where
  name := "KEY_SLOT_ATTR"
  base := 0x30010
  dims := []
  rst := 0x0
  rstAt := []
  rd := ⟨.never, .always, .always, .always, .always, .never, .ownGrants⟩
  wr := ⟨.never, .never, .never, .never, .never, .never, .plain⟩
  fields := [F.KEY_SLOT_ATTR_STATE, F.KEY_SLOT_ATTR_ENGINES, F.KEY_SLOT_ATTR_GRANT, F.KEY_SLOT_ATTR_KIND, F.KEY_SLOT_ATTR_LEGACY_POLDERS, F.KEY_SLOT_ATTR_LEGACY_WORLD, F.KEY_SLOT_ATTR_LEGACY_LIFECYCLE, F.KEY_SLOT_ATTR_LEGACY_SPARE, F.KEY_SLOT_ATTR_PARENT, F.KEY_SLOT_ATTR_HAS_PARENT]

def F.KEY_SLOT_LINEAGE_GEN : Field := ⟨"GEN", 0, 32, .ro, .l⟩
def F.KEY_SLOT_LINEAGE_PARENT_GEN : Field := ⟨"PARENT_GEN", 32, 32, .ro, .l⟩
def R.KEY_SLOT_LINEAGE : RegSpec where
  name := "KEY_SLOT_LINEAGE"
  base := 0x30018
  dims := []
  rst := 0x0
  rstAt := []
  rd := ⟨.never, .always, .always, .always, .always, .never, .ownGrants⟩
  wr := ⟨.never, .never, .never, .never, .never, .never, .plain⟩
  fields := [F.KEY_SLOT_LINEAGE_GEN, F.KEY_SLOT_LINEAGE_PARENT_GEN]

def F.KEY_SLOT_USE_LIMIT : Field := ⟨"LIMIT", 0, 32, .ro, .l⟩
def F.KEY_SLOT_USE_COUNT : Field := ⟨"COUNT", 32, 32, .ro, .l⟩
def R.KEY_SLOT_USE : RegSpec where
  name := "KEY_SLOT_USE"
  base := 0x30020
  dims := []
  rst := 0x0
  rstAt := []
  rd := ⟨.never, .always, .always, .always, .always, .never, .ownGrants⟩
  wr := ⟨.never, .never, .never, .never, .never, .never, .plain⟩
  fields := [F.KEY_SLOT_USE_LIMIT, F.KEY_SLOT_USE_COUNT]

def F.KEY_SLOT_EXPIRY_EXPIRY_TB : Field := ⟨"EXPIRY_TB", 0, 64, .ro, .l⟩
def R.KEY_SLOT_EXPIRY : RegSpec where
  name := "KEY_SLOT_EXPIRY"
  base := 0x30028
  dims := []
  rst := 0x0
  rstAt := []
  rd := ⟨.never, .always, .always, .always, .always, .never, .ownGrants⟩
  wr := ⟨.never, .never, .never, .never, .never, .never, .plain⟩
  fields := [F.KEY_SLOT_EXPIRY_EXPIRY_TB]

def F.KEY_REFUSAL_COUNT : Field := ⟨"COUNT", 0, 32, .ro, .l⟩
def F.KEY_REFUSAL_LAST_STATUS : Field := ⟨"LAST_STATUS", 32, 8, .ro, .l⟩
def F.KEY_REFUSAL_LAST_SLOT : Field := ⟨"LAST_SLOT", 40, 8, .ro, .l⟩
def F.KEY_REFUSAL_LAST_ENGINE : Field := ⟨"LAST_ENGINE", 48, 4, .ro, .l⟩
def F.KEY_REFUSAL_LAST_POLDER : Field := ⟨"LAST_POLDER", 52, 3, .ro, .l⟩
def R.KEY_REFUSAL : RegSpec where
  name := "KEY_REFUSAL"
  base := 0x30030
  dims := []
  rst := 0x0
  rstAt := []
  rd := ⟨.always, .always, .always, .never, .always, .never, .plain⟩
  wr := ⟨.never, .never, .never, .never, .never, .never, .plain⟩
  fields := [F.KEY_REFUSAL_COUNT, F.KEY_REFUSAL_LAST_STATUS, F.KEY_REFUSAL_LAST_SLOT, F.KEY_REFUSAL_LAST_ENGINE, F.KEY_REFUSAL_LAST_POLDER]

def F.KEY_HSS_REMAIN : Field := ⟨"REMAIN", 0, 32, .ro, .l⟩
def F.KEY_HSS_LOWER_LEFT : Field := ⟨"LOWER_LEFT", 32, 16, .ro, .l⟩
def F.KEY_HSS_NEXT_READY : Field := ⟨"NEXT_READY", 48, 1, .ro, .l⟩
def F.KEY_HSS_EXHAUSTED : Field := ⟨"EXHAUSTED", 49, 1, .ro, .l⟩
def R.KEY_HSS : RegSpec where
  name := "KEY_HSS"
  base := 0x30038
  dims := []
  rst := 0x0
  rstAt := []
  rd := ⟨.always, .always, .always, .always, .always, .always, .plain⟩
  wr := ⟨.never, .never, .never, .never, .never, .never, .plain⟩
  fields := [F.KEY_HSS_REMAIN, F.KEY_HSS_LOWER_LEFT, F.KEY_HSS_NEXT_READY, F.KEY_HSS_EXHAUSTED]

/-- The registers of block KEY. -/
def regsKey : List RegSpec :=
  [R.KEY_LIFECYCLE, R.KEY_SLOT_SEL, R.KEY_SLOT_ATTR, R.KEY_SLOT_LINEAGE, R.KEY_SLOT_USE, R.KEY_SLOT_EXPIRY,
   R.KEY_REFUSAL, R.KEY_HSS]

/-! ### Block JOB -/

def F.JOB_STATUSn_STATE : Field := ⟨"STATE", 0, 4, .ro, .l⟩
def F.JOB_STATUSn_ERROR : Field := ⟨"ERROR", 8, 8, .ro, .l⟩
def F.JOB_STATUSn_PROGRESS : Field := ⟨"PROGRESS", 16, 16, .ro, .l⟩
def F.JOB_STATUSn_PARTIALS : Field := ⟨"PARTIALS", 32, 16, .ro, .l⟩
def F.JOB_STATUSn_JOB_ID : Field := ⟨"JOB_ID", 48, 16, .ro, .l⟩
def R.JOB_STATUSn : RegSpec where
  name := "JOB_STATUSn"
  base := 0x20000
  dims := [(8, 16)]
  rst := 0x0
  rstAt := []
  rd := ⟨.never, .always, .always, .always, .always, .always, .jobOwner⟩
  wr := ⟨.never, .never, .never, .never, .never, .never, .plain⟩
  fields := [F.JOB_STATUSn_STATE, F.JOB_STATUSn_ERROR, F.JOB_STATUSn_PROGRESS, F.JOB_STATUSn_PARTIALS, F.JOB_STATUSn_JOB_ID]

def F.JOB_CTRLn_CANCEL : Field := ⟨"CANCEL", 0, 1, .wo, .l⟩
def F.JOB_CTRLn_RELEASE : Field := ⟨"RELEASE", 1, 1, .wo, .l⟩
def R.JOB_CTRLn : RegSpec where
  name := "JOB_CTRLn"
  base := 0x20080
  dims := [(8, 16)]
  rst := 0x0
  rstAt := []
  rd := ⟨.never, .never, .never, .never, .never, .never, .plain⟩
  wr := ⟨.never, .always, .always, .always, .always, .always, .jobOwner⟩
  fields := [F.JOB_CTRLn_CANCEL, F.JOB_CTRLn_RELEASE]

def F.JOB_INFOn_RESULT_WORDS : Field := ⟨"RESULT_WORDS", 0, 32, .ro, .l⟩
def F.JOB_INFOn_CODE : Field := ⟨"CODE", 32, 8, .ro, .l⟩
def F.JOB_INFOn_POLDER : Field := ⟨"POLDER", 40, 3, .ro, .l⟩
def F.JOB_INFOn_CANCELLABLE : Field := ⟨"CANCELLABLE", 43, 1, .ro, .l⟩
def R.JOB_INFOn : RegSpec where
  name := "JOB_INFOn"
  base := 0x20100
  dims := [(8, 16)]
  rst := 0x0
  rstAt := []
  rd := ⟨.never, .always, .always, .always, .always, .always, .jobOwner⟩
  wr := ⟨.never, .never, .never, .never, .never, .never, .plain⟩
  fields := [F.JOB_INFOn_RESULT_WORDS, F.JOB_INFOn_CODE, F.JOB_INFOn_POLDER, F.JOB_INFOn_CANCELLABLE]

/-- The registers of block JOB. -/
def regsJob : List RegSpec :=
  [R.JOB_STATUSn, R.JOB_CTRLn, R.JOB_INFOn]

/-! ### Block GRT -/

def F.GRT_STATUS_RUN : Field := ⟨"RUN", 0, 1, .ro, .l⟩
def F.GRT_STATUS_SETTLED : Field := ⟨"SETTLED", 1, 1, .ro, .l⟩
def F.GRT_STATUS_LOAD_ERR : Field := ⟨"LOAD_ERR", 4, 4, .ro, .l⟩
def R.GRT_STATUS : RegSpec where
  name := "GRT_STATUS"
  base := 0x40000
  dims := []
  rst := 0x0
  rstAt := []
  rd := ⟨.always, .always, .always, .never, .always, .never, .plain⟩
  wr := ⟨.never, .never, .never, .never, .never, .never, .plain⟩
  fields := [F.GRT_STATUS_RUN, F.GRT_STATUS_SETTLED, F.GRT_STATUS_LOAD_ERR]

def F.GRT_FRAME_FRAMES : Field := ⟨"FRAMES", 0, 32, .ro, .l⟩
def R.GRT_FRAME : RegSpec where
  name := "GRT_FRAME"
  base := 0x40008
  dims := []
  rst := 0x0
  rstAt := []
  rd := ⟨.always, .always, .always, .never, .always, .never, .plain⟩
  wr := ⟨.never, .never, .never, .never, .never, .never, .plain⟩
  fields := [F.GRT_FRAME_FRAMES]

def F.GRT_PLAN_ID_PLAN_ID : Field := ⟨"PLAN_ID", 0, 64, .ro, .l⟩
def R.GRT_PLAN_ID : RegSpec where
  name := "GRT_PLAN_ID"
  base := 0x40010
  dims := []
  rst := 0x0
  rstAt := []
  rd := ⟨.always, .always, .always, .always, .always, .always, .plain⟩
  wr := ⟨.never, .never, .never, .never, .never, .never, .plain⟩
  fields := [F.GRT_PLAN_ID_PLAN_ID]

def F.GRT_PLAN_INFO_VERSION : Field := ⟨"VERSION", 0, 32, .ro, .l⟩
def F.GRT_PLAN_INFO_GRATE_LEVEL : Field := ⟨"GRATE_LEVEL", 32, 16, .ro, .l⟩
def F.GRT_PLAN_INFO_SECTIONS : Field := ⟨"SECTIONS", 48, 8, .ro, .l⟩
def F.GRT_PLAN_INFO_SEALED : Field := ⟨"SEALED", 56, 8, .ro, .l⟩
def R.GRT_PLAN_INFO : RegSpec where
  name := "GRT_PLAN_INFO"
  base := 0x40018
  dims := []
  rst := 0x0
  rstAt := []
  rd := ⟨.always, .always, .always, .never, .always, .never, .plain⟩
  wr := ⟨.never, .never, .never, .never, .never, .never, .plain⟩
  fields := [F.GRT_PLAN_INFO_VERSION, F.GRT_PLAN_INFO_GRATE_LEVEL, F.GRT_PLAN_INFO_SECTIONS, F.GRT_PLAN_INFO_SEALED]

def F.GRT_MDIGESTk_DIGEST : Field := ⟨"DIGEST", 0, 64, .ro, .l⟩
def R.GRT_MDIGESTk : RegSpec where
  name := "GRT_MDIGESTk"
  base := 0x40020
  dims := [(8, 6)]
  rst := 0x0
  rstAt := []
  rd := ⟨.always, .always, .always, .never, .always, .never, .plain⟩
  wr := ⟨.never, .never, .never, .never, .never, .never, .plain⟩
  fields := [F.GRT_MDIGESTk_DIGEST]

def F.GRT_SHADOW_STATE : Field := ⟨"STATE", 0, 3, .ro, .l⟩
def F.GRT_SHADOW_SEALED_DIFF : Field := ⟨"SEALED_DIFF", 3, 1, .ro, .l⟩
def F.GRT_SHADOW_TRIP_DIFF : Field := ⟨"TRIP_DIFF", 4, 1, .ro, .l⟩
def F.GRT_SHADOW_LIVE_OK : Field := ⟨"LIVE_OK", 5, 1, .ro, .l⟩
def F.GRT_SHADOW_REFUSE : Field := ⟨"REFUSE", 8, 4, .ro, .l⟩
def F.GRT_SHADOW_WAIT_LEFT : Field := ⟨"WAIT_LEFT", 32, 16, .ro, .l⟩
def R.GRT_SHADOW : RegSpec where
  name := "GRT_SHADOW"
  base := 0x40050
  dims := []
  rst := 0x0
  rstAt := []
  rd := ⟨.always, .always, .always, .never, .always, .never, .plain⟩
  wr := ⟨.never, .never, .never, .never, .never, .never, .plain⟩
  fields := [F.GRT_SHADOW_STATE, F.GRT_SHADOW_SEALED_DIFF, F.GRT_SHADOW_TRIP_DIFF, F.GRT_SHADOW_LIVE_OK, F.GRT_SHADOW_REFUSE, F.GRT_SHADOW_WAIT_LEFT]

def F.GRT_SHADOW_ID_PLAN_ID : Field := ⟨"PLAN_ID", 0, 64, .ro, .l⟩
def R.GRT_SHADOW_ID : RegSpec where
  name := "GRT_SHADOW_ID"
  base := 0x40058
  dims := []
  rst := 0x0
  rstAt := []
  rd := ⟨.always, .always, .always, .never, .always, .never, .plain⟩
  wr := ⟨.never, .never, .never, .never, .never, .never, .plain⟩
  fields := [F.GRT_SHADOW_ID_PLAN_ID]

def F.GRT_SWAP_ARM : Field := ⟨"ARM", 0, 1, .wo, .l⟩
def F.GRT_SWAP_ABANDON : Field := ⟨"ABANDON", 1, 1, .wo, .l⟩
def F.GRT_SWAP_WAIT : Field := ⟨"WAIT", 16, 12, .wo, .l⟩
def R.GRT_SWAP : RegSpec where
  name := "GRT_SWAP"
  base := 0x40060
  dims := []
  rst := 0x0
  rstAt := []
  rd := ⟨.never, .never, .never, .never, .never, .never, .plain⟩
  wr := ⟨.never, .seal, .always, .never, .door, .never, .plain⟩
  fields := [F.GRT_SWAP_ARM, F.GRT_SWAP_ABANDON, F.GRT_SWAP_WAIT]

def F.GRT_USE_IC : Field := ⟨"IC", 0, 8, .ro, .l⟩
def F.GRT_USE_FL : Field := ⟨"FL", 8, 8, .ro, .l⟩
def F.GRT_USE_MA : Field := ⟨"MA", 16, 8, .ro, .l⟩
def F.GRT_USE_TC : Field := ⟨"TC", 24, 8, .ro, .l⟩
def F.GRT_USE_IN : Field := ⟨"IN", 32, 8, .ro, .l⟩
def F.GRT_USE_SQ : Field := ⟨"SQ", 40, 8, .ro, .l⟩
def F.GRT_USE_LEVELS : Field := ⟨"LEVELS", 48, 8, .ro, .l⟩
def F.GRT_USE_GROUPS : Field := ⟨"GROUPS", 56, 8, .ro, .l⟩
def R.GRT_USE : RegSpec where
  name := "GRT_USE"
  base := 0x40068
  dims := []
  rst := 0x0
  rstAt := []
  rd := ⟨.always, .always, .always, .never, .always, .never, .plain⟩
  wr := ⟨.never, .never, .never, .never, .never, .never, .plain⟩
  fields := [F.GRT_USE_IC, F.GRT_USE_FL, F.GRT_USE_MA, F.GRT_USE_TC, F.GRT_USE_IN, F.GRT_USE_SQ, F.GRT_USE_LEVELS, F.GRT_USE_GROUPS]

def F.GRT_TRIP_LIVE : Field := ⟨"LIVE", 0, 16, .ro, .l⟩
def F.GRT_TRIP_SEEN : Field := ⟨"SEEN", 16, 16, .lh, .l⟩
def F.GRT_TRIP_BOUND : Field := ⟨"BOUND", 32, 16, .ro, .l⟩
def R.GRT_TRIP : RegSpec where
  name := "GRT_TRIP"
  base := 0x40070
  dims := []
  rst := 0x0
  rstAt := []
  rd := ⟨.always, .always, .always, .never, .always, .never, .plain⟩
  wr := ⟨.never, .never, .never, .never, .never, .never, .plain⟩
  fields := [F.GRT_TRIP_LIVE, F.GRT_TRIP_SEEN, F.GRT_TRIP_BOUND]

def F.GRT_IC_VALID_IC : Field := ⟨"IC", 0, 48, .ll, .l⟩
def F.GRT_IC_VALID_FG : Field := ⟨"FG", 48, 8, .ll, .l⟩
def R.GRT_IC_VALID : RegSpec where
  name := "GRT_IC_VALID"
  base := 0x40078
  dims := []
  rst := 0x0
  rstAt := []
  rd := ⟨.always, .always, .always, .never, .always, .never, .plain⟩
  wr := ⟨.never, .never, .never, .never, .never, .never, .plain⟩
  fields := [F.GRT_IC_VALID_IC, F.GRT_IC_VALID_FG]

def F.GRT_PROBE_SEL_SOURCE : Field := ⟨"SOURCE", 0, 9, .rw, .l⟩
def R.GRT_PROBE_SEL : RegSpec where
  name := "GRT_PROBE_SEL"
  base := 0x40080
  dims := []
  rst := 0x1FF
  rstAt := []
  rd := ⟨.never, .always, .always, .never, .always, .never, .plain⟩
  wr := ⟨.never, .always, .always, .never, .always, .never, .plain⟩
  fields := [F.GRT_PROBE_SEL_SOURCE]

def F.GRT_PROBE_VALUE : Field := ⟨"VALUE", 0, 64, .ro, .l⟩
def R.GRT_PROBE : RegSpec where
  name := "GRT_PROBE"
  base := 0x40088
  dims := []
  rst := 0x0
  rstAt := []
  rd := ⟨.never, .always, .always, .never, .always, .never, .plain⟩
  wr := ⟨.never, .never, .never, .never, .never, .never, .plain⟩
  fields := [F.GRT_PROBE_VALUE]

def F.GRT_PROBE_FLAGS_VALID : Field := ⟨"VALID", 0, 1, .ro, .l⟩
def F.GRT_PROBE_FLAGS_SATURATED : Field := ⟨"SATURATED", 1, 1, .lh, .l⟩
def R.GRT_PROBE_FLAGS : RegSpec where
  name := "GRT_PROBE_FLAGS"
  base := 0x40090
  dims := []
  rst := 0x0
  rstAt := []
  rd := ⟨.never, .always, .always, .never, .always, .never, .plain⟩
  wr := ⟨.never, .never, .never, .never, .never, .never, .plain⟩
  fields := [F.GRT_PROBE_FLAGS_VALID, F.GRT_PROBE_FLAGS_SATURATED]

def F.GRT_VOTEn_STATE : Field := ⟨"STATE", 0, 2, .ro, .l⟩
def F.GRT_VOTEn_DISAGREE : Field := ⟨"DISAGREE", 2, 1, .lh, .l⟩
def F.GRT_VOTEn_PERSISTENT : Field := ⟨"PERSISTENT", 3, 1, .ro, .l⟩
def F.GRT_VOTEn_MEMBERS_VALID : Field := ⟨"MEMBERS_VALID", 4, 3, .ro, .l⟩
def F.GRT_VOTEn_SET_ASIDE : Field := ⟨"SET_ASIDE", 7, 3, .ro, .l⟩
def F.GRT_VOTEn_DISAGREE_FRAMES : Field := ⟨"DISAGREE_FRAMES", 32, 32, .ro, .l⟩
def R.GRT_VOTEn : RegSpec where
  name := "GRT_VOTEn"
  base := 0x40100
  dims := [(8, 32)]
  rst := 0x0
  rstAt := []
  rd := ⟨.always, .always, .always, .never, .always, .never, .plain⟩
  wr := ⟨.never, .never, .never, .never, .never, .never, .plain⟩
  fields := [F.GRT_VOTEn_STATE, F.GRT_VOTEn_DISAGREE, F.GRT_VOTEn_PERSISTENT, F.GRT_VOTEn_MEMBERS_VALID, F.GRT_VOTEn_SET_ASIDE, F.GRT_VOTEn_DISAGREE_FRAMES]

/-- The registers of block GRT. -/
def regsGrt : List RegSpec :=
  [R.GRT_STATUS, R.GRT_FRAME, R.GRT_PLAN_ID, R.GRT_PLAN_INFO, R.GRT_MDIGESTk, R.GRT_SHADOW,
   R.GRT_SHADOW_ID, R.GRT_SWAP, R.GRT_USE, R.GRT_TRIP, R.GRT_IC_VALID, R.GRT_PROBE_SEL,
   R.GRT_PROBE, R.GRT_PROBE_FLAGS, R.GRT_VOTEn]

/-! ### Block MET -/

def F.MET_STATUS_PENDING : Field := ⟨"PENDING", 0, 1, .ro, .l⟩
def F.MET_STATUS_TRACKING : Field := ⟨"TRACKING", 1, 1, .ro, .l⟩
def F.MET_STATUS_CAL_WRITTEN : Field := ⟨"CAL_WRITTEN", 8, 7, .ro, .l⟩
def R.MET_STATUS : RegSpec where
  name := "MET_STATUS"
  base := 0x50000
  dims := []
  rst := 0x0
  rstAt := []
  rd := ⟨.always, .always, .always, .never, .always, .never, .plain⟩
  wr := ⟨.never, .never, .never, .never, .never, .never, .plain⟩
  fields := [F.MET_STATUS_PENDING, F.MET_STATUS_TRACKING, F.MET_STATUS_CAL_WRITTEN]

def F.MET_MCLK_CFG_FORCE : Field := ⟨"FORCE", 0, 4, .rw, .s⟩
def F.MET_MCLK_CFG_DRIVE : Field := ⟨"DRIVE", 8, 2, .rw, .s⟩
def R.MET_MCLK_CFG : RegSpec where
  name := "MET_MCLK_CFG"
  base := 0x50008
  dims := []
  rst := 0x100
  rstAt := []
  rd := ⟨.always, .always, .always, .never, .always, .never, .plain⟩
  wr := ⟨.never, .seal, .never, .never, .never, .never, .plain⟩
  fields := [F.MET_MCLK_CFG_FORCE, F.MET_MCLK_CFG_DRIVE]

def F.MET_MCLK_STAT_RUNNING : Field := ⟨"RUNNING", 0, 4, .ro, .l⟩
def F.MET_MCLK_STAT_PAD_FAULT : Field := ⟨"PAD_FAULT", 4, 4, .lh, .l⟩
def R.MET_MCLK_STAT : RegSpec where
  name := "MET_MCLK_STAT"
  base := 0x50010
  dims := []
  rst := 0x0
  rstAt := []
  rd := ⟨.always, .always, .always, .never, .always, .never, .plain⟩
  wr := ⟨.never, .never, .never, .never, .never, .never, .plain⟩
  fields := [F.MET_MCLK_STAT_RUNNING, F.MET_MCLK_STAT_PAD_FAULT]

def F.MET_CHSTATn_VALID : Field := ⟨"VALID", 0, 1, .ro, .l⟩
def F.MET_CHSTATn_NOTRANS : Field := ⟨"NOTRANS", 1, 1, .lh, .l⟩
def F.MET_CHSTATn_OVERRANGE : Field := ⟨"OVERRANGE", 2, 1, .lh, .l⟩
def F.MET_CHSTATn_HIGHSIDE : Field := ⟨"HIGHSIDE", 3, 1, .lh, .l⟩
def F.MET_CHSTATn_ONES : Field := ⟨"ONES", 8, 8, .ro, .l⟩
def F.MET_CHSTATn_LOSSES : Field := ⟨"LOSSES", 32, 16, .ro, .l⟩
def F.MET_CHSTATn_LONG_LOSSES : Field := ⟨"LONG_LOSSES", 48, 16, .ro, .l⟩
def R.MET_CHSTATn : RegSpec where
  name := "MET_CHSTATn"
  base := 0x50100
  dims := [(8, 48)]
  rst := 0x0
  rstAt := []
  rd := ⟨.always, .always, .always, .never, .always, .never, .plain⟩
  wr := ⟨.never, .never, .never, .never, .never, .never, .plain⟩
  fields := [F.MET_CHSTATn_VALID, F.MET_CHSTATn_NOTRANS, F.MET_CHSTATn_OVERRANGE, F.MET_CHSTATn_HIGHSIDE, F.MET_CHSTATn_ONES, F.MET_CHSTATn_LOSSES, F.MET_CHSTATn_LONG_LOSSES]

def F.MET_FG_CFGn_MODE : Field := ⟨"MODE", 0, 2, .rw, .s⟩
def F.MET_FG_CFGn_DIV : Field := ⟨"DIV", 16, 13, .rw, .s⟩
def F.MET_FG_CFGn_ILIM : Field := ⟨"ILIM", 32, 6, .rw, .s⟩
def F.MET_FG_CFGn_THRESH : Field := ⟨"THRESH", 40, 4, .rw, .s⟩
def F.MET_FG_CFGn_MAG_TH : Field := ⟨"MAG_TH", 48, 16, .rw, .s⟩
def R.MET_FG_CFGn : RegSpec where
  name := "MET_FG_CFGn"
  base := 0x50400
  dims := [(8, 8)]
  rst := 0xCCD0C0A0BB80000
  rstAt := []
  rd := ⟨.always, .always, .always, .never, .always, .never, .plain⟩
  wr := ⟨.never, .seal, .never, .never, .never, .never, .plain⟩
  fields := [F.MET_FG_CFGn_MODE, F.MET_FG_CFGn_DIV, F.MET_FG_CFGn_ILIM, F.MET_FG_CFGn_THRESH, F.MET_FG_CFGn_MAG_TH]

def F.MET_FG_STATn_VALID : Field := ⟨"VALID", 0, 1, .ro, .l⟩
def F.MET_FG_STATn_RUNNING : Field := ⟨"RUNNING", 1, 1, .ro, .l⟩
def F.MET_FG_STATn_SAT : Field := ⟨"SAT", 2, 1, .lh, .l⟩
def F.MET_FG_STATn_OPEN : Field := ⟨"OPEN", 3, 1, .lh, .l⟩
def F.MET_FG_STATn_SHORT : Field := ⟨"SHORT", 4, 1, .lh, .l⟩
def F.MET_FG_STATn_BUDGET : Field := ⟨"BUDGET", 5, 1, .ro, .l⟩
def F.MET_FG_STATn_PAIRED : Field := ⟨"PAIRED", 6, 1, .ro, .l⟩
def F.MET_FG_STATn_SAMPLE : Field := ⟨"SAMPLE", 32, 32, .ro, .l⟩
def R.MET_FG_STATn : RegSpec where
  name := "MET_FG_STATn"
  base := 0x50440
  dims := [(8, 8)]
  rst := 0x0
  rstAt := []
  rd := ⟨.always, .always, .always, .never, .always, .never, .plain⟩
  wr := ⟨.never, .never, .never, .never, .never, .never, .plain⟩
  fields := [F.MET_FG_STATn_VALID, F.MET_FG_STATn_RUNNING, F.MET_FG_STATn_SAT, F.MET_FG_STATn_OPEN, F.MET_FG_STATn_SHORT, F.MET_FG_STATn_BUDGET, F.MET_FG_STATn_PAIRED, F.MET_FG_STATn_SAMPLE]

def F.MET_CAL_SEL_SLOT : Field := ⟨"SLOT", 0, 6, .rw, .l⟩
def R.MET_CAL_SEL : RegSpec where
  name := "MET_CAL_SEL"
  base := 0x50600
  dims := []
  rst := 0x0
  rstAt := []
  rd := ⟨.never, .always, .never, .never, .always, .never, .plain⟩
  wr := ⟨.never, .always, .never, .never, .always, .never, .plain⟩
  fields := [F.MET_CAL_SEL_SLOT]

def F.MET_CAL_SCALE_FS : Field := ⟨"FS", 0, 32, .ro, .f⟩
def F.MET_CAL_SCALE_GC : Field := ⟨"GC", 32, 32, .ro, .f⟩
def R.MET_CAL_SCALE : RegSpec where
  name := "MET_CAL_SCALE"
  base := 0x50608
  dims := []
  rst := 0x0
  rstAt := []
  rd := ⟨.never, .always, .never, .never, .always, .never, .plain⟩
  wr := ⟨.never, .never, .never, .never, .never, .never, .plain⟩
  fields := [F.MET_CAL_SCALE_FS, F.MET_CAL_SCALE_GC]

def F.MET_CAL_OFFSET_OFFSET : Field := ⟨"OFFSET", 0, 32, .ro, .f⟩
def F.MET_CAL_OFFSET_TRACK_LIMIT : Field := ⟨"TRACK_LIMIT", 32, 32, .ro, .f⟩
def R.MET_CAL_OFFSET : RegSpec where
  name := "MET_CAL_OFFSET"
  base := 0x50610
  dims := []
  rst := 0x0
  rstAt := []
  rd := ⟨.never, .always, .never, .never, .always, .never, .plain⟩
  wr := ⟨.never, .never, .never, .never, .never, .never, .plain⟩
  fields := [F.MET_CAL_OFFSET_OFFSET, F.MET_CAL_OFFSET_TRACK_LIMIT]

def F.MET_CAL_TEMP_TC1 : Field := ⟨"TC1", 0, 32, .ro, .f⟩
def F.MET_CAL_TEMP_TC2 : Field := ⟨"TC2", 32, 16, .ro, .f⟩
def F.MET_CAL_TEMP_TREF : Field := ⟨"TREF", 48, 16, .ro, .f⟩
def R.MET_CAL_TEMP : RegSpec where
  name := "MET_CAL_TEMP"
  base := 0x50618
  dims := []
  rst := 0x0
  rstAt := []
  rd := ⟨.never, .always, .never, .never, .always, .never, .plain⟩
  wr := ⟨.never, .never, .never, .never, .never, .never, .plain⟩
  fields := [F.MET_CAL_TEMP_TC1, F.MET_CAL_TEMP_TC2, F.MET_CAL_TEMP_TREF]

def F.MET_CAL_PHASE_PHASE : Field := ⟨"PHASE", 0, 20, .ro, .f⟩
def F.MET_CAL_PHASE_WRITTEN : Field := ⟨"WRITTEN", 32, 1, .ro, .f⟩
def F.MET_CAL_PHASE_MAGNETIC : Field := ⟨"MAGNETIC", 33, 1, .ro, .f⟩
def R.MET_CAL_PHASE : RegSpec where
  name := "MET_CAL_PHASE"
  base := 0x50620
  dims := []
  rst := 0x0
  rstAt := []
  rd := ⟨.never, .always, .never, .never, .always, .never, .plain⟩
  wr := ⟨.never, .never, .never, .never, .never, .never, .plain⟩
  fields := [F.MET_CAL_PHASE_PHASE, F.MET_CAL_PHASE_WRITTEN, F.MET_CAL_PHASE_MAGNETIC]

def F.MET_CAL_STATE_TRACK : Field := ⟨"TRACK", 0, 32, .ro, .f⟩
def F.MET_CAL_STATE_IN_USE : Field := ⟨"IN_USE", 32, 1, .ro, .l⟩
def F.MET_CAL_STATE_TEMP_UNWIRED : Field := ⟨"TEMP_UNWIRED", 33, 1, .ro, .l⟩
def F.MET_CAL_STATE_TEMP_STALE : Field := ⟨"TEMP_STALE", 34, 1, .ro, .l⟩
def F.MET_CAL_STATE_LIMIT_HIT : Field := ⟨"LIMIT_HIT", 35, 1, .lh, .l⟩
def R.MET_CAL_STATE : RegSpec where
  name := "MET_CAL_STATE"
  base := 0x50628
  dims := []
  rst := 0x0
  rstAt := []
  rd := ⟨.never, .always, .never, .never, .always, .never, .plain⟩
  wr := ⟨.never, .never, .never, .never, .never, .never, .plain⟩
  fields := [F.MET_CAL_STATE_TRACK, F.MET_CAL_STATE_IN_USE, F.MET_CAL_STATE_TEMP_UNWIRED, F.MET_CAL_STATE_TEMP_STALE, F.MET_CAL_STATE_LIMIT_HIT]

/-- The registers of block MET. -/
def regsMet : List RegSpec :=
  [R.MET_STATUS, R.MET_MCLK_CFG, R.MET_MCLK_STAT, R.MET_CHSTATn, R.MET_FG_CFGn, R.MET_FG_STATn,
   R.MET_CAL_SEL, R.MET_CAL_SCALE, R.MET_CAL_OFFSET, R.MET_CAL_TEMP, R.MET_CAL_PHASE, R.MET_CAL_STATE]

/-! ### Block NRG -/

def F.NRG_En_k_ENERGY : Field := ⟨"ENERGY", 0, 64, .ro, .f⟩
def R.NRG_En_k : RegSpec where
  name := "NRG_En_k"
  base := 0x60000
  dims := [(256, 7), (8, 4)]
  rst := 0x0
  rstAt := []
  rd := ⟨.always, .always, .always, .always, .always, .always, .plain⟩
  wr := ⟨.never, .never, .never, .never, .never, .never, .plain⟩
  fields := [F.NRG_En_k_ENERGY]

def F.NRG_SNAPn_IMPORT_WH : Field := ⟨"IMPORT_WH", 0, 32, .ro, .f⟩
def F.NRG_SNAPn_EXPORT_WH : Field := ⟨"EXPORT_WH", 32, 32, .ro, .f⟩
def R.NRG_SNAPn : RegSpec where
  name := "NRG_SNAPn"
  base := 0x60020
  dims := [(256, 7)]
  rst := 0x0
  rstAt := []
  rd := ⟨.always, .always, .always, .always, .always, .always, .plain⟩
  wr := ⟨.never, .never, .never, .never, .never, .never, .plain⟩
  fields := [F.NRG_SNAPn_IMPORT_WH, F.NRG_SNAPn_EXPORT_WH]

def F.NRG_RSNAPn_IMPORT_VARH : Field := ⟨"IMPORT_VARH", 0, 32, .ro, .f⟩
def F.NRG_RSNAPn_EXPORT_VARH : Field := ⟨"EXPORT_VARH", 32, 32, .ro, .f⟩
def R.NRG_RSNAPn : RegSpec where
  name := "NRG_RSNAPn"
  base := 0x60028
  dims := [(256, 7)]
  rst := 0x0
  rstAt := []
  rd := ⟨.always, .always, .always, .always, .always, .always, .plain⟩
  wr := ⟨.never, .never, .never, .never, .never, .never, .plain⟩
  fields := [F.NRG_RSNAPn_IMPORT_VARH, F.NRG_RSNAPn_EXPORT_VARH]

def F.NRG_SVCn_k_SERVICE : Field := ⟨"SERVICE", 0, 64, .ro, .f⟩
def R.NRG_SVCn_k : RegSpec where
  name := "NRG_SVCn_k"
  base := 0x60030
  dims := [(256, 7), (8, 2)]
  rst := 0x0
  rstAt := []
  rd := ⟨.always, .always, .always, .always, .always, .always, .plain⟩
  wr := ⟨.never, .never, .never, .never, .never, .never, .plain⟩
  fields := [F.NRG_SVCn_k_SERVICE]

def F.NRG_LIVEn_k_VALUE : Field := ⟨"VALUE", 0, 64, .ro, .f⟩
def R.NRG_LIVEn_k : RegSpec where
  name := "NRG_LIVEn_k"
  base := 0x60040
  dims := [(256, 7), (8, 16)]
  rst := 0x0
  rstAt := []
  rd := ⟨.always, .always, .always, .always, .always, .always, .plain⟩
  wr := ⟨.never, .never, .never, .never, .never, .never, .plain⟩
  fields := [F.NRG_LIVEn_k_VALUE]

def F.NRG_STATn_LIVE_VALID : Field := ⟨"LIVE_VALID", 0, 16, .ro, .f⟩
def F.NRG_STATn_PHASESEQ : Field := ⟨"PHASESEQ", 16, 2, .ro, .l⟩
def F.NRG_STATn_PHASE_LOSS : Field := ⟨"PHASE_LOSS", 18, 1, .ro, .l⟩
def F.NRG_STATn_NEUTRAL : Field := ⟨"NEUTRAL", 19, 1, .ro, .l⟩
def F.NRG_STATn_SEEN_REVERSED : Field := ⟨"SEEN_REVERSED", 20, 1, .lh, .l⟩
def F.NRG_STATn_PUBLISHED : Field := ⟨"PUBLISHED", 32, 32, .ro, .f⟩
def R.NRG_STATn : RegSpec where
  name := "NRG_STATn"
  base := 0x600C0
  dims := [(256, 7)]
  rst := 0x0
  rstAt := []
  rd := ⟨.always, .always, .always, .always, .always, .always, .plain⟩
  wr := ⟨.never, .never, .never, .never, .never, .never, .plain⟩
  fields := [F.NRG_STATn_LIVE_VALID, F.NRG_STATn_PHASESEQ, F.NRG_STATn_PHASE_LOSS, F.NRG_STATn_NEUTRAL, F.NRG_STATn_SEEN_REVERSED, F.NRG_STATn_PUBLISHED]

def F.NRG_INTm_FRAMES : Field := ⟨"FRAMES", 0, 32, .ro, .f⟩
def F.NRG_INTm_INVALID : Field := ⟨"INVALID", 32, 32, .ro, .f⟩
def R.NRG_INTm : RegSpec where
  name := "NRG_INTm"
  base := 0x60800
  dims := [(8, 32)]
  rst := 0x0
  rstAt := []
  rd := ⟨.always, .always, .always, .never, .always, .never, .plain⟩
  wr := ⟨.never, .never, .never, .never, .never, .never, .plain⟩
  fields := [F.NRG_INTm_FRAMES, F.NRG_INTm_INVALID]

def F.NRG_PULSE_CFGn_WIDTH : Field := ⟨"WIDTH", 0, 9, .rw, .f⟩
def F.NRG_PULSE_CFGn_POLARITY : Field := ⟨"POLARITY", 9, 1, .rw, .f⟩
def R.NRG_PULSE_CFGn : RegSpec where
  name := "NRG_PULSE_CFGn"
  base := 0x60900
  dims := [(8, 6)]
  rst := 0x30
  rstAt := []
  rd := ⟨.always, .always, .always, .never, .always, .never, .plain⟩
  wr := ⟨.never, .seal, .never, .never, .never, .never, .plain⟩
  fields := [F.NRG_PULSE_CFGn_WIDTH, F.NRG_PULSE_CFGn_POLARITY]

def F.NRG_PULSE_STATn_BACKLOG : Field := ⟨"BACKLOG", 0, 16, .ro, .l⟩
def F.NRG_PULSE_STATn_OVERRUN : Field := ⟨"OVERRUN", 16, 1, .lh, .l⟩
def F.NRG_PULSE_STATn_LOST : Field := ⟨"LOST", 17, 15, .ro, .l⟩
def F.NRG_PULSE_STATn_EMITTED : Field := ⟨"EMITTED", 32, 32, .ro, .l⟩
def R.NRG_PULSE_STATn : RegSpec where
  name := "NRG_PULSE_STATn"
  base := 0x60940
  dims := [(8, 6)]
  rst := 0x0
  rstAt := []
  rd := ⟨.always, .always, .always, .never, .always, .never, .plain⟩
  wr := ⟨.never, .never, .never, .never, .never, .never, .plain⟩
  fields := [F.NRG_PULSE_STATn_BACKLOG, F.NRG_PULSE_STATn_OVERRUN, F.NRG_PULSE_STATn_LOST, F.NRG_PULSE_STATn_EMITTED]

def F.NRG_TICK_TICKS : Field := ⟨"TICKS", 0, 64, .ro, .f⟩
def R.NRG_TICK : RegSpec where
  name := "NRG_TICK"
  base := 0x60A00
  dims := []
  rst := 0x0
  rstAt := []
  rd := ⟨.always, .always, .always, .always, .always, .always, .plain⟩
  wr := ⟨.never, .never, .never, .never, .never, .never, .plain⟩
  fields := [F.NRG_TICK_TICKS]

def F.NRG_PFAIL_LAST_REASON : Field := ⟨"LAST_REASON", 0, 2, .ro, .l⟩
def F.NRG_PFAIL_JOURNAL : Field := ⟨"JOURNAL", 2, 2, .ro, .l⟩
def F.NRG_PFAIL_DT_ASSUMED : Field := ⟨"DT_ASSUMED", 4, 1, .ro, .l⟩
def F.NRG_PFAIL_SHORT_TICK : Field := ⟨"SHORT_TICK", 5, 1, .ro, .l⟩
def F.NRG_PFAIL_WRITE_US : Field := ⟨"WRITE_US", 16, 16, .ro, .l⟩
def F.NRG_PFAIL_SEQ_LOW : Field := ⟨"SEQ_LOW", 32, 32, .ro, .l⟩
def R.NRG_PFAIL : RegSpec where
  name := "NRG_PFAIL"
  base := 0x60A08
  dims := []
  rst := 0x0
  rstAt := []
  rd := ⟨.always, .always, .always, .never, .always, .never, .plain⟩
  wr := ⟨.never, .never, .never, .never, .never, .never, .plain⟩
  fields := [F.NRG_PFAIL_LAST_REASON, F.NRG_PFAIL_JOURNAL, F.NRG_PFAIL_DT_ASSUMED, F.NRG_PFAIL_SHORT_TICK, F.NRG_PFAIL_WRITE_US, F.NRG_PFAIL_SEQ_LOW]

def F.NRG_UNBOOKEDn_PEAK_BOUND : Field := ⟨"PEAK_BOUND", 0, 32, .ro, .l⟩
def F.NRG_UNBOOKEDn_RATED_BOUND : Field := ⟨"RATED_BOUND", 32, 32, .ro, .l⟩
def R.NRG_UNBOOKEDn : RegSpec where
  name := "NRG_UNBOOKEDn"
  base := 0x60A10
  dims := [(8, 6)]
  rst := 0x0
  rstAt := []
  rd := ⟨.always, .always, .always, .never, .always, .never, .plain⟩
  wr := ⟨.never, .never, .never, .never, .never, .never, .plain⟩
  fields := [F.NRG_UNBOOKEDn_PEAK_BOUND, F.NRG_UNBOOKEDn_RATED_BOUND]

/-- The registers of block NRG. -/
def regsNrg : List RegSpec :=
  [R.NRG_En_k, R.NRG_SNAPn, R.NRG_RSNAPn, R.NRG_SVCn_k, R.NRG_LIVEn_k, R.NRG_STATn,
   R.NRG_INTm, R.NRG_PULSE_CFGn, R.NRG_PULSE_STATn, R.NRG_TICK, R.NRG_PFAIL, R.NRG_UNBOOKEDn]

/-! ### Block BIL -/

def F.BIL_STATUS_TIME : Field := ⟨"TIME", 0, 2, .ro, .l⟩
def F.BIL_STATUS_PENDING : Field := ⟨"PENDING", 2, 1, .ro, .l⟩
def F.BIL_STATUS_WIDE : Field := ⟨"WIDE", 3, 1, .ro, .l⟩
def F.BIL_STATUS_UNCOMMITTED : Field := ⟨"UNCOMMITTED", 24, 16, .ro, .f⟩
def F.BIL_STATUS_ATTR_HELD : Field := ⟨"ATTR_HELD", 40, 6, .ro, .f⟩
def R.BIL_STATUS : RegSpec where
  name := "BIL_STATUS"
  base := 0x70000
  dims := []
  rst := 0x0
  rstAt := []
  rd := ⟨.always, .always, .always, .always, .always, .never, .plain⟩
  wr := ⟨.never, .never, .never, .never, .never, .never, .plain⟩
  fields := [F.BIL_STATUS_TIME, F.BIL_STATUS_PENDING, F.BIL_STATUS_WIDE, F.BIL_STATUS_UNCOMMITTED, F.BIL_STATUS_ATTR_HELD]

def F.BIL_CLOCK_BILL_TIME : Field := ⟨"BILL_TIME", 0, 64, .ro, .f⟩
def R.BIL_CLOCK : RegSpec where
  name := "BIL_CLOCK"
  base := 0x70008
  dims := []
  rst := 0x0
  rstAt := []
  rd := ⟨.always, .always, .always, .always, .always, .always, .plain⟩
  wr := ⟨.never, .never, .never, .never, .never, .never, .plain⟩
  fields := [F.BIL_CLOCK_BILL_TIME]

def F.BIL_LEAD_LEAD_MS : Field := ⟨"LEAD_MS", 0, 32, .ro, .f⟩
def R.BIL_LEAD : RegSpec where
  name := "BIL_LEAD"
  base := 0x70010
  dims := []
  rst := 0x0
  rstAt := []
  rd := ⟨.always, .always, .always, .always, .always, .never, .plain⟩
  wr := ⟨.never, .never, .never, .never, .never, .never, .plain⟩
  fields := [F.BIL_LEAD_LEAD_MS]

def F.BIL_TIMESET_WALL : Field := ⟨"WALL", 0, 48, .wo, .l⟩
def F.BIL_TIMESET_BACK : Field := ⟨"BACK", 48, 11, .wo, .l⟩
def R.BIL_TIMESET : RegSpec where
  name := "BIL_TIMESET"
  base := 0x70018
  dims := []
  rst := 0x0
  rstAt := []
  rd := ⟨.never, .never, .never, .never, .never, .never, .plain⟩
  wr := ⟨.never, .never, .always, .never, .never, .never, .plain⟩
  fields := [F.BIL_TIMESET_WALL, F.BIL_TIMESET_BACK]

def F.BIL_CALCFG_OFFSET : Field := ⟨"OFFSET", 0, 16, .rw, .f⟩
def F.BIL_CALCFG_NEXT_OFFSET : Field := ⟨"NEXT_OFFSET", 16, 16, .rw, .f⟩
def F.BIL_CALCFG_NEXT_AT : Field := ⟨"NEXT_AT", 32, 32, .rw, .f⟩
def R.BIL_CALCFG : RegSpec where
  name := "BIL_CALCFG"
  base := 0x70020
  dims := []
  rst := 0x0
  rstAt := []
  rd := ⟨.always, .always, .always, .always, .always, .never, .plain⟩
  wr := ⟨.never, .never, .always, .never, .never, .never, .plain⟩
  fields := [F.BIL_CALCFG_OFFSET, F.BIL_CALCFG_NEXT_OFFSET, F.BIL_CALCFG_NEXT_AT]

def F.BIL_TCMD_TARIFF : Field := ⟨"TARIFF", 0, 4, .wo, .l⟩
def F.BIL_TCMD_OUTPUTS : Field := ⟨"OUTPUTS", 4, 6, .wo, .l⟩
def F.BIL_TCMD_SITE : Field := ⟨"SITE", 10, 1, .wo, .l⟩
def F.BIL_TCMD_EFFECTIVE : Field := ⟨"EFFECTIVE", 16, 48, .wo, .l⟩
def R.BIL_TCMD : RegSpec where
  name := "BIL_TCMD"
  base := 0x70028
  dims := []
  rst := 0x0
  rstAt := []
  rd := ⟨.never, .never, .never, .never, .never, .never, .plain⟩
  wr := ⟨.never, .never, .always, .never, .never, .never, .plain⟩
  fields := [F.BIL_TCMD_TARIFF, F.BIL_TCMD_OUTPUTS, F.BIL_TCMD_SITE, F.BIL_TCMD_EFFECTIVE]

def F.BIL_CMD_STAT_QUEUED : Field := ⟨"QUEUED", 0, 4, .ro, .l⟩
def F.BIL_CMD_STAT_TCMD_LATE : Field := ⟨"TCMD_LATE", 4, 1, .lh, .l⟩
def F.BIL_CMD_STAT_TIME_LATE : Field := ⟨"TIME_LATE", 5, 1, .lh, .l⟩
def F.BIL_CMD_STAT_IGNORED : Field := ⟨"IGNORED", 6, 1, .lh, .l⟩
def F.BIL_CMD_STAT_PHASE_MS : Field := ⟨"PHASE_MS", 32, 32, .ro, .f⟩
def R.BIL_CMD_STAT : RegSpec where
  name := "BIL_CMD_STAT"
  base := 0x70030
  dims := []
  rst := 0x0
  rstAt := []
  rd := ⟨.always, .always, .always, .always, .always, .never, .plain⟩
  wr := ⟨.never, .never, .never, .never, .never, .never, .plain⟩
  fields := [F.BIL_CMD_STAT_QUEUED, F.BIL_CMD_STAT_TCMD_LATE, F.BIL_CMD_STAT_TIME_LATE, F.BIL_CMD_STAT_IGNORED, F.BIL_CMD_STAT_PHASE_MS]

def F.BIL_DEMCFG_LEN : Field := ⟨"LEN", 0, 3, .rw, .s⟩
def F.BIL_DEMCFG_SLIDING : Field := ⟨"SLIDING", 3, 1, .rw, .s⟩
def F.BIL_DEMCFG_N : Field := ⟨"N", 4, 4, .rw, .s⟩
def F.BIL_DEMCFG_ALIGN : Field := ⟨"ALIGN", 8, 6, .rw, .s⟩
def R.BIL_DEMCFG : RegSpec where
  name := "BIL_DEMCFG"
  base := 0x70038
  dims := []
  rst := 0x32
  rstAt := []
  rd := ⟨.always, .always, .always, .always, .always, .never, .plain⟩
  wr := ⟨.never, .never, .always, .never, .never, .never, .plain⟩
  fields := [F.BIL_DEMCFG_LEN, F.BIL_DEMCFG_SLIDING, F.BIL_DEMCFG_N, F.BIL_DEMCFG_ALIGN]

def F.BIL_DSYNC_END : Field := ⟨"END", 0, 48, .wo, .l⟩
def R.BIL_DSYNC : RegSpec where
  name := "BIL_DSYNC"
  base := 0x70040
  dims := []
  rst := 0x0
  rstAt := []
  rd := ⟨.never, .never, .never, .never, .never, .never, .plain⟩
  wr := ⟨.never, .never, .always, .never, .never, .never, .plain⟩
  fields := [F.BIL_DSYNC_END]

def F.BIL_CALk_KIND : Field := ⟨"KIND", 0, 2, .rw, .f⟩
def F.BIL_CALk_DAYS : Field := ⟨"DAYS", 2, 7, .rw, .f⟩
def F.BIL_CALk_START : Field := ⟨"START", 9, 11, .rw, .f⟩
def F.BIL_CALk_TARIFF : Field := ⟨"TARIFF", 20, 3, .rw, .f⟩
def F.BIL_CALk_OUTPUTS : Field := ⟨"OUTPUTS", 23, 6, .rw, .f⟩
def F.BIL_CALk_SITE : Field := ⟨"SITE", 29, 1, .rw, .f⟩
def F.BIL_CALk_DATE : Field := ⟨"DATE", 32, 32, .rw, .f⟩
def R.BIL_CALk : RegSpec where
  name := "BIL_CALk"
  base := 0x70100
  dims := [(8, 64)]
  rst := 0x0
  rstAt := []
  rd := ⟨.always, .always, .always, .always, .always, .never, .plain⟩
  wr := ⟨.never, .never, .always, .never, .never, .never, .plain⟩
  fields := [F.BIL_CALk_KIND, F.BIL_CALk_DAYS, F.BIL_CALk_START, F.BIL_CALk_TARIFF, F.BIL_CALk_OUTPUTS, F.BIL_CALk_SITE, F.BIL_CALk_DATE]

def F.BIL_PROVn_TARIFF : Field := ⟨"TARIFF", 0, 3, .ro, .l⟩
def F.BIL_PROVn_OVERRIDE : Field := ⟨"OVERRIDE", 3, 1, .ro, .l⟩
def F.BIL_PROVn_ATTR : Field := ⟨"ATTR", 4, 3, .ro, .l⟩
def F.BIL_PROVn_SID : Field := ⟨"SID", 8, 6, .ro, .l⟩
def F.BIL_PROVn_UNCOMMITTED_IMPORT : Field := ⟨"UNCOMMITTED_IMPORT", 32, 32, .ro, .f⟩
def R.BIL_PROVn : RegSpec where
  name := "BIL_PROVn"
  base := 0x70400
  dims := [(8, 6)]
  rst := 0x0
  rstAt := []
  rd := ⟨.always, .always, .always, .always, .always, .never, .plain⟩
  wr := ⟨.never, .never, .never, .never, .never, .never, .plain⟩
  fields := [F.BIL_PROVn_TARIFF, F.BIL_PROVn_OVERRIDE, F.BIL_PROVn_ATTR, F.BIL_PROVn_SID, F.BIL_PROVn_UNCOMMITTED_IMPORT]

def F.BIL_HELDn_d_HELD : Field := ⟨"HELD", 0, 64, .ro, .f⟩
def R.BIL_HELDn_d : RegSpec where
  name := "BIL_HELDn_d"
  base := 0x70440
  dims := [(16, 6), (8, 2)]
  rst := 0x0
  rstAt := []
  rd := ⟨.always, .always, .always, .always, .always, .never, .plain⟩
  wr := ⟨.never, .never, .never, .never, .never, .never, .plain⟩
  fields := [F.BIL_HELDn_d_HELD]

def F.BIL_DEMEn_ENERGY : Field := ⟨"ENERGY", 0, 64, .ro, .f⟩
def R.BIL_DEMEn : RegSpec where
  name := "BIL_DEMEn"
  base := 0x70500
  dims := [(8, 7)]
  rst := 0x0
  rstAt := []
  rd := ⟨.always, .always, .always, .always, .always, .never, .plain⟩
  wr := ⟨.never, .never, .never, .never, .never, .never, .plain⟩
  fields := [F.BIL_DEMEn_ENERGY]

def F.BIL_DEMLASTn_DEMAND : Field := ⟨"DEMAND", 0, 40, .ro, .f⟩
def F.BIL_DEMLASTn_FLAGS : Field := ⟨"FLAGS", 40, 5, .ro, .f⟩
def F.BIL_DEMLASTn_TARIFF : Field := ⟨"TARIFF", 45, 3, .ro, .f⟩
def R.BIL_DEMLASTn : RegSpec where
  name := "BIL_DEMLASTn"
  base := 0x70540
  dims := [(8, 7)]
  rst := 0x0
  rstAt := []
  rd := ⟨.always, .always, .always, .always, .always, .never, .plain⟩
  wr := ⟨.never, .never, .never, .never, .never, .never, .plain⟩
  fields := [F.BIL_DEMLASTn_DEMAND, F.BIL_DEMLASTn_FLAGS, F.BIL_DEMLASTn_TARIFF]

def F.BIL_TREGn_t_d_ENERGY : Field := ⟨"ENERGY", 0, 64, .ro, .f⟩
def R.BIL_TREGn_t_d : RegSpec where
  name := "BIL_TREGn_t_d"
  base := 0x71000
  dims := [(256, 7), (16, 8), (8, 2)]
  rst := 0x0
  rstAt := []
  rd := ⟨.always, .always, .always, .always, .always, .never, .plain⟩
  wr := ⟨.never, .never, .never, .never, .never, .never, .plain⟩
  fields := [F.BIL_TREGn_t_d_ENERGY]

def F.BIL_MDn_t_DEMAND : Field := ⟨"DEMAND", 0, 40, .ro, .f⟩
def F.BIL_MDn_t_FLAGS : Field := ⟨"FLAGS", 40, 5, .ro, .f⟩
def R.BIL_MDn_t : RegSpec where
  name := "BIL_MDn_t"
  base := 0x72000
  dims := [(256, 7), (16, 9)]
  rst := 0x0
  rstAt := []
  rd := ⟨.always, .always, .always, .always, .always, .always, .plain⟩
  wr := ⟨.never, .never, .never, .never, .never, .never, .plain⟩
  fields := [F.BIL_MDn_t_DEMAND, F.BIL_MDn_t_FLAGS]

def F.BIL_MDTn_t_END : Field := ⟨"END", 0, 64, .ro, .f⟩
def R.BIL_MDTn_t : RegSpec where
  name := "BIL_MDTn_t"
  base := 0x72008
  dims := [(256, 7), (16, 9)]
  rst := 0x0
  rstAt := []
  rd := ⟨.always, .always, .always, .always, .always, .always, .plain⟩
  wr := ⟨.never, .never, .never, .never, .never, .never, .plain⟩
  fields := [F.BIL_MDTn_t_END]

def F.BIL_PMDn_t_as_BIL_MDn_t_and_BIL_MDTn_t : Field := ⟨"as `BIL_MDn_t` and `BIL_MDTn_t`", 0, 64, .ro, .f⟩
def R.BIL_PMDn_t : RegSpec where
  name := "BIL_PMDn_t"
  base := 0x73000
  dims := [(256, 7), (16, 9)]
  rst := 0x0
  rstAt := []
  rd := ⟨.always, .always, .always, .always, .always, .always, .plain⟩
  wr := ⟨.never, .never, .never, .never, .never, .never, .plain⟩
  fields := [F.BIL_PMDn_t_as_BIL_MDn_t_and_BIL_MDTn_t]

def F.BIL_PMDTn_t_as_BIL_MDn_t_and_BIL_MDTn_t : Field := ⟨"as `BIL_MDn_t` and `BIL_MDTn_t`", 0, 64, .ro, .f⟩
def R.BIL_PMDTn_t : RegSpec where
  name := "BIL_PMDTn_t"
  base := 0x73008
  dims := [(256, 7), (16, 9)]
  rst := 0x0
  rstAt := []
  rd := ⟨.always, .always, .always, .always, .always, .always, .plain⟩
  wr := ⟨.never, .never, .never, .never, .never, .never, .plain⟩
  fields := [F.BIL_PMDTn_t_as_BIL_MDn_t_and_BIL_MDTn_t]

def F.BIL_PERIOD_COUNT : Field := ⟨"COUNT", 0, 32, .ro, .f⟩
def R.BIL_PERIOD : RegSpec where
  name := "BIL_PERIOD"
  base := 0x70048
  dims := []
  rst := 0x0
  rstAt := []
  rd := ⟨.always, .always, .always, .always, .always, .always, .plain⟩
  wr := ⟨.never, .never, .never, .never, .never, .never, .plain⟩
  fields := [F.BIL_PERIOD_COUNT]

/-- The registers of block BIL. -/
def regsBil : List RegSpec :=
  [R.BIL_STATUS, R.BIL_CLOCK, R.BIL_LEAD, R.BIL_TIMESET, R.BIL_CALCFG, R.BIL_TCMD,
   R.BIL_CMD_STAT, R.BIL_DEMCFG, R.BIL_DSYNC, R.BIL_CALk, R.BIL_PROVn, R.BIL_HELDn_d,
   R.BIL_DEMEn, R.BIL_DEMLASTn, R.BIL_TREGn_t_d, R.BIL_MDn_t, R.BIL_MDTn_t, R.BIL_PMDn_t,
   R.BIL_PMDTn_t, R.BIL_PERIOD]

/-! ### Block SEAL -/

def F.SEAL_STATUS_OPEN : Field := ⟨"OPEN", 0, 1, .ro, .l⟩
def F.SEAL_STATUS_CLOSING : Field := ⟨"CLOSING", 1, 1, .ro, .l⟩
def F.SEAL_STATUS_CERT_PARTIAL : Field := ⟨"CERT_PARTIAL", 2, 1, .ro, .l⟩
def F.SEAL_STATUS_FLUE_READY : Field := ⟨"FLUE_READY", 3, 1, .ro, .l⟩
def F.SEAL_STATUS_BACKUP_GAP : Field := ⟨"BACKUP_GAP", 4, 1, .ro, .l⟩
def F.SEAL_STATUS_KEY_EPOCH : Field := ⟨"KEY_EPOCH", 32, 32, .ro, .l⟩
def R.SEAL_STATUS : RegSpec where
  name := "SEAL_STATUS"
  base := 0x80000
  dims := []
  rst := 0x0
  rstAt := []
  rd := ⟨.always, .always, .always, .always, .always, .always, .plain⟩
  wr := ⟨.never, .never, .never, .never, .never, .never, .plain⟩
  fields := [F.SEAL_STATUS_OPEN, F.SEAL_STATUS_CLOSING, F.SEAL_STATUS_CERT_PARTIAL, F.SEAL_STATUS_FLUE_READY, F.SEAL_STATUS_BACKUP_GAP, F.SEAL_STATUS_KEY_EPOCH]

def F.SEAL_DEADLINE_DEADLINE : Field := ⟨"DEADLINE", 0, 48, .ro, .l⟩
def F.SEAL_DEADLINE_REASON : Field := ⟨"REASON", 48, 16, .ro, .l⟩
def R.SEAL_DEADLINE : RegSpec where
  name := "SEAL_DEADLINE"
  base := 0x80008
  dims := []
  rst := 0x0
  rstAt := []
  rd := ⟨.always, .always, .always, .never, .always, .never, .plain⟩
  wr := ⟨.never, .never, .never, .never, .never, .never, .plain⟩
  fields := [F.SEAL_DEADLINE_DEADLINE, F.SEAL_DEADLINE_REASON]

def F.SEAL_CALDIGESTk_DIGEST : Field := ⟨"DIGEST", 0, 64, .ro, .l⟩
def R.SEAL_CALDIGESTk : RegSpec where
  name := "SEAL_CALDIGESTk"
  base := 0x80010
  dims := [(8, 6)]
  rst := 0x0
  rstAt := []
  rd := ⟨.always, .always, .never, .never, .always, .never, .plain⟩
  wr := ⟨.never, .never, .never, .never, .never, .never, .plain⟩
  fields := [F.SEAL_CALDIGESTk_DIGEST]

def F.SEAL_TAMPCFG_EN : Field := ⟨"EN", 0, 4, .rw, .l⟩
def F.SEAL_TAMPCFG_POL : Field := ⟨"POL", 4, 4, .rw, .l⟩
def F.SEAL_TAMPCFG_LEVEL : Field := ⟨"LEVEL", 16, 4, .ro, .l⟩
def F.SEAL_TAMPCFG_SEEN : Field := ⟨"SEEN", 20, 4, .lh, .l⟩
def R.SEAL_TAMPCFG : RegSpec where
  name := "SEAL_TAMPCFG"
  base := 0x80040
  dims := []
  rst := 0xF
  rstAt := []
  rd := ⟨.always, .always, .always, .never, .always, .never, .plain⟩
  wr := ⟨.never, .seal, .never, .never, .never, .never, .plain⟩
  fields := [F.SEAL_TAMPCFG_EN, F.SEAL_TAMPCFG_POL, F.SEAL_TAMPCFG_LEVEL, F.SEAL_TAMPCFG_SEEN]

def F.SEAL_FLUE_STAT_QUEUED : Field := ⟨"QUEUED", 0, 7, .ro, .l⟩
def F.SEAL_FLUE_STAT_LOST : Field := ⟨"LOST", 16, 16, .ro, .l⟩
def R.SEAL_FLUE_STAT : RegSpec where
  name := "SEAL_FLUE_STAT"
  base := 0x80048
  dims := []
  rst := 0x0
  rstAt := []
  rd := ⟨.always, .always, .always, .never, .always, .never, .plain⟩
  wr := ⟨.never, .never, .never, .never, .never, .never, .plain⟩
  fields := [F.SEAL_FLUE_STAT_QUEUED, F.SEAL_FLUE_STAT_LOST]

def F.SEAL_FLUE_NEXT_COUNTER : Field := ⟨"COUNTER", 0, 64, .ro, .l⟩
def R.SEAL_FLUE_NEXT : RegSpec where
  name := "SEAL_FLUE_NEXT"
  base := 0x80050
  dims := []
  rst := 0x0
  rstAt := []
  rd := ⟨.always, .always, .always, .never, .always, .never, .plain⟩
  wr := ⟨.never, .never, .never, .never, .never, .never, .plain⟩
  fields := [F.SEAL_FLUE_NEXT_COUNTER]

def F.SEAL_FLUE_OLDEST_COUNTER : Field := ⟨"COUNTER", 0, 64, .ro, .l⟩
def R.SEAL_FLUE_OLDEST : RegSpec where
  name := "SEAL_FLUE_OLDEST"
  base := 0x80058
  dims := []
  rst := 0x0
  rstAt := []
  rd := ⟨.always, .always, .always, .never, .always, .never, .plain⟩
  wr := ⟨.never, .never, .never, .never, .never, .never, .plain⟩
  fields := [F.SEAL_FLUE_OLDEST_COUNTER]

def F.SEAL_LEDk_0_COUNT : Field := ⟨"COUNT", 0, 32, .ro, .l⟩
def F.SEAL_LEDk_0_FIRST_MERGED : Field := ⟨"FIRST_MERGED", 32, 1, .ro, .l⟩
def F.SEAL_LEDk_0_LAST_MERGED : Field := ⟨"LAST_MERGED", 33, 1, .ro, .l⟩
def F.SEAL_LEDk_0_ACTIVE : Field := ⟨"ACTIVE", 34, 1, .ro, .l⟩
def R.SEAL_LEDk_0 : RegSpec where
  name := "SEAL_LEDk_0"
  base := 0x80100
  dims := [(64, 11)]
  rst := 0x0
  rstAt := []
  rd := ⟨.always, .always, .always, .never, .always, .always, .plain⟩
  wr := ⟨.never, .never, .never, .never, .never, .never, .plain⟩
  fields := [F.SEAL_LEDk_0_COUNT, F.SEAL_LEDk_0_FIRST_MERGED, F.SEAL_LEDk_0_LAST_MERGED, F.SEAL_LEDk_0_ACTIVE]

def F.SEAL_LEDk_w_VALUE : Field := ⟨"VALUE", 0, 64, .ro, .l⟩
def R.SEAL_LEDk_w : RegSpec where
  name := "SEAL_LEDk_w"
  base := 0x80108
  dims := [(64, 11), (8, 5)]
  rst := 0x0
  rstAt := []
  rd := ⟨.always, .always, .always, .never, .always, .always, .plain⟩
  wr := ⟨.never, .never, .never, .never, .never, .never, .plain⟩
  fields := [F.SEAL_LEDk_w_VALUE]

/-- The registers of block SEAL. -/
def regsSeal : List RegSpec :=
  [R.SEAL_STATUS, R.SEAL_DEADLINE, R.SEAL_CALDIGESTk, R.SEAL_TAMPCFG, R.SEAL_FLUE_STAT, R.SEAL_FLUE_NEXT,
   R.SEAL_FLUE_OLDEST, R.SEAL_LEDk_0, R.SEAL_LEDk_w]

/-! ### Block VEH -/

def F.VEH_PILOTn_STATE : Field := ⟨"STATE", 0, 3, .ro, .l⟩
def F.VEH_PILOTn_PWM : Field := ⟨"PWM", 3, 1, .ro, .l⟩
def F.VEH_PILOTn_DIODE : Field := ⟨"DIODE", 4, 1, .lh, .l⟩
def F.VEH_PILOTn_PP_MISMATCH : Field := ⟨"PP_MISMATCH", 5, 1, .ro, .l⟩
def F.VEH_PILOTn_PENDING : Field := ⟨"PENDING", 6, 1, .ro, .l⟩
def F.VEH_PILOTn_DUTY : Field := ⟨"DUTY", 8, 10, .ro, .l⟩
def F.VEH_PILOTn_HIGH_MV : Field := ⟨"HIGH_MV", 32, 16, .ro, .l⟩
def F.VEH_PILOTn_LOW_MV : Field := ⟨"LOW_MV", 48, 16, .ro, .l⟩
def R.VEH_PILOTn : RegSpec where
  name := "VEH_PILOTn"
  base := 0x90000
  dims := [(8, 6)]
  rst := 0x0
  rstAt := []
  rd := ⟨.always, .always, .always, .always, .always, .always, .plain⟩
  wr := ⟨.never, .never, .never, .never, .never, .never, .plain⟩
  fields := [F.VEH_PILOTn_STATE, F.VEH_PILOTn_PWM, F.VEH_PILOTn_DIODE, F.VEH_PILOTn_PP_MISMATCH, F.VEH_PILOTn_PENDING, F.VEH_PILOTn_DUTY, F.VEH_PILOTn_HIGH_MV, F.VEH_PILOTn_LOW_MV]

def F.VEH_PPn_CODE : Field := ⟨"CODE", 0, 3, .ro, .l⟩
def F.VEH_PPn_CABLE_A : Field := ⟨"CABLE_A", 8, 8, .ro, .l⟩
def F.VEH_PPn_OHMS : Field := ⟨"OHMS", 16, 16, .ro, .l⟩
def R.VEH_PPn : RegSpec where
  name := "VEH_PPn"
  base := 0x90030
  dims := [(8, 6)]
  rst := 0x0
  rstAt := []
  rd := ⟨.always, .always, .always, .always, .always, .always, .plain⟩
  wr := ⟨.never, .never, .never, .never, .never, .never, .plain⟩
  fields := [F.VEH_PPn_CODE, F.VEH_PPn_CABLE_A, F.VEH_PPn_OHMS]

def F.VEH_PINCFGn_PP_TABLE : Field := ⟨"PP_TABLE", 0, 2, .rw, .s⟩
def F.VEH_PINCFGn_PLC : Field := ⟨"PLC", 2, 1, .rw, .s⟩
def F.VEH_PINCFGn_PLCA : Field := ⟨"PLCA", 3, 1, .rw, .s⟩
def R.VEH_PINCFGn : RegSpec where
  name := "VEH_PINCFGn"
  base := 0x90060
  dims := [(8, 6)]
  rst := 0x5
  rstAt := []
  rd := ⟨.always, .always, .always, .always, .always, .never, .plain⟩
  wr := ⟨.never, .never, .always, .never, .door, .never, .plain⟩
  fields := [F.VEH_PINCFGn_PP_TABLE, F.VEH_PINCFGn_PLC, F.VEH_PINCFGn_PLCA]

def F.VEH_MODEMm_COUPLER : Field := ⟨"COUPLER", 0, 3, .ro, .l⟩
def F.VEH_MODEMm_STATE : Field := ⟨"STATE", 4, 2, .ro, .l⟩
def F.VEH_MODEMm_FAILED : Field := ⟨"FAILED", 6, 1, .ro, .l⟩
def F.VEH_MODEMm_TX_DROPPED : Field := ⟨"TX_DROPPED", 16, 16, .ro, .l⟩
def F.VEH_MODEMm_TX_FRAMES : Field := ⟨"TX_FRAMES", 32, 16, .ro, .l⟩
def F.VEH_MODEMm_RX_FRAMES : Field := ⟨"RX_FRAMES", 48, 16, .ro, .l⟩
def R.VEH_MODEMm : RegSpec where
  name := "VEH_MODEMm"
  base := 0x90100
  dims := [(8, 7)]
  rst := 0x0
  rstAt := [(0x90100, 0x0), (0x90108, 0x1), (0x90110, 0x2), (0x90118, 0x3), (0x90120, 0x4), (0x90128, 0x5), (0x90130, 0x7)]
  rd := ⟨.always, .always, .always, .always, .always, .always, .plain⟩
  wr := ⟨.never, .never, .never, .never, .never, .never, .plain⟩
  fields := [F.VEH_MODEMm_COUPLER, F.VEH_MODEMm_STATE, F.VEH_MODEMm_FAILED, F.VEH_MODEMm_TX_DROPPED, F.VEH_MODEMm_TX_FRAMES, F.VEH_MODEMm_RX_FRAMES]

def F.VEH_SLACn_RESULT : Field := ⟨"RESULT", 0, 3, .ro, .l⟩
def F.VEH_SLACn_OWN_ATTEN : Field := ⟨"OWN_ATTEN", 8, 8, .ro, .l⟩
def F.VEH_SLACn_NEXT_ATTEN : Field := ⟨"NEXT_ATTEN", 16, 8, .ro, .l⟩
def F.VEH_SLACn_RUNS : Field := ⟨"RUNS", 24, 8, .ro, .l⟩
def F.VEH_SLACn_AMBIGUOUS : Field := ⟨"AMBIGUOUS", 32, 8, .ro, .l⟩
def R.VEH_SLACn : RegSpec where
  name := "VEH_SLACn"
  base := 0x90140
  dims := [(8, 6)]
  rst := 0x0
  rstAt := []
  rd := ⟨.always, .always, .always, .never, .always, .never, .plain⟩
  wr := ⟨.never, .never, .never, .never, .never, .never, .plain⟩
  fields := [F.VEH_SLACn_RESULT, F.VEH_SLACn_OWN_ATTEN, F.VEH_SLACn_NEXT_ATTEN, F.VEH_SLACn_RUNS, F.VEH_SLACn_AMBIGUOUS]

def F.VEH_SLACCFG_MARGIN : Field := ⟨"MARGIN", 0, 8, .rw, .l⟩
def F.VEH_SLACCFG_ATTEN_MAX : Field := ⟨"ATTEN_MAX", 8, 8, .rw, .l⟩
def F.VEH_SLACCFG_VALIDATE : Field := ⟨"VALIDATE", 16, 1, .rw, .l⟩
def F.VEH_SLACCFG_NEIGHBOUR : Field := ⟨"NEIGHBOUR", 17, 1, .rw, .l⟩
def R.VEH_SLACCFG : RegSpec where
  name := "VEH_SLACCFG"
  base := 0x90180
  dims := []
  rst := 0x3640C
  rstAt := []
  rd := ⟨.always, .always, .always, .never, .always, .never, .plain⟩
  wr := ⟨.never, .never, .always, .never, .door, .never, .plain⟩
  fields := [F.VEH_SLACCFG_MARGIN, F.VEH_SLACCFG_ATTEN_MAX, F.VEH_SLACCFG_VALIDATE, F.VEH_SLACCFG_NEIGHBOUR]

def F.VEH_SPARE_SERVING : Field := ⟨"SERVING", 0, 3, .ro, .l⟩
def F.VEH_SPARE_SWITCHES : Field := ⟨"SWITCHES", 16, 16, .ro, .l⟩
def F.VEH_SPARE_LAST_US : Field := ⟨"LAST_US", 32, 16, .ro, .l⟩
def R.VEH_SPARE : RegSpec where
  name := "VEH_SPARE"
  base := 0x90188
  dims := []
  rst := 0x7
  rstAt := []
  rd := ⟨.always, .always, .always, .always, .always, .always, .plain⟩
  wr := ⟨.never, .never, .never, .never, .never, .never, .plain⟩
  fields := [F.VEH_SPARE_SERVING, F.VEH_SPARE_SWITCHES, F.VEH_SPARE_LAST_US]

def F.VEH_T1Sk_ENABLED : Field := ⟨"ENABLED", 0, 1, .ro, .l⟩
def F.VEH_T1Sk_LINK : Field := ⟨"LINK", 1, 1, .ro, .l⟩
def F.VEH_T1Sk_PLCA : Field := ⟨"PLCA", 2, 1, .ro, .l⟩
def F.VEH_T1Sk_LINK_DROPS : Field := ⟨"LINK_DROPS", 16, 16, .ro, .l⟩
def F.VEH_T1Sk_RX_ERRORS : Field := ⟨"RX_ERRORS", 32, 32, .ro, .l⟩
def R.VEH_T1Sk : RegSpec where
  name := "VEH_T1Sk"
  base := 0x90190
  dims := [(8, 4)]
  rst := 0x0
  rstAt := []
  rd := ⟨.always, .always, .always, .always, .always, .always, .plain⟩
  wr := ⟨.never, .never, .never, .never, .never, .never, .plain⟩
  fields := [F.VEH_T1Sk_ENABLED, F.VEH_T1Sk_LINK, F.VEH_T1Sk_PLCA, F.VEH_T1Sk_LINK_DROPS, F.VEH_T1Sk_RX_ERRORS]

def F.VEH_PROTOn_PROTOCOL : Field := ⟨"PROTOCOL", 0, 3, .ro, .l⟩
def F.VEH_PROTOn_TLS : Field := ⟨"TLS", 3, 1, .ro, .l⟩
def F.VEH_PROTOn_CLIENT_CERT : Field := ⟨"CLIENT_CERT", 4, 1, .ro, .l⟩
def F.VEH_PROTOn_PAYMENT : Field := ⟨"PAYMENT", 5, 2, .ro, .l⟩
def F.VEH_PROTOn_SID : Field := ⟨"SID", 8, 6, .ro, .l⟩
def F.VEH_PROTOn_STAGE : Field := ⟨"STAGE", 16, 8, .ro, .l⟩
def F.VEH_PROTOn_SERVICE : Field := ⟨"SERVICE", 24, 8, .ro, .l⟩
def R.VEH_PROTOn : RegSpec where
  name := "VEH_PROTOn"
  base := 0x90200
  dims := [(8, 6)]
  rst := 0x0
  rstAt := []
  rd := ⟨.always, .always, .always, .always, .always, .always, .plain⟩
  wr := ⟨.never, .never, .never, .never, .never, .never, .plain⟩
  fields := [F.VEH_PROTOn_PROTOCOL, F.VEH_PROTOn_TLS, F.VEH_PROTOn_CLIENT_CERT, F.VEH_PROTOn_PAYMENT, F.VEH_PROTOn_SID, F.VEH_PROTOn_STAGE, F.VEH_PROTOn_SERVICE]

def F.VEH_PROTOCFG_ORDER : Field := ⟨"ORDER", 0, 12, .rw, .s⟩
def R.VEH_PROTOCFG : RegSpec where
  name := "VEH_PROTOCFG"
  base := 0x90238
  dims := []
  rst := 0x123
  rstAt := []
  rd := ⟨.always, .always, .always, .always, .always, .never, .plain⟩
  wr := ⟨.never, .never, .always, .never, .door, .never, .plain⟩
  fields := [F.VEH_PROTOCFG_ORDER]

def F.VEH_AUTHCFG_DEADLINE : Field := ⟨"DEADLINE", 0, 6, .rw, .l⟩
def F.VEH_AUTHCFG_LIST_FIRST : Field := ⟨"LIST_FIRST", 6, 1, .rw, .l⟩
def F.VEH_AUTHCFG_OFFLINE_ACCEPT : Field := ⟨"OFFLINE_ACCEPT", 7, 1, .rw, .l⟩
def F.VEH_AUTHCFG_PNC : Field := ⟨"PNC", 8, 1, .rw, .l⟩
def F.VEH_AUTHCFG_EIM : Field := ⟨"EIM", 9, 1, .rw, .l⟩
def R.VEH_AUTHCFG : RegSpec where
  name := "VEH_AUTHCFG"
  base := 0x90280
  dims := []
  rst := 0x368
  rstAt := []
  rd := ⟨.always, .always, .always, .never, .always, .never, .plain⟩
  wr := ⟨.never, .never, .always, .never, .never, .never, .plain⟩
  fields := [F.VEH_AUTHCFG_DEADLINE, F.VEH_AUTHCFG_LIST_FIRST, F.VEH_AUTHCFG_OFFLINE_ACCEPT, F.VEH_AUTHCFG_PNC, F.VEH_AUTHCFG_EIM]

def F.VEH_DECIDEn_SID : Field := ⟨"SID", 0, 6, .wo, .l⟩
def F.VEH_DECIDEn_KIND : Field := ⟨"KIND", 6, 2, .wo, .l⟩
def F.VEH_DECIDEn_OUTCOME : Field := ⟨"OUTCOME", 8, 2, .wo, .l⟩
def F.VEH_DECIDEn_REQ_SEQ : Field := ⟨"REQ_SEQ", 16, 16, .wo, .l⟩
def F.VEH_DECIDEn_RESP_LEN : Field := ⟨"RESP_LEN", 32, 13, .wo, .l⟩
def R.VEH_DECIDEn : RegSpec where
  name := "VEH_DECIDEn"
  base := 0x902C0
  dims := [(8, 6)]
  rst := 0x0
  rstAt := []
  rd := ⟨.never, .never, .never, .never, .never, .never, .plain⟩
  wr := ⟨.never, .never, .always, .never, .never, .never, .plain⟩
  fields := [F.VEH_DECIDEn_SID, F.VEH_DECIDEn_KIND, F.VEH_DECIDEn_OUTCOME, F.VEH_DECIDEn_REQ_SEQ, F.VEH_DECIDEn_RESP_LEN]

def F.VEH_RELAYn_KIND : Field := ⟨"KIND", 0, 4, .ro, .l⟩
def F.VEH_RELAYn_STALE : Field := ⟨"STALE", 4, 1, .lh, .l⟩
def F.VEH_RELAYn_REQ_SEQ : Field := ⟨"REQ_SEQ", 16, 16, .ro, .l⟩
def F.VEH_RELAYn_REQ_LEN : Field := ⟨"REQ_LEN", 32, 13, .ro, .l⟩
def R.VEH_RELAYn : RegSpec where
  name := "VEH_RELAYn"
  base := 0x90300
  dims := [(8, 6)]
  rst := 0x0
  rstAt := []
  rd := ⟨.always, .never, .always, .never, .never, .never, .plain⟩
  wr := ⟨.never, .never, .never, .never, .never, .never, .plain⟩
  fields := [F.VEH_RELAYn_KIND, F.VEH_RELAYn_STALE, F.VEH_RELAYn_REQ_SEQ, F.VEH_RELAYn_REQ_LEN]

def F.VEH_DAMPER_MGMT_RATE : Field := ⟨"MGMT_RATE", 0, 16, .rw, .l⟩
def F.VEH_DAMPER_MGMT_BURST : Field := ⟨"MGMT_BURST", 16, 16, .rw, .l⟩
def F.VEH_DAMPER_DATA_RATE : Field := ⟨"DATA_RATE", 32, 16, .rw, .l⟩
def F.VEH_DAMPER_DATA_BURST : Field := ⟨"DATA_BURST", 48, 16, .rw, .l⟩
def R.VEH_DAMPER : RegSpec where
  name := "VEH_DAMPER"
  base := 0x90340
  dims := []
  rst := 0x4003E800140032
  rstAt := []
  rd := ⟨.always, .always, .always, .never, .always, .never, .plain⟩
  wr := ⟨.never, .never, .always, .never, .never, .never, .plain⟩
  fields := [F.VEH_DAMPER_MGMT_RATE, F.VEH_DAMPER_MGMT_BURST, F.VEH_DAMPER_DATA_RATE, F.VEH_DAMPER_DATA_BURST]

def F.VEH_LIST_STAT_ENTRIES : Field := ⟨"ENTRIES", 0, 13, .ro, .l⟩
def F.VEH_LIST_STAT_VERSION : Field := ⟨"VERSION", 32, 32, .rw, .l⟩
def R.VEH_LIST_STAT : RegSpec where
  name := "VEH_LIST_STAT"
  base := 0x90380
  dims := []
  rst := 0x0
  rstAt := []
  rd := ⟨.always, .never, .always, .never, .never, .never, .plain⟩
  wr := ⟨.never, .never, .always, .never, .never, .never, .plain⟩
  fields := [F.VEH_LIST_STAT_ENTRIES, F.VEH_LIST_STAT_VERSION]

def F.VEH_LIST_SALTk_SALT : Field := ⟨"SALT", 0, 64, .rw, .l⟩
def R.VEH_LIST_SALTk : RegSpec where
  name := "VEH_LIST_SALTk"
  base := 0x90388
  dims := [(8, 2)]
  rst := 0x0
  rstAt := []
  rd := ⟨.always, .never, .always, .never, .never, .never, .plain⟩
  wr := ⟨.never, .never, .always, .never, .never, .never, .plain⟩
  fields := [F.VEH_LIST_SALTk_SALT]

def F.VEH_LISTWk_HASH : Field := ⟨"HASH", 0, 64, .wo, .l⟩
def F.VEH_LISTWk_OP : Field := ⟨"OP", 0, 2, .wo, .l⟩
def F.VEH_LISTWk_BLOCKED : Field := ⟨"BLOCKED", 2, 1, .wo, .l⟩
def F.VEH_LISTWk_EXPIRY : Field := ⟨"EXPIRY", 32, 32, .wo, .l⟩
def R.VEH_LISTWk : RegSpec where
  name := "VEH_LISTWk"
  base := 0x90398
  dims := [(8, 3)]
  rst := 0x0
  rstAt := []
  rd := ⟨.never, .never, .never, .never, .never, .never, .plain⟩
  wr := ⟨.never, .never, .always, .never, .never, .never, .plain⟩
  fields := [F.VEH_LISTWk_HASH, F.VEH_LISTWk_OP, F.VEH_LISTWk_BLOCKED, F.VEH_LISTWk_EXPIRY]

/-- The registers of block VEH. -/
def regsVeh : List RegSpec :=
  [R.VEH_PILOTn, R.VEH_PPn, R.VEH_PINCFGn, R.VEH_MODEMm, R.VEH_SLACn, R.VEH_SLACCFG,
   R.VEH_SPARE, R.VEH_T1Sk, R.VEH_PROTOn, R.VEH_PROTOCFG, R.VEH_AUTHCFG, R.VEH_DECIDEn,
   R.VEH_RELAYn, R.VEH_DAMPER, R.VEH_LIST_STAT, R.VEH_LIST_SALTk, R.VEH_LISTWk]

/-! ### Block SEQ -/

def F.SEQ_STATEn_STATE : Field := ⟨"STATE", 0, 5, .ro, .l⟩
def F.SEQ_STATEn_SPECULATIVE : Field := ⟨"SPECULATIVE", 5, 1, .ro, .l⟩
def F.SEQ_STATEn_DEGRADED : Field := ⟨"DEGRADED", 6, 1, .ro, .l⟩
def F.SEQ_STATEn_PENDING : Field := ⟨"PENDING", 7, 1, .ro, .l⟩
def F.SEQ_STATEn_SID : Field := ⟨"SID", 8, 6, .ro, .l⟩
def F.SEQ_STATEn_AUTH : Field := ⟨"AUTH", 14, 2, .ro, .l⟩
def F.SEQ_STATEn_CAUSE : Field := ⟨"CAUSE", 16, 5, .ro, .l⟩
def F.SEQ_STATEn_IN_STATE_MS : Field := ⟨"IN_STATE_MS", 32, 32, .ro, .l⟩
def R.SEQ_STATEn : RegSpec where
  name := "SEQ_STATEn"
  base := 0xA0000
  dims := [(128, 6)]
  rst := 0x0
  rstAt := []
  rd := ⟨.always, .always, .always, .always, .always, .always, .plain⟩
  wr := ⟨.never, .never, .never, .never, .never, .never, .plain⟩
  fields := [F.SEQ_STATEn_STATE, F.SEQ_STATEn_SPECULATIVE, F.SEQ_STATEn_DEGRADED, F.SEQ_STATEn_PENDING, F.SEQ_STATEn_SID, F.SEQ_STATEn_AUTH, F.SEQ_STATEn_CAUSE, F.SEQ_STATEn_IN_STATE_MS]

def F.SEQ_ALLOCn_POWER : Field := ⟨"POWER", 0, 64, .ro, .l⟩
def R.SEQ_ALLOCn : RegSpec where
  name := "SEQ_ALLOCn"
  base := 0xA0008
  dims := [(128, 6)]
  rst := 0x0
  rstAt := []
  rd := ⟨.always, .always, .always, .always, .always, .always, .plain⟩
  wr := ⟨.never, .never, .never, .never, .never, .never, .plain⟩
  fields := [F.SEQ_ALLOCn_POWER]

def F.SEQ_REQn_DEMAND : Field := ⟨"DEMAND", 0, 64, .ro, .l⟩
def R.SEQ_REQn : RegSpec where
  name := "SEQ_REQn"
  base := 0xA0010
  dims := [(128, 6)]
  rst := 0x0
  rstAt := []
  rd := ⟨.always, .always, .always, .always, .always, .never, .plain⟩
  wr := ⟨.never, .never, .never, .never, .never, .never, .plain⟩
  fields := [F.SEQ_REQn_DEMAND]

def F.SEQ_ICAPn_CURRENT : Field := ⟨"CURRENT", 0, 64, .ro, .l⟩
def R.SEQ_ICAPn : RegSpec where
  name := "SEQ_ICAPn"
  base := 0xA0018
  dims := [(128, 6)]
  rst := 0x0
  rstAt := []
  rd := ⟨.always, .always, .always, .always, .always, .never, .plain⟩
  wr := ⟨.never, .never, .never, .never, .never, .never, .plain⟩
  fields := [F.SEQ_ICAPn_CURRENT]

def F.SEQ_TEMPn_TEMP : Field := ⟨"TEMP", 0, 64, .ro, .l⟩
def R.SEQ_TEMPn : RegSpec where
  name := "SEQ_TEMPn"
  base := 0xA0020
  dims := [(128, 6)]
  rst := 0x0
  rstAt := []
  rd := ⟨.always, .always, .always, .always, .always, .never, .plain⟩
  wr := ⟨.never, .never, .never, .never, .never, .never, .plain⟩
  fields := [F.SEQ_TEMPn_TEMP]

def F.SEQ_LIMITn_LIMITER : Field := ⟨"LIMITER", 0, 4, .ro, .l⟩
def F.SEQ_LIMITn_PRIORITY : Field := ⟨"PRIORITY", 8, 2, .ro, .l⟩
def F.SEQ_LIMITn_PUMP_ON : Field := ⟨"PUMP_ON", 10, 1, .ro, .l⟩
def F.SEQ_LIMITn_ZERO_CAP_S : Field := ⟨"ZERO_CAP_S", 16, 16, .ro, .l⟩
def R.SEQ_LIMITn : RegSpec where
  name := "SEQ_LIMITn"
  base := 0xA0028
  dims := [(128, 6)]
  rst := 0x0
  rstAt := []
  rd := ⟨.always, .always, .always, .always, .always, .never, .plain⟩
  wr := ⟨.never, .never, .never, .never, .never, .never, .plain⟩
  fields := [F.SEQ_LIMITn_LIMITER, F.SEQ_LIMITn_PRIORITY, F.SEQ_LIMITn_PUMP_ON, F.SEQ_LIMITn_ZERO_CAP_S]

def F.SEQ_CFGn_PRIORITY : Field := ⟨"PRIORITY", 0, 2, .rw, .l⟩
def F.SEQ_CFGn_SPEC : Field := ⟨"SPEC", 2, 1, .rw, .s⟩
def F.SEQ_CFGn_LOCK_SOURCE : Field := ⟨"LOCK_SOURCE", 4, 2, .rw, .s⟩
def F.SEQ_CFGn_LOCK_LS : Field := ⟨"LOCK_LS", 8, 5, .rw, .s⟩
def F.SEQ_CFGn_CHECK_V : Field := ⟨"CHECK_V", 16, 16, .rw, .s⟩
def F.SEQ_CFGn_PRECHARGE_HINT : Field := ⟨"PRECHARGE_HINT", 32, 16, .rw, .s⟩
def F.SEQ_CFGn_FLOOR_KW : Field := ⟨"FLOOR_KW", 48, 16, .rw, .l⟩
def R.SEQ_CFGn : RegSpec where
  name := "SEQ_CFGn"
  base := 0xA0030
  dims := [(128, 6)]
  rst := 0xA019001C21F25
  rstAt := []
  rd := ⟨.always, .always, .always, .always, .always, .never, .plain⟩
  wr := ⟨.never, .never, .always, .never, .door, .never, .plain⟩
  fields := [F.SEQ_CFGn_PRIORITY, F.SEQ_CFGn_SPEC, F.SEQ_CFGn_LOCK_SOURCE, F.SEQ_CFGn_LOCK_LS, F.SEQ_CFGn_CHECK_V, F.SEQ_CFGn_PRECHARGE_HINT, F.SEQ_CFGn_FLOOR_KW]

def F.SEQ_THERMCFGn_SOURCE : Field := ⟨"SOURCE", 0, 9, .rw, .l⟩
def F.SEQ_THERMCFGn_T_DERATE : Field := ⟨"T_DERATE", 16, 8, .rw, .l⟩
def F.SEQ_THERMCFGn_T_MAX : Field := ⟨"T_MAX", 24, 8, .rw, .l⟩
def F.SEQ_THERMCFGn_PUMP_PG : Field := ⟨"PUMP_PG", 32, 3, .rw, .l⟩
def F.SEQ_THERMCFGn_PUMP_EN : Field := ⟨"PUMP_EN", 35, 1, .rw, .l⟩
def F.SEQ_THERMCFGn_MIN_DUTY : Field := ⟨"MIN_DUTY", 40, 8, .rw, .l⟩
def F.SEQ_THERMCFGn_POST_RUN : Field := ⟨"POST_RUN", 48, 16, .rw, .l⟩
def R.SEQ_THERMCFGn : RegSpec where
  name := "SEQ_THERMCFGn"
  base := 0xA0038
  dims := [(128, 6)]
  rst := 0x781E005A5001FF
  rstAt := []
  rd := ⟨.always, .always, .always, .always, .always, .never, .plain⟩
  wr := ⟨.never, .never, .always, .never, .door, .never, .plain⟩
  fields := [F.SEQ_THERMCFGn_SOURCE, F.SEQ_THERMCFGn_T_DERATE, F.SEQ_THERMCFGn_T_MAX, F.SEQ_THERMCFGn_PUMP_PG, F.SEQ_THERMCFGn_PUMP_EN, F.SEQ_THERMCFGn_MIN_DUTY, F.SEQ_THERMCFGn_POST_RUN]

def F.SEQ_CAPn_POWER : Field := ⟨"POWER", 0, 64, .rw, .l⟩
def R.SEQ_CAPn : RegSpec where
  name := "SEQ_CAPn"
  base := 0xA0040
  dims := [(128, 6)]
  rst := 0x0
  rstAt := []
  rd := ⟨.always, .always, .always, .always, .always, .never, .plain⟩
  wr := ⟨.never, .never, .always, .never, .door, .never, .plain⟩
  fields := [F.SEQ_CAPn_POWER]

def F.SEQ_SITE_LIMIT_POWER : Field := ⟨"POWER", 0, 64, .rw, .l⟩
def R.SEQ_SITE_LIMIT : RegSpec where
  name := "SEQ_SITE_LIMIT"
  base := 0xA0400
  dims := []
  rst := 0x7FFFFFFFFFFFFFFF
  rstAt := []
  rd := ⟨.always, .always, .always, .always, .always, .never, .plain⟩
  wr := ⟨.never, .never, .always, .never, .never, .never, .plain⟩
  fields := [F.SEQ_SITE_LIMIT_POWER]

def F.SEQ_SITE_EXPORT_POWER : Field := ⟨"POWER", 0, 64, .rw, .l⟩
def R.SEQ_SITE_EXPORT : RegSpec where
  name := "SEQ_SITE_EXPORT"
  base := 0xA0408
  dims := []
  rst := 0x0
  rstAt := []
  rd := ⟨.always, .always, .always, .always, .always, .never, .plain⟩
  wr := ⟨.never, .never, .always, .never, .never, .never, .plain⟩
  fields := [F.SEQ_SITE_EXPORT_POWER]

def F.SEQ_GUARD_CONTRACT_POWER : Field := ⟨"POWER", 0, 64, .rw, .l⟩
def R.SEQ_GUARD_CONTRACT : RegSpec where
  name := "SEQ_GUARD_CONTRACT"
  base := 0xA0410
  dims := []
  rst := 0x0
  rstAt := []
  rd := ⟨.always, .always, .always, .always, .always, .never, .plain⟩
  wr := ⟨.never, .never, .always, .never, .never, .never, .plain⟩
  fields := [F.SEQ_GUARD_CONTRACT_POWER]

def F.SEQ_GUARD_CFG_MARGIN : Field := ⟨"MARGIN", 0, 10, .rw, .l⟩
def F.SEQ_GUARD_CFG_SHARE : Field := ⟨"SHARE", 16, 1, .rw, .l⟩
def F.SEQ_GUARD_CFG_NODE_PRIO : Field := ⟨"NODE_PRIO", 24, 2, .rw, .l⟩
def R.SEQ_GUARD_CFG : RegSpec where
  name := "SEQ_GUARD_CFG"
  base := 0xA0418
  dims := []
  rst := 0x1000014
  rstAt := []
  rd := ⟨.always, .always, .always, .always, .always, .never, .plain⟩
  wr := ⟨.never, .never, .always, .never, .never, .never, .plain⟩
  fields := [F.SEQ_GUARD_CFG_MARGIN, F.SEQ_GUARD_CFG_SHARE, F.SEQ_GUARD_CFG_NODE_PRIO]

def F.SEQ_GUARD_POWER_POWER : Field := ⟨"POWER", 0, 64, .ro, .l⟩
def R.SEQ_GUARD_POWER : RegSpec where
  name := "SEQ_GUARD_POWER"
  base := 0xA0420
  dims := []
  rst := 0x0
  rstAt := []
  rd := ⟨.always, .always, .always, .always, .always, .never, .plain⟩
  wr := ⟨.never, .never, .never, .never, .never, .never, .plain⟩
  fields := [F.SEQ_GUARD_POWER_POWER]

def F.SEQ_BUDGET_POWER : Field := ⟨"POWER", 0, 64, .ro, .l⟩
def R.SEQ_BUDGET : RegSpec where
  name := "SEQ_BUDGET"
  base := 0xA0428
  dims := []
  rst := 0x0
  rstAt := []
  rd := ⟨.always, .always, .always, .always, .always, .never, .plain⟩
  wr := ⟨.never, .never, .never, .never, .never, .never, .plain⟩
  fields := [F.SEQ_BUDGET_POWER]

def F.SEQ_MESH_SHARE_POWER : Field := ⟨"POWER", 0, 64, .ro, .l⟩
def R.SEQ_MESH_SHARE : RegSpec where
  name := "SEQ_MESH_SHARE"
  base := 0xA0430
  dims := []
  rst := 0x0
  rstAt := []
  rd := ⟨.always, .always, .always, .always, .always, .never, .plain⟩
  wr := ⟨.never, .never, .never, .never, .never, .never, .plain⟩
  fields := [F.SEQ_MESH_SHARE_POWER]

def F.SEQ_SITE_STAT_SOURCE : Field := ⟨"SOURCE", 0, 4, .ro, .l⟩
def F.SEQ_SITE_STAT_GUARD_BLIND : Field := ⟨"GUARD_BLIND", 4, 1, .ro, .l⟩
def F.SEQ_SITE_STAT_MESH_FALLBACK : Field := ⟨"MESH_FALLBACK", 5, 1, .ro, .l⟩
def F.SEQ_SITE_STAT_DEGRADED : Field := ⟨"DEGRADED", 6, 1, .ro, .l⟩
def F.SEQ_SITE_STAT_NODES : Field := ⟨"NODES", 16, 6, .ro, .l⟩
def F.SEQ_SITE_STAT_DEG_LEFT : Field := ⟨"DEG_LEFT", 32, 16, .ro, .l⟩
def R.SEQ_SITE_STAT : RegSpec where
  name := "SEQ_SITE_STAT"
  base := 0xA0438
  dims := []
  rst := 0x0
  rstAt := []
  rd := ⟨.always, .always, .always, .always, .always, .never, .plain⟩
  wr := ⟨.never, .never, .never, .never, .never, .never, .plain⟩
  fields := [F.SEQ_SITE_STAT_SOURCE, F.SEQ_SITE_STAT_GUARD_BLIND, F.SEQ_SITE_STAT_MESH_FALLBACK, F.SEQ_SITE_STAT_DEGRADED, F.SEQ_SITE_STAT_NODES, F.SEQ_SITE_STAT_DEG_LEFT]

def F.SEQ_CMD_OUTPUTS : Field := ⟨"OUTPUTS", 0, 6, .wo, .l⟩
def F.SEQ_CMD_OP : Field := ⟨"OP", 8, 4, .wo, .l⟩
def R.SEQ_CMD : RegSpec where
  name := "SEQ_CMD"
  base := 0xA0440
  dims := []
  rst := 0x0
  rstAt := []
  rd := ⟨.never, .never, .never, .never, .never, .never, .plain⟩
  wr := ⟨.never, .never, .always, .never, .door, .never, .plain⟩
  fields := [F.SEQ_CMD_OUTPUTS, F.SEQ_CMD_OP]

def F.SEQ_CABk_STATE : Field := ⟨"STATE", 0, 3, .ro, .l⟩
def F.SEQ_CABk_ON_A : Field := ⟨"ON_A", 3, 1, .ro, .l⟩
def F.SEQ_CABk_ON_B : Field := ⟨"ON_B", 4, 1, .ro, .l⟩
def F.SEQ_CABk_DISAGREE : Field := ⟨"DISAGREE", 16, 16, .ro, .l⟩
def F.SEQ_CABk_TEMP : Field := ⟨"TEMP", 32, 16, .ro, .l⟩
def F.SEQ_CABk_LOSSES : Field := ⟨"LOSSES", 48, 16, .ro, .l⟩
def R.SEQ_CABk : RegSpec where
  name := "SEQ_CABk"
  base := 0xA0500
  dims := [(8, 8)]
  rst := 0x0
  rstAt := []
  rd := ⟨.always, .always, .always, .never, .always, .never, .plain⟩
  wr := ⟨.never, .never, .never, .never, .never, .never, .plain⟩
  fields := [F.SEQ_CABk_STATE, F.SEQ_CABk_ON_A, F.SEQ_CABk_ON_B, F.SEQ_CABk_DISAGREE, F.SEQ_CABk_TEMP, F.SEQ_CABk_LOSSES]

def F.SEQ_CABPk_POWER : Field := ⟨"POWER", 0, 64, .ro, .l⟩
def R.SEQ_CABPk : RegSpec where
  name := "SEQ_CABPk"
  base := 0xA0540
  dims := [(8, 8)]
  rst := 0x0
  rstAt := []
  rd := ⟨.always, .always, .always, .never, .always, .never, .plain⟩
  wr := ⟨.never, .never, .never, .never, .never, .never, .plain⟩
  fields := [F.SEQ_CABPk_POWER]

/-- The registers of block SEQ. -/
def regsSeq : List RegSpec :=
  [R.SEQ_STATEn, R.SEQ_ALLOCn, R.SEQ_REQn, R.SEQ_ICAPn, R.SEQ_TEMPn, R.SEQ_LIMITn,
   R.SEQ_CFGn, R.SEQ_THERMCFGn, R.SEQ_CAPn, R.SEQ_SITE_LIMIT, R.SEQ_SITE_EXPORT, R.SEQ_GUARD_CONTRACT,
   R.SEQ_GUARD_CFG, R.SEQ_GUARD_POWER, R.SEQ_BUDGET, R.SEQ_MESH_SHARE, R.SEQ_SITE_STAT, R.SEQ_CMD,
   R.SEQ_CABk, R.SEQ_CABPk]

/-! ### Block FG -/

def F.FG_STATUS_STATE : Field := ⟨"STATE", 0, 2, .ro, .l⟩
def F.FG_STATUS_DEGRADED : Field := ⟨"DEGRADED", 2, 1, .ro, .l⟩
def F.FG_STATUS_LANE_OK : Field := ⟨"LANE_OK", 3, 1, .ro, .l⟩
def F.FG_STATUS_CLOCK_OK : Field := ⟨"CLOCK_OK", 4, 1, .ro, .l⟩
def F.FG_STATUS_FAULT_N : Field := ⟨"FAULT_N", 5, 1, .ro, .l⟩
def F.FG_STATUS_RESETS : Field := ⟨"RESETS", 16, 16, .ro, .l⟩
def F.FG_STATUS_LAST_RESET : Field := ⟨"LAST_RESET", 32, 3, .ro, .l⟩
def R.FG_STATUS : RegSpec where
  name := "FG_STATUS"
  base := 0xB0000
  dims := []
  rst := 0x20
  rstAt := []
  rd := ⟨.always, .always, .always, .always, .always, .always, .plain⟩
  wr := ⟨.never, .never, .never, .never, .never, .never, .plain⟩
  fields := [F.FG_STATUS_STATE, F.FG_STATUS_DEGRADED, F.FG_STATUS_LANE_OK, F.FG_STATUS_CLOCK_OK, F.FG_STATUS_FAULT_N, F.FG_STATUS_RESETS, F.FG_STATUS_LAST_RESET]

def F.FG_NET_A_OK : Field := ⟨"A_OK", 0, 1, .ro, .l⟩
def F.FG_NET_B_OK : Field := ⟨"B_OK", 1, 1, .ro, .l⟩
def F.FG_NET_DEG_CAUSE : Field := ⟨"DEG_CAUSE", 2, 2, .ro, .l⟩
def F.FG_NET_SEEN_DISAGREE : Field := ⟨"SEEN_DISAGREE", 4, 1, .lh, .l⟩
def F.FG_NET_WINDOW_US : Field := ⟨"WINDOW_US", 8, 8, .ro, .l⟩
def F.FG_NET_DISAGREE : Field := ⟨"DISAGREE", 16, 16, .ro, .l⟩
def F.FG_NET_DEG_ENTRIES : Field := ⟨"DEG_ENTRIES", 32, 16, .ro, .l⟩
def F.FG_NET_GOOD_S : Field := ⟨"GOOD_S", 48, 16, .ro, .l⟩
def R.FG_NET : RegSpec where
  name := "FG_NET"
  base := 0xB0008
  dims := []
  rst := 0x1400
  rstAt := []
  rd := ⟨.always, .always, .always, .never, .always, .never, .plain⟩
  wr := ⟨.never, .never, .never, .never, .never, .never, .plain⟩
  fields := [F.FG_NET_A_OK, F.FG_NET_B_OK, F.FG_NET_DEG_CAUSE, F.FG_NET_SEEN_DISAGREE, F.FG_NET_WINDOW_US, F.FG_NET_DISAGREE, F.FG_NET_DEG_ENTRIES, F.FG_NET_GOOD_S]

def F.FG_GUARD_TESTED : Field := ⟨"TESTED", 0, 1, .ro, .l⟩
def F.FG_GUARD_OPEN : Field := ⟨"OPEN", 1, 1, .ro, .l⟩
def F.FG_GUARD_FAULT : Field := ⟨"FAULT", 2, 1, .ro, .l⟩
def F.FG_GUARD_DEMAND : Field := ⟨"DEMAND", 3, 3, .ro, .l⟩
def F.FG_GUARD_SEEN_OPEN : Field := ⟨"SEEN_OPEN", 6, 1, .ro, .l⟩
def F.FG_GUARD_LEVELS : Field := ⟨"LEVELS", 8, 2, .ro, .l⟩
def F.FG_GUARD_DEMANDS : Field := ⟨"DEMANDS", 32, 32, .ro, .l⟩
def R.FG_GUARD : RegSpec where
  name := "FG_GUARD"
  base := 0xB0010
  dims := []
  rst := 0x0
  rstAt := []
  rd := ⟨.always, .always, .always, .always, .always, .always, .plain⟩
  wr := ⟨.never, .never, .never, .never, .never, .never, .plain⟩
  fields := [F.FG_GUARD_TESTED, F.FG_GUARD_OPEN, F.FG_GUARD_FAULT, F.FG_GUARD_DEMAND, F.FG_GUARD_SEEN_OPEN, F.FG_GUARD_LEVELS, F.FG_GUARD_DEMANDS]

def F.FG_SAFEOFF_TRIGGER : Field := ⟨"TRIGGER", 0, 4, .ro, .l⟩
def F.FG_SAFEOFF_OUTPUTS : Field := ⟨"OUTPUTS", 4, 6, .ro, .l⟩
def F.FG_SAFEOFF_FORCED : Field := ⟨"FORCED", 10, 6, .ro, .l⟩
def F.FG_SAFEOFF_DURATION_US : Field := ⟨"DURATION_US", 16, 16, .ro, .l⟩
def F.FG_SAFEOFF_COUNT : Field := ⟨"COUNT", 32, 32, .ro, .l⟩
def R.FG_SAFEOFF : RegSpec where
  name := "FG_SAFEOFF"
  base := 0xB0018
  dims := []
  rst := 0x0
  rstAt := []
  rd := ⟨.always, .always, .always, .never, .always, .never, .plain⟩
  wr := ⟨.never, .never, .never, .never, .never, .never, .plain⟩
  fields := [F.FG_SAFEOFF_TRIGGER, F.FG_SAFEOFF_OUTPUTS, F.FG_SAFEOFF_FORCED, F.FG_SAFEOFF_DURATION_US, F.FG_SAFEOFF_COUNT]

def F.FG_OUTn_HV_EN : Field := ⟨"HV_EN", 0, 1, .ro, .l⟩
def F.FG_OUTn_GATE : Field := ⟨"GATE", 1, 1, .ro, .l⟩
def F.FG_OUTn_REQUEST : Field := ⟨"REQUEST", 2, 1, .ro, .l⟩
def F.FG_OUTn_LATCHED : Field := ⟨"LATCHED", 3, 1, .ro, .l⟩
def F.FG_OUTn_REASON : Field := ⟨"REASON", 4, 4, .ro, .l⟩
def F.FG_OUTn_MIRROR_OPEN : Field := ⟨"MIRROR_OPEN", 8, 1, .ro, .l⟩
def F.FG_OUTn_WELDED : Field := ⟨"WELDED", 9, 1, .ro, .l⟩
def F.FG_OUTn_LINES : Field := ⟨"LINES", 16, 16, .ro, .l⟩
def F.FG_OUTn_DROPS : Field := ⟨"DROPS", 32, 16, .ro, .l⟩
def R.FG_OUTn : RegSpec where
  name := "FG_OUTn"
  base := 0xB0100
  dims := [(8, 6)]
  rst := 0x0
  rstAt := []
  rd := ⟨.always, .always, .always, .always, .always, .always, .plain⟩
  wr := ⟨.never, .never, .never, .never, .never, .never, .plain⟩
  fields := [F.FG_OUTn_HV_EN, F.FG_OUTn_GATE, F.FG_OUTn_REQUEST, F.FG_OUTn_LATCHED, F.FG_OUTn_REASON, F.FG_OUTn_MIRROR_OPEN, F.FG_OUTn_WELDED, F.FG_OUTn_LINES, F.FG_OUTn_DROPS]

def F.FG_ISOCFGn_SRC_UP : Field := ⟨"SRC_UP", 0, 9, .rw, .x⟩
def F.FG_ISOCFGn_SRC_UM : Field := ⟨"SRC_UM", 16, 9, .rw, .x⟩
def F.FG_ISOCFGn_LS_POS : Field := ⟨"LS_POS", 32, 5, .rw, .x⟩
def F.FG_ISOCFGn_LS_NEG : Field := ⟨"LS_NEG", 40, 5, .rw, .x⟩
def F.FG_ISOCFGn_RB_KOHM : Field := ⟨"RB_KOHM", 48, 16, .rw, .x⟩
def R.FG_ISOCFGn : RegSpec where
  name := "FG_ISOCFGn"
  base := 0xB0200
  dims := [(8, 4)]
  rst := 0x1F1F01FF01FF
  rstAt := []
  rd := ⟨.always, .never, .always, .always, .always, .never, .plain⟩
  wr := ⟨.never, .never, .always, .never, .door, .never, .plain⟩
  fields := [F.FG_ISOCFGn_SRC_UP, F.FG_ISOCFGn_SRC_UM, F.FG_ISOCFGn_LS_POS, F.FG_ISOCFGn_LS_NEG, F.FG_ISOCFGn_RB_KOHM]

def F.FG_ISOLIMn_WARN : Field := ⟨"WARN", 0, 12, .rw, .x⟩
def F.FG_ISOLIMn_FAULT : Field := ⟨"FAULT", 16, 12, .rw, .x⟩
def F.FG_ISOLIMn_T_HALF : Field := ⟨"T_HALF", 32, 11, .rw, .x⟩
def F.FG_ISOLIMn_RDIV_KOHM : Field := ⟨"RDIV_KOHM", 48, 16, .rw, .x⟩
def R.FG_ISOLIMn : RegSpec where
  name := "FG_ISOLIMn"
  base := 0xB0220
  dims := [(8, 4)]
  rst := 0xFA006401F4
  rstAt := []
  rd := ⟨.always, .never, .always, .always, .always, .never, .plain⟩
  wr := ⟨.never, .never, .always, .never, .door, .never, .plain⟩
  fields := [F.FG_ISOLIMn_WARN, F.FG_ISOLIMn_FAULT, F.FG_ISOLIMn_T_HALF, F.FG_ISOLIMn_RDIV_KOHM]

def F.FG_ISOn_R_ISO : Field := ⟨"R_ISO", 0, 32, .ro, .l⟩
def F.FG_ISOn_LEVEL : Field := ⟨"LEVEL", 32, 2, .ro, .l⟩
def F.FG_ISOn_RUNNING : Field := ⟨"RUNNING", 34, 1, .ro, .l⟩
def F.FG_ISOn_INVALID : Field := ⟨"INVALID", 35, 1, .lh, .l⟩
def F.FG_ISOn_CHECK : Field := ⟨"CHECK", 36, 3, .ro, .l⟩
def F.FG_ISOn_CHECK_V : Field := ⟨"CHECK_V", 40, 16, .ro, .l⟩
def R.FG_ISOn : RegSpec where
  name := "FG_ISOn"
  base := 0xB0240
  dims := [(8, 4)]
  rst := 0x0
  rstAt := []
  rd := ⟨.always, .always, .always, .always, .always, .always, .plain⟩
  wr := ⟨.never, .never, .never, .never, .never, .never, .plain⟩
  fields := [F.FG_ISOn_R_ISO, F.FG_ISOn_LEVEL, F.FG_ISOn_RUNNING, F.FG_ISOn_INVALID, F.FG_ISOn_CHECK, F.FG_ISOn_CHECK_V]

def F.FG_RCDCFGk_PORT : Field := ⟨"PORT", 0, 3, .rw, .x⟩
def F.FG_RCDCFGk_EN : Field := ⟨"EN", 3, 1, .rw, .x⟩
def F.FG_RCDCFGk_FREQ60 : Field := ⟨"FREQ60", 4, 1, .rw, .x⟩
def F.FG_RCDCFGk_TEST_MA : Field := ⟨"TEST_MA", 8, 8, .rw, .x⟩
def F.FG_RCDCFGk_FS_MA : Field := ⟨"FS_MA", 16, 16, .rw, .x⟩
def F.FG_RCDCFGk_TEST_LS : Field := ⟨"TEST_LS", 32, 5, .rw, .x⟩
def R.FG_RCDCFGk : RegSpec where
  name := "FG_RCDCFGk"
  base := 0xB0280
  dims := [(8, 2)]
  rst := 0x1F00000A00
  rstAt := []
  rd := ⟨.always, .never, .always, .always, .always, .never, .plain⟩
  wr := ⟨.never, .never, .always, .never, .door, .never, .plain⟩
  fields := [F.FG_RCDCFGk_PORT, F.FG_RCDCFGk_EN, F.FG_RCDCFGk_FREQ60, F.FG_RCDCFGk_TEST_MA, F.FG_RCDCFGk_FS_MA, F.FG_RCDCFGk_TEST_LS]

def F.FG_RCDk_DC : Field := ⟨"DC", 0, 16, .ro, .l⟩
def F.FG_RCDk_AC_RMS : Field := ⟨"AC_RMS", 16, 16, .ro, .l⟩
def F.FG_RCDk_TRIPPED : Field := ⟨"TRIPPED", 32, 1, .ro, .l⟩
def F.FG_RCDk_TEST_OK : Field := ⟨"TEST_OK", 33, 1, .ro, .l⟩
def F.FG_RCDk_INVALID : Field := ⟨"INVALID", 34, 1, .lh, .l⟩
def F.FG_RCDk_RULE : Field := ⟨"RULE", 36, 3, .ro, .l⟩
def F.FG_RCDk_TEST_AGE : Field := ⟨"TEST_AGE", 48, 16, .ro, .l⟩
def R.FG_RCDk : RegSpec where
  name := "FG_RCDk"
  base := 0xB0290
  dims := [(8, 2)]
  rst := 0x0
  rstAt := []
  rd := ⟨.always, .always, .always, .always, .always, .always, .plain⟩
  wr := ⟨.never, .never, .never, .never, .never, .never, .plain⟩
  fields := [F.FG_RCDk_DC, F.FG_RCDk_AC_RMS, F.FG_RCDk_TRIPPED, F.FG_RCDk_TEST_OK, F.FG_RCDk_INVALID, F.FG_RCDk_RULE, F.FG_RCDk_TEST_AGE]

def F.FG_WELDCFGn_MIRROR_POS : Field := ⟨"MIRROR_POS", 0, 5, .rw, .x⟩
def F.FG_WELDCFGn_MIRROR_NEG : Field := ⟨"MIRROR_NEG", 8, 5, .rw, .x⟩
def F.FG_WELDCFGn_VCHECK : Field := ⟨"VCHECK", 16, 1, .rw, .x⟩
def R.FG_WELDCFGn : RegSpec where
  name := "FG_WELDCFGn"
  base := 0xB0300
  dims := [(8, 6)]
  rst := 0x1F1F
  rstAt := []
  rd := ⟨.always, .never, .always, .always, .always, .never, .plain⟩
  wr := ⟨.never, .never, .always, .never, .door, .never, .plain⟩
  fields := [F.FG_WELDCFGn_MIRROR_POS, F.FG_WELDCFGn_MIRROR_NEG, F.FG_WELDCFGn_VCHECK]

/-- The registers of block FG. -/
def regsFg : List RegSpec :=
  [R.FG_STATUS, R.FG_NET, R.FG_GUARD, R.FG_SAFEOFF, R.FG_OUTn, R.FG_ISOCFGn,
   R.FG_ISOLIMn, R.FG_ISOn, R.FG_RCDCFGk, R.FG_RCDk, R.FG_WELDCFGn]

/-! ### Block LSW -/

def F.LSW_STATUS_VAUX_MV : Field := ⟨"VAUX_MV", 0, 16, .ro, .l⟩
def F.LSW_STATUS_UV : Field := ⟨"UV", 16, 1, .ro, .l⟩
def F.LSW_STATUS_UV_SEEN : Field := ⟨"UV_SEEN", 17, 1, .lh, .l⟩
def F.LSW_STATUS_TOTAL : Field := ⟨"TOTAL", 32, 16, .ro, .l⟩
def R.LSW_STATUS : RegSpec where
  name := "LSW_STATUS"
  base := 0xC0000
  dims := []
  rst := 0x0
  rstAt := []
  rd := ⟨.always, .always, .always, .always, .always, .always, .plain⟩
  wr := ⟨.never, .never, .never, .never, .never, .never, .plain⟩
  fields := [F.LSW_STATUS_VAUX_MV, F.LSW_STATUS_UV, F.LSW_STATUS_UV_SEEN, F.LSW_STATUS_TOTAL]

def F.LSW_ON_ON : Field := ⟨"ON", 0, 24, .rw, .l⟩
def R.LSW_ON : RegSpec where
  name := "LSW_ON"
  base := 0xC0008
  dims := []
  rst := 0x0
  rstAt := []
  rd := ⟨.always, .always, .always, .always, .always, .never, .plain⟩
  wr := ⟨.never, .never, .always, .never, .door, .never, .plain⟩
  fields := [F.LSW_ON_ON]

def F.LSW_CLEAR_CLEAR : Field := ⟨"CLEAR", 0, 24, .wo, .l⟩
def R.LSW_CLEAR : RegSpec where
  name := "LSW_CLEAR"
  base := 0xC0010
  dims := []
  rst := 0x0
  rstAt := []
  rd := ⟨.never, .never, .never, .never, .never, .never, .plain⟩
  wr := ⟨.never, .never, .always, .never, .door, .never, .plain⟩
  fields := [F.LSW_CLEAR_CLEAR]

def F.LSW_PGk_PERIOD : Field := ⟨"PERIOD", 0, 16, .rw, .l⟩
def F.LSW_PGk_DUTY : Field := ⟨"DUTY", 16, 9, .rw, .x⟩
def F.LSW_PGk_OWNED : Field := ⟨"OWNED", 25, 1, .ro, .l⟩
def R.LSW_PGk : RegSpec where
  name := "LSW_PGk"
  base := 0xC0040
  dims := [(8, 8)]
  rst := 0xFA0
  rstAt := []
  rd := ⟨.always, .always, .always, .always, .always, .never, .plain⟩
  wr := ⟨.never, .never, .always, .never, .door, .never, .plain⟩
  fields := [F.LSW_PGk_PERIOD, F.LSW_PGk_DUTY, F.LSW_PGk_OWNED]

def F.LSW_CFGn_MODE : Field := ⟨"MODE", 0, 4, .rw, .x⟩
def F.LSW_CFGn_OUTPUT : Field := ⟨"OUTPUT", 4, 3, .rw, .x⟩
def F.LSW_CFGn_PG : Field := ⟨"PG", 8, 3, .rw, .l⟩
def F.LSW_CFGn_HOLD : Field := ⟨"HOLD", 11, 1, .rw, .l⟩
def F.LSW_CFGn_RANGE : Field := ⟨"RANGE", 12, 1, .rw, .l⟩
def F.LSW_CFGn_RETRY_MAX : Field := ⟨"RETRY_MAX", 16, 4, .rw, .s⟩
def F.LSW_CFGn_RETRY_DELAY : Field := ⟨"RETRY_DELAY", 20, 8, .rw, .l⟩
def F.LSW_CFGn_LIMIT_TIME : Field := ⟨"LIMIT_TIME", 32, 8, .rw, .l⟩
def F.LSW_CFGn_PULLIN : Field := ⟨"PULLIN", 40, 8, .rw, .s⟩
def F.LSW_CFGn_PHASE : Field := ⟨"PHASE", 48, 8, .rw, .l⟩
def F.LSW_CFGn_OPEN_TH : Field := ⟨"OPEN_TH", 56, 8, .rw, .l⟩
def R.LSW_CFGn : RegSpec where
  name := "LSW_CFGn"
  base := 0xC0100
  dims := [(8, 24)]
  rst := 0x500323200A30000
  rstAt := []
  rd := ⟨.always, .always, .always, .always, .always, .never, .plain⟩
  wr := ⟨.never, .never, .always, .never, .door, .never, .plain⟩
  fields := [F.LSW_CFGn_MODE, F.LSW_CFGn_OUTPUT, F.LSW_CFGn_PG, F.LSW_CFGn_HOLD, F.LSW_CFGn_RANGE, F.LSW_CFGn_RETRY_MAX, F.LSW_CFGn_RETRY_DELAY, F.LSW_CFGn_LIMIT_TIME, F.LSW_CFGn_PULLIN, F.LSW_CFGn_PHASE, F.LSW_CFGn_OPEN_TH]

def F.LSW_STATn_STATE : Field := ⟨"STATE", 0, 3, .ro, .l⟩
def F.LSW_STATn_PENDING : Field := ⟨"PENDING", 3, 1, .ro, .l⟩
def F.LSW_STATn_OC_SEEN : Field := ⟨"OC_SEEN", 4, 1, .lh, .l⟩
def F.LSW_STATn_OPEN : Field := ⟨"OPEN", 5, 1, .lh, .l⟩
def F.LSW_STATn_LOAD_OFF : Field := ⟨"LOAD_OFF", 6, 1, .ro, .l⟩
def F.LSW_STATn_NEG : Field := ⟨"NEG", 7, 1, .lh, .l⟩
def F.LSW_STATn_HOT : Field := ⟨"HOT", 8, 1, .ro, .l⟩
def F.LSW_STATn_CLEAR_REFUSED : Field := ⟨"CLEAR_REFUSED", 9, 1, .lh, .l⟩
def F.LSW_STATn_LOCK : Field := ⟨"LOCK", 10, 2, .ro, .l⟩
def F.LSW_STATn_RETRY_LEFT : Field := ⟨"RETRY_LEFT", 12, 4, .ro, .l⟩
def F.LSW_STATn_CURRENT : Field := ⟨"CURRENT", 16, 16, .ro, .l⟩
def F.LSW_STATn_TRIPS : Field := ⟨"TRIPS", 32, 16, .ro, .l⟩
def R.LSW_STATn : RegSpec where
  name := "LSW_STATn"
  base := 0xC0200
  dims := [(8, 24)]
  rst := 0x0
  rstAt := []
  rd := ⟨.always, .always, .always, .always, .always, .always, .plain⟩
  wr := ⟨.never, .never, .never, .never, .never, .never, .plain⟩
  fields := [F.LSW_STATn_STATE, F.LSW_STATn_PENDING, F.LSW_STATn_OC_SEEN, F.LSW_STATn_OPEN, F.LSW_STATn_LOAD_OFF, F.LSW_STATn_NEG, F.LSW_STATn_HOT, F.LSW_STATn_CLEAR_REFUSED, F.LSW_STATn_LOCK, F.LSW_STATn_RETRY_LEFT, F.LSW_STATn_CURRENT, F.LSW_STATn_TRIPS]

/-- The registers of block LSW. -/
def regsLsw : List RegSpec :=
  [R.LSW_STATUS, R.LSW_ON, R.LSW_CLEAR, R.LSW_PGk, R.LSW_CFGn, R.LSW_STATn]

/-! ### Block NFC -/

def F.NFC_STATUS_STATE : Field := ⟨"STATE", 0, 3, .ro, .l⟩
def F.NFC_STATUS_FIELD : Field := ⟨"FIELD", 3, 1, .ro, .l⟩
def F.NFC_STATUS_HELD : Field := ⟨"HELD", 4, 3, .ro, .l⟩
def F.NFC_STATUS_EXTRA : Field := ⟨"EXTRA", 8, 8, .ro, .l⟩
def F.NFC_STATUS_DETECTS : Field := ⟨"DETECTS", 16, 16, .ro, .l⟩
def F.NFC_STATUS_FALSE_DETECTS : Field := ⟨"FALSE_DETECTS", 32, 16, .ro, .l⟩
def F.NFC_STATUS_CONSEC_FALSE : Field := ⟨"CONSEC_FALSE", 48, 8, .ro, .l⟩
def F.NFC_STATUS_RF_FAULT : Field := ⟨"RF_FAULT", 56, 1, .lh, .l⟩
def R.NFC_STATUS : RegSpec where
  name := "NFC_STATUS"
  base := 0xD0000
  dims := []
  rst := 0x0
  rstAt := []
  rd := ⟨.always, .always, .always, .always, .always, .always, .plain⟩
  wr := ⟨.never, .never, .never, .never, .never, .never, .plain⟩
  fields := [F.NFC_STATUS_STATE, F.NFC_STATUS_FIELD, F.NFC_STATUS_HELD, F.NFC_STATUS_EXTRA, F.NFC_STATUS_DETECTS, F.NFC_STATUS_FALSE_DETECTS, F.NFC_STATUS_CONSEC_FALSE, F.NFC_STATUS_RF_FAULT]

def F.NFC_RDCFG_ENABLE : Field := ⟨"ENABLE", 0, 1, .rw, .l⟩
def F.NFC_RDCFG_TYPE_A : Field := ⟨"TYPE_A", 1, 1, .rw, .l⟩
def F.NFC_RDCFG_TYPE_B : Field := ⟨"TYPE_B", 2, 1, .rw, .l⟩
def F.NFC_RDCFG_POWER : Field := ⟨"POWER", 8, 4, .rw, .l⟩
def F.NFC_RDCFG_PERIOD : Field := ⟨"PERIOD", 16, 10, .rw, .l⟩
def F.NFC_RDCFG_AMP_TH : Field := ⟨"AMP_TH", 32, 8, .rw, .l⟩
def F.NFC_RDCFG_PH_TH : Field := ⟨"PH_TH", 40, 8, .rw, .l⟩
def F.NFC_RDCFG_HOLD_MAX : Field := ⟨"HOLD_MAX", 48, 8, .rw, .l⟩
def R.NFC_RDCFG : RegSpec where
  name := "NFC_RDCFG"
  base := 0xD0008
  dims := []
  rst := 0x3C141E00FA0606
  rstAt := []
  rd := ⟨.always, .always, .always, .always, .always, .never, .plain⟩
  wr := ⟨.never, .never, .always, .never, .door, .never, .plain⟩
  fields := [F.NFC_RDCFG_ENABLE, F.NFC_RDCFG_TYPE_A, F.NFC_RDCFG_TYPE_B, F.NFC_RDCFG_POWER, F.NFC_RDCFG_PERIOD, F.NFC_RDCFG_AMP_TH, F.NFC_RDCFG_PH_TH, F.NFC_RDCFG_HOLD_MAX]

def F.NFC_LPCD_BASE_AMP : Field := ⟨"BASE_AMP", 0, 16, .ro, .l⟩
def F.NFC_LPCD_BASE_PH : Field := ⟨"BASE_PH", 16, 16, .ro, .l⟩
def F.NFC_LPCD_LAST_AMP : Field := ⟨"LAST_AMP", 32, 16, .ro, .l⟩
def F.NFC_LPCD_LAST_PH : Field := ⟨"LAST_PH", 48, 16, .ro, .l⟩
def R.NFC_LPCD : RegSpec where
  name := "NFC_LPCD"
  base := 0xD0010
  dims := []
  rst := 0x0
  rstAt := []
  rd := ⟨.always, .always, .always, .never, .always, .never, .plain⟩
  wr := ⟨.never, .never, .never, .never, .never, .never, .plain⟩
  fields := [F.NFC_LPCD_BASE_AMP, F.NFC_LPCD_BASE_PH, F.NFC_LPCD_LAST_AMP, F.NFC_LPCD_LAST_PH]

def F.NFC_TEST_MODE : Field := ⟨"MODE", 0, 2, .rw, .l⟩
def F.NFC_TEST_LEFT_S : Field := ⟨"LEFT_S", 16, 10, .ro, .l⟩
def R.NFC_TEST : RegSpec where
  name := "NFC_TEST"
  base := 0xD0018
  dims := []
  rst := 0x0
  rstAt := []
  rd := ⟨.always, .never, .always, .never, .always, .never, .plain⟩
  wr := ⟨.never, .never, .never, .never, .door, .never, .plain⟩
  fields := [F.NFC_TEST_MODE, F.NFC_TEST_LEFT_S]

def F.NFC_CARDINFOk_PRESENT : Field := ⟨"PRESENT", 0, 1, .ro, .l⟩
def F.NFC_CARDINFOk_PARKED : Field := ⟨"PARKED", 1, 1, .ro, .l⟩
def F.NFC_CARDINFOk_TECH : Field := ⟨"TECH", 2, 1, .ro, .l⟩
def F.NFC_CARDINFOk_ISODEP : Field := ⟨"ISODEP", 3, 1, .ro, .l⟩
def F.NFC_CARDINFOk_RANDOM : Field := ⟨"RANDOM", 4, 1, .ro, .l⟩
def F.NFC_CARDINFOk_UID_LEN : Field := ⟨"UID_LEN", 8, 4, .ro, .l⟩
def F.NFC_CARDINFOk_SID : Field := ⟨"SID", 16, 6, .ro, .l⟩
def F.NFC_CARDINFOk_SAK : Field := ⟨"SAK", 24, 8, .ro, .l⟩
def F.NFC_CARDINFOk_ATQA : Field := ⟨"ATQA", 32, 16, .ro, .l⟩
def F.NFC_CARDINFOk_AGE_S : Field := ⟨"AGE_S", 48, 16, .ro, .l⟩
def R.NFC_CARDINFOk : RegSpec where
  name := "NFC_CARDINFOk"
  base := 0xD0100
  dims := [(8, 4)]
  rst := 0x0
  rstAt := []
  rd := ⟨.always, .always, .always, .always, .always, .never, .plain⟩
  wr := ⟨.never, .never, .never, .never, .never, .never, .plain⟩
  fields := [F.NFC_CARDINFOk_PRESENT, F.NFC_CARDINFOk_PARKED, F.NFC_CARDINFOk_TECH, F.NFC_CARDINFOk_ISODEP, F.NFC_CARDINFOk_RANDOM, F.NFC_CARDINFOk_UID_LEN, F.NFC_CARDINFOk_SID, F.NFC_CARDINFOk_SAK, F.NFC_CARDINFOk_ATQA, F.NFC_CARDINFOk_AGE_S]

def F.NFC_CARDUIDk_w_UID : Field := ⟨"UID", 0, 64, .ro, .l⟩
def R.NFC_CARDUIDk_w : RegSpec where
  name := "NFC_CARDUIDk_w"
  base := 0xD0140
  dims := [(16, 4), (8, 2)]
  rst := 0x0
  rstAt := []
  rd := ⟨.always, .never, .always, .never, .never, .never, .plain⟩
  wr := ⟨.never, .never, .never, .never, .never, .never, .plain⟩
  fields := [F.NFC_CARDUIDk_w_UID]

def F.NFC_CARDPk_PSEUDONYM : Field := ⟨"PSEUDONYM", 0, 64, .ro, .l⟩
def R.NFC_CARDPk : RegSpec where
  name := "NFC_CARDPk"
  base := 0xD0180
  dims := [(8, 4)]
  rst := 0x0
  rstAt := []
  rd := ⟨.always, .never, .never, .always, .never, .never, .plain⟩
  wr := ⟨.never, .never, .never, .never, .never, .never, .plain⟩
  fields := [F.NFC_CARDPk_PSEUDONYM]

def F.NFC_BIND_CARD : Field := ⟨"CARD", 0, 2, .wo, .l⟩
def F.NFC_BIND_OUTPUT : Field := ⟨"OUTPUT", 8, 3, .wo, .l⟩
def R.NFC_BIND : RegSpec where
  name := "NFC_BIND"
  base := 0xD01A0
  dims := []
  rst := 0x0
  rstAt := []
  rd := ⟨.never, .never, .never, .never, .never, .never, .plain⟩
  wr := ⟨.never, .never, .always, .never, .never, .never, .plain⟩
  fields := [F.NFC_BIND_CARD, F.NFC_BIND_OUTPUT]

def F.NFC_XCHG_CARD : Field := ⟨"CARD", 0, 2, .rw, .x⟩
def F.NFC_XCHG_KIND : Field := ⟨"KIND", 2, 1, .rw, .x⟩
def F.NFC_XCHG_LEN : Field := ⟨"LEN", 16, 10, .rw, .x⟩
def F.NFC_XCHG_GO : Field := ⟨"GO", 31, 1, .wo, .x⟩
def F.NFC_XCHG_STATE : Field := ⟨"STATE", 32, 2, .ro, .l⟩
def F.NFC_XCHG_ERROR : Field := ⟨"ERROR", 40, 8, .ro, .l⟩
def F.NFC_XCHG_RLEN : Field := ⟨"RLEN", 48, 10, .ro, .l⟩
def R.NFC_XCHG : RegSpec where
  name := "NFC_XCHG"
  base := 0xD01A8
  dims := []
  rst := 0x0
  rstAt := []
  rd := ⟨.always, .never, .always, .never, .never, .never, .plain⟩
  wr := ⟨.never, .never, .always, .never, .never, .never, .plain⟩
  fields := [F.NFC_XCHG_CARD, F.NFC_XCHG_KIND, F.NFC_XCHG_LEN, F.NFC_XCHG_GO, F.NFC_XCHG_STATE, F.NFC_XCHG_ERROR, F.NFC_XCHG_RLEN]

def F.NFC_TAGSTAT_FIELD : Field := ⟨"FIELD", 0, 2, .ro, .l⟩
def F.NFC_TAGSTAT_LOCKED : Field := ⟨"LOCKED", 2, 1, .ro, .l⟩
def F.NFC_TAGSTAT_FAILS : Field := ⟨"FAILS", 8, 4, .ro, .l⟩
def F.NFC_TAGSTAT_WIRE_BUSY : Field := ⟨"WIRE_BUSY", 16, 16, .ro, .l⟩
def F.NFC_TAGSTAT_RECOVERED : Field := ⟨"RECOVERED", 32, 16, .ro, .l⟩
def F.NFC_TAGSTAT_WTX : Field := ⟨"WTX", 48, 16, .ro, .l⟩
def R.NFC_TAGSTAT : RegSpec where
  name := "NFC_TAGSTAT"
  base := 0xD0200
  dims := []
  rst := 0x0
  rstAt := []
  rd := ⟨.always, .always, .always, .always, .always, .never, .plain⟩
  wr := ⟨.never, .never, .never, .never, .never, .never, .plain⟩
  fields := [F.NFC_TAGSTAT_FIELD, F.NFC_TAGSTAT_LOCKED, F.NFC_TAGSTAT_FAILS, F.NFC_TAGSTAT_WIRE_BUSY, F.NFC_TAGSTAT_RECOVERED, F.NFC_TAGSTAT_WTX]

def F.NFC_TAGCFG_FDET_EN : Field := ⟨"FDET_EN", 0, 1, .rw, .l⟩
def F.NFC_TAGCFG_UNLOCK : Field := ⟨"UNLOCK", 1, 1, .wo, .l⟩
def F.NFC_TAGCFG_PWD_EN : Field := ⟨"PWD_EN", 2, 1, .rw, .l⟩
def F.NFC_TAGCFG_KEY_PRESENT : Field := ⟨"KEY_PRESENT", 3, 1, .ro, .l⟩
def F.NFC_TAGCFG_STATUS_OFF : Field := ⟨"STATUS_OFF", 16, 12, .rw, .l⟩
def R.NFC_TAGCFG : RegSpec where
  name := "NFC_TAGCFG"
  base := 0xD0208
  dims := []
  rst := 0x0
  rstAt := []
  rd := ⟨.always, .always, .always, .always, .always, .never, .plain⟩
  wr := ⟨.never, .never, .always, .never, .door, .never, .plain⟩
  fields := [F.NFC_TAGCFG_FDET_EN, F.NFC_TAGCFG_UNLOCK, F.NFC_TAGCFG_PWD_EN, F.NFC_TAGCFG_KEY_PRESENT, F.NFC_TAGCFG_STATUS_OFF]

def F.NFC_TAGPWD_PASSWORD : Field := ⟨"PASSWORD", 0, 32, .wo, .l⟩
def R.NFC_TAGPWD : RegSpec where
  name := "NFC_TAGPWD"
  base := 0xD0210
  dims := []
  rst := 0x0
  rstAt := []
  rd := ⟨.never, .never, .never, .never, .never, .never, .plain⟩
  wr := ⟨.never, .never, .always, .never, .door, .never, .plain⟩
  fields := [F.NFC_TAGPWD_PASSWORD]

def F.NFC_TAGUID_UID : Field := ⟨"UID", 0, 56, .ro, .l⟩
def R.NFC_TAGUID : RegSpec where
  name := "NFC_TAGUID"
  base := 0xD0218
  dims := []
  rst := 0x0
  rstAt := []
  rd := ⟨.always, .always, .always, .always, .always, .always, .plain⟩
  wr := ⟨.never, .never, .never, .never, .never, .never, .plain⟩
  fields := [F.NFC_TAGUID_UID]

/-- The registers of block NFC. -/
def regsNfc : List RegSpec :=
  [R.NFC_STATUS, R.NFC_RDCFG, R.NFC_LPCD, R.NFC_TEST, R.NFC_CARDINFOk, R.NFC_CARDUIDk_w,
   R.NFC_CARDPk, R.NFC_BIND, R.NFC_XCHG, R.NFC_TAGSTAT, R.NFC_TAGCFG, R.NFC_TAGPWD,
   R.NFC_TAGUID]

/-! ### Block MSH -/

def F.MSH_CFG_ENABLE : Field := ⟨"ENABLE", 0, 1, .rw, .l⟩
def F.MSH_CFG_RELAY : Field := ⟨"RELAY", 1, 1, .rw, .l⟩
def F.MSH_CFG_TIME_SRC : Field := ⟨"TIME_SRC", 2, 1, .rw, .l⟩
def F.MSH_CFG_NODE_ID : Field := ⟨"NODE_ID", 8, 6, .rw, .x⟩
def R.MSH_CFG : RegSpec where
  name := "MSH_CFG"
  base := 0xE0000
  dims := []
  rst := 0x0
  rstAt := []
  rd := ⟨.always, .never, .always, .always, .always, .never, .plain⟩
  wr := ⟨.never, .never, .always, .never, .door, .never, .plain⟩
  fields := [F.MSH_CFG_ENABLE, F.MSH_CFG_RELAY, F.MSH_CFG_TIME_SRC, F.MSH_CFG_NODE_ID]

def F.MSH_STATUS_STATE : Field := ⟨"STATE", 0, 2, .ro, .l⟩
def F.MSH_STATUS_LOCK : Field := ⟨"LOCK", 2, 3, .ro, .l⟩
def F.MSH_STATUS_CLASH : Field := ⟨"CLASH", 5, 1, .ro, .l⟩
def F.MSH_STATUS_FREQ60 : Field := ⟨"FREQ60", 6, 1, .ro, .l⟩
def F.MSH_STATUS_TX_COST : Field := ⟨"TX_COST", 8, 4, .ro, .l⟩
def F.MSH_STATUS_TRACKED : Field := ⟨"TRACKED", 16, 5, .ro, .l⟩
def F.MSH_STATUS_UNTRACKED : Field := ⟨"UNTRACKED", 24, 8, .ro, .l⟩
def R.MSH_STATUS : RegSpec where
  name := "MSH_STATUS"
  base := 0xE0008
  dims := []
  rst := 0x0
  rstAt := []
  rd := ⟨.always, .always, .always, .always, .always, .never, .plain⟩
  wr := ⟨.never, .never, .never, .never, .never, .never, .plain⟩
  fields := [F.MSH_STATUS_STATE, F.MSH_STATUS_LOCK, F.MSH_STATUS_CLASH, F.MSH_STATUS_FREQ60, F.MSH_STATUS_TX_COST, F.MSH_STATUS_TRACKED, F.MSH_STATUS_UNTRACKED]

def F.MSH_COUNT_TX_OK : Field := ⟨"TX_OK", 0, 16, .ro, .l⟩
def F.MSH_COUNT_TX_RETRIES : Field := ⟨"TX_RETRIES", 16, 16, .ro, .l⟩
def F.MSH_COUNT_TX_DROPPED : Field := ⟨"TX_DROPPED", 32, 16, .ro, .l⟩
def F.MSH_COUNT_RX_BAD : Field := ⟨"RX_BAD", 48, 16, .ro, .l⟩
def R.MSH_COUNT : RegSpec where
  name := "MSH_COUNT"
  base := 0xE0010
  dims := []
  rst := 0x0
  rstAt := []
  rd := ⟨.always, .always, .always, .always, .always, .never, .plain⟩
  wr := ⟨.never, .never, .never, .never, .never, .never, .plain⟩
  fields := [F.MSH_COUNT_TX_OK, F.MSH_COUNT_TX_RETRIES, F.MSH_COUNT_TX_DROPPED, F.MSH_COUNT_RX_BAD]

def F.MSH_ZC_JUMPS : Field := ⟨"JUMPS", 0, 48, .ro, .l⟩
def F.MSH_ZC_PERIOD_US : Field := ⟨"PERIOD_US", 48, 16, .ro, .l⟩
def R.MSH_ZC : RegSpec where
  name := "MSH_ZC"
  base := 0xE0018
  dims := []
  rst := 0x0
  rstAt := []
  rd := ⟨.always, .always, .always, .always, .always, .never, .plain⟩
  wr := ⟨.never, .never, .never, .never, .never, .never, .plain⟩
  fields := [F.MSH_ZC_JUMPS, F.MSH_ZC_PERIOD_US]

def F.MSH_DAMPER_ORIG_RATE : Field := ⟨"ORIG_RATE", 0, 16, .rw, .l⟩
def F.MSH_DAMPER_ORIG_BURST : Field := ⟨"ORIG_BURST", 16, 16, .rw, .l⟩
def F.MSH_DAMPER_RELAY_RATE : Field := ⟨"RELAY_RATE", 32, 16, .rw, .l⟩
def F.MSH_DAMPER_RELAY_BURST : Field := ⟨"RELAY_BURST", 48, 16, .rw, .l⟩
def R.MSH_DAMPER : RegSpec where
  name := "MSH_DAMPER"
  base := 0xE0020
  dims := []
  rst := 0x8003C00020006
  rstAt := []
  rd := ⟨.always, .never, .always, .always, .always, .never, .plain⟩
  wr := ⟨.never, .never, .always, .never, .never, .never, .plain⟩
  fields := [F.MSH_DAMPER_ORIG_RATE, F.MSH_DAMPER_ORIG_BURST, F.MSH_DAMPER_RELAY_RATE, F.MSH_DAMPER_RELAY_BURST]

def F.MSH_TIME_WALL_S : Field := ⟨"WALL_S", 0, 32, .ro, .l⟩
def F.MSH_TIME_ORIG : Field := ⟨"ORIG", 32, 6, .ro, .l⟩
def F.MSH_TIME_TB : Field := ⟨"TB", 0, 64, .ro, .l⟩
def R.MSH_TIME : RegSpec where
  name := "MSH_TIME"
  base := 0xE0028
  dims := []
  rst := 0x0
  rstAt := []
  rd := ⟨.always, .never, .always, .never, .always, .never, .plain⟩
  wr := ⟨.never, .never, .never, .never, .never, .never, .plain⟩
  fields := [F.MSH_TIME_WALL_S, F.MSH_TIME_ORIG, F.MSH_TIME_TB]

def F.MSH_TIME_TB_WALL_S : Field := ⟨"WALL_S", 0, 32, .ro, .l⟩
def F.MSH_TIME_TB_ORIG : Field := ⟨"ORIG", 32, 6, .ro, .l⟩
def F.MSH_TIME_TB_TB : Field := ⟨"TB", 0, 64, .ro, .l⟩
def R.MSH_TIME_TB : RegSpec where
  name := "MSH_TIME_TB"
  base := 0xE0030
  dims := []
  rst := 0x0
  rstAt := []
  rd := ⟨.always, .never, .always, .never, .always, .never, .plain⟩
  wr := ⟨.never, .never, .never, .never, .never, .never, .plain⟩
  fields := [F.MSH_TIME_TB_WALL_S, F.MSH_TIME_TB_ORIG, F.MSH_TIME_TB_TB]

def F.MSH_NODEn_TRACKED : Field := ⟨"TRACKED", 0, 1, .ro, .l⟩
def F.MSH_NODEn_NEIGHBOUR : Field := ⟨"NEIGHBOUR", 1, 1, .ro, .l⟩
def F.MSH_NODEn_SHARING : Field := ⟨"SHARING", 2, 1, .ro, .l⟩
def F.MSH_NODEn_HOPS : Field := ⟨"HOPS", 3, 3, .ro, .l⟩
def F.MSH_NODEn_PRIO : Field := ⟨"PRIO", 6, 2, .ro, .l⟩
def F.MSH_NODEn_LINK : Field := ⟨"LINK", 8, 4, .ro, .l⟩
def F.MSH_NODEn_PATH : Field := ⟨"PATH", 12, 8, .ro, .l⟩
def F.MSH_NODEn_DEMAND : Field := ⟨"DEMAND", 20, 15, .ro, .l⟩
def F.MSH_NODEn_LIMIT : Field := ⟨"LIMIT", 35, 15, .ro, .l⟩
def F.MSH_NODEn_AGE_S : Field := ⟨"AGE_S", 50, 14, .ro, .l⟩
def R.MSH_NODEn : RegSpec where
  name := "MSH_NODEn"
  base := 0xE0100
  dims := [(8, 64)]
  rst := 0x0
  rstAt := []
  rd := ⟨.always, .always, .always, .always, .always, .never, .plain⟩
  wr := ⟨.never, .never, .never, .never, .never, .never, .plain⟩
  fields := [F.MSH_NODEn_TRACKED, F.MSH_NODEn_NEIGHBOUR, F.MSH_NODEn_SHARING, F.MSH_NODEn_HOPS, F.MSH_NODEn_PRIO, F.MSH_NODEn_LINK, F.MSH_NODEn_PATH, F.MSH_NODEn_DEMAND, F.MSH_NODEn_LIMIT, F.MSH_NODEn_AGE_S]

/-- The registers of block MSH. -/
def regsMsh : List RegSpec :=
  [R.MSH_CFG, R.MSH_STATUS, R.MSH_COUNT, R.MSH_ZC, R.MSH_DAMPER, R.MSH_TIME,
   R.MSH_TIME_TB, R.MSH_NODEn]

/-! ### Block PWR -/

def F.PWR_STATE_ENTERING : Field := ⟨"ENTERING", 0, 1, .ro, .l⟩
def F.PWR_STATE_PENDING_WAKE : Field := ⟨"PENDING_WAKE", 1, 1, .ro, .l⟩
def F.PWR_STATE_LAST_WAKE : Field := ⟨"LAST_WAKE", 4, 4, .ro, .l⟩
def F.PWR_STATE_RETAINED : Field := ⟨"RETAINED", 8, 8, .ro, .l⟩
def F.PWR_STATE_LOST : Field := ⟨"LOST", 16, 8, .ro, .l⟩
def F.PWR_STATE_SLEEP_S : Field := ⟨"SLEEP_S", 32, 32, .ro, .l⟩
def R.PWR_STATE : RegSpec where
  name := "PWR_STATE"
  base := 0xF0000
  dims := []
  rst := 0x0
  rstAt := []
  rd := ⟨.always, .always, .always, .always, .always, .never, .plain⟩
  wr := ⟨.never, .never, .never, .never, .never, .never, .plain⟩
  fields := [F.PWR_STATE_ENTERING, F.PWR_STATE_PENDING_WAKE, F.PWR_STATE_LAST_WAKE, F.PWR_STATE_RETAINED, F.PWR_STATE_LOST, F.PWR_STATE_SLEEP_S]

def F.PWR_SUPPLY_VIN_MV : Field := ⟨"VIN_MV", 0, 16, .ro, .l⟩
def F.PWR_SUPPLY_VPP12_MV : Field := ⟨"VPP12_MV", 16, 16, .ro, .l⟩
def F.PWR_SUPPLY_VNN12_MV : Field := ⟨"VNN12_MV", 32, 16, .ro, .l⟩
def F.PWR_SUPPLY_VBAT_MV : Field := ⟨"VBAT_MV", 48, 16, .ro, .l⟩
def R.PWR_SUPPLY : RegSpec where
  name := "PWR_SUPPLY"
  base := 0xF0008
  dims := []
  rst := 0x0
  rstAt := []
  rd := ⟨.always, .always, .always, .always, .always, .never, .plain⟩
  wr := ⟨.never, .never, .never, .never, .never, .never, .plain⟩
  fields := [F.PWR_SUPPLY_VIN_MV, F.PWR_SUPPLY_VPP12_MV, F.PWR_SUPPLY_VNN12_MV, F.PWR_SUPPLY_VBAT_MV]

def F.PWR_FLAGS_PFW : Field := ⟨"PFW", 0, 1, .ro, .l⟩
def F.PWR_FLAGS_PFW_SEEN : Field := ⟨"PFW_SEEN", 1, 1, .lh, .l⟩
def F.PWR_FLAGS_PILOT_SUPPLY : Field := ⟨"PILOT_SUPPLY", 2, 1, .ro, .l⟩
def F.PWR_FLAGS_VBAT_LOW : Field := ⟨"VBAT_LOW", 3, 1, .ro, .l⟩
def F.PWR_FLAGS_VBAT_LOST : Field := ⟨"VBAT_LOST", 4, 1, .ro, .l⟩
def F.PWR_FLAGS_XTAL32_FAIL : Field := ⟨"XTAL32_FAIL", 5, 1, .lh, .l⟩
def F.PWR_FLAGS_LPRC : Field := ⟨"LPRC", 6, 1, .ro, .l⟩
def F.PWR_FLAGS_PFW_COUNT : Field := ⟨"PFW_COUNT", 16, 16, .ro, .l⟩
def R.PWR_FLAGS : RegSpec where
  name := "PWR_FLAGS"
  base := 0xF0010
  dims := []
  rst := 0x0
  rstAt := []
  rd := ⟨.always, .always, .always, .always, .always, .never, .plain⟩
  wr := ⟨.never, .never, .never, .never, .never, .never, .plain⟩
  fields := [F.PWR_FLAGS_PFW, F.PWR_FLAGS_PFW_SEEN, F.PWR_FLAGS_PILOT_SUPPLY, F.PWR_FLAGS_VBAT_LOW, F.PWR_FLAGS_VBAT_LOST, F.PWR_FLAGS_XTAL32_FAIL, F.PWR_FLAGS_LPRC, F.PWR_FLAGS_PFW_COUNT]

def F.PWR_RESET_LAST : Field := ⟨"LAST", 0, 8, .ro, .l⟩
def F.PWR_RESET_WARM : Field := ⟨"WARM", 16, 16, .ro, .l⟩
def F.PWR_RESET_FAILOVERS : Field := ⟨"FAILOVERS", 32, 16, .ro, .l⟩
def F.PWR_RESET_COLD : Field := ⟨"COLD", 48, 16, .ro, .l⟩
def R.PWR_RESET : RegSpec where
  name := "PWR_RESET"
  base := 0xF0018
  dims := []
  rst := 0x0
  rstAt := []
  rd := ⟨.always, .always, .always, .always, .always, .never, .plain⟩
  wr := ⟨.never, .never, .never, .never, .never, .never, .plain⟩
  fields := [F.PWR_RESET_LAST, F.PWR_RESET_WARM, F.PWR_RESET_FAILOVERS, F.PWR_RESET_COLD]

def F.PWR_SLEEPCFG_AUTO : Field := ⟨"AUTO", 0, 1, .rw, .l⟩
def F.PWR_SLEEPCFG_SLEEP : Field := ⟨"SLEEP", 1, 1, .wo, .l⟩
def F.PWR_SLEEPCFG_RETAIN : Field := ⟨"RETAIN", 8, 8, .rw, .l⟩
def F.PWR_SLEEPCFG_IDLE_S : Field := ⟨"IDLE_S", 16, 16, .rw, .l⟩
def R.PWR_SLEEPCFG : RegSpec where
  name := "PWR_SLEEPCFG"
  base := 0xF0020
  dims := []
  rst := 0x2580100
  rstAt := []
  rd := ⟨.always, .always, .always, .always, .always, .never, .plain⟩
  wr := ⟨.never, .never, .always, .never, .door, .never, .plain⟩
  fields := [F.PWR_SLEEPCFG_AUTO, F.PWR_SLEEPCFG_SLEEP, F.PWR_SLEEPCFG_RETAIN, F.PWR_SLEEPCFG_IDLE_S]

def F.PWR_WAKECFG_HP0 : Field := ⟨"HP0", 0, 2, .rw, .l⟩
def F.PWR_WAKECFG_HP1 : Field := ⟨"HP1", 2, 2, .rw, .l⟩
def F.PWR_WAKECFG_HP2 : Field := ⟨"HP2", 4, 2, .rw, .l⟩
def F.PWR_WAKECFG_HP3 : Field := ⟨"HP3", 6, 2, .rw, .l⟩
def F.PWR_WAKECFG_PILOT : Field := ⟨"PILOT", 8, 1, .rw, .l⟩
def F.PWR_WAKECFG_TAG : Field := ⟨"TAG", 9, 1, .rw, .l⟩
def F.PWR_WAKECFG_MESH : Field := ⟨"MESH", 10, 1, .rw, .l⟩
def F.PWR_WAKECFG_ALARM : Field := ⟨"ALARM", 11, 1, .rw, .l⟩
def R.PWR_WAKECFG : RegSpec where
  name := "PWR_WAKECFG"
  base := 0xF0028
  dims := []
  rst := 0xFA5
  rstAt := []
  rd := ⟨.always, .always, .always, .always, .always, .never, .plain⟩
  wr := ⟨.never, .never, .always, .never, .door, .never, .plain⟩
  fields := [F.PWR_WAKECFG_HP0, F.PWR_WAKECFG_HP1, F.PWR_WAKECFG_HP2, F.PWR_WAKECFG_HP3, F.PWR_WAKECFG_PILOT, F.PWR_WAKECFG_TAG, F.PWR_WAKECFG_MESH, F.PWR_WAKECFG_ALARM]

def F.PWR_ALARM_WALL : Field := ⟨"WALL", 0, 48, .rw, .l⟩
def F.PWR_ALARM_FIRED : Field := ⟨"FIRED", 48, 1, .lh, .l⟩
def R.PWR_ALARM : RegSpec where
  name := "PWR_ALARM"
  base := 0xF0030
  dims := []
  rst := 0x0
  rstAt := []
  rd := ⟨.always, .always, .always, .always, .always, .never, .plain⟩
  wr := ⟨.never, .never, .always, .never, .door, .never, .plain⟩
  fields := [F.PWR_ALARM_WALL, F.PWR_ALARM_FIRED]

def F.PWR_SPLICE_KIND : Field := ⟨"KIND", 0, 2, .ro, .l⟩
def F.PWR_SPLICE_WIDE : Field := ⟨"WIDE", 2, 1, .ro, .l⟩
def F.PWR_SPLICE_UNC_US : Field := ⟨"UNC_US", 32, 32, .ro, .l⟩
def R.PWR_SPLICE : RegSpec where
  name := "PWR_SPLICE"
  base := 0xF0038
  dims := []
  rst := 0x0
  rstAt := []
  rd := ⟨.always, .always, .always, .always, .always, .never, .plain⟩
  wr := ⟨.never, .never, .never, .never, .never, .never, .plain⟩
  fields := [F.PWR_SPLICE_KIND, F.PWR_SPLICE_WIDE, F.PWR_SPLICE_UNC_US]

def F.PWR_SPLICE_DTB_DTB : Field := ⟨"DTB", 0, 64, .ro, .l⟩
def R.PWR_SPLICE_DTB : RegSpec where
  name := "PWR_SPLICE_DTB"
  base := 0xF0040
  dims := []
  rst := 0x0
  rstAt := []
  rd := ⟨.always, .always, .always, .always, .always, .never, .plain⟩
  wr := ⟨.never, .never, .never, .never, .never, .never, .plain⟩
  fields := [F.PWR_SPLICE_DTB_DTB]

def F.PWR_CLOCK_PLL_LOCKED : Field := ⟨"PLL_LOCKED", 0, 1, .ro, .l⟩
def F.PWR_CLOCK_XTAL_OK : Field := ⟨"XTAL_OK", 1, 1, .ro, .l⟩
def F.PWR_CLOCK_ON_FIRC : Field := ⟨"ON_FIRC", 2, 1, .ro, .l⟩
def F.PWR_CLOCK_NFC_DUTY : Field := ⟨"NFC_DUTY", 3, 1, .ro, .l⟩
def F.PWR_CLOCK_FIRC_KHZ : Field := ⟨"FIRC_KHZ", 16, 16, .ro, .l⟩
def R.PWR_CLOCK : RegSpec where
  name := "PWR_CLOCK"
  base := 0xF0048
  dims := []
  rst := 0x4
  rstAt := []
  rd := ⟨.always, .always, .always, .always, .always, .never, .plain⟩
  wr := ⟨.never, .never, .never, .never, .never, .never, .plain⟩
  fields := [F.PWR_CLOCK_PLL_LOCKED, F.PWR_CLOCK_XTAL_OK, F.PWR_CLOCK_ON_FIRC, F.PWR_CLOCK_NFC_DUTY, F.PWR_CLOCK_FIRC_KHZ]

def F.PWR_TEMP_DIGITAL : Field := ⟨"DIGITAL", 0, 16, .ro, .l⟩
def F.PWR_TEMP_POWER : Field := ⟨"POWER", 16, 16, .ro, .l⟩
def F.PWR_TEMP_HOT : Field := ⟨"HOT", 48, 1, .lh, .l⟩
def R.PWR_TEMP : RegSpec where
  name := "PWR_TEMP"
  base := 0xF0050
  dims := []
  rst := 0x0
  rstAt := []
  rd := ⟨.always, .always, .always, .always, .always, .never, .plain⟩
  wr := ⟨.never, .never, .never, .never, .never, .never, .plain⟩
  fields := [F.PWR_TEMP_DIGITAL, F.PWR_TEMP_POWER, F.PWR_TEMP_HOT]

/-- The registers of block PWR. -/
def regsPwr : List RegSpec :=
  [R.PWR_STATE, R.PWR_SUPPLY, R.PWR_FLAGS, R.PWR_RESET, R.PWR_SLEEPCFG, R.PWR_WAKECFG,
   R.PWR_ALARM, R.PWR_SPLICE, R.PWR_SPLICE_DTB, R.PWR_CLOCK, R.PWR_TEMP]

/-! ### Block UPD -/

def F.UPD_STATUS_STAGE : Field := ⟨"STAGE", 0, 4, .ro, .l⟩
def F.UPD_STATUS_KIND : Field := ⟨"KIND", 4, 4, .ro, .l⟩
def F.UPD_STATUS_COMPONENT : Field := ⟨"COMPONENT", 8, 3, .ro, .l⟩
def F.UPD_STATUS_RECOVERY : Field := ⟨"RECOVERY", 11, 1, .ro, .l⟩
def F.UPD_STATUS_HOLDER : Field := ⟨"HOLDER", 12, 3, .ro, .l⟩
def F.UPD_STATUS_JOB : Field := ⟨"JOB", 16, 4, .ro, .l⟩
def F.UPD_STATUS_REFUSE : Field := ⟨"REFUSE", 20, 4, .ro, .l⟩
def F.UPD_STATUS_TOKEN_LEFT : Field := ⟨"TOKEN_LEFT", 24, 8, .ro, .l⟩
def F.UPD_STATUS_NEXT_BLOCK : Field := ⟨"NEXT_BLOCK", 32, 32, .ro, .l⟩
def R.UPD_STATUS : RegSpec where
  name := "UPD_STATUS"
  base := 0x100000
  dims := []
  rst := 0x7700
  rstAt := []
  rd := ⟨.always, .always, .always, .never, .always, .never, .plain⟩
  wr := ⟨.never, .never, .never, .never, .never, .never, .plain⟩
  fields := [F.UPD_STATUS_STAGE, F.UPD_STATUS_KIND, F.UPD_STATUS_COMPONENT, F.UPD_STATUS_RECOVERY, F.UPD_STATUS_HOLDER, F.UPD_STATUS_JOB, F.UPD_STATUS_REFUSE, F.UPD_STATUS_TOKEN_LEFT, F.UPD_STATUS_NEXT_BLOCK]

def F.UPD_PROGRESS_CHECKPOINT : Field := ⟨"CHECKPOINT", 0, 32, .ro, .l⟩
def F.UPD_PROGRESS_BAD_BLOCKS : Field := ⟨"BAD_BLOCKS", 32, 16, .ro, .l⟩
def F.UPD_PROGRESS_RESUMABLE : Field := ⟨"RESUMABLE", 48, 1, .ro, .l⟩
def R.UPD_PROGRESS : RegSpec where
  name := "UPD_PROGRESS"
  base := 0x100008
  dims := []
  rst := 0x0
  rstAt := []
  rd := ⟨.always, .always, .always, .never, .always, .never, .plain⟩
  wr := ⟨.never, .never, .never, .never, .never, .never, .plain⟩
  fields := [F.UPD_PROGRESS_CHECKPOINT, F.UPD_PROGRESS_BAD_BLOCKS, F.UPD_PROGRESS_RESUMABLE]

def F.UPD_CTRL_ACTIVATE : Field := ⟨"ACTIVATE", 0, 1, .wo, .l⟩
def F.UPD_CTRL_CONFIRM : Field := ⟨"CONFIRM", 1, 1, .wo, .l⟩
def F.UPD_CTRL_REVERT : Field := ⟨"REVERT", 2, 1, .wo, .l⟩
def R.UPD_CTRL : RegSpec where
  name := "UPD_CTRL"
  base := 0x100010
  dims := []
  rst := 0x0
  rstAt := []
  rd := ⟨.never, .never, .never, .never, .never, .never, .plain⟩
  wr := ⟨.never, .never, .always, .never, .always, .never, .holder⟩
  fields := [F.UPD_CTRL_ACTIVATE, F.UPD_CTRL_CONFIRM, F.UPD_CTRL_REVERT]

def F.UPD_TRIAL_COMPONENT : Field := ⟨"COMPONENT", 0, 3, .ro, .l⟩
def F.UPD_TRIAL_HEALTHY : Field := ⟨"HEALTHY", 3, 1, .ro, .l⟩
def F.UPD_TRIAL_STARTS : Field := ⟨"STARTS", 4, 2, .ro, .l⟩
def F.UPD_TRIAL_RECHECK : Field := ⟨"RECHECK", 6, 1, .ro, .l⟩
def F.UPD_TRIAL_METRO_CHANGE : Field := ⟨"METRO_CHANGE", 7, 1, .ro, .l⟩
def F.UPD_TRIAL_SECONDS : Field := ⟨"SECONDS", 16, 16, .ro, .l⟩
def F.UPD_TRIAL_REVERTS : Field := ⟨"REVERTS", 32, 16, .ro, .l⟩
def R.UPD_TRIAL : RegSpec where
  name := "UPD_TRIAL"
  base := 0x100018
  dims := []
  rst := 0x0
  rstAt := []
  rd := ⟨.always, .always, .always, .always, .always, .always, .plain⟩
  wr := ⟨.never, .never, .never, .never, .never, .never, .plain⟩
  fields := [F.UPD_TRIAL_COMPONENT, F.UPD_TRIAL_HEALTHY, F.UPD_TRIAL_STARTS, F.UPD_TRIAL_RECHECK, F.UPD_TRIAL_METRO_CHANGE, F.UPD_TRIAL_SECONDS, F.UPD_TRIAL_REVERTS]

def F.UPD_COMPk_w_VERSION : Field := ⟨"VERSION", 0, 32, .ro, .l⟩
def F.UPD_COMPk_w_SVN : Field := ⟨"SVN", 32, 16, .ro, .l⟩
def F.UPD_COMPk_w_FLOOR : Field := ⟨"FLOOR", 48, 8, .ro, .l⟩
def F.UPD_COMPk_w_SLOT : Field := ⟨"SLOT", 56, 1, .ro, .l⟩
def F.UPD_COMPk_w_TRIAL : Field := ⟨"TRIAL", 57, 1, .ro, .l⟩
def F.UPD_COMPk_w_OTHER_VALID : Field := ⟨"OTHER_VALID", 58, 1, .ro, .l⟩
def F.UPD_COMPk_w_PROVIDES : Field := ⟨"PROVIDES", 0, 16, .ro, .l⟩
def F.UPD_COMPk_w_METRO : Field := ⟨"METRO", 16, 16, .ro, .l⟩
def F.UPD_COMPk_w_SCHEMA : Field := ⟨"SCHEMA", 32, 16, .ro, .l⟩
def F.UPD_COMPk_w_REQUIRES : Field := ⟨"REQUIRES", 0, 64, .ro, .l⟩
def F.UPD_COMPk_w_REQUIRES_GRATE : Field := ⟨"REQUIRES_GRATE", 0, 16, .ro, .l⟩
def F.UPD_COMPk_w_OTHER_VERSION : Field := ⟨"OTHER_VERSION", 32, 32, .ro, .l⟩
def R.UPD_COMPk_w : RegSpec where
  name := "UPD_COMPk_w"
  base := 0x100100
  dims := [(32, 5), (8, 4)]
  rst := 0x0
  rstAt := []
  rd := ⟨.always, .always, .always, .always, .always, .always, .plain⟩
  wr := ⟨.never, .never, .never, .never, .never, .never, .plain⟩
  fields := [F.UPD_COMPk_w_VERSION, F.UPD_COMPk_w_SVN, F.UPD_COMPk_w_FLOOR, F.UPD_COMPk_w_SLOT, F.UPD_COMPk_w_TRIAL, F.UPD_COMPk_w_OTHER_VALID, F.UPD_COMPk_w_PROVIDES, F.UPD_COMPk_w_METRO, F.UPD_COMPk_w_SCHEMA, F.UPD_COMPk_w_REQUIRES, F.UPD_COMPk_w_REQUIRES_GRATE, F.UPD_COMPk_w_OTHER_VERSION]

def F.UPD_SETTINGS_SCHEMA : Field := ⟨"SCHEMA", 0, 16, .ro, .l⟩
def F.UPD_SETTINGS_DEFAULTED : Field := ⟨"DEFAULTED", 16, 1, .ro, .l⟩
def F.UPD_SETTINGS_BACKUP : Field := ⟨"BACKUP", 17, 1, .ro, .l⟩
def R.UPD_SETTINGS : RegSpec where
  name := "UPD_SETTINGS"
  base := 0x100200
  dims := []
  rst := 0x0
  rstAt := []
  rd := ⟨.always, .always, .always, .always, .always, .never, .plain⟩
  wr := ⟨.never, .never, .never, .never, .never, .never, .plain⟩
  fields := [F.UPD_SETTINGS_SCHEMA, F.UPD_SETTINGS_DEFAULTED, F.UPD_SETTINGS_BACKUP]

def F.UPD_ANCHORn_ID : Field := ⟨"ID", 0, 48, .ro, .l⟩
def F.UPD_ANCHORn_PRESENT : Field := ⟨"PRESENT", 48, 1, .ro, .l⟩
def F.UPD_ANCHORn_RUNNING : Field := ⟨"RUNNING", 49, 1, .ro, .l⟩
def F.UPD_ANCHORn_SHADOW : Field := ⟨"SHADOW", 50, 1, .ro, .l⟩
def R.UPD_ANCHORn : RegSpec where
  name := "UPD_ANCHORn"
  base := 0x100240
  dims := [(8, 8)]
  rst := 0x0
  rstAt := []
  rd := ⟨.always, .always, .always, .never, .always, .never, .plain⟩
  wr := ⟨.never, .never, .never, .never, .never, .never, .plain⟩
  fields := [F.UPD_ANCHORn_ID, F.UPD_ANCHORn_PRESENT, F.UPD_ANCHORn_RUNNING, F.UPD_ANCHORn_SHADOW]

def F.UPD_STOREk_COUNT : Field := ⟨"COUNT", 0, 8, .ro, .l⟩
def F.UPD_STOREk_SLOT : Field := ⟨"SLOT", 8, 8, .ro, .l⟩
def F.UPD_STOREk_USABLE : Field := ⟨"USABLE", 16, 1, .ro, .l⟩
def F.UPD_STOREk_EXPIRES : Field := ⟨"EXPIRES", 32, 16, .ro, .l⟩
def R.UPD_STOREk : RegSpec where
  name := "UPD_STOREk"
  base := 0x100280
  dims := [(8, 6)]
  rst := 0x0
  rstAt := []
  rd := ⟨.always, .never, .always, .never, .always, .never, .plain⟩
  wr := ⟨.never, .never, .never, .never, .never, .never, .plain⟩
  fields := [F.UPD_STOREk_COUNT, F.UPD_STOREk_SLOT, F.UPD_STOREk_USABLE, F.UPD_STOREk_EXPIRES]

/-- The registers of block UPD. -/
def regsUpd : List RegSpec :=
  [R.UPD_STATUS, R.UPD_PROGRESS, R.UPD_CTRL, R.UPD_TRIAL, R.UPD_COMPk_w, R.UPD_SETTINGS,
   R.UPD_ANCHORn, R.UPD_STOREk]

/-! ### Block CNT -/

def F.CNT_EVk_COUNT : Field := ⟨"COUNT", 0, 48, .ro, .l⟩
def F.CNT_EVk_WRAP : Field := ⟨"WRAP", 48, 1, .rc, .l⟩
def R.CNT_EVk : RegSpec where
  name := "CNT_EVk"
  base := 0x110000
  dims := [(8, 24)]
  rst := 0x0
  rstAt := []
  rd := ⟨.always, .always, .always, .always, .always, .always, .cntMask⟩
  wr := ⟨.never, .never, .never, .never, .never, .never, .plain⟩
  fields := [F.CNT_EVk_COUNT, F.CNT_EVk_WRAP]

def F.CNT_MASKp_MASK : Field := ⟨"MASK", 0, 24, .rw, .l⟩
def R.CNT_MASKp : RegSpec where
  name := "CNT_MASKp"
  base := 0x110108
  dims := [(8, 5)]
  rst := 0x0
  rstAt := [(0x110108, 0x6003F0), (0x110110, 0xFFFFFF), (0x110118, 0xC0050), (0x110120, 0xFFFFFF), (0x110128, 0x51)]
  rd := ⟨.always, .always, .always, .always, .always, .always, .maskPolder⟩
  wr := ⟨.never, .never, .always, .never, .never, .never, .plain⟩
  fields := [F.CNT_MASKp_MASK]

def F.CNT_BWCFG_K0 : Field := ⟨"K0", 0, 5, .rw, .l⟩
def F.CNT_BWCFG_K1 : Field := ⟨"K1", 8, 5, .rw, .l⟩
def F.CNT_BWCFG_K2 : Field := ⟨"K2", 16, 5, .rw, .l⟩
def F.CNT_BWCFG_K3 : Field := ⟨"K3", 24, 5, .rw, .l⟩
def R.CNT_BWCFG : RegSpec where
  name := "CNT_BWCFG"
  base := 0x110200
  dims := []
  rst := 0x14141414
  rstAt := []
  rd := ⟨.always, .never, .always, .never, .always, .never, .plain⟩
  wr := ⟨.never, .never, .always, .never, .door, .never, .plain⟩
  fields := [F.CNT_BWCFG_K0, F.CNT_BWCFG_K1, F.CNT_BWCFG_K2, F.CNT_BWCFG_K3]

def F.CNT_BWn_IN : Field := ⟨"IN", 0, 32, .ro, .l⟩
def F.CNT_BWn_OUT : Field := ⟨"OUT", 32, 32, .ro, .l⟩
def R.CNT_BWn : RegSpec where
  name := "CNT_BWn"
  base := 0x110210
  dims := [(8, 4)]
  rst := 0x0
  rstAt := []
  rd := ⟨.always, .never, .always, .never, .always, .never, .plain⟩
  wr := ⟨.never, .never, .never, .never, .never, .never, .plain⟩
  fields := [F.CNT_BWn_IN, F.CNT_BWn_OUT]

def F.CNT_BWPEAKn_PEAK_IN : Field := ⟨"PEAK_IN", 0, 32, .rc, .l⟩
def F.CNT_BWPEAKn_PEAK_OUT : Field := ⟨"PEAK_OUT", 32, 32, .rc, .l⟩
def R.CNT_BWPEAKn : RegSpec where
  name := "CNT_BWPEAKn"
  base := 0x110230
  dims := [(8, 4)]
  rst := 0x0
  rstAt := []
  rd := ⟨.always, .never, .always, .never, .always, .never, .plain⟩
  wr := ⟨.never, .never, .never, .never, .never, .never, .plain⟩
  fields := [F.CNT_BWPEAKn_PEAK_IN, F.CNT_BWPEAKn_PEAK_OUT]

/-- The registers of block CNT. -/
def regsCnt : List RegSpec :=
  [R.CNT_EVk, R.CNT_MASKp, R.CNT_BWCFG, R.CNT_BWn, R.CNT_BWPEAKn]

/-! ### Block LOG -/

def F.LOG_HEAD_INDEX : Field := ⟨"INDEX", 0, 64, .ro, .l⟩
def R.LOG_HEAD : RegSpec where
  name := "LOG_HEAD"
  base := 0x120000
  dims := []
  rst := 0x0
  rstAt := []
  rd := ⟨.always, .always, .always, .always, .always, .never, .plain⟩
  wr := ⟨.never, .never, .never, .never, .never, .never, .plain⟩
  fields := [F.LOG_HEAD_INDEX]

def F.LOG_OLDEST_INDEX : Field := ⟨"INDEX", 0, 64, .ro, .l⟩
def R.LOG_OLDEST : RegSpec where
  name := "LOG_OLDEST"
  base := 0x120008
  dims := []
  rst := 0x0
  rstAt := []
  rd := ⟨.always, .always, .always, .always, .always, .never, .plain⟩
  wr := ⟨.never, .never, .never, .never, .never, .never, .plain⟩
  fields := [F.LOG_OLDEST_INDEX]

def F.LOG_STAT_STAGED : Field := ⟨"STAGED", 0, 9, .ro, .l⟩
def F.LOG_STAT_FLASH_OK : Field := ⟨"FLASH_OK", 9, 1, .ro, .l⟩
def F.LOG_STAT_WRAPPED : Field := ⟨"WRAPPED", 10, 1, .ro, .l⟩
def F.LOG_STAT_BOOT_GAP : Field := ⟨"BOOT_GAP", 16, 9, .ro, .l⟩
def F.LOG_STAT_FOLDED : Field := ⟨"FOLDED", 32, 16, .ro, .l⟩
def F.LOG_STAT_STAGE_LOST : Field := ⟨"STAGE_LOST", 48, 16, .ro, .l⟩
def R.LOG_STAT : RegSpec where
  name := "LOG_STAT"
  base := 0x120010
  dims := []
  rst := 0x0
  rstAt := []
  rd := ⟨.always, .always, .always, .always, .always, .never, .plain⟩
  wr := ⟨.never, .never, .never, .never, .never, .never, .plain⟩
  fields := [F.LOG_STAT_STAGED, F.LOG_STAT_FLASH_OK, F.LOG_STAT_WRAPPED, F.LOG_STAT_BOOT_GAP, F.LOG_STAT_FOLDED, F.LOG_STAT_STAGE_LOST]

/-- The registers of block LOG. -/
def regsLog : List RegSpec :=
  [R.LOG_HEAD, R.LOG_OLDEST, R.LOG_STAT]

/-- The registers of the block at index `b` (address bits [31:16], R83). -/
def regsOfBlock : Nat → List RegSpec
  | 0x0 => regsSys
  | 0x1 => regsSes
  | 0x2 => regsJob
  | 0x3 => regsKey
  | 0x4 => regsGrt
  | 0x5 => regsMet
  | 0x6 => regsNrg
  | 0x7 => regsBil
  | 0x8 => regsSeal
  | 0x9 => regsVeh
  | 0xA => regsSeq
  | 0xB => regsFg
  | 0xC => regsLsw
  | 0xD => regsNfc
  | 0xE => regsMsh
  | 0xF => regsPwr
  | 0x10 => regsUpd
  | 0x11 => regsCnt
  | 0x12 => regsLog
  | _ => []

/-- The index list of address `a` (relative to the base) in the given dimensions, when `a` is one of the registers. -/
def indexIn : List (Nat × Nat) → Nat → Option (List Nat)
  | [], off => if off = 0 then some [] else none
  | (stride, count) :: ds, off =>
    let i := off / stride
    if i < count then (indexIn ds (off - i * stride)).map (i :: ·) else none

/-- Which register of `r` lies at address `a`. -/
def RegSpec.index? (r : RegSpec) (a : Nat) : Option (List Nat) :=
  if r.base ≤ a then indexIn r.dims (a - r.base) else none

/-- The first register of a list that lies at address `a`, with its indices. -/
def findReg (a : Nat) : List RegSpec → Option (RegSpec × List Nat)
  | [] => none
  | r :: rs => match r.index? a with
    | some ix => some (r, ix)
    | none => findReg a rs

/-- R83: the register decoded at byte address `a`, if any. -/
def regAt (a : Nat) : Option (RegSpec × List Nat) := findReg a (regsOfBlock (a / 0x10000))

/-- The address of the register of `r` with the given indices. -/
def RegSpec.addr (r : RegSpec) (ix : List Nat) : Nat :=
  r.base + ((r.dims.zip ix).map (fun p => p.1.1 * p.2)).sum

/-- The reset value of the register of `r` at address `a`. -/
def RegSpec.resetAt (r : RegSpec) (a : Nat) : Nat := (r.rstAt.lookup a).getD r.rst

/-- The heading's grant to polder `p` (R3). -/
def Grants.of (g : Grants) : Nat → Grant
  | 0 => g.p0 | 1 => g.p1 | 2 => g.p2 | 3 => g.p3 | 4 => g.p4 | 5 => g.p5 | _ => .never

/-- The value of field `f` in the word `v`. -/
def Field.get (f : Field) (v : Nat) : Nat := v / 2 ^ f.lo % 2 ^ f.width

/-- The word `v` with field `f` set to `x`. -/
def Field.set (f : Field) (v x : Nat) : Nat :=
  v - f.get v * 2 ^ f.lo + x % 2 ^ f.width * 2 ^ f.lo

/-- The word whose named fields have the given values and whose other bits are 0. -/
def packFields (l : List (Field × Nat)) : Nat := (l.map (fun p => p.2 % 2 ^ p.1.width * 2 ^ p.1.lo)).sum

/-- The mask of the register's fields that satisfy `q`. -/
def RegSpec.maskOf (r : RegSpec) (q : Field → Bool) : Nat :=
  ((r.fields.filter q).map (fun f => (2 ^ f.width - 1) * 2 ^ f.lo)).sum

end Sys2Proof.Machine
end

