-- ==== Sys2Proof/Machine/State.lean ====
section
/-!
DEFINITION. The state of the block as plain data: one structure for each part of the device, the register contents, the
queue of waiting commands, and the state after reset.
-/

namespace Sys2Proof.Machine

/-! ### Outcomes -/

/-- Faults of the block. No command of the spec stops the block with a fault: every error is a response, a flag or a reset,
so no meaning raises this one; it is here because the interface asks for a type (safe). -/
inductive Fault
  /-- Raised by no command (safe). -/
  | never
deriving DecidableEq, Repr

/-- Refusals of the block. -/
inductive Refusal
  /-- Raised by `exec` for a command that has no meaning yet, by its mnemonic (safe). -/
  | notModelled (mnemonic : String)
deriving DecidableEq, Repr

/-! ### Hearth (R19 to R30) -/

/-- The role of one lockstep pair of Hearth cores (R27, R28). -/
inductive PairRole
  /-- runs the firmware -/
  | primary
  /-- holds a current checkpoint and can take over -/
  | shadow
  /-- runs its built-in self-test, which ends at this TB -/
  | selfTest (untilTb : Nat)
  /-- off until the next cold reset -/
  | off
deriving DecidableEq, Repr

/-- The Hearth: two lockstep pairs, the latest checkpoint in ember-class SRAM, and the state of the firmware. -/
structure Hearth where
  /-- HEARTH runs: reset release reached level 2 and no warm reset is in progress. -/
  running : Bool
  pairA : PairRole
  pairB : PairRole
  /-- The pair failed its self-test and stays off until the next cold reset (R28). -/
  failedA : Bool
  failedB : Bool
  /-- TB of the latest 1 ms checkpoint (R27). -/
  checkpointTb : Option Nat
  /-- A failover or a warm reset is in progress until this TB: frames are answered BUSY (R114). -/
  busyUntil : Nat
deriving DecidableEq, Repr

/-! ### Clocks of the three time scales (R15 to R17) -/

/-- TB and wall time. Bill time stands in `Billing`. -/
structure Clock where
  /-- TB, in 40 ns ticks (R15). -/
  tb : Nat
  /-- TB runs (it stops in EMBER). -/
  run : Bool
  /-- Known wall time: UTC ms at a TB value (R16); none while unknown. -/
  wall : Option (Nat × Nat)
deriving DecidableEq, Repr

/-! ### Key Register and life cycle (chapter 02) -/

/-- States of a key slot (`KEY_SLOT_ATTR.STATE`). -/
inductive KeyState | empty | valid | orphan | expired | spent
deriving DecidableEq, Repr

/-- How flash keeps a slot across a cold reset (R61). -/
inductive Kept
  /-- not kept -/
  | no
  /-- kept as an encrypted record of its key -/
  | record
  /-- kept as its derivation parameters: label and context -/
  | params (label ctx : Bytes)
deriving DecidableEq, Repr

/-- One slot of the Key Register (R59 to R67). -/
structure KeySlot where
  state : KeyState
  /-- KIND as in `KEY_SLOT_ATTR`: 0 none, 1 AES-128, 2 AES-256, 3 HMAC, 4 P-384, 5 HSS, 6 seed. -/
  kind : Nat
  engines : Nat
  grant : Nat
  legacy : Nat
  parent : Nat
  hasParent : Bool
  gen : Nat
  parentGen : Nat
  limit : Nat
  count : Nat
  expiry : Nat
  key : Bytes
  /-- The random share of R71; the other share is `key` XOR this one. -/
  share : Bytes
  kept : Kept
  /-- The use boundary B in flash for a kept slot (R61). -/
  useBoundary : Nat
deriving DecidableEq, Repr

/-- Life-cycle states (R53). -/
inductive LifeState | blank | vendor | field | returned | scrapped
deriving DecidableEq, Repr

/-- The fuses and the life-cycle nonce (R53 to R58). -/
structure LifeCycle where
  serial : W64
  state : LifeState
  /-- The IN_TRANSIT fuse with its target state (R56). -/
  inTransit : Option LifeState
  transitions : Nat
  /-- The life-cycle state whose root seed is fused, by its number; 0 when none is left. Step 2 of a transition zeroes a seed (R56). -/
  rootFused : Nat
  /-- The life-cycle nonce and the TB of its issue (R54). -/
  nonce : Option (W64 × Nat)
deriving DecidableEq, Repr

/-- The HSS signing state (R80 to R82). -/
structure Hss where
  /-- The next one-time index. -/
  next : Nat
  /-- The reserved boundary B in flash. -/
  boundary : Nat
  /-- The next lower tree has been computed. -/
  nextReady : Bool
  /-- The background computation of the next lower tree runs (R81). -/
  computing : Bool
deriving DecidableEq, Repr

/-- The Key Register. -/
structure KeyReg where
  slots : Vector KeySlot 256
  refusals : Nat
  lastStatus : Nat
  lastSlot : Nat
  lastEngine : Nat
  lastPolder : Nat
  /-- TB at which the latest re-masking pass began (R71). -/
  remaskTb : Option Nat
  hss : Hss
deriving DecidableEq, Repr

/-! ### Host ports, sessions, sluices and jobs (chapters 02 and 03) -/

/-- A host session, opening or open (R105 to R115). -/
structure Session where
  port : Fin 4
  /-- Ethernet source address of the HELLO on HP3 (R111); 0 on other ports. -/
  src : Nat
  polder : Nat
  password : Bool
  sealed : Bool
  commissioning : Bool
  /-- Idle timeout in seconds. -/
  idle : Nat
  hello0 : W64
  hostNonce : Bytes
  devNonce : Bytes
  /-- Waiting for PROVE since `lastTb` (R105); otherwise open. -/
  opening : Bool
  /-- Extended H: the highest SEQ accepted (R113). -/
  ext : Nat
  /-- The extended SEQ of the PROVE frame. -/
  extFirst : Nat
  /-- Extended SEQ values consumed that still lie within 1,023 of H. -/
  consumed : List Nat
  /-- The damper bucket, in units of 1/25,000,000 frame (R115). -/
  bucket : Nat
  /-- TB of the latest refill of the bucket. -/
  refillTb : Nat
  /-- The session key slot, 16 to 47; none in password mode. -/
  keySlot : Option (Fin 256)
  /-- TB of the HELLO, then of the latest consumed frame (R105, R114). -/
  lastTb : Nat
  keySel : Nat
  calSel : Nat
  probeSel : Nat
deriving DecidableEq, Repr

/-- What a session ID is used for (R103). -/
inductive SidUse
  | free
  | host (h : Session)
  /-- a vehicle context: a charging session on the output -/
  | vehicle (out : Fin 6)
  /-- a card context -/
  | card (k : Fin 4)
  /-- a mesh context for the node -/
  | mesh (node : Fin 64)
deriving DecidableEq, Repr

/-- The open back-off of one port and polder, held in the backup domain (R109). -/
structure Backoff where
  n : Nat
  /-- TB until which HELLO is answered BUSY; none when no back-off is in force. -/
  until_ : Option Nat
deriving DecidableEq, Repr

/-- One host port. -/
structure PortState where
  /-- HP3: RMII carrier present. -/
  carrier : Bool
  dropped : Nat
  tagFails : Nat
  /-- TB since when the port has had no open or opening session. -/
  idleSince : Nat
  backoff : Vector Backoff 6
deriving DecidableEq, Repr

/-- One sluice (R48 to R52). -/
structure Sluice where
  msgs : List (List W64)
  overflows : Nat
deriving DecidableEq, Repr

/-- A response frame (R95, R98). -/
structure Response where
  port : Fin 4
  /-- Destination address on HP3. -/
  dst : Nat
  status : Nat
  sid : Nat
  attn : Bool
  sealed : Bool
  seq : Nat
  count : Nat
  addr : Nat
  payload : List W64
  /-- The 16-byte TAG of a sealed session; empty otherwise (R112). -/
  tag : Bytes
deriving DecidableEq, Repr

/-- Host ports, the session table, sluices and password verifiers. -/
structure HostState where
  ports : Vector PortState 4
  /-- The session table by ID; entry 0 is never used. -/
  table : Vector SidUse 64
  /-- Free IDs, least recently freed first (R103). -/
  freeSids : List (Fin 64)
  sluices : Vector Sluice 8
  /-- The stored K of the P3 and P5 passwords, in flash under the storage key (R108). -/
  password3 : Option Bytes
  password5 : Option Bytes
  /-- `SES_DARK`. -/
  darkCount : Nat
  darkBlock : Nat
  /-- The response that the latest host command gave; none when it gave none. -/
  resp : Option Response
deriving DecidableEq, Repr

/-- Job states (R118). -/
inductive JobState | idle | queued | running | done | failed | cancelled
deriving DecidableEq, Repr

/-- A result record without its header word (R119). -/
structure JobRecord where
  type : Nat
  words : List W64
deriving DecidableEq, Repr

/-- One job slot (R116 to R123). -/
structure Job where
  state : JobState
  error : Nat
  progress : Nat
  id : Nat
  code : Nat
  polder : Nat
  /-- Words 1 onward of the SUBMIT payload. -/
  params : List W64
  /-- The FEED input buffer of 128 words (R120). -/
  input : List W64
  records : List JobRecord
  cancellable : Bool
  /-- TB at which the job finished. -/
  finishTb : Nat
  /-- A session of the polder has read the status word since the job finished (R124). -/
  seen : Bool
  /-- A copied log for the export window (R532). -/
  exported : Bytes
  /-- Submitted by a commissioning session (R569). -/
  commissioning : Bool
  /-- The Key Register slot that the job reserves while it waits or runs (R70). -/
  target : Option Nat
deriving DecidableEq, Repr

/-- The job slots. -/
structure Jobs where
  slots : Vector Job 16
  nextId : Nat
  /-- Codes of the submissions in order, by slot, for the queue of R117. -/
  order : List (Fin 16)
deriving DecidableEq, Repr

/-! ### Counters and the event log (chapter 17) -/

/-- The bandwidth window of one port (R524). -/
structure BwPort where
  /-- The TB multiple at which the running window starts. -/
  start : Nat
  inBytes : Nat
  outBytes : Nat
  lastIn : Nat
  lastOut : Nat
  peakIn : Nat
  peakOut : Nat
deriving DecidableEq, Repr

/-- Performance counters and bandwidth windows. -/
structure Counters where
  count : Vector Nat 24
  /-- The WRAP bits, bit p for polder p (R520). -/
  wrap : Vector Nat 24
  bw : Vector BwPort 4
deriving DecidableEq, Repr

/-- What an event-log entry reports. R526 fixes the class of each. -/
inductive Ev
  /-- An open request that names P0 (R37) -/
  | openP0
  /-- A dike refusal (R39) -/
  | dikeRefusal
  /-- A refusal of the Key Register: slot, engine, polder (R75) -/
  | keyRefusal
  /-- An AUTHFAIL with the port and polder (R106, R109) -/
  | authFail
  /-- A key derivation, import or invalidation (R526 class 3) -/
  | keyChange
  /-- A session event of the sequencer (R526 class 4) -/
  | sessionNotice
  /-- A group of two disagrees for 480 frames (R138) -/
  | voteDisagree
  /-- A metrological channel lost VALID (R172) -/
  | sensorLost
  /-- A T_MAG trigger with its source (R174) -/
  | magTrigger
  /-- A ledger occurrence (R526 class 2) -/
  | tamper
  /-- An accumulated fraction discarded at a swap (R153) -/
  | swapFraction
  /-- An offset-tracking window met its limit (R184) -/
  | trackLimit
  /-- A run of frames without VALID input: length and last VALID input (R206) -/
  | invalidRun
  /-- The unbooked-energy bound of an output (R219) -/
  | unbooked
  /-- Hold buckets moved after an outcome: session ID and amounts (R228) -/
  | holdMove
  /-- Hold buckets moved after ATTR_TIMEOUT (R229) -/
  | holdTimeout
  /-- A tariff command applied late: the shortfall in ms (R235) -/
  | tcmdLate
  /-- A clock correction ("Every event and what it changes", chapter 07) -/
  | clockCorrection
  /-- Service registers differ from the restored record (R252) -/
  | serviceMismatch
  /-- The seal opened, with the reason code (R257) -/
  | sealOpen
  /-- The seal closed, with its cause (R261) -/
  | sealClose
  /-- Entries folded (R527, 0x0481) -/
  | folded
  /-- Index gap at boot (R527, 0x0482) -/
  | indexGap
  /-- Counters restarted (R527, 0x0483) -/
  | countersRestarted
  /-- A trial reverted, with the cause (R509) -/
  | updateRevert
  /-- An update job ended or was activated (R526 class 7) -/
  | updateJob
  /-- A reset with its code (R526 class 0) -/
  | reset
  /-- An ember bank failed its check at wake (R465) -/
  | bankLost
  /-- The plan was reloaded from flash at wake (R465, A0-02) -/
  | planReload
  /-- A clock was lost or returned (R526 class 0) -/
  | clockFault
  /-- A second authorisation outcome was ignored (R304) -/
  | outcomeIgnored
  /-- A vehicle-link event (R526 class 4) -/
  | vehicle
  /-- A modem event (R526 class 6) -/
  | modem
  /-- An outcome that came after the session ended (R315) -/
  | outcomeLate
  /-- The lock was released with current above the limit (R338) -/
  | unlockCurrent
  /-- A sequencer event (R526 class 4) -/
  | sequencer
  /-- HV_EN was forced low 50 ms after the trigger (R379) -/
  | safeOffForced
  /-- A protection event: trip, verdict or drop (R526 class 4) -/
  | protection
  /-- A safety-network event (R526 class 6) -/
  | network
  /-- A load-switch channel latched, with the state (R395) -/
  | lswLatch
  /-- A load-switch latch was cleared (R395) -/
  | lswClear
  /-- A card-reader event (R526 class 5) -/
  | reader
  /-- A service-tag event (R526 class 5) -/
  | tag
  /-- Two nodes share a NODE_ID (R439) -/
  | meshClash
  /-- A mesh event (R526 class 6) -/
  | mesh
deriving DecidableEq, Repr

/-- An event-log entry (R525). CODE is computed from `ev`; WALL is 0 when unknown. -/
structure LogEntry where
  tb : Nat
  wall : Nat
  ev : Ev
  inst : Nat
  polder : Nat
  origin : Nat
  arg0 : Nat
  arg1 : Nat
  index : Nat
deriving DecidableEq, Repr

/-- How often one event and source has been written and folded in the running TB second (R529). -/
structure FoldCount where
  ev : Ev
  inst : Nat
  polder : Nat
  origin : Nat
  written : Nat
  folded : Nat
deriving DecidableEq, Repr

/-- The event log (R525 to R532). -/
structure EventLog where
  /-- The staging area in ember bank E0, oldest first, at most 256. -/
  staged : List LogEntry
  /-- The ring in flash, oldest first, at most 16,384. -/
  ring : List LogEntry
  next : Nat
  /-- The reserved index boundary B in flash (R528). -/
  boundary : Nat
  wrapped : Bool
  bootGap : Nat
  folds : List FoldCount
  folded : Nat
  stageLost : Nat
  /-- The flash die answers (R528). -/
  flashOk : Bool
deriving DecidableEq, Repr

/-- CLASS of an event (R526). -/
def Ev.cls : Ev → Nat
  | .openP0 => 3
  | .dikeRefusal => 3
  | .keyRefusal => 3
  | .authFail => 3
  | .keyChange => 3
  | .sessionNotice => 4
  | .voteDisagree => 1
  | .sensorLost => 1
  | .magTrigger => 2
  | .tamper => 2
  | .swapFraction => 1
  | .trackLimit => 1
  | .invalidRun => 1
  | .unbooked => 1
  | .holdMove => 4
  | .holdTimeout => 4
  | .tcmdLate => 0
  | .clockCorrection => 0
  | .serviceMismatch => 1
  | .sealOpen => 2
  | .sealClose => 2
  | .folded => 0
  | .indexGap => 0
  | .countersRestarted => 0
  | .updateRevert => 7
  | .updateJob => 7
  | .reset => 0
  | .bankLost => 0
  | .planReload => 0
  | .clockFault => 0
  | .outcomeIgnored => 4
  | .vehicle => 4
  | .modem => 6
  | .outcomeLate => 4
  | .unlockCurrent => 4
  | .sequencer => 4
  | .safeOffForced => 4
  | .protection => 4
  | .network => 6
  | .lswLatch => 5
  | .lswClear => 5
  | .reader => 5
  | .tag => 5
  | .meshClash => 6
  | .mesh => 6

/-- Block index of the block that writes the event (R525). -/
def Ev.blk : Ev → Nat
  | .openP0 => 1
  | .dikeRefusal => 3
  | .keyRefusal => 3
  | .authFail => 1
  | .keyChange => 3
  | .sessionNotice => 1
  | .voteDisagree => 4
  | .sensorLost => 5
  | .magTrigger => 5
  | .tamper => 8
  | .swapFraction => 4
  | .trackLimit => 5
  | .invalidRun => 6
  | .unbooked => 6
  | .holdMove => 7
  | .holdTimeout => 7
  | .tcmdLate => 7
  | .clockCorrection => 7
  | .serviceMismatch => 7
  | .sealOpen => 8
  | .sealClose => 8
  | .folded => 18
  | .indexGap => 18
  | .countersRestarted => 18
  | .updateRevert => 16
  | .updateJob => 16
  | .reset => 15
  | .bankLost => 15
  | .planReload => 15
  | .clockFault => 15
  | .outcomeIgnored => 9
  | .vehicle => 9
  | .modem => 9
  | .outcomeLate => 10
  | .unlockCurrent => 10
  | .sequencer => 10
  | .safeOffForced => 11
  | .protection => 11
  | .network => 11
  | .lswLatch => 12
  | .lswClear => 12
  | .reader => 13
  | .tag => 13
  | .meshClash => 14
  | .mesh => 14

/-- Event number within its block (R525): stated for the log's own codes (R527), else an unstated constant. -/
def Ev.num : Ev → Nat
  | .openP0 => Config.eventNumber 0 % 64
  | .dikeRefusal => Config.eventNumber 1 % 64
  | .keyRefusal => Config.eventNumber 2 % 64
  | .authFail => Config.eventNumber 3 % 64
  | .keyChange => Config.eventNumber 4 % 64
  | .sessionNotice => Config.eventNumber 5 % 64
  | .voteDisagree => Config.eventNumber 6 % 64
  | .sensorLost => Config.eventNumber 7 % 64
  | .magTrigger => Config.eventNumber 8 % 64
  | .tamper => Config.eventNumber 9 % 64
  | .swapFraction => Config.eventNumber 10 % 64
  | .trackLimit => Config.eventNumber 11 % 64
  | .invalidRun => Config.eventNumber 12 % 64
  | .unbooked => Config.eventNumber 13 % 64
  | .holdMove => Config.eventNumber 14 % 64
  | .holdTimeout => Config.eventNumber 15 % 64
  | .tcmdLate => Config.eventNumber 16 % 64
  | .clockCorrection => Config.eventNumber 17 % 64
  | .serviceMismatch => Config.eventNumber 18 % 64
  | .sealOpen => Config.eventNumber 19 % 64
  | .sealClose => Config.eventNumber 20 % 64
  | .folded => 1
  | .indexGap => 2
  | .countersRestarted => 3
  | .updateRevert => Config.eventNumber 24 % 64
  | .updateJob => Config.eventNumber 25 % 64
  | .reset => Config.eventNumber 26 % 64
  | .bankLost => Config.eventNumber 27 % 64
  | .planReload => Config.eventNumber 28 % 64
  | .clockFault => Config.eventNumber 29 % 64
  | .outcomeIgnored => Config.eventNumber 30 % 64
  | .vehicle => Config.eventNumber 31 % 64
  | .modem => Config.eventNumber 32 % 64
  | .outcomeLate => Config.eventNumber 33 % 64
  | .unlockCurrent => Config.eventNumber 34 % 64
  | .sequencer => Config.eventNumber 35 % 64
  | .safeOffForced => Config.eventNumber 36 % 64
  | .protection => Config.eventNumber 37 % 64
  | .network => Config.eventNumber 38 % 64
  | .lswLatch => Config.eventNumber 39 % 64
  | .lswClear => Config.eventNumber 40 % 64
  | .reader => Config.eventNumber 41 % 64
  | .tag => Config.eventNumber 42 % 64
  | .meshClash => Config.eventNumber 43 % 64
  | .mesh => Config.eventNumber 44 % 64

/-! ### The structure plan (chapter 04) -/

/-- A CELLS_IC record (R142). -/
structure IcRec where
  index : Nat
  mclk : Nat
  falling : Bool
  invert : Bool
  format : Nat
deriving DecidableEq, Repr

/-- A CELLS_FL record: mode 0 sinc frame path, 1 sinc fast path, 2 FIR. -/
structure FlRec where
  index : Nat
  mode : Nat
  source : Nat
  order : Nat
  taps : Nat
  coeff : Nat
deriving DecidableEq, Repr

/-- A CELLS_MA record. -/
structure MaRec where
  index : Nat
  op : Nat
  a : Nat
  b : Nat
  c : Nat
  shift : Nat
  calSlot : Nat
  p : Nat
  k : Int
deriving DecidableEq, Repr

/-- A CELLS_TC record. -/
structure TcRec where
  index : Nat
  sample : Bool
  above : Bool
  below : Bool
  source : Nat
  debounce : Nat
  line : Nat
  hi : Int
  lo : Int
deriving DecidableEq, Repr

/-- A CELLS_IN record: mode 0 positive part, 1 negative magnitude, 2 signed. -/
structure InRec where
  index : Nat
  mode : Nat
  source : Nat
deriving DecidableEq, Repr

/-- One step of a sequence cell. -/
structure SqStep where
  dwell : Nat
  blank : Nat
  next : Nat
deriving DecidableEq, Repr

/-- A CELLS_SQ record: event 0 frame, 1 tick, 2 trigger. -/
structure SqRec where
  index : Nat
  event : Nat
  trigger : Nat
  steps : List SqStep
deriving DecidableEq, Repr

/-- A QUANTITIES record. -/
structure QtyRec where
  output : Nat
  qty : Nat
  phase : Nat
  source : Nat
  metro : Bool
deriving DecidableEq, Repr

/-- An ENERGY record. -/
structure EnRec where
  integ : Nat
  output : Nat
  reg : Nat
  pulse : Bool
  threshold : Nat
deriving DecidableEq, Repr

/-- A TRIP record: a line with the outputs it drops and its action, or a pair of trip cells. -/
inductive TripRec
  | line (line outputs action : Nat)
  | pair (a b : Nat) (twoOfTwo : Bool)
deriving DecidableEq, Repr

/-- A VOTE record. -/
structure VoteRec where
  group : Nat
  members : List Nat
  tolerance : Nat
deriving DecidableEq, Repr

/-- A CALDEF record. -/
structure CalDef where
  slot : Nat
  channel : Nat
  temp : Bool
deriving DecidableEq, Repr

/-- One output of the STRUCTURE record: kind 0 DC, 1 DC MCS, 2 AC three-phase with neutral. -/
structure OutRec where
  volt : Nat
  amp : Nat
  kind : Nat
  cabinet : Nat
  ownOc : Bool
deriving DecidableEq, Repr

/-- The body of a plan section (R142, R143). -/
inductive SectionBody
  | ic (l : List IcRec)
  | fl (l : List FlRec)
  | ma (l : List MaRec)
  | tc (l : List TcRec)
  | integ (l : List InRec)
  | sq (l : List SqRec)
  | qty (l : List QtyRec)
  | energy (l : List EnRec)
  | trip (l : List TripRec)
  | vote (l : List VoteRec)
  | caldef (l : List CalDef)
  | struct (present cabinets : Nat) (outs : List OutRec)
  | sealList (ids : List Nat) (digest : Bytes)
  | coeff (l : List Int)
  | notes
deriving DecidableEq, Repr

/-- A plan section with its table entry (R141). -/
structure PlanSection where
  sealed : Bool
  id : Nat
  digest : Bytes
  body : SectionBody
deriving DecidableEq, Repr

/-- A parsed plan (R140 to R143). -/
structure Plan where
  planId : Nat
  version : Nat
  level : Nat
  built : Nat
  sections : List PlanSection
  /-- ID of the plan anchor whose keys verified the signature block (R145). -/
  anchor : Nat
deriving DecidableEq, Repr

/-! ### The Grate and sensing (chapters 04 and 05) -/

/-- Run-time state of one input conditioner (R136, R171). -/
structure IcState where
  valid : Bool
  /-- The level of the latest bit after inversion. -/
  level : Bool
  /-- Bit periods since the latest transition, saturating at 64. -/
  steady : Nat
  /-- Bit periods since transitions returned, up to 250. -/
  good : Nat
  noTrans : Bool
  highSide : Bool
  overrange : Bool
  /-- Ones in the latest frame. -/
  ones : Nat
  /-- Consecutive frames not VALID (R172), and whether T_SENSOR has been counted for this loss. -/
  lostFrames : Nat
  sensorCounted : Bool
  /-- VALID losses, and losses that counted T_SENSOR, since the plan started. -/
  losses : Nat
  longLosses : Nat
  /-- The latest 19 bits for window trip cells, latest first (R133). -/
  window : List Bool
  /-- Rising edges in the latest frame (R135). -/
  rises : Nat
deriving DecidableEq, Repr

/-- Run-time state of one filter cell: the sinc integrators and combs, or the FIR delay line (R131). -/
structure FlState where
  integ : List Int
  comb : List Int
  line : List Int
  /-- Output periods settled since the start, up to what R148 asks. -/
  settled : Nat
  /-- Bits taken in the running fast-path period. -/
  phase : Nat
  out : Int
  valid : Bool
deriving DecidableEq, Repr

/-- Run-time state of one arithmetic cell: AVG, DELAY and CAL history (latest first), the output, and CAL bookkeeping. -/
structure MaState where
  hist : List Int
  settled : Nat
  out : Int
  valid : Bool
  saturated : Bool
  /-- CAL: the last VALID temperature and the frames since (R177). -/
  lastTemp : Int
  tempAge : Nat
  /-- CAL: TEMP_STALE of R177. -/
  stale : Bool
deriving DecidableEq, Repr

/-- Run-time state of one trip cell (R133). -/
structure TcState where
  runTrue : Nat
  runFalse : Nat
  verdict : Bool
  valid : Bool
  latest : Int
  /-- Rises of the verdict in the latest frame (R135). -/
  rises : Nat
deriving DecidableEq, Repr

/-- Run-time state of one integrator (R134, R199, R205, R206). -/
structure InState where
  /-- The 96-bit accumulator in Q80.16 of mW frames. -/
  acc : Int
  /-- The pulse accumulator in Q80.16. -/
  pulse : Int
  added : Nat
  invalid : Nat
  /-- Length of the unbroken run of frames without VALID input, and the last VALID input in mW. -/
  run : Nat
  lastMw : Int
  /-- It adds (R148); and consecutive frames since its start with every metrological input VALID. -/
  settled : Bool
  fresh : Nat
deriving DecidableEq, Repr

/-- Run-time state of one sequence cell (R135). -/
structure SqState where
  step : Nat
  left : Nat
  lastTrig : Bool
deriving DecidableEq, Repr

/-- Run-time state of one vote group (R137, R138). -/
structure VoteState where
  state : Nat
  membersValid : Nat
  setAside : Nat
  disagreeNow : Bool
  /-- Consecutive frames with, and without, disagreement. -/
  runBad : Nat
  runGood : Nat
  persistent : Bool
  total : Nat
deriving DecidableEq, Repr

/-- A calibration slot of the sealed record (R179). -/
structure CalSlot where
  scale : W64
  offset : W64
  temp : W64
  phase : W64
deriving DecidableEq, Repr

/-- Offset tracking of one calibration slot (R182 to R185). -/
structure Track where
  value : Int
  /-- Waits for the next tick boundary (R182). -/
  next : Option Int
  /-- Frames and sum of an open window. -/
  window : Option (Nat × Int)
  limitHit : Bool
deriving DecidableEq, Repr

/-- One fluxgate port (R166 to R169). -/
structure FgPort where
  on : Bool
  budget : Bool
  open_ : Bool
  short : Bool
  sat : Bool
  valid : Bool
  goodPeriods : Nat
  sample : Int
  /-- TB at which a bridge that was switched off may try again (R168). -/
  offUntil : Option Nat
  /-- TB since which every sample has been at or above MAG_TH, and since which SAT has held (R173). -/
  magSince : Option Nat
  satSince : Option Nat
  lostFrames : Nat
  sensorCounted : Bool
deriving DecidableEq, Repr

/-- The plan that runs and its cells. -/
structure Grate where
  /-- The running plan; none while the Grate is idle. -/
  plan : Option Plan
  /-- The stored plan file, in flash. -/
  stored : Bytes
  loadErr : Nat
  /-- Frames since the plan started, modulo 2^32 in `GRT_FRAME`. -/
  frames : Nat
  /-- Frame of the billing tick, 0 to 479. -/
  tickFrame : Nat
  settled : Bool
  /-- Consecutive frames with every metrological input VALID (R148); `settled`: every integrator of the plan adds. -/
  validRun : Nat
  ic : Vector IcState 48
  fl : Vector FlState 128
  ma : Vector MaState 96
  tc : Vector TcState 48
  integ : Vector InState 32
  sq : Vector SqState 16
  vote : Vector VoteState 32
  /-- The plan in the shadow plane and its file. -/
  shadow : Option Plan
  shadowFile : Bytes
  /-- 0 empty, 1 verified, 2 armed, 3 armed and waiting, 4 refused. -/
  shadowState : Nat
  sealedDiff : Bool
  tripDiff : Bool
  liveOk : Bool
  refuse : Nat
  /-- TB at which an armed wait expires. -/
  waitUntil : Nat
  /-- Levels of the sixteen TRIP lines at the Fireguard. -/
  lines : Vector Bool 16
  /-- TB of a line's latest deassertion (R351). -/
  lineOffTb : Vector Nat 16
  /-- Frame at which the cells of a channel last restarted in a swap (R172); channels 0 to 47 are conditioners, then FG ports. -/
  restart : Vector Nat 56
deriving DecidableEq, Repr

/-- A CAL_MEASURE that runs (R181): its job and calibration slot, the frames to use, used and skipped, and the sums of x and of its square,
with its least and greatest value. -/
structure Measure where
  job : Fin 16
  slot : Nat
  want : Nat
  n : Nat
  skipped : Nat
  sum : Int
  sq : Int
  lo : Int
  hi : Int
deriving DecidableEq, Repr

/-- Sensing state outside the cells (chapter 05). -/
structure Sensing where
  /-- MCLK pads: driving, and a pad fault (R159, R160). -/
  mclkOn : Vector Bool 4
  padFault : Vector Bool 4
  fg : Vector FgPort 8
  track : Vector Track 64
  /-- The calibration set the Grate uses; it follows the record at a tick boundary (R179). -/
  calInUse : Vector CalSlot 64
  /-- The CAL_MEASURE that runs (R181). -/
  measure : Option Measure
  /-- T_MAG: an episode runs, and the TB at which a condition was last true (R174). -/
  magEpisode : Bool
  magLastTb : Nat
deriving DecidableEq, Repr

/-! ### Energy (chapter 06) -/

/-- Live-quantity windows and AC supply checks of one output (R194 to R196, R207 to R210). -/
structure LiveState where
  /-- Sums and sums of squares over the running window, by k = 0 to 13, with VALID and total frame counts. -/
  sum : Vector Int 16
  sumSq : Vector Int 16
  good : Vector Nat 16
  frames : Nat
  /-- Published values and VALID bits. -/
  value : Vector Int 16
  valid : Nat
  /-- Published phase RMS values in mV by phase, and PHASE_LOSS. -/
  phaseLoss : Bool
  /-- The latest sample and positive-going crossing time, in 1/256 frame, of each phase. -/
  lastV : Vector Int 3
  cross : Vector Nat 3
  /-- The L1 crossing before the latest, and the first and count of L1 crossings of the window. -/
  prevL1 : Nat
  firstL1 : Nat
  nL1 : Nat
  /-- Judgement of the latest L1 crossing: 0 not judged, 1 correct, 2 reversed, 3 undetermined; since which TB. -/
  seq : Nat
  seqSince : Nat
  seqEpisode : Bool
  /-- Missing-neutral condition of the latest window, since which TB, and the episode. -/
  neutral : Bool
  neutralSince : Nat
  neutralEpisode : Bool
  /-- Highest |active power| since the previous save, mW (R213). -/
  peakMw : Nat
  /-- Windows published since the plan started. -/
  published : Nat
deriving DecidableEq, Repr

/-- One pulse output (R199 to R202). -/
structure PulseOut where
  queued : Nat
  active : Bool
  /-- Frames left of the active pulse; frames inactive so far. -/
  left : Nat
  gap : Nat
  width : Nat
  emitted : Nat
  lost : Nat
deriving DecidableEq, Repr

/-- A metrology save record in the journal FRAM (R213). -/
structure SaveRecord where
  reason : Nat
  seq : Nat
  tb : Nat
  wall : Nat
  energy : Vector (Vector Nat 4) 6
  site : Vector Nat 4
  svc : Vector (Vector Nat 2) 6
  rem : Vector Int 32
  pulse : Vector Nat 6
  peak : Vector Nat 6
  track : Vector Int 64
  billTime : Nat
  lastTickTb : Nat
  planId : Nat
  shortTick : Bool
  timeKnown : Bool
  /-- The root key that its storage key derives from (the tag checks under no other), and that the copy was written whole: from the TB
  `doneTb` on, unless power failed before (R215, R218). -/
  root : Nat
  doneTb : Nat
  whole : Bool
deriving DecidableEq, Repr

/-- A tick handed off and not yet booked (R222): its start and end TB and its active increments. -/
structure HandedTick where
  startTb : Nat
  endTb : Nat
  inc : Vector (Vector Nat 2) 6
  short : Bool
deriving DecidableEq, Repr

/-- Energy registers and their persistence. -/
structure Energy where
  /-- `NRG_En_k`, µWh and µvarh, outputs 0 to 5 and SITE. -/
  e : Vector (Vector Nat 4) 7
  /-- `NRG_SVCn_k`. -/
  svc : Vector (Vector Nat 2) 7
  /-- Billing tick boundaries handed off (`NRG_TICK`) and the TB of the last. -/
  tick : Nat
  tickTb : Nat
  live : Vector LiveState 6
  pulses : Vector PulseOut 6
  /-- SITE active and reactive power (R195), and their VALID bits. -/
  siteLive : Vector Int 2
  siteValid : Nat
  /-- Ticks handed off and not yet booked. -/
  waiting : List HandedTick
  /-- A short tick has handed off a part of the tick in progress (R215, R217). -/
  shortPending : Bool
  /-- Duration in µs of the latest power-fail save. -/
  writeUs : Nat
  /-- The two journal copies (R213). -/
  copyA : Option SaveRecord
  copyB : Option SaveRecord
  everSaved : Bool
  saveSeq : Nat
  /-- `NRG_PFAIL`: what the boot restored (0 fresh, 1 newer, 2 older, 3 lost) and its reason. -/
  journal : Nat
  restoredReason : Nat
  dtAssumed : Bool
  restoredShort : Bool
  restoredTb : Nat
  /-- `NRG_UNBOOKEDn`: PEAK_BOUND and RATED_BOUND. -/
  unbooked : Vector (Nat × Nat) 6
  journalLost : Bool
deriving DecidableEq, Repr

/-! ### Billing (chapter 07) -/

/-- Attribution of a tick (R226). -/
inductive Attr | none | pending | session | service | noTime
deriving DecidableEq, Repr

/-- One output's part of a tick. -/
structure TickOut where
  imp : Nat
  exp : Nat
  sid : Nat
  tariff : Nat
  attr : Attr
deriving DecidableEq, Repr

/-- A tick entry of the journal ring (R254). -/
structure Tick where
  jseq : Nat
  startTb : Nat
  endTb : Nat
  /-- Bill time S of its start; none for NOTIME. -/
  s : Option Nat
  outs : Vector TickOut 6
  /-- The tariff index that calendar and commands give SITE. -/
  siteTariff : Nat
  held : Bool
  short : Bool
  wide : Bool
  slewed : Bool
  /-- The span status bits of R272 that held in this tick, outputs and SITE. -/
  span : Vector Nat 7
  /-- The calendar, OFFSET, NEXT_OFFSET and NEXT_AT in force when the tick was booked (R225). -/
  cal : List Nat
  calcfg : Nat
  /-- Committed already; the entry stays in the ring for R252. -/
  committed : Bool
deriving DecidableEq, Repr

/-- A queued or applied tariff command (R234). -/
structure TCmd where
  tariff : Nat
  outputs : Nat
  site : Bool
  effective : Nat
  order : Nat
  /-- Its effective time has been reached. -/
  applied : Bool
deriving DecidableEq, Repr

/-- A closed or running demand interval (R236 to R244): bill-time bounds, energy per output and SITE, flags. -/
structure Interval where
  start : Nat
  stop : Nat
  energy : Vector Nat 7
  /-- The tariff of its last tick, outputs and SITE. -/
  tariff : Vector Nat 7
  interrupted : Bool
  held : Bool
  uncertain : Bool
  short : Bool
  skipped : Bool
  /-- A tick has been committed to it. -/
  hasTick : Bool
deriving DecidableEq, Repr

/-- A maximum-demand register: demand in mW, flags and end bill time (R240). -/
structure MaxDemand where
  d : Nat
  flags : Nat
  stop : Nat
  /-- The tariff credited. -/
  tariff : Nat
deriving DecidableEq, Repr

/-- Hold buckets of one output (R228): energy by tariff and direction, for a session. -/
structure Hold where
  sid : Nat
  /-- TB of the session start. -/
  startTb : Nat
  bucket : Vector (Vector Nat 2) 8
  /-- An outcome has arrived: true accepted, false denied or withdrawn. -/
  outcome : Option Bool
  /-- The outcome is that of R229: cause ATTR_TIMEOUT. -/
  timedOut : Bool
deriving DecidableEq, Repr

/-- How bill time relates to wall time (R245, R246). -/
inductive BillMode
  | unknown
  | normal
  | slew
  | hold
deriving DecidableEq, Repr

/-- A session end whose SESSION_END record is due (R271, R274): the end's TB and the energy committed to the session. -/
structure SessEnd where
  sid : Nat
  tb : Nat
  imp : Nat
  exp : Nat
  /-- Denied or withdrawn: its record shows 0 in both (R271). -/
  void : Bool
deriving DecidableEq, Repr

/-- The attribution of an output's coming ticks and of the tick in progress, and the session. -/
structure OutAttr where
  attr : Attr
  sid : Nat
  /-- Attribution and session of the tick in progress (R221). -/
  cur : Attr
  curSid : Nat
  /-- TB of the latest change of `attr` by a start, a withdrawal after acceptance, or an end. -/
  sinceTb : Nat
  /-- TB of the session start. -/
  startTb : Nat
  /-- Committed to the running session: import and export, for the SESSION_END record. -/
  sessImp : Nat
  sessExp : Nat
  /-- The session has been denied or withdrawn (R271). -/
  void : Bool
  /-- SESSION_START records due at the commit of a boundary: session and TB of the start; and session ends. -/
  starts : List (Nat × Nat)
  ends : List SessEnd
deriving DecidableEq, Repr

/-- An event record of the journal's event area (R255). -/
structure BillEvent where
  kind : Nat
  point : Nat
  params : List Nat
  /-- The ticks that it covers: TB of the first one's start and of the last one's end; 0 for none. -/
  fromTb : Nat
  toTb : Nat
  done : Bool
deriving DecidableEq, Repr

/-- An end that cuts the demand grid (R241, R243): a period end, or an interval synchronisation with its new PHASE. -/
structure Cut where
  at_ : Nat
  periodEnd : Bool
  newPhase : Option Nat
deriving DecidableEq, Repr

/-- What a mark on bill time makes of the intervals it meets (R244). -/
inductive MarkKind
  /-- intervals wholly inside carry SKIPPED -/
  | skip
  /-- intervals that it touches carry INTERRUPTED -/
  | interrupted
  /-- intervals that it touches carry UNCERTAIN -/
  | uncertain
deriving DecidableEq, Repr

/-- A mark on a span of bill time, ms. -/
structure Mark where
  kind : MarkKind
  lo : Nat
  hi : Nat
deriving DecidableEq, Repr

/-- The billing state that one FRAM copy holds (R255). -/
structure BillSave where
  seq : Nat
  throughTb : Nat
  treg : Vector (Vector (Vector Nat 2) 8) 7
  svc : Vector (Vector Nat 2) 7
  running : Interval
  subs : List Interval
  md : Vector (Vector MaxDemand 9) 7
  pmd : Vector (Vector MaxDemand 9) 7
  holds : Vector (List Hold) 6
  phase : Nat
  period : Nat
  /-- Cuts of the grid and marks of R244 that no committed interval has taken yet. -/
  cuts : List Cut
  marks : List Mark
deriving DecidableEq, Repr

/-- Billing. Bill time stands in ms, with a remainder in 1/1,000 ms for the slew. -/
structure Billing where
  mode : BillMode
  /-- Bill time, in 1/1,000 ms, at the TB `timeTb`, from which a slew or a hold runs. -/
  timeAt : Nat
  timeTb : Nat
  wide : Bool
  /-- Bill time of the latest boundary, ms. -/
  lastB : Option Nat
  /-- The tariff in force, outputs and SITE. -/
  tariffNow : Vector Nat 7
  /-- The journal's tick ring, oldest first, at most 416 entries. -/
  ticks : List Tick
  jseq : Nat
  /-- The latest committed boundary: its TB, its bill time (0 unknown) and TIME_FLAGS bits 1 to 3 of its tick. -/
  throughTb : Nat
  throughS : Nat
  throughFlags : Nat
  /-- Hundredth-boundary count of R255. -/
  boundaries : Nat
  /-- Calendars and `BIL_CALCFG` values that were in use before a bill time, oldest first (R225, R236). -/
  calUntil : List (Nat × List Nat × Nat)
  queue : List TCmd
  /-- For each output and SITE, the tariff that a command holds in force, if any. -/
  cmdNow : Vector (Option Nat) 7
  cmdOrder : Nat
  /-- Demand settings in use (R242). -/
  demcfg : Nat
  phase : Nat
  cuts : List Cut
  marks : List Mark
  /-- The demand interval at the commit front, and the sub-interval history of SLIDING, latest first. -/
  running : Interval
  subs : List Interval
  last : Vector MaxDemand 7
  md : Vector (Vector MaxDemand 9) 7
  pmd : Vector (Vector MaxDemand 9) 7
  treg : Vector (Vector (Vector Nat 2) 8) 7
  holds : Vector (List Hold) 6
  attr : Vector OutAttr 6
  period : Nat
  /-- Calendar minute of the latest period end taken, so that it acts once (R241). -/
  lastPeriodMin : Option Nat
  saveA : Option BillSave
  saveB : Option BillSave
  saveSeq : Nat
  events : List BillEvent
deriving DecidableEq, Repr

/-! ### Seal, ledger and Flue (chapter 08) -/

/-- A plan anchor (R146, R513). -/
structure Anchor where
  id : Nat
  ecdsa : Nat × Nat
  hss : Bytes
deriving DecidableEq, Repr

/-- The sealed metrology record (R256). Its metrology settings stand in `State.regs`, their one home. -/
structure SealedRecord where
  seq : Nat
  open_ : Bool
  deadline : Nat
  reason : Nat
  epoch : Nat
  selector : Nat
  mdigest : Option Bytes
  cal : Vector CalSlot 64
  anchors : List Anchor
  calDigest : Bytes
  certPartial : Bool
  backupGap : Bool
  /-- The root key from which the storage key of this copy derives: its tag checks under no other (R256). -/
  root : Nat
deriving DecidableEq, Repr

/-- One code of the tamper ledger: the flash copy and the backup-domain delta (R264 to R267). -/
structure LedgerEntry where
  count : Nat
  firstTb : Nat
  firstWall : Nat
  lastTb : Nat
  lastWall : Nat
  lastArg : Nat
  firstMerged : Bool
  lastMerged : Bool
  dCount : Nat
  dFirstWall : Nat
  dLastWall : Nat
  dLastArg : Nat
  /-- TB of the first and last unmerged occurrence that the Hearth keeps in SRAM; none after a reset or for the backup domain. -/
  sramTb : Option (Nat × Nat)
deriving DecidableEq, Repr

/-- One flash copy of the ledger (R265): its entries without their deltas, and the CRC-32C over them. -/
structure LedgerCopy where
  seq : Nat
  entries : Vector LedgerEntry 11
  crc : Nat
deriving DecidableEq, Repr

/-- The body of a Flue record (R270). -/
structure FlueBody where
  type : Nat
  output : Nat
  sid : Nat
  counter : Nat
  epoch : Nat
  metro : Nat
  planId : Nat
  commitTb : Nat
  billTime : Nat
  wall : Nat
  timeFlags : Nat
  tariff : Nat
  period : Nat
  imp : Nat
  exp : Nat
  svc : Nat
  sessImp : Nat
  treg : List Nat
  demand : Nat
  demandEnd : Nat
  status : Nat
  sessExp : Nat
  nonce : W64
  /-- The Flue key of an epoch that a close has ended since: a closing record that waits is signed under it (R261, log entry 112). Not a part
  of the bytes. -/
  oldKey : Option Bytes
deriving DecidableEq, Repr

/-- A signed Flue record. -/
structure FlueRecord where
  body : FlueBody
  sig : Bytes
deriving DecidableEq, Repr

/-- One tamper input (R269): it has become active since the cold reset, and the TB at which it last counted. No command reports its release. -/
structure TamperIn where
  active : Bool
  lastTb : Option Nat
deriving DecidableEq, Repr

/-- The seal, the ledger and the Flue. -/
structure Seal where
  record : SealedRecord
  /-- The older flash copy. -/
  older : Option SealedRecord
  closing : Bool
  /-- T_CONFIG counted since the seal opened (R261). -/
  changed : Bool
  ledger : Vector LedgerEntry 11
  /-- The two flash copies of the ledger (R265). -/
  ledgerA : Option LedgerCopy
  ledgerB : Option LedgerCopy
  inputs : Vector TamperIn 4
  next : Nat
  boundary : Nat
  store : List FlueRecord
  queue : List FlueBody
  lost : Nat
  /-- Key certificates by epoch. -/
  certs : List (Nat × Bytes)
  /-- Span status bits since each output's previous record (R272), and 1 above the TB of the latest splice since then, 0 for none (R270). -/
  span : Vector Nat 7
  splice : Vector Nat 7
  /-- Span conditions that have held in the tick in progress, not yet booked (R272). -/
  tickSpan : Vector Nat 7
deriving DecidableEq, Repr

/-! ### Firmware update (chapter 16) -/

/-- State of one firmware slot in the boot record (R507). -/
inductive SlotState | empty | verified | active | failed
deriving DecidableEq, Repr

/-- An image header as the boot record and the slot keep it (R492). -/
structure Image where
  version : Nat
  svn : Nat
  metro : Nat
  provides : Nat
  requires_ : List Nat
  schema : Nat
deriving DecidableEq, Repr

/-- One component of the boot record (R507). -/
structure Component where
  /-- ACTIVE: false A, true B. -/
  active : Bool
  stA : SlotState
  stB : SlotState
  imgA : Option Image
  imgB : Option Image
  trial : Bool
  recheck : Bool
  starts : Nat
  seconds : Nat
  /-- The anti-rollback floor in fuses (R495). -/
  floor : Nat
  /-- The trial changed METRO. -/
  metroChange : Bool
  /-- The component runs (not off after both slots failed, R509). -/
  running : Bool
  /-- TB from which running time in a trial counts beyond `seconds`. -/
  secTb : Nat
deriving DecidableEq, Repr

/-- The update in the device (R496 to R504). -/
structure UpdateJob where
  /-- 1 download, 2 verifying, 3 verified, 4 activating, 5 trial. -/
  stage : Nat
  kind : Nat
  comp : Nat
  delta : Bool
  total : Nat
  targetLen : Nat
  base : Nat
  stream : W64
  job : Fin 16
  /-- The holder's SID while its session lives, and its polder. -/
  holder : Option Nat
  polder : Nat
  recovery : Bool
  tokenTb : Nat
  next : Nat
  data : Bytes
  bad : Nat
  checkpoint : Nat
  /-- A block has been accepted whose END has come. -/
  ended : Bool
  /-- KIND 0: the object lands in slot B. -/
  slotB : Bool
deriving DecidableEq, Repr

/-- A checkpoint in flash (R502). -/
structure Checkpoint where
  stream : W64
  kind : Nat
  comp : Nat
  polder : Nat
  next : Nat
  data : Bytes
  targetLen : Nat
  base : Nat
  /-- TB at which it is dropped, set when LEVEL 2 is reached. -/
  dropTb : Option Nat
  slotB : Bool
deriving DecidableEq, Repr

/-- A certificate store (R300, R515): DER certificates, the key slot of a SECC chain, earliest notAfter in days. -/
structure CertStore where
  certs : List Bytes
  slot : Nat
  expires : Nat
deriving DecidableEq, Repr

/-- A copy of the boot record in flash (R507): SEQ, what it says of each component, SCHEMA, and whether its CRC checks. The floors in fuses, whether
a component runs and the time since the latest save are no part of it. -/
structure BootRecord where
  seq : Nat
  comps : Vector Component 5
  schema : Nat
  whole : Bool
deriving DecidableEq, Repr

/-- Firmware, plan anchors, stores and the boot record. -/
structure Update where
  comps : Vector Component 5
  /-- SEQ of the boot record in force, and its two copies: SEQ is even in A and odd in B. -/
  recordSeq : Nat
  recordA : Option BootRecord
  recordB : Option BootRecord
  schema : Nat
  reverts : Nat
  defaulted : Bool
  /-- The backup of the settings (R512): register contents by address, and the certificate stores. -/
  backup : Option (List (Nat × Nat) × Vector CertStore 6)
  job : Option UpdateJob
  /-- An update that lasts through a trial (R496): component and polder. -/
  onTrial : Option (Nat × Nat)
  checkpoint : Option Checkpoint
  refuse : Nat
  unsealedAnchors : List Anchor
  stores : Vector CertStore 6
  /-- Slot contents, by component: the image bytes of A and B. -/
  bytesA : Vector Bytes 5
  bytesB : Vector Bytes 5
deriving DecidableEq, Repr

/-! ### The Fireguard (chapter 11) -/

/-- The insulation monitor of one DC output (R354 to R359). -/
structure IsoState where
  /-- Half b runs (false: half a), since this TB. -/
  halfB : Bool
  halfTb : Nat
  /-- Of the last quarter of the running half, as the lane has carried it: sums of U+ and U- in mV, frames, and whether a source was not
  VALID in one of them (R354). -/
  sumUp : Int
  sumUm : Int
  frames : Nat
  lapse : Bool
  /-- Averages of half a in mV, and whether it was valid. -/
  upA : Int
  umA : Int
  okA : Bool
  rIso : Nat
  /-- 0 unknown, 1 valid, 2 warning, 3 fault. -/
  level : Nat
  /-- CHECK of `FG_ISOn`: 0 none, 1 running, 2 good, 3 bad insulation, 4 bad ramp, 5 bad sensor. -/
  check : Nat
  /-- V_TARGET of the latest check, V. -/
  checkV : Nat
  /-- TB of the first CHECK setpoint of the running check. -/
  firstCheckTb : Option Nat
  /-- Cycles of the running dwell that have ended; none before the dwell starts. -/
  dwell : Option Nat
  /-- The worst level of the running dwell. -/
  worst : Nat
  /-- Consecutive cycles at fault, and consecutive invalid cycles (R359). -/
  faults : Nat
  invalids : Nat
deriving DecidableEq, Repr

/-- Residual-current detection of one AC outlet (R361 to R364). -/
structure RcdState where
  /-- Consecutive evaluations at the threshold, by row of R362. -/
  runs : Vector Nat 6
  /-- Consecutive evaluations without a VALID stream. -/
  bad : Nat
  /-- Latest DC and AC components, 0.1 mA. -/
  dc : Int
  ac : Nat
  /-- TB at which the running self-test began. -/
  testing : Option Nat
  testOk : Bool
  passTb : Option Nat
  /-- A self-test is due: at boot and after a trip. -/
  due : Bool
  rule : Nat
  /-- The port's samples of the last 50 ms, newest first, with their TB: none where the stream was not VALID (R361, R363, R364). -/
  win : List (Nat × Option Int)
deriving DecidableEq, Repr

/-- What the Fireguard holds for one output (R350, R351, R366). -/
structure GuardOut where
  hv : Bool
  /-- The Hearth's request, and the contactor gate (R24, R25). -/
  request : Bool
  gate : Bool
  /-- HV_EN fell while the request stood: the gate needs a new rising edge of the request while HV_EN is true (R25). -/
  needEdge : Bool
  reason : Nat
  /-- The reason of a latched drop that is held (R351). -/
  latch : Option Nat
  /-- Drops of reason 14 that are in force, and since when the sensor has been VALID again. -/
  sensorBad : Bool
  sensorOkTb : Option Nat
  /-- TB at which the gate last opened, until the welding verdict (R366). -/
  openTb : Option Nat
  /-- TB at which the gate last opened (R182). -/
  gateTb : Nat
  welded : Bool
  drops : Nat
deriving DecidableEq, Repr

/-- A safe-off in progress (R379). -/
structure SafeOff where
  trigger : Nat
  /-- Outputs affected, and of those the ones whose HV_EN is still raised. -/
  outputs : Nat
  left : Nat
  startTb : Nat
  /-- The Fireguard, or the whole part, resets when it has ended (R349, R380). -/
  thenReset : Option Nat
deriving DecidableEq, Repr

/-- One cabinet as the safety networks show it (R368 to R370). -/
structure GuardCab where
  /-- The copy of the present slot that has come first: network (false A, true B), bytes, TB. -/
  first : Option (Bool × Bytes × Nat)
  enabled : Nat
  flags : Nat
  /-- TB of the latest valid frame. -/
  validTb : Option Nat
  /-- Consecutive slots missing on both networks, and consecutive frames with tripped or fault set. -/
  missing : Nat
  badRun : Nat
  /-- The reason 6 condition is in force, and since when frames have been valid again. -/
  down : Bool
  goodTb : Option Nat
deriving DecidableEq, Repr

/-- The Fireguard. -/
structure Guard where
  /-- The cores run (false: starting), and the first TB pulse has come (R348). -/
  started : Bool
  firstPulse : Bool
  clockOk : Bool
  laneOk : Bool
  /-- TB of the latest lane frame, and consecutive lane frames up to 48,000 (R347). -/
  laneTb : Nat
  laneRun : Nat
  /-- TB at which the warm-reset hold began (R381). -/
  hold : Option Nat
  holdExpired : Bool
  resets : Nat
  lastReset : Nat
  outs : Vector GuardOut 6
  safe : Option SafeOff
  /-- The latest safe-off: trigger, outputs, forced, duration in µs; and how many since cold start. -/
  soTrigger : Nat
  soOutputs : Nat
  soForced : Nat
  soUs : Nat
  soCount : Nat
  /-- The guard input (R374 to R377): levels, TB of the latest change of levels, fault, and the test. -/
  levelA : Bool
  levelB : Bool
  levelTb : Nat
  fault : Bool
  seenOpen : Bool
  tested : Bool
  demand : Nat
  demands : Nat
  /-- The twin networks: sequence of slots, frames of the latest slot as sent, SEQ last accepted by sender and network. -/
  slotSeq : Nat
  frameA : Bytes
  frameB : Bytes
  lastSeq : Vector (Option Nat × Option Nat) 9
  /-- Valid copies of the present slot, by sender: bit k cabinet k, bit 8 the device. -/
  seenA : Nat
  seenB : Nat
  /-- Consecutive slots with an expected frame missing on A only, on B only, and the device's own missing on both. -/
  missA : Nat
  missB : Nat
  missOwn : Nat
  cabs : Vector GuardCab 8
  /-- TBs of disagreeing pairs within the last second. -/
  disTbs : List Nat
  disagree : Nat
  /-- Degraded mode: TB of entry, outputs raised at entry, cause; entries since power-on. -/
  degraded : Option Nat
  degHv : Nat
  degCause : Nat
  degEntries : Nat
  /-- TB since which both networks have delivered every expected frame without disagreement. -/
  goodTb : Option Nat
  netsLost : Bool
  /-- TB since which STATE of `FG_STATUS` has read normal (R510). -/
  normalTb : Option Nat
  iso : Vector IsoState 4
  rcd : Vector RcdState 2
deriving DecidableEq, Repr

/-- STATE of `FG_STATUS`: 0 starting, 1 normal, 2 hold, 3 safe-off. -/
def Guard.stateCode (g : Guard) : Nat :=
  if !g.started then 0 else if g.safe.isSome then 3 else if g.hold.isSome then 2 else 1

/-- STATE of `FG_STATUS` reads normal. -/
def Guard.normal (g : Guard) : Bool := g.stateCode == 1

/-- Keep `normalTb` at the start of the present run of STATE normal. -/
def Guard.watch (g : Guard) (tb : Nat) : Guard :=
  { g with normalTb := if g.normal then some (g.normalTb.getD tb) else none }

/-! ### The session sequencer (chapter 10) -/

/-- States of an output (R316). -/
inductive OutState
  | idle | unavailable | lock | link | specCheck | specPrecharge | specReady | check | precharge | ready
  | charging | paused | stopping | weldcheck | rollback | unlock | waitUnplug | fault
deriving DecidableEq, Repr

/-- The sequencer of one output. -/
structure SeqOut where
  state : OutState
  enterTb : Nat
  sid : Option (Fin 64)
  /-- AUTH of `SEQ_STATEn`. -/
  auth : Nat
  cause : Nat
  /-- TB of the session start reported to billing (R313). -/
  startTb : Option Nat
  /-- The session end has been reported to billing (R313). -/
  ended : Bool
  /-- A stop cause has been recorded for this session (R318). -/
  stopped : Bool
  /-- Speculation has ended in a hold timeout in this session, and the present ROLLBACK returns to LINK (R323). -/
  holdUsed : Bool
  toLink : Bool
  /-- Voltage in V of a good cable check that is kept. -/
  verdictV : Option Nat
  /-- The vehicle's CableCheck request has come. -/
  cableReq : Bool
  /-- The vehicle's maximum voltage, PreCharge target (mV), target current (mA) and requested power (mW), export negative. -/
  vMax : Nat
  target : Option Nat
  iTarget : Int
  pReq : Int
  /-- OUTPUT_READY is held 0 after FAULT (R319), until CLEAR (causes 16 and 19), or by BLOCK. -/
  faultHold : Bool
  needClear : Bool
  blocked : Bool
  /-- Demand and allocation in mW (R334, R337), and what limits (`SEQ_LIMITn`). -/
  demand : Int
  alloc : Int
  limiter : Nat
  /-- TBs since which the allocation, and the thermal cap, have been 0. -/
  zeroAllocTb : Option Nat
  zeroCapTb : Option Nat
  /-- The pilot carries 5 % until this TB in UNLOCK and WAIT_UNPLUG (R339). -/
  fiveUntil : Option Nat
  /-- The masking key of the charging session (R44); empty when none. -/
  maskKey : Bytes
  /-- TB at which the pump's post-run ends (R336). -/
  postRun : Option Nat
  /-- A fall of HV_EN, with its cause, that the sequencer has not seen because it is suspended (R25, R343). -/
  fell : Option Nat
  /-- A change of the pilot or of PP that a suspended sequencer has not seen (R343). -/
  missed : Bool
deriving DecidableEq, Repr

/-- A cabinet on the setpoint networks (R324 to R328). -/
structure Cabinet where
  state : Nat
  lost : Bool
  /-- TB of the latest good status frame on A and on B. -/
  aTb : Option Nat
  bTb : Option Nat
  /-- SEQ of the status frame last taken, and its bytes for the comparison with the other copy. -/
  seq : Option Nat
  taken : Option (Bool × Bytes)
  disagree : Nat
  temp : Int
  losses : Nat
  pAvail : Nat
  vMeas : Nat
  iMeas : Int
  echo : Nat
  /-- SEQ of setpoint frames, and TB of the first setpoint other than OFF not yet answered by ready. -/
  spSeq : Nat
  activeTb : Option Nat
deriving DecidableEq, Repr

/-- The sequencer. -/
structure Seqr where
  outs : Vector SeqOut 6
  cabs : Vector Cabinet 8
  /-- The latest setpoint frames on A: cabinet and bytes. -/
  frames : List (Nat × Bytes)
  guardPower : Int
  budget : Int
  share : Int
  source : Nat
  guardBlind : Bool
  fallback : Bool
  /-- Raised shares that wait, each with the TB from which it holds (R333). -/
  raise : List (Int × Nat)
  nodesMax : Nat
  /-- The sequencer waits for a Hearth resume (R343). -/
  suspended : Bool
deriving DecidableEq, Repr

/-! ### The vehicle link (chapter 09) -/

/-- What a pilot driver carries (R284). -/
inductive PilotDrive
  | steady
  | pwm (duty : Nat)
  | minus12
deriving DecidableEq, Repr

/-- One control pilot (R279 to R284). -/
structure Pilot where
  /-- STATE of `VEH_PILOTn`. -/
  state : Nat
  /-- The signal that the sequencer has chosen, the one before it, and the TB of the PWM period start at which it takes effect (R280). -/
  drive : PilotDrive
  was : PilotDrive
  fromTb : Nat
  diode : Bool
  high : Int
  low : Int
  /-- TB at which the state was accepted. -/
  tb : Nat
deriving DecidableEq, Repr

/-- A modem of the matrix (R287 to R290, R311). -/
structure Modem where
  coupler : Nat
  failed : Bool
  matched : Bool
  inSlac : Bool
  txDropped : Nat
  txFrames : Nat
  rxFrames : Nat
  /-- Token buckets in units of 1/25,000,000 frame, and the TB of their refill. -/
  mgmt : Nat
  data : Nat
  refillTb : Nat
  mac : Nat
  nid : Bytes
  nmk : Bytes
deriving DecidableEq, Repr

/-- A SLAC run (R291 to R295). -/
structure SlacRun where
  runId : Bytes
  /-- Couplers that are candidates. -/
  candidates : Nat
  /-- TB of CM_START_ATTEN_CHAR.IND. -/
  startTb : Option Nat
  sounds : Nat
  /-- Sums of the attenuation means over the sounds and their number, by coupler, 0.5 dB units. -/
  sums : Vector (Nat × Nat) 6
  /-- `VEH_SLACCFG` as the run took it (R295). -/
  cfg : Nat
  /-- Neighbour values heard, 0.5 dB units. -/
  neighbours : List Nat
  closed : Bool
  winner : Option (Fin 6)
  /-- B-C-B toggles counted, by coupler, once CM_VALIDATE has started (R294). -/
  toggles : Option (Vector Nat 6)
deriving DecidableEq, Repr

/-- `VEH_SLACn`. -/
structure SlacPort where
  result : Nat
  own : Nat
  next : Nat
  runs : Nat
  ambiguous : Nat
deriving DecidableEq, Repr

/-- A 10BASE-T1S port (R296, R297). -/
structure T1s where
  enabled : Bool
  link : Bool
  /-- The port has dropped its link and has not been enabled anew (R34, R297). -/
  lost : Bool
  drops : Nat
  errors : Nat
deriving DecidableEq, Repr

/-- The ISO 15118 or DIN session of a pilot. -/
structure Proto where
  protocol : Nat
  tls : Bool
  /-- TLS 1.3 (ISO 15118-20). -/
  tls13 : Bool
  clientCert : Bool
  payment : Nat
  stage : Nat
  service : Nat
  /-- The latest response has been sent and no later message of the vehicle has come, which acknowledges it (R30). -/
  unacked : Bool
deriving DecidableEq, Repr

/-- The relay of a pilot (R306). -/
structure Relay where
  kind : Nat
  seq : Nat
  len : Nat
  /-- TB at which the request lapses. -/
  deadline : Option Nat
  request : Bytes
  response : Bytes
deriving DecidableEq, Repr

/-- An entry of the local authorisation list (R309). -/
structure ListEntry where
  hash : Nat
  blocked : Bool
  expiry : Nat
deriving DecidableEq, Repr

/-- A response to a vehicle: message kind, failure, processing "ongoing", and its figures. -/
structure VehResp where
  msg : String
  /-- IsolationLevel of a DC output (R356): 0 none, 1 Valid, 2 Warning, 3 Fault, 4 Invalid. -/
  isolation : Nat
  failed : Bool
  ongoing : Bool
  args : List Int
  body : Bytes
deriving DecidableEq, Repr

/-- The vehicle link. -/
structure Veh where
  pilots : Vector Pilot 6
  /-- The pilots that the measurement and the wake detector watch, bit n for CPn: those of the outputs that the running plan declared at its
  start or at EMBER entry (R545). -/
  watched : Nat
  /-- Accepted PP code and resistance. -/
  pp : Vector (Nat × Nat) 6
  modems : Vector Modem 7
  /-- The running SLAC runs, by RUN_ID. -/
  slac : List SlacRun
  ports : Vector SlacPort 6
  serving : Nat
  switches : Nat
  lastUs : Nat
  t1s : Vector T1s 4
  proto : Vector Proto 6
  relay : Vector Relay 6
  list : List ListEntry
  /-- The latest response sent to the vehicle of each pilot. -/
  resp : Vector (Option VehResp) 6
deriving DecidableEq, Repr

/-! ### Load switches (chapter 12) -/

/-- One load-switch channel (R384 to R400). -/
structure LswChan where
  /-- STATE of `LSW_STATn`. -/
  state : Nat
  retryLeft : Nat
  /-- TB at which a retry wait ends. -/
  waitUntil : Nat
  /-- Lock report: 0 idle, 1 driving, 2 end of travel, 3 timeout; and the TB at which the drive began. -/
  lock : Nat
  lockTb : Nat
  /-- The sequencer or the Fireguard drives the channel (modes LOCK and FGUARD). -/
  driven : Bool
  loadOff : Bool
  /-- An open load is seen now (R397, R398). -/
  openNow : Bool
  /-- The latest off-state result and how many equal ones came in a row. -/
  lastTest : Bool
  testRun : Nat
  trips : Nat
  /-- TB of the gate's latest closing, and PULLIN as taken up then. -/
  gateTb : Nat
  /-- The gate must open before the channel turns on again (R401). -/
  gateHold : Bool
deriving DecidableEq, Repr

/-- One run of a pulse generator (R388, R389): PERIOD and DUTY as they act from the period start at tick `start` on. -/
structure PgRun where
  start : Nat
  period : Nat
  duty : Nat
deriving DecidableEq, Repr

/-- The load switches. -/
structure Lsw where
  chans : Vector LswChan 24
  uv : Bool
  /-- The runs of each pulse generator, oldest first: the latest may lie ahead, and an earlier one stays while an on phase of it can still
  last (R389). -/
  pgs : Vector (List PgRun) 8
  /-- The phases of each channel: from the period start at which tick which PHASE acts (R389). -/
  phases : Vector (List (Nat × Nat)) 24
deriving DecidableEq, Repr

/-! ### Card reader and service tag (chapter 13) -/

/-- Reader states (R405). -/
inductive RdState | off | start | lpcd | poll | hold | recovery | test | fault
deriving DecidableEq, Repr

/-- A held card (R413 to R416). -/
structure Card where
  parked : Bool
  typeB : Bool
  sak : Nat
  atqa : Nat
  uid : Bytes
  sid : Fin 64
  tb : Nat
  /-- Consecutive inventories without it. -/
  misses : Nat
  pseudonym : Nat
  /-- It waits to be bound since `tb` (R416). -/
  waiting : Bool
  /-- The output that it has been applied to. -/
  bound : Option (Fin 6)
deriving DecidableEq, Repr

/-- The card reader. -/
structure Reader where
  state : RdState
  stateTb : Nat
  cards : Vector (Option Card) 4
  extra : Nat
  detects : Nat
  falseDetects : Nat
  consecFalse : Nat
  /-- Poll cycles of the present POLL without a card. -/
  polls : Nat
  /-- TB of the latest card seen in START or RECOVERY, and of the latest exchange or change of cards in HOLD. -/
  lastTb : Nat
  /-- The baseline, in 2^-16 of a register unit (R408). -/
  baseAmp : Int
  basePh : Int
  lastAmp : Int
  lastPh : Int
  /-- A detecting ping awaits its repeat. -/
  confirm : Bool
  /-- The field stopped at a power-fail warning (R404). -/
  held : Bool
  /-- The exchange: STATE, ERROR, response length (R417). -/
  xState : Nat
  xErr : Nat
  xLen : Nat
  command : Bytes
  response : Bytes
deriving DecidableEq, Repr

/-- Tag files by File ID (R419). -/
inductive TagFile | cc | ndef | svcLog | svcCfg | svcMsg
deriving DecidableEq, Repr

/-- The service tag (R418 to R431). The system pages that no path reads are kept as typed fields; every other byte of the
tag FRAM stands in `mem`. -/
structure Tag where
  /-- The tag FRAM outside the system pages: (offset, byte), strictly rising, no entry equal to what `fram0` gives. -/
  mem : List Host.Cell
  key : Option Bytes
  pwd : Nat
  pwdEn : Bool
  fdetEn : Bool
  statusOff : Nat
  fails : Nat
  /-- FIELD of `NFC_TAGSTAT`: 0 none, 1 field, 2 selected, 3 secured. -/
  field : Nat
  /-- TB of the SELECT that began the field transaction. -/
  txnTb : Option Nat
  app : Bool
  file : Option TagFile
  rndB : Option Bytes
  /-- FDET is pulled low, and the TB of the field's loss. -/
  fdet : Bool
  lostTb : Option Nat
  wireBusy : Nat
  recovered : Nat
  wtx : Nat
  /-- The commit record when it is set: the page; and the shadow page (R428). -/
  commit : Option Nat
  shadow : Bytes
  /-- Wired writes that wait for the field, each within one page: offset and bytes. -/
  wire : List (Nat × Bytes)
  /-- TB since which the status-line writer has found FAULT_N low (R431). -/
  faultSince : Option Nat
  /-- The latest answer to a field command. -/
  answer : Bytes
deriving DecidableEq, Repr

/-! ### The mains mesh (chapter 14) -/

/-- The zero-crossing tracker of a phase (R432, R433). -/
structure Tracker where
  locked : Bool
  /-- Spacing of the locked crossings, µs. -/
  spacing : Nat
  jumps : Nat
deriving DecidableEq, Repr

/-- A mesh frame (R436). -/
structure MeshFrame where
  type : Nat
  orig : Nat
  send : Nat
  hops : Nat
  cost : Nat
  seq : Nat
  payload : Nat
deriving DecidableEq, Repr

/-- A frame that waits for the channel or is being sent: attempts made, and idle periods still to wait. -/
structure MeshTx where
  frame : MeshFrame
  relay : Bool
  attempts : Nat
deriving DecidableEq, Repr

/-- What a post keeps of another node (R440, R443, R445). -/
structure MeshNode where
  /-- The context in the session table. -/
  sid : Option (Fin 64)
  /-- TB of the latest accepted frame. -/
  tb : Nat
  /-- Link cost, SEQ and TB of the latest direct frame; link 0 while never heard directly. -/
  link : Nat
  linkSeq : Nat
  linkTb : Nat
  /-- Accepted (SEQ, TB), latest first, at most 8. -/
  seqs : List (Nat × Nat)
  /-- Path costs with hops and TB of the last 60 s. -/
  paths : List (Nat × Nat × Nat)
  /-- The latest CLAIM or BEACON: payload, whether CLAIM, TB. -/
  payload : Nat
  sharing : Bool
  claimTb : Option Nat
deriving DecidableEq, Repr

/-- The mesh. -/
structure Mesh where
  phases : Vector Tracker 3
  nodes : Vector MeshNode 64
  /-- Frames that wait to be sent, first first, and the frame on the mains. -/
  queue : List MeshTx
  sending : Option MeshTx
  /-- Relay waits (R444). -/
  waits : List MeshTx
  cost : Nat
  seq : Nat
  /-- SEQs this post has sent, for R446. -/
  sent : List Nat
  clash : Bool
  untracked : Nat
  txOk : Nat
  txRetries : Nat
  txDropped : Nat
  rxBad : Nat
  /-- Token buckets in units of 1/1,500,000,000 frame, and the TB of their refill. -/
  orig : Nat
  relays : Nat
  refillTb : Nat
  timeS : Nat
  timeOrig : Nat
  timeTb : Nat
  /-- TB of the latest claim and TIME frame queued. -/
  claimTb : Option Nat
  timeDueTb : Option Nat
deriving DecidableEq, Repr

/-! ### Power, clocks and reset (chapter 15) -/

/-- Power states (R456). DOZE changes nothing visible and is not told apart from RUN (R457). -/
inductive PowerMode | run | ember | vault | off
deriving DecidableEq, Repr

/-- The anchor in the backup domain (R475). -/
structure TbAnchor where
  tb : Nat
  rtc : Nat
  wall : Option Nat
deriving DecidableEq, Repr

/-- Power, clocks, reset and boot. -/
structure Power where
  mode : PowerMode
  /-- A cold reset is in force until `COLD_BOOT`, and NRST is held. -/
  inReset : Bool
  nrst : Bool
  /-- The present hold of NRST has counted its T_NRST (R484). -/
  nrstCounted : Bool
  /-- Code of the latest reset (R479). -/
  last : Nat
  /-- A cold reset that waits for safe-off to end, by code (R473). -/
  coldAfter : Option Nat
  warm : Nat
  failovers : Nat
  cold : Nat
  /-- TBs of warm resets in the last 60 s (R481). -/
  warmTbs : List Nat
  pfw : Bool
  pfwCount : Nat
  /-- VIN is above brown-out. -/
  vin : Bool
  /-- The backup domain's own power-on flag: it lost its state, or the part is new (R455, R477). -/
  backupLost : Bool
  /-- The flash die has stopped answering (R489, R528). -/
  flashDead : Bool
  /-- What a boot that waits for the flash die was given: strap, RTC ticks since the anchor, crystal (R489). -/
  bootWait : Option (Nat × Nat × Bool)
  /-- `PWR_FLAGS.VBAT_LOST`. -/
  vbatLost : Bool
  pilotSupply : Bool
  pll : Bool
  xtal : Bool
  lprc : Bool
  /-- The LPRC ran at some time since the latest anchor. -/
  lprcRan : Bool
  /-- The RTC count at the TB `rtcTb`; while TB stands still, the count when it stopped. -/
  rtc : Nat
  rtcTb : Nat
  anchor : Option TbAnchor
  spliceKind : Nat
  spliceWide : Bool
  spliceUs : Nat
  spliceDtb : Nat
  pendingWake : Bool
  lastWake : Nat
  retained : Nat
  lost : Nat
  sleepS : Nat
  /-- Banks that the present sleep retains. -/
  retain : Nat
  /-- BOOT[1:0] at the latest sampling; recovery service runs; service level 1 reached by boot, up to 3. -/
  strap : Nat
  recovery : Bool
  level : Nat
  /-- TB from which every condition of R458 has held, the one on host frames included. -/
  idleTb : Nat
deriving DecidableEq, Repr

/-! ### The whole state -/

/-- The state of the block. -/
structure State where
  /-- Contents of the writable registers, by address; an address not listed holds its reset value. -/
  regs : List (Nat × Nat)
  /-- Values in use of registers with F- or S-class fields (R9); not listed: the value in `regs` at reset. -/
  use : List (Nat × Nat)
  /-- Conditions seen since the last read of LH fields, and lost since it of LL fields, by address (R6). -/
  sticky : List (Nat × Nat)
  /-- The Hearth cores. -/
  hearth : Hearth
  /-- TB and wall time. -/
  clock : Clock
  /-- Life-cycle fuses. -/
  life : LifeCycle
  /-- The Key Register. -/
  keys : KeyReg
  /-- Host ports, sessions and sluices. -/
  host : HostState
  /-- Job slots. -/
  jobs : Jobs
  /-- Performance counters and bandwidth windows. -/
  cnt : Counters
  /-- The event log. -/
  log : EventLog
  /-- The Grate and its plans. -/
  grate : Grate
  /-- Sensing inputs and offset tracking. -/
  sens : Sensing
  /-- Energy registers and the metrology journal. -/
  nrg : Energy
  /-- Billing. -/
  bil : Billing
  /-- The seal, the tamper ledger and the Flue. -/
  mseal : Seal
  /-- Firmware update and the boot record. -/
  fw : Update
  /-- The Fireguard. -/
  guard : Guard
  /-- The session sequencer. -/
  seqr : Seqr
  /-- The vehicle link. -/
  veh : Veh
  /-- The load switches. -/
  lsw : Lsw
  /-- The card reader. -/
  rdr : Reader
  /-- The service tag. -/
  tag : Tag
  /-- The mains mesh. -/
  mesh : Mesh
  /-- Supplies, clocks, reset and boot. -/
  pwr : Power
  /-- The model's own counter of free values taken so far (log entry 2). -/
  draws : Nat
  /-- Commands that wait, first in, first out. -/
  pending : List Instr
deriving DecidableEq, Repr

/-! ### The state after reset, block by block -/

/-- An empty key slot. -/
def KeySlot.reset : KeySlot where
  state := .empty
  kind := 0
  engines := 0
  grant := 0
  legacy := 0
  parent := 0
  hasParent := false
  gen := 0
  parentGen := 0
  limit := 0
  count := 0
  expiry := 0
  key := []
  share := []
  kept := .no
  useBoundary := 0

/-- The Key Register after a cold reset of a new part: every slot empty until boot derives slots 1, 2, 4 and 6 (R60). -/
def KeyReg.reset : KeyReg where
  slots := Vector.replicate 256 KeySlot.reset
  refusals := 0
  lastStatus := 0
  lastSlot := 0
  lastEngine := 0
  lastPolder := 0
  remaskTb := none
  hss := { next := 0, boundary := 0, nextReady := false, computing := false }

/-- An idle host port. -/
def PortState.reset : PortState where
  carrier := false
  dropped := 0
  tagFails := 0
  idleSince := 0
  backoff := Vector.replicate 6 { n := 0, until_ := none }

/-- Host ports and sessions after reset: no session, every ID free in order (R103, R114). -/
def HostState.reset : HostState where
  ports := Vector.replicate 4 PortState.reset
  table := Vector.replicate 64 .free
  freeSids := (List.finRange 64).drop 1
  sluices := Vector.replicate 8 { msgs := [], overflows := 0 }
  password3 := none
  password5 := none
  darkCount := 0
  darkBlock := 0
  resp := none

/-- An idle job slot. -/
def Job.reset : Job where
  state := .idle
  error := 0
  progress := 0
  id := 0
  code := 0
  polder := 0
  params := []
  input := []
  records := []
  cancellable := false
  finishTb := 0
  seen := true
  exported := []
  commissioning := false
  target := none

/-- Job slots after a cold reset (R117, R123). -/
def Jobs.reset : Jobs where
  slots := Vector.replicate 16 Job.reset
  nextId := 0
  order := []

/-- Counters after a cold reset (R519). -/
def Counters.reset : Counters where
  count := Vector.replicate 24 0
  wrap := Vector.replicate 24 0
  bw := Vector.replicate 4 { start := 0, inBytes := 0, outBytes := 0, lastIn := 0, lastOut := 0, peakIn := 0, peakOut := 0 }

/-- The event log of a new part. -/
def EventLog.reset : EventLog where
  staged := []
  ring := []
  next := 0
  boundary := 0
  wrapped := false
  bootGap := 0
  folds := []
  folded := 0
  stageLost := 0
  flashOk := false

def IcState.reset : IcState where
  valid := false
  level := false
  steady := 0
  good := 0
  noTrans := false
  highSide := false
  overrange := false
  ones := 0
  lostFrames := 0
  sensorCounted := false
  losses := 0
  longLosses := 0
  window := []
  rises := 0

def FlState.reset : FlState where
  integ := []
  comb := []
  line := []
  settled := 0
  phase := 0
  out := 0
  valid := false

def MaState.reset : MaState where
  hist := []
  settled := 0
  out := 0
  valid := false
  saturated := false
  lastTemp := 0
  tempAge := 0
  stale := false

def TcState.reset : TcState where
  runTrue := 0
  runFalse := 0
  verdict := false
  valid := false
  latest := 0
  rises := 0

def InState.reset : InState where
  acc := 0
  pulse := 0
  added := 0
  invalid := 0
  run := 0
  lastMw := 0
  settled := false
  fresh := 0

def SqState.reset : SqState where
  step := 0
  left := 0
  lastTrig := false

def VoteState.reset : VoteState where
  state := 0
  membersValid := 0
  setAside := 0
  disagreeNow := false
  runBad := 0
  runGood := 0
  persistent := false
  total := 0

/-- The Grate after a cold reset: no plan runs, none is stored in a new part. -/
def Grate.reset : Grate where
  plan := none
  stored := []
  loadErr := 0
  frames := 0
  tickFrame := 0
  settled := false
  validRun := 0
  ic := Vector.replicate 48 IcState.reset
  fl := Vector.replicate 128 FlState.reset
  ma := Vector.replicate 96 MaState.reset
  tc := Vector.replicate 48 TcState.reset
  integ := Vector.replicate 32 InState.reset
  sq := Vector.replicate 16 SqState.reset
  vote := Vector.replicate 32 VoteState.reset
  shadow := none
  shadowFile := []
  shadowState := 0
  sealedDiff := false
  tripDiff := false
  liveOk := false
  refuse := 0
  waitUntil := 0
  lines := Vector.replicate 16 false
  lineOffTb := Vector.replicate 16 0
  restart := Vector.replicate 56 0

def FgPort.reset : FgPort where
  on := false
  budget := false
  open_ := false
  short := false
  sat := false
  valid := false
  goodPeriods := 0
  sample := 0
  offUntil := none
  magSince := none
  satSince := none
  lostFrames := 0
  sensorCounted := false

def CalSlot.reset : CalSlot := { scale := 0, offset := 0, temp := 0, phase := 0 }

def Track.reset : Track := { value := 0, next := none, window := none, limitHit := false }

def Sensing.reset : Sensing where
  mclkOn := Vector.replicate 4 false
  padFault := Vector.replicate 4 false
  fg := Vector.replicate 8 FgPort.reset
  track := Vector.replicate 64 Track.reset
  calInUse := Vector.replicate 64 CalSlot.reset
  measure := none
  magEpisode := false
  magLastTb := 0

def LiveState.reset : LiveState where
  sum := Vector.replicate 16 0
  sumSq := Vector.replicate 16 0
  good := Vector.replicate 16 0
  frames := 0
  value := Vector.replicate 16 0
  valid := 0
  phaseLoss := false
  lastV := Vector.replicate 3 0
  cross := Vector.replicate 3 0
  prevL1 := 0
  firstL1 := 0
  nL1 := 0
  seq := 0
  seqSince := 0
  seqEpisode := false
  neutral := false
  neutralSince := 0
  neutralEpisode := false
  peakMw := 0
  published := 0

def PulseOut.reset : PulseOut where
  queued := 0
  active := false
  left := 0
  gap := 0
  width := 48
  emitted := 0
  lost := 0

/-- Energy of a new part: no journal copy has ever been written (R218). -/
def Energy.reset : Energy where
  e := Vector.replicate 7 (Vector.replicate 4 0)
  svc := Vector.replicate 7 (Vector.replicate 2 0)
  tick := 0
  tickTb := 0
  live := Vector.replicate 6 LiveState.reset
  pulses := Vector.replicate 6 PulseOut.reset
  siteLive := Vector.replicate 2 0
  siteValid := 0
  waiting := []
  shortPending := false
  writeUs := 0
  copyA := none
  copyB := none
  everSaved := false
  saveSeq := 0
  journal := 0
  restoredReason := 0
  dtAssumed := false
  restoredShort := false
  restoredTb := 0
  unbooked := Vector.replicate 6 (0, 0)
  journalLost := false

/-- An interval without ticks. -/
def Interval.zero (start stop : Nat) : Interval where
  start := start
  stop := stop
  energy := Vector.replicate 7 0
  tariff := Vector.replicate 7 0
  interrupted := false
  held := false
  uncertain := false
  short := false
  skipped := false
  hasTick := false

def MaxDemand.zero : MaxDemand := { d := 0, flags := 0, stop := 0, tariff := 0 }

def Hold.zero (sid startTb : Nat) : Hold := { sid, startTb, bucket := Vector.replicate 8 (Vector.replicate 2 0), outcome := none, timedOut := false }

def OutAttr.reset : OutAttr where
  attr := .none
  sid := 0
  cur := .none
  curSid := 0
  sinceTb := 0
  startTb := 0
  sessImp := 0
  sessExp := 0
  void := false
  starts := []
  ends := []

/-- Billing of a new part: time unknown, registers 0, DEMCFG at its reset value. -/
def Billing.reset : Billing where
  mode := .unknown
  timeAt := 0
  timeTb := 0
  wide := false
  lastB := none
  tariffNow := Vector.replicate 7 0
  ticks := []
  jseq := 1
  throughTb := 0
  throughS := 0
  throughFlags := 0
  boundaries := 0
  calUntil := []
  queue := []
  cmdNow := Vector.replicate 7 none
  cmdOrder := 0
  demcfg := 0x32
  phase := 0
  cuts := []
  marks := []
  running := Interval.zero 0 900000
  subs := []
  last := Vector.replicate 7 MaxDemand.zero
  md := Vector.replicate 7 (Vector.replicate 9 MaxDemand.zero)
  pmd := Vector.replicate 7 (Vector.replicate 9 MaxDemand.zero)
  treg := Vector.replicate 7 (Vector.replicate 8 (Vector.replicate 2 0))
  holds := Vector.replicate 6 []
  attr := Vector.replicate 6 OutAttr.reset
  period := 0
  lastPeriodMin := none
  saveA := none
  saveB := none
  saveSeq := 0
  events := []

/-- The sealed metrology record of a new part: seal closed, KEY_EPOCH 0, no digest, no calibration (R262). -/
def SealedRecord.reset : SealedRecord where
  seq := 0
  open_ := false
  deadline := 0
  reason := 0
  epoch := 0
  selector := 0
  mdigest := none
  cal := Vector.replicate 64 CalSlot.reset
  anchors := []
  calDigest := List.replicate 48 0
  certPartial := false
  backupGap := false
  root := 2

def LedgerEntry.reset : LedgerEntry where
  count := 0
  firstTb := 0
  firstWall := 0
  lastTb := 0
  lastWall := 0
  lastArg := 0
  firstMerged := false
  lastMerged := false
  dCount := 0
  dFirstWall := 0
  dLastWall := 0
  dLastArg := 0
  sramTb := none

def Seal.reset : Seal where
  record := SealedRecord.reset
  older := none
  closing := false
  changed := false
  ledger := Vector.replicate 11 LedgerEntry.reset
  ledgerA := none
  ledgerB := none
  inputs := Vector.replicate 4 { active := false, lastTb := none }
  next := 0
  boundary := 256
  store := []
  queue := []
  lost := 0
  certs := []
  span := Vector.replicate 7 0
  splice := Vector.replicate 7 0
  tickSpan := Vector.replicate 7 0

/-- The image of firmware release 1.0 that a new part holds in slot A of every component (log entry 5). -/
def Image.release : Image := { version := 0x01000000, svn := 0, metro := 0, provides := 1, requires_ := [0, 0, 0, 0, 0], schema := 0 }

def Component.reset : Component where
  active := false
  stA := .active
  stB := .empty
  imgA := some Image.release
  imgB := none
  trial := false
  recheck := false
  starts := 0
  seconds := 0
  floor := 0
  metroChange := false
  running := true
  secTb := 0

def Update.reset : Update where
  comps := Vector.replicate 5 Component.reset
  recordSeq := 0
  recordA := some { seq := 0, comps := Vector.replicate 5 Component.reset, schema := 0, whole := true }
  recordB := none
  schema := 0
  reverts := 0
  defaulted := false
  backup := none
  job := none
  onTrial := none
  checkpoint := none
  refuse := 0
  unsealedAnchors := []
  stores := Vector.replicate 6 { certs := [], slot := 0, expires := 0 }
  bytesA := Vector.ofFn (fun k => Config.releaseImage k.1)
  bytesB := Vector.replicate 5 []

def IsoState.reset : IsoState where
  halfB := false
  halfTb := 0
  sumUp := 0
  sumUm := 0
  frames := 0
  lapse := false
  upA := 0
  umA := 0
  okA := false
  rIso := 0
  level := 0
  check := 0
  checkV := 0
  firstCheckTb := none
  dwell := none
  worst := 0
  faults := 0
  invalids := 0

def RcdState.reset : RcdState where
  runs := Vector.replicate 6 0
  bad := 0
  dc := 0
  ac := 0
  testing := none
  testOk := false
  passTb := none
  due := true
  rule := 0
  win := []

def GuardOut.reset : GuardOut where
  hv := false
  request := false
  gate := false
  needEdge := false
  reason := 0
  latch := none
  sensorBad := false
  sensorOkTb := none
  openTb := none
  gateTb := 0
  welded := false
  drops := 0

def GuardCab.reset : GuardCab where
  first := none
  enabled := 0
  flags := 0
  validTb := none
  missing := 0
  badRun := 0
  down := false
  goodTb := none

/-- The Fireguard after power-on: starting, every HV_EN low, the guard test not passed (R349, R376). -/
def Guard.reset : Guard where
  started := false
  firstPulse := false
  clockOk := false
  laneOk := false
  laneTb := 0
  laneRun := 0
  hold := none
  holdExpired := false
  resets := 0
  lastReset := 0
  outs := Vector.replicate 6 GuardOut.reset
  safe := none
  soTrigger := 0
  soOutputs := 0
  soForced := 0
  soUs := 0
  soCount := 0
  levelA := false
  levelB := false
  levelTb := 0
  fault := false
  seenOpen := false
  tested := false
  demand := 1
  demands := 1
  slotSeq := 0
  frameA := []
  frameB := []
  lastSeq := Vector.replicate 9 (none, none)
  seenA := 0
  seenB := 0
  missA := 0
  missB := 0
  missOwn := 0
  cabs := Vector.replicate 8 GuardCab.reset
  disTbs := []
  disagree := 0
  degraded := none
  degHv := 0
  degCause := 0
  degEntries := 0
  goodTb := none
  netsLost := false
  normalTb := none
  iso := Vector.replicate 4 IsoState.reset
  rcd := Vector.replicate 2 RcdState.reset

def SeqOut.reset : SeqOut where
  state := .unavailable
  enterTb := 0
  sid := none
  auth := 0
  cause := 0
  startTb := none
  ended := false
  stopped := false
  holdUsed := false
  toLink := false
  verdictV := none
  cableReq := false
  vMax := 0
  target := none
  iTarget := 0
  pReq := 0
  faultHold := false
  needClear := false
  blocked := false
  demand := 0
  alloc := 0
  limiter := 0
  zeroAllocTb := none
  zeroCapTb := none
  fiveUntil := none
  maskKey := []
  postRun := none
  fell := none
  missed := false

def Cabinet.reset : Cabinet where
  state := 0
  lost := false
  aTb := none
  bTb := none
  seq := none
  taken := none
  disagree := 0
  temp := 0
  losses := 0
  pAvail := 0
  vMeas := 0
  iMeas := 0
  echo := 0
  spSeq := 0
  activeTb := none

/-- The sequencer before it starts: every output UNAVAILABLE (R344). -/
def Seqr.reset : Seqr where
  outs := Vector.replicate 6 SeqOut.reset
  cabs := Vector.replicate 8 Cabinet.reset
  frames := []
  guardPower := 0
  budget := 0
  share := 0
  source := 0
  guardBlind := false
  fallback := false
  raise := []
  nodesMax := 1
  suspended := false

def Pilot.reset : Pilot := { state := 0, drive := .steady, was := .steady, fromTb := 0, diode := false, high := 0, low := 0, tb := 0 }

/-- Modem `m` drives coupler `m`; GP6 has none (chapter 09). -/
def Modem.reset (m : Nat) : Modem where
  coupler := if m = 6 then 7 else m
  failed := false
  matched := false
  inSlac := false
  txDropped := 0
  txFrames := 0
  rxFrames := 0
  mgmt := 20 * 25000000
  data := 64 * 25000000
  refillTb := 0
  mac := m
  nid := []
  nmk := []

def SlacPort.reset : SlacPort := { result := 0, own := 0, next := 0, runs := 0, ambiguous := 0 }

def Proto.reset : Proto := { protocol := 0, tls := false, tls13 := false, clientCert := false, payment := 0, stage := 0, service := 0, unacked := false }

def Relay.reset : Relay := { kind := 0, seq := 0, len := 0, deadline := none, request := [], response := [] }

def Veh.reset : Veh where
  pilots := Vector.replicate 6 Pilot.reset
  watched := 0
  pp := Vector.replicate 6 (0, 0)
  modems := Vector.ofFn (fun m => Modem.reset m.1)
  slac := []
  ports := Vector.replicate 6 SlacPort.reset
  serving := 7
  switches := 0
  lastUs := 0
  t1s := Vector.replicate 4 { enabled := false, link := false, lost := false, drops := 0, errors := 0 }
  proto := Vector.replicate 6 Proto.reset
  relay := Vector.replicate 6 Relay.reset
  list := []
  resp := Vector.replicate 6 none

def LswChan.reset : LswChan where
  state := 0
  retryLeft := 0
  waitUntil := 0
  lock := 0
  lockTb := 0
  driven := false
  loadOff := false
  openNow := false
  lastTest := false
  testRun := 0
  trips := 0
  gateTb := 0
  gateHold := false

def Lsw.reset : Lsw where
  chans := Vector.replicate 24 LswChan.reset
  uv := false
  pgs := Vector.replicate 8 [{ start := 0, period := 4000, duty := 0 }]
  phases := Vector.replicate 24 [(0, 0)]

def Reader.reset : Reader where
  state := .off
  stateTb := 0
  cards := Vector.replicate 4 none
  extra := 0
  detects := 0
  falseDetects := 0
  consecFalse := 0
  polls := 0
  lastTb := 0
  baseAmp := 0
  basePh := 0
  lastAmp := 0
  lastPh := 0
  confirm := false
  held := false
  xState := 0
  xErr := 0
  xLen := 0
  command := []
  response := []

/-- The tag of a new part: FDET_EN 1, PWD_EN 0, no key, no password (chapter 13). -/
def Tag.reset : Tag where
  mem := []
  key := none
  pwd := 0
  pwdEn := false
  fdetEn := true
  statusOff := 0
  fails := 0
  field := 0
  txnTb := none
  app := false
  file := none
  rndB := none
  fdet := false
  lostTb := none
  wireBusy := 0
  recovered := 0
  wtx := 0
  commit := none
  shadow := []
  wire := []
  faultSince := none
  answer := []

def Tracker.reset : Tracker := { locked := false, spacing := 0, jumps := 0 }

def MeshNode.reset : MeshNode where
  sid := none
  tb := 0
  link := 0
  linkSeq := 0
  linkTb := 0
  seqs := []
  paths := []
  payload := 0
  sharing := false
  claimTb := none

def Mesh.reset : Mesh where
  phases := Vector.replicate 3 Tracker.reset
  nodes := Vector.replicate 64 MeshNode.reset
  queue := []
  sending := none
  waits := []
  cost := 0
  seq := 0
  sent := []
  clash := false
  untracked := 0
  txOk := 0
  txRetries := 0
  txDropped := 0
  rxBad := 0
  orig := 2 * 1500000000
  relays := 8 * 1500000000
  refillTb := 0
  timeS := 0
  timeOrig := 0
  timeTb := 0
  claimTb := none
  timeDueTb := none

/-- Power and clocks after a power-on, before boot: VIN present, no anchor (R472, R477). -/
def Power.reset : Power where
  mode := .run
  inReset := true
  nrst := false
  nrstCounted := false
  last := 0
  coldAfter := none
  warm := 0
  failovers := 0
  cold := 0
  warmTbs := []
  pfw := false
  pfwCount := 0
  vin := true
  backupLost := true
  flashDead := false
  bootWait := none
  vbatLost := false
  pilotSupply := false
  pll := false
  xtal := false
  lprc := false
  lprcRan := false
  rtc := 0
  rtcTb := 0
  anchor := none
  spliceKind := 0
  spliceWide := false
  spliceUs := 0
  spliceDtb := 0
  pendingWake := false
  lastWake := 0
  retained := 0
  lost := 0
  sleepS := 0
  retain := 0
  strap := 0
  recovery := false
  level := 0
  idleTb := 0


/-- The state after a cold reset, before `COLD_BOOT` runs: a new part in FIELD, every register at the reset value of its
heading, and at the values that log entries name where the spec gives none. -/
def State.reset : State where
  regs := []
  use := []
  sticky := []
  hearth := { running := false, pairA := .primary, pairB := .off, failedA := false, failedB := false, checkpointTb := none, busyUntil := 0 }
  clock := { tb := 0, run := false, wall := none }
  life := { serial := Config.serial, state := .field, inTransit := none, transitions := 2, rootFused := 2, nonce := none }
  keys := KeyReg.reset
  host := HostState.reset
  jobs := Jobs.reset
  cnt := Counters.reset
  log := EventLog.reset
  grate := Grate.reset
  sens := Sensing.reset
  nrg := Energy.reset
  bil := Billing.reset
  mseal := Seal.reset
  fw := Update.reset
  guard := Guard.reset
  seqr := Seqr.reset
  veh := Veh.reset
  lsw := Lsw.reset
  rdr := Reader.reset
  tag := Tag.reset
  mesh := Mesh.reset
  pwr := Power.reset
  draws := 0
  pending := []

end Sys2Proof.Machine
end

