-- ==== Sys2Proof/Machine/Mods.lean ====
section
/-!
DEFINITION. One modifier for each part of the state. `s.onGrate f` is `s` with `f` applied to its Grate; the generated
`simps` lemmas say that every other part stays.
-/

namespace Sys2Proof.Machine

/-- `s` with `f` applied to `hearth`. -/
@[simps] def State.onHearth (s : State) (f : Hearth → Hearth) : State := { s with hearth := f s.hearth }

/-- `s` with `f` applied to `clock`. -/
@[simps] def State.onClock (s : State) (f : Clock → Clock) : State := { s with clock := f s.clock }

/-- `s` with `f` applied to `life`. -/
@[simps] def State.onLife (s : State) (f : LifeCycle → LifeCycle) : State := { s with life := f s.life }

/-- `s` with `f` applied to `keys`. -/
@[simps] def State.onKeys (s : State) (f : KeyReg → KeyReg) : State := { s with keys := f s.keys }

/-- `s` with `f` applied to `host`. -/
@[simps] def State.onHost (s : State) (f : HostState → HostState) : State := { s with host := f s.host }

/-- `s` with `f` applied to `jobs`. -/
@[simps] def State.onJobs (s : State) (f : Jobs → Jobs) : State := { s with jobs := f s.jobs }

/-- `s` with `f` applied to `cnt`. -/
@[simps] def State.onCnt (s : State) (f : Counters → Counters) : State := { s with cnt := f s.cnt }

/-- `s` with `f` applied to `log`. -/
@[simps] def State.onLog (s : State) (f : EventLog → EventLog) : State := { s with log := f s.log }

/-- `s` with `f` applied to `grate`. -/
@[simps] def State.onGrate (s : State) (f : Grate → Grate) : State := { s with grate := f s.grate }

/-- `s` with `f` applied to `sens`. -/
@[simps] def State.onSens (s : State) (f : Sensing → Sensing) : State := { s with sens := f s.sens }

/-- `s` with `f` applied to `nrg`. -/
@[simps] def State.onNrg (s : State) (f : Energy → Energy) : State := { s with nrg := f s.nrg }

/-- `s` with `f` applied to `bil`. -/
@[simps] def State.onBil (s : State) (f : Billing → Billing) : State := { s with bil := f s.bil }

/-- `s` with `f` applied to `mseal`. -/
@[simps] def State.onMseal (s : State) (f : Seal → Seal) : State := { s with mseal := f s.mseal }

/-- `s` with `f` applied to `fw`. -/
@[simps] def State.onFw (s : State) (f : Update → Update) : State := { s with fw := f s.fw }

/-- `s` with `f` applied to `guard`; the watch on STATE normal is kept. -/
@[simps] def State.onGuard (s : State) (f : Guard → Guard) : State := { s with guard := (f s.guard).watch s.clock.tb }

/-- `s` with `f` applied to `seqr`. -/
@[simps] def State.onSeqr (s : State) (f : Seqr → Seqr) : State := { s with seqr := f s.seqr }

/-- `s` with `f` applied to `veh`. -/
@[simps] def State.onVeh (s : State) (f : Veh → Veh) : State := { s with veh := f s.veh }

/-- `s` with `f` applied to `lsw`. -/
@[simps] def State.onLsw (s : State) (f : Lsw → Lsw) : State := { s with lsw := f s.lsw }

/-- `s` with `f` applied to `rdr`. -/
@[simps] def State.onRdr (s : State) (f : Reader → Reader) : State := { s with rdr := f s.rdr }

/-- `s` with `f` applied to `tag`. -/
@[simps] def State.onTag (s : State) (f : Tag → Tag) : State := { s with tag := f s.tag }

/-- `s` with `f` applied to `mesh`. -/
@[simps] def State.onMesh (s : State) (f : Mesh → Mesh) : State := { s with mesh := f s.mesh }

/-- `s` with `f` applied to `pwr`. -/
@[simps] def State.onPwr (s : State) (f : Power → Power) : State := { s with pwr := f s.pwr }

end Sys2Proof.Machine
end

