-- ==== Sys2Proof/Machine/Ops.lean ====
section
/-!
DEFINITION. The named operations that the families share: register contents and change classes, free values, time,
counters, the event log, the tamper ledger, job slots, the session table and the Key Register.
-/

namespace Sys2Proof.Machine

/-! ### Registers (R5 to R12) -/

/-- The contents of a writable register. -/
def State.reg (s : State) (r : RegSpec) (ix : List Nat) : Nat :=
  (getKey (r.addr ix) s.regs).getD (r.resetAt (r.addr ix))

/-- The contents of one field of a writable register. -/
def State.fld (s : State) (r : RegSpec) (f : Field) (ix : List Nat) : Nat := f.get (s.reg r ix)

/-- Store a register's contents. -/
def State.setReg (s : State) (r : RegSpec) (ix : List Nat) (v : Nat) : State :=
  { s with regs := putKey (r.addr ix) v s.regs }

/-- Store one field of a register. -/
def State.setFld (s : State) (r : RegSpec) (f : Field) (ix : List Nat) (x : Nat) : State :=
  s.setReg r ix (f.set (s.reg r ix) x)

/-- The stored value in use at an address. -/
def State.useAt (s : State) (r : RegSpec) (a : Nat) : Nat := (getKey a s.use).getD (r.resetAt a)

/-- `v` with the bits of `m` replaced by those of `u`. -/
def mergeMask (v u m : Nat) : Nat := v ^^^ ((v ^^^ u) &&& m)

/-- The word in use: F- and S-class fields as last taken up, the others as written (R9). -/
def State.inUse (s : State) (r : RegSpec) (ix : List Nat) : Nat :=
  mergeMask (s.reg r ix) (s.useAt r (r.addr ix)) (r.maskOf (fun f => f.cls == .f || f.cls == .s))

/-- One field of the word in use. -/
def State.useFld (s : State) (r : RegSpec) (f : Field) (ix : List Nat) : Nat := f.get (s.inUse r ix)

/-- The fields of class `c` of every register whose address satisfies `q` take the values written: a boundary for class F,
a start of the block for class S (R9, R10, R12). -/
def State.takeUp (s : State) (c : Cls) (q : Nat → Bool) : State :=
  s.regs.foldl (fun s e => match regAt e.1 with
    | some (r, _) =>
      if q e.1 then
        { s with use := putKey e.1 (mergeMask (s.useAt r e.1) e.2 (r.maskOf (fun f => f.cls == c))) s.use }
      else s
    | none => s) s

/-- One S-class field of a register takes the value written (R10). -/
def State.takeField (s : State) (r : RegSpec) (f : Field) (ix : List Nat) : State :=
  { s with use := putKey (r.addr ix) (f.set (s.useAt r (r.addr ix)) (s.fld r f ix)) s.use }

/-- R12: some S-class field of a register whose address satisfies `q` holds a value that is not in use. -/
def State.pendingS (s : State) (q : Nat → Bool) : Bool :=
  s.regs.any (fun e => q e.1 && match regAt e.1 with
    | some (r, _) => ((e.2 ^^^ s.useAt r e.1) &&& r.maskOf (fun f => f.cls == .s)) != 0
    | none => false)

/-- The address lies in block `b`. -/
def inBlock (b a : Nat) : Bool := a / 0x10000 == b

/-- An LH or LL condition of a field has come true: it is kept until the next read (R6). -/
def State.latch (s : State) (r : RegSpec) (ix : List Nat) (bits : Nat) : State :=
  { s with sticky := putKey (r.addr ix) ((getKey (r.addr ix) s.sticky).getD 0 ||| bits) s.sticky }

/-- The kept LH and LL conditions of a register. -/
def State.kept (s : State) (r : RegSpec) (ix : List Nat) : Nat := (getKey (r.addr ix) s.sticky).getD 0

/-- The mask of one field. -/
def Field.mask (f : Field) : Nat := (2 ^ f.width - 1) * 2 ^ f.lo

/-! ### Free values (log entry 2) -/

/-- Take one free value. -/
def State.draw (s : State) : Nat × State := (Config.free s.draws, { s with draws := s.draws + 1 })

/-- Take `n` free bytes. -/
def State.drawBytes (n : Nat) (s : State) : Bytes × State :=
  ((List.range n).map (fun i => BitVec.ofNat 8 (Config.free (s.draws + i))), { s with draws := s.draws + n })

/-! ### Time (R15, R16) -/

/-- TB ticks in one second. -/
def tbSecond : Nat := 25000000

/-- TB ticks in one billing tick of 10 ms. -/
def tbTick : Nat := 250000

/-- Wall time now, in ms, when known. -/
def State.wallNow (s : State) : Option Nat := s.clock.wall.map (fun p => p.1 + (s.clock.tb - p.2) / 25000)

/-- Wall time now, 0 when unknown. -/
def State.wall0 (s : State) : Nat := s.wallNow.getD 0

/-! ### Performance counters (R518 to R520) -/

/-- Counter `k` advances by `n`, modulo 2^48; a pass through zero sets the WRAP bit of every polder P1 to P5. -/
def State.bump (s : State) (k : Fin 24) (n : Nat) : State :=
  s.onCnt (fun c =>
    let x := c.count[k] + n
    { c with count := c.count.set k (x % 2 ^ 48),
             wrap := if 2 ^ 48 ≤ x then c.wrap.set k 0x3E else c.wrap })

/-! ### The event log (R525 to R530) -/

/-- Staged entries reach the ring in flash; the oldest entries beyond 16,384 are overwritten (R528, R530). -/
def EventLog.flush (l : EventLog) : EventLog :=
  if l.flashOk then
    let all := l.ring ++ l.staged
    { l with ring := all.drop (all.length - 16384), staged := [], wrapped := l.wrapped || 16384 < all.length }
  else l

/-- Stage one entry at the next index, moving the reserved boundary first when it would be reached (R528). -/
def EventLog.stage (l : EventLog) (e : LogEntry) : EventLog :=
  let drop := if 256 ≤ l.staged.length then 1 else 0
  let l1 := { l with staged := l.staged.drop drop ++ [{ e with index := l.next }],
                     stageLost := satAdd 16 l.stageLost drop,
                     next := l.next + 1,
                     boundary := if l.boundary ≤ l.next + 1 then l.boundary + 256 else l.boundary }
  if 64 ≤ l1.staged.length then l1.flush else l1

/-- Write an entry now, whatever R529 counts. -/
def State.logRaw (s : State) (ev : Ev) (inst polder origin a0 a1 : Nat) : State :=
  (s.onLog (fun l => l.stage { tb := s.clock.tb, wall := s.wall0, ev, inst, polder, origin, arg0 := a0, arg1 := a1, index := 0 })).bump 22 1

/-- Count one more event of this code and source in the running second; the flag says that it is written (R529). -/
def foldStep (ev : Ev) (inst polder origin : Nat) : List FoldCount → Bool × List FoldCount
  | [] => (true, [{ ev, inst, polder, origin, written := 1, folded := 0 }])
  | f :: fs =>
    if f.ev = ev ∧ f.inst = inst ∧ f.polder = polder ∧ f.origin = origin then
      if f.written < 16 then (true, { f with written := f.written + 1 } :: fs)
      else (false, { f with folded := f.folded + 1 } :: fs)
    else let r := foldStep ev inst polder origin fs
      (r.1, f :: r.2)

/-- R525 to R529: an event is written, or folded after 16 entries of its code and source in one TB second. -/
def State.logEv (s : State) (ev : Ev) (inst polder origin a0 a1 : Nat) : State :=
  let r := foldStep ev inst polder origin s.log.folds
  let s1 := s.onLog (fun l => { l with folds := r.2, folded := if r.1 then l.folded else satAdd 16 l.folded 1 })
  if r.1 then s1.logRaw ev inst polder origin a0 a1 else s1

/-! ### The RTC (R267, R475, R476) -/

/-- TB ticks as RTC ticks, rounded down. -/
def rtcTicks (tb : Nat) : Nat := tb * 512 / 390625

/-- RTC ticks as TB ticks (R476). -/
def rtcToTb (d : Nat) : Nat := d * 390625 / 512

/-- The RTC count now: 48 bits; while TB stands still, the count at which it stopped. -/
def State.rtcNow (s : State) : Nat :=
  (s.pwr.rtc + (if s.clock.run then rtcTicks (s.clock.tb - s.pwr.rtcTb) else 0)) % 2 ^ 48

/-- Wall time as the RTC tells it, in ms (R267); 0 when unknown. -/
def State.rtcWall (s : State) : Nat :=
  if s.clock.run then s.wall0
  else match s.pwr.anchor with
    | some a => match a.wall with
      | some w => w + rtcToTb ((s.rtcNow + 2 ^ 48 - a.rtc) % 2 ^ 48) / 25000
      | none => 0
    | none => 0

/-! ### The tamper ledger (R264 to R267) -/

/-- Ledger codes. -/
def T_MAG : Fin 11 := 0
def T_COVER : Fin 11 := 1
def T_SEAL : Fin 11 := 2
def T_SENSOR : Fin 11 := 3
def T_TIME : Fin 11 := 4
def T_SUPPLY : Fin 11 := 5
def T_CONFIG : Fin 11 := 6
def T_FW : Fin 11 := 7
def T_PHASESEQ : Fin 11 := 8
def T_NEUTRAL : Fin 11 := 9
def T_NRST : Fin 11 := 10

/-- One occurrence added to the backup-domain delta (R265, R266); `digital` occurrences keep their TB in SRAM (R267). -/
def LedgerEntry.occur (e : LedgerEntry) (tb wall arg : Nat) (digital : Bool) : LedgerEntry :=
  { e with dCount := satAdd 32 e.dCount 1,
           dFirstWall := if e.dCount = 0 then wall else e.dFirstWall,
           dLastWall := wall, dLastArg := arg,
           sramTb := if digital then some ((e.sramTb.map (·.1)).getD tb, tb) else none }

/-- Merge the delta of one code into the flash copy, then clear it (R266, R267). -/
def LedgerEntry.merge (e : LedgerEntry) (tb : Nat) : LedgerEntry :=
  if e.dCount = 0 then e
  else
    let tbs := e.sramTb.getD (tb, tb)
    let first := e.count == 0
    { e with count := satAdd 32 e.count e.dCount,
             firstTb := if first then tbs.1 else e.firstTb,
             firstWall := if first then e.dFirstWall else e.firstWall,
             firstMerged := if first then e.sramTb.isNone else e.firstMerged,
             lastTb := tbs.2, lastWall := e.dLastWall, lastArg := e.dLastArg, lastMerged := e.sramTb.isNone,
             dCount := 0, dFirstWall := 0, dLastWall := 0, dLastArg := 0, sramTb := none }

/-- Span bits of R272 are noted for the tick in progress on the outputs of a bit map, and on SITE. -/
def State.span (s : State) (outs bit : Nat) : State :=
  s.onMseal (fun m => { m with tickSpan := updAll m.tickSpan (fun i v => if i.1 = 6 ∨ bitOf outs i.1 then v ||| 2 ^ bit else v) })

/-- Wall time of an occurrence: the device's; for one that the backup domain raises by itself, the RTC's (R267). While TB stands
still the model does not follow the RTC, and the time since TB stopped is a free value. -/
def State.tamperWall (s : State) (digital : Bool) : Nat × State :=
  if digital then (s.wall0, s)
  else if s.clock.run ∨ s.rtcWall = 0 then (s.rtcWall, s)
  else (s.rtcWall + s.draw.1, s.draw.2)

/-- A tamper occurrence counts in the ledger, is logged (class 2) and marks every output's records (R264, R266, R272). One that the
digital die does not raise comes from the backup domain. -/
def State.tamper (s : State) (k : Fin 11) (arg : Nat) (digital : Bool) : State :=
  let w := s.tamperWall digital
  let s1 := w.2.onMseal (fun m =>
    { m with ledger := upd m.ledger k (fun e => e.occur s.clock.tb w.1 arg digital),
             changed := m.changed || k == T_CONFIG })
  (s1.span 0x3F 13).logEv .tamper k.1 7 (if digital then 0 else 3) arg 0

/-! ### Job slots (R116 to R124) -/

/-- A record's length in the result window, with its header word. -/
def JobRecord.size (r : JobRecord) : Nat := r.words.length + 1

/-- Words written to a slot's result window (R119). -/
def Job.resultWords (j : Job) : Nat := (j.records.map JobRecord.size).sum

/-- The result window as words: each record behind its header (R119). -/
def recordWords : Nat → List JobRecord → List W64
  | _, [] => []
  | i, r :: rs => w64 (r.words.length + i * 2 ^ 32 + r.type * 2 ^ 48) :: r.words ++ recordWords (i + 1) rs

/-- The job in slot `j`. -/
def State.job (s : State) (j : Fin 16) : Job := s.jobs.slots[j]

/-- Change one job slot. -/
def State.onJob (s : State) (j : Fin 16) (f : Job → Job) : State :=
  s.onJobs (fun js => { js with slots := upd js.slots j f })

/-- Word `i` of a job's parameters, word 1 first. -/
def Job.param (j : Job) (i : Nat) : Nat := ((j.params.getD (i - 1) 0).toNat)

/-- A job that waits or runs ends in done (error 0) or failed, and ATTN is due until its status word is read (R118, R121,
R124). -/
def State.finishJob (s : State) (j : Fin 16) (err : Nat) : State :=
  if (s.job j).state ≠ .queued ∧ (s.job j).state ≠ .running then s
  else
    s.onJob j (fun b => { b with state := if err = 0 then .done else .failed, error := err,
                                  progress := if err = 0 then 1000 else b.progress,
                                  cancellable := false, finishTb := s.clock.tb, seen := false, input := [] })

/-- A job ends cancelled (R122). -/
def State.cancelJob (s : State) (j : Fin 16) : State :=
  s.onJob j (fun b => { b with state := .cancelled, cancellable := false, finishTb := s.clock.tb, seen := false, input := [] })

/-- One more result record would still fit (R119). -/
def Job.fits (b : Job) (r : JobRecord) : Bool :=
  8 * (b.resultWords + r.size) ≤ 2 ^ 20 && b.records.length < 65535

/-- Write a result record, or fail the job with FULL where it does not fit (R119). -/
def State.addRecord (s : State) (j : Fin 16) (type : Nat) (words : List W64) : State :=
  let r : JobRecord := { type, words }
  if (s.job j).state ≠ .queued ∧ (s.job j).state ≠ .running then s
  else if (s.job j).fits r then s.onJob j (fun b => { b with records := b.records ++ [r] }) else s.finishJob j 0x08

/-- The job in slot `j` waits and has this code. -/
def State.queuedJob (s : State) (j : Fin 16) (code : Nat) : Bool :=
  (s.job j).state == .queued && (s.job j).code == code

/-- The engine, by its number in R62, for which a job of a code waits in submission order (R117; log entry 103): KDF for KEY_DERIVE, ECDH
for KEY_IMPORT, ECDSA for ATTEST, SEAL_CLOSE and a signed LOG_EXPORT, FLUE for the three Flue jobs. Every other code has an engine of
its own, numbered from 16. -/
def Job.engine (b : Job) : Nat :=
  match b.code with
  | 0x20 => 9
  | 0x21 => 3
  | 0x23 | 0x41 => 2
  | 0x42 | 0x43 | 0x44 => 6
  | 0x50 => if bitOf (b.param 2) 24 then 2 else 16 + 0x50
  | c => 16 + c

/-- The job in slot `j` waits, has this code, and no job for the same engine submitted before it still waits or runs (R117). -/
def State.jobTurn (s : State) (j : Fin 16) (code : Nat) : Bool :=
  s.queuedJob j code && (s.jobs.order.takeWhile (· != j)).all (fun i =>
    !((s.job i).engine == (s.job j).engine && ((s.job i).state == .queued || (s.job i).state == .running)))

/-- A job that waits or runs reserves key slot `n`: the polder that holds it (R70). -/
def State.reservedBy (s : State) (n : Nat) : Option Nat :=
  ((idx 16).find? (fun j => (s.job j).target == some n && ((s.job j).state == .queued || (s.job j).state == .running))).map (fun j => (s.job j).polder)

/-- The job starts running (R117). -/
def State.startJob (s : State) (j : Fin 16) (cancellable : Bool) : State :=
  s.onJob j (fun b => { b with state := .running, cancellable })

/-- R55, R496: some update exists. -/
def State.updateExists (s : State) : Bool := s.fw.job.isSome || s.fw.onTrial.isSome

/-! ### The Key Register (R59 to R76) -/

/-- Engine bit numbers (R62). -/
def engAESX : Nat := 0
def engHMAC : Nat := 1
def engECDSA : Nat := 2
def engECDH : Nat := 3
def engLMS : Nat := 4
def engTLSR : Nat := 5
def engFLUE : Nat := 6
def engTAG : Nat := 7
def engFLASHX : Nat := 8
def engKDF : Nat := 9

/-- A key slot. -/
def State.slot (s : State) (n : Fin 256) : KeySlot := s.keys.slots[n]

/-- The grant that R59 gives a slot by its number, EMPTY or not: slot 3 P1, slot 5 P4, slots 8 to 12 P1 to P5, the others P0. -/
def tableGrant (n : Fin 256) : Nat :=
  if n.1 = 3 then 1 else if n.1 = 5 then 4 else if 8 ≤ n.1 ∧ n.1 ≤ 12 then n.1 - 7 else 0

/-- The polder that holds the grant of a slot; an EMPTY slot has the grant of its number (R59, R77). -/
def State.grantOf (s : State) (n : Fin 256) : Nat := if (s.slot n).state = .empty then tableGrant n else (s.slot n).grant

/-- Change one key slot. -/
def State.onSlot (s : State) (n : Fin 256) (f : KeySlot → KeySlot) : State :=
  s.onKeys (fun k => { k with slots := upd k.slots n f })

/-- A refusal is counted in `KEY_REFUSAL` and in KEY_REFUSALS (R39, R75). -/
def State.refuse (s : State) (status slot engine polder : Nat) (keyReg : Bool) : State :=
  (s.onKeys (fun k => { k with refusals := satAdd 32 k.refusals 1, lastStatus := status,
                               lastSlot := if keyReg then slot else k.lastSlot,
                               lastEngine := engine, lastPolder := polder })).bump 11 1

/-- R65: whether a use of a slot by an engine is refused, with the status: none when the use may start. -/
def KeySlot.refusal (k : KeySlot) (engine tb : Nat) : Option Nat :=
  if bitOf k.engines engine = false then some 0x02
  else if k.state = .orphan then some 0x09
  else if k.state ≠ .valid then some 0x02
  else if k.expiry ≠ 0 ∧ k.expiry ≤ tb then some 0x02
  else if k.limit ≠ 0 ∧ k.limit ≤ k.count then some 0x02
  else none

/-- A use counts; a slot whose count reaches its limit enters SPENT after it (R65, R66). For a kept slot, the boundary B in
flash moves by 64 before the count would reach it (R61). -/
def KeySlot.used (k : KeySlot) : KeySlot :=
  let c := satAdd 32 k.count 1
  { k with count := c, state := if k.limit ≠ 0 ∧ k.limit ≤ c then .spent else k.state,
           useBoundary := if k.useBoundary ≤ c then k.useBoundary + 64 else k.useBoundary }

/-- Start one use of slot `n` by an engine for a polder: the refusal status, or none (R62, R65, R66, R75). -/
def State.keyUse (s : State) (n : Fin 256) (engine polder : Nat) : Option Nat × State :=
  match (s.slot n).refusal engine s.clock.tb with
  | some st => (some st, ((s.refuse st n.1 engine polder true).logEv .keyRefusal n.1 polder 0 engine st))
  | none => (none, (s.onSlot n KeySlot.used).bump 10 1)

/-- The chain of parents of slot `c`, each with the generation recorded, reaches slot `n` within `fuel` links (R73). -/
def reaches (slots : Vector KeySlot 256) (n : Fin 256) : Nat → Fin 256 → Bool
  | 0, _ => false
  | fuel + 1, c =>
    let k := slots[c]
    if k.hasParent then
      let p : Fin 256 := Fin.ofNat 256 k.parent
      slots[p].gen == k.parentGen && (p == n || reaches slots n fuel p)
    else false

/-- The slots that descend from `n` at any depth (R73). -/
def descendants (slots : Vector KeySlot 256) (n : Fin 256) : List (Fin 256) :=
  (idx 256).filter (fun c => slots[c].state != .empty && c != n && reaches slots n 256 c)

/-- Every descendant of slot `n` becomes ORPHAN in the same cycle; also says how many (R73). -/
def State.orphanFrom (s : State) (n : Fin 256) : Nat × State :=
  let d := descendants s.keys.slots n
  (d.length, s.onKeys (fun k => { k with slots := d.foldl (fun v c => upd v c (fun x => { x with state := .orphan })) k.slots }))

/-- Empty a slot after orphaning its descendants; it keeps its generation (R64, R114). -/
def State.emptySlot (s : State) (n : Fin 256) : Nat × State :=
  let r := s.orphanFrom n
  (r.1, r.2.onSlot n (fun k => { KeySlot.reset with gen := k.gen }))

/-- Fill a slot with a new key, one generation on; descendants of the key it replaces become ORPHAN (R64, R73). -/
def State.fillSlot (s : State) (n : Fin 256) (k : KeySlot) : Nat × State :=
  let r := s.orphanFrom n
  let g := (s.slot n).gen + 1
  let d := r.2.drawBytes k.key.length
  (r.1, d.2.onSlot n (fun _ => { k with gen := g, state := .valid, count := 0, share := d.1, useBoundary := 64 }))

/-! ### The session table (R103, R114) -/

/-- The session table's entry for an ID. -/
def State.sidUse (s : State) (i : Fin 64) : SidUse := s.host.table[i]

/-- The open host session of an ID, opening ones left out. -/
def State.session (s : State) (i : Fin 64) : Option Session :=
  match s.sidUse i with
  | .host h => if h.opening then none else some h
  | _ => none

/-- The host session of an ID, opening or open. -/
def State.anySession (s : State) (i : Fin 64) : Option Session :=
  match s.sidUse i with
  | .host h => some h
  | _ => none

/-- Change a host session. -/
def State.onSession (s : State) (i : Fin 64) (f : Session → Session) : State :=
  s.onHost (fun h => { h with table := upd h.table i (fun u => match u with | .host x => .host (f x) | u => u) })

/-- How many entries of a kind the table holds. -/
def State.sidCount (s : State) (q : SidUse → Bool) : Nat := (s.host.table.toList.filter q).length

def SidUse.isHost : SidUse → Bool | .host _ => true | _ => false
def SidUse.isVehicle : SidUse → Bool | .vehicle _ => true | _ => false
def SidUse.isCard : SidUse → Bool | .card _ => true | _ => false
def SidUse.isMesh : SidUse → Bool | .mesh _ => true | _ => false

/-- The quota of a kind of entry (R103). -/
def SidUse.quota : SidUse → Nat
  | .free => 0 | .host _ => 32 | .vehicle _ => 6 | .card _ => 4 | .mesh _ => 21

/-- The entries of the kind of `u` now in use. -/
def State.sameKind (s : State) (u : SidUse) : Nat :=
  s.sidCount (match u with
    | .free => fun _ => false | .host _ => SidUse.isHost | .vehicle _ => SidUse.isVehicle
    | .card _ => SidUse.isCard | .mesh _ => SidUse.isMesh)

/-- Take the least recently freed ID for an entry, when its kind has quota left (R103). -/
def State.allocSid (s : State) (u : SidUse) : Option (Fin 64 × State) :=
  if s.sameKind u < u.quota then
    match s.host.freeSids with
    | [] => none
    | i :: rest => some (i, s.onHost (fun h => { h with freeSids := rest, table := h.table.set i u }))
  else none

/-- An ID goes to the back of the free list (R103). -/
def State.freeSid (s : State) (i : Fin 64) : State :=
  match s.sidUse i with
  | .free => s
  | _ => s.onHost (fun h => { h with freeSids := h.freeSids ++ [i], table := h.table.set i .free })

/-- A port has an open or opening session. -/
def State.portBusy (s : State) (p : Fin 4) : Bool :=
  s.host.table.toList.any (fun u => match u with | .host h => h.port == p | _ => false)

/-- A host session closes: its key slot is invalidated, its ID freed; jobs and sluice messages stay (R114);
an update that it held waits for another session (R498). -/
def State.closeSession (s : State) (i : Fin 64) : State :=
  match s.anySession i with
  | none => s
  | some h =>
    let s1 := match h.keySlot with | some n => (s.emptySlot n).2 | none => s
    let s2 := (s1.freeSid i).onFw (fun u => { u with job := u.job.map (fun j => if j.holder = some i.1 then { j with holder := none } else j) })
    if s2.portBusy h.port then s2
    else s2.onHost (fun x => { x with ports := upd x.ports h.port (fun p => { p with idleSince := s.clock.tb }) })

/-- Every host session that satisfies `q` closes. -/
def State.closeWhere (s : State) (q : Session → Bool) : State :=
  (idx 64).foldl (fun s i => match s.anySession i with | some h => if q h then s.closeSession i else s | none => s) s

/-- Post a device notice on a sluice of P0: S6 to P3, S7 to P2 (R48, R49). -/
def State.post (s : State) (n : Fin 8) (msg : List W64) : State :=
  s.onHost (fun h => { h with sluices := upd h.sluices n (fun q =>
    if q.msgs.length < 8 then { q with msgs := q.msgs ++ [msg.take 32] } else { q with overflows := satAdd 16 q.overflows 1 }) })

/-- R44: the 64-bit pseudonym of an identity under a masking key: the first 8 bytes of HMAC-SHA-384. -/
def pseudonym (key ident : Bytes) : W64 := w64 (ofLE ((hmac384 key ident).take 8))

end Sys2Proof.Machine
end

