-- ==== Sys2Proof/Machine/Dike.lean ====
section
/-!
DEFINITION. The dike (R36 to R42) as the register-write commands meet it, the response that a host command leaves, the
plan's STRUCTURE record as the state shows it, and the notices that the device posts on S6 and S7 (R48, R305).
-/

namespace Sys2Proof.Machine

/-! ### Status codes (R98) -/

def OK : Nat := 0x00
def BUSY : Nat := 0x01
def DENIED : Nat := 0x02
def DARK : Nat := 0x03
def NOADDR : Nat := 0x04
def LOCKED : Nat := 0x05
def AUTHFAIL : Nat := 0x06
def NOSESSION : Nat := 0x07
def FULL : Nat := 0x08
def ORPHAN : Nat := 0x09
def BADFRAME : Nat := 0x0A
def SEQERR : Nat := 0x0B
def PARTIAL : Nat := 0x0C
def NOTIME : Nat := 0x0D

/-- R374: the guard input reads the door open: GUARD_A low and GUARD_B high. -/
def State.doorOpen (s : State) : Bool := !s.guard.levelA && s.guard.levelB

/-- R374: the guard reads closed. -/
def State.doorClosed (s : State) : Bool := s.guard.levelA && !s.guard.levelB

/-- A heading's grant holds now (R42). -/
def State.grantOk (s : State) : Grant → Bool
  | .never => false
  | .always => true
  | .seal => s.mseal.record.open_
  | .door => s.doorOpen

/-- A polder may write a plain register now. -/
def State.mayWrite (s : State) (polder : Nat) (r : RegSpec) : Bool := s.grantOk (r.wr.of polder)

/-- A dike refusal is counted and logged (R39). -/
def State.dikeRefuse (s : State) (polder port addr : Nat) : State :=
  (s.refuse DENIED 0 15 polder false).logEv .dikeRefusal 0 polder port addr 0

/-- A response on a session's port, without sealing (R95); retry-after words come as payload. -/
def State.replyTo (s : State) (port : Fin 4) (src : Nat) (sid : Fin 64) (status : Nat) (payload : List W64) : State :=
  s.onHost (fun h => { h with resp := some { port, dst := src, status, sid := sid.1, attn := false, sealed := false, seq := 0,
                                             count := b2n (status == OK), addr := 0, payload, tag := [] } })

/-- The response that a host command leaves: on port 0 where the ID names no host session. -/
def State.reply (s : State) (sid : Fin 64) (status : Nat) (payload : List W64) : State :=
  match s.anySession sid with
  | none => s.replyTo 0 0 sid status payload
  | some x => s.replyTo x.port x.src sid status payload

/-- The BUSY payload word (R99): retry-after in µs, and the polder that holds the resource. -/
def busyWord (us polder : Nat) : W64 := w64 (us % 2 ^ 32 + polder % 8 * 2 ^ 32)

/-- The RW fields of a register. -/
def RegSpec.rwMask (r : RegSpec) : Nat := r.maskOf (fun f => f.acc == .rw)

/-- The X-class fields of a register. -/
def RegSpec.xMask (r : RegSpec) : Nat := r.maskOf (fun f => f.cls == .x)

/-- A write of the RW fields of a register (R6): values are limited by `clamp`; a write that would change an X-class field
while its block runs is refused with LOCKED (R11). -/
def State.putFields (s : State) (r : RegSpec) (ix : List Nat) (v : Nat) (clamp : Nat → Nat) (running : Bool) : Nat × State :=
  let old := s.reg r ix
  let new := clamp (mergeMask old v r.rwMask)
  if running ∧ (old ^^^ new) &&& r.xMask ≠ 0 then (LOCKED, s) else (OK, s.setReg r ix new)

/-- One field limited to a range. -/
def Field.limit (f : Field) (lo hi v : Nat) : Nat := f.set v (clampNat lo hi (f.get v))

/-! ### The plan's STRUCTURE record -/

/-- The STRUCTURE record of an output of the running plan; zeros while no plan runs. -/
def State.outRec (s : State) (o : Fin 6) : OutRec :=
  match s.grate.plan with
  | some p => (p.sections.findSome? (fun x => match x.body with | .struct _ _ l => l[o.1]? | _ => none)).getD
      { volt := 0, amp := 0, kind := 0, cabinet := 0, ownOc := false }
  | none => { volt := 0, amp := 0, kind := 0, cabinet := 0, ownOc := false }

/-- Outputs that STRUCTURE declares present. -/
def State.present (s : State) : Nat :=
  match s.grate.plan with
  | some p => (p.sections.findSome? (fun x => match x.body with | .struct b _ _ => some b | _ => none)).getD 0
  | none => 0

/-- The output is declared. -/
def State.has (s : State) (o : Fin 6) : Bool := bitOf s.present o.1

/-- D0 to D3 are DC outputs, A0 and A1 AC outlets (R346). -/
def isDc (o : Fin 6) : Bool := o.1 < 4

/-- The cabinet of a DC output. -/
def State.cabOf (s : State) (o : Fin 6) : Fin 8 := Fin.ofNat 8 (s.outRec o).cabinet

/-- Outputs D0 to D3 that the plan declares and that a cabinet serves. -/
def State.servedBy (s : State) (k : Fin 8) : List (Fin 6) := (idx 6).filter (fun o => isDc o && s.has o && s.cabOf o == k)

/-- Cabinets that a DC output names (R368). -/
def State.namedCabs (s : State) : List (Fin 8) := (idx 8).filter (fun k => s.servedBy k != [])

/-! ### Notices on S6 and S7 (R305) -/

/-- Word 0 of a notice. -/
def noticeWord (kind sid pilot cause seq : Nat) : W64 :=
  w64 (kind + sid * 2 ^ 8 + pilot * 2 ^ 16 + cause * 2 ^ 24 + seq % 65536 * 2 ^ 32)

/-- Post a notice to S7 with the identity in clear and, but for kind 5, to S6 with the pseudonym `p`. -/
def State.notice (s : State) (kind sid pilot cause seq idType : Nat) (ident : Bytes) (p : W64) : State :=
  let w0 := noticeWord kind sid pilot cause seq
  let s1 := s.post 7 ([w0, w64 (idType + ident.length * 2 ^ 8)] ++
    (List.range 8).map (fun i => w64 (ofLE ((ident.drop (8 * i)).take 8))))
  if kind = 5 then s1 else s1.post 6 [w0, w64 idType, p]

end Sys2Proof.Machine
end

