-- ==== Sys2Proof/Machine/BillOps.lean ====
section
/-!
DEFINITION. What the sequencer reports to billing (R225, R226, R228, R313): session start, authorisation outcome and
session end, each re-booking uncommitted ticks.
-/

namespace Sys2Proof.Machine

/-- Wall time at a TB value, in 1/1,000 ms; none while unknown. -/
def State.wallMicro (s : State) (tb : Nat) : Option Nat := s.clock.wall.map (fun p => 1000 * p.1 + (tb - p.2) / 25)

/-- Bill time in 1/1,000 ms at a TB value since the latest step, slew or hold began, when known: wall time, a slew at 9.990 ms
per 10 ms until it meets wall time, or a hold until wall time reaches it (R245, R246). -/
def State.billMicro (s : State) (tb : Nat) : Option Nat :=
  match s.bil.mode with
  | .unknown => none
  | .normal => s.wallMicro tb
  | .slew => (s.wallMicro tb).map (max (s.bil.timeAt + (tb - s.bil.timeTb) * 999 / 25000))
  | .hold => (s.wallMicro tb).map (max s.bil.timeAt)

/-- Bill time now in ms, when known. -/
def State.billNow (s : State) : Option Nat := (s.billMicro s.clock.tb).map (· / 1000)

/-! ### The journal (R254, R255) -/

/-- One message of the storage key in slot 4 (R65): a record of the journal or of the Flue store. The slot is VALID at every boot (R60). -/
def State.storeUse (s : State) : State := if ((s.slot 4).refusal engAESX s.clock.tb).isNone then (s.keyUse 4 engAESX 0).2 else s

/-- A change of the sealed record is written as a new copy over the older one, encrypted under slot 4 (R256). -/
def State.sealWrite (s : State) (f : SealedRecord → SealedRecord) : State :=
  s.storeUse.onMseal (fun m => { m with older := some m.record, record := { f m.record with seq := m.record.seq + 1, root := s.life.rootFused } })

/-- Billing changes; every entry write and rewrite that takes a JSEQ is one message under slot 4. -/
def State.onJournal (s : State) (f : Billing → Billing) : State :=
  let s1 := s.onBil f
  (List.range (s1.bil.jseq - s.bil.jseq)).foldl (fun (s : State) _ => s.storeUse) s1

/-- Rewrite the uncommitted ticks that satisfy `q`; every rewrite takes the next JSEQ (R254). -/
def Billing.rewriteWhere (b : Billing) (q : Tick → Bool) (f : Tick → Tick) : Billing :=
  let one := fun (b : Billing) (t : Tick) =>
    if !t.committed && q t then
      let t1 : Tick := f t
      { b with ticks := b.ticks ++ [{ t1 with jseq := b.jseq }], jseq := b.jseq + 1 }
    else { b with ticks := b.ticks ++ [t] }
  b.ticks.foldl one { b with ticks := [] }

/-- The event record of a re-booking, written before it and finished with it (R255): kind (0 TCMD, 1 TIMESET, 2 DSYNC, 3 start, 4 accepted,
5 denied or withdrawn, 6 end), effective point, parameters, and the uncommitted ticks that it covers. The area holds 32. -/
def Billing.note (b : Billing) (kind point : Nat) (params : List Nat) (q : Tick → Bool) : Billing :=
  let l := b.ticks.filter (fun t => !t.committed && q t)
  let e : BillEvent := { kind, point, params, fromTb := (l.head?.map (·.startTb)).getD 0, toTb := (l.getLast?.map (·.endTb)).getD 0, done := true }
  { b with events := (b.events ++ [e]).drop (b.events.length - 31) }

/-- The ticks of an output that `rebook` covers. -/
def bookable (o : Fin 6) (q : Tick → TickOut → Bool) (t : Tick) : Bool := (t.outs[o]).attr != .noTime && q t t.outs[o]

/-- Re-book one output's part of the uncommitted ticks that satisfy `q`, with the event record of that. -/
def Billing.rebook (b : Billing) (o : Fin 6) (kind point : Nat) (q : Tick → TickOut → Bool) (a : Attr) (sid : Option Nat) : Billing :=
  (b.note kind point [o.1, sid.getD 0] (bookable o q)).rewriteWhere (bookable o q) (fun t =>
    { t with outs := upd t.outs o (fun x => { x with attr := a, sid := sid.getD x.sid }) })

/-- TB of the boundary up to which billing has booked: the start of the first tick that waits, else of the tick in progress (R23). -/
def State.boundTb (s : State) : Nat := (s.nrg.waiting.head?.map (·.startTb)).getD s.nrg.tickTb

/-- Session start on an output (R225): its uncommitted ticks from that TB become PENDING. -/
def State.billStart (s : State) (o : Fin 6) (sid tb : Nat) : State :=
  s.onJournal (fun b =>
    { b.rebook o 3 tb (fun t _ => tb ≤ t.startTb) .pending (some sid) with
             attr := upd b.attr o (fun a =>
               let a1 := { a with attr := .pending, sid, sinceTb := tb, startTb := tb, sessImp := 0, sessExp := 0, void := false, starts := a.starts ++ [(sid, tb)] }
               if tb ≤ s.boundTb then { a1 with cur := .pending, curSid := sid } else a1) })

/-- The outcome of one session in the ticks, the holds and the attribution of an output: SESSION, or SERVICE. -/
def Billing.outcome (b : Billing) (o : Fin 6) (sid tb : Nat) (accepted : Bool) : Billing :=
  let a : Attr := if accepted then .session else .service
  let q := fun (t : Tick) (x : TickOut) => x.sid == sid && (x.attr == .pending || (x.attr == .session && decide (tb ≤ t.startTb)))
  { b.rebook o (if accepted then 4 else 5) tb q a none with
           holds := upd b.holds o (fun l => l.map (fun h => if h.sid = sid ∧ h.outcome = none then { h with outcome := some accepted } else h)),
           attr := upd b.attr o (fun x =>
             { x with attr := if x.sid = sid ∧ (x.attr = .pending ∨ x.attr = .session) then a else x.attr,
                      sinceTb := if x.sid = sid ∧ x.attr = .session ∧ accepted = false then tb else x.sinceTb,
                      void := x.void || (x.sid == sid && !accepted),
                      cur := if x.curSid = sid ∧ x.cur = .pending then a else x.cur,
                      ends := x.ends.map (fun e => if e.sid = sid then { e with void := e.void || !accepted } else e) }) }

/-- An authorisation outcome (R225, R228): the session's PENDING ticks, held or not, and its later ticks move. -/
def State.billOutcome (s : State) (o : Fin 6) (sid tb : Nat) (accepted : Bool) : State :=
  s.onJournal (fun b => b.outcome o sid tb accepted)

/-- Session end on an output (R225): its uncommitted ticks from that TB are SERVICE until the next start. -/
def State.billEnd (s : State) (o : Fin 6) (tb : Nat) : State :=
  s.onJournal (fun b =>
    { b.rebook o 6 tb (fun t _ => tb ≤ t.startTb) .service (some 0) with
             attr := upd b.attr o (fun a =>
               let a1 := { a with attr := .service, sid := 0, sinceTb := tb, sessImp := 0, sessExp := 0,
                                  void := false, ends := a.ends ++ [{ sid := a.sid, tb, imp := a.sessImp, exp := a.sessExp, void := a.void }] }
               if tb ≤ s.boundTb then { a1 with cur := .service, curSid := 0 } else a1) })

end Sys2Proof.Machine
end

