-- ==== Sys2Proof/Machine/Demand.lean ====
section
/-!
DEFINITION. The billing calendar and the demand grid (R232, R233, R236 to R241, R244): the tariff in force at a bill time,
grid points and cuts, and the provisional running interval.
-/

namespace Sys2Proof.Machine

/-! ### Calendar time (R232, R233) -/

/-- Milliseconds in one calendar day. -/
def dayMs : Nat := 86400000

/-- OFFSET in force at a bill time, in minutes: NEXT_OFFSET from NEXT_AT on (R233). -/
def offsetAt (calcfg t : Nat) : Int :=
  let next := F.BIL_CALCFG_NEXT_AT.get calcfg
  if next ≠ 0 ∧ next * 60000 ≤ t then signed 16 (F.BIL_CALCFG_NEXT_OFFSET.get calcfg)
  else signed 16 (F.BIL_CALCFG_OFFSET.get calcfg)

/-- Calendar time at a bill time, in ms (R232). -/
def calTime (calcfg t : Nat) : Int := t + 60000 * offsetAt calcfg t

/-- The day of the week of a date, 0 Monday; 1970-01-01 was a Thursday. -/
def weekday (date : Int) : Nat := ((date + 3) % 7).toNat

/-- The day of the month of a date in days since 1970-01-01, proleptic Gregorian. -/
def dayOfMonth (date : Int) : Nat :=
  let z := date + 719468
  let doe := (z % 146097).toNat
  let yoe := (doe - doe / 1460 + doe / 36524 - doe / 146096) / 365
  let doy := doe - (365 * yoe + yoe / 4 - yoe / 100)
  let mp := (5 * doy + 2) / 153
  doy - (153 * mp + 2) / 5 + 1

/-- A calendar entry names output `n`, 6 for SITE. -/
def calNames (e n : Nat) : Bool := if n = 6 then F.BIL_CALk_SITE.get e == 1 else bitOf (F.BIL_CALk_OUTPUTS.get e) n

/-- The entries of kind WEEKLY or DATED in the calendar that apply to output `n` on a date (R232 step 1). -/
def calOn (cal : List Nat) (n : Nat) (date : Int) : List Nat :=
  let ok := cal.filter (fun e => calNames e n && decide (F.BIL_CALk_START.get e < 1440))
  let dated := ok.filter (fun e => F.BIL_CALk_KIND.get e == 2 && decide ((F.BIL_CALk_DATE.get e : Int) = date))
  if dated ≠ [] then dated
  else ok.filter (fun e => F.BIL_CALk_KIND.get e == 1 && bitOf (F.BIL_CALk_DAYS.get e) (weekday date))

/-- Step 2: the latest START not above a minute; of equal ones the first. -/
def lastStart (l : List Nat) (minute : Nat) : Option Nat :=
  (l.filter (fun e => decide (F.BIL_CALk_START.get e ≤ minute))).foldl (fun m e => match m with
    | none => some e
    | some x => if F.BIL_CALk_START.get x < F.BIL_CALk_START.get e then some e else m) none

/-- Steps 3 and 4: earlier dates, at most `fuel` of them, then T0. -/
def searchBack (cal : List Nat) (n : Nat) (date : Int) : Nat → Nat
  | 0 => 0
  | fuel + 1 => match lastStart (calOn cal n date) 1439 with
    | some e => F.BIL_CALk_TARIFF.get e
    | none => searchBack cal n (date - 1) fuel

/-- R232: the tariff that the calendar gives output `n` (6 for SITE) at a bill time. -/
def tariffCal (cal : List Nat) (calcfg n t : Nat) : Nat :=
  let c := calTime calcfg t
  let date := c / dayMs
  let minute := (c % dayMs / 60000).toNat
  match lastStart (calOn cal n date) minute with
  | some e => F.BIL_CALk_TARIFF.get e
  | none => searchBack cal n (date - 1) 7

/-! ### Tariff commands (R234) -/

/-- The command names output `n`, 6 for SITE. -/
def TCmd.names (c : TCmd) (n : Fin 7) : Bool := if n = 6 then c.site else bitOf c.outputs n.1

/-- Commands stand in order of effective time, then of acceptance. -/
def putCmd (c : TCmd) : List TCmd → List TCmd
  | [] => [c]
  | x :: xs => if c.effective < x.effective then c :: x :: xs else x :: putCmd c xs

/-- The tariff that a command holds in force for output `n` at a bill time; none for the calendar. -/
def Billing.cmdAt (b : Billing) (n : Fin 7) (t : Nat) : Option Nat :=
  b.queue.foldl (fun a c => if c.effective ≤ t ∧ c.names n then (if c.tariff = 0xF then none else some c.tariff) else a) b.cmdNow[n]

/-- The tariff in force for output `n` at a bill time, under a calendar. -/
def Billing.tariffAt (b : Billing) (cal : List Nat) (calcfg : Nat) (n : Fin 7) (t : Nat) : Nat :=
  (b.cmdAt n t).getD (tariffCal cal calcfg n.1 t)

/-- The calendar in use. -/
def State.calendar (s : State) : List Nat := (List.range 64).map (fun k => s.inUse R.BIL_CALk [k])

/-- The calendar configuration in use. -/
def State.calcfg (s : State) : Nat := s.inUse R.BIL_CALCFG []

/-- The calendar and configuration that were in force at bill time `t`, given those in use now (R225). -/
def Billing.calAt (b : Billing) (cal : List Nat) (calcfg t : Nat) : List Nat × Nat :=
  match b.calUntil.find? (fun e => decide (t < e.1)) with
  | some e => e.2
  | none => (cal, calcfg)

/-- A calendar or configuration goes out of use at bill time `t`; what lies before the running interval is forgotten. -/
def Billing.leaveCalendar (b : Billing) (t : Nat) (cal : List Nat) (calcfg : Nat) (changed : Bool) : Billing :=
  if changed then { b with calUntil := b.calUntil.filter (fun e => decide (b.running.start < e.1)) ++ [(t, cal, calcfg)] } else b

/-- Bill time of the latest boundary. -/
def Billing.setLastB (b : Billing) (t : Nat) : Billing := { b with lastB := some t }

/-- The tariff in force now for bill time `t`. -/
def State.tariffAt (s : State) (n : Fin 7) (t : Nat) : Nat := s.bil.tariffAt s.calendar s.calcfg n t

/-! ### The demand grid (R236, R243) -/

/-- Interval or sub-interval length in ms (R236, `BIL_DEMCFG`). -/
def demLen (cfg : Nat) : Nat :=
  match F.BIL_DEMCFG_LEN.get cfg with | 0 => 60000 | 1 => 300000 | 2 => 900000 | 3 => 1800000 | _ => 3600000

/-- SLIDING of a demand configuration, and its N. -/
def demSliding (cfg : Nat) : Bool := F.BIL_DEMCFG_SLIDING.get cfg == 1
def demN (cfg : Nat) : Nat := F.BIL_DEMCFG_N.get cfg

/-- The PHASE that ALIGN gives at a period start (R236). -/
def alignPhase (cfg : Nat) : Nat := F.BIL_DEMCFG_ALIGN.get cfg * 60000

/-- The first grid point after bill time `t` (R236). -/
def gridEnd (cfg phase t : Nat) : Nat :=
  let l := demLen cfg
  t + l - (t + l - phase % l) % l

/-- Where an interval that starts at `t` ends: the next grid point, or the first cut before it (R241, R243). -/
def stopOf (cfg phase : Nat) (cuts : List Cut) (t : Nat) : Nat :=
  cuts.foldl (fun m c => if t < c.at_ then min m c.at_ else m) (gridEnd cfg phase t)

/-- The grid from a stop on: the demand settings and PHASE, with the settings that wait at a period end. A period end wins
over a synchronisation at the same point. -/
def gridAfter (cfg phase waiting : Nat) (cuts : List Cut) (stop : Nat) : Nat × Nat :=
  let here := cuts.filter (fun c => c.at_ == stop)
  if here.any (·.periodEnd) then (waiting, alignPhase waiting)
  else (cfg, here.foldl (fun p c => c.newPhase.getD p) phase)

/-- Import of a tick for output `n`; SITE is the sum. -/
def Tick.impOf (t : Tick) (n : Fin 7) : Nat :=
  if h : n.1 < 6 then (t.outs[n.1]'h).imp else (t.outs.toList.map (·.imp)).sum

/-- Import of uncommitted ticks that start in a span of bill time. -/
def Billing.pendingIn (b : Billing) (lo hi : Nat) (n : Fin 7) : Nat :=
  ((b.ticks.filter (fun k => !k.committed && k.s.any (fun x => decide (lo ≤ x ∧ x < hi)))).map (·.impOf n)).sum

/-- Intervals that end at or before bill time `t` close provisionally (R230); with `fuel` for their number. Answers the
energies of closed intervals, latest first, and the running one. -/
def Billing.provClose (b : Billing) (waiting t : Nat) : Nat → Nat → Nat → Nat → Vector Nat 7 → List (Vector Nat 7) → List (Vector Nat 7) × Interval
  | 0, _, _, st, e, l => (l, { Interval.zero st (st + 1) with energy := e })
  | fuel + 1, cfg, phase, st, e, l =>
    let stop := stopOf cfg phase b.cuts st
    let e1 := updAll e (fun n x => x + b.pendingIn st stop n)
    if t < stop then (l, { Interval.zero st stop with energy := e1 })
    else
      let g := gridAfter cfg phase waiting b.cuts stop
      b.provClose waiting t fuel g.1 g.2 stop (Vector.replicate 7 0) ((if g.1 = cfg then e1 :: l else []).take 15)

/-- The provisional history of closed intervals and the running interval at bill time `t`. -/
def State.provisional (s : State) (t : Nat) : List (Vector Nat 7) × Interval :=
  let b := s.bil
  b.provClose (s.reg R.BIL_DEMCFG []) t ((t - b.running.start) / 60000 + b.cuts.length + 2) b.demcfg b.phase b.running.start b.running.energy
    (b.subs.map (·.energy))

/-- `BIL_DEMEn`: import booked so far in the running interval or sliding window, µWh; index 6 is SITE. -/
def State.demEnergy (s : State) (n : Fin 7) : Nat :=
  match s.bil.lastB with
  | none => 0
  | some t =>
    let r := s.provisional t
    (r.2.energy)[n] + (if demSliding s.bil.demcfg then ((r.1.take (demN s.bil.demcfg - 1)).map (fun e => e[n])).sum else 0)

end Sys2Proof.Machine
end

