-- ==== Sys2Proof/Machine/Num.lean ====
section
/-!
DEFINITION. Integer square root by bits, for the RMS values of the spec.
-/

namespace Sys2Proof.Machine

/-- Square root of `n` rounded down, found from bit `k - 1` of the root downwards; `r` is what is found so far. -/
def isqrtFrom (n : Nat) : Nat → Nat → Nat
  | 0, r => r
  | k + 1, r => isqrtFrom n k (if (r + 2 ^ k) * (r + 2 ^ k) ≤ n then r + 2 ^ k else r)

/-- Square root of `n` below 2^192, rounded down. -/
def isqrt (n : Nat) : Nat := isqrtFrom n 96 0

/-- The square root of `num / den`, to nearest. -/
def rootRatio (num den : Nat) : Nat := (isqrt (4 * num / den) + 1) / 2

end Sys2Proof.Machine
end

