-- ==== Sys2Proof/Machine/PlanFile.lean ====
section
/-!
DEFINITION. The structure plan (R126 to R150): reading a plan file, the checks of R147 in their order, the metrological
closure of R144, the evaluation levels of R130, and the comparison of R149.
-/

namespace Sys2Proof.Machine

/-! ### Reading the file (R140 to R143) -/

/-- `n` bytes at an offset, little-endian. -/
def rdLE (bs : Bytes) (off n : Nat) : Nat := ofLE ((bs.drop off).take n)

/-- A byte string cut into records of `size` bytes. -/
def cutRecords (size : Nat) (bs : Bytes) : List Bytes := (List.range (bs.length / size)).map (fun i => (bs.drop (i * size)).take size)

/-- R127: source IDs that a plan may hold; `open_` admits 0x1FF. -/
def sourceOk (open_ : Bool) (id : Nat) : Bool := id < 0x178 || id == 0x1F0 || id == 0x1F1 || (open_ && id == 0x1FF)

/-- Parse every record, or fail. -/
def parseAll {α : Type} (f : Bytes → Option α) : List Bytes → Option (List α)
  | [] => some []
  | r :: rs => match f r, parseAll f rs with
    | some a, some l => some (a :: l)
    | _, _ => none

/-- CELLS_IC, with a format code of R164. -/
def parseIc (r : Bytes) : Option IcRec :=
  let b := rdLE r 1 1
  let f := rdLE r 2 1
  if 1 ≤ f ∧ f ≤ 3 then some { index := rdLE r 0 1, mclk := bitsOf b 0 2, falling := bitOf b 2, invert := bitOf b 3, format := f } else none

/-- CELLS_FL. -/
def parseFl (r : Bytes) : Option FlRec :=
  let m := rdLE r 1 1
  let k := rdLE r 4 1
  let t := rdLE r 6 1
  if m ≤ 2 ∧ sourceOk false (rdLE r 2 2) ∧ (m = 2 ∨ (1 ≤ k ∧ k ≤ 5)) ∧ (m ≠ 2 ∨ (1 ≤ t ∧ t ≤ 64)) then
    some { index := rdLE r 0 1, mode := m, source := rdLE r 2 2, order := k, taps := t, coeff := rdLE r 8 2 }
  else none

/-- CELLS_MA. -/
def parseMa (r : Bytes) : Option MaRec :=
  let op := rdLE r 1 1
  let p := rdLE r 10 4
  let sl := rdLE r 9 1
  if 1 ≤ op ∧ op ≤ 0x0A ∧ sourceOk true (rdLE r 2 2) ∧ sourceOk true (rdLE r 4 2) ∧ sourceOk true (rdLE r 6 2) ∧ rdLE r 8 1 ≤ 63
      ∧ (sl < 64 ∨ sl = 0xFF) ∧ (op ≠ 6 ∨ (1 ≤ p ∧ p ≤ 4800)) ∧ (op ≠ 8 ∨ p ≤ 4194303) ∧ (op ≠ 9 ∨ p < 32) then
    some { index := rdLE r 0 1, op, a := rdLE r 2 2, b := rdLE r 4 2, c := rdLE r 6 2, shift := rdLE r 8 1,
           calSlot := sl, p, k := signed 64 (rdLE r 16 8) }
  else none

/-- CELLS_TC, with the line binding in byte 5. -/
def parseTc (r : Bytes) : Option TcRec :=
  let b := rdLE r 1 1
  let d := rdLE r 4 1
  let ln := rdLE r 5 1
  let hi := signed 64 (rdLE r 8 8)
  let lo := signed 64 (rdLE r 16 8)
  if sourceOk false (rdLE r 2 2) ∧ 1 ≤ d ∧ (ln < 16 ∨ ln = 0xFF) ∧ (bitOf b 0 ∨ (0 ≤ hi ∧ hi ≤ 100 ∧ 0 ≤ lo ∧ lo ≤ 100)) then
    some { index := rdLE r 0 1, sample := bitOf b 0, above := bitOf b 1, below := bitOf b 2, source := rdLE r 2 2,
           debounce := d, line := ln, hi, lo }
  else none

/-- CELLS_IN. -/
def parseIn (r : Bytes) : Option InRec :=
  if rdLE r 1 1 ≤ 2 ∧ sourceOk false (rdLE r 2 2) then
    some { index := rdLE r 0 1, mode := rdLE r 1 1, source := rdLE r 2 2 } else none

/-- CELLS_SQ. A step whose next step lies outside the step count is refused as not well formed, though no check names it (DESIGN CHOICE, log entry
119). -/
def parseSq (r : Bytes) : Option SqRec :=
  let n := rdLE r 4 1
  let steps := (List.range n).map (fun i => let w := rdLE r (8 + 8 * i) 8
    ({ dwell := bitsOf w 0 16, blank := bitsOf w 16 9, next := bitsOf w 25 5 } : SqStep))
  if rdLE r 1 1 ≤ 2 ∧ 1 ≤ n ∧ n ≤ 32 ∧ sourceOk true (rdLE r 2 2) ∧ steps.all (fun s => 1 ≤ s.dwell && sourceOk true s.blank && s.next < n) then
    some { index := rdLE r 0 1, event := rdLE r 1 1, trigger := rdLE r 2 2, steps } else none

/-- QUANTITIES. -/
def parseQty (r : Bytes) : Option QtyRec :=
  let b := rdLE r 1 1
  if rdLE r 0 1 < 6 ∧ sourceOk false (rdLE r 2 2) then
    some { output := rdLE r 0 1, qty := bitsOf b 0 4, phase := bitsOf b 4 2, source := rdLE r 2 2, metro := bitOf (rdLE r 4 1) 0 }
  else none

/-- ENERGY, with the pulse threshold of R199. -/
def parseEn (r : Bytes) : Option EnRec :=
  let p := bitOf (rdLE r 3 1) 0
  let t := rdLE r 8 8
  if rdLE r 1 1 < 6 ∧ rdLE r 2 1 < 4 ∧ (p = false ∨ (172800 ≤ t ∧ t < 2 ^ 63)) then
    some { integ := rdLE r 0 1, output := rdLE r 1 1, reg := rdLE r 2 1, pulse := p, threshold := t } else none

/-- TRIP. -/
def parseTrip (r : Bytes) : Option TripRec :=
  let k := rdLE r 0 1
  if k = 0 ∧ rdLE r 1 1 < 16 ∧ rdLE r 2 1 < 64 ∧ rdLE r 3 1 ≤ 1 then some (.line (rdLE r 1 1) (rdLE r 2 1) (rdLE r 3 1))
  else if k = 1 ∧ rdLE r 3 1 ≤ 1 then some (.pair (rdLE r 1 1) (rdLE r 2 1) (rdLE r 3 1 == 1))
  else none

/-- VOTE. -/
def parseVote (r : Bytes) : Option VoteRec :=
  let n := rdLE r 1 1
  let ms := (List.range n).map (fun i => rdLE r (2 + 2 * i) 2)
  if rdLE r 0 1 < 32 ∧ (n = 2 ∨ n = 3) ∧ ms.all (sourceOk false) then some { group := rdLE r 0 1, members := ms, tolerance := rdLE r 8 2 } else none

/-- CALDEF. -/
def parseCalDef (r : Bytes) : Option CalDef :=
  if rdLE r 0 1 < 64 ∧ rdLE r 1 1 < 0x38 then some { slot := rdLE r 0 1, channel := rdLE r 1 1, temp := bitOf (rdLE r 2 1) 0 } else none

/-- One output of STRUCTURE. -/
def parseOut (r : Bytes) (i : Nat) : OutRec :=
  { volt := rdLE r (8 + 8 * i) 2, amp := rdLE r (10 + 8 * i) 2, kind := rdLE r (12 + 8 * i) 1,
    cabinet := rdLE r (13 + 8 * i) 1, ownOc := bitOf (rdLE r (14 + 8 * i) 1) 0 }

/-- STRUCTURE: one record. -/
def parseStruct : List Bytes → Option SectionBody
  | [r] => if rdLE r 0 1 < 64 ∧ rdLE r 1 1 ≤ 8 then some (.struct (rdLE r 0 1) (rdLE r 1 1) ((List.range 6).map (parseOut r))) else none
  | _ => none

/-- Record size of a section type; 0 for an unknown type (R142). -/
def recordSize : Nat → Nat
  | 1 => 16 | 2 => 16 | 3 => 24 | 4 => 24 | 5 => 16 | 6 => 264 | 8 => 8 | 9 => 16 | 0xA => 8 | 0xB => 16 | 0xC => 8
  | 0xD => 64 | 0xF => 4 | 0x10 => 1 | _ => 0

/-- A section body (R142, R143). Reserved bytes of table entries, prefixes and records are not looked at (DESIGN CHOICE, log entry 120). -/
def parseBody (type : Nat) (body : Bytes) : Option SectionBody :=
  if type = 0x0E then
    let n := rdLE body 0 2
    let pad := (2 + 2 * n + 7) / 8 * 8
    if body.length = pad + 48 then
      some (.sealList ((List.range n).map (fun i => rdLE body (2 + 2 * i) 2)) ((body.drop pad).take 48))
    else none
  else
    let size := recordSize type
    let n := rdLE body 0 2
    if size = 0 ∨ rdLE body 2 2 ≠ size ∨ body.length ≠ 8 + n * size then none
    else
      let rs := cutRecords size (body.drop 8)
      match type with
      | 1 => (parseAll parseIc rs).map .ic
      | 2 => (parseAll parseFl rs).map .fl
      | 3 => (parseAll parseMa rs).map .ma
      | 4 => (parseAll parseTc rs).map .tc
      | 5 => (parseAll parseIn rs).map .integ
      | 6 => (parseAll parseSq rs).map .sq
      | 8 => (parseAll parseQty rs).map .qty
      | 9 => (parseAll parseEn rs).map .energy
      | 0xA => (parseAll parseTrip rs).map .trip
      | 0xB => (parseAll parseVote rs).map .vote
      | 0xC => (parseAll parseCalDef rs).map .caldef
      | 0xD => parseStruct rs
      | 0xF => if n ≤ 4096 then some (.coeff (rs.map (fun r => signed 32 (rdLE r 0 4)))) else none
      | _ => some .notes

/-- One section: its table entry at `off` and its body (R141); the digest must match. -/
def parseSection (file : Bytes) (off : Nat) : Option PlanSection :=
  let o := rdLE file (off + 8) 4
  let len := rdLE file (off + 12) 4
  let body := (file.drop o).take len
  let dig := (file.drop (off + 16)).take 48
  let fl := rdLE file (off + 2) 2
  if o % 8 = 0 ∧ fl ≤ 1 ∧ body.length = len ∧ sha384 body = dig then
    (parseBody (rdLE file off 2) body).map (fun b => { sealed := fl == 1, id := rdLE file (off + 4) 2, digest := dig, body := b })
  else none

/-- Where the section bodies of the table lie, in its order: rising and without overlap (R141). -/
def inOrder : Nat → List (Nat × Nat) → Bool
  | _, [] => true
  | lo, (o, len) :: l => lo ≤ o && inOrder (o + len) l

/-- Offsets and lengths of the sections. -/
def sectionSpans (file : Bytes) : List (Nat × Nat) :=
  (List.range (rdLE file 22 2)).map (fun i => (rdLE file (64 + 64 * i + 8) 4, rdLE file (64 + 64 * i + 12) 4))

/-- Where the signature block begins (R145). -/
def sigOffset (file : Bytes) : Nat :=
  (((sectionSpans file).map (fun p => p.1 + p.2)).foldl max (64 + 64 * rdLE file 22 2) + 7) / 8 * 8

/-- The ECDSA and HSS signatures of a signature block of R145, when it is well formed. -/
def sigParts (blk : Bytes) : Option (Bytes × Bytes) :=
  if rdLE blk 0 4 = 96 ∧ rdLE blk 100 4 = 3284 ∧ blk.length = 3388 then some ((blk.drop 4).take 96, (blk.drop 104).take 3284) else none

/-- R78, R145: both signatures of a block verify over a digest under a pair of keys. -/
def bothVerify (ecdsa : Nat × Nat) (hss digest blk : Bytes) : Bool :=
  match sigParts blk with
  | some (e, h) => ecdsaVerify ecdsa digest e && hssVerify hss digest h
  | none => false

/-! ### Sections of a plan -/

def Plan.ics (p : Plan) : List IcRec := (p.sections.map (fun s => match s.body with | .ic l => l | _ => [])).flatten
def Plan.fls (p : Plan) : List FlRec := (p.sections.map (fun s => match s.body with | .fl l => l | _ => [])).flatten
def Plan.mas (p : Plan) : List MaRec := (p.sections.map (fun s => match s.body with | .ma l => l | _ => [])).flatten
def Plan.tcs (p : Plan) : List TcRec := (p.sections.map (fun s => match s.body with | .tc l => l | _ => [])).flatten
def Plan.ins (p : Plan) : List InRec := (p.sections.map (fun s => match s.body with | .integ l => l | _ => [])).flatten
def Plan.sqs (p : Plan) : List SqRec := (p.sections.map (fun s => match s.body with | .sq l => l | _ => [])).flatten
def Plan.qtys (p : Plan) : List QtyRec := (p.sections.map (fun s => match s.body with | .qty l => l | _ => [])).flatten
def Plan.energies (p : Plan) : List EnRec := (p.sections.map (fun s => match s.body with | .energy l => l | _ => [])).flatten
def Plan.trips (p : Plan) : List TripRec := (p.sections.map (fun s => match s.body with | .trip l => l | _ => [])).flatten
def Plan.votes (p : Plan) : List VoteRec := (p.sections.map (fun s => match s.body with | .vote l => l | _ => [])).flatten
def Plan.caldefs (p : Plan) : List CalDef := (p.sections.map (fun s => match s.body with | .caldef l => l | _ => [])).flatten
def Plan.coeffs (p : Plan) : List Int := (p.sections.map (fun s => match s.body with | .coeff l => l | _ => [])).flatten

/-- The STRUCTURE record: outputs present, cabinets, and the outputs. -/
def Plan.struct (p : Plan) : Nat × Nat × List OutRec :=
  (p.sections.findSome? (fun s => match s.body with | .struct a b c => some (a, b, c) | _ => none)).getD (0, 0, [])

/-- The outputs present, as a bit map. -/
def Plan.present (p : Plan) : Nat := p.struct.1

/-- One output of STRUCTURE. -/
def Plan.out (p : Plan) (o : Nat) : OutRec := p.struct.2.2.getD o { volt := 0, amp := 0, kind := 0, cabinet := 0, ownOc := false }

/-- The SEAL_LIST: listed section IDs and the metrology digest. -/
def Plan.sealList (p : Plan) : List Nat × Bytes :=
  (p.sections.findSome? (fun s => match s.body with | .sealList a b => some (a, b) | _ => none)).getD ([], [])

/-- The metrology digest of a plan. -/
def Plan.mdigest (p : Plan) : Bytes := p.sealList.2

/-- The metrology digest computed from the listed sections (R143). -/
def Plan.computedDigest (p : Plan) : Bytes :=
  sha384 ((p.sealList.1.map (fun i => ((p.sections.find? (fun s => s.id == i)).map (·.digest)).getD [])).flatten)

/-- The line record of a TRIP line: outputs dropped and action. -/
def Plan.lineOf (p : Plan) (n : Nat) : Option (Nat × Nat) :=
  p.trips.findSome? (fun t => match t with | .line l o a => if l = n then some (o, a) else none | _ => none)

/-- TRIP lines bound by the plan. -/
def Plan.bound (p : Plan) : Nat := bitmap 16 (fun n => (p.lineOf n.1).isSome)

/-! ### Levels and metrological cells (R130, R144) -/

/-- Arithmetic cells that an arithmetic cell depends on, by source ID. -/
def Plan.maInputs (p : Plan) (r : MaRec) : List Nat :=
  (if r.op = 9 then ((p.votes.find? (fun v => v.group == r.p)).map (·.members)).getD [] else [r.a, r.b, r.c]).filter
    (fun i => 0x0B0 ≤ i && i < 0x110)

/-- The evaluation levels of arithmetic cells, first to last; cells left after the fuel lie on a loop or too deep. A DELAY cell
is ordered like any other (DESIGN CHOICE, log entry 117). -/
def layers (p : Plan) : Nat → List Nat → List MaRec → List (List MaRec) × List MaRec
  | 0, _, rest => ([], rest)
  | n + 1, done, rest =>
    let ready := rest.filter (fun r => (p.maInputs r).all (fun i => done.contains i || !(p.mas.any (fun m => m.index + 0x0B0 == i))))
    if ready = [] then ([], rest)
    else
      let r := layers p n (done ++ ready.map (fun m => m.index + 0x0B0)) (rest.filter (fun r => !ready.contains r))
      (ready :: r.1, r.2)

/-- The levels of a plan. -/
def Plan.levels (p : Plan) : List (List MaRec) := (layers p 64 [] p.mas).1

/-- Sources that feed the cell with a given source ID. -/
def Plan.feeds (p : Plan) (id : Nat) : List Nat :=
  ((p.fls.filter (fun r => r.index + 0x030 == id)).map (·.source))
  ++ ((p.mas.filter (fun r => r.index + 0x0B0 == id)).map (fun r =>
      if r.op = 9 then ((p.votes.find? (fun v => v.group == r.p)).map (·.members)).getD [] else [r.a, r.b, r.c])).flatten
  ++ ((p.tcs.filter (fun r => r.index + 0x110 == id)).map (·.source))
  ++ ((p.ins.filter (fun r => r.index + 0x140 == id)).map (·.source))
  ++ ((p.sqs.filter (fun r => r.index + 0x160 == id)).map (·.trigger))

/-- Sources from which a path leads to one of the given sources. -/
def closure (p : Plan) : Nat → List Nat → List Nat
  | 0, l => l
  | n + 1, l =>
    let new := ((l.map p.feeds).flatten.filter (fun i => !l.contains i && i != 0x1FF)).eraseDups
    if new = [] then l else closure p n (l ++ new)

/-- R144: the metrological sources. -/
def Plan.metroSources (p : Plan) : List Nat :=
  closure p 512 (p.energies.map (fun e => e.integ + 0x140) ++ (p.qtys.filter (·.metro)).map (·.source))

/-- R172: an input conditioner or an FG port that feeds a metrological cell. -/
def Plan.metroChannel (p : Plan) (ch : Nat) : Bool :=
  p.metroSources.contains (if ch < 48 then ch else 0x170 + (ch - 48))

/-- The outputs whose metrological quantities or energy pass through a source. -/
def Plan.outputsOf (p : Plan) (id : Nat) : Nat :=
  bitmap 6 (fun o => (closure p 512
    ((p.energies.filter (fun e => e.output == o.1)).map (fun e => e.integ + 0x140)
      ++ (p.qtys.filter (fun q => q.output == o.1 && q.metro)).map (·.source))).contains id)

/-! ### The checks of R147 -/

/-- No number occurs twice. -/
def distinct (l : List Nat) : Bool := l.eraseDups.length == l.length

/-- A trip-cell pair names trip cells that exist. -/
def TripRec.pairOk : TripRec → Bool
  | .pair a b _ => decide (a < 48) && decide (b < 48)
  | .line _ _ _ => true

/-- Check 6. -/
def Plan.check6 (p : Plan) : Bool :=
  p.ics.all (·.index < 48) && p.fls.all (·.index < 128) && p.mas.all (·.index < 96) && p.tcs.all (·.index < 48)
  && p.ins.all (·.index < 32) && p.sqs.all (·.index < 16) && p.energies.all (·.integ < 32)
  && distinct (p.ics.map (·.index)) && distinct (p.fls.map (·.index)) && distinct (p.mas.map (·.index))
  && distinct (p.tcs.map (·.index)) && distinct (p.ins.map (·.index)) && distinct (p.sqs.map (·.index))
  && p.trips.all TripRec.pairOk && distinct (p.trips.filterMap (fun t => match t with | .line l _ _ => some l | _ => none))
  && distinct (p.energies.map (fun e => e.output * 4 + e.reg))
  && distinct ((p.energies.filter (·.pulse)).map (·.output))
  && (p.fls.filter (fun f => f.mode == 1)).all (fun f =>
      let id := f.index + 0x030
      p.fls.all (·.source != id) && p.ins.all (·.source != id) && p.qtys.all (·.source != id) && p.sqs.all (·.trigger != id)
      && p.mas.all (fun m => m.a != id && m.b != id && m.c != id) && p.votes.all (fun v => !v.members.contains id))

/-- A section defines a metrological cell, or is of a type that must be sealed (R144). -/
def sectionMetro (ms : List Nat) (b : SectionBody) : Bool :=
  match b with
  | .ic l => l.any (fun r => ms.contains r.index)
  | .fl l => l.any (fun r => ms.contains (r.index + 0x030))
  | .ma l => l.any (fun r => ms.contains (r.index + 0x0B0))
  | .tc l => l.any (fun r => ms.contains (r.index + 0x110))
  | .integ l => l.any (fun r => ms.contains (r.index + 0x140))
  | .sq l => l.any (fun r => ms.contains (r.index + 0x160))
  | .energy _ => true
  | .caldef _ => true
  | .struct _ _ _ => true
  | .coeff _ => true
  | _ => false

/-- Check 7: sealing covers the metrological cells, and 2oo2H is allowed by STRUCTURE (R139, R144). -/
def Plan.check7 (p : Plan) : Bool :=
  let ms := p.metroSources
  p.sections.all (fun s => s.sealed || !sectionMetro ms s.body)
  && p.trips.all (fun t => match t with
    | .pair a b true =>
      (p.tcs.filter (fun c => c.index == a || c.index == b)).all (fun c =>
        match p.lineOf c.line with
        | some (outs, _) => (List.range 6).all (fun o => !bitOf outs o || (p.out o).ownOc)
        | none => true)
    | _ => true)

/-- Check 8: SEAL_LIST names exactly the sealed sections in ascending order, and its digest is right (R143). -/
def Plan.check8 (p : Plan) : Bool :=
  let ids := p.sealList.1
  ids.all (fun i => p.sections.any (fun s => s.id == i && s.sealed))
  && p.sections.all (fun s => !s.sealed || ids.contains s.id)
  && (ids.zip (ids.drop 1)).all (fun x => x.1 < x.2)
  && p.computedDigest == p.mdigest

/-- Every cell that the plan defines and that has an input, by source ID. -/
def Plan.cellIds (p : Plan) : List Nat :=
  p.fls.map (·.index + 0x030) ++ p.mas.map (·.index + 0x0B0) ++ p.tcs.map (·.index + 0x110) ++ p.ins.map (·.index + 0x140) ++ p.sqs.map (·.index + 0x160)

/-- Check 10: at most 64 levels, and no cell on a loop, through cells of any kind. A loop closed through a DELAY cell is a loop too: R130 has no cell
take its input from its own output or from a later level, with no exception named in check 10 (DESIGN CHOICE, log entry 117). -/
def Plan.check10 (p : Plan) : Bool := (layers p 64 [] p.mas).2 == [] && p.cellIds.all (fun i => !(closure p 512 (p.feeds i)).contains i)

/-- The plan of a file whose signature block verified under the anchor `anchor`; none where check 4 fails. -/
def parsePlan (file : Bytes) (anchor : Nat) : Option Plan :=
  let n := rdLE file 22 2
  let secs := parseAll (fun b => parseSection file (ofLE b)) ((List.range n).map (fun i => leBytes 4 (64 + 64 * i)))
  match secs with
  | none => none
  | some l =>
    if (file.take 4 = [0x4C, 0x56, 0x50, 0x4C]) ∧ rdLE file 4 2 = 1 ∧ rdLE file 6 2 = 64 ∧ 1 ≤ n ∧ n ≤ 32
        ∧ rdLE file 24 4 = file.length ∧ file.length ≤ 262144 ∧ rdLE file 28 4 = 0x3750 ∧ rdLE file 40 24 = 0
        ∧ inOrder (64 + 64 * n) (sectionSpans file) ∧ distinct (l.map (·.id))
        ∧ (l.filter (fun s => match s.body with | .sealList _ _ => !s.sealed | _ => false)).length = 1
        ∧ (l.filter (fun s => match s.body with | .sealList _ _ => true | _ => false)).length = 1 then
      some { planId := rdLE file 8 8, version := rdLE file 16 4, level := rdLE file 20 2, built := rdLE file 32 8,
             sections := l, anchor }
    else none

/-- What the checks of R147 need to know of the device: the anchors with their scope (true SEALED), the metrology digest that
R146 and R149 compare with, and the interface level of the running GRATE. -/
structure PlanCtx where
  anchors : List (Anchor × Bool)
  held : Option Bytes
  grateLevel : Nat

/-- The metrology digest that a file's SEAL_LIST carries, read before the file is known to be well formed, as check 3 needs it (R143, R146). -/
def rawDigest (file : Bytes) : Option Bytes :=
  (List.range (rdLE file 22 2)).findSome? (fun i =>
    let t := 64 + 64 * i
    if rdLE file t 2 = 0x0E then
      let body := (file.drop (rdLE file (t + 8) 4)).take (rdLE file (t + 12) 4)
      let d := (body.drop ((2 + 2 * rdLE body 0 2 + 7) / 8 * 8)).take 48
      if d.length = 48 then some d else none
    else none)

/-- R147, checks 1 to 8 and 10 in order; at boot check 9 comes before check 10: the code of the first failure, or the plan. -/
def checkPlan (c : PlanCtx) (file : Bytes) (boot : Bool) : Except Nat Plan :=
  if file = [] then .error 1
  else
    let dig := sha384 (file.take (sigOffset file))
    let blk := file.drop (sigOffset file)
    match c.anchors.filter (fun a => bothVerify a.1.ecdsa a.1.hss dig blk) with
    | [] => .error 2
    | signers =>
      match signers.find? (fun a => a.2 || (c.held.isSome && c.held == rawDigest file)) with
      | none => .error 3
      | some a =>
        match parsePlan file a.1.id with
        | none => .error 4
        | some q =>
          if c.grateLevel < q.level then .error 5
          else if q.check6 = false then .error 6
          else if q.check7 = false then .error 7
          else if q.check8 = false then .error 8
          else if boot ∧ c.held ≠ some q.mdigest then .error 9
          else if q.check10 = false then .error 10
          else .ok q

/-! ### Comparing plans (R149, R150) -/

/-- TRIP_DIFF: a TRIP record, or a record of a trip cell that drives a line, differs. Record lists are compared in their order, so that the same
records in another order differ (DESIGN CHOICE, log entry 118). -/
def tripDiff (a b : Plan) : Bool :=
  a.trips != b.trips || a.tcs.filter (·.line != 0xFF) != b.tcs.filter (·.line != 0xFF)

/-- LIVE_OK: every differing record is a sequence cell, a trip cell whose line is 0xFF, or NOTES. -/
def liveOk (a b : Plan) : Bool :=
  a.ics == b.ics && a.fls == b.fls && a.mas == b.mas && a.ins == b.ins && a.qtys == b.qtys && a.energies == b.energies
  && a.votes == b.votes && a.caldefs == b.caldefs && a.coeffs == b.coeffs && a.struct == b.struct && !tripDiff a b

end Sys2Proof.Machine
end

