-- ==== Sys2Proof/Machine/Cells.lean ====
section
/-!
DEFINITION. What the cells of the Grate compute (R128 to R139, R175 to R178, R194 to R199, R206 to R208): exact integer
arithmetic, rounded once, to nearest with ties away from zero.
-/

namespace Sys2Proof.Machine

/-! ### Rounding and ranges -/

/-- `num / den` rounded to nearest, ties away from zero (R131, R132, R175, R194, R237). -/
def rdiv (num : Int) (den : Nat) : Int :=
  if 0 ≤ num then (((2 * num.natAbs + den) / (2 * den) : Nat) : Int) else -(((2 * num.natAbs + den) / (2 * den) : Nat) : Int)

/-- A value with its VALID flag (R128). -/
structure Sample where
  v : Int
  ok : Bool
deriving DecidableEq, Repr

/-! ### Bits and input conditioners (R131, R133, R136, R171) -/

/-- R133: S, the sum of the latest 19 bits weighted 1 to 10 to 1. -/
def windowSum (w : List Bool) : Nat :=
  ((w.zip [1, 2, 3, 4, 5, 6, 7, 8, 9, 10, 9, 8, 7, 6, 5, 4, 3, 2, 1]).map (fun p => b2n p.1 * p.2)).sum

/-- The loss level of a modulator format (R164): the steady level that means that the high side is lost. -/
def lossLevel (format : Nat) (level : Bool) : Bool := (format == 2 && level) || (format == 3 && !level)

/-- An input conditioner loses VALID (R136, R171). -/
def IcState.lose (c : IcState) : IcState :=
  { c with valid := false, good := 0, losses := if c.valid then satAdd 16 c.losses 1 else c.losses }

/-- An input conditioner sets VALID again (R136). -/
def IcState.restore (c : IcState) : IcState := { c with valid := true, lostFrames := 0, sensorCounted := false }

/-- One modulator bit (after inversion) in an input conditioner: transitions, ones and edges, the trip window, NOTRANS and HIGHSIDE as they hold
now; 64 bit periods without a transition take VALID, 250 with transitions give it back (R136, R171). -/
def IcState.bit (c : IcState) (format : Nat) (b : Bool) : IcState :=
  let steady := if b != c.level then 0 else min 64 (c.steady + 1)
  let c1 := { c with level := b, steady, good := if steady < 64 then min 250 (c.good + 1) else 0, ones := c.ones + b2n b,
                     window := (b :: c.window).take 19, rises := c.rises + b2n (b && !c.level),
                     noTrans := steady == 64, highSide := steady == 64 && lossLevel format b }
  if steady = 64 then (if c.valid then c1.lose else c1)
  else if c.valid = false ∧ c1.good = 250 then c1.restore else c1

/-- The conditioner after each of a list of bits. -/
def IcState.run (format : Nat) : IcState → List Bool → List IcState
  | _, [] => []
  | c, b :: bs => let d := c.bit format b
    d :: IcState.run format d bs

/-- One step of the sinc integrators: each adds the one before it. -/
def sincInteg : Int → List Int → List Int
  | _, [] => []
  | x, a :: as => let y := a + x
    y :: sincInteg y as

/-- One step of the sinc combs: differences of successive outputs; returns the result and the new comb states. -/
def sincComb : Int → List Int → Int × List Int
  | x, [] => (x, [])
  | x, p :: ps => let r := sincComb (x - p) ps
    (r.1, x :: r.2)

/-- The sinc output of ones density `v / r^k` as 2d - 1 in Q1.31, saturated (R131). -/
def sincOut (v : Int) (r k : Nat) : Int :=
  let full : Nat := r ^ k
  min (2 ^ 31 - 1) (max (-(2 ^ 31)) (rdiv ((2 * v - full) * 2 ^ 31) full))

/-- One bit into a sinc filter. -/
def FlState.bit (f : FlState) (k : Nat) (b : Bool) : FlState :=
  { f with integ := sincInteg (if b then 1 else 0) (if f.integ = [] then List.replicate k 0 else f.integ), phase := f.phase + 1 }

/-- The end of a sinc output period of ratio `r` (R131, R148). -/
def FlState.latch (f : FlState) (r k : Nat) (ok : Bool) : FlState :=
  let c := sincComb (f.integ.getLastD 0) (if f.comb = [] then List.replicate k 0 else f.comb)
  let st := min k (f.settled + 1)
  { f with comb := c.2, phase := 0, out := sincOut c.1 r k, settled := st, valid := ok && st == k }

/-! ### Trip cells (R133, R136) -/

/-- The tested condition of a trip cell. -/
def TcRec.cond (r : TcRec) (x : Int) : Bool := (r.above && decide (r.hi < x)) || (r.below && decide (x < r.lo))

/-- One evaluation of a trip cell. -/
def TcState.eval (t : TcState) (r : TcRec) (x : Sample) : TcState :=
  if x.ok then
    let c := r.cond x.v
    let rt := if c then min 255 (t.runTrue + 1) else 0
    let rf := if c then 0 else min 255 (t.runFalse + 1)
    let v := if r.debounce ≤ rt then true else if r.debounce ≤ rf then false else t.verdict
    { runTrue := rt, runFalse := rf, valid := true, latest := x.v, verdict := v, rises := t.rises + b2n (v && !t.verdict) }
  else { t with runTrue := 0, runFalse := 0, valid := false, verdict := false }

/-- R139: a TRIP line, the OR of its cells, each pair in its mode. -/
def lineLevel (p : Plan) (tc : Vector TcState 48) (n : Nat) : Bool :=
  let cells := p.tcs.filter (fun r => r.line == n)
  let st := fun (i : Nat) => tc[i]?.getD TcState.reset
  let pairs := p.trips.filterMap (fun t => match t with | .pair a b m => some (a, b, m) | _ => none)
  let inPair := fun (i : Nat) => pairs.any (fun q => q.1 == i || q.2.1 == i)
  (cells.filter (fun r => !inPair r.index)).any (fun r => (st r.index).verdict)
  || (pairs.filter (fun q => cells.any (fun r => r.index == q.1 || r.index == q.2.1))).any (fun q =>
      let a := st q.1
      let b := st q.2.1
      if q.2.2 then (a.verdict && b.verdict) || (a.verdict && !b.valid) || (b.verdict && !a.valid)
      else a.verdict || b.verdict || !a.valid || !b.valid)

/-! ### The crossbar (R127, R128) -/

/-- A frame-rate source's value and VALID flag. Integrators and sequence cells give their accumulator and step. -/
def crossbar (g : Grate) (sens : Sensing) (id : Nat) : Sample :=
  if id < 0x030 then let c := g.ic[id]?.getD IcState.reset; ⟨if c.level then 1 else 0, c.valid⟩
  else if id < 0x0B0 then let f := g.fl[id - 0x030]?.getD FlState.reset; ⟨f.out, f.valid⟩
  else if id < 0x110 then let m := g.ma[id - 0x0B0]?.getD MaState.reset; ⟨m.out, m.valid⟩
  else if id < 0x140 then let t := g.tc[id - 0x110]?.getD TcState.reset; ⟨if t.verdict then 1 else 0, t.valid⟩
  else if id < 0x160 then let i := g.integ[id - 0x140]?.getD InState.reset; ⟨i.acc, true⟩
  else if id < 0x170 then let q := g.sq[id - 0x160]?.getD SqState.reset; ⟨q.step, true⟩
  else if id < 0x178 then let f := sens.fg[id - 0x170]?.getD FgPort.reset; ⟨f.sample, f.valid⟩
  else if id = 0x1F1 then ⟨65536, true⟩
  else ⟨0, id == 0x1F0⟩

/-- R135: a running sequence step forces the VALID flag of a source to 0. -/
def blanked (p : Plan) (g : Grate) (id : Nat) : Bool :=
  p.sqs.any (fun r => let q := g.sq[r.index]?.getD SqState.reset
    (r.steps[q.step]?.map (·.blank)).getD 0x1FF == id)

/-- A running sequence step blanks a source of the running plan (R135). -/
def State.blankedNow (s : State) (id : Nat) : Bool := (s.grate.plan.map (fun p => blanked p s.grate id)).getD false

/-- A source as a cell sees it. -/
def srcOf (p : Plan) (g : Grate) (sens : Sensing) (id : Nat) : Sample :=
  let x := crossbar g sens id
  { x with ok := x.ok && !blanked p g id }

/-! ### Arithmetic cells (R132, R137, R175) -/

/-- Interpolation between stored frames at a delay of `p / 65,536` frames, history latest first: a number of 1/65,536. -/
def interp (hist : List Int) (p : Nat) : Int :=
  let d := p / 65536
  let f : Int := ((p % 65536 : Nat) : Int)
  hist.getD d 0 * (65536 - f) + hist.getD (d + 1) 0 * f

/-- Frames of history that a delay of `p / 65,536` frames needs, latest included. -/
def histNeed (p : Nat) : Nat := (p + 65535) / 65536 + 1

/-- The median of three. -/
def median3 (a b c : Int) : Int := max (min a b) (min (max a b) c)

/-- Two members differ by more than `tol / 10,000` of the larger absolute value (R137). -/
def differ (tol : Nat) (a b : Int) : Bool := decide (10000 * (a - b).natAbs > tol * max a.natAbs b.natAbs)

/-- R137: what the voter makes of its members: the value as `num / den`, VALID, and the group's state for the frame. -/
structure VoteOut where
  num : Int
  den : Nat
  ok : Bool
  state : Nat
  setAside : Nat
  disagree : Bool
deriving DecidableEq, Repr

/-- R137, by the number of members and how many are valid. -/
def voteOf (tol : Nat) (ms : List Sample) : VoteOut :=
  let good := ms.filter (·.ok)
  match ms.length, good.map (·.v) with
  | 3, [a, b, c] =>
    let m := median3 a b c
    let aside := bitmap 3 (fun i => differ tol ((ms.getD i.1 ⟨0, false⟩).v) m)
    { num := m, den := 1, ok := true, state := 1, setAside := aside, disagree := differ tol a b || differ tol b c || differ tol a c }
  | 3, [a, b] => { num := a + b, den := 2, ok := true, state := 2, setAside := 0, disagree := differ tol a b }
  | 3, [a] => { num := a, den := 1, ok := true, state := 2, setAside := 0, disagree := false }
  | 2, [a, b] => { num := a + b, den := 2, ok := true, state := 1, setAside := 0, disagree := differ tol a b }
  | 2, [a] => { num := a, den := 1, ok := true, state := 2, setAside := 0, disagree := false }
  | _, _ => { num := 0, den := 1, ok := false, state := 3, setAside := 0, disagree := false }

/-- The fields of a calibration slot (R175). -/
def CalSlot.fs (c : CalSlot) : Int := signed 32 (F.MET_CAL_SCALE_FS.get c.scale.toNat)
def CalSlot.gc (c : CalSlot) : Int := signed 32 (F.MET_CAL_SCALE_GC.get c.scale.toNat)
def CalSlot.off (c : CalSlot) : Int := signed 32 (F.MET_CAL_OFFSET_OFFSET.get c.offset.toNat)
def CalSlot.limit (c : CalSlot) : Nat := F.MET_CAL_OFFSET_TRACK_LIMIT.get c.offset.toNat
def CalSlot.tc1 (c : CalSlot) : Int := signed 32 (F.MET_CAL_TEMP_TC1.get c.temp.toNat)
def CalSlot.tc2 (c : CalSlot) : Int := signed 16 (F.MET_CAL_TEMP_TC2.get c.temp.toNat)
def CalSlot.tref (c : CalSlot) : Int := signed 16 (F.MET_CAL_TEMP_TREF.get c.temp.toNat)
def CalSlot.phaseOf (c : CalSlot) : Nat := F.MET_CAL_PHASE_PHASE.get c.phase.toNat
def CalSlot.written (c : CalSlot) : Bool := F.MET_CAL_PHASE_WRITTEN.get c.phase.toNat == 1
def CalSlot.magnetic (c : CalSlot) : Bool := F.MET_CAL_PHASE_MAGNETIC.get c.phase.toNat == 1

/-- The units in which `calF` is exact: 1 of the register unit is this many. -/
def calDen : Nat := 2 ^ 107 * 6553600 ^ 2

/-- R175: f of an input, exact, in units of 1/`calDen` of the register unit, with the temperature term when used. -/
def calF (c : CalSlot) (track x : Int) (temp : Option Int) : Int :=
  let base := (x - c.off - track) * c.fs * (2 ^ 36 + c.gc)        -- units of 2^-67
  match temp with
  | none => base * (2 ^ 40 * 6553600 ^ 2)
  | some t =>
    let dT := t * 100 - c.tref * 65536                            -- units of 1/6,553,600 degree
    base * (2 ^ 40 * 6553600 ^ 2 + c.tc1 * dT * 6553600 + c.tc2 * dT * dT * 2 ^ 8)   -- t in units of 1/(2^40 * 6,553,600^2)

/-- The result of an arithmetic operation before K and s, as a fraction, with VALID and the new state of the cell. -/
structure MaOut where
  num : Int
  den : Nat
  ok : Bool
  st : MaState

/-- R132 by operation code. `cal` is the calibration in use, `track` its TRACK, `useT` whether the slot's temperature term
applies (R176). VALID takes every connected input, used by the operation or not (R136), but for VOTE and for CAL's temperature (R177). -/
def maEval (r : MaRec) (m : MaState) (a b c : Sample) (vote : VoteOut) (cal : CalSlot) (track : Int) (useT : Bool) : MaOut :=
  let aOk := a.ok || r.a == 0x1FF
  let cOk := c.ok || r.c == 0x1FF
  let ok := aOk && (b.ok || r.b == 0x1FF) && cOk
  match r.op with
  | 0x01 => ⟨a.v * b.v / 65536, 1, ok, m⟩
  | 0x02 => ⟨a.v * b.v / 65536 + c.v, 1, ok, m⟩
  | 0x03 => ⟨a.v + b.v, 1, ok, m⟩
  | 0x04 => ⟨a.v - b.v, 1, ok, m⟩
  | 0x05 =>
    let temp := if useT ∧ r.b ≠ 0x1FF then some (if b.ok then b.v else m.lastTemp) else none
    let f := calF cal track a.v temp
    let need := histNeed cal.phaseOf
    let h := (f :: m.hist).take (max 2 need)
    let st := if a.ok then min need (m.settled + 1) else 0
    ⟨interp h cal.phaseOf, calDen, aOk && cOk && cal.written && decide (need ≤ st),
      { m with hist := h, settled := st, lastTemp := if b.ok then b.v else m.lastTemp,
               tempAge := if temp.isSome && !b.ok then m.tempAge + 1 else 0, stale := m.stale && temp.isSome && !b.ok }⟩
  | 0x06 =>
    let h := (a.v :: m.hist).take r.p
    let st := if a.ok then min r.p (m.settled + 1) else 0
    ⟨h.sum, max 1 r.p, ok && decide (r.p ≤ st), { m with hist := h, settled := st }⟩
  | 0x07 =>
    let q := a.v.natAbs * 65536
    let s := isqrt q
    ⟨if a.v < 0 then 0 else (if s * s + s < q then s + 1 else s : Nat), 1, ok && decide (0 ≤ a.v), m⟩
  | 0x08 =>
    let need := histNeed r.p
    let h := (a.v :: m.hist).take (max 2 need)
    let st := if a.ok then min need (m.settled + 1) else 0
    ⟨interp h r.p, 65536, ok && decide (need ≤ st), { m with hist := h, settled := st }⟩
  | 0x09 => ⟨vote.num, vote.den, vote.ok, m⟩
  | _ => ⟨a.v.natAbs, 1, ok, m⟩

/-- R132: the constant K and the shift s, rounded once and saturated to 64 bits. -/
def maFinish (r : MaRec) (o : MaOut) : MaState :=
  let k := if r.k = 0 then 1 else r.k
  let s := if r.k = 0 then 0 else r.shift
  let y := rdiv (o.num * k) (o.den * 2 ^ s)
  let z := clampSigned 64 y
  { o.st with out := z, valid := o.ok, saturated := o.st.saturated || y != z }

/-- R131: the output of a FIR filter from its sum. The spec states no result where the sum leaves 64 bits or the output leaves Q1.31: the value is
free (log entry 115). -/
def firOut (sum : Int) : Int :=
  let y := rdiv sum (2 ^ 30)
  if -(2 ^ 63) ≤ sum ∧ sum < 2 ^ 63 ∧ -(2 ^ 31) ≤ y ∧ y < 2 ^ 31 then y else signed 32 (Config.freeOf "FL.FIR" [sum] % 2 ^ 32)

/-- The vote of a VOTE cell's group in this frame. -/
def groupVote (p : Plan) (g : Grate) (sens : Sensing) (n : Nat) : VoteOut :=
  match p.votes.find? (fun v => v.group == n) with
  | some v => voteOf v.tolerance (v.members.map (srcOf p g sens))
  | none => voteOf 0 []

/-- Evaluate one arithmetic cell. -/
def evalMa (p : Plan) (sens : Sensing) (g : Grate) (r : MaRec) : Grate :=
  if h : r.index < 96 then
    let src := srcOf p g sens
    let cal := sens.calInUse[r.calSlot]?.getD CalSlot.reset
    let track := ((sens.track[r.calSlot]?.map (·.value)).getD 0)
    let useT := p.caldefs.any (fun d => d.slot == r.calSlot && d.temp)
    let o := maEval r g.ma[r.index] (src r.a) (src r.b) (src r.c) (groupVote p g sens r.p) cal track useT
    { g with ma := g.ma.set r.index (maFinish r o) }
  else g

/-! ### Integrators and pulses (R134, R199, R206) -/

/-- The part of its input that an integrator adds, by mode. -/
def inPart (mode : Nat) (x : Int) : Int := if mode = 0 then max 0 x else if mode = 1 then max 0 (-x) else x

/-- One frame of an integrator; whether it adds at all is R148's. Every frame without VALID input counts (R205). -/
def InState.frame (i : InState) (mode : Nat) (x : Sample) (adding pulse : Bool) : InState :=
  if x.ok then
    let y := { i with run := 0, lastMw := x.v / 65536 }
    if adding then
      { y with acc := y.acc + inPart mode x.v, pulse := if pulse then y.pulse + inPart mode x.v else y.pulse, added := (y.added + 1) % 2 ^ 32 }
    else y
  else { i with invalid := (i.invalid + 1) % 2 ^ 32, run := i.run + 1 }

/-! ### Live quantities (R194 to R196, R207) -/

/-- Where a quantity goes in `NRG_LIVEn_k`, by code and phase. -/
def liveIndex (qty phase : Nat) : Option (Fin 16) :=
  match qty, phase with
  | 1, 0 => some 0 | 2, 0 => some 1 | 3, 0 => some 2 | 4, 0 => some 3
  | 1, 1 => some 4 | 1, 2 => some 5 | 1, 3 => some 6
  | 2, 1 => some 7 | 2, 2 => some 8 | 2, 3 => some 9
  | 3, 1 => some 10 | 3, 2 => some 11 | 3, 3 => some 12
  | 5, 0 => some 13
  | _, _ => none

/-- One frame of one bound quantity. -/
def LiveState.add (l : LiveState) (k : Fin 16) (x : Sample) : LiveState :=
  if x.ok then
    { l with sum := upd l.sum k (· + x.v), sumSq := upd l.sumSq k (· + x.v * x.v), good := upd l.good k (· + 1),
             peakMw := if k = 2 then max l.peakMw (x.v.natAbs / 65536) else l.peakMw }
  else l

/-- R207: a positive-going crossing of a phase between the last sample and this one: its time in 1/256 frame. -/
def crossTime (last now : Int) (frame : Nat) : Option Nat :=
  if last < 0 ∧ 0 ≤ now then some (256 * frame + (rdiv (256 * (-last)) (now - last).natAbs).natAbs - 256) else none

/-- A crossing between the kept sample and a VALID one (R196, R207). -/
def crossOf (last : Int) (x : Sample) (frame : Nat) : Option Nat := if x.ok then crossTime last x.v frame else none

/-- The sample that the next frame's crossing starts from. -/
def keptV (x : Sample) : Int := if x.ok then x.v else 0

end Sys2Proof.Machine
end

