-- ==== Sys2Proof/Machine/GrateCmds.lean ====
section
/-!
DEFINITION. The Grate's frame (R126 to R139, R148, R171, R172, R194 to R208) and the events of its input conditioners and
vote groups.
-/

namespace Sys2Proof.Machine

/-! ### Plan start (R148, R159, R169) -/

/-- The cells of a plan that starts: zero state, conditioners in use not yet VALID. Integrator fractions are kept by the
caller. -/
def Grate.startCells (g : Grate) : Grate :=
  { g with frames := 0, tickFrame := 0, settled := false, validRun := 0,
           ic := Vector.replicate 48 IcState.reset, fl := Vector.replicate 128 FlState.reset,
           ma := Vector.replicate 96 MaState.reset, tc := Vector.replicate 48 TcState.reset,
           restart := Vector.replicate 56 0, integ := Vector.replicate 32 InState.reset, sq := Vector.replicate 16 SqState.reset,
           vote := Vector.replicate 32 VoteState.reset }

/-- PLL_LOCKED is for the power family to keep; the clocks run only then (R159). -/
def mclkRuns (s : State) (locked : Bool) (m : Fin 4) : Bool :=
  locked && (((s.grate.plan.map (fun p => p.ics.any (·.mclk == m.1))).getD false)
    || bitOf (s.useFld R.MET_MCLK_CFG F.MET_MCLK_CFG_FORCE []) m.1)

/-- The ILIM that a port's bridge draws against the budget: FG6 and FG7 share one bridge, which FG6 drives where it is on (A0-04). -/
def fgIlim (s : State) (n : Nat) (on6 : Bool) : Nat :=
  if n = 7 ∧ on6 then 0 else s.useFld R.MET_FG_CFGn F.MET_FG_CFGn_ILIM [n]

/-- R169: ports with MODE 1 or 2 switch on in ascending order while the sum of ILIM stays within 72 mA. -/
def fgStart (s : State) : List (Fin 8) → Nat → Vector FgPort 8 → Vector FgPort 8
  | [], _, v => v
  | n :: ns, sum, v =>
    if s.useFld R.MET_FG_CFGn F.MET_FG_CFGn_MODE [n.1] = 0 then fgStart s ns sum (v.set n FgPort.reset)
    else
      let il := fgIlim s n.1 (v[6]).on
      if sum + il ≤ 72 then fgStart s ns (sum + il) (v.set n { FgPort.reset with on := true })
      else fgStart s ns sum (v.set n { FgPort.reset with budget := true })

/-- A plan start takes up the S-class sensing values, drives the clocks and switches the FG ports on (R159, R169, R170). -/
def State.startSensing (s : State) (locked : Bool) : State :=
  let s1 := s.takeUp .s (inBlock 5)
  s1.onSens (fun x => { x with mclkOn := Vector.ofFn (mclkRuns s1 locked), padFault := Vector.replicate 4 false,
                               fg := fgStart s1 (idx 8) 0 x.fg,
                               track := x.track.map (fun t => { t with window := none }) })

/-! ### VALID of the input conditioners (R136, R163, R171, R172) -/

/-- The pull of an MDAT pad (R163): none where the plan does not name the channel, else up (true) or down. -/
def State.mdatPull (s : State) (n : IcNo) : Option Bool :=
  ((s.grate.plan.map (·.ics)).getD []).findSome? (fun r => if r.index = n.1 then some (r.format == 3) else none)

/-- A conditioner of a plan has lost VALID: the break is kept for the next read of `GRT_IC_VALID`, and a loss on a metrological channel is
logged. -/
def State.icLoss (s : State) (p : Plan) (n : Fin 48) : State :=
  let s1 := s.latch R.GRT_IC_VALID [] (2 ^ n.1)
  if p.metroChannel n.1 then s1.logEv .sensorLost n.1 7 0 n.1 0 else s1

/-- An input conditioner in use loses VALID at once: its MCLK has stopped, or its pad has failed (R136, R160). -/
def State.loseIc (s : State) (n : Fin 48) : State :=
  match s.grate.plan with
  | none => s
  | some p =>
    if p.ics.any (·.index == n.1) ∧ (s.grate.ic[n]).valid then (s.onGrate (fun g => { g with ic := upd g.ic n IcState.lose })).icLoss p n else s

/-- The flags that a steady line has shown, kept for the next read of `MET_CHSTATn` (R171). -/
def State.keepSteady (s : State) (n : Fin 48) (l : List IcState) : State :=
  s.latch R.MET_CHSTATn [n.1] ((if l.any (·.noTrans) then F.MET_CHSTATn_NOTRANS.mask else 0)
    + (if l.any (·.highSide) then F.MET_CHSTATn_HIGHSIDE.mask else 0))

/-- IC_VALID_LOST (R136): no transition for 64 bit periods (`steady`), or the MCLK has stopped. A frame that shows the 64 periods has taken VALID
with its bits already. -/
def icLost (n : IcNo) (steady : Bool) (s : State) : State :=
  match (s.grate.plan.map (·.ics)).getD [] |>.find? (fun r => r.index == n.1) with
  | none => s
  | some r =>
    let c := s.grate.ic[n]
    if steady then
      if c.steady = 64 then
        let d := { c with noTrans := true, highSide := lossLevel r.format c.level }
        ((s.onGrate (fun g => { g with ic := g.ic.set n d })).keepSteady n [d]).loseIc n
      else s
    else if (s.sens.mclkOn[r.mclk]?).getD false then s else s.loseIc n

/-- IC_VALID_RESTORED (R136): 250 bit periods with transitions. -/
def icBack (n : IcNo) (s : State) : State :=
  match s.grate.plan with
  | some p =>
    if p.ics.any (·.index == n.1) ∧ (s.grate.ic[n]).valid = false ∧ (s.grate.ic[n]).good = 250 then
      s.onGrate (fun g => { g with ic := upd g.ic n IcState.restore })
    else s
  | none => s

/-! ### The frame (R129) -/

/-- The bits that one conditioner captures in a frame, after inversion, time order (R161); none while its MCLK stands still. -/
def frameBits (i : FrameIn) (mclk : Vector Bool 4) (r : IcRec) : List Bool :=
  if (mclk[r.mclk]?).getD false then
    let w := (i.bits[r.index]?.getD 0).toNat
    (List.range 250).map (fun k => bitOf w k != r.invert)
  else []

/-- A stretch of a bitstream as its consumers see it: each bit with the VALID flag beside it (R128, R135). -/
abbrev BitRun := List (Bool × Bool)

/-- The bitstream of a conditioner over a frame, from its state before. -/
def icStream (p : Plan) (g : Grate) (bits : IcRec → List Bool) (before : Vector IcState 48) (r : IcRec) : BitRun :=
  let blank := blanked p g r.index
  (bits r).zip ((IcState.run r.format (before[r.index]?.getD IcState.reset) (bits r)).map (fun c => c.valid && !blank))

/-- R133: a window trip cell over the bits of its conditioner. -/
def windowRun (r : TcRec) : BitRun → List Bool → TcState → TcState
  | [], _, t => t
  | b :: bs, w, t =>
    let w1 := (b.1 :: w).take 19
    windowRun r bs w1 (t.eval r ⟨(windowSum w1 : Nat), b.2⟩)

/-- A fast-path filter over the bits of its conditioner, with the sample trip cells that it feeds; `blank` blanks its output. -/
def fastRun (k : Nat) (tcs : List TcRec) (blank : Bool) : BitRun → FlState → Vector TcState 48 → FlState × Vector TcState 48
  | [], f, tc => (f, tc)
  | b :: bs, f, tc =>
    let f1 := f.bit k b.1
    if f1.phase < 16 then fastRun k tcs blank bs f1 tc
    else
      let f2 := f1.latch 16 k b.2
      let tc2 := tcs.foldl (fun v r => if h : r.index < 48 then v.set r.index ((v[r.index]).eval r ⟨f2.out, f2.valid && !blank⟩) else v) tc
      fastRun k tcs blank bs f2 tc2

/-- A conditioner takes the bits of a frame (R171): OVERRANGE from its ones, the flags of a steady line, a loss of VALID. -/
def State.icBits (s : State) (p : Plan) (n : Fin 48) (format : Nat) (bits : List Bool) : State :=
  let c0 := { s.grate.ic[n] with ones := 0, rises := 0 }
  let l := IcState.run format c0 bits
  let c := l.getLastD c0
  let isOver := 245 ≤ c.ones || c.ones ≤ 5
  let s1 := (s.onGrate (fun g => { g with ic := g.ic.set n { c with overrange := isOver } })).keepSteady n l
  let s2 := if ((c0 :: l).zip l).any (fun q => q.1.valid && !q.2.valid) then s1.icLoss p n else s1
  if isOver then
    let s3 := s2.latch R.MET_CHSTATn [n.1] F.MET_CHSTATn_OVERRANGE.mask
    if p.metroChannel n.1 then s3.span (p.outputsOf n.1) 2 else s3
  else s2

/-- Step 1 of a frame: every conditioner in use takes its bits. -/
def frameIcs (p : Plan) (bits : IcRec → List Bool) (s : State) : State :=
  p.ics.foldl (fun s r => if h : r.index < 48 ∧ bits r ≠ [] then s.icBits p ⟨r.index, h.1⟩ r.format (bits r) else s) s

/-- Step 2: sinc filters, window and fast-path trip cells, over the bits. A window trip cell slides on from the bits that its
conditioner held `before` the frame. -/
def frameFast (p : Plan) (bits : IcRec → List Bool) (before : Vector IcState 48) (g : Grate) : Grate :=
  let stream := icStream p g bits before
  let g1 := p.fls.foldl (fun g f =>
    if h : f.index < 128 then
      match p.ics.find? (fun r => r.index == f.source) with
      | some r =>
        if f.mode = 0 then
          let st := (stream r).foldl (fun st b => st.bit f.order b.1) g.fl[f.index]
          { g with fl := g.fl.set f.index (st.latch 250 f.order (((stream r).getLast?.map (·.2)).getD false)) }
        else if f.mode = 1 then
          let x := fastRun f.order (p.tcs.filter (fun t => t.sample && t.source == f.index + 0x030)) (blanked p g (f.index + 0x030)) (stream r)
            g.fl[f.index] g.tc
          { g with fl := g.fl.set f.index x.1, tc := x.2 }
        else g
      | none => g
    else g) { g with tc := g.tc.map (fun t => { t with rises := 0 }) }
  p.tcs.foldl (fun g t =>
    if h : t.index < 48 ∧ t.sample = false then
      match p.ics.find? (fun r => r.index == t.source) with
      | some r =>
        let w := ((before[t.source]?).map (·.window)).getD []
        { g with tc := g.tc.set t.index (windowRun t (stream r) w g.tc[t.index]) h.1 }
      | none => g
    else g) g1

/-- Step 3: FIR filters latch from frame-rate samples, in index order (R131, R148). -/
def frameFir (p : Plan) (sens : Sensing) (g : Grate) : Grate :=
  p.fls.foldl (fun g f =>
    if h : f.index < 128 ∧ f.mode = 2 then
      let x := srcOf p g sens f.source
      let st := g.fl[f.index]
      let line := (x.v :: st.line).take f.taps
      let sum := ((line.zip ((p.coeffs.drop f.coeff).take f.taps)).map (fun q => q.1 * q.2)).sum
      let n := if x.ok then min f.taps (st.settled + 1) else 0
      { g with fl := g.fl.set f.index { st with line := line, settled := n, valid := x.ok && n == f.taps, out := firOut sum } h.1 }
    else g) g

/-- Step 4: arithmetic cells level by level, then the sample trip cells: on a fluxgate stream once for each sample that arrives (R167) and while
the stream is not VALID, on any other frame-rate source once. -/
def frameArith (p : Plan) (sens : Sensing) (arrives : Nat → Bool) (g : Grate) : Grate :=
  let g1 := p.levels.foldl (fun g l => l.foldl (evalMa p sens) g) g
  p.tcs.foldl (fun g t =>
    if h : t.index < 48 ∧ t.sample = true ∧ !(p.fls.any (fun f => f.mode == 1 && f.index + 0x030 == t.source)) then
      let x := srcOf p g sens t.source
      if 0x170 ≤ t.source ∧ t.source < 0x178 ∧ x.ok ∧ arrives (t.source - 0x170) = false then g
      else { g with tc := g.tc.set t.index ((g.tc[t.index]).eval t x) h.1 }
    else g) g1

/-- Step 5: vote states of the frame (R137, R138). -/
def VoteState.frame (v : VoteState) (ms : List Sample) (o : VoteOut) : VoteState :=
  { v with state := o.state, membersValid := bitsToNat (ms.map (·.ok)), setAside := o.setAside, disagreeNow := o.disagree,
           runBad := if o.disagree then v.runBad + 1 else 0, runGood := if o.disagree then 0 else v.runGood + 1,
           total := if o.disagree then satAdd 32 v.total 1 else v.total }

/-- Vote groups of the plan; a disagreement is kept for the next read of `GRT_VOTEn`. -/
def frameVotes (p : Plan) (s : State) : State :=
  p.votes.foldl (fun s v =>
    if h : v.group < 32 then
      let ms := v.members.map (srcOf p s.grate s.sens)
      let o := voteOf v.tolerance ms
      let s1 := s.onGrate (fun g => { g with vote := g.vote.set v.group ((g.vote[v.group]).frame ms o) })
      if o.disagree then s1.latch R.GRT_VOTEn [v.group] F.GRT_VOTEn_DISAGREE.mask else s1
    else s) s

/-- Pulses that an accumulator is due for a threshold, and what stays (R199). -/
def pulsesDue (acc : Int) (t : Nat) : Nat := acc.toNat / (t * 65536)

/-- `n` pulses join a queue of at most 65,535; the rest are lost (R201). -/
def PulseOut.enqueue (q : PulseOut) (n : Nat) : PulseOut :=
  { q with queued := min 65535 (q.queued + n), lost := satAdd 15 q.lost (q.queued + n - min 65535 (q.queued + n)) }

/-- A run of frames without VALID input on an integrator bound in ENERGY ends: one log entry with its length and the last VALID input in mW,
signed (R206). -/
def State.endRun (s : State) (index : Nat) (i : InState) : State :=
  if 0 < i.run then s.logEv .invalidRun index 7 0 i.run (unsigned 64 i.lastMw) else s

/-- Step 6: integrators at cycle 4,800, with their pulses (R134, R148, R199, R201, R206). -/
def frameInteg (p : Plan) (s : State) : State :=
  p.ins.foldl (fun s r =>
    if h : r.index < 32 then
      let x := srcOf p s.grate s.sens r.source
      let en : Option EnRec := p.energies.find? (fun e => e.integ == r.index)
      let pulse := (en.map (·.pulse)).getD false
      let i0 := s.grate.integ[r.index]
      let i1 := i0.frame r.mode x i0.settled pulse
      let s0 := if en.isSome && !x.ok then s.span (2 ^ (en.map (·.output)).getD 0) 4 else s
      let s1 := if en.isSome && x.ok then s0.endRun r.index i0 else s0
      let t := (en.map (·.threshold)).getD 1
      let due := if pulse then pulsesDue i1.pulse t else 0
      let s2 := s1.onGrate (fun g => { g with integ := g.integ.set r.index { i1 with pulse := i1.pulse - due * (t * 65536) } })
      if h : 0 < due ∧ (en.map (·.output)).getD 0 < 6 then
        let o : Fin 6 := ⟨(en.map (·.output)).getD 0, h.2⟩
        let q := (s2.nrg.pulses[o]).enqueue due
        let s3 := s2.onNrg (fun e => { e with pulses := e.pulses.set o q })
        if 65535 < (s2.nrg.pulses[o]).queued + due then s3.latch R.NRG_PULSE_STATn [o.1] F.NRG_PULSE_STATn_OVERRUN.mask else s3
      else s2
    else s) s

/-- Step 7: pulse pins count their frames (R200). -/
def PulseOut.frame (q : PulseOut) : PulseOut :=
  if q.active then { q with left := q.left - 1 } else { q with gap := min 480 (q.gap + 1) }

/-- R208: the judgement of an L1 crossing at time `t1`: 1 correct, 2 reversed, 3 undetermined. -/
def judgeSeq (period t1 t2 t3 : Nat) : Nat :=
  let near := fun (d : Nat) => decide (100 * period ≤ 360 * d ∧ 360 * d ≤ 140 * period)
  if 0 < period ∧ near (t2 - t1) ∧ near (t3 - t2) ∧ t1 < t2 ∧ t2 < t3 then 1
  else if 0 < period ∧ near (t3 - t1) ∧ near (t2 - t3) ∧ t1 < t3 ∧ t3 < t2 then 2
  else 3

/-- Step 8: bound quantities join their windows, and the phase voltages their crossing times (R194, R207, R208). Only VALID samples make a
crossing (R196): after one that is not VALID the sample kept is 0. No crossing is judged before the first window has been published. -/
def frameLive (p : Plan) (s : State) : State :=
  let s1 := p.qtys.foldl (fun s q =>
    match liveIndex q.qty q.phase with
    | some k =>
      if h : q.output < 6 then
        let x := srcOf p s.grate s.sens q.source
        s.onNrg (fun e => { e with live := e.live.set q.output ((e.live[q.output]).add k x) })
      else s
    | none => s) s
  (idx 6).foldl (fun (s : State) (o : Fin 6) =>
    let v := fun (ph : Nat) => (p.qtys.find? (fun q => q.output == o.1 && q.qty == 1 && q.phase == ph)).map (fun q => srcOf p s.grate s.sens q.source)
    match v 1, v 2, v 3 with
    | some a, some b, some c =>
      let l := s.nrg.live[o]
      let t := s.grate.frames
      let ca := crossOf l.lastV[0] a t
      let cr : Vector Nat 3 := #v[ca.getD l.cross[0], (crossOf l.lastV[1] b t).getD l.cross[1], (crossOf l.lastV[2] c t).getD l.cross[2]]
      let base := { l with lastV := #v[keptV a, keptV b, keptV c], cross := cr }
      let nl := match ca with
        | none => base
        | some t1 =>
          let old := l.cross[0]
          let j := if l.phaseLoss ∨ l.published = 0 then 0 else judgeSeq (t1 - old) old (cr[1]) (cr[2])
          { base with prevL1 := old, firstL1 := if l.nL1 = 0 then t1 else l.firstL1, nL1 := l.nL1 + 1,
                      seq := j, seqSince := if j = l.seq then l.seqSince else s.clock.tb }
      let s1 := s.onNrg (fun e => { e with live := e.live.set o nl })
      if ca.isSome ∧ nl.seq = 2 then (s1.latch R.NRG_STATn [o.1] F.NRG_STATn_SEEN_REVERSED.mask).span (2 ^ o.1) 6 else s1
    | _, _, _ => s) s1

/-- Step 9: sequence cells step at cycle 5,000, by frame or trigger here and by tick at the hand-off (R135). -/
def SqState.advance (q : SqState) (r : SqRec) : SqState :=
  match r.steps[q.step]? with
  | none => q
  | some st => if q.left + 1 < st.dwell then { q with left := q.left + 1 } else { q with step := st.next, left := 0 }

/-- Rising edges of a trigger source in a frame: bit by bit for a conditioner, evaluation by evaluation for a trip cell, else by the frame. -/
def trigRises (g : Grate) (sens : Sensing) (id : Nat) (last : Bool) : Nat :=
  if id < 0x030 then ((g.ic[id]?).map (·.rises)).getD 0
  else if 0x110 ≤ id ∧ id < 0x140 then ((g.tc[id - 0x110]?).map (·.rises)).getD 0
  else b2n ((crossbar g sens id).v != 0 && !last)

/-- The sequence cells whose step events are due: one a frame, one a tick, or one for each rising edge of the trigger. -/
def stepSqs (p : Plan) (sens : Sensing) (tick : Bool) (g : Grate) : Grate :=
  p.sqs.foldl (fun g r =>
    if h : r.index < 16 then
      let q := g.sq[r.index]
      let n := if r.event = 2 then (if tick then 0 else trigRises g sens r.trigger q.lastTrig) else b2n ((r.event == 1) == tick)
      let q1 := (List.range n).foldl (fun q _ => q.advance r) q
      { g with sq := g.sq.set r.index { q1 with lastTrig := if tick then q.lastTrig else (crossbar g sens r.trigger).v != 0 } }
    else g) g

/-- A source that a step blanks is not VALID: the break is kept for the next read of `GRT_IC_VALID`. -/
def blankLatch (p : Plan) (s : State) : State :=
  s.latch R.GRT_IC_VALID [] (bitmap 56 (fun n => (decide (48 ≤ n.1) || p.ics.any (·.index == n.1)) && blanked p s.grate (if n.1 < 48 then n.1 else 0x170 + (n.1 - 48))))

/-- R172: the frames for which a channel in use has not been VALID. -/
def countLosses (p : Plan) (s : State) : State :=
  (s.onGrate (fun g => { g with ic := updAll g.ic (fun n c =>
    if p.ics.any (·.index == n.1) && !c.valid then { c with lostFrames := c.lostFrames + 1 } else { c with lostFrames := 0 }) })).onSens
    (fun x => { x with fg := x.fg.map (fun f => if (f.on || f.offUntil.isSome) && !f.valid then { f with lostFrames := f.lostFrames + 1 } else { f with lostFrames := 0 }) })

/-- R183: an offset-tracking window of 48,000 frames takes one more frame of x, or is discarded when x is not VALID. -/
def trackFrames (p : Plan) (s : State) : State :=
  s.onSens (fun x => { x with track := updAll x.track (fun c t =>
    match t.window, p.mas.find? (fun m => m.op == 5 && m.calSlot == c.1) with
    | some (n, sum), some m =>
      let a := srcOf p s.grate s.sens m.a
      if 48000 ≤ n then t else { t with window := if a.ok then some (n + 1, sum + a.v) else none }
    | _, _ => t) })

/-- R148: frames with every metrological input VALID in a row. -/
def metroValid (p : Plan) (s : State) : Bool :=
  p.ics.all (fun r => !p.metroChannel r.index || (srcOf p s.grate s.sens r.index).ok)
  && (idx 8).all (fun n => !p.metroSources.contains (0x170 + n.1) || (srcOf p s.grate s.sens (0x170 + n.1)).ok)

/-- T_HALF of a monitor in TB ticks (R354). -/
def State.halfTicks (s : State) (n : Nat) : Nat := s.fld R.FG_ISOLIMn F.FG_ISOLIMn_T_HALF [n] * 25000

/-- One lane frame of the two bridge sources of a monitor, in mV: it counts within the last quarter of a half (R354). SRC_UM reads the negation
of U-. -/
def IsoState.lane (i : IsoState) (up um : Sample) (half tb : Nat) : IsoState :=
  if 4 * i.halfTb + 3 * half ≤ 4 * tb ∧ tb < i.halfTb + half then
    { i with sumUp := i.sumUp + up.v / 65536, sumUm := i.sumUm - um.v / 65536, frames := i.frames + 1, lapse := i.lapse || !(up.ok && um.ok) }
  else i

/-- The safety lane carries the frame's words to the Fireguard (R347): the lane's run of frames, the bridge sources of the insulation monitors
(R354), and for DC outputs whose monitor lost its sensor, since when both bridge sources have been VALID again (R351). -/
def laneFrame (p : Plan) (s : State) : State :=
  s.onGuard (fun g =>
    { g with laneTb := s.clock.tb, laneRun := min 48000 (g.laneRun + 1),
             iso := updAll g.iso (fun n i =>
               let src := fun f => srcOf p s.grate s.sens (s.fld R.FG_ISOCFGn f [n.1])
               i.lane (src F.FG_ISOCFGn_SRC_UP) (src F.FG_ISOCFGn_SRC_UM) (s.halfTicks n.1) s.clock.tb),
             outs := updAll g.outs (fun o x =>
               let ok := fun f => (srcOf p s.grate s.sens (s.fld R.FG_ISOCFGn f [o.1])).ok
               if x.sensorBad && decide (o.1 < 4) then
                 if ok F.FG_ISOCFGn_SRC_UP && ok F.FG_ISOCFGn_SRC_UM then { x with sensorOkTb := some (x.sensorOkTb.getD s.clock.tb) }
                 else { x with sensorOkTb := none }
               else x) })

/-- R173 condition 1: a running MODE 2 port reads |x| at or above MAG_TH. -/
def magRead (s : State) (n : Fin 8) (x : Int) : Bool :=
  s.useFld R.MET_FG_CFGn F.MET_FG_CFGn_MODE [n.1] == 2 &&
    decide (s.useFld R.MET_FG_CFGn F.MET_FG_CFGn_MAG_TH [n.1] * 2 ^ 15 ≤ x.natAbs)

/-- R173 conditions 1 and 2, as they stand: a field for 1.000 s, or SAT on a metrological MODE 1 port for 100 ms. -/
def State.magNow (s : State) (n : Fin 8) : Bool :=
  let f := s.sens.fg[n]
  let metro := ((s.grate.plan.map (fun p => p.metroChannel (48 + n.1))).getD false)
  let mode := s.useFld R.MET_FG_CFGn F.MET_FG_CFGn_MODE [n.1]
  f.on && ((mode == 2 && (f.magSince.map (fun t => decide (t + tbSecond ≤ s.clock.tb))).getD false)
    || (mode == 1 && metro && f.sat && (f.satSince.map (fun t => decide (t + 2500000 ≤ s.clock.tb))).getD false))

/-- R174: while an episode runs, the time at which a condition was last true is kept up. -/
def State.magKeep (s : State) : State :=
  s.onSens (fun x => { x with magLastTb := if (idx 8).any s.magNow then s.clock.tb else x.magLastTb })

/-- What a running port drives (R166): the half-period in CLK_MOD periods, the current limit in mA, and the threshold in sixteenths of it. -/
def State.fgDrive (s : State) (n : Fin 8) : Option (Nat × Nat × Nat) :=
  let g := fun f => s.useFld R.MET_FG_CFGn f [n.1]
  if (s.sens.fg[n]).on then some (g F.MET_FG_CFGn_DIV, g F.MET_FG_CFGn_ILIM, g F.MET_FG_CFGn_THRESH) else none

/-- R166: x = (t- - t+) / (t- + t+) in Q1.31, to nearest (log entry 116); no count exceeds the half-period of 8 x DIV. The spec states no result for
0 / 0 and for x = 1: it is free. -/
def fgSample (div : Nat) (t : FgPeriod) : Int :=
  let a := min (8 * div) t.plus
  let b := min (8 * div) t.minus
  if b = 0 ∨ 0 < a then rdiv (((b : Int) - a) * 2 ^ 31) (a + b) else signed 32 (Config.freeOf "FG.X" [a, b] % 2 ^ 32)

/-- One sample arrives at a port (R167, R168, R173): valid periods in a row, and since when a MODE 2 port reads a field. -/
def FgPort.arrive (f : FgPort) (x : Int) (mag : Bool) (tb : Nat) : FgPort :=
  { f with sample := x, magSince := if mag then some (f.magSince.getD tb) else none,
           goodPeriods := if 10 * x.natAbs < 9 * 2 ^ 31 then min 4 (f.goodPeriods + 1) else 0 }

/-- The fluxgate samples that arrive in a frame. -/
def fgFrame (i : FrameIn) (s : State) : State :=
  (s.onSens (fun x => { x with fg := updAll x.fg (fun n f => match i.fg[n], s.fgDrive n with
    | some t, some (div, _, _) => f.arrive (fgSample div t) (magRead s n (fgSample div t)) s.clock.tb
    | _, _ => f) })).magKeep

/-- The Fireguard keeps the samples of the port that an outlet's residual-current detection uses, as they arrive (R346, R361). -/
def RcdState.feed (r : RcdState) (x : Option Int) (tb : Nat) : RcdState :=
  { r with win := (tb, x) :: r.win.filter (fun e => decide (tb < e.1 + 1250000)) }

/-- The residual-current streams of a frame. -/
def rcdFrame (i : FrameIn) (s : State) : State :=
  s.onGuard (fun g => { g with rcd := updAll g.rcd (fun k r =>
    let n : Fin 8 := Fin.ofNat 8 (s.fld R.FG_RCDCFGk F.FG_RCDCFGk_PORT [k.1])
    let f := s.sens.fg[n]
    if (i.fg[n]).isSome then r.feed (if f.on && f.valid then some f.sample else none) s.clock.tb else r) })

/-- R182: the one output whose current quantity the CAL cells of a slot feed, when there is exactly one. -/
def Plan.trackOutput (p : Plan) (slot : Nat) : Option (Fin 6) :=
  let cells := (p.mas.filter (fun m => m.op == 5 && m.calSlot == slot)).map (fun m => m.index + 0x0B0)
  match (idx 6).filter (fun o => p.qtys.any (fun q => q.output == o.1 && q.qty == 2 &&
      cells.any (fun c => (closure p 512 [q.source]).contains c))) with
  | [o] => some o
  | _ => none

/-- R183: a gate that closes discards the windows of the slots that measure its output. -/
def State.dropTracks (s : State) (o : Fin 6) : State :=
  match s.grate.plan with
  | none => s
  | some p => s.onSens (fun x => { x with track := updAll x.track (fun c t =>
      if p.trackOutput c.1 = some o then { t with window := none } else t) })

/-! ### CAL_MEASURE over the frames (R181) -/

/-- A record of CAL_MEASURE (R181): mean and deviation in Q1.63, minimum and maximum, counts. -/
def Measure.words (m : Measure) : List W64 :=
  [w64 (unsigned 64 (rdiv (m.sum * 2 ^ 32) (max 1 m.n))), w64 (rootRatio ((m.n * m.sq - m.sum * m.sum) * 2 ^ 64).toNat (max 1 m.n * max 1 m.n)),
   w64 (unsigned 32 m.lo + unsigned 32 m.hi * 2 ^ 32), w64 (m.n % 2 ^ 32 + m.skipped % 2 ^ 32 * 2 ^ 32)]

/-- One frame of x. -/
def Measure.take (m : Measure) (x : Sample) : Measure :=
  if x.ok then
    { m with n := m.n + 1, sum := m.sum + x.v, sq := m.sq + x.v * x.v, lo := if m.n = 0 then x.v else min m.lo x.v, hi := if m.n = 0 then x.v else max m.hi x.v }
  else { m with skipped := m.skipped + 1 }

/-- The run ends. -/
def State.measureOff (s : State) : State := s.onSens (fun x => { x with measure := none })

/-- One frame of the CAL_MEASURE that runs: a partial record at every 48,000 VALID frames, the final one after the last, 0x41 when more than N are
skipped, 0x42 when no CAL cell names the slot any more. A job that was cancelled or ended has no run. -/
def measureFrame (s : State) : State :=
  match s.sens.measure with
  | none => s
  | some m =>
    if (s.job m.job).code ≠ 0x49 ∨ (s.job m.job).state ≠ .running then s.measureOff
    else match s.grate.plan.bind (fun p => (p.mas.find? (fun r => r.op == 5 && r.calSlot == m.slot)).map (fun r => srcOf p s.grate s.sens r.a)) with
      | none => (s.finishJob m.job 0x42).measureOff
      | some x =>
        let m1 := m.take x
        let s1 := if x.ok ∧ m1.n % 48000 = 0 then s.addRecord m.job 0x0049 m1.words else s
        if m1.want ≤ m1.n then ((s1.addRecord m.job 0x0049 m1.words).finishJob m.job 0).measureOff
        else if m1.want < m1.skipped then (s1.finishJob m.job 0x41).measureOff
        else s1.onSens (fun y => { y with measure := some m1 })

/-- One frame of a running plan, in the order of R129. F-class values of every block but billing are taken up at cycle 0. -/
def frameStep (p : Plan) (i : FrameIn) (s : State) : State :=
  let s0 := rcdFrame i (fgFrame i (s.takeUp .f (fun a => !inBlock 7 a)))
  let bits := frameBits i s0.sens.mclkOn
  let arrives := fun (n : Nat) => (i.fg[n]?.getD none).isSome
  let s1 := frameIcs p bits s0
  let s2 := s1.onGrate (fun g => frameArith p s1.sens arrives (frameFir p s1.sens (frameFast p bits s0.grate.ic g)))
  let s3 := frameLive p (frameVotes p (frameInteg p s2))
  let s4 := s3.onNrg (fun e => { e with pulses := e.pulses.map PulseOut.frame })
  let s5 := laneFrame p (measureFrame (trackFrames p (countLosses p (blankLatch p (s4.onGrate (stepSqs p s4.sens false))))))
  let ok := metroValid p s5
  let s6 := s5.onGrate (fun g => { g with frames := g.frames + 1, tickFrame := g.tickFrame + 1, validRun := if ok then g.validRun + 1 else 0,
                                          integ := g.integ.map (fun x => { x with fresh := if ok then x.fresh + 1 else 0 }) })
  (s6.bump 4 1).bump 5 (250 * p.ics.length)

/-- GRATE_FRAME (R129). While no plan runs, F-class values alone are taken up, and a CAL_MEASURE has lost its cell; frame 480 of a tick waits for
the hand-off. -/
def grateFrame (i : FrameIn) (s : State) : State :=
  match s.grate.plan with
  | none => measureFrame (s.takeUp .f (fun a => !inBlock 7 a))
  | some p => if s.grate.tickFrame < 480 then frameStep p i s else s

/-! ### Vote groups (R138) -/

/-- The output whose records a group's disagreement makes uncertain is found through its VOTE cell. -/
def groupOutputs (p : Plan) (g : Nat) : Nat :=
  (p.mas.filter (fun m => m.op == 9 && m.p == g)).foldl (fun o m => o ||| p.outputsOf (m.index + 0x0B0)) 0

/-- VOTE_PERSISTENT_DISAGREE (R138): 480 consecutive frames of a group of two. -/
def voteBad (g : GroupNo) (s : State) : State :=
  match s.grate.plan with
  | some p =>
    let v := s.grate.vote[g]
    if p.votes.any (fun r => r.group == g.1 && r.members.length == 2) ∧ 480 ≤ v.runBad ∧ v.persistent = false then
      (s.onGrate (fun x => { x with vote := upd x.vote g (fun v => { v with persistent := true }) })).logEv .voteDisagree g.1 7 0 g.1 0
    else s
  | none => s

/-- VOTE_DISAGREE_CLEAR (R138): 480 consecutive frames without. -/
def voteGood (g : GroupNo) (s : State) : State :=
  let v := s.grate.vote[g]
  if v.persistent ∧ 480 ≤ v.runGood then
    s.onGrate (fun x => { x with vote := upd x.vote g (fun v => { v with persistent := false }) })
  else s

/-- R138, R177: outputs whose measurement is uncertain. -/
def State.uncertainOutputs (s : State) : Nat :=
  match s.grate.plan with
  | none => 0
  | some p =>
    (List.range 32).foldl (fun o g => if ((s.grate.vote[g]?).map (·.persistent)).getD false then o ||| groupOutputs p g else o) 0
    ||| (p.mas.filter (fun m => m.op == 5 && ((s.grate.ma[m.index]?).map (·.stale)).getD false)).foldl
          (fun o m => o ||| p.outputsOf (m.index + 0x0B0)) 0

/-! ### The meanings -/

def execGrateFrame (i : FrameIn) (s : State) : Host.Outcome State Fault Refusal := .next (grateFrame i s)
def execIcValidLost (n : IcNo) (steady : Bool) (s : State) : Host.Outcome State Fault Refusal := .next (icLost n steady s)
def execIcValidRestored (n : IcNo) (s : State) : Host.Outcome State Fault Refusal := .next (icBack n s)
def execVotePersistentDisagree (g : GroupNo) (s : State) : Host.Outcome State Fault Refusal := .next (voteBad g s)
def execVoteDisagreeClear (g : GroupNo) (s : State) : Host.Outcome State Fault Refusal := .next (voteGood g s)

end Sys2Proof.Machine
end

