-- ==== Sys2Proof/Machine/SeqOps.lean ====
section
/-!
DEFINITION. Shared operations of the session sequencer (chapter 10): the contactor request and gate (R24, R25), the gate's
load-switch channels (R386, R391), entering a state with its pilot signal (R316), the start, the outcome and the end of a
session (R312 to R315), stops, FAULT, speculation (R320), cable-check verdicts (R321), and readiness (R35, R319).
-/

namespace Sys2Proof.Machine

/-- STATE of `SEQ_STATEn` (R316). -/
def OutState.code : OutState → Nat
  | .idle => 0 | .unavailable => 1 | .lock => 2 | .link => 3 | .specCheck => 4 | .specPrecharge => 5 | .specReady => 6
  | .check => 7 | .precharge => 8 | .ready => 9 | .charging => 10 | .paused => 11 | .stopping => 12 | .weldcheck => 13
  | .rollback => 14 | .unlock => 15 | .waitUnplug => 16 | .fault => 17

/-- Energised states are 4 to 14 (R317). -/
def OutState.energised (x : OutState) : Bool := 4 ≤ x.code && x.code ≤ 14

/-- Speculative states are 4 to 6. -/
def OutState.speculative (x : OutState) : Bool := 4 ≤ x.code && x.code ≤ 6

/-- The sequencer of an output. -/
def State.so (s : State) (o : Fin 6) : SeqOut := s.seqr.outs[o]

/-- Change the sequencer of an output. -/
def State.onSo (s : State) (o : Fin 6) (f : SeqOut → SeqOut) : State :=
  s.onSeqr (fun q => { q with outs := upd q.outs o f })

/-- The Fireguard's part of an output. -/
def State.go (s : State) (o : Fin 6) : GuardOut := s.guard.outs[o]

/-- Change the Fireguard's part of an output. -/
def State.onGo (s : State) (o : Fin 6) (f : GuardOut → GuardOut) : State :=
  s.onGuard (fun g => { g with outs := upd g.outs o f })

/-- Some HV_EN is raised. -/
def State.anyHv (s : State) : Bool := s.guard.outs.toList.any (·.hv)

/-! ### Load-switch channels -/

/-- MODE of a channel (R384). -/
def State.lsMode (s : State) (n : Nat) : Nat := s.useFld R.LSW_CFGn F.LSW_CFGn_MODE [n]

/-- OUTPUT of a channel. -/
def State.lsOutput (s : State) (n : Nat) : Nat := s.useFld R.LSW_CFGn F.LSW_CFGn_OUTPUT [n]

/-- Change a channel. -/
def State.onChan (s : State) (n : Fin 24) (f : LswChan → LswChan) : State :=
  s.onLsw (fun l => { l with chans := upd l.chans n f })

/-- The channel has latched off (R395). -/
def LswChan.latched (c : LswChan) : Bool := c.state == 4 || c.state == 5

/-- Turn a channel on or off unless it is latched, waits for a retry or VAUX is low. -/
def LswChan.switch (c : LswChan) (uv on : Bool) (pullin : Bool) : LswChan :=
  if c.latched then c
  else if on then
    if uv then { c with state := 6 }
    else if c.state = 3 ∨ c.gateHold then c
    else { c with state := if pullin then 2 else 1 }
  else { c with state := 0 }

/-- R386, R391: the CONTACTOR and HVGATE channels of an output follow its gate; PULLIN is taken up at each closing. -/
def State.gateChans (s : State) (o : Fin 6) (closed : Bool) : State :=
  (idx 24).foldl (fun (s : State) (n : Fin 24) =>
    let m := s.lsMode n.1
    if (m = 3 ∨ m = 4) ∧ s.lsOutput n.1 = o.1 then
      let s1 := if closed then s.takeField R.LSW_CFGn F.LSW_CFGn_PULLIN [n.1] else s
      let pull := m == 3 && s1.useFld R.LSW_CFGn F.LSW_CFGn_PULLIN [n.1] != 0
      s1.onChan n (fun c =>
        let c1 := if closed then { c with gateTb := s.clock.tb } else { c with gateHold := false }
        c1.switch s.lsw.uv closed pull)
    else s) s

/-! ### The contactor request and gate -/

/-- Set the gate of an output; its opening starts the 200 ms of R366, and its closing ends offset-tracking windows (R183). -/
def State.setGate (s : State) (o : Fin 6) (v : Bool) : State :=
  if (s.go o).gate = v then s
  else
    let s1 := if v then s.dropTracks o else s
    (s1.onGo o (fun g => { g with gate := v, openTb := if v then none else some s.clock.tb, gateTb := if v then g.gateTb else s.clock.tb })).gateChans o v

/-- R24, R25: the gate of an output is the AND of the request and HV_EN, but for a request that stood when HV_EN fell. -/
def State.regate (s : State) (o : Fin 6) : State :=
  let g := s.go o
  s.setGate o (g.hv && g.request && !g.needEdge)

/-- The Hearth's request for an output; a rising edge while HV_EN is true ends the wait that a fall of HV_EN began (R24, R25). -/
def State.request (s : State) (o : Fin 6) (v : Bool) : State :=
  (s.onGo o (fun g => { g with request := v, needEdge := g.needEdge && !(v && !g.request && g.hv) })).regate o

/-- HV_EN of an output changes in the power die: its fall while the Hearth requests the contactor opens the gate until a new rising edge of
the request, and its rise closes the gate of a request that has waited for it (R24, R25). -/
def State.setHv (s : State) (o : Fin 6) (v : Bool) : State :=
  (s.onGo o (fun g => { g with hv := v, needEdge := g.needEdge || (g.hv && !v && g.request) })).regate o

/-! ### Pilots -/

/-- The vehicle link of an output is digital: DC outputs, and AC outlets with PLC = 1 (R287). -/
def State.digital (s : State) (o : Fin 6) : Bool := isDc o || s.useFld R.VEH_PINCFGn F.VEH_PINCFGn_PLC [o.1] == 1

/-- R284: the duty in 0.1 % for a current limit in mA; none below 6 A. -/
def acDuty (ma : Nat) : Option Nat :=
  if ma < 6000 then none else if ma ≤ 51000 then some (ma / 60) else some (min ma 80000 / 250 + 640)

/-- The AC current limit in mA that an allocation gives (R334). -/
def State.acLimit (s : State) (o : Fin 6) : Nat := (s.so o).alloc.toNat / max 1 (s.outRec o).volt

/-- The pilot signal of a state (R316). -/
def State.pilotOf (s : State) (o : Fin 6) : OutState → PilotDrive
  | .idle | .unavailable | .lock => .steady
  | .link => if s.digital o then .pwm 50 else .steady
  | .specCheck | .specPrecharge | .specReady | .check | .precharge | .rollback => .pwm 50
  | .ready | .charging | .paused =>
    if isDc o then .pwm 50 else match acDuty (s.acLimit o) with | some d => .pwm d | none => .steady
  | .stopping | .weldcheck => if isDc o then .pwm 50 else .steady
  | .unlock | .waitUnplug => if (s.so o).fiveUntil.isSome then .pwm 50 else .steady
  | .fault => .minus12

/-- Change a pilot. -/
def State.onPilot (s : State) (o : Fin 6) (f : Pilot → Pilot) : State :=
  s.onVeh (fun v => { v with pilots := upd v.pilots o f })

/-- The signal on a pilot's line now: a new duty or level takes effect at the start of the next period of 25,000 ticks (R280). The periods
start at TB multiples of 25,000 (DESIGN CHOICE, log entry 123). -/
def Pilot.line (p : Pilot) (tb : Nat) : PilotDrive := if tb < p.fromTb then p.was else p.drive

/-- Choose a pilot's signal. -/
def Pilot.choose (p : Pilot) (d : PilotDrive) (tb : Nat) : Pilot :=
  if p.drive = d then p else { p with was := p.line tb, drive := d, fromTb := (tb / 25000 + 1) * 25000 }

/-- The sequencer, or the safe-off, chooses the signal of a pilot. -/
def State.drivePilot (s : State) (o : Fin 6) (d : PilotDrive) : State := s.onPilot o (fun p => p.choose d s.clock.tb)

/-- The insulation monitor of a DC output is configured (R350). -/
def State.isoConfigured (s : State) (n : Fin 4) : Bool :=
  let g := fun f => s.fld R.FG_ISOCFGn f [n.1]
  g F.FG_ISOCFGn_SRC_UP != 0x1FF && g F.FG_ISOCFGn_SRC_UM != 0x1FF && g F.FG_ISOCFGn_RB_KOHM != 0
  && g F.FG_ISOCFGn_LS_POS != 0x1F && g F.FG_ISOCFGn_LS_NEG != 0x1F
  && s.lsMode (g F.FG_ISOCFGn_LS_POS) == 7 && s.lsMode (g F.FG_ISOCFGn_LS_NEG) == 7

/-- The bridge's switch channels follow the half that runs: R_B to DC+ in half a, to DC− in half b (R354). -/
def State.isoDrive (s : State) (n : Fin 4) (halfB on : Bool) : State :=
  let p := s.fld R.FG_ISOCFGn F.FG_ISOCFGn_LS_POS [n.1]
  let m := s.fld R.FG_ISOCFGn F.FG_ISOCFGn_LS_NEG [n.1]
  (idx 24).foldl (fun (s : State) (c : Fin 24) =>
    if s.lsMode c.1 = 7 ∧ (c.1 = p ∨ c.1 = m) then
      let v := on && (if c.1 = p then !halfB else halfB)
      s.onChan c (fun x => ({ x with driven := v }).switch s.lsw.uv v false)
    else s) s

/-- The monitor of a DC output starts at half a when the output enters states 4 to 14, and switches its bridge off when it leaves them
(R357). -/
def State.monitorOf (s : State) (o : Fin 6) (was now : OutState) : State :=
  if h : o.1 < 4 then
    let n : Fin 4 := ⟨o.1, h⟩
    if was.energised = now.energised ∨ s.isoConfigured n = false then s
    else if now.energised then
      (s.onGuard (fun g => { g with iso := upd g.iso n (fun i =>
        { i with halfB := false, halfTb := s.clock.tb, sumUp := 0, sumUm := 0, frames := 0, lapse := false, okA := false, faults := 0, invalids := 0 }) })).isoDrive
        n false true
    else s.isoDrive n false false
  else s

/-- Enter a state, with its pilot signal and the insulation monitor (R316, R357). -/
def State.enter (s : State) (o : Fin 6) (x : OutState) : State :=
  let s1 := (s.onSo o (fun q => { q with state := x, enterTb := s.clock.tb })).monitorOf o (s.so o).state x
  s1.drivePilot o (s1.pilotOf o x)

/-! ### Readiness (R34, R35, R319) -/

/-- The cabinet of a DC output answers and is not in fault (R328). -/
def State.cabOk (s : State) (o : Fin 6) : Bool :=
  let c := s.seqr.cabs[s.cabOf o]
  !c.lost && (c.state == 2 || c.state == 3 || c.state == 4)

/-- The units that protect every output run: service level 4 (R345 to R350). -/
def State.guardUnits (s : State) : Bool :=
  s.guard.started && s.guard.firstPulse && s.guard.clockOk && s.guard.laneOk && s.guard.tested && s.doorClosed && !s.guard.fault
  && !s.guard.netsLost && s.pwr.pilotSupply && !s.lsw.uv

/-- The metering service of level 3 runs. -/
def State.metering (s : State) : Bool := 3 ≤ s.pwr.level && s.pwr.pll && s.grate.plan.isSome

/-- The link hardware that an output needs is present: its modem or GP6 in its place, or the TS port of an MCS output (R287, R290, R296). -/
def State.modemOk (s : State) (o : Fin 6) : Bool :=
  let m := s.veh.modems[o.1]'(by omega)
  if (s.outRec o).kind = 1 then (if h : o.1 < 4 then !(s.veh.t1s[o.1]'h).lost else true)
  else !s.digital o || !m.failed || s.veh.serving == o.1

/-- MODE of an FG port in use, and its DIV: FG7 runs with FG6's when both are on (A0-04). -/
def State.fgDiv (s : State) (n : Nat) : Nat :=
  let both := s.useFld R.MET_FG_CFGn F.MET_FG_CFGn_MODE [6] != 0 && s.useFld R.MET_FG_CFGn F.MET_FG_CFGn_MODE [7] != 0
  s.useFld R.MET_FG_CFGn F.MET_FG_CFGn_DIV [if n = 7 ∧ both then 6 else n]

/-- Residual-current detection of an outlet is configured (R361). -/
def State.rcdConfigured (s : State) (k : Fin 2) : Bool :=
  let g := fun f => s.fld R.FG_RCDCFGk f [k.1]
  let p := g F.FG_RCDCFGk_PORT
  g F.FG_RCDCFGk_EN == 1 && g F.FG_RCDCFGk_FS_MA != 0 && g F.FG_RCDCFGk_TEST_LS != 0x1F && s.lsMode (g F.FG_RCDCFGk_TEST_LS) == 7
  && s.useFld R.MET_FG_CFGn F.MET_FG_CFGn_MODE [p] == 1 && decide (s.fgDiv p ≤ 1500)

/-- A drop of reason 14 no longer holds HV_EN low: the monitor's sensor has been VALID for 1 s (R351). -/
def GuardOut.sensorFine (g : GuardOut) (tb : Nat) : Bool := !g.sensorBad || g.sensorOkTb.any (fun t => decide (t + tbSecond ≤ tb))

/-- The insulation or residual-current verdict that an output needs can be had (R34): the monitor is configured, its sensor is not in
fault, and the residual-current self-test has passed. -/
def State.verdictOk (s : State) (o : Fin 6) : Bool :=
  (s.go o).sensorFine s.clock.tb &&
  (if h : o.1 < 4 then s.isoConfigured ⟨o.1, h⟩
   else let k : Fin 2 := ⟨o.1 - 4, by omega⟩
     s.rcdConfigured k && (s.guard.rcd[k]).testOk)

/-- R152: an armed swap that is not LIVE_OK waits for its boundary, and no output is ready. -/
def State.swapArmed (s : State) : Bool := s.grate.shadowState == 2 || s.grate.shadowState == 3

/-- R210: the missing neutral of an AC outlet has been declared and still holds. -/
def State.neutralLost (s : State) (o : Fin 6) : Bool := !isDc o && (s.nrg.live[o]).neutralEpisode && (s.nrg.live[o]).neutral

/-- R35, R152, R210: OUTPUT_READY of an output. -/
def State.outputReady (s : State) (o : Fin 6) : Bool :=
  let q := s.so o
  s.has o && s.metering && s.guardUnits && s.guard.degraded.isNone && s.guard.hold.isNone && (s.go o).latch.isNone
  && !q.faultHold && !q.needClear && !q.blocked && s.modemOk o && (!isDc o || s.cabOk o) && s.verdictOk o
  && !s.swapArmed && !s.neutralLost o

/-! ### Session start, outcome and end -/

/-- The pseudonym of an identity under the output's charging session (R44); 0 when it has none. -/
def State.sessionPseud (s : State) (o : Fin 6) (ident : Bytes) : W64 :=
  if (s.so o).maskKey = [] then 0 else pseudonym (s.so o).maskKey ident

/-- SID of an output's session as a number, 0 for none. -/
def SeqOut.sidNat (q : SeqOut) : Nat := (q.sid.map (·.1)).getD 0

/-- The masking key of a charging session: derived from slot 6, one use of it (R44, R65). -/
def State.newMask (s : State) (sid : Nat) : Bytes × State :=
  let d := (s.keyUse 6 engKDF 0).2.drawBytes 8
  (kdf (s.slot 6).key (ascii "LV3750-MASK") (leBytes 1 sid ++ d.1) 384, d.2)

/-- The lock channel and its release are both in LOCK mode (R385, R400). -/
def State.lockLs (s : State) (o : Fin 6) : Option (Fin 24) :=
  let n := s.useFld R.SEQ_CFGn F.SEQ_CFGn_LOCK_LS [o.1]
  if h : n + 1 < 24 then (if s.lsMode n = 5 ∧ s.lsMode (n + 1) = 5 then some ⟨n, by omega⟩ else none) else none

/-- Start a lock drive on one of the two lock channels, the other off (R400). -/
def State.driveLock (s : State) (o : Fin 6) (release : Bool) : State :=
  match s.lockLs o with
  | none => s
  | some n =>
    let on : Fin 24 := if release then Fin.ofNat 24 (n.1 + 1) else n
    let off : Fin 24 := if release then n else Fin.ofNat 24 (n.1 + 1)
    let s1 := s.onChan off (fun c => ({ c with driven := false, lock := 0 }).switch s.lsw.uv false false)
    s1.onChan on (fun c => ({ c with driven := true, lock := 1, lockTb := s.clock.tb }).switch s.lsw.uv true false)

/-- R321: the lock is confirmed by LOCK_SOURCE. -/
def State.lockConfirmed (s : State) (o : Fin 6) : Bool :=
  let pp := (s.veh.pp[o]).1
  match s.useFld R.SEQ_CFGn F.SEQ_CFGn_LOCK_SOURCE [o.1] with
  | 1 => match s.lockLs o with | some n => (s.lsw.chans[n]).lock == 2 | none => false
  | 2 => pp == 5 && s.useFld R.VEH_PINCFGn F.VEH_PINCFGn_PP_TABLE [o.1] == 2
  | 3 => 1 ≤ pp && pp ≤ 6
  | _ => false

/-- The session start is reported to billing, once (R313). -/
def State.reportStart (s : State) (o : Fin 6) : State :=
  let q := s.so o
  match q.startTb with
  | some _ => s
  | none => (s.onSo o (fun q => { q with startTb := some s.clock.tb })).billStart o q.sidNat s.clock.tb

/-- The session end is reported to billing once, the notice of kind 6 goes out, and the masking key is discarded
(R44, R305, R313). -/
def State.endSession (s : State) (o : Fin 6) : State :=
  let q := s.so o
  if q.ended ∨ q.sid.isNone then s
  else
    let s1 := if q.startTb.isSome then s.billEnd o s.clock.tb else s
    (s1.onSo o (fun q => { q with ended := true, maskKey := [] })).notice 6 q.sidNat o.1 q.cause 0 0 [] 0

/-- Record a stop cause: that of the first event that ends the session (R318). -/
def State.stopCause (s : State) (o : Fin 6) (cause : Nat) : State :=
  s.onSo o (fun q => if q.stopped then q else { q with stopped := true, cause := cause })

/-- The contactor request is withdrawn for the last time in the session (R313). -/
def State.withdraw (s : State) (o : Fin 6) : State := (s.request o false).endSession o

/-- FAULT (R316, R317, R319): the request is withdrawn, the pilot goes to F, readiness is held. -/
def State.toFault (s : State) (o : Fin 6) (cause : Nat) : State :=
  let s1 := ((s.stopCause o cause).withdraw o).onSo o (fun q =>
    { q with faultHold := true, needClear := q.needClear || cause == 16 || cause == 19, fiveUntil := none, toLink := false })
  (s1.enter o .fault).logEv .sequencer o.1 7 0 (s.so o).sidNat cause

/-- ROLLBACK (R317): the output is discharged; `toLink` after a hold timeout (R323). -/
def State.toRollback (s : State) (o : Fin 6) (toLink : Bool) : State :=
  (s.onSo o (fun q => { q with toLink := toLink })).enter o .rollback

/-- R339: on the way to UNLOCK or WAIT_UNPLUG the pilot of a DC output that carries 5 % stays there until SessionStop or for 5.0 s. -/
def State.startFive (s : State) (o : Fin 6) : State :=
  let five := isDc o && s.pilotOf o (s.so o).state == .pwm 50 && (s.veh.proto[o]).stage != 11
  s.onSo o (fun q => { q with fiveUntil := if five then some (s.clock.tb + 5 * tbSecond) else none })

/-- R338: a stop with its cause, in any state; in the ROLLBACK of a hold timeout, the output then does not return to LINK. -/
def State.stopOut (s : State) (o : Fin 6) (cause : Nat) : State :=
  let s1 := s.stopCause o cause
  match (s.so o).state with
  | .lock | .link => ((s1.endSession o).startFive o).enter o .waitUnplug
  | .specCheck | .specPrecharge | .specReady => s1.toRollback o false
  | .check | .precharge | .ready | .charging | .paused => s1.enter o .stopping
  | .rollback => if (s.so o).toLink then s1.onSo o (fun q => { q with toLink := false }) else s
  | _ => s

/-- HV_EN of an output has fallen, or a latch of a gated channel counts as that (R317, R393). A suspended sequencer sees it when it resumes,
and the request stands until then (R25, R343). -/
def State.hvFell (s : State) (o : Fin 6) (cause : Nat) : State :=
  if (s.so o).state.energised then
    if s.seqr.suspended then s.onSo o (fun q => { q with fell := some (q.fell.getD cause) }) else s.toFault o cause
  else s

/-- The sequencer that resumes sees a fall of HV_EN that came in the meantime (R25). -/
def State.seeFall (s : State) (o : Fin 6) : State :=
  match (s.so o).fell with
  | some c => (s.onSo o (fun q => { q with fell := none })).hvFell o c
  | none => s

/-- R317: UNLOCK, which releases the lock; without a lock WAIT_UNPLUG follows at once. The pilot of a DC output stays at
5 % until SessionStop or for 5.0 s (R339). -/
def State.toUnlock (s : State) (o : Fin 6) : State :=
  let s1 := s.startFive o
  match s.lockLs o with
  | some _ => (s1.driveLock o true).enter o .unlock
  | none => s1.enter o .waitUnplug

/-! ### LOCK, LINK and speculation -/

/-- A cable check starts at a voltage in V (R358); its time runs from the first CHECK setpoint. -/
def State.startCheck (s : State) (o : Fin 6) (v : Nat) : State :=
  if h : o.1 < 4 then
    s.onGuard (fun g => { g with iso := upd g.iso ⟨o.1, h⟩ (fun i =>
      { i with check := 1, checkV := v, firstCheckTb := none, dwell := none, worst := 0 }) })
  else s

/-- R320: speculation may start from LINK. -/
def State.specAllowed (s : State) (o : Fin 6) : Bool :=
  isDc o && s.useFld R.SEQ_CFGn F.SEQ_CFGn_SPEC [o.1] == 1 && s.lockConfirmed o && s.outputReady o
  && (let c := s.seqr.cabs[s.cabOf o]; !c.lost && (c.state == 2 || c.state == 3)) && !(s.so o).holdUsed

/-- LINK with the test of R320, which starts speculation in the same step when it holds. -/
def State.trySpec (s : State) (o : Fin 6) : State :=
  if (s.so o).state = .link ∧ s.specAllowed o then
    let v := s.useFld R.SEQ_CFGn F.SEQ_CFGn_CHECK_V [o.1]
    (((s.reportStart o).enter o .specCheck).startCheck o v).request o true
  else s

/-- U_T: the required test voltage in V (R358). -/
def State.testV (s : State) (o : Fin 6) : Nat := min (s.so o).vMax (s.outRec o).volt

/-- LINK with an acceptance (R317): a DC output goes to CHECK, an AC outlet to READY. -/
def State.linkAccepted (s : State) (o : Fin 6) : State :=
  if isDc o then
    (((s.onSo o (fun q => { q with verdictV := none })).enter o .check).startCheck o
      (if (s.so o).vMax = 0 then s.useFld R.SEQ_CFGn F.SEQ_CFGn_CHECK_V [o.1] else s.testV o)).request o true
  else s.enter o .ready

/-- LINK: an AC outlet without digital communication waits for a card from here (R416). -/
def State.toLink (s : State) (o : Fin 6) : State :=
  let s1 := s.enter o .link
  let s2 := if !s.digital o && (s.so o).auth = 0 then s1.onSo o (fun q => { q with auth := 1 }) else s1
  if (s.so o).auth = 2 then s2.linkAccepted o else s2.trySpec o

/-- LOCK ends when the lock is confirmed, or there is none, and PP reads 1 to 6 (R317). -/
def State.tryLink (s : State) (o : Fin 6) : State :=
  let pp := (s.veh.pp[o]).1
  let locked : Bool := match s.lockLs o with | some n => (s.lsw.chans[n]).lock == 2 | none => s.useFld R.SEQ_CFGn F.SEQ_CFGn_LOCK_LS [o.1] == 0x1F
  if (s.so o).state = .lock ∧ locked = true ∧ 1 ≤ pp ∧ pp ≤ 6 then s.toLink o else s

/-- LOCK (R312, R316): a new session takes a vehicle context, S-class values are taken up, the lock is driven. -/
def State.toLock (s : State) (o : Fin 6) : State :=
  match s.allocSid (.vehicle o) with
  | none => s
  | some (i, s1) =>
    let s2 := s1.takeUp .s (fun a => a == R.SEQ_CFGn.addr [o.1])
    let m := s2.newMask i.1
    let s3 := m.2.onSo o (fun q => { SeqOut.reset with sid := some i, maskKey := m.1, state := q.state, demand := 0,
                                                        blocked := q.blocked, needClear := q.needClear, postRun := q.postRun })
    let s4 := ((s3.enter o .lock).driveLock o false).notice 1 i.1 o.1 0 0 0 [] 0
    s4.tryLink o

/-! ### Cable-check verdicts -/

/-- R321: a verdict at `v` volts stands for the vehicle. -/
def State.verdictStands (s : State) (o : Fin 6) (v : Nat) : Bool := 95 * s.testV o ≤ 100 * v

/-- CHECK with a kept verdict: it stands and PRECHARGE follows, or the test is repeated once the vehicle has sent its
CableCheck request; without the vehicle's maximum voltage the verdict waits (R317, R321). -/
def State.judgeCheck (s : State) (o : Fin 6) : State :=
  match (s.so o).verdictV with
  | none => s
  | some v =>
    if (s.so o).state = .check ∧ (s.so o).vMax ≠ 0 then
      if s.verdictStands o v then s.enter o .precharge
      else if (s.so o).cableReq then
        ((s.onSo o (fun q => { q with verdictV := none })).enter o .check).startCheck o (s.testV o)
      else s
    else s

/-- A good verdict at `v` volts reaches the sequencer (R317, R358). -/
def State.checkGood (s : State) (o : Fin 6) (v : Nat) : State :=
  let s1 := s.onSo o (fun q => { q with verdictV := some v })
  match (s.so o).state with
  | .specCheck => s1.enter o .specPrecharge
  | .check => s1.judgeCheck o
  | _ => s

/-- A bad verdict reaches the sequencer (R317). -/
def State.checkBad (s : State) (o : Fin 6) : State :=
  let s1 := s.stopCause o 8
  match (s.so o).state with
  | .specCheck | .specPrecharge | .specReady => s1.toRollback o false
  | .check => s1.enter o .stopping
  | _ => s

/-! ### Authorisation outcomes -/

/-- The outcome of a session is announced through S7 and S6 (R304, R305): 0 deny, 1 accept, 2 withdraw. -/
def State.tellOutcome (s : State) (o : Fin 6) (outcome idType : Nat) (ident : Bytes) : State :=
  s.notice 4 (s.so o).sidNat o.1 outcome (s.veh.relay[o]).seq idType ident (s.sessionPseud o ident)

/-- Any first authorisation outcome is reported with the session start just before it where none came (R313). -/
def State.reportOutcome (s : State) (o : Fin 6) (accepted : Bool) : State :=
  let s1 := s.reportStart o
  s1.billOutcome o (s.so o).sidNat s.clock.tb accepted

/-- R315: an outcome for a session that has ended is entered in the event log only. -/
def State.outcomeTooLate (s : State) (o : Fin 6) : State := s.logEv .outcomeLate o.1 7 0 (s.so o).sidNat 0

/-- An acceptance reaches the sequencer (R313, R315, R317). -/
def State.accept (s : State) (o : Fin 6) : State :=
  let q := s.so o
  if q.sid.isNone ∨ q.ended then s.outcomeTooLate o
  else if q.stopped then (s.onSo o (fun q => { q with auth := 3 })).reportOutcome o false
  else
    let s1 := (s.onSo o (fun q => { q with auth := 2 })).reportOutcome o true
    match q.state with
    | .link => s1.linkAccepted o
    | .specCheck => (s1.enter o .check).judgeCheck o
    | .specPrecharge | .specReady => s1.enter o .precharge
    | _ => s1

/-- A denial reaches the sequencer (R317). -/
def State.deny (s : State) (o : Fin 6) (cause : Nat) : State :=
  let q := s.so o
  if q.sid.isNone ∨ q.ended then s.outcomeTooLate o
  else
    let s1 := ((s.onSo o (fun q => { q with auth := 3 })).reportOutcome o false)
    if q.stopped then s1 else s1.stopOut o cause

/-- A withdrawal of an acceptance (R307), or of a session without an outcome (R314). -/
def State.withdrawAuth (s : State) (o : Fin 6) (cause : Nat) : State := s.deny o cause

end Sys2Proof.Machine
end

