-- ==== Sys2Proof/Machine/Slots.lean ====
section
/-!
DEFINITION. Firmware slots and the boot record (R491 to R509): the running image of a component, starts of a trial, and what a
revert writes.
-/

namespace Sys2Proof.Machine

/-! ### Images -/

/-- The running image of a component, and the one in its other slot. -/
def Component.image (c : Component) : Option Image := if c.active then c.imgB else c.imgA
def Component.other (c : Component) : Option Image := if c.active then c.imgA else c.imgB
def Component.state (c : Component) : SlotState := if c.active then c.stB else c.stA
def Component.otherState (c : Component) : SlotState := if c.active then c.stA else c.stB

/-- METRO, PROVIDES and SCHEMA of the running image. -/
def Component.metro (c : Component) : Nat := (c.image.map (·.metro)).getD 0
def Component.provides (c : Component) : Nat := (c.image.map (·.provides)).getD 0

/-- Change the state of one slot. -/
def Component.mark (c : Component) (slotB : Bool) (x : SlotState) : Component := if slotB then { c with stB := x } else { c with stA := x }

/-- The image runs on trial or on recheck. -/
def Component.judged (c : Component) : Bool := c.trial || c.recheck

/-- Both slots have failed. -/
def Component.dead (c : Component) : Bool := c.stA == .failed && c.stB == .failed

/-- Where the next image lands (true: slot B): the inactive slot, or slot A when both have failed (R517). -/
def Component.landing (c : Component) : Bool := if c.dead then false else !c.active

/-- The component on trial or recheck: a trial first. -/
def Update.watched (u : Update) : Option (Fin 5) :=
  match (idx 5).find? (fun k => (u.comps[k]).trial) with
  | some k => some k
  | none => (idx 5).find? (fun k => (u.comps[k]).recheck)

/-- Running time of a trial, in whole seconds up to 1,800 (R507, R508). -/
def Component.secondsNow (c : Component) (tb : Nat) : Nat := if c.judged then min 1800 (c.seconds + (tb - c.secTb) / tbSecond) else c.seconds

/-- One write of the boot record: to the copy that is not in force, with SEQ + 1 (R507). -/
def Update.write (u : Update) : Update :=
  let r : BootRecord := { seq := u.recordSeq + 1, comps := u.comps, schema := u.schema, whole := true }
  if r.seq % 2 = 0 then { u with recordSeq := r.seq, recordA := some r } else { u with recordSeq := r.seq, recordB := some r }

/-- The copy that the ROM and the Hearth use: the higher SEQ whose CRC checks (R507). -/
def Update.record (u : Update) : Option BootRecord :=
  ([u.recordA, u.recordB].filterMap id).foldl (fun (m : Option BootRecord) (r : BootRecord) =>
    if r.whole && m.all (fun x => decide (x.seq < r.seq)) then some r else m) none

/-- The version of the image in a slot; 0 without one. -/
def slotVersion (i : Option Image) : Nat := (i.map (·.version)).getD 0

/-- With neither copy valid the slots of HEARTH are verified: the one with the higher VERSION boots, on recheck (R507). -/
def Component.fresh (c : Component) : Component :=
  let b := decide (slotVersion c.imgA < slotVersion c.imgB)
  let st := fun (i : Option Image) (here : Bool) => if i.isNone then SlotState.failed else if here then .active else .verified
  { c with active := b, stA := st c.imgA (!b), stB := st c.imgB b, trial := false, recheck := true, starts := 0, seconds := 0, metroChange := false }

/-- The boot record as the ROM reads it; with no valid copy a fresh one is written. -/
def Update.readRecord (u : Update) : Update :=
  match u.record with
  | some r => { u with recordSeq := r.seq, schema := r.schema,
                       comps := updAll u.comps (fun k c => { r.comps[k] with floor := c.floor, running := c.running, secTb := c.secTb }) }
  | none => ({ u with comps := upd u.comps 0 Component.fresh }).write

/-- Change one component; each change is one write of the boot record (R507). -/
def State.onComp (s : State) (k : Fin 5) (f : Component → Component) : State :=
  s.onFw (fun u => ({ u with comps := upd u.comps k f }).write)

/-- The slot that a download writes is empty again. -/
def Component.wipe (c : Component) (slotB : Bool) : Component :=
  if slotB then { c with stB := .empty, imgB := none } else { c with stA := .empty, imgA := none }

/-- The slot of KIND 0 that a stream was landing in is discarded. -/
def Update.wipe (u : Update) (kind comp : Nat) (slotB : Bool) : Update :=
  if kind = 0 then
    { ({ u with comps := upd u.comps (Fin.ofNat 5 comp) (·.wipe slotB) }).write with
             bytesA := if slotB then u.bytesA else upd u.bytesA (Fin.ofNat 5 comp) (fun _ => []),
             bytesB := if slotB then upd u.bytesB (Fin.ofNat 5 comp) (fun _ => []) else u.bytesB }
  else u

/-- The update ends without an object: slot, partial object and checkpoint are discarded (R497, R504). One that has taken no block has none, and
leaves another stream's checkpoint, which its start discards unless its parameters are refused (R570). -/
def State.dropUpdate (s : State) : State :=
  s.onFw (fun u => match u.job with
    | some j => { (if j.next = 0 then u else u.wipe j.kind j.comp j.slotB) with job := none, checkpoint := if j.next = 0 then u.checkpoint else none }
    | none => u)

/-- A job that fails takes its update with it (R496). -/
def State.dropUpdateOf (s : State) (j : Fin 16) : State := if s.fw.job.any (fun x => x.job == j) then s.dropUpdate else s

/-! ### Trials (R508, R509) -/

/-- The settings that a trial of HEARTH defaulted come back (R512). -/
def State.restoreSettings (s : State) : State :=
  match s.fw.backup with
  | some b => { s with regs := b.1, fw := { s.fw with stores := b.2, backup := none, defaulted := false } }
  | none => s

/-- What a revert writes (R509): the trial slot FAILED; the fallback active on recheck, or, when it has failed too or is empty,
none; T_FW when METRO changes; the update ends; the cause is logged: 1 starts, 2 running time, 3 a host. -/
def State.revertSlots (s : State) (k : Fin 5) (cause : Nat) : State :=
  let c := s.fw.comps[k]
  let usable := c.otherState == .verified
  let moved := usable && c.metro != (c.other.map (·.metro)).getD 0
  let s1 := if moved then s.tamper T_FW k.1 true else s
  let s2 := s1.onComp k (fun c =>
    let d := c.mark c.active .failed
    if usable then
      { d.mark (!c.active) .active with active := !c.active, trial := false, recheck := true, starts := 0, seconds := 0, secTb := s.clock.tb,
                                        metroChange := false }
    else { d with trial := false, recheck := false, metroChange := false, running := false })
  let s3 := s2.onFw (fun u => { u with reverts := satAdd 16 u.reverts 1,
                                       onTrial := if u.onTrial.any (fun t => t.1 == k.1) then none else u.onTrial })
  ((if k = 0 then s3.restoreSettings else s3).logEv .updateRevert k.1 7 0 cause (b2n usable))

/-- A start of a component's image (R508): counted in the record before it; a fourth start, or 1,800 s of trial, reverts instead. -/
def State.countStart (s : State) (k : Fin 5) : State :=
  let c := s.fw.comps[k]
  if c.judged = false then s
  else if 3 ≤ c.starts then s.revertSlots k 1
  else if 1800 ≤ c.secondsNow s.clock.tb then s.revertSlots k 2
  else s.onComp k (fun c => { c with starts := c.starts + 1 })

end Sys2Proof.Machine
end

