-- ==== Sys2Proof/Machine/GuardOps.lean ====
section
/-!
DEFINITION. Shared operations of the Fireguard (chapter 11): the conditions of HV_EN (R350), drops (R351), the safe-off
sequencer (R378, R379), the Fireguard's reset (R349), degraded mode (R371) and the demand of the guard test (R376).
-/

namespace Sys2Proof.Machine

/-! ### What the Fireguard reads -/

/-- A source of the running plan as the safety lane carries it, in whole units of the source (mV, mA). -/
def State.laneVal (s : State) (id : Nat) : Option Int :=
  match s.grate.plan with
  | some p => let x := srcOf p s.grate s.sens id
    if x.ok then some (x.v / 65536) else none
  | none => none

/-- The lane value of an output's quantity: 1 voltage, 2 current (R143, R347). -/
def State.laneQty (s : State) (o : Fin 6) (qty phase : Nat) : Option Int :=
  match s.grate.plan with
  | some p =>
    match (p.sections.map (fun x => match x.body with | .qty l => l | _ => [])).flatten.find?
        (fun q => q.output == o.1 && q.qty == qty && q.phase == phase) with
    | some q => s.laneVal q.source
    | none => none
  | none => none

/-- The output reads below 60 V in the lane; with no reading it does not. -/
def State.below60 (s : State) (o : Fin 6) : Bool :=
  match s.laneQty o 1 0 with | some v => decide (v.natAbs < 60000) | none => false

/-- The pilot of an output has read A for 100 ms (R319, R351). -/
def State.pilotALong (s : State) (o : Fin 6) : Bool :=
  let p := s.veh.pilots[o]
  p.state == 0 && decide (p.tb + 2500000 ≤ s.clock.tb)

/-- R351: a latched drop of reason 3 or 4 whose clearing condition holds now. -/
def State.latchClears (s : State) (o : Fin 6) : Bool :=
  match (s.go o).latch with
  | some 3 => s.pilotALong o
  | some 4 => s.pilotALong o && (if h : 4 ≤ o.1 then (let r := s.guard.rcd[o.1 - 4]'(by omega); r.testOk && !r.due) else true)
  | _ => false

/-- Latches of reasons 3 and 4 and the readiness hold after FAULT end once the pilot has read A for 100 ms (R319, R351). -/
def State.settleA (s : State) (o : Fin 6) : State :=
  let s1 := if s.latchClears o then s.onGo o (fun g => { g with latch := none }) else s
  if s.pilotALong o then s1.onSo o (fun q => { q with faultHold := false }) else s1

/-! ### Configuration (R361, R367, R385) -/

/-- The mirrors that an output names and whose channels are in MIRROR mode (R365, R385). -/
def State.mirrors (s : State) (o : Fin 6) : List (Fin 24) :=
  ([s.fld R.FG_WELDCFGn F.FG_WELDCFGn_MIRROR_POS [o.1], s.fld R.FG_WELDCFGn F.FG_WELDCFGn_MIRROR_NEG [o.1]].filter
    (fun n => n < 24 && s.lsMode n == 6)).map (Fin.ofNat 24)

/-- VCHECK of an AC outlet. -/
def State.vcheck (s : State) (o : Fin 6) : Bool := !isDc o && s.fld R.FG_WELDCFGn F.FG_WELDCFGn_VCHECK [o.1] == 1

/-- Welding detection is configured (R367). -/
def State.weldConfigured (s : State) (o : Fin 6) : Bool := s.mirrors o != [] || s.vcheck o

/-- Every named mirror reports the contacts open. -/
def State.mirrorsOpen (s : State) (o : Fin 6) : Bool := (s.mirrors o).all (fun n => (s.lsw.chans[n]).loadOff)

/-- The gate of an output has been open for 200 ms (R366). -/
def State.gateLongOpen (s : State) (o : Fin 6) : Bool :=
  !(s.go o).gate && (s.go o).openTb.all (fun t => decide (t + 5000000 ≤ s.clock.tb))

/-- TRIP records of the running plan that drop an output: line and action. -/
def State.linesOf (s : State) (o : Fin 6) : List (Nat × Nat) :=
  match s.grate.plan with
  | some p => ((p.sections.map (fun x => match x.body with | .trip l => l | _ => [])).flatten).filterMap
      (fun t => match t with | .line n outs a => if bitOf outs o.1 then some (n, a) else none | _ => none)
  | none => []

/-- The plan holds a 2oo2H pair for an output (R139): a pair in that mode whose line drops it. -/
def State.pairFor (s : State) (o : Fin 6) : Bool :=
  match s.grate.plan with
  | some p =>
    let tcs := (p.sections.map (fun x => match x.body with | .tc l => l | _ => [])).flatten
    ((p.sections.map (fun x => match x.body with | .trip l => l | _ => [])).flatten).any (fun t => match t with
      | .pair a _ true => tcs.any (fun c => c.index == a && (s.linesOf o).any (fun l => l.1 == c.line))
      | _ => false)
  | none => false

/-! ### HV_EN (R350) -/

/-- The reason that a running safe-off stands for (R351, R378). -/
def trigReason : Nat → Nat
  | 1 => 13 | 2 => 13 | 3 => 12 | 4 => 11 | 5 => 10 | 6 => 7 | 7 => 8 | 8 => 9 | _ => 2

/-- The first condition of R350 that fails for an output, as its reason; none when HV_EN may rise. -/
def State.hvFail (s : State) (o : Fin 6) : Option Nat :=
  let g := s.guard
  let out := s.go o
  let latch : Option Nat := if s.latchClears o then none else out.latch
  if !g.started ∨ s.pwr.inReset then some 13
  else if !g.clockOk ∨ !g.firstPulse then some 11
  else if g.holdExpired then some 12
  else if !g.tested ∨ !s.doorClosed ∨ g.fault then some 9
  else if g.safe.any (fun x => bitOf x.outputs o.1) then some (trigReason ((g.safe.map (·.trigger)).getD 0))
  else if g.degraded.any (fun t => decide (t + 5400 * tbSecond ≤ s.clock.tb)) then some 8
  else if !g.laneOk then some 10
  else if g.netsLost then some 7
  else if latch.isSome then latch
  else if s.gateLongOpen o && !s.mirrorsOpen o then some 5
  else if (s.linesOf o).any (fun l => (s.grate.lines[l.1]?.getD false) || (l.2 == 0 && decide (s.clock.tb < (s.grate.lineOffTb[l.1]?.getD 0) + 250000) && out.reason == 1)) then some 1
  else if out.sensorFine s.clock.tb = false then some 14
  else if h : o.1 < 4 then
    let c := g.cabs[s.cabOf o]
    if !s.isoConfigured ⟨o.1, h⟩ ∨ !s.weldConfigured o then some 15
    else if c.down ∨ !(c.validTb.any (fun t => decide (s.clock.tb ≤ t + 125000))) ∨ bitOf c.flags 1 ∨ bitOf c.flags 2
      ∨ (s.pairFor o ∧ !bitOf c.flags 0) then some 6
    else if g.degraded.isSome ∧ !bitOf g.degHv o.1 then some 6
    else none
  else
    let k : Fin 2 := ⟨o.1 - 4, by omega⟩
    let r := g.rcd[k]
    if !s.rcdConfigured k ∨ !s.weldConfigured o then some 15
    else if !r.testOk ∨ r.testing.isSome ∨ !(r.passTb.any (fun t => decide (s.clock.tb ≤ t + 3600 * tbSecond))) then some 14
    else if g.degraded.isSome ∧ !bitOf g.degHv o.1 then some 6
    else none

/-- A drop's reason is latched (R351). -/
def latchedReason (r : Nat) : Bool := 2 ≤ r && r ≤ 5

/-- HV_EN of an output falls with a reason (R351); the gate opens on the edge (R25), and the sequencer sees the fall with its
cause (R317). -/
def State.drop (s : State) (o : Fin 6) (r : Nat) : State :=
  let s0 := if latchedReason r then s.onGo o (fun g => { g with latch := some r }) else s
  if (s.go o).hv then
    let s1 := (s0.setHv o false).onGo o (fun g => { g with reason := r, drops := satAdd 16 g.drops 1 })
    let s2 := s1.logEv .protection o.1 7 3 r 0
    s2.hvFell o (if r = 5 then 19 else if r = 13 then 14 else 9)
  else s0.onGo o (fun g => { g with reason := r })

/-- Drop every output of a list. -/
def State.dropAll (s : State) (os : List (Fin 6)) (r : Nat) : State := os.foldl (fun (s : State) (o : Fin 6) => s.drop o r) s

/-- An output is welded (R366): reason 5, and FAULT with cause 19 (R317). -/
def State.declareWelded (s : State) (o : Fin 6) : State :=
  let s1 := (s.onGo o (fun g => { g with welded := true })).drop o 5
  if (s1.so o).state = .weldcheck then s1.toFault o 19 else s1

/-- The bit map of outputs whose HV_EN is raised. -/
def State.hvMap (s : State) : Nat := bitmap 6 (fun o => (s.go o).hv)

/-! ### Resets of the Fireguard and the guard test -/

/-- R376: the guard start-up test is demanded. -/
def State.demandTest (s : State) (d : Nat) : State :=
  s.onGuard (fun g => { g with tested := false, seenOpen := false, demand := d, demands := satAdd 32 g.demands 1 })

/-- The Fireguard's own state after a reset (R349): every HV_EN is low, and the guard test state stays in the backup domain. At
a power-on or a brown-out (cause 0) what counts since power-on or cold start begins again. -/
def Guard.restart (g : Guard) (cause : Nat) (running : Bool) : Guard :=
  let fresh : Guard :=
    { Guard.reset with
        started := running, firstPulse := running, clockOk := running, lastReset := cause,
        outs := g.outs.map (fun o => { GuardOut.reset with request := o.request, needEdge := o.needEdge, reason := 13, openTb := o.openTb, gateTb := o.gateTb }),
        levelA := g.levelA, levelB := g.levelB, levelTb := g.levelTb, fault := g.fault, seenOpen := g.seenOpen,
        tested := g.tested, demand := g.demand, demands := g.demands }
  if cause = 0 then fresh
  else
    { fresh with
        resets := satAdd 16 g.resets 1,
        outs := updAll fresh.outs (fun i o => { o with drops := (g.outs[i]).drops }),
        soTrigger := g.soTrigger, soOutputs := g.soOutputs, soForced := g.soForced, soUs := g.soUs, soCount := g.soCount,
        disagree := g.disagree, degEntries := g.degEntries }

/-- The Fireguard resets (R349): every HV_EN is low and the sequencer sees it (R344). The restart is a start of its image (R508);
with both slots failed it stays off (R509). At a brown-out (cause 0) it starts only with the next boot. -/
def State.guardRestart (s : State) (cause : Nat) : State :=
  let s1 := s.dropAll (idx 6) 13
  let s2 := if cause = 0 then s1 else s1.countStart 1
  s2.onGuard (fun g => g.restart cause (cause != 0 && s.clock.run && (s2.fw.comps[(1 : Fin 5)]).running))

/-! ### Safe-off (R378, R379) -/

/-- A safe-off with no affected output left raised ends; a reset that waited for it follows (R349, R380). -/
def State.safeEnd (s : State) : State :=
  match s.guard.safe with
  | some x =>
    if x.left = 0 then
      let s1 := s.onGuard (fun g => { g with safe := none, soUs := min 65535 ((s.clock.tb - x.startTb) / 25) })
      match x.thenReset with
      | some c => s1.guardRestart c
      | none => s1
    else s
  | none => s

/-- The safe-off sequencer starts on the outputs of a map (R378, R379 instant 1): their pilots go to F. -/
def State.safeOff (s : State) (trigger outs : Nat) (thenReset : Option Nat) : State :=
  let old := s.guard.safe
  let all := ((old.map (·.outputs)).getD 0) ||| outs
  let s1 := s.onGuard (fun g =>
    { g with safe := some { trigger, outputs := all, left := all &&& s.hvMap,
                            startTb := (old.map (·.startTb)).getD s.clock.tb,
                            thenReset := match old.bind (·.thenReset) with | some c => some c | none => thenReset },
             soTrigger := trigger, soOutputs := all, soForced := 0, soUs := 0, soCount := satAdd 32 g.soCount 1 })
  let s2 := (idx 6).foldl (fun (s : State) (o : Fin 6) =>
    if bitOf outs o.1 ∧ s.has o then s.drivePilot o .minus12 else s) s1
  s2.safeEnd

/-- R379 instant 3: the current of an affected output is below 5 A: of DC the lane current, of AC the largest phase RMS, in mA. While the lane is
silent a DC output's cabinet says it, which reports the stage disabled. -/
def State.currentLow (s : State) (o : Fin 6) (ma : Int) : Bool :=
  if s.clock.run && decide (s.clock.tb < s.guard.laneTb + 25000) then decide (ma.natAbs < 5000)
  else isDc o && !bitOf (s.guard.cabs[s.cabOf o]).enabled o.1 && ((s.guard.cabs[s.cabOf o]).validTb).isSome

/-- HV_EN of an affected output falls during safe-off (R379 instants 3 and 4). -/
def State.safeDrop (s : State) (o : Fin 6) : State :=
  match s.guard.safe with
  | some x =>
    if bitOf x.left o.1 then
      let s1 := s.drop o (match (s.go o).latch with | some r => r | none => trigReason x.trigger)
      let s2 := s1.onGuard (fun g => { g with safe := g.safe.map (fun y => { y with left := y.left - 2 ^ o.1 }) })
      s2.safeEnd
    else s
  | none => s

/-- A monitor's drop with safe-off on that output (R359, R362, R363). -/
def State.monitorDrop (s : State) (o : Fin 6) (r : Nat) : State :=
  (s.drop o r).safeOff 9 (2 ^ o.1) none

/-! ### Degraded mode (R342, R371) -/

/-- DEGRADED_MODE_ENTRY: raised HV_EN stays, no new one is raised, sessions in states 2 to 6 stop with cause 12. -/
def State.enterDegraded (s : State) (cause : Nat) : State :=
  if s.guard.degraded.isSome then s
  else
    let s1 := s.onGuard (fun g => { g with degraded := some s.clock.tb, degHv := s.hvMap, degCause := cause,
                                           degEntries := satAdd 16 g.degEntries 1, goodTb := none })
    let s2 := s1.logEv .network 0 7 3 cause 0
    (idx 6).foldl (fun (s : State) (o : Fin 6) =>
      let c := (s.so o).state.code
      if 2 ≤ c ∧ c ≤ 6 then s.stopOut o 12 else s) s2

/-- FAULT_N is driven low (R352). -/
def State.faultN (s : State) : Bool :=
  (idx 6).any (fun o => (s.go o).latch.isSome && !s.latchClears o) || s.guard.safe.isSome || s.pwr.inReset
  || s.guard.degraded.isSome || s.guard.fault

end Sys2Proof.Machine
end

