-- ==== Sys2Proof/Machine/PulseGen.lean ====
section
/-!
DEFINITION. The pulse generators PG0 to PG7 (R388, R389, R391): which change of PERIOD, DUTY or PHASE acts from which period, and
whether a channel stands in its on phase.
-/

namespace Sys2Proof.Machine

/-- The 4.0 MHz time base at TB `tb` (R388): 4 ticks of 250 ns in 25 ticks of TB. While the PLL is not locked TB stands, and what the
generators do meanwhile shows in no register (log entry 121). -/
def pgTick (tb : Nat) : Nat := tb * 4 / 25

/-- The tick at which a run's next period starts at or after tick `t`. -/
def PgRun.next (r : PgRun) (t : Nat) : Nat :=
  if t ≤ r.start then r.start else r.start + (t - r.start + r.period - 1) / r.period * r.period

/-- The on phase in ticks (R388). -/
def PgRun.onTicks (r : PgRun) : Nat := r.duty * r.period / 256

/-- Tick `t` lies in the on phase that follows the period start `b` at a phase of `p` 256ths (R389). -/
def PgRun.onFrom (r : PgRun) (p b t : Nat) : Bool :=
  let on := b + p * r.period / 256
  decide (on ≤ t ∧ t < on + r.onTicks)

/-- The latest entry of a list of (tick from which, value) that holds at tick `t`: 0 before the first. -/
def phaseAt (l : List (Nat × Nat)) (t : Nat) : Nat := l.foldl (fun v e => if e.1 ≤ t then e.2 else v) 0

/-- A channel's on phases with one run of its PG that acts up to tick `stop`: an on phase that has begun ends in its own time, though a
change acts meanwhile (R389). An on phase is at most one period long and begins less than one period after its period's start, so the
two latest period starts decide. -/
def PgRun.level (r : PgRun) (phases : List (Nat × Nat)) (stop t : Nat) : Bool :=
  let last := min t (stop - 1)
  let b := r.start + (last - r.start) / r.period * r.period
  decide (r.start ≤ t ∧ r.start < stop) &&
    ((List.range 3).any (fun k => decide (r.start + k * r.period ≤ b) &&
      r.onFrom (phaseAt phases (b - k * r.period)) (b - k * r.period) t))

/-- The on phase of a channel at tick `t`: one run after the other. -/
def pgLevel (phases : List (Nat × Nat)) (t : Nat) : List PgRun → Bool
  | [] => false
  | [r] => r.level phases (t + 1) t
  | r :: r2 :: rest => r.level phases r2.start t || pgLevel phases t (r2 :: rest)

/-- Runs that can still reach a tick at or after `t`: a run is dropped once the next one is three of its periods old. -/
def pgKeep (t : Nat) : List PgRun → List PgRun
  | r :: r2 :: rest => if r2.start + 3 * r.period ≤ t then pgKeep t (r2 :: rest) else r :: r2 :: rest
  | l => l

/-- The run of a PG that its register asks for. -/
def State.pgWanted (s : State) (k : Fin 8) (start : Nat) : PgRun :=
  { start, period := max 1 (s.fld R.LSW_PGk F.LSW_PGk_PERIOD [k.1]), duty := s.fld R.LSW_PGk F.LSW_PGk_DUTY [k.1] }

/-- A change of PERIOD or DUTY takes effect at the next start of the period (R389). -/
def State.pgSync (s : State) (k : Fin 8) : State :=
  let t := pgTick s.clock.tb
  let l := (pgKeep t s.lsw.pgs[k]).filter (fun r => decide (r.start ≤ t))
  match l.getLast? with
  | none => s.onLsw (fun w => { w with pgs := w.pgs.set k [s.pgWanted k t] })
  | some r =>
    let n := s.pgWanted k (r.next (t + 1))
    s.onLsw (fun w => { w with pgs := w.pgs.set k (if n.period = r.period ∧ n.duty = r.duty then l else l ++ [n]) })

/-- The run of a PG in force at tick `t`. -/
def State.pgRun (s : State) (k : Fin 8) (t : Nat) : PgRun :=
  ((s.lsw.pgs[k]).filter (fun r => decide (r.start ≤ t))).getLast?.getD (s.pgWanted k t)

/-- The PG of a channel. -/
def State.chanPg (s : State) (n : Fin 24) : Fin 8 := Fin.ofNat 8 (s.fld R.LSW_CFGn F.LSW_CFGn_PG [n.1])

/-- A change of PHASE takes effect at the channel's next on phase (R389). Where the on phase of the present period has not begun and the
new phase still lies ahead, that is the present period's; else the next period's, so that no on phase is doubled or left out
(DESIGN CHOICE, log entry 121). -/
def State.phaseSync (s : State) (n : Fin 24) : State :=
  let t := pgTick s.clock.tb
  let l := s.lsw.phases[n]
  let p := s.fld R.LSW_CFGn F.LSW_CFGn_PHASE [n.1]
  let r := s.pgRun (s.chanPg n) t
  let b := r.start + (t - r.start) / r.period * r.period
  let ahead := fun x => decide (t < b + x * r.period / 256)
  let from_ := if ahead (phaseAt l b) && ahead p then b else b + r.period
  let kept := l.filter (fun e => decide (e.1 < from_))
  let base := match kept.reverse with
    | a :: c :: _ => [c, a]
    | x => x
  s.onLsw (fun w => { w with phases := w.phases.set n (if phaseAt kept from_ = p then base else base ++ [(from_, p)]) })

/-- The PG time base as it starts with the device: from the registers, a period starting now (log entry 121). -/
def State.pgStart (s : State) : State :=
  let t := pgTick s.clock.tb
  s.onLsw (fun w => { w with pgs := Vector.ofFn (fun k => [s.pgWanted k t]),
                             phases := Vector.ofFn (fun n : Fin 24 => [(0, s.fld R.LSW_CFGn F.LSW_CFGn_PHASE [n.1])]) })

/-- A channel stands in the on phase of its PG (R389). -/
def State.onPhase (s : State) (n : Fin 24) : Bool := pgLevel (s.lsw.phases[n]) (pgTick s.clock.tb) (s.lsw.pgs[s.chanPg n])

/-- The length of a channel's on phase in ticks (R388). -/
def State.onTicks (s : State) (n : Fin 24) : Nat := (s.pgRun (s.chanPg n) (pgTick s.clock.tb)).onTicks

end Sys2Proof.Machine
end

