-- ==== Sys2Proof/Machine/Alloc.lean ====
section
/-!
DEFINITION. Power allocation (R330 to R337): demands, the water-filling, the demand guard, thermal caps, pumps, and the
mesh share.
-/

namespace Sys2Proof.Machine

/-! ### Water-filling (R334) -/

/-- One party of a division: its key in the order of division, class, demand, floor and what it has. -/
structure Claimant where
  key : Nat
  cls : Nat
  d : Int
  floor : Int
  a : Int
deriving DecidableEq, Repr

/-- Floors first, in order (R334). -/
def giveFloors : List Claimant → Int → List Claimant × Int
  | [], b => ([], b)
  | c :: cs, b =>
    let g := max 0 (min (min c.d c.floor) b)
    let r := giveFloors cs (b - g)
    ({ c with a := g } :: r.1, r.2)

/-- One round over a class: each member below its demand gets up to `share`. -/
def giveRound (cls : Nat) (share : Int) : List Claimant → Int → List Claimant × Int
  | [], b => ([], b)
  | c :: cs, b =>
    let g := if c.cls = cls ∧ c.a < c.d then min share (c.d - c.a) else 0
    let r := giveRound cls share cs (b - g)
    ({ c with a := c.a + g } :: r.1, r.2)

/-- The rounds of a class, at most `fuel`; each but the last satisfies a member or leaves less than 1 mW for each. -/
def giveClass (cls : Nat) : Nat → List Claimant → Int → List Claimant × Int
  | 0, l, b => (l, b)
  | fuel + 1, l, b =>
    let n := (l.filter (fun c => c.cls == cls && decide (c.a < c.d))).length
    if b ≤ 0 ∨ n = 0 then (l, b)
    else
      let share := b / n
      let r := giveRound cls share l b
      if share = 0 then r else giveClass cls fuel r.1 r.2

/-- The division of a budget (R334): floors, then classes 0 to 3. `l` stands in order of class, then of session start. -/
def waterFill (l : List Claimant) (b : Int) : List Claimant :=
  let f := giveFloors l b
  ([0, 1, 2, 3].foldl (fun r c => giveClass c (l.length + 2) r.1 r.2) f).1

/-- Insert by an order. -/
def insertBy {α : Type} (le : α → α → Bool) (x : α) : List α → List α
  | [] => [x]
  | y :: ys => if le x y then x :: y :: ys else y :: insertBy le x ys

/-- Stable insertion sort. -/
def sortBy {α : Type} (le : α → α → Bool) : List α → List α
  | [] => []
  | x :: xs => insertBy le x (sortBy le xs)

/-! ### Thermal cap (R335) -/

/-- The cable temperature in 1/65,536 °C; none when the source is not VALID. -/
def State.cableTemp (s : State) (o : Fin 6) : Option Int :=
  match s.grate.plan with
  | some p => let x := srcOf p s.grate s.sens (s.fld R.SEQ_THERMCFGn F.SEQ_THERMCFGn_SOURCE [o.1])
    if x.ok then some x.v else none
  | none => none

/-- Channels in PWM mode on a PG (R390). -/
def State.pumpChans (s : State) (k : Nat) : List (Fin 24) :=
  (idx 24).filter (fun n => s.lsMode n.1 == 2 && s.fld R.LSW_CFGn F.LSW_CFGn_PG [n.1] == k)

/-- `SEQ_ICAPn` in mA. -/
def State.icap (s : State) (o : Fin 6) : Int :=
  let f := fun x => s.fld R.SEQ_THERMCFGn x [o.1]
  let inom : Int := (s.outRec o).amp * 1000
  if f F.SEQ_THERMCFGn_SOURCE = 0x1FF then inom
  else
    let bad := f F.SEQ_THERMCFGn_PUMP_EN == 1 &&
      (s.pumpChans (f F.SEQ_THERMCFGn_PUMP_PG)).any (fun n => let c := s.lsw.chans[n]; c.openNow || c.state == 3 || c.state == 4)
    match s.cableTemp o with
    | none => 0
    | some t =>
      let lo : Int := f F.SEQ_THERMCFGn_T_DERATE
      let hi : Int := f F.SEQ_THERMCFGn_T_MAX
      if bad then 0
      else if t ≤ lo * 65536 then inom
      else if hi * 65536 ≤ t then 0
      else inom * (hi * 65536 - t) / ((hi - lo) * 65536)

/-! ### Demands (R334) -/

/-- Output voltage in mV: the live voltage of a DC output, the nominal voltage of an AC outlet. -/
def State.outMv (s : State) (o : Fin 6) : Int :=
  if isDc o then ((s.nrg.live[o]).value)[0] else (s.outRec o).volt * 1000

/-- The cable rating in A of a PP code (R285); codes without one leave the outlet's rating. -/
def ppAmps (code amp : Nat) : Nat := match code with | 1 => 13 | 2 => 20 | 3 => 32 | 4 => 63 | _ => amp

/-- The vehicle's requested power in mW (R334). -/
def State.vehRequest (s : State) (o : Fin 6) : Int :=
  if isDc o then (s.so o).pReq
  else (s.outRec o).volt * min (s.outRec o).amp (ppAmps (s.veh.pp[o]).1 (s.outRec o).amp) * 1000

/-- The limits of an output's demand in mW: rating or SEQ_CAPn, cabinet, thermal cap. -/
def State.demandLimits (s : State) (o : Fin 6) : Int × Int × Int :=
  let rating : Int := (s.outRec o).volt * (s.outRec o).amp * 1000
  let cap : Int := s.fld R.SEQ_CAPn F.SEQ_CAPn_POWER [o.1]
  let cab : Int := if isDc o then ((s.seqr.cabs[s.cabOf o]).pAvail : Int) * 1000 else rating
  (if cap = 0 then rating else min cap rating, cab, s.icap o * s.outMv o / 1000)

/-- Demand d of an output, mW, negative for export (R334, R337). -/
def State.requestOf (s : State) (o : Fin 6) : Int :=
  let r := s.vehRequest o
  let l := s.demandLimits o
  let m := max 0 (min l.1 (min l.2.1 l.2.2))
  if r < 0 then -(min (-r) m) else min r m

/-- Outputs that the budget is divided among (R330). -/
def State.sharing (s : State) (o : Fin 6) : Bool :=
  match (s.so o).state with | .charging | .paused | .ready => true | _ => false

/-! ### The mesh share (R333) -/

/-- A claim in kW as sent (R439). -/
def claimKw (p : Nat) : Nat × Nat × Nat := (bitsOf p 0 15, bitsOf p 15 15, bitsOf p 30 2)

/-- This post's claim: demand in kW rounded up, limit in kW rounded down, NODE_PRIO (R439). -/
def State.ownClaim (s : State) : Nat :=
  let d := ((idx 6).map (fun o => max 0 (s.so o).demand)).sum.toNat
  let kw := min 0x7FFF ((d + 999999) / 1000000)
  let lim := min 0x7FFF (s.fld R.SEQ_SITE_LIMIT F.SEQ_SITE_LIMIT_POWER [] / 1000000)
  kw + lim * 2 ^ 15 + s.fld R.SEQ_GUARD_CFG F.SEQ_GUARD_CFG_NODE_PRIO [] * 2 ^ 30

/-- Nodes whose CLAIM has been heard within 60 s and that hold a context (R333, R445). -/
def State.claimers (s : State) : List (Fin 64) :=
  (idx 64).filter (fun n =>
    let m := s.mesh.nodes[n]
    m.sharing && m.sid.isSome && m.claimTb.any (fun t => decide (s.clock.tb ≤ t + 60 * tbSecond)))

/-- The nodes heard in the last 60 s, this post included (`SEQ_SITE_STAT.NODES`). -/
def State.nodesHeard (s : State) : Nat :=
  1 + ((idx 64).filter (fun n => (s.mesh.nodes[n]).sid.isSome && decide (s.clock.tb ≤ (s.mesh.nodes[n]).tb + 60 * tbSecond))).length

/-- The site limit in force, mW: the lowest among the claims heard, this post's own included. -/
def State.siteLimit (s : State) : Nat :=
  (s.claimers.map (fun n => (claimKw (s.mesh.nodes[n]).payload).2.1 * 1000000)).foldl min
    (s.fld R.SEQ_SITE_LIMIT F.SEQ_SITE_LIMIT_POWER [])

/-- This post's result of the division over the claims heard (R333). -/
def State.shareNow (s : State) : Int :=
  let own := s.fld R.MSH_CFG F.MSH_CFG_NODE_ID []
  let mk := fun (id p : Nat) => ({ key := id, cls := (claimKw p).2.2, d := ((claimKw p).1 * 1000000 : Nat), floor := 0, a := 0 } : Claimant)
  let l := sortBy (fun a b => a.cls < b.cls || (a.cls == b.cls && a.key ≤ b.key))
    (mk own s.ownClaim :: s.claimers.map (fun n => mk n.1 (s.mesh.nodes[n]).payload))
  (((waterFill l s.siteLimit).find? (fun c => c.key == own)).map (·.a)).getD 0

/-- The latest claim that the division rests on: this post's own, or one heard (R333). -/
def State.lastClaimTb (s : State) : Nat :=
  (s.claimers.map (fun n => (s.mesh.nodes[n]).claimTb.getD 0)).foldl max (s.mesh.claimTb.getD 0)

/-- A higher share joins those that wait for their time; one that is no higher than a waiting one takes its place. -/
def addRaise : List (Int × Nat) → Int → Nat → List (Int × Nat)
  | [], x, t => [(x, t)]
  | (y, u) :: r, x, t => if x ≤ y then [(x, u)] else (y, u) :: addRaise r x t

/-- A share that falls takes effect at once; a share that rises, 40 s after the claim that raised it (R333). -/
def State.newShare (s : State) : State :=
  if s.fld R.SEQ_GUARD_CFG F.SEQ_GUARD_CFG_SHARE [] = 1 ∧ s.claimers ≠ [] then
    let x := s.shareNow
    s.onSeqr (fun q =>
      let q1 := { q with fallback := false }
      if x ≤ q.share then { q1 with share := x, raise := [] }
      else { q1 with raise := addRaise q.raise x (s.lastClaimTb + 40 * tbSecond) })
  else s

/-! ### The demand guard (R331, R332) -/

/-- P_guard in mW; none while billing answers NOTIME (R331, R332). -/
def State.guardLimit (s : State) : Option Int :=
  match s.bil.lastB with
  | none => none
  | some t =>
    if s.bil.mode = .unknown then none
    else
      let cfg := s.bil.demcfg
      let c0 : Int := s.fld R.SEQ_GUARD_CONTRACT F.SEQ_GUARD_CONTRACT_POWER [] * (1000 - s.fld R.SEQ_GUARD_CFG F.SEQ_GUARD_CFG_MARGIN []) / 1000
      let c := if s.fld R.SEQ_GUARD_CFG F.SEQ_GUARD_CFG_SHARE [] = 1 then c0 * s.seqr.share / (max 1 s.siteLimit : Nat) else c0
      let n := if demSliding cfg then demN cfg else 1
      let l := demLen cfg * n
      let e : Int := s.demEnergy 6
      let rem := (s.provisional t).2.stop - t
      some (max 0 (c * l / 3600 - e) * 3600 / (max rem 1000 : Nat))

/-! ### Pumps (R336, R390) -/

/-- The duty in 1/256 that an output asks of its pump. -/
def State.pumpDuty (s : State) (o : Fin 6) : Nat :=
  let f := fun x => s.fld R.SEQ_THERMCFGn x [o.1]
  match s.cableTemp o with
  | none => Config.freeOf "pump duty without a cable temperature" [o.1] % 257
  | some t =>
    let top : Int := f F.SEQ_THERMCFGn_T_DERATE * 65536
    let lo := top - 20 * 65536
    let m : Int := f F.SEQ_THERMCFGn_MIN_DUTY
    let num := if t ≤ lo then m * (20 * 65536) else if top ≤ t then 100 * (20 * 65536) else m * (20 * 65536) + (100 - m) * (t - lo)
    (rdiv (num * 256) (100 * 20 * 65536)).toNat

/-- An output whose pump runs, on which PG. -/
def State.pumpRuns (s : State) (o : Fin 6) : Bool :=
  s.fld R.SEQ_THERMCFGn F.SEQ_THERMCFGn_PUMP_EN [o.1] == 1 && (s.so o).postRun.isSome

/-- The sequencer owns a PG's DUTY while some output names it with PUMP_EN = 1 (R390). -/
def State.pgOwned (s : State) (k : Nat) : Bool :=
  (idx 6).any (fun o => s.fld R.SEQ_THERMCFGn F.SEQ_THERMCFGn_PUMP_EN [o.1] == 1 && s.fld R.SEQ_THERMCFGn F.SEQ_THERMCFGn_PUMP_PG [o.1] == k)

/-- The sequencer sets the duty of every PG that it owns: the highest that any output asks for. -/
def State.setPumps (s : State) : State :=
  (idx 8).foldl (fun (s : State) (k : Fin 8) =>
    if s.pgOwned k.1 then
      let d := ((idx 6).filter (fun o => s.pumpRuns o && s.fld R.SEQ_THERMCFGn F.SEQ_THERMCFGn_PUMP_PG [o.1] == k.1)).map (fun o => s.pumpDuty o)
      (s.setFld R.LSW_PGk F.LSW_PGk_DUTY [k.1] (d.foldl max 0)).pgSync k
    else s) s

end Sys2Proof.Machine
end

