-- ==== Sys2Proof/Machine/SeqCmds.lean ====
section
/-!
DEFINITION. The sequencer's timers, cabinets, setpoint period, host commands and mesh share (chapter 10).
-/

namespace Sys2Proof.Machine

/-! ### Idle, unavailable and waiting states -/

/-- What an output does by itself at a step of the sequencer: readiness (R317, R319), LOCK to LINK, LINK to SPEC_CHECK. -/
def State.pollOut (s : State) (o : Fin 6) : State :=
  let p := (s.veh.pilots[o]).state
  match (s.so o).state with
  | .idle => if s.outputReady o then (if 1 ≤ p ∧ p ≤ 3 then s.toLock o else s) else s.enter o .unavailable
  | .unavailable =>
    if s.outputReady o then (if p = 0 then s.enter o .idle else if 1 ≤ p ∧ p ≤ 3 then s.toLock o else s) else s
  | .lock => s.tryLink o
  | .link => s.trySpec o
  | _ => s

/-- Every output. -/
def State.pollAll (s : State) : State := (idx 6).foldl (fun (s : State) (o : Fin 6) => s.pollOut o) s

/-- The output has been in its present state for `us` µs. -/
def State.inStateUs (s : State) (o : Fin 6) (us : Nat) : Bool := decide ((s.so o).enterTb + us * 25 ≤ s.clock.tb)

/-! ### Timers (R314, R317, R323, R338 to R340) -/

/-- LOCK_TIMEOUT. -/
def seqLockTimeout (o : Output) (s : State) : State :=
  let pp := (s.veh.pp[o]).1
  if (s.so o).state = .lock ∧ s.inStateUs o 2000000 then s.toFault o (if pp = 0 ∨ pp = 7 then 7 else 17) else s

/-- SPEC_HOLD_TIMEOUT: lock and SID are kept, the cable-check result is discarded (R323). -/
def seqSpecHold (o : Output) (s : State) : State :=
  if (s.so o).state = .specReady ∧ s.inStateUs o 60000000 then
    (s.onSo o (fun q => { q with holdUsed := true, verdictV := none })).toRollback o true
  else s

/-- NO_OUTCOME_TIMEOUT: 240 s after the session start (R314). -/
def seqNoOutcome (o : Output) (s : State) : State :=
  let q := s.so o
  if q.startTb.any (fun t => decide (t + 240 * tbSecond ≤ s.clock.tb)) ∧ q.auth ≤ 1 ∧ q.stopped = false ∧ q.ended = false then
    s.withdrawAuth o 5
  else s

/-- ROLLBACK_TIMEOUT. -/
def seqRollbackTimeout (o : Output) (s : State) : State :=
  if (s.so o).state = .rollback ∧ s.inStateUs o 1000000 then s.toFault o 16 else s

/-- WAIT_UNPLUG_DONE: the SID is released (R312). -/
def seqUnplugged (o : Output) (s : State) : State :=
  if (s.so o).state = .waitUnplug ∧ s.pilotALong o then
    let s1 := s.settleA o
    let s2 := match (s.so o).sid with | some i => s1.freeSid i | none => s1
    let s3 := s2.onSo o (fun q => { q with sid := none, auth := 0, fiveUntil := none, maskKey := [] })
    let s4 := s3.onVeh (fun v => { v with proto := v.proto.set o Proto.reset })
    (s4.enter o .idle).pollOut o
  else s

/-- ALLOCATION_ZERO_PAUSE. -/
def seqZeroPause (o : Output) (s : State) : State :=
  if isDc o ∧ (s.so o).state = .charging ∧ (s.so o).zeroAllocTb.any (fun t => decide (t + tbSecond ≤ s.clock.tb)) then s.enter o .paused else s

/-- AC_PAUSE_LIMIT: pilot B for 60 s without a break in PAUSED; the stop is recorded with cause 1 (R338). -/
def seqPauseLimit (o : Output) (s : State) : State :=
  let p := s.veh.pilots[o]
  if isDc o = false ∧ (s.so o).state = .paused ∧ p.state = 1 ∧ max p.tb (s.so o).enterTb + 60 * tbSecond ≤ s.clock.tb then
    s.stopOut o 1
  else s

/-- WELDCHECK after the request has been withdrawn (R339, R340). -/
def State.toWeldcheck (s : State) (o : Fin 6) : State := (s.withdraw o).enter o .weldcheck

/-- What the sequencer does with an accepted pilot state (R316, R317, R340). -/
def State.pilotSeen (s : State) (o : Fin 6) : State :=
  let x := (s.veh.pilots[o]).state
  let gone := x = 0 ∨ x = 4 ∨ x = 6
  let st := (s.so o).state
  match st with
  | .idle | .unavailable => s.pollOut o
  | .lock | .link => if gone then ((((s.stopCause o 7).endSession o).startFive o).enter o .waitUnplug) else s.pollOut o
  | _ =>
    if st.energised ∧ gone then s.toFault o 7
    else if isDc o then s
    else match st, x with
      | .ready, 2 => (s.request o true).enter o .charging
      | .charging, 1 => (s.request o false).enter o .paused
      | .paused, 2 => (s.request o true).enter o .charging
      | .paused, 1 => s.request o false
      | .stopping, 1 => s.toWeldcheck o
      | _, _ => s

/-- What the sequencer does with an accepted PP code (R317). -/
def State.ppSeen (s : State) (o : Fin 6) : State :=
  let c := (s.veh.pp[o]).1
  let st := (s.so o).state
  if c = 0 ∨ c = 7 then
    (if st.energised then s.toFault o 7
     else if st = .link then ((((s.stopCause o 7).endSession o).startFive o).enter o .waitUnplug)
     else s)
  else s.pollOut o

/-- STOPPING_TIMEOUT: the request is withdrawn anyway and the current is logged (R339). -/
def seqStopTimeout (o : Output) (s : State) : State :=
  if isDc o ∧ (s.so o).state = .stopping ∧ s.inStateUs o 1000000 then
    (s.logEv .unlockCurrent o.1 7 0 (s.so o).sidNat ((s.laneQty o 2 0).getD 0).natAbs).toWeldcheck o
  else s

/-- AC_STOP_TIMEOUT (R340). -/
def seqAcStop (o : Output) (s : State) : State :=
  if isDc o = false ∧ (s.so o).state = .stopping ∧ s.inStateUs o 3000000 then s.toWeldcheck o else s

/-- PILOT_5PCT_END (R339). -/
def seqFiveEnd (o : Output) (s : State) : State :=
  if (s.so o).fiveUntil.any (fun t => decide (t ≤ s.clock.tb)) then
    (s.onSo o (fun q => { q with fiveUntil := none })).drivePilot o .steady
  else s

/-- OUTPUT_VOLTAGE_REACHED: within 10 V of the hint or of the vehicle's target (R317, R322). -/
def seqVoltage (o : Output) (mv : Nat) (s : State) : State :=
  let near := fun (t : Nat) => decide ((diffInt mv t).natAbs ≤ 10000)
  match (s.so o).state with
  | .specPrecharge =>
    if near (1000 * s.useFld R.SEQ_CFGn F.SEQ_CFGn_PRECHARGE_HINT [o.1]) then s.enter o .specReady else s
  | .precharge => match (s.so o).target with
    | some t => if near t then s.enter o .ready else s
    | none => s
  | _ => s

/-- OUTPUT_BELOW_60V in ROLLBACK or FAULT (R317, R323); in any other state the pilot leaves the F of a safe-off (R379). -/
def seqBelow60 (o : Output) (mv : Nat) (s : State) : State :=
  if mv < 60000 then
    match (s.so o).state with
    | .rollback =>
      if (s.so o).toLink then ((s.request o false).onSo o (fun q => { q with toLink := false })).toLink o
      else (s.withdraw o).toUnlock o
    | .fault => s.toUnlock o
    | st => if (s.veh.pilots[o]).drive = .minus12 then s.drivePilot o (s.pilotOf o st) else s
  else s

/-- STOP_CURRENT_LOW: a DC output in STOPPING below 5 A (R339). -/
def seqStopLow (o : Output) (ma : Int) (s : State) : State :=
  if isDc o ∧ (s.so o).state = .stopping ∧ ma.natAbs < 5000 then s.toWeldcheck o else s

/-! ### Cabinets (R324 to R328) -/

/-- A setpoint frame (R325). -/
def setpointFrame (seq tb out mode v : Nat) (i p : Int) : Bytes :=
  let b := leBytes 4 seq ++ leBytes 8 tb ++ leBytes 1 out ++ leBytes 1 mode ++ leBytes 2 50 ++ leBytes 4 v
    ++ leBytes 4 (unsigned 32 i) ++ leBytes 4 (unsigned 32 p)
  b ++ leBytes 4 (crc32c b)

/-- I_LIMIT in CHARGING (R329), mA. -/
def State.iLimit (s : State) (o : Fin 6) : Int :=
  let q := s.so o
  let v := max 50000 (s.outMv o)
  let byPower := q.alloc * 1000 / v
  if q.alloc < 0 ∨ q.iTarget < 0 then max q.iTarget (max (-(s.icap o)) byPower) else min q.iTarget (min (s.icap o) byPower)

/-- MODE, V_TARGET, I_LIMIT and P_LIMIT for the state of an output (R317, R322, R325, R329, R339, R358). -/
def State.setpoint (s : State) (o : Fin 6) : Nat × Nat × Int × Int :=
  let q := s.so o
  let hint := 1000 * s.useFld R.SEQ_CFGn F.SEQ_CFGn_PRECHARGE_HINT [o.1]
  let tgt := q.target.getD hint
  match q.state with
  | .specCheck | .check => (1, 1000 * (if h : o.1 < 4 then (s.guard.iso[o.1]'h).checkV else 0), 200, 0)
  | .specPrecharge | .specReady => (2, hint, 2000, 0)
  | .precharge => (2, tgt, 2000, 0)
  | .ready | .paused => (3, tgt, 0, 0)
  | .charging => (3, tgt, s.iLimit o, q.alloc / 1000)
  | .stopping => (4, tgt, 0, 0)
  | .weldcheck | .rollback | .fault => (5, 0, 0, 0)
  | _ => (0, 0, 0, 0)

/-- The first CHECK setpoint of a cable check goes out (R358). -/
def State.firstCheck (s : State) (o : Fin 6) : State :=
  if h : o.1 < 4 then
    s.onGuard (fun g => { g with iso := upd g.iso ⟨o.1, h⟩ (fun i =>
      if i.check = 1 ∧ i.firstCheckTb.isNone then { i with firstCheckTb := some s.clock.tb } else i) })
  else s

/-- The setpoint frames of a period: one for each DC output that a cabinet serves (R324). -/
def State.sendSetpoints (s : State) : State :=
  (idx 6).foldl (fun (s : State) (o : Fin 6) =>
    if isDc o && s.has o then
      let k := s.cabOf o
      let p := s.setpoint o
      let n := ((s.seqr.cabs[k]).spSeq + 1) % 2 ^ 32
      let fr := setpointFrame n s.clock.tb o.1 p.1 p.2.1 p.2.2.1 p.2.2.2
      let act := fun (c : Cabinet) => if p.1 = 0 ∨ (2 ≤ c.state ∧ c.state ≤ 4) then none else some (c.activeTb.getD s.clock.tb)
      let cabs := upd s.seqr.cabs k (fun c => { c with spSeq := n, activeTb := act c })
      let s1 := s.onSeqr (fun q => { q with frames := q.frames ++ [(k.1, fr)], cabs := cabs })
      (if p.1 = 1 then s1.firstCheck o else s1).bump 20 1
    else s) (s.onSeqr (fun q => { q with frames := [] }))

/-- R343: while the sequencer is suspended, the last setpoint frame of each cabinet goes out again with a new SEQ and TB. -/
def State.repeatSetpoints (s : State) : State :=
  s.seqr.frames.foldl (fun (s : State) (f : Nat × Bytes) =>
    let k : Fin 8 := Fin.ofNat 8 f.1
    let n := ((s.seqr.cabs[k]).spSeq + 1) % 2 ^ 32
    let b := leBytes 4 n ++ leBytes 8 s.clock.tb ++ (f.2.drop 12).take 16
    (s.onSeqr (fun q => { q with frames := q.frames ++ [(f.1, b ++ leBytes 4 (crc32c b))], cabs := upd q.cabs k (fun c => { c with spSeq := n }) })).bump 20 1)
    (s.onSeqr (fun q => { q with frames := [] }))

/-- CABINET_STATUS_FRAME (R326, R327). -/
def seqStatus (k : CabNo) (netB : Bool) (fr : Bytes) (s0 : State) : State :=
  let s := s0.bump 20 1
  let f := fun off n => ofLE ((fr.drop off).take n)
  if fr.length = 32 ∧ f 28 4 = crc32c (fr.take 28) then
    let c := s.seqr.cabs[k]
    let c1 := if netB then { c with bTb := some s.clock.tb } else { c with aTb := some s.clock.tb }
    let newer := match c.seq with
      | none => true
      | some l => let d := (f 0 4 + 2 ^ 32 - l) % 2 ^ 32
        1 ≤ d && d ≤ 2 ^ 31
    let st := f 9 1
    let c2 := if newer then
        { c1 with seq := some (f 0 4), taken := some (netB, fr), state := st, echo := f 4 4, vMeas := f 12 4,
                  iMeas := signed 32 (f 16 4), pAvail := f 20 4, temp := signed 16 (f 24 2),
                  lost := c.lost && !(2 ≤ st && st ≤ 4), activeTb := if 2 ≤ st ∧ st ≤ 4 then none else c.activeTb }
      else match c.taken with
        | some (n, x) => if n ≠ netB ∧ c.seq = some (f 0 4) ∧ x ≠ fr then { c1 with disagree := satAdd 16 c.disagree 1 } else c1
        | none => c1
    s.onSeqr (fun q => { q with cabs := q.cabs.set k c2 })
  else s

/-- A cabinet is lost: every output it serves stops with cause 10 (R328). -/
def State.loseCab (s : State) (k : Fin 8) : State :=
  let s1 := s.onSeqr (fun q => { q with cabs := upd q.cabs k (fun c => { c with lost := true, losses := satAdd 16 c.losses 1, activeTb := none }) })
  (s.servedBy k).foldl (fun (s : State) (o : Fin 6) => if (s.so o).state.energised then s.toFault o 10 else s.pollOut o) s1

/-- A good status frame came on a network within 50 ms. -/
def onWithin (t : Option Nat) (tb : Nat) : Bool := t.any (fun x => decide (tb < x + 1250000))

/-- CABINET_LOST: no good status frame for 50 ms, or it reports fault. -/
def seqCabLost (k : CabNo) (s : State) : State :=
  let c := s.seqr.cabs[k]
  if c.lost = false ∧ ((onWithin c.aTb s.clock.tb = false ∧ onWithin c.bTb s.clock.tb = false) ∨ c.state = 5) then s.loseCab k else s

/-- CABINET_START_TIMEOUT: not ready 5.0 s after its first setpoint other than OFF. -/
def seqCabStart (k : CabNo) (s : State) : State :=
  let c := s.seqr.cabs[k]
  if c.lost = false ∧ c.activeTb.any (fun t => decide (t + 5 * tbSecond ≤ s.clock.tb)) then s.loseCab k else s

/-! ### The setpoint period (R330, R334 to R337) -/

/-- What holds an allocation below the vehicle's request (`SEQ_LIMITn`). -/
def State.limiterOf (s : State) (o : Fin 6) (a : Int) (src : Nat) : Nat :=
  let r := (s.vehRequest o).natAbs
  let l := s.demandLimits o
  let d := (s.requestOf o).natAbs
  if (r : Int) ≤ a then 0
  else if (d : Int) ≤ a then (if (d : Int) = l.1 then 1 else if (d : Int) = l.2.1 then 2 else 3)
  else if a < min (d : Int) (s.fld R.SEQ_CFGn F.SEQ_CFGn_FLOOR_KW [o.1] * 1000000 : Nat) then 7
  else match src with | 0 => 4 | 1 => 5 | _ => 6

/-- The division of a budget among the sharing outputs of one direction. -/
def State.divide (s : State) (export_ : Bool) (b : Int) : List Claimant :=
  let os := (idx 6).filter (fun o => s.sharing o && (decide (s.requestOf o < 0) == export_))
  let mk := fun (o : Fin 6) => ({ key := o.1, cls := s.fld R.SEQ_CFGn F.SEQ_CFGn_PRIORITY [o.1], d := ((s.requestOf o).natAbs : Int),
                                  floor := (s.fld R.SEQ_CFGn F.SEQ_CFGn_FLOOR_KW [o.1] * 1000000 : Nat), a := 0 } : Claimant)
  let start := fun (n : Nat) => ((s.seqr.outs[n]?).bind (·.startTb)).getD 0
  waterFill (sortBy (fun a b => a.cls < b.cls || (a.cls == b.cls && start a.key ≤ start b.key)) (os.map mk)) b

/-- The import budget and its source: 0 site limit, 1 demand guard, 2 mesh share, 3 mesh fallback (R330). -/
def State.importBudget (s : State) : Int × Nat :=
  let site : Int := s.fld R.SEQ_SITE_LIMIT F.SEQ_SITE_LIMIT_POWER []
  let b1 := if s.fld R.SEQ_GUARD_CONTRACT F.SEQ_GUARD_CONTRACT_POWER [] = 0 then (site, 0)
    else match s.guardLimit with | some g => if g < site then (g, 1) else (site, 0) | none => (site, 0)
  if s.fld R.SEQ_GUARD_CFG F.SEQ_GUARD_CFG_SHARE [] = 1 ∧ s.seqr.share < b1.1 then
    (s.seqr.share, if s.seqr.fallback then 3 else 2)
  else b1

/-- The state changes that a period makes: DC PAUSED resumes above 0 W; AC below 6 A pauses with the pilot at steady +12 V,
otherwise the pilot carries the limit, and CHARGING goes on while the vehicle reads C (R317, R334). An AC outlet in STOPPING whose
vehicle reads B goes to WELDCHECK (R340). -/
def State.afterAlloc (s : State) (o : Fin 6) : State :=
  let q := s.so o
  if isDc o then
    match q.state with
    | .paused => if q.alloc ≠ 0 then s.enter o .charging else s
    | _ => s
  else match q.state with
    | .ready | .charging | .paused =>
      match acDuty (s.acLimit o) with
      | some d =>
        let s1 := s.drivePilot o (.pwm d)
        if q.state ≠ .charging ∧ (s.veh.pilots[o]).state = 2 then (s1.request o true).enter o .charging else s1
      | none => (if q.state = .charging then s.enter o .paused else s).drivePilot o .steady
    | .stopping => if (s.veh.pilots[o]).state = 1 then s.toWeldcheck o else s
    | _ => s

/-- SETPOINT_PERIOD: readiness, demands, budget, division, thermal caps, pumps and the setpoint frames. -/
def seqPeriod (s : State) : State :=
  if s.seqr.suspended then s.repeatSetpoints
  else
    let s1 := s.pollAll
    let s2 := s1.onSeqr (fun q => { q with outs := updAll q.outs (fun o x => { x with demand := if s1.sharing o then s1.requestOf o else 0 }) })
    let s3 := s2.newShare
    let b := s3.importBudget
    let imp := s3.divide false b.1
    let exp := s3.divide true (s3.fld R.SEQ_SITE_EXPORT F.SEQ_SITE_EXPORT_POWER [])
    let got := fun (l : List Claimant) (o : Fin 6) => ((l.find? (fun c => c.key == o.1)).map (·.a)).getD 0
    let s4 := s3.onSeqr (fun q =>
      { q with guardPower := s3.guardLimit.getD 0, budget := b.1, source := b.2,
               guardBlind := s3.fld R.SEQ_GUARD_CONTRACT F.SEQ_GUARD_CONTRACT_POWER [] != 0 && s3.guardLimit.isNone,
               nodesMax := max q.nodesMax s3.nodesHeard,
               outs := updAll q.outs (fun o x =>
                 let a := if x.demand < 0 then -(got exp o) else got imp o
                 let cap0 := s3.sharing o && s3.icap o == 0
                 { x with alloc := a, limiter := s3.limiterOf o a.natAbs b.2,
                          zeroAllocTb := if a = 0 ∧ x.state = .charging then some (x.zeroAllocTb.getD s.clock.tb) else none,
                          zeroCapTb := if cap0 then some (x.zeroCapTb.getD s.clock.tb) else none,
                          postRun := if x.state.energised then some (s.clock.tb + tbSecond * s3.fld R.SEQ_THERMCFGn F.SEQ_THERMCFGn_POST_RUN [o.1])
                                     else x.postRun }) })
    let s5 := (idx 6).foldl (fun (s : State) (o : Fin 6) => s.afterAlloc o) s4
    s5.setPumps.sendSetpoints

/-- THERMAL_STOP: a cap of 0 for 30 s (R335). -/
def seqThermal (o : Output) (s : State) : State :=
  if (s.so o).zeroCapTb.any (fun t => decide (t + 30 * tbSecond ≤ s.clock.tb)) ∧ s.sharing o then s.stopOut o 11 else s

/-- PUMP_POST_RUN_END (R336). -/
def seqPumpEnd (o : Output) (s : State) : State :=
  if (s.so o).postRun.any (fun t => decide (t ≤ s.clock.tb)) ∧ (s.so o).state.energised = false then
    (s.onSo o (fun q => { q with postRun := none })).setPumps
  else s

/-- DEGRADED_STOP: 120 s before the Fireguard's limit (R342). -/
def seqDegStop (s : State) : State :=
  if s.guard.degraded.any (fun t => decide (t + 5280 * tbSecond ≤ s.clock.tb)) then
    (idx 6).foldl (fun (s : State) (o : Fin 6) =>
      let c := (s.so o).state.code
      if 7 ≤ c ∧ c ≤ 11 then s.stopOut o 12 else s) s
  else s

/-- HOST and PWM channels follow `LSW_ON` again (R402). -/
def State.applyOn (s : State) : State :=
  let on := s.fld R.LSW_ON F.LSW_ON_ON []
  (idx 24).foldl (fun (s : State) (n : Fin 24) =>
    let m := s.lsMode n.1
    if m = 1 ∨ m = 2 then s.onChan n (fun c => c.switch s.lsw.uv (bitOf on n.1) false) else s) s

/-- What an output's sequencer has missed: a fall of HV_EN first, then the pilot and PP (R318, R343). -/
def State.seeMissed (s : State) (o : Fin 6) : State :=
  let s1 := s.seeFall o
  if (s.so o).missed then (((s1.onSo o (fun q => { q with missed := false })).pilotSeen o).ppSeen o) else s1

/-- HEARTH_RESUME (R343): the sequencer goes on in the same state, with the same SID and timers, and sees what the Fireguard dropped in the
meantime (R25). -/
def seqResume (s : State) : State :=
  if s.seqr.suspended then
    let s1 := ((s.onSeqr (fun q => { q with suspended := false })).onHearth (fun h => { h with running := true, busyUntil := s.clock.tb })).applyOn
    (idx 6).foldl (fun (s : State) (o : Fin 6) => s.seeMissed o) s1
  else s

/-! ### SEQ_CMD (R319, R338, R341) -/

/-- CLEAR of one output: a latch of reason 2 with the line deasserted and the output below 60 V, a latch of reason 5 with
every mirror open; then readiness can return when no latch is left (R319, R351). -/
def State.clearOut (s : State) (o : Fin 6) : State :=
  let ok := match (s.go o).latch with
    | some 2 => !(s.linesOf o).any (fun l => s.grate.lines[l.1]?.getD false) && s.below60 o
    | some 5 => s.mirrorsOpen o
    | _ => false
  let s1 := if ok then s.onGo o (fun g => { g with latch := none, welded := false }) else s
  if (s1.go o).latch.isNone then (s1.onSo o (fun q => { q with needClear := false })).pollOut o else s1

/-- OP 4 on one output; with nothing running the cause is 18 (R341). -/
def State.blockOut (s : State) (o : Fin 6) : State :=
  let idle := (s.so o).state == .idle || (s.so o).state == .unavailable
  (s.onSo o (fun q => { q with blocked := true, cause := if idle then 18 else q.cause })).pollOut o

/-- What an OP of `SEQ_CMD` does to one output: 1 stops with cause 2, 2 unlocks in WAIT_UNPLUG only, 3 clears, 4 blocks, 5
lifts the block; other values do nothing. -/
def State.seqOp (s : State) (op : Nat) (o : Fin 6) : State :=
  match op with
  | 1 => s.stopOut o 2
  | 2 => if (s.so o).state = .waitUnplug then s.driveLock o true else s
  | 3 => s.clearOut o
  | 4 => s.blockOut o
  | 5 => (s.onSo o (fun q => { q with blocked := false })).pollOut o
  | _ => s

/-- A write of `SEQ_CMD`: OP acts on each named output. -/
def State.writeSeqCmd (s : State) (v : Nat) : Nat × State :=
  (OK, (idx 6).foldl (fun (s : State) (o : Fin 6) =>
    if bitOf (F.SEQ_CMD_OUTPUTS.get v) o.1 then s.seqOp (F.SEQ_CMD_OP.get v) o else s) s)

/-! ### The mesh share (R333) -/

/-- MESH_SHARE_RAISE: the first share that waits, 40 s after the claim that raised it. -/
def seqShareRaise (s : State) : State :=
  match s.seqr.raise with
  | (x, t) :: r => if t ≤ s.clock.tb then s.onSeqr (fun q => { q with share := x, raise := r }) else s
  | [] => s

/-- MESH_FALLBACK: no claim of another node for 60 s. -/
def seqFallback (s : State) : State :=
  if s.fld R.SEQ_GUARD_CFG F.SEQ_GUARD_CFG_SHARE [] = 1 ∧ s.claimers = [] then
    s.onSeqr (fun q => { q with fallback := true, raise := [],
                                share := (s.fld R.SEQ_SITE_LIMIT F.SEQ_SITE_LIMIT_POWER [] / max 1 q.nodesMax : Nat) })
  else s

/-! ### The meanings -/

def execLockTimeout (o : Output) (s : State) : Host.Outcome State Fault Refusal := .next (seqLockTimeout o s)
def execSpecHoldTimeout (o : Output) (s : State) : Host.Outcome State Fault Refusal := .next (seqSpecHold o s)
def execNoOutcomeTimeout (o : Output) (s : State) : Host.Outcome State Fault Refusal := .next (seqNoOutcome o s)
def execRollbackTimeout (o : Output) (s : State) : Host.Outcome State Fault Refusal := .next (seqRollbackTimeout o s)
def execWaitUnplugDone (o : Output) (s : State) : Host.Outcome State Fault Refusal := .next (seqUnplugged o s)
def execAllocationZeroPause (o : Output) (s : State) : Host.Outcome State Fault Refusal := .next (seqZeroPause o s)
def execAcPauseLimit (o : Output) (s : State) : Host.Outcome State Fault Refusal := .next (seqPauseLimit o s)
def execStoppingTimeout (o : Output) (s : State) : Host.Outcome State Fault Refusal := .next (seqStopTimeout o s)
def execAcStopTimeout (o : Output) (s : State) : Host.Outcome State Fault Refusal := .next (seqAcStop o s)
def execPilot5pctEnd (o : Output) (s : State) : Host.Outcome State Fault Refusal := .next (seqFiveEnd o s)
def execOutputVoltageReached (o : Output) (mv : Nat) (s : State) : Host.Outcome State Fault Refusal := .next (seqVoltage o mv s)
def execOutputBelow60v (o : Output) (mv : Nat) (s : State) : Host.Outcome State Fault Refusal := .next (seqBelow60 o mv s)
def execStopCurrentLow (o : Output) (ma : Int) (s : State) : Host.Outcome State Fault Refusal := .next (seqStopLow o ma s)
def execSetpointPeriod (s : State) : Host.Outcome State Fault Refusal := .next (seqPeriod s)
def execCabinetStatusFrame (k : CabNo) (netB : Bool) (frame : Bytes) (s : State) : Host.Outcome State Fault Refusal := .next (seqStatus k netB frame s)
def execCabinetLost (k : CabNo) (s : State) : Host.Outcome State Fault Refusal := .next (seqCabLost k s)
def execCabinetStartTimeout (k : CabNo) (s : State) : Host.Outcome State Fault Refusal := .next (seqCabStart k s)
def execThermalStop (o : Output) (s : State) : Host.Outcome State Fault Refusal := .next (seqThermal o s)
def execPumpPostRunEnd (o : Output) (s : State) : Host.Outcome State Fault Refusal := .next (seqPumpEnd o s)
def execDegradedStop (s : State) : Host.Outcome State Fault Refusal := .next (seqDegStop s)
def execHearthResume (s : State) : Host.Outcome State Fault Refusal := .next (seqResume s)
def execMeshShareRaise (s : State) : Host.Outcome State Fault Refusal := .next (seqShareRaise s)
def execMeshFallback (s : State) : Host.Outcome State Fault Refusal := .next (seqFallback s)

end Sys2Proof.Machine
end

