-- ==== Sys2Proof/Machine/VehOps.lean ====
section
/-!
DEFINITION. Shared operations of the vehicle link (chapter 09): the modem matrix and its damper (R287 to R290, R311), the
joint SLAC decision (R292), messages to and from a vehicle with their TLS records (R74, R299, R303), and relayed requests
(R306).
-/

namespace Sys2Proof.Machine

/-! ### The modem matrix and the damper -/

/-- STRUCTURE declares the output as DC MCS (R287, R296). -/
def State.isMcs (s : State) (o : Fin 6) : Bool := (s.outRec o).kind == 1

/-- A modem serves the output: declared, with PLC 1, not DC MCS (R287). -/
def State.plcOn (s : State) (o : Fin 6) : Bool := s.has o && !s.isMcs o && s.digital o

/-- The modem that drives coupler `o` and has not failed. -/
def State.modemFor (s : State) (o : Fin 6) : Option (Fin 7) :=
  if s.plcOn o then (idx 7).find? (fun m => (s.veh.modems[m]).coupler == o.1 && !(s.veh.modems[m]).failed) else none

/-- Change a modem. -/
def State.onModem (s : State) (m : Fin 7) (f : Modem → Modem) : State :=
  s.onVeh (fun v => { v with modems := upd v.modems m f })

/-- One frame in the units of a token bucket. -/
def frameToken : Nat := 25000000

/-- The buckets of a modem refilled up to TB `tb` at the rates and bursts of `VEH_DAMPER` (R311). -/
def Modem.refill (m : Modem) (tb damper : Nat) : Modem :=
  let dt := tb - m.refillTb
  { m with mgmt := min (F.VEH_DAMPER_MGMT_BURST.get damper * frameToken) (m.mgmt + dt * F.VEH_DAMPER_MGMT_RATE.get damper),
           data := min (F.VEH_DAMPER_DATA_BURST.get damper * frameToken) (m.data + dt * F.VEH_DAMPER_DATA_RATE.get damper),
           refillTb := tb }

/-- Take one frame from a bucket; a frame that finds its bucket empty is held back and counted (R311). -/
def Modem.take (m : Modem) (mgmt : Bool) : Bool × Modem :=
  if frameToken ≤ (if mgmt then m.mgmt else m.data) then
    (true, { m with mgmt := if mgmt then m.mgmt - frameToken else m.mgmt,
                    data := if mgmt then m.data else m.data - frameToken,
                    txFrames := (m.txFrames + 1) % 65536 })
  else (false, { m with txDropped := satAdd 16 m.txDropped 1 })

/-- Send one frame to the vehicle of an output: over its modem, or over TSn on an MCS output. -/
def State.plcSend (s : State) (o : Fin 6) (mgmt : Bool) : Bool × State :=
  if s.isMcs o then
    (if h : o.1 < 4 then (if (s.veh.t1s[o.1]'h).link then (true, s.bump 18 1) else (false, s)) else (false, s))
  else
    match s.modemFor o with
    | none => (false, s)
    | some m =>
      let r := ((s.veh.modems[m]).refill s.clock.tb (s.reg R.VEH_DAMPER [])).take mgmt
      let s1 := s.onModem m (fun _ => r.2)
      if r.1 then (true, s1.bump 18 1) else (false, s1)

/-- A frame from the vehicle of an output has been received. -/
def State.plcRecv (s : State) (o : Fin 6) : State :=
  let s1 := match s.modemFor o with
    | some m => s.onModem m (fun x => { x with rxFrames := (x.rxFrames + 1) % 65536 })
    | none => s
  s1.bump 19 1

/-- A vehicle is reachable: over a matched modem or a linked TS port. -/
def State.linkUp (s : State) (o : Fin 6) : Bool :=
  if s.isMcs o then (if h : o.1 < 4 then (s.veh.t1s[o.1]'h).link else false)
  else match s.modemFor o with | some m => (s.veh.modems[m]).matched | none => false

/-- Communication on an output is lost (cause 6): LINK and every later running state stop (R317, R341). -/
def State.commLost (s : State) (o : Fin 6) : State :=
  match (s.so o).state with
  | .lock => s
  | _ => s.stopOut o 6

/-- The vehicle of an output has left its modem's network. -/
def State.unmatch (s : State) (o : Fin 6) : State :=
  match s.modemFor o with
  | some m => s.onModem m (fun x => { x with matched := false, inSlac := false })
  | none => s

/-! ### Joint SLAC (R291 to R295) -/

/-- A coupler is a candidate for a RUN_ID (R291). -/
def State.slacCandidate (s : State) (o : Fin 6) : Bool :=
  let p := s.veh.pilots[o]
  s.plcOn o && (1 ≤ p.state && p.state ≤ 3) && p.line s.clock.tb == .pwm 50 &&
  match s.modemFor o with | some m => !(s.veh.modems[m]).matched | none => false

/-- The candidates of a run that have a measured profile. -/
def SlacRun.measured (r : SlacRun) : List (Fin 6) :=
  (idx 6).filter (fun c => bitOf r.candidates c.1 && (r.sums[c]).2 != 0)

/-- Neighbour values that the run uses (R292). -/
def SlacRun.others (r : SlacRun) : List Nat := if F.VEH_SLACCFG_NEIGHBOUR.get r.cfg = 1 then r.neighbours else []

/-- Coupler `c` stays MARGIN below every neighbour value. -/
def SlacRun.clearOfNeighbours (r : SlacRun) (c : Fin 6) : Bool :=
  let a := r.sums[c]
  r.others.all (fun x => decide (a.1 + F.VEH_SLACCFG_MARGIN.get r.cfg * a.2 ≤ x * a.2))

/-- Coupler `c` meets R292: A_c at most ATTEN_MAX, and MARGIN below every other candidate and every neighbour value. -/
def SlacRun.wins (r : SlacRun) (c : Fin 6) : Bool :=
  let a := r.sums[c]
  bitOf r.candidates c.1 && a.2 != 0 && decide (a.1 ≤ F.VEH_SLACCFG_ATTEN_MAX.get r.cfg * a.2)
  && r.clearOfNeighbours c
  && r.measured.all (fun d => d == c || decide (a.1 * (r.sums[d]).2 + F.VEH_SLACCFG_MARGIN.get r.cfg * a.2 * (r.sums[d]).2 ≤ (r.sums[d]).1 * a.2))

/-- A_c in 0.5 dB units, rounded down. -/
def SlacRun.atten (r : SlacRun) (c : Fin 6) : Nat := (r.sums[c]).1 / max 1 (r.sums[c]).2

/-- NEXT_ATTEN of a coupler: the lowest competing value; 0xFF for none. -/
def SlacRun.nextAtten (r : SlacRun) (c : Fin 6) : Nat :=
  ((r.measured.filter (fun d => d != c)).map r.atten ++ r.others).foldl min 0xFF

/-- Change one SLAC run. -/
def State.onRun (s : State) (run : Bytes) (f : SlacRun → SlacRun) : State :=
  s.onVeh (fun v => { v with slac := v.slac.map (fun r => if r.runId = run then f r else r) })

/-- A running SLAC run. -/
def State.findRun (s : State) (run : Bytes) : Option SlacRun := s.veh.slac.find? (fun r => r.runId == run)

/-- RESULT of a candidate once the window has closed without it: 5 above ATTEN_MAX, 4 lost to a neighbour, 3 ambiguous; 0
where another coupler of the device has won. -/
def SlacRun.resultOf (r : SlacRun) (w : Option (Fin 6)) (c : Fin 6) : Nat :=
  let a := r.sums[c]
  match w with
  | some x => if x = c then 1 else 0
  | none =>
    if a.2 = 0 ∨ F.VEH_SLACCFG_ATTEN_MAX.get r.cfg * a.2 < a.1 then 5
    else if r.clearOfNeighbours c then 3 else 4

/-- The sound window of a run closes: the winner is decided and sent CM_ATTEN_CHAR.IND (R292). -/
def State.closeRun (s : State) (r : SlacRun) : State :=
  let w := (idx 6).find? r.wins
  let s1 := s.onRun r.runId (fun x => { x with closed := true, winner := w })
  let s2 := s1.onVeh (fun v => { v with ports := updAll v.ports (fun c p =>
    if bitOf r.candidates c.1 then
      { p with result := r.resultOf w c, own := min 255 (r.atten c), next := min 255 (r.nextAtten c),
               ambiguous := if w.isNone then satAdd 8 p.ambiguous 1 else p.ambiguous }
    else p) })
  match w with
  | some c => (s2.plcSend c true).2
  | none => s2

/-! ### Messages -/

/-- The key slots of a vehicle's TLS records: from the vehicle, and to it (R60, R299). -/
def recordSlot (o : Fin 6) (toVehicle : Bool) : Fin 256 := ⟨48 + 8 * o.1 + (if toVehicle then 1 else 0), by have := o.2; split <;> omega⟩

/-- The link of an output's TLS session closes with an alert (R74). -/
def State.tlsClose (s : State) (o : Fin 6) : State :=
  let s1 := ((s.emptySlot (recordSlot o false)).2.emptySlot (recordSlot o true)).2
  let s2 := s1.onVeh (fun v => { v with
    proto := upd v.proto o (fun p => { p with tls := false, tls13 := false, clientCert := false }),
    resp := v.resp.set o (some { msg := "TlsAlert", isolation := 0, failed := true, ongoing := false, args := [], body := [] }) })
  s2.commLost o

/-- The IsolationLevel of a DC output that its responses carry (R356): that of the latest cycle, Invalid for an invalid one. -/
def State.isolationOf (s : State) (o : Fin 6) : Nat :=
  if h : o.1 < 4 then (let i := s.guard.iso[o.1]'h; if i.invalids ≠ 0 then 4 else i.level) else 0

/-- Answer a message of the vehicle (R303): the response, sealed where TLS is in use, leaves as one frame. -/
def State.answer (s : State) (o : Fin 6) (msg : String) (failed ongoing : Bool) (args : List Int) (body : Bytes) : State :=
  let k := if (s.veh.proto[o]).tls then s.keyUse (recordSlot o true) engTLSR 0 else (none, s)
  match k.1 with
  | some _ => k.2.tlsClose o
  | none =>
    let s1 := k.2.onVeh (fun v => { v with resp := v.resp.set o (some { msg, isolation := s.isolationOf o, failed, ongoing, args, body }),
                                           proto := upd v.proto o (fun p => { p with unacked := true }) })
    (s1.plcSend o false).2

/-- A message of the vehicle of an output: it needs the link and a session. A record whose key is orphaned closes the TLS
session instead (R74). -/
def State.vehMsg (s : State) (o : Fin 6) (f : State → State) : State :=
  if s.linkUp o && (s.so o).sid.isSome then
    let s1 := (s.plcRecv o).onVeh (fun v => { v with proto := upd v.proto o (fun p => { p with unacked := false }) })
    if (s.veh.proto[o]).tls then
      let k := s1.keyUse (recordSlot o false) engTLSR 0
      match k.1 with
      | some _ => k.2.tlsClose o
      | none => f k.2
    else f s1
  else s

/-- Change the protocol session of a pilot. -/
def State.onProto (s : State) (o : Fin 6) (f : Proto → Proto) : State :=
  s.onVeh (fun v => { v with proto := upd v.proto o f })

/-- The largest EXI message (R303). -/
def exiMax : Nat := 4096

/-- Some P2 session is open (R304). -/
def State.p2Open (s : State) : Bool :=
  s.host.table.toList.any (fun u => match u with | .host h => h.polder == 2 && !h.opening | _ => false)

/-- The seconds of `VEH_AUTHCFG.DEADLINE`, as TB ticks. -/
def State.deadlineTb (s : State) : Nat := s.fld R.VEH_AUTHCFG F.VEH_AUTHCFG_DEADLINE [] * tbSecond

/-- Place a relayed request in a pilot's window with the next REQ_SEQ, and announce it (R306). -/
def State.relayRequest (s : State) (o : Fin 6) (kind idType : Nat) (ident body : Bytes) : State :=
  let q := (s.veh.relay[o]).seq + 1
  let s1 := s.onVeh (fun v => { v with relay := upd v.relay o (fun r =>
    { r with kind := kind, seq := q % 65536, len := body.length, deadline := some (s.clock.tb + s.deadlineTb), request := body }) })
  s1.notice (if kind = 1 then 3 else 5) (s.so o).sidNat o.1 0 q idType ident (s.sessionPseud o ident)

/-- The relay of a pilot is idle again; REQ_SEQ stays. -/
def State.relayIdle (s : State) (o : Fin 6) : State :=
  s.onVeh (fun v => { v with relay := upd v.relay o (fun r => { r with kind := 0, len := 0, deadline := none, request := [] }) })

end Sys2Proof.Machine
end

