-- ==== Sys2Proof/Machine/AuthCmds.lean ====
section
/-!
DEFINITION. Authorisation (chapter 09): identification in the order of R304, P2's decisions (R306 to R308), and the local
list (R309, R310).
-/

namespace Sys2Proof.Machine

/-! ### The local list -/

/-- EMAIDs are hashed in upper case without hyphens; other identities as they stand (R309). -/
def normIdent (idType : Nat) (ident : Bytes) : Bytes :=
  if idType = 1 then (ident.filter (fun b => b != 0x2D#8)).map (fun b => if 0x61 ≤ b.toNat ∧ b.toNat ≤ 0x7A then b - 0x20#8 else b)
  else ident

/-- The salt of the list. -/
def State.listSalt (s : State) : Bytes :=
  leBytes 8 (s.reg R.VEH_LIST_SALTk [0]) ++ leBytes 8 (s.reg R.VEH_LIST_SALTk [1])

/-- The hash of an identity (R309). -/
def State.identHash (s : State) (idType : Nat) (ident : Bytes) : Nat :=
  ofLE ((sha384 (s.listSalt ++ [BitVec.ofNat 8 idType] ++ normIdent idType ident)).take 16)

/-- What the list says of an identity: denied, accepted, or nothing (R304 step 2). An entry with an expiry needs bill time. -/
def State.listLookup (s : State) (idType : Nat) (ident : Bytes) : Option Bool :=
  if idType = 0 then none
  else match s.veh.list.find? (fun e => e.hash == s.identHash idType ident) with
    | none => none
    | some e =>
      if e.blocked then some false
      else if e.expiry = 0 then some true
      else match s.billNow with
        | some b => if b < e.expiry * 60000 then some true else none
        | none => none

/-- Apply an entry of `VEH_LISTW2` with the hash that W0 and W1 spell; the list is kept under the storage key (R310). -/
def State.applyList (s : State) (v : Nat) : Nat × State :=
  let h := s.reg R.VEH_LISTWk [0] + s.reg R.VEH_LISTWk [1] * 2 ^ 64
  let rest := s.veh.list.filter (fun e => e.hash != h)
  let e : ListEntry := { hash := h, blocked := F.VEH_LISTWk_BLOCKED.get v == 1, expiry := F.VEH_LISTWk_EXPIRY.get v }
  match F.VEH_LISTWk_OP.get v with
  | 1 => if 4096 ≤ rest.length then (FULL, s) else (OK, s.storeUse.onVeh (fun x => { x with list := rest ++ [e] }))
  | 2 => (OK, s.storeUse.onVeh (fun x => { x with list := rest }))
  | 3 => (OK, s.storeUse.onVeh (fun x => { x with list := [] }))
  | _ => (OK, s)

/-! ### Outcomes -/

/-- Settle an identification: the outcome is announced and reaches the sequencer and billing (R304). -/
def State.settle (s : State) (o : Fin 6) (accepted : Bool) (idType : Nat) (ident : Bytes) : State :=
  let s1 := (s.relayIdle o).tellOutcome o (b2n accepted) idType ident
  if accepted then s1.accept o else s1.deny o 3

/-- What the request window holds of an authorisation: type, length and identity. -/
def identBody (idType : Nat) (ident : Bytes) : Bytes := [BitVec.ofNat 8 idType, BitVec.ofNat 8 ident.length] ++ ident

/-- The identity type and identity of the authorisation that is outstanding on a pilot. -/
def State.pendingIdent (s : State) (o : Fin 6) : Nat × Bytes :=
  let r := (s.veh.relay[o]).request
  (ofLE (r.take 1), r.drop 2)

/-- R304: an identification is settled by its checks, the list, P2, or the offline rule. A second outcome is ignored and
logged (R307); a request without an identity that waits for P2 gives way to one with an identity. -/
def State.identify (s : State) (o : Fin 6) (idType : Nat) (ident : Bytes) (checks : Bool) : State :=
  let q := s.so o
  if q.sid.isNone ∨ q.ended then s.outcomeTooLate o
  else if 2 ≤ q.auth then s.logEv .outcomeIgnored o.1 7 0 q.sidNat 0
  else if (s.veh.relay[o]).kind = 1 ∧ ((s.pendingIdent o).1 ≠ 0 ∨ idType = 0) then s
  else if checks = false then s.settle o false idType ident
  else
    let p2 := s.p2Open
    let listed := if s.fld R.VEH_AUTHCFG F.VEH_AUTHCFG_LIST_FIRST [] = 1 ∨ p2 = false then s.listLookup idType ident else none
    match listed with
    | some a => s.settle o a idType ident
    | none =>
      if p2 then ((s.onSo o (fun q => { q with auth := 1 })).relayRequest o 1 idType ident (identBody idType ident))
      else s.settle o (s.fld R.VEH_AUTHCFG F.VEH_AUTHCFG_OFFLINE_ACCEPT [] == 1) idType ident

/-- IDENTIFICATION: contract payment needs PNC, TLS and a protocol that has it (R301); external identification needs EIM. -/
def authIdentify (o : Output) (id : Ident) (s : State) : State :=
  s.vehMsg o (fun s =>
    let p := s.veh.proto[o]
    let may := if id.contract then s.fld R.VEH_AUTHCFG F.VEH_AUTHCFG_PNC [] == 1 && p.tls && decide (2 ≤ p.protocol)
      else s.fld R.VEH_AUTHCFG F.VEH_AUTHCFG_EIM [] == 1
    if may then
      let s1 := (s.onProto o (fun p => { p with stage := 5, payment := if id.contract then 2 else 1 })).identify o id.type
        (id.identity.take 64) (!id.contract || id.chainOk)
      let a := (s1.so o).auth
      s1.answer o "AuthorizationRes" (a == 3) (decide (a ≤ 1)) [] []
    else s.answer o "AuthorizationRes" true false [] [])

/-- AUTH_DEADLINE: a denial (R304). -/
def authDeadline (o : Output) (s : State) : State :=
  let r := s.veh.relay[o]
  if r.kind = 1 ∧ r.deadline.any (fun t => decide (t ≤ s.clock.tb)) then
    let i := s.pendingIdent o
    s.settle o false i.1 i.2
  else s

/-- A decision that does not match changes nothing but STALE (R306). -/
def State.stale (s : State) (o : Fin 6) : State := s.latch R.VEH_RELAYn [o.1] F.VEH_RELAYn_STALE.mask

/-- The decision names the outstanding request of the pilot in time (R306). -/
def State.decisionMatches (s : State) (o : Fin 6) (v : Nat) : Bool :=
  let r := s.veh.relay[o]
  r.kind != 0 && F.VEH_DECIDEn_SID.get v == (s.so o).sidNat && F.VEH_DECIDEn_REQ_SEQ.get v == r.seq
  && r.deadline.any (fun t => decide (s.clock.tb < t))

/-- A write of `VEH_DECIDEn` (R306, R307). -/
def State.takeDecision (s : State) (o : Fin 6) (v : Nat) : State :=
  let kind := F.VEH_DECIDEn_KIND.get v
  let outcome := F.VEH_DECIDEn_OUTCOME.get v
  let i := s.pendingIdent o
  let rk := (s.veh.relay[o]).kind
  if kind = 1 ∧ outcome = 2 then
    if (s.so o).sid.isSome ∧ F.VEH_DECIDEn_SID.get v = (s.so o).sidNat then
      if (s.so o).ended then s.outcomeTooLate o
      else if (s.so o).auth = 2 then ((s.tellOutcome o 2 0 []).withdrawAuth o 4)
      else s.stale o
    else s.stale o
  else if kind = 1 ∧ outcome ≤ 1 ∧ rk = 1 ∧ s.decisionMatches o v = true then s.settle o (outcome == 1) i.1 i.2
  else if kind = 2 ∧ 2 ≤ rk ∧ s.decisionMatches o v = true then
    let n := F.VEH_DECIDEn_RESP_LEN.get v
    let long := decide (exiMax < n)
    let body := if long then [] else ((s.veh.relay[o]).response ++ List.replicate exiMax 0#8).take n
    let s1 := s.relayIdle o
    if rk = 4 then s1 else s1.answer o (if rk = 5 then "ScheduleExchangeRes" else "CertificateRes") long false [] body
  else s.stale o

/-- A salt word is written and the list empties (R309). -/
def State.writeSalt (s : State) (k : Nat) (v : W64) : Nat × State :=
  (OK, (s.storeUse.setReg R.VEH_LIST_SALTk [k] v.toNat).onVeh (fun x => { x with list := [] }))

def execIdentification (o : Output) (id : Ident) (s : State) : Host.Outcome State Fault Refusal := .next (authIdentify o id s)
def execAuthDeadline (o : Output) (s : State) : Host.Outcome State Fault Refusal := .next (authDeadline o s)

end Sys2Proof.Machine
end

