-- ==== Sys2Proof/Machine/FlueOps.lean ====
section
/-!
DEFINITION. Making and signing Flue records (R270 to R276).
-/

namespace Sys2Proof.Machine

/-- The 224-byte body of a record (R270). -/
def FlueBody.bytes (b : FlueBody) : Bytes :=
  [0x4C#8, 0x56#8, 0x46#8, 0x52#8, 1#8] ++ leBytes 1 b.type ++ leBytes 1 b.output ++ leBytes 1 b.sid
  ++ leBytes 8 Config.serial.toNat ++ leBytes 8 b.counter ++ leBytes 4 b.epoch ++ leBytes 4 b.metro ++ leBytes 8 b.planId
  ++ leBytes 8 b.commitTb ++ leBytes 8 b.billTime ++ leBytes 8 b.wall ++ leBytes 1 b.timeFlags ++ leBytes 1 b.tariff
  ++ leBytes 2 0 ++ leBytes 4 b.period ++ leBytes 8 b.imp ++ leBytes 8 b.exp ++ leBytes 8 b.svc ++ leBytes 8 b.sessImp
  ++ (b.treg.map (leBytes 8)).flatten ++ leBytes 8 b.demand ++ leBytes 8 b.demandEnd ++ leBytes 8 b.status
  ++ leBytes 8 b.sessExp ++ leBytes 8 b.nonce.toNat ++ List.replicate 16 0

/-- A record as it is fetched: 320 bytes. -/
def FlueRecord.bytes (r : FlueRecord) : Bytes := r.body.bytes ++ r.sig

/-- METRO_VERSION: METRO of the running HEARTH in the upper half, of the running GRATE in the lower (R493). -/
def State.metroVersion (s : State) : Nat :=
  let m := fun (c : Fin 5) => let x := s.fw.comps[c]
    ((if x.active then x.imgB else x.imgA).map (·.metro)).getD 0
  m 0 * 65536 + m 4

/-- An active energy register at the latest committed boundary: what uncommitted and unbooked ticks added is left out
(R270, R274). -/
def State.energyAt (s : State) (n : Fin 7) (d : Fin 2) : Nat :=
  let part := fun (t : TickOut) => if d = 0 then t.imp else t.exp
  let pend := ((s.bil.ticks.filter (fun t => !t.committed)).map (fun t =>
    if h : n.1 < 6 then part (t.outs[n.1]'h) else (t.outs.toList.map part).sum)).sum
  let wait := (s.nrg.waiting.map (fun w =>
    if h : n.1 < 6 then (w.inc[n.1]'h)[d] else (w.inc.toList.map (fun x => x[d])).sum)).sum
  ((s.nrg.e[n])[d.1]'(by omega)) - pend - wait

/-- A maximum-demand register in its register form (`BIL_MDn_t`). -/
def MaxDemand.word (m : MaxDemand) : Nat := m.d % 2 ^ 40 + m.flags * 2 ^ 40

/-- The energy that the hold buckets of an output hold, by direction (`BIL_HELDn_d`). -/
def heldEnergy (l : List Hold) (d : Fin 2) : Nat := (l.map (fun h => (h.bucket.toList.map (fun b => b[d])).sum)).sum

/-- The state bits of STATUS now (R272). -/
def State.flueState (s : State) (n : Nat) : Nat :=
  let unc := s.uncertainOutputs
  let held := fun (o : Fin 6) => heldEnergy s.bil.holds[o] 0 != 0 || heldEnergy s.bil.holds[o] 1 != 0
  b2n (s.mseal.record.open_ || s.mseal.closing)
  ||| b2n (if n = 6 then unc != 0 else bitOf unc n) * 2
  ||| b2n s.nrg.journalLost * 2 ^ 3
  ||| b2n ((idx 6).any (fun o => (n == 6 || n == o.1) && held o)) * 2 ^ 10
  ||| b2n s.mseal.record.backupGap * 2 ^ 13

/-- The session that runs on an output at the latest committed boundary (R270): the one that has begun by then, or one that ends after it.
SITE has none (R271). -/
def State.sidAt (s : State) (n : Fin 7) : Nat :=
  if h : n.1 < 6 then
    let a := s.bil.attr[n.1]'h
    if a.sid ≠ 0 ∧ a.startTb ≤ s.bil.throughTb then a.sid
    else ((a.ends.find? (fun e => decide (s.bil.throughTb < e.tb) && !(a.starts.any (fun x => x.1 == e.sid && decide (s.bil.throughTb < x.2))))).map (·.sid)).getD 0
  else 0

/-- A splice lies between an output's previous record and the latest committed boundary (R270). -/
def State.splicedAt (s : State) (n : Fin 7) : Bool := s.mseal.splice[n] != 0 && decide (s.mseal.splice[n] ≤ s.bil.throughTb + 1)

/-- A record with the values of the latest commit step; its STATUS holds the span bits. -/
def State.flueBody (s : State) (type : Nat) (n : Fin 7) (sid sessImp sessExp : Nat) (nonce : W64) (dem : MaxDemand) : FlueBody where
  type := type
  output := n.1
  sid := sid
  counter := 0
  epoch := s.mseal.record.epoch
  metro := s.metroVersion
  planId := (s.grate.plan.map (·.planId)).getD 0
  commitTb := s.bil.throughTb
  billTime := s.bil.throughS
  wall := 0
  timeFlags := b2n (s.splicedAt n) ||| s.bil.throughFlags
  tariff := s.tariffAt n s.bil.throughS + (if (s.bil.cmdAt n s.bil.throughS).isSome then 16 else 0)
  period := s.bil.period
  imp := s.energyAt n 0
  exp := s.energyAt n 1
  svc := (s.nrg.svc[n])[0]
  sessImp := sessImp
  treg := (s.bil.treg[n]).toList.map (fun r => if type = 5 then r[1] else r[0])
  demand := dem.word
  demandEnd := dem.stop
  status := s.mseal.span[n]
  sessExp := sessExp
  nonce := nonce
  oldKey := none

/-- R276: time is known and slot 3 is VALID. -/
def State.flueReady (s : State) : Bool := s.clock.wall.isSome && (s.slot 3).state == .valid

/-- Sign a record on the FLUE engine with slot 3, count it and keep it in the store, encrypted under slot 4 (R270, R273, R275). The state bits
are those at signing (R272). A closing record that waited past its close is signed under the key of its epoch (R261, log entry 112). -/
def State.signFlue (s : State) (b : FlueBody) (polder : Nat) : State :=
  match s.keyUse 3 engFLUE polder with
  | (some _, s1) => s1
  | (none, s1) =>
    let b1 := { b with counter := s.mseal.next, epoch := if b.oldKey.isSome then b.epoch else s.mseal.record.epoch, wall := s.wall0,
                       status := b.status ||| s.flueState b.output, oldKey := none }
    let r : FlueRecord := { body := b1, sig := ecdsaSign (b.oldKey.getD (s.slot 3).key) (sha384 b1.bytes) }
    (s1.storeUse.bump 7 1).onMseal (fun m =>
      let all := m.store ++ [r]
      { m with next := m.next + 1, boundary := if m.boundary ≤ m.next + 1 then m.boundary + 256 else m.boundary,
               store := all.drop (all.length - 8192) })

/-- The span bits and the splice of an output start again with a record of it (R270, R272). -/
def State.spanStart (s : State) (b : FlueBody) : State :=
  s.onMseal (fun m => { m with span := if h : b.output < 7 then m.span.set b.output 0 else m.span,
                               splice := if h : b.output < 7 ∧ b.timeFlags % 2 = 1 then m.splice.set b.output 0 h.1 else m.splice })

/-- Make a record that is due: sign it, or queue it, at most 64; one more is not made, and LOST counts it (R276). -/
def State.makeFlue (s : State) (b : FlueBody) : State :=
  if s.flueReady then (s.signFlue b 7).spanStart b
  else if s.mseal.queue.length < 64 then
    (s.onMseal (fun m => { m with queue := m.queue ++ [{ b with oldKey := if b.type = 6 ∧ (s.slot 3).state = .valid then some (s.slot 3).key else none }] })).spanStart b
  else s.onMseal (fun m => { m with lost := satAdd 16 m.lost 1 })

/-- The present outputs and SITE, in ascending order. -/
def State.points (s : State) : List (Fin 7) := (List.finRange 7).filter (fun n => n.1 == 6 || bitOf s.present n.1)

/-- The demand of the current period for a record. -/
def State.demNow (s : State) (n : Fin 7) : MaxDemand := (s.bil.md[n])[8]

end Sys2Proof.Machine
end

