-- ==== Sys2Proof/Machine/BillBook.lean ====
section
/-!
DEFINITION. Booking, re-booking and committing ticks; closing demand intervals and billing periods; steps, slews and holds of
bill time (R220 to R255).
-/

namespace Sys2Proof.Machine

/-! ### The commit front and re-booking (R224, R225, R247) -/

/-- Uncommitted ticks, oldest first. -/
def Billing.open_ (b : Billing) : List Tick := b.ticks.filter (fun t => !t.committed)

/-- The oldest uncommitted tick with a bill time (R247). -/
def Billing.oldest (b : Billing) : Option Tick := b.open_.find? (fun t => t.s.isSome)

/-- The bill time at which the next tick starts. -/
def State.nextS (s : State) : Nat :=
  ((s.billMicro (if s.grate.plan.isSome then max s.clock.tb (s.nrg.tickTb + tbTick) else s.clock.tb)).map (· / 1000)).getD 0

/-- The start S of the oldest uncommitted tick that has one; else the start of the next tick, which is the one in progress where its start
has a bill time (R247); while no plan runs, bill time now. Nothing before it changes any more. -/
def State.front (s : State) : Option Nat :=
  match s.bil.oldest.bind (·.s) with
  | some t => some t
  | none =>
    if s.grate.plan.isSome then
      match s.bil.lastB with
      | some t => some t
      | none => s.billNow.map (fun _ => s.nextS)
    else s.billNow

/-- Find the tariffs of a tick again at its S, with the calendar that was in force when it was booked (R225). -/
def Billing.retariff (b : Billing) (t : Tick) : Tick :=
  match t.s with
  | none => t
  | some x => { t with outs := updAll t.outs (fun o y => { y with tariff := b.tariffAt t.cal t.calcfg ⟨o.1, by omega⟩ x }),
                       siteTariff := b.tariffAt t.cal t.calcfg 6 x }

/-- Re-book the uncommitted ticks that satisfy `q`; every rewrite takes the next JSEQ (R254). -/
def Billing.rebookWhere (b : Billing) (q : Tick → Bool) (f : Tick → Tick) : Billing := b.rewriteWhere q (fun t => b.retariff (f t))

/-! ### Booking (R222, R226, R254) -/

/-- A flag bit in TIME_FLAGS form (R270): WIDE, SLEWING, HELD. -/
def Tick.timeFlags (t : Tick) : Nat := b2n t.wide * 2 + b2n t.slewed * 4 + b2n t.held * 8

/-- The part of an output in a tick that is booked now. -/
def State.bookOut (s : State) (h : HandedTick) (start : Option Nat) (o : Fin 6) : TickOut :=
  let a := s.bil.attr[o]
  { imp := (h.inc[o])[0], exp := (h.inc[o])[1], sid := if start.isSome then a.curSid else 0,
    tariff := (start.map (fun t => s.tariffAt ⟨o.1, by omega⟩ t)).getD 0, attr := if start.isSome then a.cur else .noTime }

/-- Book one handed-off tick provisionally (R222). The rest of a tick that a short one began joins its entry (R217). -/
def bookTick (s : State) (h : HandedTick) : State :=
  let start := if s.bil.mode = .unknown then none else s.bil.lastB
  let sp := s.mseal.tickSpan
  let s1 := s.onMseal (fun m => { m with tickSpan := Vector.replicate 7 0 })
  if s.bil.ticks.any (fun t => t.short && !t.committed && t.startTb == h.startTb) then
    s1.onJournal (fun b => { b with jseq := b.jseq + 1, ticks := b.ticks.map (fun t =>
      if t.short && !t.committed && t.startTb == h.startTb then
        { t with jseq := b.jseq, endTb := h.endTb, short := h.short,
                 outs := updAll t.outs (fun o x => { x with imp := x.imp + (h.inc[o])[0], exp := x.exp + (h.inc[o])[1] }),
                 span := updAll t.span (fun n x => x ||| sp[n]) }
      else t) })
  else
    let t : Tick :=
      { jseq := s.bil.jseq, startTb := h.startTb, endTb := h.endTb, s := start, outs := Vector.ofFn (s.bookOut h start),
        siteTariff := (start.map (s.tariffAt 6)).getD 0,
        held := s.bil.mode == .hold && start.any (fun x => decide (1000 * x ≤ s.bil.timeAt)),
        short := h.short, wide := s.bil.wide, slewed := s.bil.mode == .slew,
        span := if start.isSome then sp else sp.map (· ||| 2 ^ 9), cal := s.calendar, calcfg := s.calcfg, committed := false }
    s1.onJournal (fun b => { b with jseq := b.jseq + 1, ticks := (b.ticks ++ [t]).drop (b.ticks.length - 415) })

/-! ### Period ends (R241) -/

/-- A calendar entry is a period end at a whole minute of calendar time. -/
def isPeriodEnd (e : Nat) (minute : Nat) : Bool :=
  let days := F.BIL_CALk_DAYS.get e
  let date := minute / 1440
  F.BIL_CALk_KIND.get e == 3 && F.BIL_CALk_START.get e == minute % 1440
    && (if days = 0 then F.BIL_CALk_DATE.get e == date else days ≤ 28 && dayOfMonth date == days)

/-- Whole minutes above `lo` and at or below `hi`, both in calendar ms, at which a period end stands. -/
def periodMinutes (cal : List Nat) (lo hi : Int) : List Nat :=
  let a := (lo / 60000).toNat
  ((List.range ((hi / 60000).toNat - a)).map (· + a + 1)).filter (fun m => cal.any (fun e => isPeriodEnd e m))

/-- A period end found at calendar minute `m` acts at bill time `at_`, once (R241). -/
def Billing.takePeriodEnd (b : Billing) (at_ m : Nat) : Billing :=
  if b.lastPeriodMin.any (fun x => decide (m ≤ x)) then b
  else { b with lastPeriodMin := some m, cuts := b.cuts ++ [{ at_, periodEnd := true, newPhase := none }] }

/-- Period ends while bill time goes from `lo` to `hi` under one OFFSET: each at its own bill time. -/
def Billing.periodsUnder (b : Billing) (cal : List Nat) (off : Int) (lo hi : Nat) : Billing :=
  (periodMinutes cal (lo + 60000 * off) (hi + 60000 * off)).foldl (fun b (m : Nat) => b.takePeriodEnd (((m * 60000 : Nat) : Int) - 60000 * off).toNat m) b

/-- Period ends that a change of OFFSET at bill time `t` jumps past: at the first tick after the change. -/
def Billing.periodsJumped (b : Billing) (cal : List Nat) (old new : Int) (t : Nat) : Billing :=
  (periodMinutes cal (t + 60000 * old) (t + 60000 * new)).foldl (fun b m => b.takePeriodEnd t m) b

/-- Period ends as bill time goes from `lo` to `hi` (R241), with NEXT_AT of R233 between them where it lies there. -/
def Billing.periodEnds (b : Billing) (cal : List Nat) (calcfg lo hi : Nat) : Billing :=
  let n := F.BIL_CALCFG_NEXT_AT.get calcfg * 60000
  let old := offsetAt calcfg lo
  if lo < n ∧ n ≤ hi then
    let new := offsetAt calcfg n
    (((b.periodsUnder cal old lo n).periodsJumped cal old new n).periodsUnder cal new n hi)
  else b.periodsUnder cal old lo hi

/-! ### Closing intervals (R236 to R244) -/

/-- What a period end issues a record for: the period count and the maximum-demand registers of the closed period. -/
structure PeriodClose where
  period : Nat
  md : Vector MaxDemand 7

/-- The interval flags in register order (R244, `BIL_DEMLASTn`). -/
def Interval.flags (i : Interval) : Nat :=
  b2n i.interrupted + 2 * b2n i.held + 4 * b2n i.uncertain + 8 * b2n i.short + 16 * b2n i.skipped

/-- The running interval as it closes at `stop`: its flags from marks and cuts, and its tariffs where no tick came. -/
def State.closing (s : State) (stop : Nat) : Interval :=
  let b := s.bil
  let i := b.running
  let touched := fun k => b.marks.any (fun m => m.kind == k && m.lo < stop && i.start ≤ m.hi)
  let c := b.calAt s.calendar s.calcfg (stop - 10)
  { i with stop, tariff := if i.hasTick then i.tariff else Vector.ofFn (fun n => b.tariffAt c.1 c.2 n (stop - 10)),
           interrupted := touched .interrupted, uncertain := touched .uncertain,
           skipped := b.marks.any (fun m => m.kind == .skip && m.lo ≤ i.start && stop ≤ m.hi),
           short := stop - i.start != demLen b.demcfg }

/-- The demand value that a closed interval forms for output `n` (R237, R238); none while the sliding history is short. -/
def demandOf (cfg : Nat) (hist : List Interval) (n : Fin 7) : Option MaxDemand :=
  let k := if demSliding cfg then demN cfg else 1
  match hist with
  | [] => none
  | i :: _ =>
    if hist.length < k then none
    else
      let l := hist.take k
      let e := (l.map (fun j => j.energy[n])).sum
      some { d := (rdiv (e * 3600 : Nat) (demLen cfg * k)).toNat, flags := l.foldl (fun f j => f ||| j.flags) 0, stop := i.stop,
             tariff := i.tariff[n] }

/-- R240: a register takes a demand only when it is strictly greater. -/
def MaxDemand.take (m d : MaxDemand) : MaxDemand := if m.d < d.d then d else m

/-- Close the running interval at its stop, with everything that follows (R237 to R244); a period end answers what its
records need. -/
def State.closeInterval (s : State) : Option PeriodClose × State :=
  let b := s.bil
  let stop := stopOf b.demcfg b.phase b.cuts b.running.start
  let i := s.closing stop
  let hist := (i :: b.subs).take 15
  let b1 : Billing := (List.finRange 7).foldl (fun (b : Billing) (n : Fin 7) => match demandOf b.demcfg hist n with
    | none => b
    | some d =>
      { b with last := b.last.set n d,
               md := upd b.md n (fun m => (if h : d.tariff < 8 then upd m ⟨d.tariff, by omega⟩ (fun x => x.take d) else m).set 8 ((m[8]).take d)) }) b
  let waiting := s.reg R.BIL_DEMCFG []
  let g := gridAfter b.demcfg b.phase waiting b.cuts stop
  let pe := b.cuts.any (fun c => c.periodEnd && c.at_ == stop)
  let b2 : Billing := { b1 with subs := if g.1 = b.demcfg then hist else [], demcfg := g.1, phase := g.2,
                                cuts := b.cuts.filter (fun c => decide (stop < c.at_)), marks := b.marks.filter (fun m => decide (stop ≤ m.hi)),
                                running := Interval.zero stop (stopOf g.1 g.2 b.cuts stop) }
  if pe then
    (some { period := b.period + 1, md := b2.md.map (fun m => m[8]) },
      s.onBil (fun _ => { b2 with pmd := b2.md, md := Vector.replicate 7 (Vector.replicate 9 MaxDemand.zero), period := b.period + 1 }))
  else (none, s.onBil (fun _ => b2))

/-- Close every interval that ends at or before `t`, with `fuel` for their number. -/
def State.closeUntil (t : Nat) : Nat → State → List PeriodClose × State
  | 0, s => ([], s)
  | fuel + 1, s =>
    if stopOf s.bil.demcfg s.bil.phase s.bil.cuts s.bil.running.start ≤ t then
      let r := s.closeInterval
      let q := State.closeUntil t fuel r.2
      (r.1.toList ++ q.1, q.2)
    else ([], s)

/-- Close the intervals that end at or before the commit front. -/
def State.closeDue (s : State) : List PeriodClose × State :=
  match s.bil.mode, s.front with
  | .unknown, _ => ([], s)
  | _, none => ([], s)
  | _, some t => s.closeUntil t ((t - s.bil.running.start) / 60000 + s.bil.cuts.length + 2)

/-- The PERIOD_END records of the periods that have closed (R241, R271). -/
def State.periodRecords (s : State) (l : List PeriodClose) : State :=
  l.foldl (fun s p => s.points.foldl (fun (s : State) (n : Fin 7) =>
    s.makeFlue { s.flueBody 4 n (s.sidAt n) 0 0 0 p.md[n] with period := p.period }) s) s

/-! ### Commit (R223, R226 to R228, R271) -/

/-- Energy goes to the service register of an output, and SITE's gains the same (R211). -/
def State.toService (s : State) (o : Fin 6) (i e : Nat) : State :=
  let add := fun (v : Vector Nat 2) => #v[v[0] + i, v[1] + e]
  s.onNrg (fun n => { n with svc := upd (upd n.svc ⟨o.1, by omega⟩ add) 6 add })

/-- Energy committed to a session: the tariff registers of the output and of SITE, and the session's own sums (R227). -/
def State.toTariff (s : State) (o : Fin 6) (sid t i e : Nat) : State :=
  let add := fun (v : Vector (Vector Nat 2) 8) => if h : t < 8 then upd v ⟨t, h⟩ (fun r => #v[r[0] + i, r[1] + e]) else v
  s.onBil (fun b =>
    { b with treg := upd (upd b.treg ⟨o.1, by omega⟩ add) 6 add,
             attr := upd b.attr o (fun a =>
               if a.ends.any (·.sid == sid) then
                 { a with ends := a.ends.map (fun x => if x.sid = sid then { x with imp := x.imp + i, exp := x.exp + e } else x) }
               else if a.sid = sid then { a with sessImp := a.sessImp + i, sessExp := a.sessExp + e } else a) })

/-- A PENDING tick's energy goes into the hold bucket of its session, tariff and direction (R228). -/
def addHold (sid startTb t i e : Nat) (l : List Hold) : List Hold :=
  let add := fun (h : Hold) => { h with bucket := if q : t < 8 then upd h.bucket ⟨t, q⟩ (fun r => #v[r[0] + i, r[1] + e]) else h.bucket }
  if l.any (·.sid == sid) then l.map (fun h => if h.sid = sid then add h else h)
  else l ++ [add { sid, startTb, bucket := Vector.replicate 8 #v[0, 0], outcome := none, timedOut := false }]

/-- Buckets whose session has an outcome move at a commit step, with one log entry (R228), which names ATTR_TIMEOUT where that was the cause
(R229). -/
def State.moveHolds (s : State) : State :=
  (idx 6).foldl (fun (s : State) (o : Fin 6) =>
    (s.bil.holds[o]).foldl (fun (s : State) (h : Hold) => match h.outcome with
      | none => s
      | some ok =>
        let s1 := (idx 8).foldl (fun (s : State) (t : Fin 8) =>
          let b := h.bucket[t]
          if ok then s.toTariff o h.sid t.1 b[0] b[1] else s.toService o b[0] b[1]) s
        (s1.onBil (fun b => { b with holds := upd b.holds o (fun l => l.filter (fun x => x.sid != h.sid)) })).logEv (if h.timedOut then .holdTimeout else .holdMove) o.1 7 h.sid
          (heldEnergy [h] 0) (heldEnergy [h] 1)) s) s

/-- One output's part of a tick commits by its attribution (R226). -/
def State.commitOut (s : State) (t : Tick) (o : Fin 6) : State :=
  let x := t.outs[o]
  match x.attr with
  | .session => s.toTariff o x.sid x.tariff x.imp x.exp
  | .pending => s.onBil (fun b => { b with holds := upd b.holds o (addHold x.sid (b.attr[o]).startTb x.tariff x.imp x.exp) })
  | _ => s.toService o x.imp x.exp

/-- The tick joins the running interval (R223, R236, R239). -/
def Interval.addTick (i : Interval) (t : Tick) : Interval :=
  { i with energy := updAll i.energy (fun n e => e + t.impOf n),
           tariff := Vector.ofFn (fun n => if h : n.1 < 6 then (t.outs[n.1]'h).tariff else t.siteTariff),
           held := i.held || t.held, hasTick := true }

/-- Bill time at the end of an uncommitted tick: the start of the next one, or the latest boundary's. -/
def Billing.endTime (b : Billing) (t : Tick) : Nat :=
  ((b.ticks.find? (fun x => !x.committed && decide (t.endTb ≤ x.startTb))).bind (·.s)).getD (b.lastB.getD 0)

/-- SESSION_END records whose session has committed its last tick and moved its buckets (R271, R274). -/
def State.endRecords (s : State) : State :=
  (idx 6).foldl (fun (s : State) (o : Fin 6) =>
    (s.bil.attr[o]).ends.foldl (fun (s : State) (e : SessEnd) =>
      if e.tb ≤ s.bil.throughTb ∧ !((s.bil.holds[o]).any (·.sid == e.sid)) then
        let n : Fin 7 := ⟨o.1, by omega⟩
        (s.makeFlue (s.flueBody 3 n e.sid (if e.void then 0 else e.imp) (if e.void then 0 else e.exp) 0 (s.demNow n))).onBil (fun b =>
          { b with attr := upd b.attr o (fun a => { a with ends := a.ends.filter (fun x => x != e) }) })
      else s) s) s

/-- SESSION_START records whose boundary has committed (R271). -/
def State.startRecords (s : State) : State :=
  (idx 6).foldl (fun (s : State) (o : Fin 6) =>
    (s.bil.attr[o]).starts.foldl (fun (s : State) (e : Nat × Nat) =>
      if e.2 ≤ s.bil.throughTb then
        let n : Fin 7 := ⟨o.1, by omega⟩
        (s.makeFlue (s.flueBody 2 n e.1 0 0 0 (s.demNow n))).onBil (fun b =>
          { b with attr := upd b.attr o (fun a => { a with starts := a.starts.filter (fun x => x != e) }) })
      else s) s) s

/-- Commands whose effective time lies before the front are folded into what they hold in force. -/
def State.foldCmds (s : State) : State :=
  match s.front with
  | none => s
  | some f =>
    let old := s.bil.queue.takeWhile (fun c => c.applied && decide (c.effective ≤ f))
    s.onBil (fun b => { b with queue := b.queue.drop old.length,
                               cmdNow := updAll b.cmdNow (fun n x => old.foldl (fun a c =>
                                 if c.names n then (if c.tariff = 0xF then none else some c.tariff) else a) x) })

/-- Commit one tick as its entry stands (R223), without the records. Answers the periods that it closed. -/
def State.commitTick (s : State) (t : Tick) : List PeriodClose × State :=
  let r := match t.s with
    | none => ([], s)
    | some x => s.closeUntil x ((x - s.bil.running.start) / 60000 + s.bil.cuts.length + 2)
  let s1 := (idx 6).foldl (fun (s : State) (o : Fin 6) => s.commitOut t o) r.2
  let e := s1.bil.endTime t
  let s2 := s1.onBil (fun b =>
    { b with running := if t.s.isSome then b.running.addTick t else b.running,
             ticks := b.ticks.map (fun x => if x.jseq = t.jseq then { x with committed := true } else x),
             throughTb := t.endTb, throughS := e, throughFlags := t.timeFlags })
  (r.1, s2.onMseal (fun m => { m with span := updAll m.span (fun n x => x ||| t.span[n]) }))

/-- A commit step (R223, R228): one tick, the buckets due, the intervals that close, then the records in the order of R271. -/
def State.commitStep (s : State) (t : Tick) : State :=
  let a := s.commitTick t
  let b := (a.2.moveHolds).closeDue
  (((b.2.endRecords).periodRecords (a.1 ++ b.1)).startRecords).foldCmds

/-! ### Steps, slews and holds (R246, R249) -/

/-- Bill time at an earlier instant: by the present mode since it began, else along the journal. -/
def State.billAt (s : State) (tb : Nat) : Option Nat :=
  if s.bil.timeTb ≤ tb then (s.billMicro tb).map (· / 1000)
  else match (s.bil.ticks.filter (fun t => t.s.isSome && decide (t.startTb ≤ tb))).getLast? with
    | some t => t.s.map (fun x => x + (tb - t.startTb) / 25000)
    | none => (s.billMicro tb).map (· / 1000)

/-- A mark on bill time (R244). -/
def State.mark (s : State) (kind : MarkKind) (lo hi : Nat) : State := s.onBil (fun b => { b with marks := b.marks ++ [{ kind, lo, hi }] })

/-- R246: bill time B at an instant meets wall time WALL: a step forward, which passes the period ends inside it (R241), a slew, or a hold with
T_TIME. -/
def State.meetWall (s : State) (b wall instant : Nat) : State :=
  if b ≤ wall then
    (s.mark .skip b wall).onBil (fun x =>
      { x.periodEnds s.calendar s.calcfg b wall with mode := .normal, timeAt := 1000 * wall, timeTb := instant })
  else if b - wall ≤ 2000 then
    s.onBil (fun x => { x with mode := .slew, timeAt := 1000 * b, timeTb := instant })
  else
    (s.onBil (fun x => { x with mode := .hold, timeAt := 1000 * b, timeTb := instant })).tamper T_TIME (min (2 ^ 32 - 1) ((b - wall) / 1000)) true

/-- Bill time starts at WALL with no step: the interval opened there begins on the grid (R248). -/
def State.startBill (s : State) (wall instant : Nat) : State :=
  s.onBil (fun x =>
    let st := gridEnd x.demcfg x.phase wall - demLen x.demcfg
    { x with mode := .normal, timeAt := 1000 * wall, timeTb := instant, running := Interval.zero st (stopOf x.demcfg x.phase x.cuts st) })

/-- Uncommitted ticks that start at or after an instant, and the tick in progress, take their bill time again (R225, R246). -/
def State.retime (s : State) (instant : Nat) : State :=
  let at_ := fun tb => (s.billMicro tb).map (· / 1000)
  s.onJournal (fun b =>
    let b1 := b.rebookWhere (fun t => t.s.isSome && decide (instant ≤ t.startTb)) (fun t =>
      { t with s := at_ t.startTb, slewed := b.mode == .slew,
               held := b.mode == .hold && (at_ t.startTb).any (fun x => decide (1000 * x ≤ b.timeAt)) })
    { b1 with lastB := if b1.lastB.isSome ∧ instant ≤ s.boundTb then at_ s.boundTb else b1.lastB })

/-! ### The boundary (R221, R230) -/

/-- The tariffs in force for the tick in progress, with the commands whose effective time has come (R234). -/
def State.applyTariffs (s : State) (t : Nat) : State :=
  s.onBil (fun b => { b with tariffNow := Vector.ofFn (fun n => s.tariffAt n t),
                             queue := b.queue.map (fun c => if c.effective ≤ t then { c with applied := true } else c) })

/-- Steps of R230 after booking, at a boundary where bill time is `b`. -/
def State.atBoundary (s : State) (b : Nat) : State :=
  let old := s.calcfg
  let s1 := s.takeUp .f (inBlock 7)
  let new := s1.calcfg
  let lo := s.bil.lastB.getD b
  let s2 := s1.onBil (fun x =>
    let x1 := x.periodEnds s1.calendar old lo b
    let x2 := x1.periodsJumped s1.calendar (offsetAt old b) (offsetAt new b) b
    (x2.leaveCalendar b s.calendar old (s1.calendar != s.calendar || new != old)).setLastB b)
  s2.applyTariffs b

/-- A boundary at a TB: bill time there, and the attribution of the tick that starts there (R221). -/
def State.passBoundary (s : State) (tb : Nat) : State :=
  let s1 := match s.billAt tb with
    | none => s.takeUp .f (inBlock 7)
    | some b => s.atBoundary b
  s1.onBil (fun b => { b with boundaries := b.boundaries + 1,
                              attr := b.attr.map (fun a => if a.sinceTb ≤ tb then { a with cur := a.attr, curSid := a.sid } else a) })

/-- Book one tick that waits, and pass the boundary that handed it off; a short tick ends at no boundary (R217, R221). -/
def bookNext (s : State) (h : HandedTick) : State :=
  let s1 := bookTick s h
  if h.short then s1 else s1.passBoundary h.endTb

/-- Book everything that waits, in tick order, each tick with the bill time of its own start (R23, R29, R220). -/
def State.bookAll (s : State) : State :=
  (s.nrg.waiting.foldl bookNext s).onNrg (fun n => { n with waiting := [] })

end Sys2Proof.Machine
end

