-- ==== Sys2Proof/Machine/BillingCmds.lean ====
section
/-!
DEFINITION. The billing commands (chapter 07): the boundary, commits, interval and period ends, tariffs, the three host
writes, and the time modes (R220 to R255).
-/

namespace Sys2Proof.Machine

/-! ### The boundary (R230) -/

/-- BILLING_BOUNDARY (R222, R230): book what was handed off, each tick followed by period ends, calendar and commands at its boundary. While
a plan runs, a boundary comes with a hand-off; while none runs, bill time still advances and intervals close (R223). -/
def billingBoundary (s : State) : State :=
  if s.nrg.waiting ≠ [] then s.bookAll
  else if s.grate.plan.isSome then s
  else
    let r := (s.passBoundary s.clock.tb).closeDue
    r.2.periodRecords r.1

/-- TICK_COMMIT (R223): the oldest uncommitted tick, 200 ticks after its hand-off. -/
def tickCommit (s : State) : State :=
  match s.bil.open_ with
  | [] => s
  | t :: _ => if t.endTb + 200 * tbTick ≤ s.clock.tb then s.commitStep t else s

/-- DEMAND_INTERVAL_END (R236 to R240): intervals that bill time has passed close, as far as no uncommitted tick can still
move into them; the provisional energy of the others is computed from bill time. -/
def demandIntervalEnd (s : State) : State :=
  let r := s.closeDue
  r.2.periodRecords r.1

/-- PERIOD_END (R241): period ends that calendar time has reached cut the grid, and the period closes with its interval. -/
def periodEnd (s : State) : State :=
  match s.billNow, s.bil.lastB with
  | some b, some lo =>
    let s1 := s.onBil (fun x => x.periodEnds s.calendar s.calcfg lo b)
    let r := s1.closeDue
    r.2.periodRecords r.1
  | _, _ => s

/-- OFFSET_CHANGE (R233): OFFSET takes NEXT_OFFSET once a tick has started at or after NEXT_AT. -/
def offsetChange (s : State) : State :=
  let c := s.calcfg
  let n := F.BIL_CALCFG_NEXT_AT.get c
  match s.bil.lastB with
  | some b =>
    if n ≠ 0 ∧ n * 60000 ≤ b then
      let v := F.BIL_CALCFG_NEXT_AT.set (F.BIL_CALCFG_OFFSET.set c (F.BIL_CALCFG_NEXT_OFFSET.get c)) 0
      let s1 := (s.setReg R.BIL_CALCFG [] v).onBil (fun x => x.leaveCalendar (n * 60000) s.calendar c true)
      { s1 with use := putKey (R.BIL_CALCFG.addr []) v s1.use }
    else s
  | none => s

/-- CALENDAR_TARIFF_SWITCH (R232): the tariffs in force from the next tick. -/
def calendarSwitch (s : State) : State :=
  match s.billNow with
  | some b => s.onBil (fun x => { x with tariffNow := Vector.ofFn (fun n => s.tariffAt n b) })
  | none => s

/-- TARIFF_COMMAND_EFFECTIVE (R234). -/
def tariffEffective (s : State) : State :=
  match s.billNow with
  | some b => if s.bil.queue.any (fun c => !c.applied && decide (c.effective ≤ b)) then s.applyTariffs b else s
  | none => s

/-- ATTR_TIMEOUT (R229): PENDING energy held 300 s after the session start is treated as withdrawn. -/
def attrTimeout (o : Output) (s : State) : State :=
  (s.bil.holds[o]).foldl (fun (s : State) (h : Hold) =>
    if h.outcome = none ∧ h.startTb + 300 * tbSecond ≤ s.clock.tb then
      (s.onBil (fun b => { b with holds := upd b.holds o (fun l => l.map (fun x => if x.sid = h.sid then { x with timedOut := true } else x)) })).billOutcome
        o h.sid s.clock.tb false
    else s) s

/-- BILL_SLEW_END (R246): bill time has met wall time. -/
def slewEnd (s : State) : State :=
  match s.wallMicro s.clock.tb with
  | some w =>
    if s.bil.mode = .slew ∧ s.bil.timeAt + (s.clock.tb - s.bil.timeTb) * 999 / 25000 ≤ w then
      s.onBil (fun b => { b with mode := .normal, timeAt := w, timeTb := s.clock.tb })
    else s
  | none => s

/-- BILL_HOLD_END (R246): wall time has reached the held bill time. -/
def holdEnd (s : State) : State :=
  match s.wallMicro s.clock.tb with
  | some w =>
    if s.bil.mode = .hold ∧ s.bil.timeAt ≤ w then s.onBil (fun b => { b with mode := .normal, timeAt := w, timeTb := s.clock.tb }) else s
  | none => s

/-- The billing state (R255). -/
def State.billSave (s : State) : BillSave where
  seq := s.bil.saveSeq + 1
  throughTb := s.bil.throughTb
  treg := s.bil.treg
  svc := s.nrg.svc
  running := s.bil.running
  subs := s.bil.subs
  md := s.bil.md
  pmd := s.bil.pmd
  holds := s.bil.holds
  phase := s.bil.phase
  period := s.bil.period
  cuts := s.bil.cuts
  marks := s.bil.marks

/-- Write the billing state over the older copy (R255). -/
def State.writeBilling (s : State) : State :=
  let r := s.billSave
  s.storeUse.onBil (fun b =>
    let b1 := if (b.saveA.map (·.seq)).getD 0 ≤ (b.saveB.map (·.seq)).getD 0 then { b with saveA := some r } else { b with saveB := some r }
    { b1 with saveSeq := r.seq })

/-- BILLING_STATE_WRITE (R255): every 100th boundary. -/
def billingStateWrite (s : State) : State :=
  if 0 < s.bil.boundaries ∧ s.bil.boundaries % 100 = 0 then s.writeBilling else s

/-! ### The host writes -/

/-- BIL_TIMESET while time is unknown (R248): against the bill time of the restored record, or directly. -/
def State.firstTime (s : State) (wall : Nat) : State :=
  let tb := s.clock.tb
  let s1 := { s with clock := { s.clock with wall := some (wall, tb) } }
  let b := s.bil.timeAt / 1000
  let s2 := if b = 0 then s1.startBill wall tb else s1.meetWall b wall tb
  let now := (s2.billNow).getD wall
  s2.mark .uncertain now now

/-- BIL_TIMESET while time is known (R246, R247). -/
def State.correctTime (s : State) (wall back : Nat) : State :=
  let named := s.clock.tb - 25000 * min 2000 back
  let first := (s.bil.oldest.map (·.startTb)).getD s.boundTb
  let late := decide (named < first)
  let instant := if late then first else named
  let w := if late then wall + (first - named) / 25000 else wall
  match s.billAt instant with
  | none => s
  | some b =>
    let s1 := { s with clock := { s.clock with wall := some (w, instant) } }
    let s2 := ((s1.meetWall b w instant).onBil (fun x => x.note 1 instant [b, w, back] (fun t => t.s.isSome && decide (instant ≤ t.startTb)))).retime instant
    let s3 := match s2.bil.lastB with | some x => s2.onBil (fun y => { y with tariffNow := Vector.ofFn (fun n => s2.tariffAt n x) }) | none => s2
    let s4 := s3.logEv .clockCorrection 0 7 0 w b
    if late then s4.latch R.BIL_CMD_STAT [] F.BIL_CMD_STAT_TIME_LATE.mask else s4

/-- A write of `BIL_TIMESET` (R246 to R249). -/
def State.writeTimeset (s : State) (v : Nat) : Nat × State :=
  let wall := F.BIL_TIMESET_WALL.get v
  let s1 := if s.bil.mode = .unknown then s.firstTime wall else s.correctTime wall (F.BIL_TIMESET_BACK.get v)
  (OK, s1.onBil (fun b => { b with wide := false }))

/-- An ignored command (R235, R243). -/
def State.ignoreCmd (s : State) : State := s.latch R.BIL_CMD_STAT [] F.BIL_CMD_STAT_IGNORED.mask

/-- A write of `BIL_TCMD` (R234, R235). -/
def State.writeTcmd (s : State) (w : Nat) : Nat × State :=
    match s.billNow, s.front with
    | some now, some front =>
      let tariff := F.BIL_TCMD_TARIFF.get w
      let eff := F.BIL_TCMD_EFFECTIVE.get w
      if 8 ≤ tariff ∧ tariff < 15 ∨ now + 86400000 < eff then (OK, s.ignoreCmd)
      else if 8 ≤ (s.bil.queue.filter (fun c => !c.applied)).length then (FULL, s)
      else
        let late := eff ≠ 0 ∧ eff < front
        let point := if eff = 0 then s.nextS else max eff front
        let covers := fun (t : Tick) => t.s.any (fun x => decide (point ≤ x))
        let s1 := s.onJournal (fun b =>
          let c : TCmd := { tariff, outputs := F.BIL_TCMD_OUTPUTS.get w, site := F.BIL_TCMD_SITE.get w == 1, effective := point, order := b.cmdOrder,
                            applied := point ≤ now }
          (({ b with queue := putCmd c b.queue, cmdOrder := b.cmdOrder + 1 }).note 0 point [tariff, c.outputs, b2n c.site] covers).rebookWhere covers id)
        let s2 := match s1.bil.lastB with | some x => s1.onBil (fun y => { y with tariffNow := Vector.ofFn (fun n => s1.tariffAt n x) }) | none => s1
        if late then (OK, (s2.latch R.BIL_CMD_STAT [] F.BIL_CMD_STAT_TCMD_LATE.mask).logEv .tcmdLate 0 7 0 (front - eff) 0) else (OK, s2)
    | _, _ => (NOTIME, s)

/-- A write of `BIL_DSYNC` (R243): X becomes a grid point and cuts the interval that holds it. A later synchronisation that still waits
gives way to one at an earlier point. -/
def State.writeDsync (s : State) (v : Nat) : Nat × State :=
    match s.billNow, s.front with
    | some now, some front =>
      let x := F.BIL_DSYNC_END.get v
      if x < front ∨ now + demLen s.bil.demcfg < x then (OK, s.ignoreCmd)
      else
        let ph := x % demLen s.bil.demcfg
        (OK, s.onBil (fun b =>
          let keep := b.cuts.filter (fun c => c.periodEnd || decide (c.at_ < x))
          let b1 := if x ≤ b.running.start then { b with cuts := keep, phase := ph }
            else { b with cuts := keep ++ [{ at_ := x, periodEnd := false, newPhase := some ph }] }
          b1.note 2 x [ph] (fun t => t.s.any (fun y => decide (x ≤ y)))))
    | _, _ => (NOTIME, s)

/-! ### The meanings -/

def execBillingBoundary (s : State) : Host.Outcome State Fault Refusal := .next (billingBoundary s)
def execTickCommit (s : State) : Host.Outcome State Fault Refusal := .next (tickCommit s)
def execDemandIntervalEnd (s : State) : Host.Outcome State Fault Refusal := .next (demandIntervalEnd s)
def execPeriodEnd (s : State) : Host.Outcome State Fault Refusal := .next (periodEnd s)
def execOffsetChange (s : State) : Host.Outcome State Fault Refusal := .next (offsetChange s)
def execCalendarTariffSwitch (s : State) : Host.Outcome State Fault Refusal := .next (calendarSwitch s)
def execTariffCommandEffective (s : State) : Host.Outcome State Fault Refusal := .next (tariffEffective s)
def execAttrTimeout (o : Output) (s : State) : Host.Outcome State Fault Refusal := .next (attrTimeout o s)
def execBillSlewEnd (s : State) : Host.Outcome State Fault Refusal := .next (slewEnd s)
def execBillHoldEnd (s : State) : Host.Outcome State Fault Refusal := .next (holdEnd s)
def execBillingStateWrite (s : State) : Host.Outcome State Fault Refusal := .next (billingStateWrite s)

end Sys2Proof.Machine
end

