-- ==== Sys2Proof/Machine/KeyOps.lean ====
section
/-!
DEFINITION. Key derivation (R60, R69), the HSS index (R80 to R82) and the Flue key with its certificate (R262, R263).
-/

namespace Sys2Proof.Machine

/-! ### Derivation (R69) -/

/-- L by KIND (R69). -/
def kindBits : Nat → Nat
  | 1 => 128 | 2 => 256 | 4 => 448 | _ => 384

/-- A child key from its parent: a P-384 private key is reduced as R69 states. -/
def childKey (parent label context : Bytes) (kind : Nat) : Bytes :=
  let k := kdf parent label context (kindBits kind)
  if kind = 4 then beBytes 48 (ofBE k % (p384N - 1) + 1) else k

/-- The context of KEY_DERIVE and of the boot derivations: child slot, the parent's generation, the requester's bytes. -/
def deriveContext (child : Fin 256) (parentGen : Nat) (bytes : Bytes) : Bytes := leBytes 1 child.1 ++ leBytes 4 parentGen ++ bytes

/-- The attributes of a key that the firmware derives from slot 0 (R59). -/
def rootChild (kind engines grant parentGen : Nat) (key : Bytes) : KeySlot :=
  { KeySlot.reset with state := .valid, kind, engines, grant, parent := 0, hasParent := true, parentGen, key }

/-- The boot derivations of slots 1, 2, 4 and 6 from slot 0 (R60): KIND and engines of each. -/
def bootSlots : List (Fin 256 × Nat × Nat) :=
  [(1, 4, 2 ^ engECDSA + 2 ^ engECDH), (2, 5, 2 ^ engLMS), (4, 2, 2 ^ engFLASHX), (6, 6, 2 ^ engKDF)]

/-- A slot derived at boot: the same key, generation and attributes each time (R61, R69). -/
def State.bootSlot (s : State) (n : Fin 256) (kind engines grant : Nat) : State :=
  let root := s.slot 0
  let key := childKey root.key (Config.bootLabel n.1) (deriveContext n root.gen []) kind
  let d := s.drawBytes key.length
  d.2.onSlot n (fun k => { rootChild kind engines grant root.gen key with gen := max 1 k.gen, share := d.1 })

/-- The boot derivations (R60); in RETURNED also P4's host key, from the returned-goods root (R57). -/
def State.bootDerive (s : State) : State :=
  let s1 := bootSlots.foldl (fun s q => s.bootSlot q.1 q.2.1 q.2.2 0) s
  if s.life.state = .returned then s1.bootSlot 11 3 (2 ^ engHMAC + 2 ^ engKDF) 4 else s1

/-- The Flue key of the present epoch and metrology digest (R262). -/
def State.flueKey (s : State) : Bytes :=
  childKey (s.slot 0).key (ascii "LV3750-FLUE")
    (leBytes 4 s.mseal.record.epoch ++ (s.mseal.record.mdigest.getD (List.replicate 48 0))) 4

/-- Slot 3 is derived for a new epoch: one use of slot 0, one generation on (R262). -/
def State.deriveFlue (s : State) : State :=
  let s1 := (s.keyUse 0 engKDF 0).2
  (s1.fillSlot 3 (rootChild 4 (2 ^ engFLUE) 1 (s1.slot 0).gen s1.flueKey)).2

/-- Slot 3 is derived again at a boot (R262): the same key and generation. EMPTY while KEY_EPOCH is 0, and in RETURNED, where the Flue key is
gone with the field root (R57, R278). -/
def State.bootFlue (s : State) : State :=
  if s.mseal.record.epoch = 0 ∨ s.life.state = .returned ∨ (s.slot 0).state ≠ .valid then s
  else
    let k := s.flueKey
    let d := s.drawBytes k.length
    d.2.onSlot 3 (fun o => { rootChild 4 (2 ^ engFLUE) 1 (s.slot 0).gen k with gen := max 1 o.gen, share := d.1 })

/-! ### HSS indices (R80 to R82) -/

/-- 2^30 one-time indices (R80). -/
def hssTotal : Nat := 2 ^ 30

/-- An index is left. -/
def Hss.left (h : Hss) : Bool := h.next < hssTotal

/-- The index is the first of a lower tree, after the first (R81). -/
def Hss.newTree (h : Hss) : Bool := h.next % 32768 == 0 && h.next != 0

/-- With 16,384 indices or fewer left in the lower tree, the next tree is computed (R81). -/
def Hss.compute (h : Hss) : Hss := { h with computing := h.computing || (!h.nextReady && decide (16384 ≤ h.next % 32768)) }

/-- Take one index: the boundary moves by 1,024 before it would be reached, a new lower tree uses up the one that was ready, and
with 16,384 indices left the next one is computed (R80, R81). -/
def Hss.take (h : Hss) : Hss :=
  let ready := h.nextReady && !h.newTree
  let n := h.next + 1
  { next := n, boundary := if h.boundary ≤ n then h.boundary + 1024 else h.boundary, nextReady := ready,
    computing := !ready && (h.computing || 16384 ≤ n % 32768) }

/-- One HSS signature with slot 2 (R79, R80); none when no index remains or the slot refuses. -/
def State.hssSignature (s : State) (digest : Bytes) : Option Bytes × State :=
  if s.keys.hss.left then
    match s.keyUse 2 engLMS 0 with
    | (some _, s1) => (none, s1)
    | (none, s1) => (some (Config.hssSign (s.slot 2).key s.keys.hss.next digest), s1.onKeys (fun k => { k with hss := k.hss.take }))
  else (none, s)

/-- One ECDSA signature with the identity key in slot 1 (R79). -/
def State.identitySign (s : State) (digest : Bytes) : Bytes × State :=
  let u := s.keyUse 1 engECDSA 0
  (if u.1.isNone then ecdsaSign (s.slot 1).key digest else [], u.2)

/-! ### The Flue key certificate (R263) -/

/-- The 240-byte body. -/
def State.certBody (s : State) : Bytes :=
  let r := s.mseal.record
  [0x4C#8, 0x56#8, 0x46#8, 0x4B#8] ++ leBytes 2 1 ++ leBytes 2 0 ++ leBytes 8 Config.serial.toNat ++ leBytes 4 r.epoch ++ leBytes 4 0
  ++ leBytes 8 s.wall0 ++ leBytes 8 ((s.grate.plan.map (·.planId)).getD 0) ++ r.mdigest.getD (List.replicate 48 0) ++ r.calDigest
  ++ sec1 (ecPublic (ofBE (s.slot 3).key)) ++ List.replicate 7 0

/-- Sign and store the certificate of the present epoch; CERT_PARTIAL when no HSS index is left (R263). -/
def State.certify (s : State) : State :=
  let body := s.certBody
  let d := sha384 body
  let a := s.identitySign d
  let h := a.2.hssSignature d
  let tail := match h.1 with
    | some sig => leBytes 4 sig.length ++ sig
    | none => leBytes 4 0
  (h.2.onMseal (fun m => { m with certs := m.certs.filter (fun c => c.1 != m.record.epoch) ++ [(m.record.epoch, body ++ a.1 ++ tail)] })).sealWrite
    (fun r => { r with certPartial := h.1.isNone })

end Sys2Proof.Machine
end

