-- ==== Sys2Proof/Machine/LogCmds.lean ====
section
/-!
DEFINITION. Bandwidth windows, the event log's writing and folding, and its export (R523 to R532).
-/

namespace Sys2Proof.Machine

/-! ### Entries as bytes (R525) -/

/-- CODE of an event. -/
def Ev.code (e : Ev) : Nat := e.cls * 4096 + e.blk * 64 + e.num

/-- SOURCE of an entry. -/
def sourceWord (inst polder origin : Nat) : Nat := inst % 256 + polder % 8 * 256 + origin % 8 * 2048

/-- The 32 bytes of an entry. -/
def LogEntry.bytes (e : LogEntry) : Bytes :=
  leBytes 8 e.tb ++ leBytes 8 e.wall ++ leBytes 2 e.ev.code ++ leBytes 2 (sourceWord e.inst e.polder e.origin)
  ++ leBytes 4 (e.arg0 % 2 ^ 32) ++ leBytes 4 (e.arg1 % 2 ^ 32) ++ leBytes 4 (e.index % 2 ^ 32)

/-- R526: the polders that see a class, bit p for polder p. -/
def classPolders (c : Nat) : Nat :=
  if c = 1 ∨ c = 2 then 0x17 else if c = 5 then 0x1D else 0x15

/-- Every entry held, in index order. -/
def EventLog.held (l : EventLog) : List LogEntry := l.ring ++ l.staged

/-! ### Export (R531, R532) -/

/-- LOG_EXPORT: job 0x50. -/
def logExport (j : Slot) (s : State) : State :=
  if s.jobTurn j 0x50 then
    let b := s.job j
    let w := b.param 2
    let count := bitsOf w 0 15
    let classes := bitsOf w 16 8
    if count = 0 ∨ 16384 < count then s.finishJob j BADFRAME
    else
      let l := (s.log.held.filter (fun e => decide (b.param 1 ≤ e.index) && (classes == 0 || bitOf classes e.ev.cls)
        && bitOf (classPolders e.ev.cls) b.polder)).take count
      let bytes := (l.map LogEntry.bytes).flatten
      let w0 := w64 ((l.head?.map (·.index)).getD (max (b.param 1) ((s.log.held.head?.map (·.index)).getD s.log.next)))
      let w1 := w64 l.length
      let s1 := (s.onJob j (fun x => { x with exported := bytes })).addRecord j 0x0050 [w0, w1, w64 s.log.next]
      let s2 := if bitOf w 24 then
          let d := sha384 bytes
          let g := s1.identitySign (sha384 (ascii "LV3750-LOG" ++ leBytes 8 Config.serial.toNat ++ leBytes 8 w0.toNat ++ leBytes 8 w1.toNat ++ d))
          g.2.addRecord j 0x0051 (bytesWords (d ++ g.1))
        else s1
      s2.finishJob j 0
  else s

/-! ### Writing (R528, R529) -/

/-- LOG_FLUSH: staged entries reach flash. -/
def logFlush (s : State) : State := s.onLog EventLog.flush

/-- LOG_FOLD: one entry for each code and source that was folded in the second that ends (R529). -/
def logFold (s : State) : State :=
  let l := s.log.folds.filter (fun f => f.folded != 0)
  l.foldl (fun (s : State) (f : FoldCount) =>
    s.logRaw .folded 0 7 0 (f.ev.code + sourceWord f.inst f.polder f.origin * 65536) f.folded) (s.onLog (fun x => { x with folds := [] }))

/-- FLASH_DIE_FAULT: the flash die stops answering (R528, R487). -/
def flashFault (s : State) : State := (s.onLog (fun l => { l with flashOk := false })).onPwr (fun p => { p with flashDead := true })

/-! ### Bandwidth windows (R523, R524) -/

/-- K of a port. -/
def State.bwK (s : State) (p : Fin 4) : Nat :=
  match p.1 with
  | 0 => s.fld R.CNT_BWCFG F.CNT_BWCFG_K0 []
  | 1 => s.fld R.CNT_BWCFG F.CNT_BWCFG_K1 []
  | 2 => s.fld R.CNT_BWCFG F.CNT_BWCFG_K2 []
  | _ => s.fld R.CNT_BWCFG F.CNT_BWCFG_K3 []

/-- BW_WINDOW_END (R524). -/
def bwEnd (p : Port) (s : State) : State :=
  let b := s.cnt.bw[p]
  let n := 2 ^ s.bwK p
  if b.start + n ≤ s.clock.tb then
    s.onCnt (fun c => { c with bw := c.bw.set p { b with start := s.clock.tb / n * n, inBytes := 0, outBytes := 0, lastIn := b.inBytes, lastOut := b.outBytes,
                                                         peakIn := max b.peakIn b.inBytes, peakOut := max b.peakOut b.outBytes } })
  else s

/-- The limits of `CNT_BWCFG`. -/
def clampBw (v : Nat) : Nat :=
  F.CNT_BWCFG_K0.limit 16 30 (F.CNT_BWCFG_K1.limit 16 30 (F.CNT_BWCFG_K2.limit 16 30 (F.CNT_BWCFG_K3.limit 16 30 v)))

/-- A write of `CNT_BWCFG`: every K_n is written, the running windows are discarded, and the new ones start at the next multiple. -/
def State.writeBw (s : State) (v : Nat) : Nat × State :=
  let r := s.putFields R.CNT_BWCFG [] v clampBw false
  (r.1, r.2.onCnt (fun c => { c with bw := updAll c.bw (fun p b =>
    let n := 2 ^ r.2.bwK p
    { b with start := (s.clock.tb / n + 1) * n, inBytes := 0, outBytes := 0 }) }))

/-- Bytes of a frame on a port join its running window and the byte counters (R523). -/
def State.countBytes (s : State) (p : Fin 4) (inn out : Nat) : State :=
  let s1 := (s.bump 16 inn).bump 17 out
  s1.onCnt (fun c => { c with bw := upd c.bw p (fun b => if b.start ≤ s.clock.tb then { b with inBytes := b.inBytes + inn, outBytes := b.outBytes + out } else b) })

/-! ### The meanings -/

def execLogExport (j : Slot) (s : State) : Host.Outcome State Fault Refusal := .next (logExport j s)
def execLogFlush (s : State) : Host.Outcome State Fault Refusal := .next (logFlush s)
def execLogFold (s : State) : Host.Outcome State Fault Refusal := .next (logFold s)
def execBwWindowEnd (p : Port) (s : State) : Host.Outcome State Fault Refusal := .next (bwEnd p s)
def execFlashDieFault (s : State) : Host.Outcome State Fault Refusal := .next (flashFault s)

end Sys2Proof.Machine
end

