-- ==== Sys2Proof/Machine/HostOps.lean ====
section
/-!
DEFINITION. Host frames on their way in and out (R83 to R115): ports, framing and CRC, the checks of R100 up to its step 5,
sequence numbers, sealing, the damper, and the response.
-/

namespace Sys2Proof.Machine

/-! ### Frames as bytes (R95, R96, R112) -/

/-- The bytes of a frame from its first header byte through its payload. -/
def frameHead (port op sid flags seq count addr : Nat) (payload : List W64) : Bytes :=
  (if 2 ≤ port then [0xA5#8] else []) ++ leBytes 1 op ++ leBytes 1 sid ++ leBytes 1 flags ++ leBytes 2 seq ++ leBytes 2 count
  ++ leBytes 4 addr ++ wordBytes payload

/-- The bytes of a frame through its CRC. -/
def frameBytes (port op sid flags seq count addr : Nat) (payload : List W64) : Bytes :=
  let h := frameHead port op sid flags seq count addr payload
  h ++ leBytes 4 (crc32c h)

/-- The bytes of a request through its CRC as sent. -/
def reqBytes (f : Frame) : Bytes :=
  frameHead f.port.1 f.op.toNat f.sid.toNat f.flags.toNat f.seq.toNat f.count.toNat f.addr.toNat f.payload ++ leBytes 4 f.crc.toNat

/-- The CRC of a request checks. -/
def crcOk (f : Frame) : Bool :=
  crc32c (frameHead f.port.1 f.op.toNat f.sid.toNat f.flags.toNat f.seq.toNat f.count.toNat f.addr.toNat f.payload) == f.crc.toNat

/-- The 96-bit IV of R112. -/
def tagIv (fromDevice : Bool) (sid port ext : Nat) : Bytes := leBytes 1 (b2n fromDevice) ++ leBytes 1 sid ++ leBytes 1 port ++ [0#8] ++ leBytes 8 ext

/-! ### Ports (R12, R84, R92) -/

/-- `SES_PORTCFGn` as written; MAC resets to the low half of the serial. -/
def State.portWord (s : State) (p : Fin 4) : Nat :=
  let a := R.SES_PORTCFGn.addr [p.1]
  (getKey a s.regs).getD (F.SES_PORTCFGn_MAC.set (R.SES_PORTCFGn.resetAt a) s.life.serial.toNat)

/-- The S-class values that the port runs with. -/
def State.portInUse (s : State) (p : Fin 4) : Nat :=
  let a := R.SES_PORTCFGn.addr [p.1]
  (getKey a s.use).getD (F.SES_PORTCFGn_MAC.set (R.SES_PORTCFGn.resetAt a) s.life.serial.toNat)

/-- The mask of the S-class fields. -/
def portMask : Nat := R.SES_PORTCFGn.maskOf (fun f => f.cls == .s)

/-- PENDING of a port (R12). -/
def State.portPending (s : State) (p : Fin 4) : Bool := (s.portWord p ^^^ s.portInUse p) &&& portMask != 0

/-- The port takes up its S-class values. -/
def State.restartPort (s : State) (p : Fin 4) : State :=
  { s with use := putKey (R.SES_PORTCFGn.addr [p.1]) (s.portWord p) s.use }

/-- PENDING is set and the port has had no open or opening session for 1 s. -/
def State.portDue (s : State) (p : Fin 4) : Bool :=
  s.portPending p && !s.portBusy p && decide ((s.host.ports[p]).idleSince + tbSecond ≤ s.clock.tb)

/-- A write of `SES_PORTCFGn`; a port that has been without sessions for 1 s restarts at once. -/
def State.writePort (s : State) (p : Fin 4) (v : Nat) : Nat × State :=
  let w := F.SES_PORTCFGn_DIV_Q4.limit 0x10B 0xFFFF (v &&& R.SES_PORTCFGn.rwMask)
  let s1 := { s with regs := putKey (R.SES_PORTCFGn.addr [p.1]) w s.regs,
                     use := putKey (R.SES_PORTCFGn.addr [p.1]) (mergeMask w (s.portInUse p) portMask) s.use }
  (OK, if s1.portDue p then s1.restartPort p else s1)

/-- The port takes frames now: out of reset in RUN, with the ports up; ENABLE 0 ignores all traffic. In SCRAPPED the boot ROM answers on every
port (R58), in recovery on HP0 and HP2 (R489). -/
def State.listens (s : State) (p : Fin 4) : Bool :=
  s.pwr.mode == .run && !s.pwr.inReset &&
  (if s.life.state = .scrapped then true
   else if s.pwr.recovery then p.1 == 0 || p.1 == 2
   else decide (2 ≤ s.pwr.level) && F.SES_PORTCFGn_ENABLE.get (s.portInUse p) == 1)

/-- R92: on HP3 the frame is one for the device. -/
def State.forUs (s : State) (f : Frame) : Bool :=
  if f.port.1 = 3 then
    match f.eth with
    | none => false
    | some e => !e.tagged && e.etherType == 0x88B5#16
        && e.dst.toNat == 0x024C * 2 ^ 32 + F.SES_PORTCFGn_MAC.get (s.portInUse 3)
  else true

/-- A frame that a port drops (R88, R90, R94). -/
def State.dropFrame (s : State) (p : Fin 4) : State :=
  s.onHost (fun h => { h with ports := upd h.ports p (fun x => { x with dropped := satAdd 16 x.dropped 1 }) })

/-- A sealed frame whose tag fails (R94). -/
def State.dropTag (s : State) (p : Fin 4) : State :=
  s.onHost (fun h => { h with ports := upd h.ports p (fun x => { x with tagFails := satAdd 16 x.tagFails 1 }) })

/-! ### The form of a request (R97, R98, R105, R110) -/

/-- COUNT as the table of R97 allows it for an operation, and whether the words follow as payload. -/
def countOk (op count : Nat) : Bool × Bool :=
  match op with
  | 1 => (decide (1 ≤ count) && decide (count ≤ 128), false)
  | 2 => (decide (1 ≤ count) && decide (count ≤ 128), true)
  | 3 => (count == 5, true)
  | 4 => (count == 6, true)
  | 5 => (count == 0, false)
  | 6 => (decide (1 ≤ count) && decide (count ≤ 128), true)
  | 7 => (decide (1 ≤ count) && decide (count ≤ 128), true)
  | 8 => (count == 0, false)
  | _ => (false, false)

/-- R92: the Ethernet payload is shorter than COUNT and SEALED imply. -/
def tooShort (f : Frame) : Bool :=
  match f.eth with
  | none => false
  | some e => decide (e.len < 16 + 8 * (if (countOk f.op.toNat f.count.toNat).2 then f.count.toNat else 0) + (if f.flags.toNat / 2 % 2 = 1 then 16 else 0))

/-- ADDR as R95 and R97 allow it for an operation. -/
def addrOk (op addr : Nat) : Bool :=
  match op with
  | 1 => addr % 8 == 0
  | 2 => addr % 8 == 0
  | 6 => decide (addr < 16) || addr == 0xFFFFFFFF
  | 7 => decide (addr < 16)
  | _ => addr == 0

/-- Fields of HELLO word 0. -/
def helloPolder (w : Nat) : Nat := bitsOf w 0 3
def helloPassword (w : Nat) : Bool := bitOf w 4
def helloSeal (w : Nat) : Bool := bitOf w 5
def helloIdle (w : Nat) : Nat := if bitsOf w 16 12 = 0 then 60 else bitsOf w 16 12

/-- HELLO word 0 is malformed on a port (R105, R110); in recovery only SEAL and the reserved bits count (R516). -/
def helloBad (port w : Nat) (recovery : Bool) : Bool :=
  bitOf w 3 || bitsOf w 6 10 != 0 || bitsOf w 28 36 != 0 || decide (6 ≤ helloPolder w) ||
  (if recovery then helloSeal w
   else (helloSeal w && (helloPassword w || decide (port < 2)))
     || (decide (2 ≤ port) && !helloSeal w && (helloPolder w == 1 || helloPolder w == 2 || helloPolder w == 4)))

/-- R97, R98, R116: the request is malformed; so is a SUBMIT whose word 0 has any of bits [63:8] set. -/
def malformed (op : Nat) (f : Frame) (recovery : Bool) : Bool :=
  let c := countOk op f.count.toNat
  let sealed := f.flags.toNat == 2
  f.op.toNat != op || !(f.flags.toNat == 0 || sealed) || !c.1 || f.payload.length != (if c.2 then f.count.toNat else 0)
  || !addrOk op f.addr.toNat || (sealed && (decide (f.port.1 < 2) || op == 3 || op == 4))
  || (op == 3 && (f.sid.toNat != 0 || helloBad f.port.1 (f.payload.headD 0).toNat recovery))
  || (op == 6 && decide (256 ≤ (f.payload.headD 0).toNat))

/-! ### Responses (R95, R98, R112, R124) -/

/-- The polder at the To end of a sluice, and the one at its From end (R48). -/
def sluiceTo (n : Nat) : Nat := [3, 2, 4, 2, 2, 1, 3, 2].getD n 0
def sluiceFrom (n : Nat) : Nat := [2, 3, 2, 4, 1, 2, 0, 0].getD n 0

/-- ATTN for a polder (R124). -/
def State.attn (s : State) (polder : Nat) : Bool :=
  s.jobs.slots.toList.any (fun j => j.polder == polder && (j.state == .done || j.state == .failed || j.state == .cancelled) && !j.seen)
  || (idx 8).any (fun n => sluiceTo n.1 == polder && !(s.host.sluices[n]).msgs.isEmpty)

/-- The bytes of a request that is not dropped join the counters (R523). -/
def State.countIn (s : State) (f : Frame) : State :=
  s.countBytes f.port ((reqBytes f).length + (if f.port.1 < 2 then 0 else f.tag.length)) 0

/-- One response to a request; once the access has put the device into a reset or into EMBER, nothing counts it. In a sealed session
`wrap` names its key slot, the key as the request was checked with, and the extended SEQ. A BADFRAME response on HP0 and HP1 carries
SID 0 (R95). -/
def State.respond (s : State) (f : Frame) (sidIn status count : Nat) (payload : List W64) (attn : Bool) (wrap : Option (Fin 256 × Bytes × Nat)) : State :=
  let sid := if status = BADFRAME ∧ f.port.1 < 2 then 0 else sidIn
  let flags := 1 + 2 * b2n wrap.isSome + 4 * b2n attn
  let body := frameBytes f.port.1 status sid flags f.seq.toNat count f.addr.toNat payload
  let tag : Bytes := match wrap with
    | some (_, k, e) => gmac k (tagIv true sid f.port.1 e) body
    | none => []
  let s1 : State := match wrap with
    | some (n, _, _) => (if (s.slot n).state = .valid then (s.keyUse n engAESX 0).2 else s)
    | none => s
  let s2 := (s1.bump 13 1).countBytes f.port 0 (body.length + tag.length)
  let s3 := if s.pwr.inReset ∨ s.pwr.mode ≠ .run then s
            else if status = BUSY then s2.bump 14 1 else if status = DENIED then s2.bump 15 1 else if status = DARK then s2.bump 23 1 else s2
  s3.onHost (fun h => { h with resp := some { port := f.port, dst := (f.eth.map (fun e => e.src.toNat)).getD 0, status, sid, attn, sealed := wrap.isSome,
                                              seq := f.seq.toNat, count, addr := f.addr.toNat, payload, tag } })

/-- A response outside any session. -/
def State.plain (s : State) (f : Frame) (sid status : Nat) (payload : List W64) : State := s.respond f sid status payload.length payload false none

/-- Steps 0 and 1 of R100: ports, CRC and form; the request is counted and handed on. -/
def State.intake (s : State) (op : Nat) (f : Frame) (next : State → State) : State :=
  let s := s.onHost (fun h => { h with resp := none })
  if s.listens f.port = false ∨ s.forUs f = false then s
  else if tooShort f then s.dropFrame f.port
  else if crcOk f = false then
    (if f.port.1 < 2 then (s.countIn f).plain f 0 BADFRAME [] else s.dropFrame f.port)
  else if malformed op f s.pwr.recovery then (s.countIn f).plain f f.sid.toNat BADFRAME []
  else if s.life.state = .scrapped then
    (if op = 1 ∧ f.addr.toNat = R.KEY_LIFECYCLE.base ∧ f.count.toNat = 1 then
      (s.countIn f).plain f f.sid.toNat OK [w64 (packFields [(F.KEY_LIFECYCLE_STATE, 4), (F.KEY_LIFECYCLE_TRANSITIONS, s.life.transitions)])]
     else (s.countIn f).plain f f.sid.toNat DENIED [])
  else next (s.countIn f)

/-! ### Sessions and SEQ (R100, R111, R113) -/

/-- R113: what becomes of a SEQ. -/
inductive SeqFate
  | accept (ext : Nat)
  | duplicate
  | outside
deriving DecidableEq, Repr

/-- The extended value of SEQ `q` nearest to H (R113). -/
def Session.extOf (h : Session) (q : Nat) : Nat :=
  let ahead := (q + 65536 - h.ext % 65536) % 65536
  if ahead ≤ 1025 ∨ ahead < 32768 then h.ext + ahead else (h.ext + 2 ^ 64 - (65536 - ahead)) % 2 ^ 64

/-- R113. -/
def Session.fate (h : Session) (q : Nat) : SeqFate :=
  let ahead := (q + 65536 - h.ext % 65536) % 65536
  let back := (h.ext % 65536 + 65536 - q) % 65536
  if 1 ≤ ahead ∧ ahead ≤ 1024 then .accept (h.ext + ahead)
  else if back ≤ 1023 ∧ h.extFirst + back ≤ h.ext then
    (if h.consumed.contains (h.ext - back) then .duplicate else .accept (h.ext - back))
  else .outside

/-- A SEQ is consumed (R101, R113). -/
def Session.consume (h : Session) (e tb : Nat) : Session :=
  let top := max h.ext e
  { h with ext := top, consumed := (e :: h.consumed).filter (fun x => decide (top < x + 1024)), lastTb := tb }

/-- The payload word of a SEQ response (R99). -/
def Session.seqWord (h : Session) (dup : Bool) : W64 := w64 ((h.ext + 1) % 65536 + b2n dup * 65536)

/-- Rate and bucket of a polder (R115). -/
def State.damperOf (s : State) (polder : Nat) : Nat × Nat :=
  if polder = 3 then (s.fld R.SES_DAMPER F.SES_DAMPER_P3_RATE [], s.fld R.SES_DAMPER F.SES_DAMPER_P3_BURST [])
  else if polder = 5 then (s.fld R.SES_DAMPER F.SES_DAMPER_P5_RATE [], s.fld R.SES_DAMPER F.SES_DAMPER_P5_BURST [])
  else (10000, 512)

/-- The bucket now, in units of 1/25,000,000 frame. -/
def State.bucketNow (s : State) (h : Session) : Nat :=
  let d := s.damperOf h.polder
  min (d.2 * tbSecond) (h.bucket + d.1 * (s.clock.tb - h.refillTb))

/-- The Hearth fails over, resets warm or stands still (R114). -/
def State.hearthBusy (s : State) : Bool := !s.pwr.recovery && (!s.hearth.running || decide (s.clock.tb < s.hearth.busyUntil))

/-- The open session that a frame belongs to (R111). -/
def State.sessionOf (s : State) (f : Frame) : Option (Fin 64 × Session) :=
  let i : Fin 64 := Fin.ofNat 64 f.sid.toNat
  if 64 ≤ f.sid.toNat then none
  else match s.anySession i with
    | some h => if h.port = f.port ∧ (f.port.1 ≠ 3 ∨ f.eth.any (fun e => e.src.toNat == h.src)) then some (i, h) else none
    | none => none

/-- What an operation answers: status, COUNT and payload, and the state it leaves. -/
structure Act where
  status : Nat
  count : Nat
  payload : List W64
  state : State

/-- An answer without payload. -/
def State.act (s : State) (status count : Nat) : Act := { status, count, payload := [], state := s }

/-- The tag of a request in a sealed session checks, under the session key (R112). -/
def State.tagOk (s : State) (f : Frame) (h : Session) (n : Fin 256) : Bool :=
  f.flags.toNat == 2 && f.tag == gmac (s.slot n).key (tagIv false f.sid.toNat f.port.1 (h.extOf f.seq.toNat)) (reqBytes f)

/-- Steps 3 to 5 of R100 for a request in an open session after its tag: a key that is orphaned, SEQ, the damper and the Hearth; then the
operation itself, its response, and `after`. A BUSY of the damper or of the Hearth has COUNT 1 for its payload word (log entry 74). -/
def State.served (s : State) (f : Frame) (i : Fin 64) (h : Session) (run : Fin 64 → Session → State → Act) (after : Fin 64 → State → State) : State :=
  let slot := h.keySlot.getD 0
  let used := if h.sealed ∧ (s.slot slot).state = .valid then (s.keyUse slot engAESX h.polder).2 else s
  let wrap := if h.sealed then some (slot, (s.slot slot).key, h.extOf f.seq.toNat) else none
  let answer := fun (s : State) (status count : Nat) (payload : List W64) => s.respond f i.1 status count payload (s.attn h.polder) wrap
  if h.keySlot.isSome ∧ (s.slot slot).state = .orphan then
    let r := (used.refuse ORPHAN slot.1 engAESX h.polder true).logEv .keyRefusal slot.1 h.polder 0 engAESX ORPHAN
    (answer r ORPHAN 0 []).closeSession i
  else match h.fate f.seq.toNat with
    | .duplicate => answer used SEQERR 1 [h.seqWord true]
    | .outside => answer used SEQERR 1 [h.seqWord false]
    | .accept e =>
      let b := used.bucketNow h
      let rate := (used.damperOf h.polder).1
      let free := s.pwr.recovery && !s.clock.run
      if b < tbSecond ∧ free = false then
        answer used BUSY 1 [busyWord ((tbSecond - b + (25 * rate - 1)) / (25 * rate)) 7]
      else if used.hearthBusy then answer used BUSY 1 [busyWord 1000 7]
      else
        let s1 := used.onSession i (fun x => { x.consume e s.clock.tb with bucket := b - tbSecond, refillTb := s.clock.tb })
        let s2 := (s1.bump 12 1).onPwr (fun p => { p with idleTb := s.clock.tb })
        let a := run i h s2
        after i (answer a.state a.status a.count a.payload)

/-- Steps 2 and 3 of R100 for a request in a session, up to its tag; then the rest. -/
def State.inOrder (s : State) (f : Frame) (run : Fin 64 → Session → State → Act) (after : Fin 64 → State → State) : State :=
  match s.sessionOf f with
  | none => s.plain f f.sid.toNat NOSESSION []
  | some (i, h) =>
    if h.opening then s.plain f f.sid.toNat NOSESSION []
    else
      let slot := h.keySlot.getD 0
      if h.sealed ∧ s.tagOk f h slot = false then
        (if (s.slot slot).state = .valid then (s.keyUse slot engAESX h.polder).2 else s).dropTag f.port
      else if h.sealed = false ∧ f.flags.toNat = 2 then s.respond f i.1 BADFRAME 0 [] (s.attn h.polder) none
      else s.served f i h run after

/-! ### Rows of one register or window (log entry 7) -/

/-- The request frame that stands behind a row which names a session, an address and its words: the next SEQ of the session, its port and
source, and SEALED as the session has it. Such a frame passes the checks of R100 up to its tag. -/
def State.frameOf (s : State) (i : Fin 64) (h : Session) (op addr count : Nat) (payload : List W64) : Frame :=
  let port := h.port
  let flags := if h.sealed then 2 else 0
  let seq := (h.ext + 1) % 65536
  let head := frameHead port.1 op i.1 flags seq count addr payload
  let body := head ++ leBytes 4 (crc32c head)
  { port, eth := if port.1 = 3 then some { src := BitVec.ofNat 48 h.src, dst := BitVec.ofNat 48 (0x024C * 2 ^ 32 + F.SES_PORTCFGn_MAC.get (s.portInUse 3)),
                                           etherType := 0x88B5#16, tagged := false, len := body.length + (if h.sealed then 16 else 0) } else none,
    op := BitVec.ofNat 8 op, sid := BitVec.ofNat 8 i.1, flags := BitVec.ofNat 8 flags, seq := BitVec.ofNat 16 seq, count := BitVec.ofNat 16 count,
    addr := BitVec.ofNat 32 addr, payload, crc := BitVec.ofNat 32 (crc32c head),
    tag := if h.sealed then gmac (s.slot (h.keySlot.getD 0)).key (tagIv false i.1 port.1 (h.ext + 1)) body else [] }

/-- A session asks for one access: its next frame, from the session on. A port that does not listen takes no frame; a COUNT or ADDR
outside the table of R97 is malformed. An ID without an open session is answered NOSESSION. -/
def State.ask (s : State) (i : Fin 64) (op addr count : Nat) (payload : List W64) (run : Fin 64 → Session → State → Act) : State :=
  match s.session i with
  | none => s.reply i NOSESSION []
  | some h =>
    let f := s.frameOf i h op addr count payload
    let s1 := s.onHost (fun x => { x with resp := none })
    if s1.listens h.port = false then s1
    else if (countOk op count).1 = false ∨ addrOk op addr = false then (s1.countIn f).plain f i.1 BADFRAME []
    else (s1.countIn f).served f i h run (fun _ s => s)

/-! ### Opening (R104 to R110, R516) -/

/-- The back-off of a port and polder. -/
def State.backoffOf (s : State) (p : Fin 4) (polder : Nat) : Backoff := (s.host.ports[p]).backoff[Fin.ofNat 6 polder]

def State.onBackoff (s : State) (p : Fin 4) (polder : Nat) (f : Backoff → Backoff) : State :=
  s.onHost (fun h => { h with ports := upd h.ports p (fun x => { x with backoff := upd x.backoff (Fin.ofNat 6 polder) f }) })

/-- The stored K of a password (R108). -/
def State.passwordOf (s : State) (polder : Nat) : Option Bytes := if polder = 3 then s.host.password3 else if polder = 5 then s.host.password5 else none

/-- Sessions on a port: open, and opening. -/
def State.openOn (s : State) (p : Fin 4) : Nat := s.sidCount (fun u => match u with | .host h => h.port == p && !h.opening | _ => false)
def State.openingOn (s : State) (p : Fin 4) : Nat := s.sidCount (fun u => match u with | .host h => h.port == p && h.opening | _ => false)

/-- A session before its PROVE. -/
def newSession (f : Frame) (nonce : Bytes) (tb : Nat) : Session :=
  let w := (f.payload.headD 0).toNat
  { port := f.port, src := (f.eth.map (fun e => e.src.toNat)).getD 0, polder := helloPolder w, password := helloPassword w, sealed := helloSeal w,
    commissioning := false, idle := helloIdle w, hello0 := f.payload.headD 0, hostNonce := wordBytes (f.payload.drop 1), devNonce := nonce,
    opening := true, ext := f.seq.toNat, extFirst := f.seq.toNat, consumed := [f.seq.toNat], bucket := 512 * tbSecond, refillTb := tb, keySlot := none,
    lastTb := tb, keySel := 0, calSel := 0, probeSel := 0x1FF }

/-- HELLO takes an ID and a device nonce (R105). -/
def State.takeIn (s : State) (f : Frame) (g : Session → Session) : State :=
  let d := s.drawBytes 32
  match d.2.allocSid (.host (g (newSession f d.1 s.clock.tb))) with
  | none => s.plain f 0 FULL []
  | some (i, s1) => (s1.bump 12 1).plain f i.1 OK ([s.life.serial] ++ bytesWords d.1)

/-- R100 for HELLO after its form: quotas, the back-off, and what R37 and R108 refuse. In RETURNED, where no verifier is left, a password HELLO of
P3 or P5 is taken and its PROVE fails (R57). -/
def State.helloNow (s : State) (f : Frame) : State :=
  let w := (f.payload.headD 0).toNat
  let pol := helloPolder w
  let back := s.backoffOf f.port pol
  let busy := fun (us : Nat) => s.plain f 0 BUSY [busyWord us 7]
  if s.pwr.recovery then
    if s.sidCount SidUse.isHost ≠ 0 then busy 0
    else if pol = 0 then (s.logEv .openP0 0 0 0 f.port.1 0).plain f 0 DENIED []
    else s.takeIn f (fun h => { h with opening := false, polder := 4, password := false })
  else if SidUse.quota (.host (newSession f [] 0)) ≤ s.sidCount SidUse.isHost then s.plain f 0 FULL []
  else if 4 ≤ s.openingOn f.port then busy 0
  else if s.hearthBusy then busy 1000
  else if back.until_.any (fun t => decide (s.clock.tb < t)) then busy ((back.until_.getD 0 - s.clock.tb + 24) / 25)
  else if pol = 0 then (s.logEv .openP0 0 0 0 f.port.1 0).plain f 0 DENIED []
  else if helloPassword w ∧ (s.passwordOf pol).isNone ∧ (s.life.state ≠ .returned ∨ (pol ≠ 3 ∧ pol ≠ 5)) then (s.dikeRefuse pol f.port.1 0).plain f 0 DENIED []
  else s.takeIn f id

/-- The proof of R106 under `k`. -/
def proofOf (label : String) (k : Bytes) (h : Session) (i : Fin 64) : Bytes :=
  hmac384 k (ascii label ++ h.devNonce ++ h.hostNonce ++ leBytes 1 h.port.1 ++ leBytes 1 h.polder ++ leBytes 1 i.1 ++ leBytes 8 h.hello0.toNat)

/-- The host-key slot of a polder. -/
def hostKeySlot (polder : Nat) : Fin 256 := Fin.ofNat 256 (7 + polder)

/-- R569: a key-mode open may be a commissioning session. -/
def State.mayCommission (s : State) (h : Session) : Bool :=
  !h.password && (s.slot (hostKeySlot h.polder)).state == .empty && s.doorOpen && s.life.state != .returned

/-- K of an open (R106): none when no proof can verify. In RETURNED only P4 opens (R57). -/
def State.openKey (s : State) (h : Session) : Option Bytes :=
  let k := s.slot (hostKeySlot h.polder)
  if s.life.state = .returned ∧ h.polder ≠ 4 then none
  else if h.password then s.passwordOf h.polder
  else if s.mayCommission h then some (List.replicate 48 0#8)
  else if (k.refusal engHMAC s.clock.tb).isNone then some k.key
  else none

/-- A failed open: AUTHFAIL is logged with port, polder and the slot's state, the back-off grows, the ID is freed (R106, R109). -/
def State.failOpen (s : State) (i : Fin 64) (h : Session) : State :=
  let st := if h.password then 0 else match (s.slot (hostKeySlot h.polder)).state with | .empty => 0 | .valid => 1 | .orphan => 2 | .expired => 3 | .spent => 4
  let s1 := (s.logEv .authFail 0 h.polder 0 h.port.1 st).onBackoff h.port h.polder (fun b =>
    { n := b.n + 1, until_ := some (s.clock.tb + min (2 ^ b.n) 64 * tbSecond) })
  s1.closeSession i

/-- The first slot from 16 to 47 that is EMPTY and that no session holds. -/
def State.freeKeySlot (s : State) : Option (Fin 256) :=
  let held := s.host.table.toList.filterMap (fun u => match u with | .host h => h.keySlot | _ => none)
  ((List.range 32).map (fun k => Fin.ofNat 256 (16 + k))).find? (fun n => (s.slot n).state == .empty && !held.contains n)

/-- The session key of a key-mode open (R107): the status, the slot, and the state. -/
def State.sessionKey (s : State) (i : Fin 64) (h : Session) (k : Bytes) : Nat × Option (Fin 256) × State :=
  let p := hostKeySlot h.polder
  let comm := s.mayCommission h
  let u := if comm then (none, s) else s.keyUse p engKDF h.polder
  match u.1, s.freeKeySlot with
  | some e, _ => (e, none, u.2)
  | none, none => (FULL, none, s)
  | none, some n =>
    let key := kdf k (ascii "LV3750-SESSION") (h.devNonce ++ h.hostNonce ++ leBytes 1 h.port.1 ++ leBytes 1 i.1) 128
    (OK, some n, (u.2.fillSlot n { KeySlot.reset with kind := 1, engines := 2 ^ engAESX + 2 ^ engHMAC, grant := h.polder, parent := p.1, hasParent := true,
                                                      parentGen := (s.slot p).gen, key }).2)

/-- PROVE for the session `i` in the opening state (R106, R107, R569). A VALID host key whose mask denies HMAC is a refusal of R75 besides
the failed open. A proof that verifies under a host key which then refuses the derivation of the session key (SPENT by that very HMAC)
is answered with that refusal, DENIED: the ID is freed, with no AUTHFAIL and no back-off (log entry 104). -/
def State.proveNow (s : State) (f : Frame) (i : Fin 64) (h : Session) : State :=
  let comm := s.mayCommission h
  let host := s.slot (hostKeySlot h.polder)
  let use := fun (s : State) => if h.password ∨ comm then s else (s.keyUse (hostKeySlot h.polder) engHMAC h.polder).2
  match s.openKey h with
  | none =>
    let s0 := if h.password = false ∧ host.state = .valid ∧ bitOf host.engines engHMAC = false then (s.keyUse (hostKeySlot h.polder) engHMAC h.polder).2 else s
    (s0.failOpen i h).plain f i.1 AUTHFAIL []
  | some k =>
    let s1 := use s
    if wordBytes f.payload ≠ proofOf "LV3750-OPEN" k h i then (s1.failOpen i h).plain f i.1 AUTHFAIL []
    else
      let r := if h.password then (OK, none, s1) else s1.sessionKey i h k
      if r.1 ≠ OK then (r.2.2.closeSession i).plain f i.1 r.1 []
      else
        let s2 := use r.2.2
        let s3 := s2.onSession i (fun x => { x with opening := false, commissioning := comm, keySlot := r.2.1, ext := f.seq.toNat, extFirst := f.seq.toNat,
                                                    consumed := [f.seq.toNat], bucket := (s2.damperOf h.polder).2 * tbSecond, refillTb := s.clock.tb, lastTb := s.clock.tb })
        let s4 := s3.onBackoff h.port h.polder (fun _ => { n := 0, until_ := none })
        let s5 := (s4.bump 12 1).onPwr (fun p => { p with idleTb := s.clock.tb })
        s5.respond f i.1 OK 6 (bytesWords (proofOf "LV3750-ACPT" k h i)) (s5.attn h.polder) none

end Sys2Proof.Machine
end

