-- ==== Sys2Proof/Machine/Mem.lean ====
section
/-!
DEFINITION. The one addressed memory that the block holds byte by byte: the tag FRAM (R419), as cells in one canonical form.
-/

namespace Sys2Proof.Machine

/-- The CC file of a new part (R419). -/
def ccFile : Bytes := [0x00#8, 0x0F#8, 0x20#8, 0x00#8, 0xFF#8, 0x00#8, 0x40#8, 0x04#8, 0x06#8, 0xE1#8, 0x04#8, 0x10#8, 0x00#8, 0x00#8, 0x80#8]

/-- What an unlisted offset of the tag FRAM reads as: the CC file, and zero elsewhere (a new part; log entry 30). -/
def fram0 (a : Nat) : Byte := if 0x100 ≤ a then ccFile.getD (a - 0x100) 0#8 else 0#8

/-- The canonical form: offsets strictly rising, and no entry equal to what an unlisted offset reads as. -/
def Memory.wf : List Host.Cell → Bool
  | [] => true
  | [c] => c.2 != fram0 c.1
  | c :: d :: l => c.2 != fram0 c.1 && decide (c.1 < d.1) && Memory.wf (d :: l)

/-- Read one byte. -/
def Memory.read : List Host.Cell → Nat → Byte
  | [], a => fram0 a
  | c :: l, a => if c.1 = a then c.2 else Memory.read l a

/-- Write one byte, keeping the canonical form. -/
def Memory.write (a : Nat) (v : Byte) : List Host.Cell → List Host.Cell
  | [] => if v = fram0 a then [] else [(a, v)]
  | c :: l =>
    if a < c.1 then (if v = fram0 a then c :: l else (a, v) :: c :: l)
    else if a = c.1 then (if v = fram0 a then l else (a, v) :: l)
    else c :: Memory.write a v l

/-- Write a string of bytes from an offset upward. -/
def Memory.writeBytes : Nat → Bytes → List Host.Cell → List Host.Cell
  | _, [], m => m
  | a, b :: bs, m => Memory.writeBytes (a + 1) bs (Memory.write a b m)

/-- Read `n` bytes from an offset upward. -/
def Memory.readBytes (m : List Host.Cell) (a n : Nat) : Bytes := (List.range n).map (fun i => Memory.read m (a + i))

end Sys2Proof.Machine
end

