-- ==== Sys2Proof/Machine/EnergyCmds.lean ====
section
/-!
DEFINITION. Energy (chapter 06): the hand-off of a billing tick, live quantities, pulses, AC supply checks, and the save of
the metrology state (R187 to R219).
-/

namespace Sys2Proof.Machine

/-! ### The hand-off (R189 to R191) -/

/-- One µWh in mW frames, and in the accumulator's 1/65,536 mW frames (R189). -/
def uWhFrames : Nat := 172800
def uWhUnits : Nat := 172800 * 65536

/-- R189, R190: whole µWh in an accumulator; a negative one hands nothing off. -/
def wholeUWh (acc : Int) : Nat := (acc / uWhUnits).toNat

/-- Every integrator bound in ENERGY hands its whole µWh to its register, and SITE gains the sum (R189 to R191). -/
def State.handOff (p : Plan) (s : State) : State :=
  p.energies.foldl (fun s e =>
    if h : e.integ < 32 ∧ e.output < 6 ∧ e.reg < 4 then
      let w := wholeUWh (s.grate.integ[e.integ]'h.1).acc
      let o : Fin 7 := ⟨e.output, by omega⟩
      let k : Fin 4 := ⟨e.reg, h.2.2⟩
      (s.onGrate (fun g => { g with integ := upd g.integ ⟨e.integ, h.1⟩ (fun i => { i with acc := i.acc - (w * uWhUnits : Nat) }) })).onNrg
        (fun n => { n with e := upd (upd n.e o (fun r => upd r k (· + w))) 6 (fun r => upd r k (· + w)) })
    else s) s

/-- Active increments of each output between two states of the energy registers (R220). -/
def increments (a b : Energy) : Vector (Vector Nat 2) 6 :=
  Vector.ofFn (fun o => #v[((b.e[o.1])[0]) - ((a.e[o.1])[0]), ((b.e[o.1])[1]) - ((a.e[o.1])[1])])

/-- The hand-off with its entry for billing: a tick that starts at the latest boundary; `short` for the short tick of R215. -/
def State.handTick (p : Plan) (short : Bool) (s : State) : State :=
  let s1 := s.handOff p
  s1.onNrg (fun n => { n with waiting := n.waiting ++ [{ startTb := n.tickTb, endTb := s.clock.tb, inc := increments s.nrg s1.nrg, short }] })

/-! ### Live quantities (R194 to R196, R207) -/

/-- The mean of a window, and its root mean square, in whole units (R194, R196). -/
def meanOf (sum : Int) (good : Nat) : Int := if good = 0 then 0 else rdiv sum (good * 65536)
def rmsOf (sumSq : Int) (good : Nat) : Int := if good = 0 then 0 else rootRatio sumSq.toNat (good * 2 ^ 32)

/-- R194: which quantities an output publishes, and how: none, mean or RMS. -/
inductive LiveForm | unused | mean | rms
deriving DecidableEq, Repr

/-- The form of quantity `k` on a DC output or an AC outlet. -/
def liveForm (dc : Bool) (k : Nat) : LiveForm :=
  if dc then (if k ≤ 2 then .mean else .unused)
  else if k = 1 ∨ (4 ≤ k ∧ k ≤ 9) ∨ k = 13 then .rms
  else if k = 2 ∨ k = 3 ∨ (10 ≤ k ∧ k ≤ 12) then .mean
  else .unused

/-- Frequency in mHz from the L1 crossings of a window (R207); none with fewer than 2. -/
def LiveState.freq (l : LiveState) : Option Int :=
  let d := l.cross[0] - l.firstL1
  if 2 ≤ l.nL1 ∧ 0 < d then some (rdiv ((l.nL1 - 1) * 48000 * 256 * 1000 : Nat) d) else none

/-- The end of a window (R194 to R196): values, VALID bits; the next window starts empty. -/
def LiveState.publish (l : LiveState) (dc : Bool) (bound : Nat → Bool) : LiveState :=
  let val := fun (k : Fin 16) => match liveForm dc k.1 with
    | .unused => if k.1 = 14 ∧ dc = false then (l.freq).getD 0 else 0
    | .mean => if bound k.1 then meanOf l.sum[k] l.good[k] else 0
    | .rms => if bound k.1 then rmsOf l.sumSq[k] l.good[k] else 0
  let ok := fun (k : Fin 16) => match liveForm dc k.1 with
    | .unused => k.1 == 14 && !dc && l.freq.isSome && bound 4 && l.good[4] == l.frames
    | _ => bound k.1 && l.good[k] == l.frames
  { l with value := Vector.ofFn val, valid := bitmap 16 ok, sum := Vector.replicate 16 0, sumSq := Vector.replicate 16 0,
           good := Vector.replicate 16 0, frames := 0, nL1 := 0, published := (l.published + 1) % 2 ^ 32 }

/-- AC supply checks on published phase voltages (R208, R210): PHASE_LOSS, and the missing-neutral condition with the TB
since which it has stood, the window's start counted in. `u` is the line-to-line nominal voltage in V; `l` holds the values published and the
L1 crossings of the window. A window without an L1 crossing, or with a phase lost, leaves the sequence not judged. -/
def LiveState.supply (l : LiveState) (u tb : Nat) : LiveState :=
  let v := [l.value[4], l.value[5], l.value[6]].map Int.natAbs
  let loss := v.any (fun x => decide (12 * (x * x) < (1000 * u) ^ 2))
  let spread := v.foldl max 0 - v.foldl min (v.headD 0)
  let n := !loss && decide ((1000 * u) ^ 2 < 48 * (spread * spread))
  { l with phaseLoss := loss, neutral := n, neutralSince := if n = l.neutral then l.neutralSince else tb - 10 * tbTick,
           seq := if loss ∨ l.nL1 = 0 then 0 else l.seq, seqSince := if (loss ∨ l.nL1 = 0) ∧ l.seq ≠ 0 then tb else l.seqSince }

/-- The checks are idle on an outlet without its three phase voltages. -/
def LiveState.noSupply (l : LiveState) (tb : Nat) : LiveState :=
  { l with phaseLoss := false, neutral := false, neutralSince := if l.neutral then tb else l.neutralSince, seq := 0,
           seqSince := if l.seq = 0 then l.seqSince else tb }

/-- The publisher at a tick boundary: DC windows end at every tick, AC windows at every tenth (R195). -/
def publishAll (p : Plan) (s : State) : State :=
  let s1 := (idx 6).foldl (fun (s : State) (o : Fin 6) =>
    let bound := fun k => p.qtys.any (fun q => q.output == o.1 && (liveIndex q.qty q.phase).any (fun i => i.1 == k))
    let l := { s.nrg.live[o] with frames := (s.nrg.live[o]).frames + 480 }
    let l1 := if isDc o then l.publish true bound
      else if s.nrg.tick % 10 = 0 then
        let l2 := { l.publish false bound with nL1 := l.nL1 }
        { (if bound 4 && bound 5 && bound 6 then l2.supply (p.out o.1).volt s.clock.tb else l2.noSupply s.clock.tb) with nL1 := 0 }
      else l
    let s2 := s.onNrg (fun n => { n with live := n.live.set o l1 })
    if l1.neutral then s2.span (2 ^ o.1) 7 else s2) s
  let binds := fun (q : Nat) (o : Fin 6) => p.qtys.any (fun r => r.output == o.1 && r.qty == q && r.phase == 0)
  let outs := fun q => (idx 6).filter (binds q)
  s1.onNrg (fun n => { n with
    siteLive := #v[((outs 3).map (fun o => (n.live[o]).value[2])).sum, ((outs 4).map (fun o => (n.live[o]).value[3])).sum],
    siteValid := (if outs 3 ≠ [] ∧ (outs 3).all (fun o => bitOf (n.live[o]).valid 2) then 4 else 0)
      + (if outs 4 ≠ [] ∧ (outs 4).all (fun o => bitOf (n.live[o]).valid 3) then 8 else 0) })

/-! ### The tick boundary (R17, R135, R148, R179, R182, R189) -/

/-- TICK_HANDOFF: at the end of frame 479 of a running plan. -/
def tickHandoff (s : State) : State :=
  match s.grate.plan with
  | none => s
  | some p =>
    if s.grate.tickFrame < 480 then s
    else
      let s1 := (s.handTick p false).onNrg (fun n => { n with tick := n.tick + 1, tickTb := s.clock.tb, shortPending := false })
      let s2 := publishAll p s1
      let s3 := s2.onGrate (fun g =>
        let l := g.integ.map (fun x => { x with settled := x.settled || decide (4 ≤ x.fresh) })
        { stepSqs p s2.sens true g with tickFrame := 0, integ := l,
                                        settled := (g.settled || 4 ≤ g.validRun) && p.ins.all (fun r => ((l[r.index]?).map (·.settled)).getD true) })
      let s4 := s3.onSens (fun x => { x with calInUse := s3.mseal.record.cal,
                                             track := x.track.map (fun t => { t with value := t.next.getD t.value, next := none }) })
      (if s4.sens.magEpisode then s4.span 0x3F 5 else s4).bump 6 1

/-! ### Pulses (R199 to R202) -/

/-- PULSE_START (R200). -/
def pulseStart (o : Output) (s : State) : State :=
  let q := s.nrg.pulses[o]
  let w := s.useFld R.NRG_PULSE_CFGn F.NRG_PULSE_CFGn_WIDTH [o.1]
  if 0 < q.queued ∧ q.active = false ∧ w ≤ q.gap then
    s.onNrg (fun n => { n with pulses := n.pulses.set o { q with queued := q.queued - 1, active := true, left := w, width := w, gap := 0,
                                                                 emitted := (q.emitted + 1) % 2 ^ 32 } })
  else s

/-- PULSE_END (R200): WIDTH frames have passed. -/
def pulseEnd (o : Output) (s : State) : State :=
  let q := s.nrg.pulses[o]
  if q.active ∧ q.left = 0 then s.onNrg (fun n => { n with pulses := n.pulses.set o { q with active := false, gap := 0 } }) else s

/-- The level of a PULSEn pin (R200, R202): active high or low by the POLARITY taken up; low at a cold reset. -/
def State.pulsePin (s : State) (o : Output) : Bool :=
  if s.pwr.inReset then false
  else (s.nrg.pulses[o]).active != (s.useFld R.NRG_PULSE_CFGn F.NRG_PULSE_CFGn_POLARITY [o.1] == 1)

/-! ### Saves (R213 to R215) -/

/-- The integer part of an output's pulse accumulator. -/
def State.pulseAcc (s : State) (o : Fin 6) : Nat :=
  match s.grate.plan with
  | none => 0
  | some p => match p.energies.find? (fun e => e.pulse && e.output == o.1) with
    | some e => ((s.grate.integ[e.integ]?.map (·.pulse)).getD 0 / 65536).toNat
    | none => 0

/-- A save record of the present state (R213). `lastTb` is the TB of the last hand-off. -/
def State.saveRecord (s : State) (reason lastTb : Nat) : SaveRecord where
  reason := reason
  seq := s.nrg.saveSeq + 1
  tb := s.clock.tb
  wall := s.wall0
  energy := Vector.ofFn (fun o => s.nrg.e[o.1])
  site := s.nrg.e[6]
  svc := Vector.ofFn (fun o => s.nrg.svc[o.1])
  rem := s.grate.integ.map (fun i => i.acc / 65536)
  pulse := Vector.ofFn s.pulseAcc
  peak := s.nrg.live.map (·.peakMw)
  track := s.sens.track.map (·.value)
  billTime := s.billNow.getD (s.bil.timeAt / 1000)
  lastTickTb := lastTb
  planId := (s.grate.plan.map (·.planId)).getD 0
  shortTick := s.nrg.shortPending
  timeKnown := s.clock.wall.isSome
  root := s.life.rootFused
  doneTb := s.clock.tb
  whole := true

/-- A copy that power fails on before its write has ended is torn (R215, R218). -/
def SaveRecord.tear (r : SaveRecord) (tb : Nat) : SaveRecord := { r with whole := r.whole && decide (r.doneTb ≤ tb) }

/-- Both copies as a loss of power or a reset leaves them. -/
def Energy.tear (n : Energy) (tb : Nat) : Energy := { n with copyA := n.copyA.map (·.tear tb), copyB := n.copyB.map (·.tear tb) }

/-- Write a save over the older copy, one message under slot 4; the highest powers restart (R213, R214). The write of a power-fail save ends
after `us` µs, read back and written once more where its tag does not check (R215); any other save ends at once. -/
def State.metroSave (s : State) (reason lastTb us : Nat) : State :=
  let r := { s.saveRecord reason lastTb with doneTb := s.clock.tb + 25 * us }
  s.storeUse.onNrg (fun n =>
    let older := fun (a b : Option SaveRecord) => (a.map (·.seq)).getD 0 ≤ (b.map (·.seq)).getD 0
    let n1 := if older n.copyA n.copyB then { n with copyA := some r } else { n with copyB := some r }
    { n1 with everSaved := true, saveSeq := r.seq, restoredReason := reason, live := n.live.map (fun l => { l with peakMw := 0 }) })

/-- PERIODIC_SAVE (R214): every 100th tick boundary. -/
def periodicSave (s : State) : State :=
  if 0 < s.nrg.tick ∧ s.nrg.tick % 100 = 0 ∧ s.grate.plan.isSome then s.metroSave 0 s.nrg.tickTb 0 else s

/-! ### AC supply checks (R208 to R210) -/

/-- The output number of an AC outlet. -/
def outletNo (o : Outlet) : Fin 6 := ⟨4 + o.1, by omega⟩

/-- Change the live state of an output. -/
def State.onLive (s : State) (o : Fin 6) (f : LiveState → LiveState) : State := s.onNrg (fun n => { n with live := upd n.live o f })

/-- PHASESEQ_REVERSED (R209). -/
def phaseseqReversed (o : Outlet) (s : State) : State :=
  let l := s.nrg.live[outletNo o]
  if l.seq = 2 ∧ l.seqEpisode = false ∧ l.seqSince + tbSecond ≤ s.clock.tb then
    (s.onLive (outletNo o) (fun l => { l with seqEpisode := true })).tamper T_PHASESEQ o.1 true
  else s

/-- PHASESEQ_EPISODE_END (R209). -/
def phaseseqEnd (o : Outlet) (s : State) : State :=
  let l := s.nrg.live[outletNo o]
  if l.seqEpisode ∧ l.seq = 1 ∧ l.seqSince + 10 * tbSecond ≤ s.clock.tb then
    s.onLive (outletNo o) (fun l => { l with seqEpisode := false })
  else s

/-- NEUTRAL_MISSING (R210): the count, OUTPUT_READY through the episode, and the stop of a running session (R338). -/
def neutralMissing (o : Outlet) (s : State) : State :=
  let l := s.nrg.live[outletNo o]
  if l.neutral ∧ l.neutralEpisode = false ∧ l.neutralSince + tbSecond ≤ s.clock.tb then
    let s1 := (s.onLive (outletNo o) (fun l => { l with neutralEpisode := true })).tamper T_NEUTRAL o.1 true
    if (s1.so (outletNo o)).sid.isSome then s1.stopOut (outletNo o) 13 else s1
  else s

/-- NEUTRAL_EPISODE_END (R210). -/
def neutralEnd (o : Outlet) (s : State) : State :=
  let l := s.nrg.live[outletNo o]
  if l.neutralEpisode ∧ l.neutral = false ∧ l.neutralSince + 10 * tbSecond ≤ s.clock.tb then
    s.onLive (outletNo o) (fun l => { l with neutralEpisode := false })
  else s

/-! ### The meanings -/

def execTickHandoff (s : State) : Host.Outcome State Fault Refusal := .next (tickHandoff s)
def execPulseStart (o : Output) (s : State) : Host.Outcome State Fault Refusal := .next (pulseStart o s)
def execPulseEnd (o : Output) (s : State) : Host.Outcome State Fault Refusal := .next (pulseEnd o s)
def execPeriodicSave (s : State) : Host.Outcome State Fault Refusal := .next (periodicSave s)
def execPhaseseqReversed (o : Outlet) (s : State) : Host.Outcome State Fault Refusal := .next (phaseseqReversed o s)
def execPhaseseqEpisodeEnd (o : Outlet) (s : State) : Host.Outcome State Fault Refusal := .next (phaseseqEnd o s)
def execNeutralMissing (o : Outlet) (s : State) : Host.Outcome State Fault Refusal := .next (neutralMissing o s)
def execNeutralEpisodeEnd (o : Outlet) (s : State) : Host.Outcome State Fault Refusal := .next (neutralEnd o s)

end Sys2Proof.Machine
end

