-- ==== Sys2Proof/Machine/SealCmds.lean ====
section
/-!
DEFINITION. The metrology seal, calibration jobs, Flue jobs and the tamper ledger (R179 to R181, R256 to R278).
-/

namespace Sys2Proof.Machine

/-! ### The sealed record (R256) -/

/-- The copy in force (R256): the one with the higher sequence number whose tag checks under the storage key of a root key. -/
def Seal.inForce (m : Seal) (root : Nat) : SealedRecord :=
  match m.older with
  | some o => if m.record.root = root ∧ o.seq ≤ m.record.seq then m.record else if o.root = root then o else m.record
  | none => m.record

/-- SHA-384 over the images of slots 0 to 63 (R256). -/
def calDigestOf (cal : Vector CalSlot 64) : Bytes :=
  sha384 ((cal.toList.map (fun c => leBytes 8 c.scale.toNat ++ leBytes 8 c.offset.toNat ++ leBytes 8 c.temp.toNat ++ leBytes 8 c.phase.toNat)).flatten)

/-! ### Opening and closing (R257 to R261) -/

/-- SEAL_OPEN: job 0x40. -/
def sealOpen (j : Slot) (s : State) : State :=
  if s.jobTurn j 0x40 then
    let w := (s.job j).param 1
    let dur := bitsOf w 0 9
    let minutes := if dur = 0 then 60 else dur
    let reason := bitsOf w 16 16
    if 480 < dur then s.finishJob j BADFRAME
    else if s.doorOpen = false then s.finishJob j DENIED
    else
      let dl := s.wall0 + minutes * 60000
      let s1 := if s.mseal.record.open_ then s.sealWrite (fun r => { r with deadline := dl })
        else (((s.tamper T_SEAL reason true).sealWrite (fun r => { r with open_ := true, deadline := dl, reason })).onMseal
          (fun m => { m with changed := false })).logEv .sealOpen 0 (s.job j).polder 0 reason 0
      (s1.addRecord j 0x0040 [w64 s1.mseal.record.epoch, w64 dl]).finishJob j 0
  else s

/-- One record of a close for each present output and SITE, at the latest committed boundary (R261). -/
def State.closeRecords (s : State) (type : Nat) : State :=
  s.points.foldl (fun (s : State) (n : Fin 7) => s.makeFlue (s.flueBody type n (s.sidAt n) 0 0 0 (s.demNow n))) s

/-- R261 step 1: queued CAL_WRITE jobs fail, and an armed swap with SEALED_DIFF = 1 is abandoned (R154). -/
def State.closeStart (s : State) : State :=
  let s1 := (idx 16).foldl (fun (s : State) (i : Fin 16) => if s.queuedJob i 0x48 then s.finishJob i DENIED else s) s
  if s1.grate.sealedDiff ∧ (s1.grate.shadowState = 2 ∨ s1.grate.shadowState = 3) then
    s1.onGrate (fun g => { g with shadowState := 4, refuse := 12 })
  else s1

/-- R261: the close, with its cause: 0 a job, 1 the deadline, 2 a cold boot. A metrology change moves to a new key epoch, with
closing records under the old key and opening records under the new one. One new copy of the record holds the closed state, KEY_EPOCH and the
calibration digest (step 3). -/
def State.closeSeal (s : State) (cause polder : Nat) : State :=
  let s1 := s.closeStart
  let shut := fun (s : State) (f : SealedRecord → SealedRecord) =>
    s.sealWrite (fun r => { f r with open_ := false, deadline := 0, reason := 0, backupGap := false, certPartial := false })
  let s2 :=
    if s1.mseal.changed then
      let a := if s1.mseal.record.epoch = 0 then s1 else s1.closeRecords 6
      let b := shut a (fun r => { r with epoch := r.epoch + 1, calDigest := calDigestOf r.cal })
      let c := b.onMseal (fun m => { m with closing := true })
      (c.deriveFlue.certify).closeRecords 7
    else shut s1 id
  (((s2.onMseal (fun m => { m with changed := false, closing := false })).onNrg (fun n => { n with journalLost := false }))).logEv .sealClose 0 polder 0 cause 0

/-- SEAL_CLOSE: job 0x41. -/
def sealClose (j : Slot) (s : State) : State :=
  if s.jobTurn j 0x41 then
    (if s.mseal.record.open_ then s.closeSeal 0 (s.job j).polder else s).finishJob j 0
  else s

/-- SEAL_AUTO_CLOSE (R260): wall time has reached the deadline, or the deadline passes while time is unknown. -/
def sealAutoClose (s : State) : State :=
  if s.mseal.record.open_ ∧ (s.wallNow.all (fun w => decide (s.mseal.record.deadline ≤ w))) then s.closeSeal 1 7 else s

/-! ### Calibration (R179 to R181) -/

/-- The images of a CAL_WRITE are in range: TRACK_LIMIT below 2^31, reserved bits of the phase image 0 (R179). -/
def calInRange (offset phase : Nat) : Bool :=
  decide (F.MET_CAL_OFFSET_TRACK_LIMIT.get offset < 2 ^ 31) && bitsOf phase 20 12 == 0 && bitsOf phase 34 30 == 0

/-- CAL_WRITE: job 0x48. -/
def calWrite (j : Slot) (s : State) : State :=
  if s.jobTurn j 0x48 then
    let b := s.job j
    let n : Fin 64 := Fin.ofNat 64 (b.param 1)
    if 64 ≤ b.param 1 then s.finishJob j BADFRAME
    else if s.mseal.record.open_ = false then s.finishJob j DENIED
    else if calInRange (b.param 3) (b.param 5) = false then s.finishJob j 0x40
    else
      let c : CalSlot := { scale := w64 (b.param 2), offset := w64 (b.param 3), temp := w64 (b.param 4),
                           phase := w64 (F.MET_CAL_PHASE_WRITTEN.set (b.param 5) 1) }
      let s1 := (s.tamper T_CONFIG (2 + n.1 * 256) true).sealWrite (fun r => { r with cal := r.cal.set n c })
      let s2 := (s1.onSens (fun x => { x with track := upd x.track n (fun t => { t with value := 0, next := none, window := none }) })).span 0x3F 12
      let tb := if s.grate.plan.isSome then max s.clock.tb (s.nrg.tickTb + tbTick) else s.clock.tb
      (s2.addRecord j 0x0048 [w64 tb]).finishJob j 0
  else s

/-- CAL_MEASURE: job 0x49. The job starts; the frames that follow give x, and the last of them ends it (`measureFrame`). -/
def calMeasure (j : Slot) (s : State) : State :=
  if s.jobTurn j 0x49 then
    let w := (s.job j).param 1
    let slot := bitsOf w 0 6
    let n := bitsOf w 32 32
    if n < 48 ∨ 4800000 < n then s.finishJob j BADFRAME
    else if !((s.grate.plan.map (fun p => p.mas.any (fun m => m.op == 5 && m.calSlot == slot))).getD false) then s.finishJob j 0x42
    else (s.startJob j true).onSens (fun x => { x with measure := some { job := j, slot, want := n, n := 0, skipped := 0, sum := 0, sq := 0, lo := 0, hi := 0 } })
  else s

/-! ### Flue jobs (R276 to R278) -/

/-- Outputs on which a session runs, as a bit map. -/
def State.inSession (s : State) : Nat := bitmap 6 (fun o => (s.so o).sid.isSome)

/-- The first refusal of FLUE_READ, or 0 (R277, R278). -/
def State.flueRefusal (s : State) (polder outs : Nat) : Nat :=
  if s.life.state = .returned then DENIED
  else if polder = 3 ∧ (outs &&& s.inSession) ≠ outs then DENIED
  else if s.mseal.record.epoch = 0 then 0x40
  else if (List.range 6).any (fun o => bitOf outs o && !bitOf s.present o) then 0x41
  else if s.clock.wall.isNone then NOTIME
  else if (s.slot 3).state ≠ .valid then ORPHAN
  else 0

/-- FLUE_READ: job 0x42. -/
def flueRead (j : Slot) (s : State) : State :=
  if s.jobTurn j 0x42 then
    let b := s.job j
    let outs := bitsOf (b.param 1) 0 7
    let type := if bitOf (b.param 1) 8 then 5 else 1
    let e := s.flueRefusal b.polder outs
    if e ≠ 0 then s.finishJob j e
    else
      let s1 := ((List.finRange 7).filter (fun n => bitOf outs n.1)).foldl (fun (s : State) (n : Fin 7) =>
        let s1 := s.makeFlue (s.flueBody type n (s.sidAt n) 0 0 (w64 (b.param 2)) (s.demNow n))
        match s1.mseal.store.getLast? with
        | some r => s1.addRecord j 0x0080 (bytesWords r.bytes)
        | none => s1) s
      s1.finishJob j 0
  else s

/-- FLUE_FETCH: job 0x43. -/
def flueFetch (j : Slot) (s : State) : State :=
  if s.jobTurn j 0x43 then
    let b := s.job j
    let first := b.param 1
    let count := bitsOf (b.param 2) 0 11
    let outs := bitsOf (b.param 2) 16 7
    if count = 0 ∨ 1024 < count then s.finishJob j BADFRAME
    else if b.polder = 3 ∧ (outs = 0 ∨ (outs &&& s.inSession) ≠ outs) then s.finishJob j DENIED
    else
      let own := fun (r : FlueRecord) => b.polder != 3 || (if h : r.body.output < 6 then ((s.so ⟨r.body.output, h⟩).sid.map (·.1)) == some r.body.sid else false)
      let l := (s.mseal.store.filter (fun r => decide (first ≤ r.body.counter) && (outs == 0 || bitOf outs r.body.output) && own r)).take count
      (l.foldl (fun (s : State) (r : FlueRecord) => s.addRecord j 0x0080 (bytesWords r.bytes)) s).finishJob j 0
  else s

/-- FLUE_CERT: job 0x44. The spec names no error for an epoch without a certificate; the job then fails with NO_EPOCH. -/
def flueCert (j : Slot) (s : State) : State :=
  if s.jobTurn j 0x44 then
    let e := bitsOf ((s.job j).param 1) 0 32
    match s.mseal.certs.find? (fun c => c.1 == (if e = 0 then s.mseal.record.epoch else e)) with
    | some c => (s.addRecord j 0x0081 (bytesWords c.2)).finishJob j 0
    | none => s.finishJob j 0x40
  else s

/-- FLUE_DEFERRED_SIGN (R276). -/
def flueDeferredSign (s : State) : State :=
  if s.flueReady then
    s.mseal.queue.foldl (fun (s : State) (b : FlueBody) => s.signFlue b 7) (s.onMseal (fun m => { m with queue := [] }))
  else s

/-! ### The tamper ledger (R266, R267, R269) -/

/-- TAMPER_INPUT_ACTIVE (R269): a watched input has become active after at least 1.0 s inactive. The argument is the bit map of
active inputs; whether another input that has been active still is, no command reports: its bit is free. Within 1.0 s of its last count an
input has not been inactive for 1.0 s, and does not count again; the backup domain counts in every power state but OFF (R267). -/
def tamperInput (n : TamperNo) (s : State) : State :=
  let again := (s.mseal.inputs[n]).lastTb.any (fun t => decide (s.clock.run = true ∧ s.clock.tb < t + tbSecond))
  if s.pwr.mode ≠ .off ∧ bitOf (s.fld R.SEAL_TAMPCFG F.SEAL_TAMPCFG_EN []) n.1 ∧ again = false then
    let others := bitmap 4 (fun i => (s.mseal.inputs[i]).active && i != n)
    let d := s.draw
    let arg := 2 ^ n.1 ||| (d.1 &&& others)
    ((d.2.onMseal (fun m => { m with inputs := upd m.inputs n (fun _ => { active := true, lastTb := if s.clock.run then some s.clock.tb else none }) })).latch R.SEAL_TAMPCFG [] (2 ^ (20 + n.1))).tamper T_COVER arg false
  else s

/-- An entry of the flash copy in bytes, in the order of `SEAL_LEDk` (R264). The spec lays the copy out nowhere (log entry 114). -/
def LedgerEntry.image (e : LedgerEntry) : Bytes :=
  leBytes 4 e.count ++ leBytes 1 (b2n e.firstMerged + 2 * b2n e.lastMerged) ++ leBytes 8 e.firstTb ++ leBytes 8 e.firstWall ++ leBytes 8 e.lastTb
  ++ leBytes 8 e.lastWall ++ leBytes 4 e.lastArg

/-- What flash holds of an entry: no delta. -/
def LedgerEntry.flash (e : LedgerEntry) : LedgerEntry := { e with dCount := 0, dFirstWall := 0, dLastWall := 0, dLastArg := 0, sramTb := none }

/-- A flash copy of the ledger with its sequence number and CRC-32C, in clear (R265). -/
def ledgerCopy (seq : Nat) (l : Vector LedgerEntry 11) : LedgerCopy :=
  { seq, entries := l.map LedgerEntry.flash, crc := crc32c (leBytes 8 seq ++ (l.toList.map LedgerEntry.image).flatten) }

/-- The copy is good: its CRC-32C checks. -/
def LedgerCopy.good (c : LedgerCopy) : Bool := c.crc == (ledgerCopy c.seq c.entries).crc

/-- The copy in force (R265): the good one with the higher sequence number. -/
def Seal.ledgerNow (m : Seal) : Option LedgerCopy :=
  match m.ledgerA.filter LedgerCopy.good, m.ledgerB.filter LedgerCopy.good with
  | some a, some b => if a.seq < b.seq then some b else some a
  | some a, none => some a
  | none, b => b

/-- The ledger is written over the older flash copy (R265). -/
def Seal.ledgerWrite (m : Seal) : Seal :=
  let seq := (m.ledgerNow.map (·.seq)).getD 0 + 1
  let c := ledgerCopy seq m.ledger
  if (m.ledgerA.map (·.seq)).getD 0 ≤ (m.ledgerB.map (·.seq)).getD 0 then { m with ledgerA := some c } else { m with ledgerB := some c }

/-- At a boot the flash copy in force joins the deltas of the backup domain. -/
def Seal.ledgerRead (m : Seal) : Seal :=
  match m.ledgerNow with
  | none => m
  | some c => { m with ledger := updAll m.ledger (fun i e =>
      { c.entries[i] with dCount := e.dCount, dFirstWall := e.dFirstWall, dLastWall := e.dLastWall, dLastArg := e.dLastArg, sramTb := e.sramTb }) }

/-- Merge every delta into flash (R266, R267). -/
def State.mergeLedger (s : State) : State :=
  if s.mseal.ledger.toList.any (fun e => e.dCount != 0) then
    s.onMseal (fun m => Seal.ledgerWrite { m with ledger := m.ledger.map (fun e => e.merge s.clock.tb) })
  else s

/-- LEDGER_MERGE. -/
def ledgerMerge (s : State) : State := if s.hearth.running then s.mergeLedger else s

/-! ### The meanings -/

def execSealOpen (j : Slot) (s : State) : Host.Outcome State Fault Refusal := .next (sealOpen j s)
def execSealClose (j : Slot) (s : State) : Host.Outcome State Fault Refusal := .next (sealClose j s)
def execSealAutoClose (s : State) : Host.Outcome State Fault Refusal := .next (sealAutoClose s)
def execCalWrite (j : Slot) (s : State) : Host.Outcome State Fault Refusal := .next (calWrite j s)
def execCalMeasureRun (j : Slot) (s : State) : Host.Outcome State Fault Refusal := .next (calMeasure j s)
def execFlueRead (j : Slot) (s : State) : Host.Outcome State Fault Refusal := .next (flueRead j s)
def execFlueFetch (j : Slot) (s : State) : Host.Outcome State Fault Refusal := .next (flueFetch j s)
def execFlueCert (j : Slot) (s : State) : Host.Outcome State Fault Refusal := .next (flueCert j s)
def execFlueDeferredSign (s : State) : Host.Outcome State Fault Refusal := .next (flueDeferredSign s)
def execTamperInputActive (n : TamperNo) (s : State) : Host.Outcome State Fault Refusal := .next (tamperInput n s)
def execLedgerMerge (s : State) : Host.Outcome State Fault Refusal := .next (ledgerMerge s)

end Sys2Proof.Machine
end

