-- ==== Sys2Proof/Machine/PowerOps.lean ====
section
/-!
DEFINITION. Shared operations of power, clocks and reset (chapter 15): the RTC and the anchor, the orderly save, what a cold
reset and the entry into EMBER clear, the warm reset and the failover.
-/

namespace Sys2Proof.Machine

/-! ### The RTC and the anchor (R475, R476) -/

/-- R475: TB, RTC count and wall time at one instant. -/
def State.takeAnchor (s : State) : State :=
  s.onPwr (fun p => { p with rtc := s.rtcNow, rtcTb := s.clock.tb, lprcRan := p.lprc,
                             anchor := some { tb := s.clock.tb, rtc := s.rtcNow, wall := s.wallNow } })

/-- TB stops with CLK_TB; wall time is unknown until TB is spliced (R472, R476). -/
def State.stopTb (s : State) : State :=
  { (s.onPwr (fun p => { p with rtc := s.rtcNow, rtcTb := s.clock.tb, pll := false })) with clock := { s.clock with run := false, wall := none } }

/-! ### What resets keep (R60, R61, R482, R512) -/

/-- Registers whose contents flash, the sealed record or the backup domain keep across a cold reset: settings of the blocks
SES, MET, NRG, BIL, SEAL, VEH, SEQ, FG, LSW, NFC, MSH and PWR; requests and selections are not settings. -/
def keptReg (a : Nat) : Bool :=
  let b := a / 0x10000
  (b == 1 || (5 ≤ b && b ≤ 15)) && a != R.LSW_ON.base && a != R.NFC_TEST.base && a != R.NFC_XCHG.base

/-- LH conditions that the backup domain keeps. -/
def keptSticky (a : Nat) : Bool := a == R.PWR_ALARM.base || a == R.SEAL_TAMPCFG.base

/-- Slots of which flash keeps a record or the derivation parameters (R61): slot 5, slots 8 to 12 and slots from 96. -/
def keptSlotNo (n : Fin 256) : Bool := n.1 == 5 || (decide (8 ≤ n.1) && decide (n.1 ≤ 12)) || decide (96 ≤ n.1)

/-- The Key Register when the main domains lose their state: what flash keeps (R61), the generations of the slots that a boot derives
again, and those of kept slots that were emptied (R64). -/
def KeyReg.cleared (k : KeyReg) : KeyReg :=
  { KeyReg.reset with
      slots := updAll k.slots (fun n x => if x.kept != .no then x else if n.1 ≤ 6 ∨ keptSlotNo n then { KeySlot.reset with gen := x.gen } else KeySlot.reset),
      hss := { k.hss with next := k.hss.boundary, nextReady := false, computing := false } }

/-- Host ports, sessions and sluices after they lose their state: passwords and back-off stay (R108, R109, R114). A back-off
that was in force starts again in full when the port comes up. -/
def HostState.cleared (h : HostState) (tb : Nat) (sluices : Bool) : HostState :=
  { HostState.reset with
      password3 := h.password3, password5 := h.password5,
      sluices := if sluices then h.sluices else HostState.reset.sluices,
      ports := h.ports.map (fun p => { PortState.reset with
        carrier := p.carrier, backoff := p.backoff.map (fun b => { b with until_ := if b.until_.any (fun t => decide (tb < t)) then b.until_ else none }) }) }

/-- A back-off in force starts again in full (R109). -/
def Backoff.restart (b : Backoff) (tb : Nat) : Backoff :=
  { b with until_ := b.until_.map (fun _ => tb + min (2 ^ (b.n - 1)) 64 * tbSecond) }

/-- Every port comes up. -/
def State.portsUp (s : State) : State :=
  s.onHost (fun h => { h with ports := h.ports.map (fun p => { p with idleSince := s.clock.tb, backoff := p.backoff.map (·.restart s.clock.tb) }) })

/-- Billing after its SRAM is lost: the journal ring, the billing state copies, the event area, and the sessions that the ring shows (R252,
R255). What the event area and the billing state say of commands, of cuts and period ends found and of marks stays, so that a tariff change,
a synchronised PHASE or a period end of an outage still acts (R241, R243, R250, log entry 110); WIDE stays until the next BIL_TIMESET (R249). -/
def Billing.cleared (b : Billing) : Billing :=
  { Billing.reset with ticks := b.ticks, jseq := b.jseq, saveA := b.saveA, saveB := b.saveB, saveSeq := b.saveSeq, events := b.events, attr := b.attr,
                       queue := b.queue, cmdNow := b.cmdNow, cmdOrder := b.cmdOrder, cuts := b.cuts, marks := b.marks, lastPeriodMin := b.lastPeriodMin, wide := b.wide }

/-- Energy after its SRAM is lost: the journal copies (R213). -/
def Energy.cleared (n : Energy) : Energy :=
  { Energy.reset with copyA := n.copyA, copyB := n.copyB, everSaved := n.everSaved, saveSeq := n.saveSeq, journalLost := n.journalLost,
                      live := n.live.map (fun _ => LiveState.reset) }

/-- The seal and the Flue after their SRAM is lost: record, ledger, store, certificates and the span bits of ticks (log entry 113) stay; TBs of
unmerged occurrences and queued records are lost (R266). -/
def Seal.cleared (m : Seal) : Seal :=
  { Seal.reset with record := m.record, older := m.older, changed := m.changed, store := m.store, certs := m.certs, splice := m.splice,
                    next := m.next, boundary := m.boundary, span := m.span, tickSpan := m.tickSpan,
                    ledgerA := m.ledgerA, ledgerB := m.ledgerB, ledger := m.ledger.map (fun e => { e with sramTb := none }) }

/-- The sequencer after its SRAM is lost; a session that was open has ended with cause 14 (R344). -/
def Seqr.cleared (q : Seqr) : Seqr :=
  { Seqr.reset with outs := q.outs.map (fun o =>
      { SeqOut.reset with cause := if o.state = .idle ∨ o.state = .unavailable then o.cause else 14 }) }

/-- The vehicle link after its SRAM is lost: accepted pilot and PP levels are outside it, the local list is in flash. -/
def Veh.cleared (v : Veh) : Veh :=
  { Veh.reset with list := v.list, pp := v.pp,
                   pilots := v.pilots.map (fun p => { p with drive := if p.drive = .minus12 then .minus12 else .steady, was := if p.drive = .minus12 then .minus12 else .steady, fromTb := 0 }) }

/-- The load switches at a cold reset (R403): HOST, PWM, LOCK and FGUARD channels turn off at once; CONTACTOR and HVGATE
channels go on following their gate; latches and retry counts are discarded. -/
def State.lswCold (s : State) : State :=
  (idx 24).foldl (fun (s : State) (n : Fin 24) =>
    let m := s.lsMode n.1
    if m = 3 ∨ m = 4 then s.onChan n (fun c => { c with retryLeft := 0, trips := 0, openNow := false, state := if c.latched then 0 else c.state })
    else s.onChan n (fun _ => LswChan.reset)) s

/-- The parts that lose their state with the main domains, in a cold reset and in EMBER alike. The job ID counter restarts in both: R117 names the
cold reset alone, and no bank of R464 keeps it over EMBER (log entry 105). -/
def State.mainOff (s : State) : State :=
  { s with
      hearth := { s.hearth with running := false, pairA := .primary, pairB := .off, checkpointTb := none, busyUntil := 0 },
      keys := s.keys.cleared, jobs := Jobs.reset,
      sens := { Sensing.reset with calInUse := s.sens.calInUse },
      grate := { Grate.reset with stored := s.grate.stored },
      nrg := s.nrg.cleared, bil := s.bil.cleared, mseal := s.mseal.cleared, seqr := s.seqr.cleared, veh := s.veh.cleared,
      life := { s.life with nonce := none },
      fw := { s.fw with job := none, refuse := 0, checkpoint := s.fw.checkpoint.map (fun c => { c with dropTb := none }) } }

/-! ### Cold reset (R479, R482) -/

/-- R214: the orderly save before a reset or restart that the device itself commands. -/
def State.orderlySave (s : State) : State := s.metroSave 2 s.nrg.tickTb 0

/-- The digital and flash dies reset completely: SRAM, embers and the Key Register are cleared (R482). The device then stays in
reset until COLD_BOOT. -/
def State.clearCold (s : State) (code : Nat) : State :=
  let s1 := ((s.onNrg (fun n => n.tear s.clock.tb)).lswCold.stopTb).mainOff
  { s1 with
      regs := s.regs.filter (fun e => keptReg e.1),
      sticky := s.sticky.filter (fun e => keptSticky e.1),
      host := s.host.cleared s.clock.tb false,
      cnt := Counters.reset,
      log := { s.log with staged := [], folds := [], folded := 0, stageLost := 0, flashOk := false },
      rdr := Reader.reset, mesh := Mesh.reset,
      tag := { s.tag with faultSince := none },
      pwr := { s1.pwr with mode := .run, inReset := true, last := code, coldAfter := none, warmTbs := [], pfw := false, level := 0,
                           recovery := false, xtal := false, bootWait := none, pendingWake := false, lastWake := 0, retained := 0, lost := 0, retain := 0 } }


/-- What a cold reset does to the Fireguard (R349, R380, R482): under code 2 safe-off with trigger 1, then its reset; under
code 1 safe-off with trigger 2, then its reset; otherwise it runs on and waits for the next TB pulse. -/
def State.guardCold (s : State) (code : Nat) : State :=
  if code = 2 then s.safeOff 1 0x3F (some 4)
  else if code = 1 then s.safeOff 2 0x3F (some 0)
  else s.onGuard (fun g => { g with firstPulse := false })

/-- A cold reset with a code. While one is in force, a later cause only replaces the code. The contactor requests stand in the power die
until safe-off has opened the gates (R24, R403, log entry 72); a pair that failed its self-test gets its next chance (R28). -/
def State.coldReset (s : State) (code : Nat) : State :=
  if s.pwr.inReset then s.onPwr (fun p => { p with last := code, bootWait := none })
  else ((s.guardCold code).clearCold code).onHearth (fun h => { h with failedA := false, failedB := false })

/-- The reset that waits for safe-off (R473): it follows as soon as no safe-off runs. -/
def State.coldWhenSafe (s : State) : State :=
  match s.pwr.coldAfter with
  | some c => if s.guard.safe.isNone then (s.orderlySave).coldReset c else s
  | none => s

/-! ### Warm reset and failover (R27, R28, R343, R480, R481) -/

/-- The shadow pair holds a current checkpoint. -/
def State.shadowReady (s : State) : Bool :=
  s.hearth.running && (s.hearth.pairA == .shadow || s.hearth.pairB == .shadow) && s.hearth.checkpointTb.isSome

/-- The other pair takes over (R27, R28, R480): within 1 ms; the pair that failed runs its self-test of 150 ms. -/
def State.failover (s : State) : State :=
  let t := s.clock.tb + 25000 + 3750000
  let aLeads := s.hearth.pairA == .primary
  let s1 := s.onHearth (fun h => { h with pairA := if aLeads then .selfTest t else .primary, pairB := if aLeads then .primary else .selfTest t,
                                          busyUntil := s.clock.tb + 25000 })
  let s2 := (s1.onPwr (fun p => { p with failovers := satAdd 16 p.failovers 1 })).latch R.SYS_STATUS [] F.SYS_STATUS_WARM_SEEN.mask
  (s2.onSeqr (fun q => { q with suspended := true })).logEv .reset 1 7 0 16 0

/-- R402: channels that are not held turn off at a warm reset; a lock drive in progress goes on, and only LSW_CLEAR clears a latch (R395). -/
def State.lswWarm (s : State) : State :=
  (idx 24).foldl (fun (s : State) (n : Fin 24) =>
    let m := s.lsMode n.1
    let held := m == 3 || m == 4 || m == 6 || m == 7 || s.fld R.LSW_CFGn F.LSW_CFGn_HOLD [n.1] == 1
    if held then s else s.onChan n (fun c => if c.latched ∨ c.lock = 1 then c else { c with state := 0 })) s

/-- A warm reset (R480, R481, R123, R381, R402): the Hearth cores and nothing else; the fourth within 60 s is a cold reset with
code 9. -/
def State.warmReset (s : State) (code : Nat) : State :=
  let s : State := { s with life := { s.life with nonce := none } }
  let recent := s.pwr.warmTbs.filter (fun t => decide (s.clock.tb < t + 60 * tbSecond))
  if 3 ≤ recent.length then s.orderlySave.coldReset 9
  else
    let s1 := s.onPwr (fun p => { p with warm := satAdd 16 p.warm 1, last := code, warmTbs := recent ++ [s.clock.tb] })
    let s2 := (s1.latch R.SYS_STATUS [] F.SYS_STATUS_WARM_SEEN.mask).onHearth (fun h =>
      { h with running := false, checkpointTb := none, busyUntil := s.clock.tb + 200 * 25000 })
    let s3 := (idx 16).foldl (fun (s : State) (j : Fin 16) => if (s.job j).state = .running then (s.finishJob j BUSY).dropUpdateOf j else s) s2
    let s4 := (s3.onSeqr (fun q => { q with suspended := true })).onGuard (fun g =>
      { g with hold := match g.hold with | some t => some t | none => some s.clock.tb })
    (s4.lswWarm).logEv .reset 0 7 0 code 0

end Sys2Proof.Machine
end

