-- ==== Sys2Proof/Machine/KeyCmds.lean ====
section
/-!
DEFINITION. The jobs of the Key Register, attestation and the life cycle (R53 to R58, R65 to R82), and what the Key Register
does by itself.
-/

namespace Sys2Proof.Machine

/-! ### Targets of key jobs (R47, R59, R70) -/

/-- The answer to a key job that targets slot `n` for a polder: none when it may go on. Slots 8 to 12 take only an import by
their own polder, the first one with the door open (R47); slot 5 belongs to P4; slots from 96 are free for whoever fills them. -/
def State.targetRefusal (s : State) (polder : Nat) (n : Fin 256) (imports : Bool) : Option Nat :=
  let k := s.slot n
  let own := k.grant == polder
  if 8 ≤ n.1 ∧ n.1 ≤ 12 then
    (if imports ∧ polder + 7 = n.1 ∧ (k.state ≠ .empty ∨ s.doorOpen) then none else some DENIED)
  else if n.1 = 5 then (if imports ∧ polder = 4 then none else some DENIED)
  else if 96 ≤ n.1 ∧ (k.state = .empty ∨ own) then none
  else some DENIED

/-- A0-08: the slot's re-mask runs at this TB (4 ticks for each slot of a pass). -/
def State.remasking (s : State) (n : Fin 256) : Bool :=
  s.keys.remaskTb.any (fun t => decide (t + 4 * n.1 ≤ s.clock.tb) && decide (s.clock.tb < t + 4 * n.1 + 4))

/-- A refusal of a key job by the dike (R39). -/
def State.denyKeyJob (s : State) (j : Slot) (n : Fin 256) : State :=
  (s.dikeRefuse (s.job j).polder 7 n.1).finishJob j DENIED

/-- The record of KEY_DERIVE and KEY_IMPORT: generation and orphaned descendants, then done. -/
def State.keyFilled (s : State) (j : Slot) (n : Fin 256) (orphans : Nat) : State :=
  let b := s.job j
  ((s.logEv .keyChange n.1 b.polder 0 b.code (s.slot n).gen).addRecord j b.code [w64 ((s.slot n).gen % 2 ^ 32 + orphans * 2 ^ 32)]).finishJob j 0

/-- The tag's copy of slot 5 follows the slot (R424). -/
def State.tagKeyOf (s : State) (k : Option Bytes) : State := s.onTag (fun t => { t with key := k })

/-- R67: the child's expiry is limited by its parent's. -/
def clampExpiry (parent wanted : Nat) : Nat := if parent = 0 then wanted else if wanted = 0 then parent else min parent wanted

/-- Parameters of KEY_DERIVE in range (R69, R570). -/
def deriveOk (p : DeriveParams) : Bool :=
  decide (1 ≤ p.label.length) && decide (p.label.length ≤ 32) && decide (p.context.length ≤ 64) && decide (1 ≤ p.kind) && decide (p.kind ≤ 6)

/-- KEY_DERIVE: job 0x20 (R65 to R70). The parent must be granted to the polder; a use of an EMPTY one is refused by the Key Register (R65). -/
def keyDerive (j : Slot) (p : DeriveParams) (s : State) : State :=
  if s.jobTurn j 0x20 then
    let pol := (s.job j).polder
    let parent := s.slot p.parent
    if !deriveOk p then s.finishJob j BADFRAME
    else if s.grantOf p.parent ≠ pol ∧ (parent.state ≠ .empty ∨ p.parent.1 < 96) then s.denyKeyJob j p.parent
    else match s.targetRefusal pol p.child false with
      | some _ => s.denyKeyJob j p.child
      | none =>
        if s.remasking p.child then s.finishJob j BUSY
        else
          let u := s.keyUse p.parent engKDF pol
          match u.1 with
          | some e => u.2.finishJob j e
          | none =>
            let key := childKey parent.key p.label (deriveContext p.child parent.gen p.context) p.kind
            let r := u.2.fillSlot p.child
              { KeySlot.reset with kind := p.kind, engines := p.engines.toNat, grant := pol, legacy := p.legacy.toNat, parent := p.parent.1,
                                   hasParent := true, parentGen := parent.gen, limit := p.limit.toNat,
                                   expiry := clampExpiry parent.expiry p.expiry.toNat, key, kept := .params p.label p.context }
            r.2.keyFilled j p.child r.1
  else s

/-- Parameters of KEY_IMPORT in range: a known kind, the kind that R59 gives slot 5 and the host-key slots, and a blob of the length that the
kind has (R570). -/
def importOk (p : ImportParams) : Bool :=
  decide (1 ≤ p.kind) && decide (p.kind ≤ 6) && p.blob.length == Config.blobLength p.kind && (p.target.1 != 5 || p.kind == 1) && (!(decide (8 ≤ p.target.1) && decide (p.target.1 ≤ 12)) || p.kind == 3)

/-- Length in bytes of an imported key of a kind: the key itself, so 48 bytes for a P-384 private key. -/
def importBytes (kind : Nat) : Nat := if kind = 4 then 48 else kindBits kind / 8

/-- The engine mask that an imported key takes: slot 5 and the host-key slots have the one of R59, the others as requested. -/
def importEngines (p : ImportParams) : Nat :=
  if p.target.1 = 5 then 2 ^ engTAG else if 8 ≤ p.target.1 ∧ p.target.1 ≤ 12 then 2 ^ engHMAC + 2 ^ engKDF else p.engines.toNat

/-- KEY_IMPORT: job 0x21 (R47, R70, R424). The blob is opened with slot 1 by ECDH; slot 0 becomes the parent (R60). One that opens to
anything but a key of its kind has failed its authentication. -/
def keyImport (j : Slot) (p : ImportParams) (s : State) : State :=
  if s.jobTurn j 0x21 then
    let pol := (s.job j).polder
    if !importOk p then s.finishJob j BADFRAME
    else if (s.job j).commissioning ∧ p.target.1 ≠ 7 + pol then s.denyKeyJob j p.target
    else match s.targetRefusal pol p.target true with
      | some _ => s.denyKeyJob j p.target
      | none =>
        if s.remasking p.target then s.finishJob j BUSY
        else
          let u := s.keyUse 1 engECDH pol
          match u.1 with
          | some e => u.2.finishJob j e
          | none =>
            match Config.unwrapBlob (s.slot 1).key p.blob with
            | none => u.2.finishJob j AUTHFAIL
            | some key =>
              if key.length ≠ importBytes p.kind then u.2.finishJob j AUTHFAIL
              else
                let r := u.2.fillSlot p.target
                  { KeySlot.reset with kind := p.kind, engines := importEngines p, grant := pol, legacy := p.legacy.toNat, parent := 0,
                                       hasParent := true, parentGen := (s.slot 0).gen, key, kept := .record }
                let s1 := if p.target.1 = 5 then r.2.tagKeyOf (some key) else r.2
                s1.keyFilled j p.target r.1
  else s

/-- KEY_INVALIDATE: job 0x22 (R73): the polder that holds the grant empties the slot. Slot 3's grant covers its attributes
only (R59). -/
def keyInvalidate (j : Slot) (n : KeySlotNo) (s : State) : State :=
  if s.jobTurn j 0x22 then
    let b := s.job j
    let k := s.slot n
    if k.state = .empty ∨ k.grant ≠ b.polder ∨ b.polder = 0 ∨ n.1 = 3 then s.denyKeyJob j n
    else
      let r := s.emptySlot n
      let s1 := if n.1 = 5 then r.2.tagKeyOf none else r.2
      ((s1.logEv .keyChange n.1 b.polder 0 b.code k.gen).addRecord j 0x0022 [w64 r.1]).finishJob j 0
  else s

/-! ### Attestation (R79 to R82) -/

/-- What an attestation report holds (R79); its layout is not stated. -/
def State.report (s : State) (nonce : Bytes) : Bytes :=
  let comp := fun (c : Component) =>
    let i := if c.active then c.imgB else c.imgA
    [((i.map (·.version)).getD 0 : Int), ((i.map (·.provides)).getD 0 : Int)]
  Config.encode "attestation report"
    ([(s.life.serial.toNat : Int), (match s.life.state with | .blank => 0 | .vendor => 1 | .field => 2 | .returned => 3 | .scrapped => 4)]
      ++ (s.fw.comps.toList.map comp).flatten
      ++ [(((s.grate.plan.map (·.planId)).getD 0 : Nat) : Int), (b2n s.mseal.record.open_ : Nat)]
      ++ s.mseal.ledger.toList.map (fun e => ((satAdd 32 e.count e.dCount : Nat) : Int))
      ++ [(s.clock.tb : Int), (s.wall0 : Int), (ofLE nonce : Int)])

/-- The 64-byte nonce of an ATTEST job, as its parameters carry it. -/
def Job.nonce (b : Job) : Bytes := wordBytes (b.params.take 8)

/-- The attestation itself: certificate, report and its two signatures as partial results. -/
def State.attestNow (s : State) (j : Slot) (nonce : Bytes) : State :=
  let rep := s.report nonce
  let d := sha384 rep
  let a := s.identitySign d
  let h := a.2.hssSignature d
  match h.1 with
  | none => h.2.finishJob j FULL
  | some sig =>
    ([Config.identityCert, rep, a.1, sig].foldl (fun (s : State) (x : Bytes) => s.addRecord j 0x0023 (bytesWords x)) h.2).finishJob j 0

/-- ATTEST: job 0x23. A lower tree that is used up makes the job wait for the next one (R81); with no index left it fails (R82); the
index state needs the flash die (R80, R487). -/
def attest (j : Slot) (nonce : Bytes) (s : State) : State :=
  if s.jobTurn j 0x23 then
    if nonce.length ≠ 64 then s.finishJob j BADFRAME
    else if !s.log.flashOk then s.finishJob j BUSY
    else if !s.keys.hss.left then s.finishJob j FULL
    else if s.keys.hss.newTree ∧ s.keys.hss.nextReady = false then
      (s.startJob j true).onJob j (fun b => { b with params := bytesWords nonce })
        |>.onKeys (fun k => { k with hss := { k.hss with computing := true } })
    else s.attestNow j nonce
  else s

/-- HSS_TREE_READY (R81): the next lower tree is computed; ATTEST jobs that wait for it finish. -/
def hssReady (s : State) : State :=
  if s.keys.hss.computing then
    let s1 := s.onKeys (fun k => { k with hss := { k.hss with nextReady := true, computing := false } })
    (idx 16).foldl (fun (s : State) (j : Fin 16) =>
      if (s.job j).code = 0x23 ∧ (s.job j).state = .running then s.attestNow j (s.job j).nonce else s) s1
  else s

/-! ### The life cycle (R53 to R58) -/

/-- Number of a life-cycle state. -/
def LifeState.num : LifeState → Nat
  | .blank => 0 | .vendor => 1 | .field => 2 | .returned => 3 | .scrapped => 4

/-- The polder may run the life-cycle jobs: P2 (only the nonce with the door closed), or P4 with the door open. SUBMIT has asked the same (R39);
a job whose door has closed while it waited is refused too. -/
def State.lifeGrant (s : State) (polder : Nat) (nonceOnly : Bool) : Bool :=
  (polder == 2 && (nonceOnly || s.doorOpen)) || (polder == 4 && s.doorOpen)

/-- What Joditu signs for a return (R54): serial, the state code 3 and the nonce. The rule names the three parts alone; their order, the one byte
of the state code and the SHA-384 digest over them are the model's choice (log entry 106). -/
def returnDigest (serial nonce : W64) : Bytes := sha384 (leBytes 8 serial.toNat ++ [3#8] ++ leBytes 8 nonce.toNat)

/-- R54: the authorisation names the nonce in force, and both signatures verify. -/
def State.returnOk (s : State) (a : ReturnAuth) : Bool :=
  match s.life.nonce with
  | some (n, t) =>
    a.nonce == n && decide (s.clock.tb < t + 600 * tbSecond)
      && ecdsaVerify (Config.jodituKey 0) (returnDigest s.life.serial n) a.ecdsa
      && hssVerify (Config.jodituLms 0) (returnDigest s.life.serial n) a.lms
  | none => false

/-- A transition allowed by R53. -/
def lifeTarget (from_ : LifeState) (target : Nat) : Option LifeState :=
  match from_, target with
  | .field, 3 => some .returned
  | .field, 4 => some .scrapped
  | .returned, 4 => some .scrapped
  | _, _ => none

/-- R57: what cannot be read once the field root is gone: with calibration the whole sealed record, which one storage key encrypts (R256). -/
def State.forget (s : State) : State :=
  { s with
      keys := { s.keys with slots := s.keys.slots.map (fun k => { KeySlot.reset with gen := k.gen }) },
      host := { s.host with password3 := none, password5 := none },
      regs := s.regs.filter (fun e => e.1 == R.PWR_ALARM.base || e.1 == R.SEAL_TAMPCFG.base),
      nrg := { s.nrg with copyA := s.nrg.copyA.map (fun c => { c with whole := false }), copyB := s.nrg.copyB.map (fun c => { c with whole := false }) },
      bil := { s.bil with ticks := [], saveA := none, saveB := none, events := [], queue := [], cmdNow := Vector.replicate 7 none, cuts := [], marks := [] },
      mseal := { s.mseal with record := { SealedRecord.reset with seq := s.mseal.record.seq }, older := none, store := [], certs := [] },
      veh := { s.veh with list := [] } }

/-- R424: at the transition to RETURNED the tag loses its key, its password and the service files; the NDEF file stays. -/
def Tag.returned (t : Tag) : Tag :=
  { t with key := none, pwd := 0, mem := Memory.writeBytes 0x1140 (List.replicate 0x2EC0 0#8) t.mem }

/-- Steps 1 to 4 of R56 for a target state. -/
def State.transition (s : State) (t : LifeState) : State :=
  let s1 := (s.orderlySave).forget
  let s2 : State := { s1 with life := { s1.life with state := t, inTransit := none, transitions := s1.life.transitions + 1,
                                                     rootFused := if t = .scrapped then 0 else t.num, nonce := none } }
  (if t = .returned then s2.onTag Tag.returned else s2).coldReset 6

/-- LIFECYCLE: job 0x24. The nonce is consumed either way. -/
def lifecycle (j : Slot) (target : Nat) (auth : ReturnAuth) (s : State) : State :=
  if s.jobTurn j 0x24 then
    let ok := s.returnOk auth
    let s1 : State := { s with life := { s.life with nonce := none } }
    if s.lifeGrant (s.job j).polder false = false then s1.finishJob j DENIED
    else if target ≠ 3 ∧ target ≠ 4 then s1.finishJob j BADFRAME
    else match lifeTarget s.life.state target with
      | none => s1.finishJob j DENIED
      | some t =>
        if ((idx 6).any (fun o => (s.seqr.outs[o]).sid.isSome)) ∨ s.updateExists then s1.finishJob j BUSY
        else if t = .returned ∧ ok = false then s1.finishJob j AUTHFAIL
        else s1.transition t
  else s

/-- LIFECYCLE_NONCE: job 0x25 (R54). -/
def lifeNonce (j : Slot) (s : State) : State :=
  if s.jobTurn j 0x25 then
    if s.lifeGrant (s.job j).polder true = false then s.finishJob j DENIED
    else
      let d := s.draw
      let n := w64 d.1
      let s1 : State := { d.2 with life := { d.2.life with nonce := some (n, s.clock.tb) } }
      (s1.addRecord j 0x0025 [s.life.serial, n]).finishJob j 0
  else s

/-- LIFECYCLE_NONCE_LAPSE (R54). -/
def nonceLapse (s : State) : State :=
  match s.life.nonce with
  | some (_, t) => if t + 600 * tbSecond ≤ s.clock.tb then { s with life := { s.life with nonce := none } } else s
  | none => s

/-! ### Re-masking and expiry (R66, R71, R72) -/

/-- KEY_REMASK: 5.243 ms, 131,072 TB ticks, after the latest pass began, every slot takes a new share. -/
def remask (s : State) : State :=
  if s.clock.run ∧ s.keys.remaskTb.all (fun t => decide (t + 131072 ≤ s.clock.tb)) then
    let s1 := (idx 256).foldl (fun (s : State) (n : Fin 256) =>
      let d := s.drawBytes (s.slot n).share.length
      d.2.onSlot n (fun k => { k with share := d.1 })) s
    s1.onKeys (fun k => { k with remaskTb := some s.clock.tb })
  else s

/-- KEY_SLOT_EXPIRE (R66, R67): children go on until their own expiry. -/
def slotExpire (n : KeySlotNo) (s : State) : State :=
  let k := s.slot n
  if k.expiry ≠ 0 ∧ k.expiry ≤ s.clock.tb ∧ k.state = .valid then
    let s1 := s.onSlot n (fun k => { k with state := .expired })
    if n.1 = 5 then s1.tagKeyOf none else s1
  else s

/-! ### The meanings -/

def execKeyDerive (j : Slot) (p : DeriveParams) (s : State) : Host.Outcome State Fault Refusal := .next (keyDerive j p s)
def execKeyImport (j : Slot) (p : ImportParams) (s : State) : Host.Outcome State Fault Refusal := .next (keyImport j p s)
def execKeyInvalidate (j : Slot) (target : KeySlotNo) (s : State) : Host.Outcome State Fault Refusal := .next (keyInvalidate j target s)
def execAttest (j : Slot) (nonce : Bytes) (s : State) : Host.Outcome State Fault Refusal := .next (attest j nonce s)
def execLifecycle (j : Slot) (target : Nat) (auth : ReturnAuth) (s : State) : Host.Outcome State Fault Refusal := .next (lifecycle j target auth s)
def execLifecycleNonce (j : Slot) (s : State) : Host.Outcome State Fault Refusal := .next (lifeNonce j s)
def execLifecycleNonceLapse (s : State) : Host.Outcome State Fault Refusal := .next (nonceLapse s)
def execKeyRemask (s : State) : Host.Outcome State Fault Refusal := .next (remask s)
def execKeySlotExpire (n : KeySlotNo) (s : State) : Host.Outcome State Fault Refusal := .next (slotExpire n s)
def execHssTreeReady (s : State) : Host.Outcome State Fault Refusal := .next (hssReady s)

end Sys2Proof.Machine
end

