-- ==== Sys2Proof/Machine/MeshCmds.lean ====
section
/-!
DEFINITION. The mains mesh (chapter 14): trackers, originating and relaying frames, received frames, link and path costs,
contexts and the damper.
-/

namespace Sys2Proof.Machine

/-! ### Trackers (R432, R433) -/

/-- TRACKER_LOCK: spacing in µs, between 7.69 ms and 11.11 ms. -/
def meshLock (p : PhaseNo) (spacing : Nat) (s : State) : State :=
  if 7690 ≤ spacing ∧ spacing ≤ 11110 then
    s.onMesh (fun m => { m with phases := upd m.phases p (fun t => { t with locked := true, spacing := spacing }) })
  else s

/-- TRACKER_UNLOCK: after 4 rejected crossings in a row, or 30 ms of silence. -/
def meshUnlock (p : PhaseNo) (s : State) : State :=
  s.onMesh (fun m => { m with phases := upd m.phases p (fun t => { t with locked := false }) })

/-- ZERO_CROSSING_JUMP. -/
def meshJump (p : PhaseNo) (s : State) : State :=
  s.onMesh (fun m => { m with phases := upd m.phases p (fun t => { t with jumps := satAdd 16 t.jumps 1 }) })

/-! ### Sending (R439 to R444, R447 to R449) -/

/-- NODE_ID of this post. -/
def State.nodeId (s : State) : Nat := s.fld R.MSH_CFG F.MSH_CFG_NODE_ID []

/-- The mesh is enabled. -/
def State.meshOn (s : State) : Bool := s.fld R.MSH_CFG F.MSH_CFG_ENABLE [] == 1

/-- R446, R447: the post may originate and relay. -/
def State.meshTalks (s : State) : Bool := s.meshOn && s.nodeId != 0 && !s.mesh.clash

/-- R447: the mesh may send now. -/
def State.meshSends (s : State) : Bool :=
  s.meshTalks && (idx 3).all (fun p => (s.mesh.phases[p]).locked) && s.pwr.pll && !s.pwr.pfw

/-- One frame in the units of the mesh's token buckets: a rate of one per minute refills one unit per TB tick. -/
def meshToken : Nat := 1500000000

/-- The buckets refilled up to TB `tb` (R449). -/
def Mesh.refill (m : Mesh) (tb damper : Nat) : Mesh :=
  let dt := tb - m.refillTb
  { m with orig := min (F.MSH_DAMPER_ORIG_BURST.get damper * meshToken) (m.orig + dt * F.MSH_DAMPER_ORIG_RATE.get damper),
           relays := min (F.MSH_DAMPER_RELAY_BURST.get damper * meshToken) (m.relays + dt * F.MSH_DAMPER_RELAY_RATE.get damper),
           refillTb := tb }

/-- Queue a frame: it takes one token, or is dropped and counted (R449). -/
def State.meshQueue (s : State) (f : MeshFrame) (relay : Bool) : State :=
  s.onMesh (fun m0 =>
    let m := m0.refill s.clock.tb (s.reg R.MSH_DAMPER [])
    if meshToken ≤ (if relay then m.relays else m.orig) then
      { m with orig := if relay then m.orig else m.orig - meshToken, relays := if relay then m.relays - meshToken else m.relays,
               queue := m.queue ++ [{ frame := f, relay := relay, attempts := 0 }] }
    else { m with txDropped := satAdd 16 m.txDropped 1 })

/-- Originate a frame with the next SEQ and COST T (R440, R443). -/
def State.originate (s : State) (type payload : Nat) : State :=
  let n := (s.mesh.seq + 1) % 256
  let s1 := s.onMesh (fun m => { m with seq := n, sent := (n :: m.sent).take 256 })
  s1.meshQueue { type := type, orig := s.nodeId, send := s.nodeId, hops := 1, cost := s.mesh.cost, seq := n, payload := payload } false

/-- At least `n` seconds since a TB, or never. -/
def State.due (s : State) (t : Option Nat) (n : Nat) : Bool := match t with | some x => decide (x + n * tbSecond ≤ s.clock.tb) | none => true

/-- MESH_CLAIM_DUE: a CLAIM, or a BEACON while SHARE is 0 (R439). -/
def meshClaim (s : State) : State :=
  if s.meshTalks ∧ s.due s.mesh.claimTb 20 = true then
    (s.originate (if s.fld R.SEQ_GUARD_CFG F.SEQ_GUARD_CFG_SHARE [] = 1 then 1 else 2) s.ownClaim).onMesh
      (fun m => { m with claimTb := some s.clock.tb })
  else s

/-- MESH_TIME_DUE: every 600 s by a time source with known wall time (R448). -/
def meshTime (s : State) : State :=
  match s.wallNow with
  | some w =>
    if s.meshTalks ∧ s.fld R.MSH_CFG F.MSH_CFG_TIME_SRC [] = 1 ∧ s.due s.mesh.timeDueTb 600 = true then
      (s.originate 3 (w / 1000)).onMesh (fun m => { m with timeDueTb := some s.clock.tb })
    else s
  | none => s

/-- MESH_FRAME_START: an originated frame carries T as its COST; a TIME frame names the whole second that it follows. -/
def meshStart (s : State) : State :=
  match s.mesh.queue with
  | [] => s
  | x :: rest =>
    if s.meshSends ∧ s.mesh.sending = none then
      let f := { x.frame with cost := if x.relay then x.frame.cost else s.mesh.cost,
                              payload := if x.frame.type = 3 then (s.wall0 / 1000) % 2 ^ 32 else x.frame.payload }
      s.onMesh (fun m => { m with queue := rest, sending := some { x with frame := f } })
    else s

/-- MESH_ATTEMPT_FAIL: retried up to 3 times, then dropped; T rises by 2 (R442, R443). -/
def meshFail (s : State) : State :=
  match s.mesh.sending with
  | none => s
  | some x =>
    s.onMesh (fun m =>
      let m1 := { m with sending := none, cost := min 15 (m.cost + 2), txRetries := satAdd 16 m.txRetries 1 }
      if 4 ≤ x.attempts + 1 then { m1 with txDropped := satAdd 16 m.txDropped 1 }
      else { m1 with queue := { x with attempts := x.attempts + 1 } :: m.queue })

/-- MESH_FRAME_SENT: T falls by 1 (R443). -/
def meshSent (s : State) : State :=
  match s.mesh.sending with
  | none => s
  | some _ => s.onMesh (fun m => { m with sending := none, cost := m.cost - 1, txOk := (m.txOk + 1) % 65536 })

/-! ### Receiving (R437, R440, R443 to R446) -/

/-- A frame that fails its checks (R433, R437, R438). -/
def meshBad (s : State) : State := s.onMesh (fun m => { m with rxBad := satAdd 16 m.rxBad 1 })

/-- SEQ is new for a node: not among the 8 accepted most recently within 60 s (R440). -/
def MeshNode.isNew (n : MeshNode) (seq tb : Nat) : Bool :=
  !(n.seqs.any (fun q => q.1 == seq && decide (tb ≤ q.2 + 60 * tbSecond)))

/-- The link cost after a direct frame (R443). -/
def MeshNode.direct (n : MeshNode) (seq tb : Nat) : MeshNode :=
  if n.link = 0 then { n with link := 4, linkSeq := seq, linkTb := tb }
  else
    let gap := (seq + 256 - n.linkSeq - 1) % 256
    let up := if 1 ≤ gap ∧ gap ≤ 16 then n.link + 2 * gap else n.link
    { n with link := clampNat 1 15 (up - 1), linkSeq := seq, linkTb := tb }

/-- The link cost of the node that sent a copy; 4 for one that is first heard now or has not been heard directly (log entry 34). -/
def State.linkCost (s : State) (send : Fin 64) : Nat :=
  let l := (s.mesh.nodes[send]).link
  if l = 0 then 4 else l

/-- Change what is kept of a node. -/
def State.onNode (s : State) (n : Fin 64) (f : MeshNode → MeshNode) : State :=
  s.onMesh (fun m => { m with nodes := upd m.nodes n f })

/-- A context for a node, from the session table (R445). -/
def State.nodeContext (s : State) (n : Fin 64) : Option State :=
  if (s.mesh.nodes[n]).sid.isSome then some s
  else match s.allocSid (.mesh n) with
    | some (i, s1) => some (s1.onNode n (fun x => { x with sid := some i }))
    | none => none

/-- A relay wait is cancelled by a copy of the same frame with a COST no higher than its own (R444). -/
def State.standDown (s : State) (f : MeshIn) : State :=
  s.onMesh (fun m => { m with waits := m.waits.filter (fun w => !(w.frame.orig == f.orig.1 && w.frame.seq == f.seq.1 && decide (f.cost.1 ≤ w.frame.cost))) })

/-- A good frame: own ID, newness, context, link and path costs; `f` then acts on the accepted frame with its path cost. L(SEND) in the path
cost is that before this frame moves it, as in the chapter's worked example (DEDUCED, log entry 34). -/
def State.meshTake (s : State) (x : MeshIn) (f : Nat → State → State) : State :=
  if s.meshOn = false then s
  else if x.hops.1 = 0 then meshBad s
  else
    let s0 := s.standDown x
    if x.orig.1 = 0 then s0
    else if x.orig.1 = s.nodeId then
      (if s.mesh.sent.contains x.seq.1 ∨ s.mesh.clash then s0
       else (s0.onMesh (fun m => { m with clash := true, queue := [], waits := [] })).logEv .meshClash x.orig.1 7 0 x.seq.1 0)
    else
      let n := s0.mesh.nodes[x.orig]
      if n.isNew x.seq.1 s.clock.tb then
        match s0.nodeContext x.orig with
        | none => s0.onMesh (fun m => { m with untracked := satAdd 8 m.untracked 1 })
        | some s1 =>
          let s2 := if x.orig = x.send then s1.onNode x.orig (fun k => k.direct x.seq.1 s.clock.tb) else s1
          let path := x.cost.1 + s1.linkCost x.send
          let s3 := s2.onNode x.orig (fun k =>
            { k with tb := s.clock.tb, seqs := ((x.seq.1, s.clock.tb) :: k.seqs).take 8,
                     paths := (path, x.hops.1, s.clock.tb) :: k.paths.filter (fun q => decide (s.clock.tb ≤ q.2.2 + 60 * tbSecond)) })
          f path s3
      else if x.orig = x.send ∧ n.sid.isSome then s0.onNode x.orig (fun k => k.direct x.seq.1 s.clock.tb)
      else s0

/-- A relay wait for a copy of an accepted frame (R444). -/
def State.meshRelay (s : State) (x : MeshIn) (path : Nat) : State :=
  if s.meshTalks ∧ s.fld R.MSH_CFG F.MSH_CFG_RELAY [] = 1 ∧ x.hops.1 < 7 then
    let f : MeshFrame := { type := x.type, orig := x.orig.1, send := s.nodeId, hops := x.hops.1 + 1,
                           cost := min 255 (path + s.mesh.cost), seq := x.seq.1, payload := x.payload.toNat }
    s.onMesh (fun m => { m with waits := m.waits ++ [{ frame := f, relay := true, attempts := 0 }] })
  else s

/-- An accepted CLAIM or BEACON (R439). -/
def State.meshClaimed (s : State) (x : MeshIn) (sharing : Bool) (path : Nat) : State :=
  (s.onNode x.orig (fun k => { k with payload := x.payload.toNat, sharing := sharing, claimTb := some s.clock.tb })).meshRelay x path

/-- MESH_CLAIM_RX. -/
def meshClaimIn (x : MeshIn) (s : State) : State := if x.type = 1 then s.meshTake x (fun path s => s.meshClaimed x true path) else s

/-- MESH_BEACON_RX. -/
def meshBeaconIn (x : MeshIn) (s : State) : State := if x.type = 2 then s.meshTake x (fun path s => s.meshClaimed x false path) else s

/-- MESH_TIME_RX (R448): the TB is that of the frame's first L1 crossing. -/
def meshTimeIn (x : MeshIn) (tb : Nat) (s : State) : State :=
  if x.type = 3 then
    s.meshTake x (fun _ s => s.onMesh (fun m => { m with timeS := x.payload.toNat, timeOrig := x.orig.1, timeTb := tb }))
  else s

/-- MESH_RELAY_SEND: the wait has ended without a cheaper copy (R444). -/
def meshRelayOut (s : State) : State :=
  match s.mesh.waits with
  | [] => s
  | w :: rest =>
    let s1 := s.onMesh (fun m => { m with waits := rest })
    if s.meshTalks then s1.meshQueue w.frame true else s1

/-- MESH_CONTEXT_EXPIRE: 120 s after the last accepted frame (R445). -/
def meshExpire (n : Fin 64) (s : State) : State :=
  let k := s.mesh.nodes[n]
  match k.sid with
  | some i => if k.tb + 120 * tbSecond ≤ s.clock.tb then (s.freeSid i).onNode n (fun _ => MeshNode.reset) else s
  | none => s

def execTrackerLock (p : PhaseNo) (spacing : Nat) (s : State) : Host.Outcome State Fault Refusal := .next (meshLock p spacing s)
def execTrackerUnlock (p : PhaseNo) (_silent : Bool) (s : State) : Host.Outcome State Fault Refusal := .next (meshUnlock p s)
def execMeshClaimDue (s : State) : Host.Outcome State Fault Refusal := .next (meshClaim s)
def execMeshTimeDue (s : State) : Host.Outcome State Fault Refusal := .next (meshTime s)
def execMeshFrameStart (s : State) : Host.Outcome State Fault Refusal := .next (meshStart s)
def execMeshAttemptFail (s : State) : Host.Outcome State Fault Refusal := .next (meshFail s)
def execMeshFrameSent (s : State) : Host.Outcome State Fault Refusal := .next (meshSent s)
def execMeshClaimRx (f : MeshIn) (s : State) : Host.Outcome State Fault Refusal := .next (meshClaimIn f s)
def execMeshBeaconRx (f : MeshIn) (s : State) : Host.Outcome State Fault Refusal := .next (meshBeaconIn f s)
def execMeshTimeRx (f : MeshIn) (tb : Nat) (s : State) : Host.Outcome State Fault Refusal := .next (meshTimeIn f tb s)
def execMeshRelaySend (s : State) : Host.Outcome State Fault Refusal := .next (meshRelayOut s)
def execMeshContextExpire (n : Fin 64) (s : State) : Host.Outcome State Fault Refusal := .next (meshExpire n s)
def execMeshFrameBad (s : State) : Host.Outcome State Fault Refusal := .next (meshBad s)
def execZeroCrossingJump (p : PhaseNo) (s : State) : Host.Outcome State Fault Refusal := .next (meshJump p s)

end Sys2Proof.Machine
end

