-- ==== Sys2Proof/Machine/NfcCmds.lean ====
section
/-!
DEFINITION. The card reader (chapter 13): its states, low-power card detection, poll cycles and anticollision, reporting
and using cards, and card exchanges.
-/

namespace Sys2Proof.Machine

/-- STATE of `NFC_STATUS` (R405). -/
def RdState.code : RdState → Nat
  | .off => 0 | .start => 1 | .lpcd => 2 | .poll => 3 | .hold => 4 | .recovery => 5 | .test => 6 | .fault => 7

/-- Enter a reader state. -/
def State.rdEnter (s : State) (x : RdState) : State :=
  s.onRdr (fun r => { r with state := x, stateTb := s.clock.tb, polls := 0, lastTb := s.clock.tb, confirm := false })

/-- Seconds since a TB value have passed. -/
def State.passed (s : State) (tb secs : Nat) : Bool := decide (tb + secs * tbSecond ≤ s.clock.tb)

/-- Cards that are held. -/
def State.heldCards (s : State) : Nat := ((s.rdr.cards.toList).filter Option.isSome).length

/-- A held card goes: its context is freed (R414). -/
def State.dropCard (s : State) (k : Fin 4) : State :=
  match s.rdr.cards[k] with
  | none => s
  | some c => (s.freeSid c.sid).onRdr (fun r => { r with cards := r.cards.set k none, lastTb := s.clock.tb })

/-- Every held card goes. -/
def State.dropCards (s : State) : State := (idx 4).foldl (fun (s : State) (k : Fin 4) => s.dropCard k) s

/-! ### Baseline and detection (R407, R408) -/

/-- A baseline: the mean of the pings, in 2^-16 of a unit. -/
def State.baseline (s : State) (pings : List Ping) : State :=
  let n : Int := max 1 pings.length
  s.onRdr (fun r => { r with baseAmp := (pings.map (·.amp)).sum * 65536 / n, basePh := (pings.map (·.phase)).sum * 65536 / n })

/-- A ping detects (R407). -/
def State.detects (s : State) (p : Ping) : Bool :=
  let r := s.rdr
  let amp : Int := s.fld R.NFC_RDCFG F.NFC_RDCFG_AMP_TH []
  let ph : Int := s.fld R.NFC_RDCFG F.NFC_RDCFG_PH_TH []
  decide (amp * |r.baseAmp| < 1000 * |p.amp * 65536 - r.baseAmp|) || decide (ph * 10 * 65536 < |p.phase * 65536 - r.basePh|)

/-- A ping that does not detect moves the baseline by 1/16 of its difference (R408). -/
def State.follow (s : State) (p : Ping) : State :=
  s.onRdr (fun r => { r with baseAmp := r.baseAmp + (p.amp * 65536 - r.baseAmp) / 16,
                             basePh := r.basePh + (p.phase * 65536 - r.basePh) / 16 })

/-- The latest ping's reading. -/
def State.lastPing (s : State) (p : Ping) : State := s.onRdr (fun r => { r with lastAmp := p.amp, lastPh := p.phase })

/-- NO_CARD_BASELINE: from START or RECOVERY after 1.0 s without a card, or from HOLD once the last card has gone (R406). -/
def rdBaseline (pings : List Ping) (s : State) : State :=
  let r := s.rdr
  if s.heldCards = 0 ∧ (r.state = .hold ∨ ((r.state = .start ∨ r.state = .recovery) ∧ s.passed r.lastTb 1 = true)) then
    (s.baseline pings).rdEnter .lpcd
  else s

/-- LPCD_PING (R407); in the carrier test the reading is shown (R409). -/
def rdPing (p : Ping) (s : State) : State :=
  match s.rdr.state with
  | .lpcd =>
    let s1 := s.lastPing p
    if s.detects p then s1.onRdr (fun r => { r with confirm := true }) else s1.follow p
  | .test => if s.fld R.NFC_TEST F.NFC_TEST_MODE [] = 1 then s.lastPing p else s
  | _ => s

/-- LPCD_CONFIRM_PING: the repeat of a detecting ping (R407). -/
def rdConfirm (p : Ping) (s : State) : State :=
  if s.rdr.state = .lpcd ∧ s.rdr.confirm then
    let s1 := s.lastPing p
    if s.detects p then (s1.onRdr (fun r => { r with detects := (r.detects + 1) % 65536 })).rdEnter .poll
    else (s1.follow p).onRdr (fun r => { r with confirm := false })
  else s

/-! ### Poll cycles and anticollision (R410 to R413) -/

/-- The bytes that the cascade levels send for a UID: a cascade tag before each further level (R411). -/
def cascade (u : Bytes) : Bytes :=
  if u.length = 7 then [0x88#8] ++ u
  else if u.length = 10 then [0x88#8] ++ u.take 3 ++ [0x88#8] ++ u.drop 3
  else u

/-- The bits of a UID in the order sent. -/
def uidBits (u : Bytes) : List Bool := (cascade u).flatMap (fun b => (List.range 8).map (fun i => b.getLsbD i))

/-- At the first bit that differs the card with a 1 is resolved first (R411). -/
def firstOne : List Bool → List Bool → Bool
  | true :: _, false :: _ => true
  | false :: _, true :: _ => false
  | _ :: a, _ :: b => firstOne a b
  | _, _ => true

/-- The tag's own UID (chapter 13, `NFC_TAGUID`): fused, not stated. -/
def tagUid : Bytes := leBytes 7 (Config.freeOf "NFC_TAGUID" [])

/-- The cards that a poll cycle resolves, in order: Type A by anticollision, then Type B; at most 16; the device's own tag
is left out (R410 to R413). -/
def State.resolve (s : State) (cards : List CardIn) : List CardIn :=
  let on := fun f => s.fld R.NFC_RDCFG f [] == 1
  let a := if on F.NFC_RDCFG_TYPE_A then
      sortBy (fun (x y : CardIn) => firstOne (uidBits x.uid) (uidBits y.uid)) (cards.filter (fun c => !c.typeB && c.uid != tagUid)) else []
  let b := if on F.NFC_RDCFG_TYPE_B then cards.filter (fun c => c.typeB && !c.lost) else []
  (a ++ b).take 16

/-- The number of the held card with an identity. -/
def State.findCard (s : State) (c : CardIn) : Option (Fin 4) :=
  (idx 4).find? (fun k => match s.rdr.cards[k] with | some h => h.uid == c.uid && h.typeB == c.typeB | none => false)

/-! ### Reporting and using a card (R415, R416) -/

/-- Change a held card. -/
def State.onCard (s : State) (k : Fin 4) (f : Card → Card) : State :=
  s.onRdr (fun r => { r with cards := r.cards.set k ((r.cards[k]).map f) })

/-- A card is applied to an output: its pseudonym under that output's session, the S6 notice, and R304. On an AC outlet
without digital communication in WAIT_UNPLUG an accepted card is a new start (R317). -/
def State.applyCard (s : State) (k : Fin 4) (o : Fin 6) : State :=
  match s.rdr.cards[k] with
  | none => s
  | some c =>
    let p := (s.veh.pilots[o]).state
    let fresh := (s.so o).state == .waitUnplug && !s.digital o && s.outputReady o && decide (1 ≤ p ∧ p ≤ 3) &&
      (s.listLookup 2 c.uid == some true || (s.listLookup 2 c.uid == none && (s.p2Open || s.fld R.VEH_AUTHCFG F.VEH_AUTHCFG_OFFLINE_ACCEPT [] == 1)))
    let s0 := if fresh then (match (s.so o).sid with | some i => s.freeSid i | none => s).toLock o else s
    let ps := s0.sessionPseud o c.uid
    let s1 := s0.onCard k (fun c => { c with pseudonym := ps.toNat, waiting := false, bound := some o })
    (s1.post 6 [noticeWord 3 c.sid.1 7 0 0, 2, ps]).identify o 2 c.uid true

/-- A card is applied to no output: a pseudonym of its own, and one for each output's session (R415 step 4). -/
def State.applyNone (s : State) (k : Fin 4) : State :=
  match s.rdr.cards[k] with
  | none => s
  | some c =>
    let m := s.newMask c.sid.1
    let s1 := m.2.onCard k (fun c => { c with pseudonym := (pseudonym m.1 c.uid).toNat, waiting := false, bound := none })
    s1.post 6 ([noticeWord 3 c.sid.1 7 0 0, 2] ++ (idx 6).map (fun o => s.sessionPseud o c.uid))

/-- Outputs that wait for an identification (R416). -/
def State.waitingOutputs (s : State) : List (Fin 6) := (idx 6).filter (fun o => (s.so o).auth == 1 && !(s.so o).ended)

/-- A new card is held with a card context and reported, and used where one output waits (R413, R415, R416). -/
def State.holdCard (s : State) (c : CardIn) : State :=
  match (idx 4).find? (fun k => (s.rdr.cards[k]).isNone) with
  | none => s.onRdr (fun r => { r with extra := satAdd 8 r.extra 1 })
  | some k =>
    match s.allocSid (.card k) with
    | none => s.onRdr (fun r => { r with extra := satAdd 8 r.extra 1 })
    | some (i, s1) =>
      let card : Card := { parked := false, typeB := c.typeB, sak := if c.typeB then 0 else c.sak.toNat, atqa := if c.typeB then 0 else c.atqa.toNat,
                           uid := c.uid, sid := i, tb := s.clock.tb, misses := 0, pseudonym := 0, waiting := true, bound := none }
      let s2 := s1.onRdr (fun r => { r with cards := r.cards.set k (some card), lastTb := s.clock.tb })
      let s3 := s2.post 7 ([noticeWord 3 i.1 7 0 0, w64 (2 + c.uid.length * 2 ^ 8)] ++
        (List.range 8).map (fun j => w64 (ofLE ((c.uid.drop (8 * j)).take 8))))
      match s3.waitingOutputs with
      | [o] => s3.applyCard k o
      | _ => if (idx 6).all (fun o => (s3.so o).maskKey == []) then s3.applyNone k else s3

/-- The cards of a cycle: held ones are found again, new ones are held; EXTRA counts this cycle (R413). -/
def State.takeCards (s : State) (cards : List CardIn) : State :=
  cards.foldl (fun (s : State) (c : CardIn) => match s.findCard c with
    | some k => s.onCard k (fun h => { h with misses := 0, parked := false })
    | none => s.holdCard c) (s.onRdr (fun r => { r with extra := 0 }))

/-- Every PARKED card goes. -/
def State.dropParked (s : State) : State :=
  (idx 4).foldl (fun (s : State) (k : Fin 4) => if (s.rdr.cards[k]).any (·.parked) then s.dropCard k else s) s

/-- POLL_CYCLE (R406, R410). A detection whose three poll cycles find no card has checked the PARKED cards, which go (R414). -/
def rdPoll (cards : List CardIn) (s : State) : State :=
  let l := s.resolve cards
  match s.rdr.state with
  | .start | .recovery => if l = [] then s else (s.takeCards l).rdEnter .hold
  | .poll =>
    if l = [] then
      if 3 ≤ s.rdr.polls + 1 then
        let n := s.rdr.consecFalse + 1
        let s1 := s.dropParked.onRdr (fun r => { r with falseDetects := satAdd 16 r.falseDetects 1, consecFalse := if 8 ≤ n then 0 else n })
        s1.rdEnter (if 8 ≤ n then .recovery else .lpcd)
      else s.onRdr (fun r => { r with polls := r.polls + 1 })
    else ((s.takeCards l).onRdr (fun r => { r with consecFalse := 0 })).rdEnter .hold
  | .test => if s.fld R.NFC_TEST F.NFC_TEST_MODE [] = 2 then s.takeCards l else s
  | _ => s

/-- INVENTORY: a held card missing twice goes; a PARKED card that is missing goes at once (R414). -/
def rdInventory (cards : List CardIn) (s : State) : State :=
  if s.rdr.state = .hold then
    let l := s.resolve cards
    let s1 := (idx 4).foldl (fun (s : State) (k : Fin 4) => match s.rdr.cards[k] with
      | some h =>
        if l.any (fun c => c.uid == h.uid && c.typeB == h.typeB) then s
        else if h.parked ∨ 1 ≤ h.misses then s.dropCard k
        else s.onCard k (fun h => { h with misses := h.misses + 1 })
      | none => s) s
    s1.takeCards l
  else s

/-- HOLD_MAX_EXPIRE: the cards become PARKED (R406). -/
def rdHoldMax (pings : List Ping) (s : State) : State :=
  let r := s.rdr
  if r.state = .hold ∧ s.heldCards ≠ 0 ∧ s.passed r.lastTb (s.fld R.NFC_RDCFG F.NFC_RDCFG_HOLD_MAX []) = true ∧ r.xState ≠ 1 then
    ((s.baseline pings).onRdr (fun r => { r with cards := r.cards.map (fun c => c.map (fun h => { h with parked := true })) })).rdEnter .lpcd
  else s

/-! ### Faults, restarts and the test mode -/

/-- NFC_RF_FAULT. -/
def rdFault (s : State) : State :=
  match s.rdr.state with
  | .start | .lpcd | .poll | .hold | .recovery =>
    ((s.rdEnter .fault).latch R.NFC_STATUS [] F.NFC_STATUS_RF_FAULT.mask).logEv .reader 0 7 0 s.rdr.state.code 0
  | _ => s

/-- NFC_FAULT_RECOVER: 5.0 s in FAULT. -/
def rdRecover (s : State) : State := if s.rdr.state = .fault ∧ s.passed s.rdr.stateTb 5 = true then s.rdEnter .recovery else s

/-- NFC_FIELD_RESTART: after a power-fail warning (R404). -/
def rdRestart (s : State) : State :=
  if s.rdr.held ∧ s.pwr.pfw = false then
    let s1 := s.onRdr (fun r => { r with held := false })
    if s.rdr.state = .off then s1 else s1.rdEnter .start
  else s

/-- The clamps of `NFC_RDCFG`. -/
def clampRdcfg (v : Nat) : Nat :=
  F.NFC_RDCFG_HOLD_MAX.limit 10 255 (F.NFC_RDCFG_PH_TH.limit 1 255 (F.NFC_RDCFG_AMP_TH.limit 1 255
    (F.NFC_RDCFG_PERIOD.limit 50 1000 (F.NFC_RDCFG_POWER.limit 1 10 v))))

/-- A write of `NFC_RDCFG`: ENABLE turns the reader off, or starts it (R406). -/
def State.writeRdcfg (s : State) (v : Nat) : Nat × State :=
  let r := s.putFields R.NFC_RDCFG [] v clampRdcfg false
  let on := F.NFC_RDCFG_ENABLE.get (r.2.reg R.NFC_RDCFG []) = 1
  (r.1, if on then (if s.rdr.state = .off then r.2.rdEnter .start else r.2) else if s.rdr.state = .off then r.2 else r.2.dropCards.rdEnter .off)

/-- A write of `NFC_TEST` (R406, R409). -/
def State.writeTest (s : State) (v : Nat) : Nat × State :=
  let m := F.NFC_TEST_MODE.get v
  let r := s.putFields R.NFC_TEST [] v (fun x => if m = 3 then F.NFC_TEST_MODE.set x 0 else x) false
  (r.1, if m = 1 ∨ m = 2 then (if s.rdr.state = .off ∨ s.rdr.state = .test then r.2 else r.2.rdEnter .test)
        else if s.rdr.state = .test then r.2.rdEnter .start else r.2)

/-- NFC_TEST_LIMIT: 600 s in TEST. -/
def rdTestLimit (s : State) : State :=
  if s.rdr.state = .test ∧ s.passed s.rdr.stateTb 600 = true then (s.setFld R.NFC_TEST F.NFC_TEST_MODE [] 0).rdEnter .start else s

/-! ### Binding and exchanges (R416, R417) -/

/-- A write of `NFC_BIND`: a waiting card is applied to the output named; values 6 and 7 are ignored. -/
def State.writeBind (s : State) (v : Nat) : State :=
  let k : Fin 4 := Fin.ofNat 4 (F.NFC_BIND_CARD.get v)
  let o := F.NFC_BIND_OUTPUT.get v
  if h : o < 6 then (if (s.rdr.cards[k]).any (·.waiting) then s.applyCard k ⟨o, h⟩ else s) else s

/-- CARD_BIND_TIMEOUT: 10 s (R416). -/
def rdBindTimeout (k : CardNo) (s : State) : State :=
  if (s.rdr.cards[k]).any (fun c => c.waiting && s.passed c.tb 10) then s.applyNone k else s

/-- A write of `NFC_XCHG`: GO starts one exchange with a held card (R417). -/
def State.writeXchg (s : State) (v : Nat) : Nat × State :=
  let busy := s.rdr.xState == 1
  let go := F.NFC_XCHG_GO.get v = 1
  if busy ∧ go then (LOCKED, s)
  else
    let r := s.putFields R.NFC_XCHG [] v id busy
    if r.1 = OK ∧ go then
      let k : Fin 4 := Fin.ofNat 4 (F.NFC_XCHG_CARD.get v)
      if (s.rdr.cards[k]).isSome then
        (OK, r.2.onRdr (fun x => { x with xState := 1, xErr := 0, xLen := 0, lastTb := s.clock.tb }))
      else (OK, r.2.onRdr (fun x => { x with xState := 3, xErr := 0x41, xLen := 0 }))
    else r

/-- NFC_XCHG_DONE (R417). -/
def rdXchgDone (answer : Option Bytes) (removed : Bool) (s : State) : State :=
  if s.rdr.xState = 1 then
    match answer with
    | some a => s.onRdr (fun r => { r with xState := 2, xErr := 0, xLen := min 512 a.length, response := a.take 512, lastTb := s.clock.tb })
    | none => s.onRdr (fun r => { r with xState := 3, xErr := if removed then 0x41 else 0x40, xLen := 0, lastTb := s.clock.tb })
  else s

def execNoCardBaseline (pings : List Ping) (s : State) : Host.Outcome State Fault Refusal := .next (rdBaseline pings s)
def execLpcdPing (p : Ping) (s : State) : Host.Outcome State Fault Refusal := .next (rdPing p s)
def execLpcdConfirmPing (p : Ping) (s : State) : Host.Outcome State Fault Refusal := .next (rdConfirm p s)
def execPollCycle (cards : List CardIn) (s : State) : Host.Outcome State Fault Refusal := .next (rdPoll cards s)
def execInventory (cards : List CardIn) (s : State) : Host.Outcome State Fault Refusal := .next (rdInventory cards s)
def execHoldMaxExpire (pings : List Ping) (s : State) : Host.Outcome State Fault Refusal := .next (rdHoldMax pings s)
def execNfcRfFault (s : State) : Host.Outcome State Fault Refusal := .next (rdFault s)
def execNfcFaultRecover (s : State) : Host.Outcome State Fault Refusal := .next (rdRecover s)
def execNfcFieldRestart (s : State) : Host.Outcome State Fault Refusal := .next (rdRestart s)
def execNfcTestLimit (s : State) : Host.Outcome State Fault Refusal := .next (rdTestLimit s)
def execCardBindTimeout (k : CardNo) (s : State) : Host.Outcome State Fault Refusal := .next (rdBindTimeout k s)
def execNfcXchgDone (answer : Option Bytes) (removed : Bool) (s : State) : Host.Outcome State Fault Refusal := .next (rdXchgDone answer removed s)

end Sys2Proof.Machine
end

