-- ==== Sys2Proof/Machine/PowerCmds.lean ====
section
/-!
DEFINITION. Supplies, clocks, resets of the Hearth and of the whole part, and the way into EMBER (chapter 15, R27, R28,
R214 to R217).
-/

namespace Sys2Proof.Machine

/-! ### VIN (R215 to R217, R454) -/

/-- The short tick of a power-fail save: every whole µWh is handed off and booked (R215, R250, R251). -/
def State.shortTick (s : State) : State :=
  let s1 := match s.grate.plan with
    | some p => ((s.handTick p true).onNrg (fun n => { n with shortPending := true })).bookAll
    | none => s.bookAll
  match s1.billNow, s1.bil.lastB with
  | some b, some lo => (s1.onBil (fun x => x.periodEnds s1.calendar s1.calcfg lo b)).applyTariffs b
  | _, _ => s1

/-- A frame on the mains stops with the mesh transmitter and is not sent again (R215, R442). -/
def Mesh.stopSending (m : Mesh) : Mesh := { m with sending := none }

/-- POWER_FAIL_WARNING (R215): field and mesh stop, the short tick, the save, the anchor, and the staged log entries (R528). The save ends within
2.1 ms, or 3.1 ms in a failover; how long it takes is free. -/
def powerFail (s : State) : State :=
  if s.pwr.pfw ∨ s.pwr.vin = false ∨ s.pwr.mode ≠ .run then s
  else
    let s1 := (s.onPwr (fun p => { p with pfw := true, pfwCount := satAdd 16 p.pfwCount 1 })).latch R.PWR_FLAGS [] F.PWR_FLAGS_PFW_SEEN.mask
    let s2 := (s1.onRdr (fun r => { r with held := true })).onMesh Mesh.stopSending
    if s2.clock.run ∧ 3 ≤ s2.pwr.level then
      let s3 := s2.takeAnchor.shortTick
      let d := s3.draw
      let us := d.1 % (if s3.clock.tb < s3.hearth.busyUntil then 3101 else 2101)
      ((d.2.metroSave 1 s3.clock.tb us).onNrg (fun n => { n with writeUs := us })).onLog EventLog.flush
    else s2

/-- WARNING_CLEAR (R217): nothing is undone. -/
def warningClear (s : State) : State := if s.pwr.pfw ∧ s.pwr.vin then s.onPwr (fun p => { p with pfw := false }) else s

/-- T_SUPPLY of a brown-out, counted by the backup domain at its wall time `w` (R267). -/
def State.supplyLost (s : State) (w : Nat) : State :=
  let s1 := s.onMseal (fun m => { m with ledger := upd m.ledger T_SUPPLY (fun e => e.occur s.clock.tb w 1 false) })
  (s1.span 0x3F 13).logEv .tamper T_SUPPLY.1 7 3 1 0

/-- BROWN_OUT (R454): cold reset with code 1; the device has VBAT only (R451). -/
def brownOut (s : State) : State :=
  if s.pwr.vin ∧ s.pwr.mode = .run then
    ((s.coldReset 1).supplyLost s.rtcWall).onPwr (fun p => { p with vin := false, mode := .vault })
  else s

/-! ### NRST (R378, R380, R483 to R485) -/

/-- NRST_ASSERT: after its 10 µs debounce. Without VIN only the backup domain sees it, which times the hold (R267, R484). -/
def nrstAssert (s : State) : State :=
  if s.pwr.mode = .off ∨ s.pwr.nrst then s
  else (if s.pwr.vin then s.coldReset 2 else s).onPwr (fun p => { p with nrst := true, nrstCounted := false })

/-- T_NRST (R484): NRST has been held for 30 s; the wall time is the RTC's at that instant. -/
def nrstHeld (held : Nat) (s : State) : State :=
  if s.pwr.mode ≠ .off ∧ s.pwr.nrst ∧ s.pwr.nrstCounted = false ∧ 30 ≤ held then
    let w := if s.rtcWall = 0 then 0 else s.rtcWall + 30000
    let s1 := s.onMseal (fun m => { m with ledger := upd m.ledger T_NRST (fun e => e.occur s.clock.tb w 30 false) })
    ((s1.span 0x3F 13).logEv .tamper T_NRST.1 7 3 30 0).onPwr (fun p => { p with nrstCounted := true })
  else s

/-- NRST_RELEASE (R484): the argument of the T_NRST of this hold takes the held time in seconds; the reset ends with the boot. -/
def nrstRelease (held : Nat) (s : State) : State :=
  if s.pwr.nrst then
    let s1 := if s.pwr.nrstCounted then
        s.onMseal (fun m => { m with ledger := upd m.ledger T_NRST (fun e => if e.dCount = 0 then e else { e with dLastArg := min (2 ^ 32 - 1) held }) })
      else s
    s1.onPwr (fun p => { p with nrst := false, nrstCounted := false })
  else s

/-! ### Resets by the device (R473, R479 to R482) -/

/-- THERMAL_RESET: code 5. The Fireguard sees the lost heartbeat (R381). -/
def thermalReset (s : State) : State :=
  if s.pwr.mode = .run ∧ s.pwr.vin then (if s.clock.run ∧ 3 ≤ s.pwr.level then s.orderlySave else s).coldReset 5 else s

/-- The Hearth is in control: out of reset, in RUN. -/
def State.hearthUp (s : State) : Bool := !s.pwr.inReset && s.pwr.mode == .run

/-- WATCHDOG (R480). -/
def watchdog (s : State) : State :=
  if s.hearthUp then (if s.shadowReady then s.failover else s.orderlySave.warmReset 16) else s

/-- A fault of the pair in control (R27): the shadow takes over; with no shadow ready the Hearth stops (R31), and the watchdog
and the Fireguard's hold follow. -/
def State.pairFault (s : State) : State :=
  if s.shadowReady then s.failover
  else if s.hearthUp then (s.onHearth (fun h => { h with running := false })).onSeqr (fun q => { q with suspended := true })
  else s

/-- HEARTH_FAILOVER: a lockstep mismatch. -/
def hearthFail (s : State) : State := s.pairFault

/-- ECC_UNCORRECTABLE: treated as a lockstep mismatch, and counted. -/
def eccBad (s : State) : State := if s.hearthUp then (s.bump 9 1).pairFault else s

/-- ECC_CORRECTABLE: corrected in place and counted. -/
def eccFixed (s : State) : State := if s.hearthUp then s.bump 8 1 else s

/-- The role of a pair after its self-test. -/
def PairRole.tested (r : PairRole) (tb : Nat) (pass : Bool) : PairRole :=
  match r with
  | .selfTest t => if t ≤ tb then (if pass then .shadow else .off) else r
  | _ => r

/-- PAIR_A_SELFTEST_DONE (R28). -/
def selftestDone (pass : Bool) (s : State) : State :=
  s.onHearth (fun h =>
    let a := h.pairA.tested s.clock.tb pass
    let b := h.pairB.tested s.clock.tb pass
    { h with pairA := a, pairB := b, failedA := h.failedA || (a == .off && h.pairA != .off), failedB := h.failedB || (b == .off && h.pairB != .off) })

/-- HEARTH_CHECKPOINT (R27). -/
def checkpoint (s : State) : State := if s.hearth.running then s.onHearth (fun h => { h with checkpointTb := some s.clock.tb }) else s

/-- CLOCK_LOSS (R473): the main domains go to FIRC; MCLK stops and the inputs lose VALID; safe-off with trigger 4; then an orderly
save and a cold reset with code 4. -/
def clockLoss (s : State) : State :=
  if s.hearthUp ∧ s.pwr.pll then
    let s1 := ((s.onPwr (fun p => { p with xtal := false, coldAfter := some 4 })).onSens (fun x => { x with mclkOn := Vector.replicate 4 false }))
    let s2 := (idx 48).foldl (fun (s : State) (n : Fin 48) => s.loseIc n) s1
    let s3 := s2.logEv .clockFault 0 7 0 4 0
    ((s3.stopTb).onGuard (fun g => { g with clockOk := false }) |>.safeOff 4 0x3F none).coldWhenSafe
  else s

/-- LP_LIMIT (R462): the embers are lost. -/
def lpLimit (s : State) : State := if s.pwr.mode = .ember then s.coldReset 3 else s

/-! ### The backup clock, the anchor and the RTC (R474, R475, R478) -/

/-- XTAL32_FAIL. -/
def xtalFail (s : State) : State :=
  if s.pwr.mode = .off ∨ s.pwr.lprc then s
  else ((s.onPwr (fun p => { p with lprc := true, lprcRan := true })).latch R.PWR_FLAGS [] F.PWR_FLAGS_XTAL32_FAIL.mask).logEv .clockFault 1 7 3 0 0

/-- XTAL32_RESTORE. -/
def xtalBack (s : State) : State :=
  if s.pwr.mode ≠ .off ∧ s.pwr.lprc then (s.onPwr (fun p => { p with lprc := false })).logEv .clockFault 1 7 3 1 0 else s

/-- BACKUP_ANCHOR (R475). -/
def backupAnchor (s : State) : State := if s.clock.run then s.takeAnchor else s

/-- RTC_RELOAD (R478): the RTC takes wall time; the anchor's count moves with it, so that the time since the anchor stays right. -/
def rtcReload (s : State) : State :=
  match s.wallNow with
  | some w =>
    if s.clock.run then
      let new := w * 4096 / 125 % 2 ^ 48
      let d := new + 2 ^ 48 - s.rtcNow
      s.onPwr (fun p => { p with rtc := new, rtcTb := s.clock.tb, anchor := p.anchor.map (fun a => { a with rtc := (a.rtc + d) % 2 ^ 48 }) })
    else s
  | none => s

/-- RTC_ALARM (R466): wall time reaches WALL. While TB stands, the RTC itself says so. -/
def rtcAlarm (s : State) : State :=
  let w := s.fld R.PWR_ALARM F.PWR_ALARM_WALL []
  let known := if s.clock.run then s.wallNow.any (fun x => decide (w ≤ x)) else s.rtcWall != 0
  if w ≠ 0 ∧ known ∧ s.pwr.mode ≠ .off then
    (s.setFld R.PWR_ALARM F.PWR_ALARM_WALL [] 0).latch R.PWR_ALARM [] F.PWR_ALARM_FIRED.mask
  else s

/-- VBAT_LOST (R455): VBAT disappears while VIN is absent; the backup domain loses its state. -/
def vbatLost (s : State) : State :=
  if s.pwr.vin = false then
    let s1 := { s with regs := s.regs.filter (fun e => e.1 != R.PWR_ALARM.base && e.1 != R.SEAL_TAMPCFG.base),
                       sticky := s.sticky.filter (fun e => !keptSticky e.1) }
    let s2 := s1.onPwr (fun p => { p with mode := .off, last := 0, backupLost := true, anchor := none, rtc := 0, cold := 0, lprc := false, lprcRan := false })
    let s3 := s2.onMseal (fun m => { m with ledger := m.ledger.map (fun e => { e with dCount := 0, dFirstWall := 0, dLastWall := 0, dLastArg := 0, sramTb := none }) })
    let s4 := s3.onHost (fun h => { h with ports := h.ports.map (fun p => { p with backoff := Vector.replicate 6 { n := 0, until_ := none } }) })
    s4.onGuard (fun g => { g with tested := false, seenOpen := false })
  else s

/-! ### Pilot supplies (R453) -/

/-- PILOT_SUPPLY_UP. -/
def pilotUp (s : State) : State := (s.onPwr (fun p => { p with pilotSupply := true })).pollAll

/-- PILOT_SUPPLY_LOSS: service levels 4 and 5 are not reached, so no output is ready (R453). -/
def pilotDown (s : State) : State := (s.onPwr (fun p => { p with pilotSupply := false })).pollAll

/-! ### SYS_RESET (R479) -/

/-- One write of `SYS_RESET`. -/
def State.writeReset (s : State) (v : Nat) : Nat × State :=
  match F.SYS_RESET_KIND.get v with
  | 1 => (OK, s.orderlySave.warmReset 17)
  | 2 => if s.anyHv then (BUSY, s) else (OK, s.orderlySave.coldReset 6)
  | _ => (OK, s)

/-! ### EMBER (R458 to R464) -/

/-- The conditions of R458 but for the last. -/
def State.maySleep (s : State) : Bool :=
  (idx 6).all (fun o => ((s.so o).state == .idle || (s.so o).state == .unavailable) && (s.veh.pilots[o]).state == 0 && !(s.go o).hv
    && (s.so o).postRun.isNone)
  && (idx 16).all (fun j => (s.job j).state != .queued && (s.job j).state != .running)
  && !s.updateExists && !s.mseal.record.open_ && s.heldCards == 0 && s.rdr.state != .test && s.mseal.queue.isEmpty

/-- The digital die's temperature as `PWR_TEMP` would show it, 0.1 °C: a measurement that no command carries. -/
def State.dieTemp (s : State) : Int := signed 16 (Config.freeOf "PWR_TEMP.DIGITAL" [s.clock.tb])

/-- Banks that an entry retains (R464): E0 always, E7 not below −25.0 °C (A0-02). -/
def State.retainNow (s : State) : Nat :=
  let r := s.fld R.PWR_SLEEPCFG F.PWR_SLEEPCFG_RETAIN [] ||| 1
  if s.dieTemp < -250 then r % 128 else r

/-- The Fireguard in EMBER: off, with its image and the guard test kept; it starts again at the wake (R469). -/
def Guard.asleep (g : Guard) : Guard :=
  { g with started := false, firstPulse := false, laneOk := false, laneRun := 0, hold := none, holdExpired := false, normalTb := none,
           outs := g.outs.map (fun o => { o with request := false }) }

/-- What the spec counts or holds until the next cold reset goes through EMBER in the resume state (log entry 124): a failed modem stays
isolated, and GP6 in its place (R290), and takeovers count on. -/
def Veh.asleep (v old : Veh) : Veh :=
  { v with pilots := v.pilots.map (fun p => { p with drive := .steady, was := .steady, fromTb := 0 }),
           modems := updAll v.modems (fun m x => let y := old.modems[m]
             if y.failed then { x with failed := true, coupler := 7 } else if m.1 = 6 then { x with coupler := y.coupler } else x),
           serving := old.serving, switches := old.switches, lastUs := old.lastUs }

/-- The cabinets' losses, and the largest number of nodes heard (R333). -/
def Seqr.asleep (q old : Seqr) : Seqr :=
  { q with cabs := updAll q.cabs (fun k c => { c with losses := (old.cabs[k]).losses }), nodesMax := old.nodesMax }

/-- Pulses emitted and lost (`NRG_PULSEn`). -/
def Energy.asleep (n old : Energy) : Energy :=
  { n with pulses := updAll n.pulses (fun o p => { p with emitted := (old.pulses[o]).emitted, lost := (old.pulses[o]).lost }) }

/-- Refusals (`KEY_REFUSAL`). -/
def KeyReg.asleep (k old : KeyReg) : KeyReg :=
  { k with refusals := old.refusals, lastStatus := old.lastStatus, lastSlot := old.lastSlot, lastEngine := old.lastEngine, lastPolder := old.lastPolder }

/-- R459: the entry, from its decision to instant 5. -/
def State.enterEmber (s : State) : State :=
  let s1 := (s.orderlySave.writeBilling).onLog EventLog.flush
  let s2 := (s1.closeWhere (fun _ => true)).takeAnchor
  let s3 := (idx 24).foldl (fun (s : State) (n : Fin 24) => s.onChan n (fun c => { LswChan.reset with state := if c.latched then c.state else 0, retryLeft := c.retryLeft, trips := c.trips })) s2
  let s4 := (s3.stopTb).mainOff
  { s4 with
      guard := s4.guard.asleep,
      host := { s4.host.cleared s.clock.tb true with darkCount := s.host.darkCount, darkBlock := s.host.darkBlock },
      veh := { s4.veh.asleep s.veh with watched := s.present }, seqr := s4.seqr.asleep s.seqr, nrg := s4.nrg.asleep s.nrg, keys := s4.keys.asleep s.keys,
      mseal := { s4.mseal with lost := s.mseal.lost },
      rdr := { Reader.reset with baseAmp := s4.rdr.baseAmp, basePh := s4.rdr.basePh },
      mesh := { s4.mesh with sending := none, queue := [], waits := [], phases := Mesh.reset.phases },
      pwr := { s4.pwr with mode := .ember, level := 0, xtal := false, retain := s.retainNow } }

/-- EMBER_ENTRY_AUTO (R458). -/
def emberAuto (s : State) : State :=
  if s.fld R.PWR_SLEEPCFG F.PWR_SLEEPCFG_AUTO [] = 1 ∧ s.hearth.running ∧ s.clock.run ∧ s.maySleep
     ∧ s.pwr.idleTb + s.fld R.PWR_SLEEPCFG F.PWR_SLEEPCFG_IDLE_S [] * tbSecond ≤ s.clock.tb then s.enterEmber
  else s

/-- The limits of `PWR_SLEEPCFG`: E0 is always retained, IDLE_S is at least 10; SLEEP reads 0. -/
def clampSleep (v : Nat) : Nat :=
  F.PWR_SLEEPCFG_SLEEP.set (F.PWR_SLEEPCFG_IDLE_S.limit 10 65535 (F.PWR_SLEEPCFG_RETAIN.set v (F.PWR_SLEEPCFG_RETAIN.get v ||| 1))) 0

/-- One write of `PWR_SLEEPCFG`: with SLEEP set the device enters EMBER, or the write returns BUSY and changes nothing. -/
def State.writeSleep (s : State) (v : Nat) : Nat × State :=
  if F.PWR_SLEEPCFG_SLEEP.get v = 1 ∧ s.maySleep = false then (BUSY, s)
  else
    let r := s.putFields R.PWR_SLEEPCFG [] v clampSleep false
    (r.1, if F.PWR_SLEEPCFG_SLEEP.get v = 1 then r.2.enterEmber else r.2)

/-- EMBER_BROWN_OUT (R463): no save; the device goes to VAULT and the embers are lost. -/
def emberBrownOut (s : State) : State :=
  if s.pwr.mode = .ember ∧ s.pwr.vin then
    let s1 := (s.onGuard (fun g => g.restart 0 false)).clearCold 0
    (s1.supplyLost s.rtcWall).onPwr (fun p => { p with vin := false, mode := .vault })
  else s

/-! ### The meanings -/

def execPowerFailWarning (s : State) : Host.Outcome State Fault Refusal := .next (powerFail s)
def execWarningClear (s : State) : Host.Outcome State Fault Refusal := .next (warningClear s)
def execBrownOut (s : State) : Host.Outcome State Fault Refusal := .next (brownOut s)
def execTNrst (heldSeconds : Nat) (s : State) : Host.Outcome State Fault Refusal := .next (nrstHeld heldSeconds s)
def execNrstAssert (s : State) : Host.Outcome State Fault Refusal := .next (nrstAssert s)
def execNrstRelease (heldSeconds : Nat) (s : State) : Host.Outcome State Fault Refusal := .next (nrstRelease heldSeconds s)
def execThermalReset (s : State) : Host.Outcome State Fault Refusal := .next (thermalReset s)
def execWatchdog (s : State) : Host.Outcome State Fault Refusal := .next (watchdog s)
def execHearthFailover (s : State) : Host.Outcome State Fault Refusal := .next (hearthFail s)
def execEccUncorrectable (s : State) : Host.Outcome State Fault Refusal := .next (eccBad s)
def execEccCorrectable (s : State) : Host.Outcome State Fault Refusal := .next (eccFixed s)
def execPairASelftestDone (pass : Bool) (s : State) : Host.Outcome State Fault Refusal := .next (selftestDone pass s)
def execHearthCheckpoint (s : State) : Host.Outcome State Fault Refusal := .next (checkpoint s)
def execClockLoss (s : State) : Host.Outcome State Fault Refusal := .next (clockLoss s)
def execXtal32Fail (s : State) : Host.Outcome State Fault Refusal := .next (xtalFail s)
def execXtal32Restore (s : State) : Host.Outcome State Fault Refusal := .next (xtalBack s)
def execBackupAnchor (s : State) : Host.Outcome State Fault Refusal := .next (backupAnchor s)
def execRtcReload (s : State) : Host.Outcome State Fault Refusal := .next (rtcReload s)
def execPilotSupplyUp (s : State) : Host.Outcome State Fault Refusal := .next (pilotUp s)
def execPilotSupplyLoss (s : State) : Host.Outcome State Fault Refusal := .next (pilotDown s)
def execEmberEntryAuto (s : State) : Host.Outcome State Fault Refusal := .next (emberAuto s)
def execLpLimit (s : State) : Host.Outcome State Fault Refusal := .next (lpLimit s)
def execEmberBrownOut (s : State) : Host.Outcome State Fault Refusal := .next (emberBrownOut s)
def execRtcAlarm (s : State) : Host.Outcome State Fault Refusal := .next (rtcAlarm s)
def execVbatLost (s : State) : Host.Outcome State Fault Refusal := .next (vbatLost s)

end Sys2Proof.Machine
end

