-- ==== Sys2Proof/Machine/Swap.lean ====
section
/-!
DEFINITION. Plan start and plan swap (R148 to R157).
-/

namespace Sys2Proof.Machine

/-! ### Plan start (R148) -/

/-- The pilots of the outputs that the running plan declares are watched from its start on (R545). -/
def State.watchPilots (s : State) : State := s.onVeh (fun v => { v with watched := s.present })

/-- A plan starts where none ran: cells from zero state, clocks and fluxgate ports, and the first tick in progress. -/
def State.startPlan (s : State) (p : Plan) : State :=
  let s1 := (s.onGrate (fun g => { g.startCells with plan := some p })).watchPilots.startSensing s.pwr.pll
  (s1.onNrg (fun n => { n with tick := 0, tickTb := s.clock.tb, shortPending := false,
                               live := n.live.map (fun l => { LiveState.reset with peakMw := l.peakMw, neutralEpisode := l.neutralEpisode, seqEpisode := l.seqEpisode,
                                                                                                   neutralSince := s.clock.tb, seqSince := s.clock.tb }) })).onSens
    (fun x => { x with calInUse := s.mseal.record.cal })

/-! ### Arming (R151, R152, R157) -/

/-- An armed swap: STATE 2, or 3 while it waits for every HV_EN to be low. -/
def State.armed (s : State) : Bool := s.grate.shadowState == 2 || s.grate.shadowState == 3

/-- STATE as `GRT_SHADOW` shows it: 3 while an armed swap waits for every HV_EN to be low (R154). -/
def State.shadowShown (s : State) : Nat := if s.armed then (if s.grate.liveOk ∨ s.anyHv = false then 2 else 3) else s.grate.shadowState

/-- Arm the swap of a verified shadow plan (R151, R152): WAIT 0 means 60 s. A second arming write changes nothing (R157). -/
def State.armSwap (s : State) (polder v : Nat) : Nat × State :=
  if s.armed then (OK, s)
  else if s.grate.shadowState ≠ 1 then (OK, s)
  else if s.grate.sealedDiff ∧ !(polder = 1 ∧ s.mseal.record.open_) then (DENIED, s)
  else
    let w := F.GRT_SWAP_WAIT.get v
    let secs := if w = 0 then 60 else min 3600 w
    (OK, s.onGrate (fun g => { g with shadowState := 2, waitUntil := s.clock.tb + secs * tbSecond }))

/-- Abandon an armed swap: the shadow plan is verified again. -/
def State.abandonSwap (s : State) : State :=
  if s.armed then s.onGrate (fun g => { g with shadowState := 1 }) else s

/-- One write of `GRT_SWAP`. -/
def State.writeSwap (s : State) (polder v : Nat) : Nat × State :=
  if F.GRT_SWAP_ABANDON.get v = 1 then (OK, s.abandonSwap)
  else if F.GRT_SWAP_ARM.get v = 1 then s.armSwap polder v
  else (OK, s)

/-! ### The swap (R152 to R156) -/

/-- Cells of one kind across a swap: unchanged records keep their state, the others restart (R153). -/
def keepCells {α β : Type} [BEq β] {n : Nat} (v : Vector α n) (zero : α) (old new : Nat → Option β) : Vector α n :=
  updAll v (fun i x => if old i.1 == new i.1 then x else zero)

/-- The integrator of a plan with a binding. -/
def Plan.integOf (p : Plan) (output reg : Nat) : Option EnRec := p.energies.find? (fun e => e.output == output && e.reg == reg)

/-- Integrators across a swap (R153, R205): one whose CELLS_IN record is unchanged keeps its state, another restarts and settles as R148 states;
the fractions follow the bindings. -/
def keepInteg (a b : Plan) (v : Vector InState 32) : Vector InState 32 :=
  updAll v (fun i x =>
    let rec_ := fun (p : Plan) => p.ins.find? (fun r => r.index == i.1)
    let bind := fun (p : Plan) => p.energies.find? (fun e => e.integ == i.1)
    let base := if rec_ a == rec_ b then x else InState.reset
    match bind b with
    | none => if (bind a).isSome then { base with acc := 0, pulse := 0 } else base
    | some e => match a.integOf e.output e.reg with
      | none => { base with acc := 0, pulse := 0 }
      | some o => let y := v[o.integ]?.getD InState.reset
        { base with acc := y.acc, pulse := if e.pulse && o.pulse then y.pulse else 0 })

/-- The integrators bound in ENERGY that a swap restarts while a run of frames without VALID input lasts: the run ends there (R153, R206). -/
def State.endRuns (s : State) (a b : Plan) : State :=
  a.ins.foldl (fun (s : State) (r : InRec) =>
    if b.ins.contains r || !(a.energies.any (·.integ == r.index)) then s
    else s.endRun r.index (s.grate.integ[r.index]?.getD InState.reset)) s

/-- Bindings of the old plan that the new one lacks, with the fraction that is discarded (R153). -/
def lostFractions (a b : Plan) (v : Vector InState 32) : List (EnRec × Int) :=
  (a.energies.filter (fun e => (b.integOf e.output e.reg).isNone)).map (fun e => (e, (v[e.integ]?.map (·.acc)).getD 0))

/-- Source IDs of the cells whose records differ. -/
def changedCells (a b : Plan) : List Nat :=
  ((List.range 48).filter (fun i => a.ics.find? (·.index == i) != b.ics.find? (·.index == i)))
  ++ ((List.range 128).filter (fun i => a.fls.find? (·.index == i) != b.fls.find? (·.index == i))).map (· + 0x030)
  ++ ((List.range 96).filter (fun i => a.mas.find? (·.index == i) != b.mas.find? (·.index == i))).map (· + 0x0B0)
  ++ ((List.range 48).filter (fun i => a.tcs.find? (·.index == i) != b.tcs.find? (·.index == i))).map (· + 0x110)
  ++ ((List.range 32).filter (fun i => a.ins.find? (·.index == i) != b.ins.find? (·.index == i))).map (· + 0x140)

/-- The cells of a running Grate at the swap from plan `a` to plan `b`. -/
def Grate.swapCells (g : Grate) (a b : Plan) : Grate :=
  let hit := closure b 512 (changedCells a b)
  { g with plan := some b,
           ic := keepCells g.ic IcState.reset (fun i => a.ics.find? (·.index == i)) (fun i => b.ics.find? (·.index == i)),
           fl := keepCells g.fl FlState.reset (fun i => a.fls.find? (·.index == i)) (fun i => b.fls.find? (·.index == i)),
           ma := keepCells g.ma MaState.reset (fun i => a.mas.find? (·.index == i)) (fun i => b.mas.find? (·.index == i)),
           tc := keepCells g.tc TcState.reset (fun i => a.tcs.find? (·.index == i)) (fun i => b.tcs.find? (·.index == i)),
           sq := keepCells g.sq SqState.reset (fun i => a.sqs.find? (·.index == i)) (fun i => b.sqs.find? (·.index == i)),
           vote := keepCells g.vote VoteState.reset (fun i => a.votes.find? (·.group == i)) (fun i => b.votes.find? (·.group == i)),
           integ := keepInteg a b g.integ,
           restart := updAll g.restart (fun ch x => if hit.contains (if ch.1 < 48 then ch.1 else 0x170 + (ch.1 - 48)) then g.frames else x) }

/-- Live windows and supply checks of outputs whose quantities changed start again. -/
def swapLive (a b : Plan) (tb : Nat) (v : Vector LiveState 6) : Vector LiveState 6 :=
  updAll v (fun o l =>
    let q := fun (p : Plan) => p.qtys.filter (fun r => r.output == o.1)
    if q a == q b then l
    else { (l.noSupply tb) with sum := Vector.replicate 16 0, sumSq := Vector.replicate 16 0, good := Vector.replicate 16 0, frames := 0, nL1 := 0,
                                lastV := Vector.replicate 3 0 })

/-- Replace the running plan, or start the first one. -/
def State.replacePlan (s : State) (b : Plan) : State :=
  match s.grate.plan with
  | none => s.startPlan b
  | some a =>
    let s1 := (lostFractions a b s.grate.integ).foldl (fun (s : State) (q : EnRec × Int) => s.logEv .swapFraction q.1.output 7 0 q.1.reg q.2.natAbs) (s.endRuns a b)
    let s2 := (s1.onGrate (fun g => g.swapCells a b)).watchPilots.onNrg (fun n => { n with live := swapLive a b s.clock.tb n.live })
    let s3 := s2.onSens (fun x => { x with track := x.track.map (fun t => { t with window := none }) })
    if s.grate.liveOk then s3 else s3.startSensing s.pwr.pll

/-- The boundary qualifies (R152): a frame boundary for LIVE_OK; else a tick boundary with every HV_EN low. -/
def State.swapBoundary (s : State) : Bool :=
  s.grate.liveOk || ((s.grate.plan.isNone || s.grate.tickFrame == 0) && !s.anyHv)

/-- PLAN_SWAP (R152 to R156). The seal and every HV_EN are sampled at the boundary. -/
def planSwap (s : State) : State :=
  match s.grate.shadow with
  | none => s
  | some b =>
    if s.armed = false ∨ s.swapBoundary = false then s
    else if s.grate.sealedDiff ∧ s.mseal.record.open_ = false then s.onGrate (fun g => { g with shadowState := 4, refuse := 12 })
    else
      let s1 := if s.grate.sealedDiff then
          ((s.tamper T_CONFIG 1 true).sealWrite (fun r => { r with selector := b.planId, mdigest := some b.mdigest })).span 0x3F 11
        else s
      let s2 := if s.grate.liveOk = false ∧ (s.grate.tripDiff ∨ s.grate.sealedDiff) then s1.demandTest 3 else s1
      (s2.replacePlan b).onGrate (fun g => { g with stored := g.shadowFile, shadow := none, shadowFile := [], shadowState := 0, sealedDiff := false,
                                                    tripDiff := false, liveOk := false })

/-- PLAN_SWAP_WAIT_EXPIRE (R152). -/
def swapExpire (s : State) : State :=
  if s.armed ∧ s.grate.liveOk = false ∧ s.grate.waitUntil ≤ s.clock.tb then s.onGrate (fun g => { g with shadowState := 4, refuse := 11 }) else s

/-! ### The meanings -/

def execPlanSwap (s : State) : Host.Outcome State Fault Refusal := .next (planSwap s)
def execPlanSwapWaitExpire (s : State) : Host.Outcome State Fault Refusal := .next (swapExpire s)

end Sys2Proof.Machine
end

