-- ==== Sys2Proof/Machine/TagCmds.lean ====
section
/-!
DEFINITION. The service tag (chapter 13): the field's commands and their access rules (R420 to R423), the atomic page write
(R428 to R430), the wired side (R425 to R427), and the status line (R431).
-/

namespace Sys2Proof.Machine

/-! ### Files (R419) -/

/-- Offset and size of a file. -/
def TagFile.place : TagFile → Nat × Nat
  | .cc => (0x100, 15)
  | .ndef => (0x140, 4096)
  | .svcLog => (0x1140, 4096)
  | .svcCfg => (0x2140, 4096)
  | .svcMsg => (0x3140, 3776)

/-- The file with a File ID. -/
def tagFileOf (fid : Nat) : Option TagFile :=
  match fid with
  | 0xE103 => some .cc | 0xE104 => some .ndef | 0xE110 => some .svcLog | 0xE111 => some .svcCfg | 0xE112 => some .svcMsg
  | _ => none

/-- R420: a file may be read from the field. -/
def TagFile.mayRead (f : TagFile) (secured : Bool) : Bool := secured || f == .cc || f == .ndef

/-- R420: a file may be written from the field. -/
def TagFile.mayWrite (f : TagFile) (secured : Bool) : Bool := secured && (f == .ndef || f == .svcLog || f == .svcMsg)

/-! ### The atomic page write (R428) -/

/-- A page of 64 bytes. -/
def Tag.page (t : Tag) (p : Nat) : Bytes := Memory.readBytes t.mem (64 * p) 64

/-- A page with bytes replaced from an offset within it. -/
def patch (old : Bytes) (off : Nat) (data : Bytes) : Bytes := old.take off ++ data ++ old.drop (off + data.length)

/-- The six steps for one page; `stop` is the step at which power fails, and whether the commit record or its clearing is
then torn. Step 5 leaves the page to the recovery of R429. -/
def Tag.writePage (t : Tag) (p off : Nat) (data : Bytes) (stop : Option (Nat × Bool)) : Tag :=
  let new := patch (t.page p) off data
  let shadowed : Tag := { t with shadow := new }
  let written : Tag := { shadowed with mem := Memory.writeBytes (64 * p) new t.mem, commit := none }
  match stop with
  | none => written
  | some (k, torn) =>
    if k ≤ 2 then t
    else if k = 3 then shadowed
    else if k = 4 then (if torn then shadowed else { shadowed with commit := some p })
    else if k = 5 then { shadowed with commit := some p }
    else written

/-- R429: a set commit record is replayed at power-up, by the field here and by VIN at COLD_BOOT. -/
def Tag.replay (t : Tag) : Tag :=
  match t.commit with
  | some p => { t with mem := Memory.writeBytes (64 * p) t.shadow t.mem, commit := none, recovered := satAdd 16 t.recovered 1 }
  | none => t

/-- A write of at most 64 bytes: one page, or two in order, each atomic on its own (R430). Steps 7 to 12 of `stop` are
those of the second page. -/
def Tag.writeBytes (t : Tag) (a : Nat) (data : Bytes) (stop : Option (Nat × Bool)) : Tag :=
  let off := a % 64
  let n := min data.length (64 - off)
  let first := stop.bind (fun k => if k.1 ≤ 6 then some k else none)
  let t1 := t.writePage (a / 64) off (data.take n) first
  if n < data.length ∧ first.isNone then
    t1.writePage (a / 64 + 1) 0 (data.drop n) (stop.map (fun k => (k.1 - 6, k.2)))
  else t1

/-! ### The wire (R425 to R427) -/

/-- 50 ms in TB ticks. -/
def tagPriority : Nat := 1250000

/-- TB ticks left of the first 50 ms of a field transaction. -/
def State.tagHeld (s : State) : Nat := match s.tag.txnTb with | some t => t + tagPriority - s.clock.tb | none => 0

/-- The waiting wired pages are written, in order. -/
def Tag.serve (t : Tag) : Tag :=
  let t1 := t.wire.foldl (fun (x : Tag) (w : Nat × Bytes) => x.writeBytes w.1 w.2 none) t
  { t1 with wire := [] }

/-- The pieces of a wired write, each within one page (R426). -/
def pageSplit : Nat → Nat → Bytes → List (Nat × Bytes)
  | 0, _, _ => []
  | f + 1, a, data =>
    if data = [] then []
    else
      let n := min data.length (64 - a % 64)
      (a, data.take n) :: pageSplit f (a + n) (data.drop n)

/-- A wired write: at once with no field transaction; after its first 50 ms it waits for a gap between field commands. -/
def State.wireWrite (s : State) (a : Nat) (data : Bytes) : State :=
  let ps := pageSplit 258 a data
  if s.tag.txnTb.isNone then s.onTag (fun t => ({ t with wire := t.wire ++ ps }).serve)
  else s.onTag (fun t => { t with wire := t.wire ++ ps })

/-- The end of a field transaction: the tag is Open, and waiting pages are written. -/
def Tag.open_ (t : Tag) (field : Nat) : Tag :=
  ({ t with field := field, txnTb := none, app := false, file := none, rndB := none }).serve

/-! ### Field commands -/

/-- The tag's answer to a field command. -/
def State.tagAnswer (s : State) (data : Bytes) (sw1 sw2 : Byte) : State := s.onTag (fun t => { t with answer := data ++ [sw1, sw2] })

/-- A field command runs while the tag is powered by a field. -/
def State.tagField (s : State) (f : State → State) : State := if 1 ≤ s.tag.field then f s else s

/-- R427: after the first 50 ms waiting wired pages are served between field commands; a field command that finds pages waiting is held with
S(WTX) until they are written. -/
def State.tagHold (s : State) : State :=
  if s.tag.txnTb.isSome ∧ s.tagHeld = 0 ∧ s.tag.wire ≠ [] then s.onTag (fun t => { t.serve with wtx := satAdd 16 t.wtx 1 }) else s

/-- A field command of a selected tag, after the waiting pages. -/
def State.tagCommand (s : State) (f : State → State) : State := s.tagField (fun s => f s.tagHold)

/-- The tag is Secured. -/
def Tag.secured (t : Tag) : Bool := t.field == 3

/-- TAG_FIELD_ON: the commit record is replayed first; FDET is pulled low when enabled (R425, R429). -/
def tagOn (s : State) : State :=
  if s.tag.field = 0 then s.onTag (fun t => { t.replay with field := 1, fdet := t.fdetEn, lostTb := none }) else s

/-- The field is lost (R420, R425). -/
def State.loseField (s : State) : State := s.onTag (fun t => { t.open_ 0 with lostTb := some s.clock.tb })

/-- TAG_FIELD_LOST. -/
def tagLost (s : State) : State := s.tagField State.loseField

/-- FDET_RELEASE: 10 ms after the field is lost. -/
def tagFdet (s : State) : State :=
  if s.tag.field = 0 ∧ s.tag.lostTb.any (fun t => decide (t + 250000 ≤ s.clock.tb)) then s.onTag (fun t => { t with fdet := false, lostTb := none }) else s

/-- The application ID of the NDEF application (R421). -/
def ndefAid : Bytes := [0xD2#8, 0x76#8, 0x00#8, 0x00#8, 0x85#8, 0x01#8, 0x01#8]

/-- TAG_SELECT_APPLICATION: the field transaction begins (R421, R427). -/
def tagSelectApp (aid : Bytes) (s : State) : State :=
  s.tagCommand (fun s =>
    let s1 := s.onTag (fun t => { t with field := max 2 t.field, txnTb := some (t.txnTb.getD s.clock.tb) })
    if aid = ndefAid then (s1.onTag (fun t => { t with app := true, file := none })).tagAnswer [] 0x90#8 0x00#8
    else s1.tagAnswer [] 0x6A#8 0x82#8)

/-- TAG_SELECT_FILE (R421). -/
def tagSelectFileId (fid : BitVec 16) (s : State) : State :=
  s.tagCommand (fun s =>
    match (if s.tag.app then tagFileOf fid.toNat else none) with
    | some f => (s.onTag (fun t => { t with file := some f })).tagAnswer [] 0x90#8 0x00#8
    | none => s.tagAnswer [] 0x6A#8 0x82#8)

/-- TAG_READ_BINARY (R420, R421). -/
def tagRead (offset le : Nat) (s : State) : State :=
  s.tagCommand (fun s =>
    match s.tag.file with
    | none => s.tagAnswer [] 0x69#8 0x82#8
    | some f =>
      if f.mayRead s.tag.secured then
        let p := f.place
        if p.2 ≤ offset then s.tagAnswer [] 0x6B#8 0x00#8
        else s.tagAnswer (Memory.readBytes s.tag.mem (p.1 + offset) (min (min le 255) (p.2 - offset))) 0x90#8 0x00#8
      else s.tagAnswer [] 0x69#8 0x82#8)

/-- TAG_UPDATE_BINARY: 1 to 64 bytes through R428; a collapse loses the field and gives no answer. -/
def tagUpdate (w : TagWrite) (s : State) : State :=
  s.tagCommand (fun s =>
    match s.tag.file with
    | none => s.tagAnswer [] 0x69#8 0x82#8
    | some f =>
      if f.mayWrite s.tag.secured then
        let p := f.place
        if w.data.length = 0 ∨ 64 < w.data.length then s.tagAnswer [] 0x67#8 0x00#8
        else if p.2 < w.offset + w.data.length then s.tagAnswer [] 0x6B#8 0x00#8
        else
          let s1 := s.onTag (fun t => t.writeBytes (p.1 + w.offset) w.data w.collapse)
          if w.collapse.isSome then (s1.onTag (fun t => { t with answer := [] })).loseField else s1.tagAnswer [] 0x90#8 0x00#8
      else s.tagAnswer [] 0x69#8 0x82#8)

/-- The tag's check of a secret: locked at 10 failures; the count rises before the comparison, and a success clears it
(R423). -/
def State.tagCheck (s : State) (good : Bool) (answer : Bytes) : State :=
  if 10 ≤ s.tag.fails then s.tagAnswer [] 0x69#8 0x83#8
  else if good then (s.onTag (fun t => { t with fails := 0, field := 3, rndB := none })).tagAnswer answer 0x90#8 0x00#8
  else (s.onTag (fun t => { t with fails := t.fails + 1, rndB := none })).tagAnswer [] 0x63#8 0x00#8

/-- TAG_VERIFY (R423). -/
def tagVerifyPw (pw : BitVec 32) (s : State) : State :=
  s.tagCommand (fun s => if s.tag.pwdEn then s.tagCheck (pw.toNat == s.tag.pwd) [] else s.tagAnswer [] 0x69#8 0x83#8)

/-- One tag authentication starts: while the Hearth runs it is one use of slot 5 for the TAG engine (R65). When that use leaves the slot
SPENT or EXPIRED the Hearth clears the tag's copy (R424). Without the Hearth the tag runs from the field on its copy alone. -/
def State.tagUse (s : State) : State :=
  if s.hearth.running ∧ (s.slot 5).state = .valid then
    let u := (s.keyUse 5 engTAG 0).2
    if (u.slot 5).state = .valid then u else u.onTag (fun t => { t with key := none })
  else s

/-- TAG_AUTH_BEGIN: a fresh RndB under the tag key; 69 85 without a key (R422). -/
def tagBegin (s : State) : State :=
  s.tagCommand (fun s =>
    match s.tag.key with
    | none => s.tagAnswer [] 0x69#8 0x85#8
    | some k =>
      let d := s.tagUse.drawBytes 16
      (d.2.onTag (fun t => { t with rndB := some d.1 })).tagAnswer (aesEnc k d.1) 0x90#8 0x00#8)

/-- A byte string rotated left by one byte. -/
def rotByte (b : Bytes) : Bytes := b.drop 1 ++ b.take 1

/-- The inverse S-box. -/
def aesInvS (b : Byte) : Byte := (((List.range 256).map (fun i => BitVec.ofNat 8 i)).find? (fun x => aesS x == b)).getD 0#8

/-- Inverse ShiftRows. -/
def aesInvShift (s : Bytes) : Bytes := (List.range 16).map (fun i => s.getD ((i + 16 - 4 * (i % 4)) % 16) 0)

/-- Inverse MixColumns on one column. -/
def aesInvMix (c : Bytes) : Bytes :=
  let g := fun i => (c.getD (i % 4) 0).toNat
  (List.range 4).map (fun i => BitVec.ofNat 8
    (aesMul 8 14 (g i) ^^^ aesMul 8 11 (g (i + 1)) ^^^ aesMul 8 13 (g (i + 2)) ^^^ aesMul 8 9 (g (i + 3))))

/-- The inverse rounds; the round keys come last first. -/
def aesInvRounds : List Bytes → Bytes → Bytes
  | [], s => s
  | [k], s => xorBytes ((aesInvShift s).map aesInvS) k
  | k :: ks, s => aesInvRounds ks ((words4 (xorBytes ((aesInvShift s).map aesInvS) k)).map aesInvMix).flatten

/-- AES decryption of one 16-byte block. -/
def aesDec (key blk : Bytes) : Bytes :=
  match (aesKeys key).reverse with
  | [] => blk
  | k :: ks => aesInvRounds ks (xorBytes blk k)

/-- TAG_AUTH_FINISH: AES-CBC with IV 0 over RndA and RndB rotated; each RndB serves once (R422). -/
def tagFinish (data : Bytes) (s : State) : State :=
  s.tagCommand (fun s =>
    match s.tag.key, s.tag.rndB with
    | some k, some b =>
      let c1 := data.take 16
      let rndA := aesDec k c1
      let good := data.length == 32 && xorBytes (aesDec k (data.drop 16)) c1 == rotByte b
      s.tagCheck good (aesEnc k (rotByte rndA))
    | _, _ => if 10 ≤ s.tag.fails then s.tagAnswer [] 0x69#8 0x83#8 else s.tagAnswer [] 0x69#8 0x85#8)

/-- TAG_DESELECT (R420). -/
def tagEnd (s : State) : State := s.tagField (fun s => s.onTag (fun t => t.open_ 1))

/-! ### Host access -/

/-- A write of `NFC_TAGCFG` (R423, R425, R431). -/
def State.writeTagcfg (s : State) (v : Nat) : Nat × State :=
  let off := F.NFC_TAGCFG_STATUS_OFF.get v
  (OK, s.onTag (fun t => { t with fdetEn := F.NFC_TAGCFG_FDET_EN.get v == 1, pwdEn := F.NFC_TAGCFG_PWD_EN.get v == 1,
                                  statusOff := if off = 0 then 0 else clampNat 2 4048 off,
                                  fails := if F.NFC_TAGCFG_UNLOCK.get v = 1 then 0 else t.fails }))

/-- A write of `NFC_TAGPWD` (R425). -/
def State.writeTagpwd (s : State) (v : Nat) : Nat × State := (OK, s.onTag (fun t => { t with pwd := F.NFC_TAGPWD_PASSWORD.get v }))

/-- P0, P2, and P4 with the door open write the tag memory window (R426). -/
def State.mayWriteTag (s : State) (polder : Nat) : Bool := polder == 0 || polder == 2 || (polder == 4 && s.doorOpen)

/-- A wired write after the session's checks: the system pages are DENIED, the first 50 ms of a field transaction answer
BUSY (R426, R427). -/
def State.tagWindow (s : State) (offset : Nat) (words : WordList) : Nat × State :=
  if offset < 0x100 ∨ 0x4000 < offset + 8 * words.length then (DENIED, s)
  else if s.tagHeld ≠ 0 then (BUSY, s.onTag (fun t => { t with wireBusy := satAdd 16 t.wireBusy 1 }))
  else (OK, s.wireWrite offset (wordBytes words))

/-- TAG_WIRE_SERVE: after the first 50 ms, waiting pages are served between field commands (R427). -/
def tagServe (s : State) : State := if s.tagHeld = 0 then s.onTag Tag.serve else s

/-! ### The status line (R431) -/

/-- A decimal numeral of at most two digits. -/
def decimal (n : Nat) : String := toString n

/-- Write the status line, 48 bytes padded with spaces, through the page write. -/
def State.statusLine (s : State) (text : String) : State :=
  if s.tag.statusOff = 0 then s
  else s.wireWrite (0x140 + s.tag.statusOff) ((ascii text ++ List.replicate 48 0x20#8).take 48)

/-- Outputs that are ready, and outputs declared. -/
def State.readyCount (s : State) : Nat × Nat :=
  (((idx 6).filter s.outputReady).length, ((idx 6).filter s.has).length)

/-- STATUS_LINE_WRITE by the Hearth, or by the boot ROM in recovery service. -/
def statusHearth (s : State) : State :=
  if s.hearth.running = false ∧ s.pwr.recovery = false then s
  else
  let low := s.faultN
  let since := if low then some (s.tag.faultSince.getD s.clock.tb) else none
  let s1 := s.onTag (fun t => { t with faultSince := since })
  if s.pwr.recovery then s1.statusLine "recovery mode"
  else if since.any (fun t => decide (t + 10 * tbSecond ≤ s.clock.tb)) then s1.statusLine "out of service: fault"
  else s1.statusLine ("in service: " ++ decimal s.readyCount.1 ++ " of " ++ decimal s.readyCount.2 ++ " outputs ready")

/-- STATUS_LINE_NRST by the power die. -/
def statusReset (s : State) : State := if s.pwr.nrst ∧ s.pwr.vin then s.statusLine "controller held in reset" else s

/-- STATUS_LINE_NOT_RUNNING by the power die. -/
def statusStopped (s : State) : State :=
  if s.hearth.running = false ∧ s.pwr.vin ∧ s.pwr.nrst = false then s.statusLine "controller not running" else s

def execTagFieldOn (s : State) : Host.Outcome State Fault Refusal := .next (tagOn s)
def execTagFieldLost (s : State) : Host.Outcome State Fault Refusal := .next (tagLost s)
def execFdetRelease (s : State) : Host.Outcome State Fault Refusal := .next (tagFdet s)
def execTagSelectApplication (aid : Bytes) (s : State) : Host.Outcome State Fault Refusal := .next (tagSelectApp aid s)
def execTagSelectFile (fid : BitVec 16) (s : State) : Host.Outcome State Fault Refusal := .next (tagSelectFileId fid s)
def execTagReadBinary (offset le : Nat) (s : State) : Host.Outcome State Fault Refusal := .next (tagRead offset le s)
def execTagUpdateBinary (w : TagWrite) (s : State) : Host.Outcome State Fault Refusal := .next (tagUpdate w s)
def execTagVerify (pw : BitVec 32) (s : State) : Host.Outcome State Fault Refusal := .next (tagVerifyPw pw s)
def execTagAuthBegin (s : State) : Host.Outcome State Fault Refusal := .next (tagBegin s)
def execTagAuthFinish (data : Bytes) (s : State) : Host.Outcome State Fault Refusal := .next (tagFinish data s)
def execTagDeselect (s : State) : Host.Outcome State Fault Refusal := .next (tagEnd s)
def execTagWireServe (s : State) : Host.Outcome State Fault Refusal := .next (tagServe s)
def execStatusLineWrite (s : State) : Host.Outcome State Fault Refusal := .next (statusHearth s)
def execStatusLineNrst (s : State) : Host.Outcome State Fault Refusal := .next (statusReset s)
def execStatusLineNotRunning (s : State) : Host.Outcome State Fault Refusal := .next (statusStopped s)

end Sys2Proof.Machine
end

