-- ==== Sys2Proof/Machine/GuardCmds.lean ====
section
/-!
DEFINITION. The Fireguard's own events (chapter 11): lane, clock, hold and reset, HV_EN, insulation, residual current,
welding, the guard input, safe-off, and writes of its configuration registers.
-/

namespace Sys2Proof.Machine

/-! ### Lane, clock, hold, reset (R347 to R349, R381) -/

/-- LANE_LOST: no lane frame for 1 ms; safe-off on every output while any HV_EN is raised. -/
def fgLaneLost (s : State) : State :=
  if s.guard.laneOk ∧ s.guard.laneTb + 25000 ≤ s.clock.tb then
    let s1 := s.onGuard (fun g => { g with laneOk := false, laneRun := 0 })
    if s.anyHv then s1.safeOff 5 0x3F none else s1
  else s

/-- LANE_GOOD: 48,000 consecutive lane frames. -/
def fgLaneGood (s : State) : State :=
  if s.guard.laneOk = false ∧ 48000 ≤ s.guard.laneRun then s.onGuard (fun g => { g with laneOk := true }) else s

/-- CLOCK_FAULT: safe-off on every output with trigger 4. -/
def fgClockFault (s : State) : State :=
  if s.guard.clockOk then (s.onGuard (fun g => { g with clockOk := false })).safeOff 4 0x3F none else s

/-- HEARTBEAT_MISSING: the hold starts; HV_EN stays as it is. -/
def fgHold (s : State) : State :=
  if s.guard.hold.isNone then s.onGuard (fun g => { g with hold := some s.clock.tb }) else s

/-- HOLD_END: the heartbeat has returned with the resumed flag. -/
def fgHoldEnd (s : State) : State :=
  if s.guard.hold.isSome ∧ s.guard.holdExpired = false then s.onGuard (fun g => { g with hold := none }) else s

/-- HOLD_EXPIRE: 300 ms after the hold began, safe-off with trigger 3. -/
def fgHoldExpire (s : State) : State :=
  if s.guard.hold.any (fun t => decide (t + 7500000 ≤ s.clock.tb)) ∧ s.guard.holdExpired = false then
    (s.onGuard (fun g => { g with holdExpired := true })).safeOff 3 0x3F none
  else s

/-- LAST_RESET code of a cause (`FG_STATUS`). -/
def fgCauseCode : FgCause → Nat | .lockstep => 1 | .watchdog => 2 | .image => 3

/-- FIREGUARD_RESET: safe-off runs to its end before the cores reset; a new image demands the guard test (R349, R376). -/
def fgReset (c : FgCause) (s : State) : State :=
  let s1 := if c = .image then s.demandTest 2 else s
  s1.safeOff 2 0x3F (some (fgCauseCode c))

/-! ### HV_EN (R350) -/

/-- HV_EN_RAISE: HV_EN rises when every condition holds; otherwise the refusal's reason is kept in REASON (R351). The gate closes with it
where a request waits that did not stand at a fall of HV_EN (R24, R25). -/
def fgRaise (o : Output) (s : State) : State :=
  if (s.go o).hv ∨ s.has o = false then s
  else
    match s.hvFail o with
    | some r => s.onGo o (fun g => { g with reason := r })
    | none => (s.onGo o (fun g => { g with latch := none, sensorBad := false, sensorOkTb := none })).setHv o true

/-! ### Insulation (R354 to R359) -/

/-- Resistance from the averages of two halves, in mV, with R_B and R_DIV in kΩ (R355): twice the kΩ value as a fraction
(numerator, denominator); none above range. The arithmetic is exact (log entry 24). -/
def isoResist (upa uma upb umb : Int) (rb rdiv : Nat) : Option (Nat × Nat) :=
  let ua := upa + uma
  let ub := upb + umb
  let det := upb * uma - umb * upa
  if det < ua * ub / 500 ∨ det ≤ 0 then none
  else
    let k : Int := if rdiv = 0 then 1 else rdiv
    let sub : Int := if rdiv = 0 then 0 else det * rb
    let g := max (umb * ua * k - sub) 0 + max (upa * ub * k - sub) 0
    if g ≤ 0 then none else some ((det * rb * k).toNat, g.toNat)

/-- Level of a cycle (R356): 1 valid, 2 warning, 3 fault; thresholds in Ω. -/
def isoLevel (r : Option (Nat × Nat)) (warn fault : Nat) : Nat :=
  match r with
  | none => 1
  | some (n, d) => if warn * d ≤ 1000 * n then 1 else if fault * d ≤ 1000 * n then 2 else 3

/-- The output as `Fin 6`. -/
def dcOut (n : Fin 4) : Fin 6 := ⟨n.1, by omega⟩

/-- The monitor runs in states 4 to 14 (R357). -/
def State.isoRuns (s : State) (n : Fin 4) : Bool := (s.so (dcOut n)).state.energised && s.isoConfigured n

/-- Change a monitor. -/
def State.onIso (s : State) (n : Fin 4) (f : IsoState → IsoState) : State :=
  s.onGuard (fun g => { g with iso := upd g.iso n f })

/-- The verdict of a cable check at the end of its dwell (R358). -/
def isoVerdict (n : Fin 4) (worst : Nat) (s : State) : State :=
  let c := if worst % 8 = 3 then 3 else if 8 ≤ worst then 5 else 2
  let s1 := s.onIso n (fun i => { i with check := c, dwell := none, firstCheckTb := none })
  if c = 2 then s1.checkGood (dcOut n) (s.guard.iso[n]).checkV else s1.checkBad (dcOut n)

/-- The end of a complete cycle (R355, R356, R358, R359); `worst` keeps the worst level of a dwell, plus 8 once a cycle was
invalid. -/
def isoCycle (n : Fin 4) (up um : Int) (ok : Bool) (s : State) : State :=
  let i := s.guard.iso[n]
  let valid := ok && i.okA
  let g := fun f => s.fld R.FG_ISOLIMn f [n.1]
  let v := (s.outRec (dcOut n)).volt
  let r := isoResist i.upA i.umA up um (s.fld R.FG_ISOCFGn F.FG_ISOCFGn_RB_KOHM [n.1]) (g F.FG_ISOLIMn_RDIV_KOHM)
  let lvl := isoLevel r (g F.FG_ISOLIMn_WARN * v) (g F.FG_ISOLIMn_FAULT * v)
  let s1 := if valid then s.onIso n (fun i =>
        { i with rIso := (r.map (fun q => min 0xFFFFFFFE (q.1 / q.2))).getD 0xFFFFFFFF, level := lvl,
                 faults := if lvl = 3 then i.faults + 1 else 0, invalids := 0 })
      else (s.onIso n (fun i => { i with faults := 0, invalids := i.invalids + 1 })).latch R.FG_ISOn [n.1] F.FG_ISOn_INVALID.mask
  let j := s1.guard.iso[n]
  let w := if valid then i.worst / 8 * 8 + max (i.worst % 8) lvl else 8 + i.worst % 8
  let s2 := match j.dwell with
    | some k => if j.check = 1 then
        (if 1 ≤ k then isoVerdict n w (s1.onIso n (fun i => { i with worst := w }))
         else s1.onIso n (fun i => { i with dwell := some (k + 1), worst := w }))
      else s1
    | none => s1
  let c := (s.so (dcOut n)).state.code
  if 8 ≤ c ∧ c ≤ 14 then
    if 2 ≤ j.faults then s2.monitorDrop (dcOut n) 3
    else if 4 ≤ j.invalids then
      (s2.onGo (dcOut n) (fun g => { g with sensorBad := true, sensorOkTb := none })).monitorDrop (dcOut n) 14
    else s2
  else s2

/-- The averages of the last quarter of a half in mV, to nearest, and whether the half is valid (R354). -/
def IsoState.average (i : IsoState) : Int × Int × Bool :=
  let up := rdiv i.sumUp (max 1 i.frames)
  let um := rdiv i.sumUm (max 1 i.frames)
  (up, um, i.frames != 0 && !i.lapse && decide (50000 ≤ up + um))

/-- A half begins. -/
def IsoState.begin (i : IsoState) (halfB : Bool) (tb : Nat) : IsoState :=
  { i with halfB := halfB, halfTb := tb, sumUp := 0, sumUm := 0, frames := 0, lapse := false }

/-- ISO_HALF_END (R354, R355): a half of T_HALF ends. -/
def isoHalf (n : DcNo) (s : State) : State :=
  let i := s.guard.iso[n]
  let a := i.average
  if s.isoRuns n ∧ i.halfTb + s.halfTicks n.1 ≤ s.clock.tb then
    if i.halfB then ((isoCycle n a.1 a.2.1 a.2.2 s).onIso n (fun i => i.begin false s.clock.tb)).isoDrive n false true
    else (s.onIso n (fun i => { i.begin true s.clock.tb with upA := a.1, umA := a.2.1, okA := a.2.2 })).isoDrive n true true
  else s

/-- CABLE_CHECK_DWELL_START (R358): the output is within 10 V of the test voltage; the bridge restarts at half a. -/
def isoDwell (n : DcNo) (mv : Nat) (s : State) : State :=
  let i := s.guard.iso[n]
  if i.check = 1 ∧ i.dwell.isNone ∧ (diffInt mv (1000 * i.checkV)).natAbs ≤ 10000 then
    (s.onIso n (fun i => { i.begin false s.clock.tb with dwell := some 0, worst := 0 })).isoDrive n false true
  else s

/-- CABLE_CHECK_RAMP_FAIL (R358): 2.0 s after the first CHECK setpoint. -/
def isoRampFail (n : DcNo) (s : State) : State :=
  let i := s.guard.iso[n]
  if i.check = 1 ∧ i.dwell.isNone ∧ i.firstCheckTb.any (fun t => decide (t + 2 * tbSecond ≤ s.clock.tb)) then
    (s.onIso n (fun i => { i with check := 4, firstCheckTb := none })).checkBad (dcOut n)
  else s

/-! ### Residual current (R361 to R364) -/

/-- The outlet as `Fin 6`. -/
def acOut (k : Fin 2) : Fin 6 := ⟨k.1 + 4, by omega⟩

/-- Change an outlet's detection. -/
def State.onRcd (s : State) (k : Fin 2) (f : RcdState → RcdState) : State :=
  s.onGuard (fun g => { g with rcd := upd g.rcd k f })

/-- The rows of R362: AC row, threshold in mA, evaluations. -/
def rcdRows : List (Bool × Nat × Nat) :=
  [(false, 5, 790), (false, 50, 23), (false, 160, 6), (true, 24, 22), (true, 48, 10), (true, 120, 1)]

/-- Whether a window of samples reaches a row's threshold: DC by |mean|, AC by the RMS around the mean, exactly. -/
def rcdReaches (xs : List Int) (fs : Nat) (ac : Bool) (thr : Nat) : Bool :=
  let n : Int := xs.length
  let sum := xs.sum
  let sq := (xs.map (fun x => x * x)).sum
  if ac then decide ((thr : Int) * thr * n * n * 2 ^ 62 ≤ (n * sq - sum * sum) * fs * fs)
  else decide ((thr : Int) * n * 2 ^ 31 ≤ sum.natAbs * fs)

/-- DC and AC components of a window in 0.1 mA (`FG_RCDk`). -/
def rcdParts (xs : List Int) (fs : Nat) : Int × Nat :=
  let n := xs.length
  let sum := xs.sum
  let sq := (xs.map (fun x => x * x)).sum
  (rdiv (sum * fs * 10) (max 1 n * 2 ^ 31), rootRatio ((n * sq - sum * sum) * fs * fs * 100).toNat (max 1 n * max 1 n * 2 ^ 62))

/-- The mains period of an outlet in TB ticks (R361): 20.000 ms, or 16.667 ms. -/
def State.mainsTicks (s : State) (k : Fin 2) : Nat := if s.fld R.FG_RCDCFGk F.FG_RCDCFGk_FREQ60 [k.1] = 1 then 416667 else 500000

/-- The samples of the last `n` ticks. -/
def RcdState.window (r : RcdState) (tb n : Nat) : List (Option Int) := (r.win.filter (fun e => decide (tb < e.1 + n))).map (·.2)

/-- RCD_EVALUATION (R361 to R363) over the window of the latest mains period. -/
def rcdEval (k : Outlet) (s : State) : State :=
  let o := acOut k
  let x := (s.guard.rcd[k]).window s.clock.tb (s.mainsTicks k)
  if s.rcdConfigured k = false then s
  else if x = [] ∨ x.any (·.isNone) then
    let s1 := (s.onRcd k (fun r => { r with bad := r.bad + 1, runs := Vector.replicate 6 0 })).latch R.FG_RCDk [k.1] F.FG_RCDk_INVALID.mask
    let c := (s.so o).state.code
    if 3 ≤ (s1.guard.rcd[k]).bad ∧ 9 ≤ c ∧ c ≤ 14 ∧ (s.go o).hv then
      (s1.onGo o (fun g => { g with sensorBad := true, sensorOkTb := none })).drop o 14
    else s1.onGo o (fun g => { g with sensorOkTb := none })
  else
    let xs := x.filterMap id
    let fs := s.fld R.FG_RCDCFGk F.FG_RCDCFGk_FS_MA [k.1]
    let p := rcdParts xs fs
    let count := fun (i : Fin 6) (n : Nat) => match rcdRows[i.1]? with
      | some (ac, thr, _) => if rcdReaches xs fs ac thr then n + 1 else 0
      | none => n
    let s1 := (s.onRcd k (fun r => { r with bad := 0, dc := p.1, ac := p.2, runs := updAll r.runs count })).onGo o (fun g => { g with sensorOkTb := if g.sensorBad then some (g.sensorOkTb.getD s.clock.tb) else none })
    match (idx 6).find? (fun i => match rcdRows[i.1]? with
        | some (_, _, m) => decide (m ≤ ((s1.guard.rcd[k]).runs)[i]) | none => false) with
    | some i =>
      if (s1.go o).latch = some 4 then s1
      else (s1.onRcd k (fun r => { r with rule := i.1 + 1, due := true })).monitorDrop o 4
    | none => s1

/-- The self-test channel of an outlet, when it is in FGUARD mode. -/
def State.testChan (s : State) (k : Fin 2) (on : Bool) : State :=
  let n := s.fld R.FG_RCDCFGk F.FG_RCDCFGk_TEST_LS [k.1]
  if h : n < 24 then
    if s.lsMode n = 7 then s.onChan ⟨n, h⟩ (fun c => ({ c with driven := on }).switch s.lsw.uv on false) else s
  else s

/-- RCD_SELFTEST_START (R364): at boot, after a trip, or 3,600 s after the last pass, in states 0 and 1; HV_EN is held low. -/
def rcdTestStart (k : Outlet) (s : State) : State :=
  let o := acOut k
  let r := s.guard.rcd[k]
  let old := !(r.passTb.any (fun t => decide (s.clock.tb < t + 3600 * tbSecond)))
  if s.rcdConfigured k ∧ r.testing.isNone ∧ (s.so o).state.code ≤ 1 ∧ (r.due ∨ old) then
    let s1 := s.setHv o false
    (s1.onRcd k (fun r => { r with testing := some s.clock.tb })).testChan k true
  else s

/-- R364: the DC component of a window of VALID samples lies within ±30 % of a test current in mA. -/
def rcdPass (x : List (Option Int)) (fs t : Nat) : Bool :=
  let n : Int := x.length
  let sum := (x.filterMap id).sum * fs * 10
  x != [] && x.all (·.isSome) && decide (7 * (t : Int) * n * 2 ^ 31 ≤ sum ∧ sum ≤ 13 * (t : Int) * n * 2 ^ 31)

/-- RCD_SELFTEST_END (R364): the test passes on the DC component of the last 50 ms. -/
def rcdTestEnd (k : Outlet) (s : State) : State :=
  let o := acOut k
  if (s.guard.rcd[k]).testing.any (fun t => decide (t + 2500000 ≤ s.clock.tb)) then
    let g := fun f => s.fld R.FG_RCDCFGk f [k.1]
    let pass := rcdPass ((s.guard.rcd[k]).window s.clock.tb 1250000) (g F.FG_RCDCFGk_FS_MA) (g F.FG_RCDCFGk_TEST_MA)
    let s1 := (s.onRcd k (fun r => { r with testing := none, testOk := pass,
                                            passTb := if pass then some s.clock.tb else r.passTb,
                                            due := if pass then false else r.due })).testChan k false
    if pass then (s1.onGo o (fun g => { g with sensorBad := false, sensorOkTb := none })).settleA o
    else s1.onGo o (fun g => { g with reason := 14 })
  else s

/-! ### Welding (R366) -/

/-- WELD_CHECK: 200 ms after the gate opened, the mirrors and, with VCHECK, the phase voltages (RMS, mV) give the verdict. -/
def weldVerdict (o : Output) (volts : WordList) (s : State) : State :=
  if (s.go o).gate = false ∧ (s.go o).openTb.any (fun t => decide (t + 5000000 ≤ s.clock.tb)) then
    let bad := !s.mirrorsOpen o || (s.vcheck o && volts.any (fun v => decide (50000 ≤ v.toNat)))
    let s1 := s.onGo o (fun g => { g with openTb := none, welded := bad })
    if bad then s1.declareWelded o
    else if (s1.so o).state = .weldcheck then s1.toUnlock o else s1
  else s

/-! ### The guard input (R374 to R377) -/

/-- The guard has read open without a fault for 100 ms. -/
def State.openLong (s : State) : Bool := s.doorOpen && !s.guard.fault && decide (s.guard.levelTb + 2500000 ≤ s.clock.tb)

/-- GUARD_CHANGE (R375, R377, R569): opening runs safe-off on every output while any HV_EN is raised; closing closes every commissioning session
at once. The rule does not say whether a combination that is neither open nor closed closes them too: here the first one that no longer reads
open does (DESIGN CHOICE, log entry 126). -/
def guardChange (a b : Bool) (s : State) : State :=
  if a = s.guard.levelA ∧ b = s.guard.levelB then s
  else
    let seen := s.guard.seenOpen || (!s.guard.tested && s.openLong)
    let wasOpen := s.doorOpen
    let s1 := s.onGuard (fun g => { g with levelA := a, levelB := b, levelTb := s.clock.tb, seenOpen := seen,
                                           fault := g.fault && a == b })
    let s2 := if s1.doorOpen ∧ s1.anyHv then s1.safeOff 8 0x3F none else s1
    if wasOpen ∧ s2.doorOpen = false then s2.closeWhere (·.commissioning) else s2

/-- GUARD_FAULT (R374, R376): a non-antivalent combination for more than 50 ms. -/
def guardFaulted (s : State) : State :=
  if s.guard.levelA = s.guard.levelB ∧ s.guard.levelTb + 1250000 < s.clock.tb ∧ s.guard.fault = false then
    ((s.onGuard (fun g => { g with fault := true })).demandTest 5).dropAll ((idx 6).filter (fun o => (s.go o).hv)) 9
  else s

/-- GUARD_TEST_PASS (R377): open for 100 ms, then closed for 100 ms. -/
def guardPass (s : State) : State :=
  if s.guard.tested = false ∧ s.guard.seenOpen ∧ s.doorClosed ∧ s.guard.fault = false ∧ s.guard.levelTb + 2500000 ≤ s.clock.tb then
    s.onGuard (fun g => { g with tested := true, seenOpen := false })
  else s

/-! ### Safe-off (R379) -/

/-- SAFE_OFF_CURRENT_LOW: the current of an affected output is below 5 A. A reset that waits for safe-off follows its end (R473). -/
def safeLow (o : Output) (ma : Int) (s : State) : State := if s.currentLow o ma then (s.safeDrop o).coldWhenSafe else s

/-- SAFE_OFF_FORCE: 50 ms after the trigger every affected output still raised is dropped, named in FORCED and logged. While
TB stands (NRST), the Fireguard's own time decides, and the event stands for it. -/
def safeForce (s : State) : State :=
  match s.guard.safe with
  | some x =>
    if x.startTb + 1250000 ≤ s.clock.tb ∨ s.clock.run = false then
      let s1 := (s.onGuard (fun g => { g with soForced := x.left })).logEv .safeOffForced 0 7 3 x.left x.trigger
      ((idx 6).foldl (fun (s : State) (o : Fin 6) => s.safeDrop o) s1).coldWhenSafe
    else s
  | none => s

/-! ### Configuration (R376, "Registers" of chapter 11) -/

/-- The four groups of configuration registers with the output that each governs. -/
def fgConfigOf (addr : Nat) : Option (RegSpec × Nat × Fin 6) :=
  match regAt addr with
  | some (r, [n]) =>
    if r.name = "FG_ISOCFGn" ∨ r.name = "FG_ISOLIMn" then some (r, n, Fin.ofNat 6 n)
    else if r.name = "FG_RCDCFGk" then some (r, n, Fin.ofNat 6 (n + 4))
    else if r.name = "FG_WELDCFGn" then some (r, n, Fin.ofNat 6 n)
    else none
  | _ => none

/-- Limits of `FG_ISOLIMn`: FAULT 50 to WARN, T_HALF 100 to 2,000. -/
def fgClamp (r : RegSpec) (v : Nat) : Nat :=
  if r.name = "FG_ISOLIMn" then
    F.FG_ISOLIMn_T_HALF.limit 100 2000 (F.FG_ISOLIMn_FAULT.limit 50 (max 50 (F.FG_ISOLIMn_WARN.get v)) v)
  else v

/-- A write of a configuration register; LOCKED while HV_EN of the governed output is raised (R11), and a change demands the
guard start-up test (R376). -/
def State.writeFg (s : State) (r : RegSpec) (n : Nat) (o : Fin 6) (v : Nat) : Nat × State :=
  let a := s.putFields r [n] v (fgClamp r) (s.go o).hv
  (a.1, if a.1 = OK ∧ a.2.reg r [n] ≠ s.reg r [n] then a.2.demandTest 3 else a.2)

/-! ### The meanings -/

def execLaneLost (s : State) : Host.Outcome State Fault Refusal := .next (fgLaneLost s)
def execLaneGood (s : State) : Host.Outcome State Fault Refusal := .next (fgLaneGood s)
def execClockFault (s : State) : Host.Outcome State Fault Refusal := .next (fgClockFault s)
def execHeartbeatMissing (s : State) : Host.Outcome State Fault Refusal := .next (fgHold s)
def execHoldEnd (s : State) : Host.Outcome State Fault Refusal := .next (fgHoldEnd s)
def execHoldExpire (s : State) : Host.Outcome State Fault Refusal := .next (fgHoldExpire s)
def execFireguardReset (c : FgCause) (s : State) : Host.Outcome State Fault Refusal := .next (fgReset c s)
def execHvEnRaise (o : Output) (s : State) : Host.Outcome State Fault Refusal := .next (fgRaise o s)
def execIsoHalfEnds (n : DcNo) (s : State) : Host.Outcome State Fault Refusal := .next (isoHalf n s)
def execCableCheckDwellStart (n : DcNo) (mv : Nat) (s : State) : Host.Outcome State Fault Refusal := .next (isoDwell n mv s)
def execCableCheckRampFail (n : DcNo) (s : State) : Host.Outcome State Fault Refusal := .next (isoRampFail n s)
def execRcdEvaluate (k : Outlet) (s : State) : Host.Outcome State Fault Refusal := .next (rcdEval k s)
def execRcdSelftestStart (k : Outlet) (s : State) : Host.Outcome State Fault Refusal := .next (rcdTestStart k s)
def execRcdSelftestEnds (k : Outlet) (s : State) : Host.Outcome State Fault Refusal := .next (rcdTestEnd k s)
def execWeldCheck (o : Output) (volts : WordList) (s : State) : Host.Outcome State Fault Refusal := .next (weldVerdict o volts s)
def execGuardChange (a b : Bool) (s : State) : Host.Outcome State Fault Refusal := .next (guardChange a b s)
def execGuardFault (s : State) : Host.Outcome State Fault Refusal := .next (guardFaulted s)
def execGuardTestPass (s : State) : Host.Outcome State Fault Refusal := .next (guardPass s)
def execSafeOffCurrentLow (o : Output) (ma : Int) (s : State) : Host.Outcome State Fault Refusal := .next (safeLow o ma s)
def execSafeOffForce (s : State) : Host.Outcome State Fault Refusal := .next (safeForce s)

end Sys2Proof.Machine
end

