-- ==== Sys2Proof/Machine/Images.lean ====
section
/-!
DEFINITION. What the journal FRAM and the Flue store hold as bytes, encrypted under Key Register slot 4: the save record (R213), the tick
entry (R254) and the stored Flue record (R275).
-/

namespace Sys2Proof.Machine

/-- The storage key (R213). -/
def State.storageKey (s : State) : Bytes := (s.slot 4).key

/-- AES-256-GCM: the encrypted bytes and the tag. -/
def gcmSeal (key iv aad plain : Bytes) : Bytes :=
  let ct := gcmCtr key iv ((plain.length + 15) / 16) 2 plain
  ct ++ gcmTag key iv aad ct

/-! ### The save record (R213) -/

/-- Bytes 0 to 31, in clear. -/
def SaveRecord.clear (r : SaveRecord) : Bytes :=
  [0x4C#8, 0x56#8, 0x4D#8, 0x4A#8] ++ leBytes 2 1 ++ leBytes 1 r.reason ++ leBytes 1 0 ++ leBytes 8 r.seq ++ leBytes 8 r.tb ++ leBytes 8 r.wall

/-- Bytes 32 to 1,007 before encryption. -/
def SaveRecord.plain (r : SaveRecord) : Bytes :=
  (r.energy.toList.map (fun e => (e.toList.map (leBytes 8)).flatten)).flatten
  ++ (r.site.toList.map (leBytes 8)).flatten
  ++ (r.svc.toList.map (fun e => (e.toList.map (leBytes 8)).flatten)).flatten
  ++ (r.rem.toList.map (fun x => leBytes 8 (unsigned 64 x))).flatten
  ++ (r.pulse.toList.map (leBytes 8)).flatten ++ (r.peak.toList.map (leBytes 8)).flatten
  ++ (r.track.toList.map (fun x => leBytes 4 (unsigned 32 x))).flatten
  ++ leBytes 8 r.billTime ++ leBytes 8 r.lastTickTb ++ leBytes 8 r.planId ++ leBytes 8 (b2n r.shortTick + 2 * b2n r.timeKnown) ++ List.replicate 16 0

/-- The 96-bit IV: SEQ and 4 zero bytes. -/
def SaveRecord.iv (r : SaveRecord) : Bytes := leBytes 8 r.seq ++ List.replicate 4 0

/-- The 1,024 bytes of a save record as they stand in the FRAM. -/
def SaveRecord.image (r : SaveRecord) (key : Bytes) : Bytes := r.clear ++ gcmSeal key r.iv r.clear r.plain

/-- The plaintext of a copy whose MAGIC and FORMAT are in place and whose tag checks (R218). -/
def openSave (key img : Bytes) : Option Bytes :=
  let clear := img.take 32
  if clear.take 6 = [0x4C#8, 0x56#8, 0x4D#8, 0x4A#8, 1#8, 0#8] then
    gcmOpen key ((clear.drop 8).take 8 ++ List.replicate 4 0) clear ((img.drop 32).take 976) (img.drop 1008)
  else none

/-! ### The tick entry (R254) -/

/-- Code of an attribution (R226). -/
def Attr.code : Attr → Nat
  | .none => 0 | .pending => 1 | .session => 2 | .service => 3 | .noTime => 4

/-- Bytes 0 to 23, in clear. -/
def Tick.clear (t : Tick) : Bytes := leBytes 8 t.jseq ++ leBytes 8 t.endTb ++ leBytes 8 (t.s.getD 0)

/-- Bytes 24 to 111 before encryption. -/
def Tick.plain (t : Tick) : Bytes :=
  (t.outs.toList.map (fun o => leBytes 4 o.imp ++ leBytes 4 o.exp ++ leBytes 1 o.sid ++ leBytes 1 (o.tariff % 16 + 16 * o.attr.code) ++ leBytes 2 0)).flatten
  ++ leBytes 1 (b2n t.held + 2 * b2n t.short + 4 * b2n t.wide + 8 * b2n t.slewed + 16 * b2n t.s.isNone) ++ List.replicate 15 0

/-- The IV: JSEQ and the bytes 42 4A 00 00. -/
def Tick.iv (t : Tick) : Bytes := leBytes 8 t.jseq ++ [0x42#8, 0x4A#8, 0#8, 0#8]

/-- The 128 bytes of a tick entry as they stand in the ring. -/
def Tick.image (t : Tick) (key : Bytes) : Bytes := t.clear ++ gcmSeal key t.iv t.clear t.plain

/-! ### The Flue store (R275) -/

/-- A Flue record as the store holds it: encrypted under slot 4 with an IV and a layout that the spec does not give (log entry 122). -/
def FlueRecord.image (r : FlueRecord) (key : Bytes) : Bytes := gcmSeal key (Config.storeIv r.body.counter) [] r.bytes

/-- The Flue store in flash: the encrypted records, oldest first. -/
def State.flueStoreImage (s : State) : List Bytes := s.mseal.store.map (fun r => r.image s.storageKey)

/-- The tick ring in the FRAM. -/
def State.tickRingImage (s : State) : List Bytes := s.bil.ticks.map (fun t => t.image s.storageKey)

/-- The save record that a save writes now, as its bytes (R213, R214). -/
def State.saveImage (s : State) (reason lastTb : Nat) : Bytes := (s.saveRecord reason lastTb).image s.storageKey

end Sys2Proof.Machine
end

