-- ==== Sys2Proof/Machine/LswCmds.lean ====
section
/-!
DEFINITION. The protected load-switch channels (chapter 12): limits, retries and latches, load diagnostics, lock drives,
VAUX, and the host's requests.
-/

namespace Sys2Proof.Machine

/-- A channel. -/
def State.chan (s : State) (n : Fin 24) : LswChan := s.lsw.chans[n]

/-- The channel is on or in pull-in. -/
def LswChan.isOn (c : LswChan) : Bool := c.state == 1 || c.state == 2

/-- The channel's junction is above 150 °C: a measurement, open (log entry 2). -/
def State.chanHot (s : State) (n : Fin 24) : Bool := Config.freeOf "LSn junction above 150 degC" [n.1, s.clock.tb] % 2 == 1

/-- CONTACTOR and HVGATE channels follow a gate (R386). -/
def State.gated (s : State) (n : Fin 24) : Bool := s.lsMode n.1 == 3 || s.lsMode n.1 == 4

/-- The output that gates a channel. -/
def State.gateOf (s : State) (n : Fin 24) : Fin 6 := Fin.ofNat 6 (min 5 (s.lsOutput n.1))

/-- A channel is requested on, by mode (R384). -/
def State.chanWanted (s : State) (n : Fin 24) : Bool :=
  match s.lsMode n.1 with
  | 1 | 2 => bitOf (s.fld R.LSW_ON F.LSW_ON_ON []) n.1
  | 3 | 4 => (s.go (s.gateOf n)).gate && !(s.chan n).gateHold
  | 5 | 7 => (s.chan n).driven
  | _ => false

/-- PULLIN of a channel in TB ticks (R391). -/
def State.pullinTb (s : State) (n : Fin 24) : Nat := s.useFld R.LSW_CFGn F.LSW_CFGn_PULLIN [n.1] * 50000

/-- The channel is still in pull-in (R391). -/
def State.inPullin (s : State) (n : Fin 24) : Bool := s.lsMode n.1 == 3 && decide (s.clock.tb < (s.chan n).gateTb + s.pullinTb n)

/-- Turn a channel on or off as it is requested. -/
def State.applyChan (s : State) (n : Fin 24) : State :=
  s.onChan n (fun c => c.switch s.lsw.uv (s.chanWanted n) (s.inPullin n))

/-- Reload RETRY_LEFT from RETRY_MAX, which is taken up now (R392, R395) and taken as 0 in modes 3, 4, 6 and 7 (R393). -/
def State.reloadRetry (s : State) (n : Fin 24) : State :=
  let s1 := s.takeField R.LSW_CFGn F.LSW_CFGn_RETRY_MAX [n.1]
  let m := s.lsMode n.1
  let retries := if m = 3 ∨ m = 4 ∨ m = 6 ∨ m = 7 then 0 else s1.useFld R.LSW_CFGn F.LSW_CFGn_RETRY_MAX [n.1]
  s1.onChan n (fun c => { c with retryLeft := retries })

/-- A channel latches off, with its log entry; TRIPS counts it where the channel was on and turns off; a gated channel counts as a fall of HV_EN (R393, R395). -/
def State.latchChan (s : State) (n : Fin 24) (state : Nat) : State :=
  let s1 := (s.onChan n (fun c => { c with state := state, trips := if c.isOn then satAdd 16 c.trips 1 else c.trips })).logEv .lswLatch n.1 7 1 n.1 state
  if s.gated n then s1.hvFell (s.gateOf n) 9 else s1

/-- CURRENT_LIMIT_TURNOFF (R392, R393). -/
def lswLimit (n : ChanNo) (s : State) : State :=
  if (s.chan n).isOn then
    let s1 := s.latch R.LSW_STATn [n.1] F.LSW_STATn_OC_SEEN.mask
    let m := s.lsMode n.1
    if 0 < (s.chan n).retryLeft ∧ m ≠ 3 ∧ m ≠ 4 ∧ m ≠ 6 ∧ m ≠ 7 then
      s1.onChan n (fun c => { c with state := 3, retryLeft := c.retryLeft - 1, trips := satAdd 16 c.trips 1,
                                     waitUntil := s.clock.tb + s.fld R.LSW_CFGn F.LSW_CFGn_RETRY_DELAY [n.1] * 250000 })
    else s1.latchChan n 4
  else s

/-- RETRY_DELAY_END (R392). -/
def lswRetry (n : ChanNo) (s : State) : State :=
  if (s.chan n).state = 3 ∧ (s.chan n).waitUntil ≤ s.clock.tb then
    (s.onChan n (fun c => { c with state := 0 })).applyChan n
  else s

/-- RETRY_RELOAD: the channel carries current outside the limit for 1 s (R392). -/
def lswReload (n : ChanNo) (ma : Nat) (s : State) : State :=
  if (s.chan n).isOn ∧ 0 < ma then (s.reloadRetry n).onChan n (fun c => { c with openNow := false }) else s

/-- THERMAL_LATCH, in any mode; a retry wait ends and RETRY_LEFT stays frozen (R394, R395). -/
def lswThermal (n : ChanNo) (s : State) : State := if (s.chan n).state = 5 then s else s.latchChan n 5

/-- A channel's switch conducts: on or in pull-in, and in PWM mode, or in CONTACTOR mode after pull-in as economiser, in its on phase
(R384, R389, R391). With PULLIN = 0 or DUTY = 256 a CONTACTOR channel is fully on. -/
def State.chanOutput (s : State) (n : Fin 24) : Bool :=
  let m := s.lsMode n.1
  let full := m == 3 && (s.inPullin n || s.useFld R.LSW_CFGn F.LSW_CFGn_PULLIN [n.1] == 0 || (s.pgRun (s.chanPg n) (pgTick s.clock.tb)).duty == 256)
  (s.chan n).isOn && ((m != 2 && m != 3) || full || s.onPhase n)

/-- OPEN_LOAD: of a PWM channel only phases of at least 20 µs, 80 ticks, are measured (R397). -/
def lswOpen (n : ChanNo) (s : State) : State :=
  if (s.chan n).isOn ∧ (s.lsMode n.1 = 2 → 80 ≤ s.onTicks n) then (s.onChan n (fun c => { c with openNow := true })).latch R.LSW_STATn [n.1] F.LSW_STATn_OPEN.mask else s

/-- R366: outputs that a test declares welded: their gate has been open for 200 ms, and a mirror that they name is decided to
see no load. -/
def State.mirrorWelds (s : State) (n : Fin 24) (sees : Bool) : List (Fin 6) :=
  if s.lsMode n.1 = 6 ∧ sees = false ∧ (s.chan n).lastTest = false ∧ 2 ≤ (s.chan n).testRun then
    (idx 6).filter (fun o => s.has o && (s.mirrors o).contains n && s.gateLongOpen o && (s.go o).latch != some 5)
  else []

/-- OFF_STATE_TEST: in MIRROR mode LOAD_OFF changes after 3 equal results, and an output whose mirror is then not closed is welded
(R366); in the other modes no load sets OPEN (R398). -/
def lswOffTest (n : ChanNo) (sees : Bool) (s : State) : State :=
  let c := s.chan n
  if c.isOn then s
  else if s.lsMode n.1 = 6 then
    let k := if c.lastTest = sees then min 3 (c.testRun + 1) else 1
    (s.mirrorWelds n sees).foldl State.declareWelded
      (s.onChan n (fun c => { c with lastTest := sees, testRun := k, loadOff := if 3 ≤ k then sees else c.loadOff }))
  else
    let s1 := s.onChan n (fun c => { c with lastTest := sees, loadOff := sees, openNow := !sees })
    if sees then s1 else s1.latch R.LSW_STATn [n.1] F.LSW_STATn_OPEN.mask

/-- NEG_VOLTAGE (R387). -/
def lswNeg (n : ChanNo) (s : State) : State := s.latch R.LSW_STATn [n.1] F.LSW_STATn_NEG.mask

/-- PULLIN_END (R391). -/
def lswPullin (n : ChanNo) (s : State) : State :=
  if (s.chan n).state = 2 ∧ s.inPullin n = false then s.onChan n (fun c => { c with state := 1 }) else s

/-- The outputs whose lock or release is a channel. -/
def State.lockOutputs (s : State) (n : Fin 24) : List (Fin 6) :=
  (idx 6).filter (fun o => match s.lockLs o with | some k => n.1 == k.1 || n.1 == k.1 + 1 | none => false)

/-- What the sequencer does with a lock report: LOCK may go on, UNLOCK ends or faults (R317). -/
def State.lockReport (s : State) (n : Fin 24) (ok : Bool) : State :=
  (s.lockOutputs n).foldl (fun (s : State) (o : Fin 6) =>
    if (s.so o).state = .unlock then (if ok then s.enter o .waitUnplug else s.toFault o 17) else s.pollOut o) s

/-- LOCK_END_OF_TRAVEL: after 50 ms of blanking the current stayed above STALL for 20 ms (R400). -/
def lswTravel (n : ChanNo) (s : State) : State :=
  let c := s.chan n
  if s.lsMode n.1 = 5 ∧ c.lock = 1 ∧ c.isOn ∧ c.lockTb + 1750000 ≤ s.clock.tb then
    (s.onChan n (fun c => { c with state := 0, driven := false, lock := 2 })).lockReport n true
  else s

/-- LOCK_DRIVE_TIMEOUT: 2.0 s without end of travel (R400). -/
def lswLockTimeout (n : ChanNo) (s : State) : State :=
  let c := s.chan n
  if c.lock = 1 ∧ c.lockTb + 2 * tbSecond ≤ s.clock.tb then
    (s.onChan n (fun c => { c with state := if c.latched then c.state else 0, driven := false, lock := 3 })).lockReport n false
  else s

/-- VAUX_UNDERVOLTAGE: every channel turns off; the sequencer sees a gated channel that was on as a latch (R401). -/
def lswUnder (s : State) : State :=
  let s1 := (s.onLsw (fun l => { l with uv := true, chans := updAll l.chans (fun n c =>
    if c.latched then c else { c with state := 6, gateHold := c.gateHold || s.gated n }) })).latch R.LSW_STATUS [] F.LSW_STATUS_UV_SEEN.mask
  ((idx 24).foldl (fun (s2 : State) (n : Fin 24) =>
    if s.gated n && (s.chan n).isOn then s2.hvFell (s.gateOf n) 9 else s2) s1).pollAll

/-- VAUX_RECOVER: requested HOST, PWM and LOCK channels turn on again; gated ones wait for their gate (R401). -/
def lswRecover (s : State) : State :=
  if s.lsw.uv then
    let s1 := s.onLsw (fun l => { l with uv := false, chans := l.chans.map (fun c => if c.state = 6 then { c with state := 0 } else c) })
    ((idx 24).foldl (fun (s2 : State) (n : Fin 24) =>
      let m := s.lsMode n.1
      if (m = 1 ∨ m = 2 ∨ m = 5) ∧ (s.chan n).state = 6 then s2.applyChan n else s2) s1).pollAll
  else s

/-- The bits of `LSW_ON` of channels in HOST and PWM mode (R385). -/
def State.onMask (s : State) : Nat := bitmap 24 (fun n => s.lsMode n.1 == 1 || s.lsMode n.1 == 2)

/-- A write of `LSW_ON`. -/
def State.writeOn (s : State) (v : Nat) : State := (s.setReg R.LSW_ON [] (v &&& s.onMask)).applyOn

/-- A clear of one channel (R395). -/
def State.clearChan (s : State) (n : Fin 24) : State :=
  let c := s.chan n
  if s.chanHot n then s.latch R.LSW_STATn [n.1] F.LSW_STATn_CLEAR_REFUSED.mask
  else if c.latched then
    (((s.reloadRetry n).onChan n (fun c => { c with state := 0 })).applyChan n).logEv .lswClear n.1 7 1 n.1 c.state
  else s.reloadRetry n

/-- A write of `LSW_CLEAR`. -/
def State.writeClear (s : State) (v : Nat) : State :=
  (idx 24).foldl (fun (s : State) (n : Fin 24) => if bitOf v n.1 then s.clearChan n else s) s

def execLockEndOfTravel (n : ChanNo) (s : State) : Host.Outcome State Fault Refusal := .next (lswTravel n s)
def execLockDriveTimeout (n : ChanNo) (s : State) : Host.Outcome State Fault Refusal := .next (lswLockTimeout n s)
def execVauxUndervoltage (s : State) : Host.Outcome State Fault Refusal := .next (lswUnder s)
def execVauxRecover (s : State) : Host.Outcome State Fault Refusal := .next (lswRecover s)
def execCurrentLimitTurnoff (n : ChanNo) (s : State) : Host.Outcome State Fault Refusal := .next (lswLimit n s)
def execRetryDelayEnd (n : ChanNo) (s : State) : Host.Outcome State Fault Refusal := .next (lswRetry n s)
def execRetryReload (n : ChanNo) (ma : Nat) (s : State) : Host.Outcome State Fault Refusal := .next (lswReload n ma s)
def execThermalLatch (n : ChanNo) (s : State) : Host.Outcome State Fault Refusal := .next (lswThermal n s)
def execOpenLoad (n : ChanNo) (s : State) : Host.Outcome State Fault Refusal := .next (lswOpen n s)
def execOffStateTest (n : ChanNo) (sees : Bool) (s : State) : Host.Outcome State Fault Refusal := .next (lswOffTest n sees s)
def execNegVoltage (n : ChanNo) (s : State) : Host.Outcome State Fault Refusal := .next (lswNeg n s)
def execPullinEnd (n : ChanNo) (s : State) : Host.Outcome State Fault Refusal := .next (lswPullin n s)

end Sys2Proof.Machine
end

