-- ==== Sys2Proof/Machine/NetCmds.lean ====
section
/-!
DEFINITION. The twin safety networks and degraded mode (R368 to R373).
-/

namespace Sys2Proof.Machine

/-- A device frame (R368). -/
def deviceFrame (seq tb hv stop flags : Nat) : Bytes :=
  let b := leBytes 4 seq ++ leBytes 8 tb ++ leBytes 1 hv ++ leBytes 1 stop ++ leBytes 1 flags ++ [0#8]
  b ++ leBytes 4 (crc32c b)

/-- A field of a frame. -/
def frameNat (bs : Bytes) (off n : Nat) : Nat := ofLE ((bs.drop off).take n)

/-- R369: a copy is valid when its CRC checks and its SEQ lies 1 to 2^31 above the last accepted one. -/
def copyValid (bs : Bytes) (last : Option Nat) : Bool :=
  bs.length == 20 && frameNat bs 16 4 == crc32c (bs.take 16) &&
  match last with
  | none => true
  | some l => let d := (frameNat bs 0 4 + 2 ^ 32 - l % 2 ^ 32) % 2 ^ 32
    1 ≤ d && d ≤ 2 ^ 31

/-- SEQ last accepted from a sender (0 to 7 cabinets, 8 the device) on a network. -/
def Guard.last (g : Guard) (k : Fin 9) (netB : Bool) : Option Nat := if netB then (g.lastSeq[k]).2 else (g.lastSeq[k]).1

/-- A valid copy of a sender has come on a network in the present slot. -/
def Guard.heard (g : Guard) (k : Fin 9) (netB : Bool) (seq : Nat) : Guard :=
  if netB then { g with lastSeq := upd g.lastSeq k (fun x => (x.1, some seq)), seenB := g.seenB ||| 2 ^ k.1 }
  else { g with lastSeq := upd g.lastSeq k (fun x => (some seq, x.2)), seenA := g.seenA ||| 2 ^ k.1 }

/-- A disagreeing pair (R369, R370). -/
def State.disagree (s : State) : State :=
  (s.onGuard (fun g =>
    { g with disTbs := s.clock.tb :: g.disTbs.filter (fun t => decide (s.clock.tb < t + tbSecond)),
             disagree := satAdd 16 g.disagree 1, goodTb := none })).latch R.FG_NET [] F.FG_NET_SEEN_DISAGREE.mask

/-- R369: the device's own copies disagree. The comparison window is 20 µs (A0-05); TB is not compared under SAFE_OFF. -/
def deviceDiffer (a b : Bytes) : Bool :=
  frameNat a 12 2 != frameNat b 12 2 || (frameNat a 14 1 &&& 0xFB) != (frameNat b 14 1 &&& 0xFB)
  || (!bitOf (frameNat a 14 1) 1 && decide (500 < (diffInt (frameNat a 4 8) (frameNat b 4 8)).natAbs))

/-- The end of a slot (R370): what was expected and did not come. -/
def State.slotEnd (s : State) : State :=
  let named := s.namedCabs
  s.onGuard (fun g =>
    let exp := 2 ^ 8 + (named.map (fun k => 2 ^ k.1)).sum
    let onlyB := (List.range 9).any (fun k => bitOf exp k && !bitOf g.seenA k && bitOf g.seenB k)
    let onlyA := (List.range 9).any (fun k => bitOf exp k && bitOf g.seenA k && !bitOf g.seenB k)
    let all := (List.range 9).all (fun k => !bitOf exp k || (bitOf g.seenA k && bitOf g.seenB k))
    { g with missA := if onlyB then g.missA + 1 else 0, missB := if onlyA then g.missB + 1 else 0,
             missOwn := if !bitOf g.seenA 8 && !bitOf g.seenB 8 then g.missOwn + 1 else 0,
             goodTb := if all then some (g.goodTb.getD s.clock.tb) else none,
             cabs := updAll g.cabs (fun k c =>
               let seen := bitOf g.seenA k.1 || bitOf g.seenB k.1
               let c1 := { c with first := none, missing := if seen || !named.contains k then 0 else c.missing + 1 }
               { c1 with goodTb := if seen && !bitOf c.flags 1 && !bitOf c.flags 2 then some (c.goodTb.getD s.clock.tb) else none }),
             seenA := 0, seenB := 0 })

/-- SAFETY_SLOT (R368 to R370): the slot that ends is judged; the next device frame goes out on A and on B; the read-back
copies are checked and compared. -/
def netSlot (a b : Option Bytes) (s : State) : State :=
  if s.guard.started then
    let s1 := s.slotEnd
    let g := s1.guard
    let stop := (g.safe.map (·.outputs)).getD 0
    let all := decide (stop ≠ 0 ∧ s1.present &&& stop = s1.present)
    let flags := b2n g.degraded.isSome + 2 * b2n all
    let seq := (g.slotSeq + 1) % 2 ^ 32
    let fr := fun net => deviceFrame seq s1.clock.tb s1.hvMap stop (flags + 4 * net)
    let s2 := (s1.onGuard (fun g => { g with slotSeq := seq, frameA := fr 0, frameB := fr 1 })).bump 20 2
    let okA := (a.map (fun x => copyValid x (s2.guard.last 8 false))).getD false
    let okB := (b.map (fun x => copyValid x (s2.guard.last 8 true))).getD false
    let s3 := if okA then s2.onGuard (fun g => g.heard 8 false (frameNat (a.getD []) 0 4)) else s2
    let s4 := if okB then s3.onGuard (fun g => g.heard 8 true (frameNat (b.getD []) 0 4)) else s3
    if okA && okB && deviceDiffer (a.getD []) (b.getD []) then s4.disagree else s4
  else s

/-- R350: raised outputs of a cabinet whose frame does not report OWN_OC although the plan holds a 2oo2H pair for them. -/
def State.ownOcLost (s : State) (k : Fin 8) (fr : Bytes) : List (Fin 6) :=
  (s.servedBy k).filter (fun o => (s.go o).hv && s.pairFor o && !bitOf (frameNat fr 13 1) 0)

/-- CABINET_SAFETY_FRAME (R350, R368, R369): a pair disagrees once, by its first copy's ECHO_TB or by its second copy. -/
def netCabinet (k : CabNo) (netB : Bool) (fr : Bytes) (s0 : State) : State :=
  let s := s0.bump 20 1
  let kk : Fin 9 := ⟨k.1, by omega⟩
  let g := s.guard
  if g.started ∧ s.namedCabs.contains k ∧ copyValid fr (g.last kk netB) then
    let c := g.cabs[k]
    let flags := frameNat fr 13 1
    let bad := bitOf flags 1 || bitOf flags 2
    let first := !bitOf g.seenA k.1 && !bitOf g.seenB k.1
    let s1 := s.onGuard (fun g => { g.heard kk netB (frameNat fr 0 4) with
      cabs := upd g.cabs k (fun c => { c with enabled := frameNat fr 12 1, flags := flags, validTb := some s.clock.tb,
                                              badRun := if first then (if bad then c.badRun + 1 else 0) else c.badRun,
                                              first := if first then some (netB, fr, s.clock.tb) else c.first }) })
    let echoBad := decide (50000 < (diffInt (frameNat fr 4 8) s.clock.tb).natAbs)
    let pairBad := match c.first with
      | some (n, x, t) => !first && n != netB && (x != fr || decide (t + 6250 < s.clock.tb)) && decide ((diffInt (frameNat x 4 8) t).natAbs ≤ 50000)
      | none => false
    (if (first && echoBad) || pairBad then s1.disagree else s1).dropAll (s.ownOcLost k fr) 6
  else s

/-- NETWORK_MISSING (R370): expected frames missing on one network for 10 slots. -/
def netMissing (netB : Bool) (s : State) : State :=
  if 10 ≤ (if netB then s.guard.missB else s.guard.missA) then s.enterDegraded (if netB then 2 else 1) else s

/-- NETWORK_DISAGREEMENT (R370): three disagreeing pairs within 1 s. -/
def netDisagree (s : State) : State :=
  if 3 ≤ (s.guard.disTbs.filter (fun t => decide (s.clock.tb < t + tbSecond))).length then s.enterDegraded 3 else s

/-- BOTH_NETWORKS_LOST (R370, R371): safe-off on every output with reason 7. -/
def netBoth (s : State) : State :=
  let g := s.guard
  if (10 ≤ g.missOwn ∨ (g.degraded.isSome ∧ ((g.degCause = 1 ∧ 10 ≤ g.missB) ∨ (g.degCause = 2 ∧ 10 ≤ g.missA)))) ∧ g.netsLost = false then
    (s.onGuard (fun g => { g with netsLost := true, goodTb := none })).safeOff 6 0x3F none
  else s

/-- CABINET_MISSING (R370): silent on both networks for 10 slots, or tripped or faulty in 2 slots. -/
def cabMissing (k : CabNo) (s : State) : State :=
  let c := s.guard.cabs[k]
  if s.namedCabs.contains k ∧ c.down = false ∧ (10 ≤ c.missing ∨ 2 ≤ c.badRun) then
    (s.onGuard (fun g => { g with cabs := upd g.cabs k (fun c => { c with down := true, goodTb := none }) })).dropAll (s.servedBy k) 6
  else s

/-- CABINET_FRAMES_RESTORED (R351, reason 6): valid again for 1 s. -/
def cabRestored (k : CabNo) (s : State) : State :=
  let c := s.guard.cabs[k]
  if c.down ∧ c.goodTb.any (fun t => decide (t + tbSecond ≤ s.clock.tb)) then
    s.onGuard (fun g => { g with cabs := upd g.cabs k (fun c => { c with down := false }) })
  else s

/-- Both networks have delivered every expected frame without disagreement for `n` seconds. -/
def State.netsGood (s : State) (n : Nat) : Bool := s.guard.goodTb.any (fun t => decide (t + n * tbSecond ≤ s.clock.tb))

/-- NETWORKS_RESTORED (R351, reason 7). -/
def netsRestored (s : State) : State :=
  if s.guard.netsLost ∧ s.netsGood 1 then s.onGuard (fun g => { g with netsLost := false }) else s

/-- DEGRADED_CLEAR (R373). -/
def degClear (s : State) : State :=
  if s.guard.degraded.isSome ∧ s.netsGood 60 then
    (s.onGuard (fun g => { g with degraded := none, degHv := 0, degCause := 0 })).logEv .network 1 7 3 0 0
  else s

/-- DEGRADED_LIMIT (R372): 5,400 s after entry, safe-off on every output still raised. -/
def degLimit (s : State) : State :=
  if s.guard.degraded.any (fun t => decide (t + 5400 * tbSecond ≤ s.clock.tb)) ∧ s.anyHv then s.safeOff 7 s.hvMap none else s

def execSafetySlot (readA readB : Option Bytes) (s : State) : Host.Outcome State Fault Refusal := .next (netSlot readA readB s)
def execCabinetSafetyFrame (k : CabNo) (netB : Bool) (frame : Bytes) (s : State) : Host.Outcome State Fault Refusal := .next (netCabinet k netB frame s)
def execNetworkMissing (netB : Bool) (s : State) : Host.Outcome State Fault Refusal := .next (netMissing netB s)
def execNetworkDisagreement (s : State) : Host.Outcome State Fault Refusal := .next (netDisagree s)
def execBothNetworksLost (s : State) : Host.Outcome State Fault Refusal := .next (netBoth s)
def execCabinetMissing (k : CabNo) (s : State) : Host.Outcome State Fault Refusal := .next (cabMissing k s)
def execCabinetFramesRestored (k : CabNo) (s : State) : Host.Outcome State Fault Refusal := .next (cabRestored k s)
def execNetworksRestored (s : State) : Host.Outcome State Fault Refusal := .next (netsRestored s)
def execDegradedClear (s : State) : Host.Outcome State Fault Refusal := .next (degClear s)
def execDegradedLimit (s : State) : Host.Outcome State Fault Refusal := .next (degLimit s)

end Sys2Proof.Machine
end

