-- ==== Sys2Proof/Machine/VehCmds.lean ====
section
/-!
DEFINITION. The vehicle link's commands (chapter 09): pilots and proximity, the modem matrix, SLAC, 10BASE-T1S, and the
messages of a charging session.
-/

namespace Sys2Proof.Machine

/-! ### Pilots and proximity (R281 to R286) -/

/-- Thresholds between A, B, C, D, E and INVALID, mV (R281). -/
def pilotThresholds : List Int := [10500, 7500, 4500, 1500, -1500]

/-- The place of a high plateau among the states A to E and INVALID; each threshold lies 150 mV further from the present
place, half of the 0.3 V of hysteresis (R281). -/
def pilotPlace (now : Option Nat) (high : Int) : Nat :=
  ((List.range 5).filter (fun k =>
    let t := pilotThresholds.getD k 0
    let t1 := match now with | some p => if p ≤ k then t - 150 else t + 150 | none => t
    decide (high < t1))).length

/-- STATE codes of the places. -/
def placeCode (p : Nat) : Nat := if p = 5 then 6 else p

/-- The accepted state of a pilot for measured plateaus, and whether DIODE holds (R281, R282). -/
def Pilot.judge (p : Pilot) (tb : Nat) (i : PilotIn) : Nat × Bool :=
  let now : Option Nat := if p.state ≤ 4 then some p.state else if p.state = 6 ∧ p.diode = false then some 5 else none
  let x := pilotPlace now i.high
  match p.line tb with
  | .minus12 => (5, false)
  | .steady => (placeCode x, false)
  | .pwm _ =>
    let d := (1 ≤ x && x ≤ 3) && (decide (-10500 < i.low) || (p.diode && decide (¬ i.low < -10500)))
    (if d then 6 else placeCode x, d)

/-- A suspended sequencer sees an accepted pilot state when it resumes (R343). -/
def State.pilotEvent (s : State) (o : Fin 6) : State :=
  if s.seqr.suspended then s.onSo o (fun q => { q with missed := true }) else s.pilotSeen o

/-- What enters and leaves with state A: waiting settings, SLAC counts, the modem's match, and the TS port (R285, R296). -/
def State.pilotA (s : State) (o : Fin 6) (was now : Nat) : State :=
  if now = 0 then
    let s1 := (s.unmatch o).takeUp .s (fun a => a == R.VEH_PINCFGn.addr [o.1])
    s1.onVeh (fun v => { v with ports := upd v.ports o (fun _ => SlacPort.reset),
                                slac := (v.slac.map (fun r => { r with candidates := r.candidates &&& (0x3F - 2 ^ o.1) })).filter (fun r => r.candidates != 0) })
  else if was = 0 ∧ s.isMcs o then
    (if h : o.1 < 4 then s.onVeh (fun v => { v with t1s := upd v.t1s ⟨o.1, h⟩ (fun t => { t with enabled := true, link := true, lost := false }) }) else s)
  else s

/-- PILOT_STATE_CHANGE. The pilot of an output that STRUCTURE does not declare is not measured (R545). -/
def vehPilot (o : Output) (i : PilotIn) (s0 : State) : State :=
  if bitOf s0.veh.watched o.1 = false then s0
  else
  let s := s0.settleA o
  let p := s.veh.pilots[o]
  let j := p.judge s.clock.tb i
  let s1 := s.onPilot o (fun p => { p with high := i.high, low := i.low, diode := j.2 })
  let s2 := if j.2 then s1.latch R.VEH_PILOTn [o.1] F.VEH_PILOTn_DIODE.mask else s1
  if j.1 = p.state then s2
  else ((s2.onPilot o (fun p => { p with state := j.1, tb := s.clock.tb })).pilotA o p.state j.1).pilotEvent o

/-- The proximity code of a resistance under a table (R285). -/
def ppCode (table ohms : Nat) : Nat :=
  let within := fun (a b : Nat) => decide (a ≤ ohms ∧ ohms ≤ b)
  if 4500 < ohms then 0
  else match table with
    | 1 => if within 1100 2460 then 1 else if within 400 936 then 2 else if within 164 308 then 3 else if within 80 140 then 4 else 7
    | 2 => if within 100 200 then 5 else if within 360 600 then 6 else 7
    | 3 => if ohms < 1000 then 5 else 7
    | _ => 7

/-- PP_CODE_CHANGE (R285, R317). -/
def vehPp (o : Output) (ohms : Nat) (s : State) : State :=
  let c := ppCode (s.useFld R.VEH_PINCFGn F.VEH_PINCFGn_PP_TABLE [o.1]) ohms
  let s1 := s.onVeh (fun v => { v with pp := v.pp.set o (c, min 0xFFFF ohms) })
  if s.seqr.suspended then s1.onSo o (fun q => { q with missed := true }) else s1.ppSeen o

/-! ### Modems (R288 to R290) -/

/-- SLAC on a pilot starts over on GP6 (R30): the run that holds the coupler begins again after its CM_SLAC_PARM, on every candidate, since
its sounds are heard by all of them (DEDUCED, log entry 109). -/
def State.restartSlac (s : State) (o : Fin 6) : State :=
  s.onVeh (fun v => { v with slac := v.slac.map (fun r =>
    if bitOf r.candidates o.1 ∧ r.closed = false then
      { r with startTb := none, sounds := 0, sums := Vector.replicate 6 (0, 0), neighbours := [], toggles := none }
    else r) })

/-- R30: the response that no later message of the vehicle has acknowledged goes out again through GP6, as it was sealed. -/
def State.resendUnacked (s : State) (o : Fin 6) : State := if (s.veh.proto[o]).unacked then (s.plcSend o false).2 else s

/-- MODEM_FAILED: GP6 takes the coupler, the addresses and the role of a failed GP0 to GP5 while it is free (R289), sends again what is
unacknowledged, and restarts SLAC (R30); else the pilot's link is lost (R290). -/
def vehModemFailed (m : ModemNo) (us : Nat) (s : State) : State :=
  let x := s.veh.modems[m]
  if x.failed then s
  else
    let s1 := (s.onModem m (fun y => { y with failed := true, coupler := 7, matched := false, inSlac := false })).logEv .modem m.1 7 0 us 0
    let spare := s.veh.modems[6]
    if m.1 < 6 ∧ spare.failed = false ∧ s.veh.serving = 7 then
      let s2 := (s1.onModem 6 (fun y => { y with coupler := x.coupler, matched := x.matched, inSlac := x.inSlac, mac := x.mac,
                                                 nid := x.nid, nmk := x.nmk })).onVeh (fun v =>
        { v with serving := x.coupler, switches := satAdd 16 v.switches 1, lastUs := us % 2 ^ 16 })
      if h : x.coupler < 6 then (if x.inSlac then s2.restartSlac ⟨x.coupler, h⟩ else s2.resendUnacked ⟨x.coupler, h⟩) else s2
    else
      let s2 := if m.1 = 6 then s1.onVeh (fun v => { v with serving := 7 }) else s1
      if h : x.coupler < 6 then (if s.plcOn ⟨x.coupler, h⟩ then s2.commLost ⟨x.coupler, h⟩ else s2) else s2

/-! ### SLAC -/

/-- CM_SLAC_PARM_REQ: a new RUN_ID starts a new session on an output in WAIT_UNPLUG that is ready (R317); the candidates
answer (R291). -/
def slacParm (run : Bytes) (s : State) : State :=
  let known := (s.findRun run).isSome
  let s0 := if known then s else (idx 6).foldl (fun (s : State) (o : Fin 6) =>
    let p := (s.veh.pilots[o]).state
    if (s.so o).state = .waitUnplug ∧ s.plcOn o ∧ s.outputReady o ∧ 1 ≤ p ∧ p ≤ 3 then
      let s1 := match (s.so o).sid with | some i => s.freeSid i | none => s
      (s1.unmatch o).toLock o
    else s) s
  let cand := bitmap 6 s0.slacCandidate
  if cand = 0 then s0
  else
    let s1 := if known then s0 else
      s0.onVeh (fun v => { v with
        slac := v.slac ++ [{ runId := run, candidates := cand, startTb := none, sounds := 0, sums := Vector.replicate 6 (0, 0),
                             cfg := s0.reg R.VEH_SLACCFG [], neighbours := [], closed := false, winner := none, toggles := none }],
        ports := updAll v.ports (fun c p => if bitOf cand c.1 then { p with result := 1, runs := satAdd 8 p.runs 1 } else p) })
    (idx 6).foldl (fun (s : State) (o : Fin 6) =>
      if bitOf cand o.1 then
        let s2 := s.plcRecv o
        let s3 := match s2.modemFor o with | some m => s2.onModem m (fun x => { x with inSlac := true }) | none => s2
        (s3.plcSend o true).2
      else s) s1

/-- CM_START_ATTEN_CHAR.IND (R292). -/
def slacStart (run : Bytes) (s : State) : State :=
  s.onRun run (fun r => if r.startTb.isNone then { r with startTb := some s.clock.tb } else r)

/-- 600 ms in TB ticks. -/
def slacWindow : Nat := 15000000

/-- A sound is added to the sums of the candidates that measured it. -/
def SlacRun.sound (r : SlacRun) (atten : SampleList) : SlacRun :=
  { r with sounds := r.sounds + 1,
           sums := updAll r.sums (fun c x => match atten.getD c.1 none with
             | some a => if bitOf r.candidates c.1 then (x.1 + a.toNat, x.2 + 1) else x
             | none => x) }

/-- SLAC_SOUND: the tenth closes the window (R292). -/
def slacAddSound (run : Bytes) (atten : SampleList) (s : State) : State :=
  match s.findRun run with
  | none => s
  | some r =>
    if r.closed = false ∧ r.startTb.any (fun t => decide (s.clock.tb ≤ t + slacWindow)) then
      let r1 := r.sound atten
      let s1 := s.onRun run (fun _ => r1)
      if 10 ≤ r1.sounds then s1.closeRun r1 else s1
    else s

/-- NEIGHBOUR_ATTEN_CHAR (R292, R293). -/
def slacNeighbour (run : Bytes) (atten : Nat) (s : State) : State :=
  s.onRun run (fun r => { r with neighbours := r.neighbours ++ [atten] })

/-- SLAC_WINDOW_CLOSE: every window that began 600 ms ago (R292). -/
def slacClose (s : State) : State :=
  (s.veh.slac.filter (fun r => !r.closed && r.startTb.any (fun t => decide (t + slacWindow ≤ s.clock.tb)))).foldl State.closeRun s

/-- The validation result that R294 asks for a coupler. -/
def SlacRun.validated (r : SlacRun) (o : Fin 6) : Bool :=
  match r.toggles with
  | some t => decide (1 ≤ t[o]) && (idx 6).all (fun c => c == o || !bitOf r.candidates c.1 || t[c] == 0)
  | none => false

/-- CM_SLAC_MATCH_REQ: confirmed with a fresh NMK (R293, R294). -/
def slacMatch (o : Output) (run : Bytes) (s : State) : State :=
  match s.findRun run with
  | none => s
  | some r =>
    if r.closed ∧ ((r.winner = some o ∧ r.wins o = true) ∨ (r.winner = none ∧ r.validated o = true)) then
      let c := (s.plcRecv o).plcSend o true
      match c.1, c.2.modemFor o with
      | true, some m =>
        let k := c.2.drawBytes 16
        let nid := (List.range 7).map (fun i => BitVec.ofNat 8 (Config.freeOf "NID of a network membership key" [ofLE k.1, i]))
        (((k.2.onModem m (fun x => { x with matched := true, inSlac := false, nmk := k.1, nid := nid })).onVeh (fun v =>
          { v with ports := upd v.ports o (fun p => { p with result := 2 }),
                   slac := v.slac.filter (fun x => x.runId != run) })).onProto o (fun p => { p with stage := 1 })).logEv .vehicle o.1 7 0
            (s.so o).sidNat 0
      | _, _ => c.2
    else s

/-- Candidates that take part in CM_VALIDATE: within MARGIN of the lowest A_c (R294). -/
def SlacRun.within (r : SlacRun) (o : Fin 6) : Bool :=
  bitOf r.candidates o.1 && (r.sums[o]).2 != 0 &&
  r.measured.all (fun d => decide ((r.sums[o]).1 * (r.sums[d]).2 ≤ (r.sums[d]).1 * (r.sums[o]).2 + F.VEH_SLACCFG_MARGIN.get r.cfg * (r.sums[o]).2 * (r.sums[d]).2))

/-- CM_VALIDATE: a pilot's own B-C-B toggles, reported on its coupler (R294). -/
def slacValidate (o : Output) (run : Bytes) (toggles : Nat) (s : State) : State :=
  match s.findRun run with
  | none => s
  | some r =>
    if r.closed ∧ r.winner = none ∧ F.VEH_SLACCFG_VALIDATE.get r.cfg = 1 ∧ r.within o = true then
      let s1 := s.onRun run (fun r => { r with toggles := some ((r.toggles.getD (Vector.replicate 6 0)).set o toggles) })
      ((s1.plcRecv o).plcSend o true).2
    else s

/-- SLAC_FAILED (R295). -/
def slacFail (o : Output) (s : State) : State :=
  if s.plcOn o ∧ s.linkUp o = false then
    let s1 := s.onVeh (fun v => { v with ports := upd v.ports o (fun p => if p.result ≤ 1 then { p with result := 6 } else p) })
    match s1.modemFor o with
    | some m => (s1.onModem m (fun x => { x with inSlac := false })).commLost o
    | none => s1.commLost o
  else s

/-! ### 10BASE-T1S (R296, R297) -/

/-- T1S_DISABLE. -/
def t1sOff (n : DcNo) (s : State) : State :=
  let p := s.veh.pilots[n.1]'(by have := n.2; omega)
  if (s.veh.t1s[n]).enabled ∧ p.state = 0 ∧ p.tb + tbSecond ≤ s.clock.tb then
    s.onVeh (fun v => { v with t1s := upd v.t1s n (fun t => { t with enabled := false, link := false, lost := false }) })
  else s

/-- T1S_LINK_DROP: the session ends (R297). -/
def t1sDrop (n : DcNo) (s : State) : State :=
  if (s.veh.t1s[n]).enabled then
    ((s.onVeh (fun v => { v with t1s := upd v.t1s n (fun t => { t with link := false, lost := true, drops := satAdd 16 t.drops 1 }) })).logEv .network n.1 7 0 0 0).commLost
      ⟨n.1, by have := n.2; omega⟩
  else s

/-! ### Network, TLS and protocol (R298 to R302) -/

/-- A SECC chain can be offered: stored, unexpired, its slot VALID (R301). -/
def State.chainOk (s : State) (k : Fin 6) : Bool :=
  let c := s.fw.stores[k]
  c.certs != [] && (s.slot (Fin.ofNat 256 c.slot)).state == .valid &&
  match s.wallNow with | some w => decide (w < c.expires * 86400000) | none => true

/-- A chain of ISO 15118-20: secp521r1 or Ed448. -/
def State.chain20 (s : State) : Bool := s.chainOk 4 || s.chainOk 5

/-- SDP_REQUEST: the answer is a management frame (R302, R311). -/
def vehSdp (o : Output) (tls : Bool) (s : State) : State :=
  s.vehMsg o (fun s =>
    let c := s.plcSend o true
    if c.1 then
      (c.2.onProto o (fun p => { p with stage := 2 })).onVeh (fun v =>
        { v with resp := v.resp.set o (some { msg := "SDPRes", isolation := 0, failed := false, ongoing := false,
                                              args := [(b2n (tls && (s.chainOk 3 || s.chain20)) : Nat)], body := [] }) })
    else c.2)

/-- A record key of a vehicle's TLS session: its parent is slot 1 (R60). -/
def tlsKey (s : State) (kind : Nat) (key : Bytes) : KeySlot :=
  { KeySlot.reset with state := .valid, kind := kind, engines := 2 ^ engTLSR, parent := 1, hasParent := true,
                       parentGen := (s.slot 1).gen, key := key }

/-- TLS_HANDSHAKE: an offered combination with a valid chain, and a client certificate that verifies or none (R298, R301): one use of the
chain's leaf key (R65, R300), and the record keys go to the output's slots. Under TLS 1.3 the secp521r1 chain serves where both can be offered
(DESIGN CHOICE, log entry 125). -/
def vehTls (o : Output) (h : TlsHello) (s : State) : State :=
  if s.linkUp o ∧ (s.so o).sid.isSome ∧ (s.veh.proto[o]).tls = false then
    let s0 := (s.plcRecv o).onProto o (fun p => { p with stage := 3 })
    let offer := h.suiteOk && (if h.version13 then s.chain20 && (!h.client || h.clientOk) else s.chainOk 3)
    let chain : Fin 6 := if h.version13 then (if s.chainOk 4 then 4 else 5) else 3
    let u := if offer then s0.keyUse (Fin.ofNat 256 (s.fw.stores[chain]).slot) engECDSA 2 else (some 0, s0)
    let s0 := u.2
    if u.1.isNone then
      let n := if h.version13 then 32 else 16
      let kind := if h.version13 then 2 else 1
      let a := s0.drawBytes n
      let b := a.2.drawBytes n
      let s1 := (b.2.fillSlot (recordSlot o false) (tlsKey s kind a.1)).2
      let s2 := (s1.fillSlot (recordSlot o true) (tlsKey s kind b.1)).2
      (s2.onProto o (fun p => { p with tls := true, tls13 := h.version13, clientCert := h.version13 && h.client })).answer o
        "TlsFinished" false false [] []
    else (s0.answer o "TlsAlert" true false [] []).commLost o
  else s

/-- The protocol that supportedAppProtocol settles on: the first of ORDER that the vehicle offers and R298 and R301 allow.
`chain2` says that a secp256r1 chain can be offered; only without one is ISO 15118-2 offered without TLS. -/
def chooseProtocol (chain2 : Bool) (order : Nat) (offers : List Nat) (p : Proto) : Nat :=
  let allowed := fun (c : Nat) => match c with
    | 1 => !p.tls
    | 2 => if p.tls then !p.tls13 else !chain2
    | 3 => p.tls && p.tls13
    | _ => false
  (([bitsOf order 0 4, bitsOf order 4 4, bitsOf order 8 4]).find? (fun c => allowed c && offers.contains c)).getD 0

/-- SUPPORTED_APP_PROTOCOL: ORDER is taken up at each exchange (R302). -/
def vehProtocol (o : Output) (offers : WordList) (s : State) : State :=
  let chain2 := s.chainOk 3
  s.vehMsg o (fun s =>
    let s1 := s.takeUp .s (fun a => a == R.VEH_PROTOCFG.addr [])
    let c := chooseProtocol chain2 (s1.useFld R.VEH_PROTOCFG F.VEH_PROTOCFG_ORDER []) (offers.map BitVec.toNat) (s1.veh.proto[o])
    (s1.onProto o (fun p => { p with protocol := c })).answer o "supportedAppProtocolRes" (c == 0) false [(c : Nat)] [])

/-! ### Messages (R302, R303) -/

/-- SESSION_SETUP: the EVCCID goes to P2, masked to P3 (R305). -/
def vehSetup (o : Output) (evccid : Bytes) (s : State) : State :=
  s.vehMsg o (fun s =>
    ((s.onProto o (fun p => { p with stage := 4 })).notice 2 (s.so o).sidNat o.1 0 0 3 (evccid.take 64)
      (s.sessionPseud o (evccid.take 64))).answer o "SessionSetupRes" false false [] [])

/-- The charging services that an output offers under a protocol: 1 AC, 2 DC, 3 DC_BPT, 4 MCS (R303). -/
def offered (kind protocol service : Nat) : Bool :=
  match service with
  | 1 => kind == 2 && (protocol == 2 || protocol == 3)
  | 2 => kind == 0
  | 3 => kind == 0 && protocol == 3
  | 4 => kind == 1 && protocol == 3
  | _ => false

/-- SERVICE_DISCOVERY: discovery and detail (service 0), or the selection of a charging service. -/
def vehService (o : Output) (service : Nat) (s : State) : State :=
  s.vehMsg o (fun s =>
    if service = 0 then s.answer o "ServiceDiscoveryRes" false false [] []
    else if offered (s.outRec o).kind (s.veh.proto[o]).protocol service then
      (s.onProto o (fun p => { p with service := service })).answer o "ServiceSelectionRes" false false [] []
    else s.answer o "ServiceSelectionRes" true false [] [])

/-- CERTIFICATE_INSTALLATION: relayed to P2, at most 4,096 bytes (R302, R303, R306). -/
def vehCertificate (o : Output) (update : Bool) (exi : Bytes) (s : State) : State :=
  s.vehMsg o (fun s =>
    let p := (s.veh.proto[o]).protocol
    if exi.length ≤ exiMax ∧ (p = 2 ∨ (p = 3 ∧ update = false)) then
      s.relayRequest o (if update then 3 else 2) 0 [] exi
    else s.answer o (if update then "CertificateUpdateRes" else "CertificateInstallationRes") true false [] [])

/-- CHARGE_PARAMETER_DISCOVERY: the vehicle's maximum voltage (V) and power (mW); ScheduleExchange asks P2 for a price
table. The answer comes from the allocator. -/
def vehParameters (o : Output) (vMax : Nat) (pMax : Int) (schedule : Bool) (s : State) : State :=
  s.vehMsg o (fun s =>
    let bpt := (s.veh.proto[o]).service == 3
    let s1 := (s.onProto o (fun p => { p with stage := 6 })).onSo o (fun q =>
      { q with vMax := if vMax = 0 then q.vMax else vMax, pReq := if bpt then pMax else max 0 pMax })
    let s2 := if schedule && s.p2Open && (s.veh.relay[o]).kind == 0 then s1.relayRequest o 5 0 [] [] else s1
    let l := s.demandLimits o
    (s2.answer o "ChargeParameterDiscoveryRes" false false [(s.outRec o).volt, max 0 (min l.1 (min l.2.1 l.2.2))] []).judgeCheck o)

/-- CABLE_CHECK_REQUEST: answered "ongoing" until a verdict stands; one that does not stand is repeated in CHECK (R321). -/
def vehCableCheck (o : Output) (s : State) : State :=
  s.vehMsg o (fun s =>
    let s1 := (s.onProto o (fun p => { p with stage := 7 })).onSo o (fun q => { q with cableReq := true })
    let s2 := match (s.so o).state, (s.so o).verdictV with
      | .precharge, some v =>
        if (s.so o).vMax ≠ 0 ∧ s.verdictStands o v = false then
          ((s1.onSo o (fun q => { q with verdictV := none })).enter o .check).startCheck o (s.testV o)
        else s1
      | _, _ => s1.judgeCheck o
    let c := (s2.so o).state.code
    s2.answer o "CableCheckRes" (!isDc o || decide (12 ≤ c)) (decide (c < 8)) [] [])

/-- PRECHARGE_REQUEST: the vehicle's target in mV (R322). -/
def vehPrecharge (o : Output) (target : Nat) (s : State) : State :=
  s.vehMsg o (fun s =>
    let s1 := (s.onProto o (fun p => { p with stage := 8 })).onSo o (fun q => { q with target := some target })
    let c := (s.so o).state.code
    s1.answer o "PreChargeRes" (!isDc o || decide (12 ≤ c)) (decide (c < 9)) [s.outMv o] [])

/-- POWER_DELIVERY: a start takes a DC output from READY to CHARGING (R317). -/
def vehDelivery (o : Output) (start : Bool) (s : State) : State :=
  s.vehMsg o (fun s =>
    let s1 := s.onProto o (fun p => { p with stage := 9 })
    let s2 := if start && isDc o && (s.so o).state == .ready then s1.enter o .charging else s1
    s2.answer o "PowerDeliveryRes" false false [] [])

/-- Wh of MeterInfo: `NRG_En_0` rounded down (R303). -/
def State.meterWh (s : State) (o : Fin 6) : Nat := ((s.nrg.e[o.1]'(by omega))[0]) / 1000000

/-- CHARGE_LOOP: the vehicle's target current (mA), voltage (mV) and power (mW); MeterInfo in the answer (R303, R329). -/
def vehLoop (o : Output) (target : Int) (volts : Nat) (power : Int) (s : State) : State :=
  s.vehMsg o (fun s =>
    let bpt := (s.veh.proto[o]).service == 3
    let lim := fun (x : Int) => if bpt then x else max 0 x
    let s1 := (s.onProto o (fun p => { p with stage := 9 })).onSo o (fun q =>
      { q with iTarget := lim target, pReq := lim power, target := if isDc o ∧ volts ≠ 0 then some volts else q.target })
    s1.answer o "ChargeLoopRes" false false [(s.meterWh o : Nat), s.outMv o] (leBytes 8 s.life.serial.toNat))

/-- METERING_RECEIPT: answered; the signed content is relayed to P2 (R302). -/
def vehReceipt (o : Output) (signed : Bytes) (s : State) : State :=
  s.vehMsg o (fun s =>
    if signed.length ≤ exiMax ∧ 2 ≤ (s.veh.proto[o]).protocol then
      (s.relayRequest o 4 0 [] signed).answer o "MeteringReceiptRes" false false [] []
    else s.answer o "MeteringReceiptRes" true false [] [])

/-- WELDING_DETECTION. -/
def vehWelding (o : Output) (s : State) : State :=
  s.vehMsg o (fun s => (s.onProto o (fun p => { p with stage := 10 })).answer o "WeldingDetectionRes" (!isDc o) false [s.outMv o] [])

/-- SESSION_STOP: a pause counts as a terminate (R303, R338); the 5 % phase ends (R339). -/
def vehStop (o : Output) (s : State) : State :=
  s.vehMsg o (fun s =>
    let s1 := (s.onProto o (fun p => { p with stage := 11 })).answer o "SessionStopRes" false false [] []
    let s2 := if (s1.so o).fiveUntil.isSome then
        (s1.onSo o (fun q => { q with fiveUntil := none })).drivePilot o .steady
      else s1
    s2.stopOut o 1)

/-- VEHICLE_MESSAGE_TIMEOUT: cause 15 (R341). -/
def vehTimeout (o : Output) (s : State) : State :=
  if s.linkUp o ∧ (s.so o).sid.isSome then s.stopOut o 15 else s

def execPilotStateChange (o : Output) (p : PilotIn) (s : State) : Host.Outcome State Fault Refusal := .next (vehPilot o p s)
def execPpCodeChange (o : Output) (ohms : Nat) (s : State) : Host.Outcome State Fault Refusal := .next (vehPp o ohms s)
def execModemFailed (m : ModemNo) (_why : ModemFault) (us : Nat) (s : State) : Host.Outcome State Fault Refusal := .next (vehModemFailed m us s)
def execCmSlacParmReq (run : Bytes) (s : State) : Host.Outcome State Fault Refusal := .next (slacParm run s)
def execCmStartAttenCharInd (run : Bytes) (s : State) : Host.Outcome State Fault Refusal := .next (slacStart run s)
def execSlacSound (run : Bytes) (atten : SampleList) (s : State) : Host.Outcome State Fault Refusal := .next (slacAddSound run atten s)
def execNeighbourAttenChar (run : Bytes) (atten : Nat) (s : State) : Host.Outcome State Fault Refusal := .next (slacNeighbour run atten s)
def execSlacWindowClose (s : State) : Host.Outcome State Fault Refusal := .next (slacClose s)
def execCmSlacMatchReq (o : Output) (run : Bytes) (s : State) : Host.Outcome State Fault Refusal := .next (slacMatch o run s)
def execCmValidate (o : Output) (run : Bytes) (toggles : Nat) (s : State) : Host.Outcome State Fault Refusal := .next (slacValidate o run toggles s)
def execSlacFailed (o : Output) (s : State) : Host.Outcome State Fault Refusal := .next (slacFail o s)
def execT1sDisable (n : DcNo) (s : State) : Host.Outcome State Fault Refusal := .next (t1sOff n s)
def execT1sLinkDrop (n : DcNo) (s : State) : Host.Outcome State Fault Refusal := .next (t1sDrop n s)
def execSdpRequest (o : Output) (tls : Bool) (s : State) : Host.Outcome State Fault Refusal := .next (vehSdp o tls s)
def execSupportedAppProtocol (o : Output) (offers : WordList) (s : State) : Host.Outcome State Fault Refusal := .next (vehProtocol o offers s)
def execTlsHandshake (o : Output) (h : TlsHello) (s : State) : Host.Outcome State Fault Refusal := .next (vehTls o h s)
def execSessionSetup (o : Output) (evccid : Bytes) (s : State) : Host.Outcome State Fault Refusal := .next (vehSetup o evccid s)
def execServiceDiscovery (o : Output) (service : Nat) (s : State) : Host.Outcome State Fault Refusal := .next (vehService o service s)
def execCertificateInstallation (o : Output) (update : Bool) (exi : Bytes) (s : State) : Host.Outcome State Fault Refusal := .next (vehCertificate o update exi s)
def execChargeParameterDiscovery (o : Output) (vMax : Nat) (pMax : Int) (schedule : Bool) (s : State) : Host.Outcome State Fault Refusal := .next (vehParameters o vMax pMax schedule s)
def execCableCheckRequest (o : Output) (s : State) : Host.Outcome State Fault Refusal := .next (vehCableCheck o s)
def execPrechargeRequest (o : Output) (target : Nat) (s : State) : Host.Outcome State Fault Refusal := .next (vehPrecharge o target s)
def execPowerDelivery (o : Output) (start : Bool) (s : State) : Host.Outcome State Fault Refusal := .next (vehDelivery o start s)
def execChargeLoop (o : Output) (target : Int) (volts : Nat) (power : Int) (s : State) : Host.Outcome State Fault Refusal := .next (vehLoop o target volts power s)
def execMeteringReceipt (o : Output) (signed : Bytes) (s : State) : Host.Outcome State Fault Refusal := .next (vehReceipt o signed s)
def execWeldingDetection (o : Output) (s : State) : Host.Outcome State Fault Refusal := .next (vehWelding o s)
def execSessionStop (o : Output) (_pause : Bool) (s : State) : Host.Outcome State Fault Refusal := .next (vehStop o s)
def execVehicleMessageTimeout (o : Output) (s : State) : Host.Outcome State Fault Refusal := .next (vehTimeout o s)

end Sys2Proof.Machine
end

