-- ==== Sys2Proof/Machine/RegView.lean ====
section
/-!
DEFINITION. What a read of each register shows, block by block. A register that these tables do not list shows its stored
contents (`State.reg`). LH fields show the kept condition or the live one, LL fields the live one unless a loss is kept (R6).
-/

namespace Sys2Proof.Machine

/-- What a register shows: to the session with this ID, at these indices, in this state. -/
abbrev View := Fin 64 → List Nat → State → Nat

/-- The first and the second index. -/
def i0 (ix : List Nat) : Nat := ix.getD 0 0
def i1 (ix : List Nat) : Nat := ix.getD 1 0

/-- A signed quantity as a 64-bit register. -/
def u64 (x : Int) : Nat := unsigned 64 x

/-- Whole units of `n` TB ticks since `t`, limited to `w` bits. -/
def State.since (s : State) (t n w : Nat) : Nat := min (2 ^ w - 1) ((s.clock.tb - t) / n)

/-- Seconds left until TB `t`, rounded up. -/
def State.secondsTo (s : State) (t : Nat) : Nat := (t - s.clock.tb + tbSecond - 1) / tbSecond

/-- An LH field: kept since the last read, or live. -/
def State.lh (s : State) (r : RegSpec) (ix : List Nat) (f : Field) (live : Bool) : Nat := b2n (f.get (s.kept r ix) != 0 || live)

/-- A measured value that no command reports: free at each TB (log entry 2). -/
def State.measured (s : State) (what : String) (ix : List Nat) : Nat := Config.freeOf what (ix.map (fun (n : Nat) => (n : Int)) ++ [(s.clock.tb : Int)])

/-- The power die's temperature as `PWR_TEMP` shows it, and that either die is at 125 °C or above now. -/
def State.powerTemp (s : State) : Nat := s.measured "PWR_TEMP.POWER" [] % 2 ^ 16
def State.dieHot (s : State) : Bool := decide (1250 ≤ s.dieTemp) || decide (1250 ≤ signed 16 s.powerTemp)

/-! ### The service level (R32 to R35) -/

/-- Safety frames of every expected sender arrive on a network: slots have run and none was missing in the latest (R370). While degraded
mode stands for a disagreement, the table of R27 has NET_A or NET_B at 0 and nothing says which copy is wrong: both read 0 (DEDUCED, log
entry 108). -/
def State.netOk (s : State) (netB : Bool) : Bool :=
  let g := s.guard
  g.started && !(g.degraded.isSome && g.degCause == 3) && g.frameA != [] && (if netB then g.missB else g.missA) == 0 && g.missOwn == 0 && s.namedCabs.all (fun k => (g.cabs[k]).missing == 0)

/-- The units of level 4: Fireguard, both networks, guard test, pilots and load-switch supply. -/
def State.level4 (s : State) : Bool := s.guardUnits && s.netOk false && s.netOk true && s.guard.degraded.isNone

/-- The units of level 5: the insulation or residual-current verdict of every output that STRUCTURE declares, and the link hardware and the
cabinet of every DC output. -/
def State.level5 (s : State) : Bool := (idx 6).all (fun o => !(s.has o) || (s.verdictOk o && (!isDc o || (s.modemOk o && s.cabOk o))))

/-- GP6 is free to take over (R290): MODEM has started, which it has from LEVEL 2 on. -/
def State.spareReady (s : State) : Bool :=
  2 ≤ s.pwr.level && (s.fw.comps[(2 : Fin 5)]).running && s.veh.serving == 7 && !(s.veh.modems[6]).failed

/-- Every copy of every channel that the plan duplicates is there (R27, R34, R137). -/
def State.copiesOk (s : State) : Bool := s.grate.vote.toList.all (fun v => v.state ≤ 1)

/-- LEVEL of `SYS_SERVICE`. -/
def State.serviceLevel (s : State) : Nat :=
  if s.pwr.level ≤ 2 then s.pwr.level
  else if !s.metering then 2
  else if !s.level4 then 3
  else if !s.level5 then 4
  else if s.shadowReady && s.spareReady && s.copiesOk then 6 else 5

/-! ### SYS, SES, JOB, KEY -/

/-- The status word of a job slot (R118). -/
def Job.statusWord (b : Job) : Nat :=
  packFields [(F.JOB_STATUSn_STATE, match b.state with | .idle => 0 | .queued => 1 | .running => 2 | .done => 3 | .failed => 4 | .cancelled => 5),
              (F.JOB_STATUSn_ERROR, b.error), (F.JOB_STATUSn_PROGRESS, b.progress), (F.JOB_STATUSn_PARTIALS, b.records.length), (F.JOB_STATUSn_JOB_ID, b.id)]

/-- The status word of a slot. That of an ATTEST that waits for the next lower tree shows the progress of that computation, which the
rules do not state as a number: a free value below 1,000 at each TB (R81). -/
def State.jobWord (s : State) (j : Fin 16) : Nat :=
  let b := s.job j
  if b.code = 0x23 ∧ b.state = .running ∧ s.keys.hss.computing then
    { b with progress := Config.freeOf "HSS tree progress" [s.clock.tb] % 1000 }.statusWord
  else b.statusWord

def viewSys : List (Nat × View) :=
  [(R.SYS_SERVICE.base, fun _ _ s =>
      packFields [(F.SYS_SERVICE_LEVEL, s.serviceLevel), (F.SYS_SERVICE_SHADOW_READY, b2n s.shadowReady), (F.SYS_SERVICE_SPARE_READY, b2n s.spareReady),
                  (F.SYS_SERVICE_NET_A, b2n (s.netOk false)), (F.SYS_SERVICE_NET_B, b2n (s.netOk true)), (F.SYS_SERVICE_PLAN, b2n s.grate.plan.isSome),
                  (F.SYS_SERVICE_TIME_KNOWN, b2n s.clock.wall.isSome), (F.SYS_SERVICE_GUARD_TESTED, b2n s.guard.tested),
                  (F.SYS_SERVICE_PLL_LOCKED, b2n s.pwr.pll), (F.SYS_SERVICE_OUTPUT_READY, bitmap 6 s.outputReady)]),
   (R.SYS_ID.base, fun _ _ s => s.life.serial.toNat),
   (R.SYS_REV.base, fun _ _ _ => R.SYS_REV.rst),
   (R.SYS_STATUS.base, fun _ _ s =>
      s.kept R.SYS_STATUS [] + packFields [(F.SYS_STATUS_RECOVERY, b2n s.pwr.recovery), (F.SYS_STATUS_STRAP, s.pwr.strap), (F.SYS_STATUS_LAST_RESET, s.pwr.last)]),
   (R.SYS_RESET.base, fun _ _ _ => 0)]

def viewSes : List (Nat × View) :=
  [(R.SES_SLUICE_STATn.base, fun _ ix s =>
      let q := s.host.sluices[Fin.ofNat 8 (i0 ix)]
      packFields [(F.SES_SLUICE_STATn_COUNT, q.msgs.length), (F.SES_SLUICE_STATn_HEAD_WORDS, (q.msgs.headD []).length), (F.SES_SLUICE_STATn_OVERFLOWS, q.overflows)]),
   (R.SES_PORTCFGn.base, fun _ ix s => s.portWord (Fin.ofNat 4 (i0 ix))),
   (R.SES_PORTSTATn.base, fun _ ix s =>
      let p : Fin 4 := Fin.ofNat 4 (i0 ix)
      let x := s.host.ports[p]
      packFields [(F.SES_PORTSTATn_LINK, if p.1 = 3 then b2n x.carrier else F.SES_PORTCFGn_ENABLE.get (s.portInUse p)),
                  (F.SES_PORTSTATn_PENDING, b2n (s.portPending p)), (F.SES_PORTSTATn_OPEN, s.openOn p), (F.SES_PORTSTATn_OPENING, s.openingOn p),
                  (F.SES_PORTSTATn_DROPPED, x.dropped), (F.SES_PORTSTATn_TAG_FAILS, x.tagFails)]),
   (R.SES_SELF.base, fun i _ s =>
      match s.anySession i with
      | none => 0
      | some h =>
        packFields [(F.SES_SELF_SID, i.1), (F.SES_SELF_PORT, h.port.1), (F.SES_SELF_POLDER, h.polder), (F.SES_SELF_PASSWORD, b2n h.password),
                    (F.SES_SELF_SEALED, b2n h.sealed), (F.SES_SELF_NEXT_SEQ, h.ext + 1), (F.SES_SELF_IDLE_LEFT, s.secondsTo (h.lastTb + h.idle * tbSecond)),
                    (F.SES_SELF_TOKENS, s.bucketNow h / tbSecond), (F.SES_SELF_KEY_SLOT, (h.keySlot.map (·.1)).getD 0)]),
   (R.SES_USAGE.base, fun _ _ s =>
      packFields [(F.SES_USAGE_HOST, s.sidCount SidUse.isHost), (F.SES_USAGE_VEHICLE, s.sidCount SidUse.isVehicle), (F.SES_USAGE_CARD, s.sidCount SidUse.isCard),
                  (F.SES_USAGE_MESH, s.sidCount SidUse.isMesh)]),
   (R.SES_DARK.base, fun _ _ s => packFields [(F.SES_DARK_COUNT, s.host.darkCount), (F.SES_DARK_LAST_BLOCK, s.host.darkBlock)])]

def viewJob : List (Nat × View) :=
  [(R.JOB_STATUSn.base, fun _ ix s => s.jobWord (Fin.ofNat 16 (i0 ix))),
   (R.JOB_CTRLn.base, fun _ _ _ => 0),
   (R.JOB_INFOn.base, fun _ ix s =>
      let b := s.job (Fin.ofNat 16 (i0 ix))
      packFields [(F.JOB_INFOn_RESULT_WORDS, b.resultWords), (F.JOB_INFOn_CODE, b.code), (F.JOB_INFOn_POLDER, b.polder), (F.JOB_INFOn_CANCELLABLE, b2n b.cancellable)])]

/-- The slot that a session's `KEY_SLOT_SEL` names (R77). -/
def State.selSlot (s : State) (i : Fin 64) : Fin 256 := Fin.ofNat 256 ((s.anySession i).elim 0 (·.keySel))

/-- The calibration slot that a session's `MET_CAL_SEL` names. -/
def State.selCal (s : State) (i : Fin 64) : Fin 64 := Fin.ofNat 64 ((s.anySession i).elim 0 (·.calSel))

/-- The source that a session's `GRT_PROBE_SEL` names. -/
def State.selProbe (s : State) (i : Fin 64) : Nat := (s.anySession i).elim 0x1FF (·.probeSel)

/-- `KEY_LIFECYCLE`. -/
def State.lifeWord (s : State) : Nat :=
  packFields [(F.KEY_LIFECYCLE_STATE, s.life.state.num), (F.KEY_LIFECYCLE_IN_TRANSIT, b2n s.life.inTransit.isSome),
              (F.KEY_LIFECYCLE_ROOT_PRESENT, b2n ((s.slot 0).state == .valid)), (F.KEY_LIFECYCLE_TRANSITIONS, s.life.transitions)]

/-- STATE of `KEY_SLOT_ATTR`. -/
def KeyState.num : KeyState → Nat
  | .empty => 0 | .valid => 1 | .orphan => 2 | .expired => 3 | .spent => 4

def viewKey : List (Nat × View) :=
  [(R.KEY_LIFECYCLE.base, fun _ _ s => s.lifeWord),
   (R.KEY_SLOT_SEL.base, fun i _ s => (s.selSlot i).1),
   (R.KEY_SLOT_ATTR.base, fun i _ s =>
      let k := s.slot (s.selSlot i)
      packFields [(F.KEY_SLOT_ATTR_STATE, k.state.num), (F.KEY_SLOT_ATTR_ENGINES, k.engines), (F.KEY_SLOT_ATTR_GRANT, s.grantOf (s.selSlot i)), (F.KEY_SLOT_ATTR_KIND, k.kind),
                  (F.KEY_SLOT_ATTR_PARENT, k.parent), (F.KEY_SLOT_ATTR_HAS_PARENT, b2n k.hasParent)] + k.legacy % 2 ^ 16 * 2 ^ 32),
   (R.KEY_SLOT_LINEAGE.base, fun i _ s =>
      let k := s.slot (s.selSlot i)
      packFields [(F.KEY_SLOT_LINEAGE_GEN, k.gen), (F.KEY_SLOT_LINEAGE_PARENT_GEN, k.parentGen)]),
   (R.KEY_SLOT_USE.base, fun i _ s => packFields [(F.KEY_SLOT_USE_LIMIT, (s.slot (s.selSlot i)).limit), (F.KEY_SLOT_USE_COUNT, (s.slot (s.selSlot i)).count)]),
   (R.KEY_SLOT_EXPIRY.base, fun i _ s => (s.slot (s.selSlot i)).expiry),
   (R.KEY_REFUSAL.base, fun _ _ s =>
      packFields [(F.KEY_REFUSAL_COUNT, s.keys.refusals), (F.KEY_REFUSAL_LAST_STATUS, s.keys.lastStatus), (F.KEY_REFUSAL_LAST_SLOT, s.keys.lastSlot),
                  (F.KEY_REFUSAL_LAST_ENGINE, s.keys.lastEngine), (F.KEY_REFUSAL_LAST_POLDER, s.keys.lastPolder)]),
   (R.KEY_HSS.base, fun _ _ s =>
      let h := s.keys.hss
      packFields [(F.KEY_HSS_REMAIN, hssTotal - h.boundary), (F.KEY_HSS_LOWER_LEFT, if h.newTree then 0 else 32768 - h.next % 32768),
                  (F.KEY_HSS_NEXT_READY, b2n h.nextReady), (F.KEY_HSS_EXHAUSTED, b2n !h.left)])]

/-! ### GRT, MET, NRG -/

/-- Word `k` of a digest. -/
def digestWord (d : Bytes) (k : Nat) : Nat := ofLE ((d.drop (8 * k)).take 8)

/-- A source as `GRT_PROBE` shows it. -/
def State.probe (s : State) (i : Fin 64) : Sample :=
  match s.grate.plan with
  | some p => srcOf p s.grate s.sens (s.selProbe i)
  | none => crossbar s.grate s.sens (s.selProbe i)

/-- The arithmetic cell that a session probes. -/
def State.probeMa (s : State) (i : Fin 64) : Option (Fin 96) :=
  let id := s.selProbe i
  if 0x0B0 ≤ id ∧ id < 0x110 then some (Fin.ofNat 96 (id - 0x0B0)) else none

/-- An input conditioner of the running plan. -/
def State.icUsed (s : State) (n : Nat) : Bool := s.grate.plan.any (fun p => p.ics.any (fun r => r.index == n))

def viewGrt : List (Nat × View) :=
  [(R.GRT_STATUS.base, fun _ _ s =>
      packFields [(F.GRT_STATUS_RUN, b2n s.grate.plan.isSome), (F.GRT_STATUS_SETTLED, b2n s.grate.settled), (F.GRT_STATUS_LOAD_ERR, s.grate.loadErr)]),
   (R.GRT_FRAME.base, fun _ _ s => packFields [(F.GRT_FRAME_FRAMES, s.grate.frames)]),
   (R.GRT_PLAN_ID.base, fun _ _ s => (s.grate.plan.map (·.planId)).getD 0),
   (R.GRT_PLAN_INFO.base, fun _ _ s =>
      match s.grate.plan with
      | none => 0
      | some p => packFields [(F.GRT_PLAN_INFO_VERSION, p.version), (F.GRT_PLAN_INFO_GRATE_LEVEL, p.level), (F.GRT_PLAN_INFO_SECTIONS, p.sections.length),
                              (F.GRT_PLAN_INFO_SEALED, (p.sections.filter (·.sealed)).length)]),
   (R.GRT_MDIGESTk.base, fun _ ix s => match s.grate.plan with | none => 0 | some p => digestWord p.mdigest (i0 ix)),
   (R.GRT_SHADOW.base, fun _ _ s =>
      let g := s.grate
      packFields [(F.GRT_SHADOW_STATE, s.shadowShown), (F.GRT_SHADOW_SEALED_DIFF, b2n g.sealedDiff), (F.GRT_SHADOW_TRIP_DIFF, b2n g.tripDiff),
                  (F.GRT_SHADOW_LIVE_OK, b2n g.liveOk), (F.GRT_SHADOW_REFUSE, g.refuse),
                  (F.GRT_SHADOW_WAIT_LEFT, if g.shadowState = 3 then s.secondsTo g.waitUntil else 0)]),
   (R.GRT_SHADOW_ID.base, fun _ _ s => (s.grate.shadow.map (·.planId)).getD 0),
   (R.GRT_SWAP.base, fun _ _ _ => 0),
   (R.GRT_USE.base, fun _ _ s =>
      match s.grate.plan with
      | none => 0
      | some p => packFields [(F.GRT_USE_IC, p.ics.length), (F.GRT_USE_FL, p.fls.length), (F.GRT_USE_MA, p.mas.length), (F.GRT_USE_TC, p.tcs.length),
                              (F.GRT_USE_IN, p.ins.length), (F.GRT_USE_SQ, p.sqs.length), (F.GRT_USE_LEVELS, p.levels.length), (F.GRT_USE_GROUPS, p.votes.length)]),
   (R.GRT_TRIP.base, fun _ _ s =>
      let live := bitmap 16 (fun n => s.grate.lines[n])
      packFields [(F.GRT_TRIP_LIVE, live), (F.GRT_TRIP_SEEN, F.GRT_TRIP_SEEN.get (s.kept R.GRT_TRIP []) ||| live),
                  (F.GRT_TRIP_BOUND, (s.grate.plan.map (·.bound)).getD 0)]),
   (R.GRT_IC_VALID.base, fun _ _ s =>
      let lost := s.kept R.GRT_IC_VALID []
      packFields [(F.GRT_IC_VALID_IC, bitmap 48 (fun n => s.icUsed n.1 && (s.grate.ic[n]).valid && !s.blankedNow n.1 && !bitOf lost n.1)),
                  (F.GRT_IC_VALID_FG, bitmap 8 (fun n => (s.sens.fg[n]).valid && !s.blankedNow (0x170 + n.1) && !bitOf lost (48 + n.1)))]),
   (R.GRT_PROBE_SEL.base, fun i _ s => s.selProbe i),
   (R.GRT_PROBE.base, fun i _ s => u64 (s.probe i).v),
   (R.GRT_PROBE_FLAGS.base, fun i _ s =>
      packFields [(F.GRT_PROBE_FLAGS_VALID, b2n (s.probe i).ok),
                  (F.GRT_PROBE_FLAGS_SATURATED, b2n ((s.probeMa i).any (fun m => (s.grate.ma[m]).saturated)))]),
   (R.GRT_VOTEn.base, fun _ ix s =>
      let v := s.grate.vote[Fin.ofNat 32 (i0 ix)]
      packFields [(F.GRT_VOTEn_STATE, v.state), (F.GRT_VOTEn_DISAGREE, s.lh R.GRT_VOTEn ix F.GRT_VOTEn_DISAGREE v.disagreeNow),
                  (F.GRT_VOTEn_PERSISTENT, b2n v.persistent), (F.GRT_VOTEn_MEMBERS_VALID, v.membersValid), (F.GRT_VOTEn_SET_ASIDE, v.setAside),
                  (F.GRT_VOTEn_DISAGREE_FRAMES, min (2 ^ 32 - 1) v.total)])]

/-- A running CAL cell names the slot. -/
def State.calCells (s : State) (c : Fin 64) : List MaRec :=
  match s.grate.plan with | some p => p.mas.filter (fun r => r.op == 0x05 && r.calSlot == c.1) | none => []

/-- The CALDEF temperature bit of a slot (R176). -/
def State.calTemp (s : State) (c : Fin 64) : Bool := s.grate.plan.any (fun p => p.caldefs.any (fun d => d.slot == c.1 && d.temp))

def viewMet : List (Nat × View) :=
  [(R.MET_STATUS.base, fun _ _ s =>
      packFields [(F.MET_STATUS_PENDING, b2n (s.pendingS (inBlock 5))), (F.MET_STATUS_TRACKING, b2n (s.sens.track.toList.any (fun t => t.window.isSome))),
                  (F.MET_STATUS_CAL_WRITTEN, (s.mseal.record.cal.toList.filter (·.written)).length)]),
   (R.MET_MCLK_STAT.base, fun _ _ s =>
      packFields [(F.MET_MCLK_STAT_RUNNING, bitmap 4 (fun n => s.sens.mclkOn[n])),
                  (F.MET_MCLK_STAT_PAD_FAULT, F.MET_MCLK_STAT_PAD_FAULT.get (s.kept R.MET_MCLK_STAT []) ||| bitmap 4 (fun n => s.sens.padFault[n]))]),
   (R.MET_CHSTATn.base, fun _ ix s =>
      let c := s.grate.ic[Fin.ofNat 48 (i0 ix)]
      let k := fun f live => s.lh R.MET_CHSTATn ix f live
      packFields [(F.MET_CHSTATn_VALID, b2n c.valid), (F.MET_CHSTATn_NOTRANS, k F.MET_CHSTATn_NOTRANS c.noTrans),
                  (F.MET_CHSTATn_OVERRANGE, k F.MET_CHSTATn_OVERRANGE c.overrange), (F.MET_CHSTATn_HIGHSIDE, k F.MET_CHSTATn_HIGHSIDE c.highSide),
                  (F.MET_CHSTATn_ONES, c.ones), (F.MET_CHSTATn_LOSSES, min 0xFFFF c.losses), (F.MET_CHSTATn_LONG_LOSSES, min 0xFFFF c.longLosses)]),
   (R.MET_FG_STATn.base, fun _ ix s =>
      let n : Fin 8 := Fin.ofNat 8 (i0 ix)
      let p := s.sens.fg[n]
      let k := fun f live => s.lh R.MET_FG_STATn ix f live
      packFields [(F.MET_FG_STATn_VALID, b2n p.valid), (F.MET_FG_STATn_RUNNING, b2n p.on), (F.MET_FG_STATn_SAT, k F.MET_FG_STATn_SAT p.sat),
                  (F.MET_FG_STATn_OPEN, k F.MET_FG_STATn_OPEN p.open_), (F.MET_FG_STATn_SHORT, k F.MET_FG_STATn_SHORT p.short),
                  (F.MET_FG_STATn_BUDGET, b2n p.budget), (F.MET_FG_STATn_PAIRED, b2n (decide (6 ≤ n.1) && (s.sens.fg[6]).on && (s.sens.fg[7]).on)),
                  (F.MET_FG_STATn_SAMPLE, unsigned 32 p.sample)]),
   (R.MET_CAL_SEL.base, fun i _ s => (s.selCal i).1),
   (R.MET_CAL_SCALE.base, fun i _ s => (s.sens.calInUse[s.selCal i]).scale.toNat),
   (R.MET_CAL_OFFSET.base, fun i _ s => (s.sens.calInUse[s.selCal i]).offset.toNat),
   (R.MET_CAL_TEMP.base, fun i _ s => (s.sens.calInUse[s.selCal i]).temp.toNat),
   (R.MET_CAL_PHASE.base, fun i _ s => (s.sens.calInUse[s.selCal i]).phase.toNat),
   (R.MET_CAL_STATE.base, fun i _ s =>
      let c := s.selCal i
      let cells := s.calCells c
      packFields [(F.MET_CAL_STATE_TRACK, unsigned 32 (s.sens.track[c]).value), (F.MET_CAL_STATE_IN_USE, b2n (cells != [])),
                  (F.MET_CAL_STATE_TEMP_UNWIRED, b2n (s.calTemp c && cells.any (fun r => r.b == 0x1FF))),
                  (F.MET_CAL_STATE_TEMP_STALE, b2n (cells.any (fun r => (s.grate.ma[Fin.ofNat 96 r.index]).stale))),
                  (F.MET_CAL_STATE_LIMIT_HIT, b2n (s.sens.track[c]).limitHit)])]

/-- An energy register of `NRG_En_k`. -/
def State.nrgE (s : State) (n k : Nat) : Nat := (s.nrg.e[Fin.ofNat 7 n])[Fin.ofNat 4 k]

def viewNrg : List (Nat × View) :=
  [(R.NRG_En_k.base, fun _ ix s => s.nrgE (i0 ix) (i1 ix) % 2 ^ 64),
   (R.NRG_SNAPn.base, fun _ ix s => packFields [(F.NRG_SNAPn_IMPORT_WH, s.nrgE (i0 ix) 0 / 1000000), (F.NRG_SNAPn_EXPORT_WH, s.nrgE (i0 ix) 1 / 1000000)]),
   (R.NRG_RSNAPn.base, fun _ ix s => packFields [(F.NRG_RSNAPn_IMPORT_VARH, s.nrgE (i0 ix) 2 / 1000000), (F.NRG_RSNAPn_EXPORT_VARH, s.nrgE (i0 ix) 3 / 1000000)]),
   (R.NRG_SVCn_k.base, fun _ ix s => (s.nrg.svc[Fin.ofNat 7 (i0 ix)])[Fin.ofNat 2 (i1 ix)] % 2 ^ 64),
   (R.NRG_LIVEn_k.base, fun _ ix s =>
      if h : i0 ix < 6 then u64 ((s.nrg.live[i0 ix]'h).value)[Fin.ofNat 16 (i1 ix)]
      else match i1 ix with
        | 2 => u64 s.nrg.siteLive[0]
        | 3 => u64 s.nrg.siteLive[1]
        | _ => 0),
   (R.NRG_STATn.base, fun _ ix s =>
      if h : i0 ix < 6 then
        let l := s.nrg.live[i0 ix]'h
        packFields [(F.NRG_STATn_LIVE_VALID, l.valid),
                    (F.NRG_STATn_PHASESEQ, if (s.outRec ⟨i0 ix, h⟩).kind = 2 ∧ s.has ⟨i0 ix, h⟩ then l.seq else 0),
                    (F.NRG_STATn_PHASE_LOSS, b2n l.phaseLoss), (F.NRG_STATn_NEUTRAL, b2n l.neutral),
                    (F.NRG_STATn_SEEN_REVERSED, s.lh R.NRG_STATn ix F.NRG_STATn_SEEN_REVERSED (l.seq == 2)), (F.NRG_STATn_PUBLISHED, l.published)]
      else packFields [(F.NRG_STATn_LIVE_VALID, s.nrg.siteValid)]),
   (R.NRG_INTm.base, fun _ ix s =>
      let i := s.grate.integ[Fin.ofNat 32 (i0 ix)]
      packFields [(F.NRG_INTm_FRAMES, i.added), (F.NRG_INTm_INVALID, i.invalid)]),
   (R.NRG_PULSE_STATn.base, fun _ ix s =>
      let q := s.nrg.pulses[Fin.ofNat 6 (i0 ix)]
      packFields [(F.NRG_PULSE_STATn_BACKLOG, q.queued), (F.NRG_PULSE_STATn_OVERRUN, s.lh R.NRG_PULSE_STATn ix F.NRG_PULSE_STATn_OVERRUN false),
                  (F.NRG_PULSE_STATn_LOST, min 0x7FFF q.lost), (F.NRG_PULSE_STATn_EMITTED, q.emitted)]),
   (R.NRG_TICK.base, fun _ _ s => s.nrg.tick % 2 ^ 64),
   (R.NRG_PFAIL.base, fun _ _ s =>
      let n := s.nrg
      packFields [(F.NRG_PFAIL_LAST_REASON, n.restoredReason), (F.NRG_PFAIL_JOURNAL, n.journal), (F.NRG_PFAIL_DT_ASSUMED, b2n n.dtAssumed),
                  (F.NRG_PFAIL_SHORT_TICK, b2n n.restoredShort), (F.NRG_PFAIL_WRITE_US, n.writeUs), (F.NRG_PFAIL_SEQ_LOW, n.saveSeq)]),
   (R.NRG_UNBOOKEDn.base, fun _ ix s =>
      let u := s.nrg.unbooked[Fin.ofNat 6 (i0 ix)]
      packFields [(F.NRG_UNBOOKEDn_PEAK_BOUND, min (2 ^ 32 - 1) u.1), (F.NRG_UNBOOKEDn_RATED_BOUND, min (2 ^ 32 - 1) u.2)])]

end Sys2Proof.Machine
end

