-- ==== Sys2Proof/Machine/RegViews.lean ====
section
/-!
DEFINITION. What a read of each register shows, for the blocks BIL to LOG, and the table of all blocks (R6, R83).
-/

namespace Sys2Proof.Machine

/-! ### BIL and SEAL -/

/-- Energy is held on an output (R228). -/
def State.holdsEnergy (s : State) (o : Fin 6) : Bool := heldEnergy s.bil.holds[o] 0 != 0 || heldEnergy s.bil.holds[o] 1 != 0

/-- Energy of an output's booked PENDING ticks in one direction, which `BIL_HELDn_d` shows beside the hold buckets (R222). -/
def Billing.pendingOf (b : Billing) (o : Fin 6) (d : Nat) : Nat :=
  ((b.open_.filter (fun t => (t.outs[o]).attr == .pending)).map (fun t => if d = 0 then (t.outs[o]).imp else (t.outs[o]).exp)).sum

/-- Bill time minus wall time in ms (R246). -/
def State.leadMs (s : State) : Int :=
  match s.billNow, s.wallNow with | some b, some w => (b : Int) - w | _, _ => 0

def viewBil : List (Nat × View) :=
  [(R.BIL_STATUS.base, fun _ _ s =>
      packFields [(F.BIL_STATUS_TIME, match s.bil.mode with | .unknown => 0 | .normal => 1 | .slew => 2 | .hold => 3),
                  (F.BIL_STATUS_PENDING, b2n (s.bil.demcfg != s.reg R.BIL_DEMCFG [])), (F.BIL_STATUS_WIDE, b2n s.bil.wide),
                  (F.BIL_STATUS_UNCOMMITTED, s.bil.open_.length), (F.BIL_STATUS_ATTR_HELD, bitmap 6 s.holdsEnergy)]),
   (R.BIL_CLOCK.base, fun _ _ s => s.bil.lastB.getD 0),
   (R.BIL_LEAD.base, fun _ _ s => unsigned 32 s.leadMs),
   (R.BIL_TIMESET.base, fun _ _ _ => 0),
   (R.BIL_TCMD.base, fun _ _ _ => 0),
   (R.BIL_CMD_STAT.base, fun _ ix s =>
      packFields [(F.BIL_CMD_STAT_QUEUED, (s.bil.queue.filter (fun c => !c.applied)).length),
                  (F.BIL_CMD_STAT_TCMD_LATE, s.lh R.BIL_CMD_STAT ix F.BIL_CMD_STAT_TCMD_LATE false),
                  (F.BIL_CMD_STAT_TIME_LATE, s.lh R.BIL_CMD_STAT ix F.BIL_CMD_STAT_TIME_LATE false),
                  (F.BIL_CMD_STAT_IGNORED, s.lh R.BIL_CMD_STAT ix F.BIL_CMD_STAT_IGNORED false), (F.BIL_CMD_STAT_PHASE_MS, s.bil.phase % demLen s.bil.demcfg)]),
   (R.BIL_DSYNC.base, fun _ _ _ => 0),
   (R.BIL_PROVn.base, fun _ ix s =>
      let o : Fin 6 := Fin.ofNat 6 (i0 ix)
      let n : Fin 7 := ⟨o.1, by omega⟩
      packFields [(F.BIL_PROVn_TARIFF, s.tariffAt n s.nextS), (F.BIL_PROVn_OVERRIDE, b2n (s.bil.cmdAt n s.nextS).isSome),
                  (F.BIL_PROVn_ATTR, (s.bil.attr[o]).attr.code), (F.BIL_PROVn_SID, (s.so o).sidNat),
                  (F.BIL_PROVn_UNCOMMITTED_IMPORT, (s.bil.open_.map (fun t => (t.outs[o]).imp)).sum)]),
   (R.BIL_HELDn_d.base, fun _ ix s => (heldEnergy s.bil.holds[Fin.ofNat 6 (i0 ix)] (Fin.ofNat 2 (i1 ix)) + s.bil.pendingOf (Fin.ofNat 6 (i0 ix)) (i1 ix)) % 2 ^ 64),
   (R.BIL_DEMEn.base, fun _ ix s => s.demEnergy (Fin.ofNat 7 (i0 ix)) % 2 ^ 64),
   (R.BIL_DEMLASTn.base, fun _ ix s => let m := s.bil.last[Fin.ofNat 7 (i0 ix)]; m.word + m.tariff % 8 * 2 ^ 45),
   (R.BIL_TREGn_t_d.base, fun _ ix s => ((s.bil.treg[Fin.ofNat 7 (i0 ix)])[Fin.ofNat 8 (i1 ix)])[Fin.ofNat 2 (ix.getD 2 0)] % 2 ^ 64),
   (R.BIL_MDn_t.base, fun _ ix s => ((s.bil.md[Fin.ofNat 7 (i0 ix)])[Fin.ofNat 9 (i1 ix)]).word),
   (R.BIL_MDTn_t.base, fun _ ix s => ((s.bil.md[Fin.ofNat 7 (i0 ix)])[Fin.ofNat 9 (i1 ix)]).stop),
   (R.BIL_PMDn_t.base, fun _ ix s => ((s.bil.pmd[Fin.ofNat 7 (i0 ix)])[Fin.ofNat 9 (i1 ix)]).word),
   (R.BIL_PMDTn_t.base, fun _ ix s => ((s.bil.pmd[Fin.ofNat 7 (i0 ix)])[Fin.ofNat 9 (i1 ix)]).stop),
   (R.BIL_PERIOD.base, fun _ _ s => packFields [(F.BIL_PERIOD_COUNT, s.bil.period)])]

/-- The level of a tamper pin: inactive where the watched input has never become active; no command tells it otherwise. -/
def State.tamperPin (s : State) (n : Fin 4) : Bool :=
  if s.fld R.SEAL_TAMPCFG F.SEAL_TAMPCFG_EN [] / 2 ^ n.1 % 2 = 1 ∧ (s.mseal.inputs[n]).active = false then bitOf (s.fld R.SEAL_TAMPCFG F.SEAL_TAMPCFG_POL []) n.1
  else s.measured "TAMPER pin level" [n.1] % 2 == 1

/-- A watched tamper input is active now. -/
def State.tamperLive (s : State) (n : Fin 4) : Bool :=
  bitOf (s.fld R.SEAL_TAMPCFG F.SEAL_TAMPCFG_EN []) n.1 && (s.mseal.inputs[n]).active && s.tamperPin n != bitOf (s.fld R.SEAL_TAMPCFG F.SEAL_TAMPCFG_POL []) n.1

/-- An episode of a ledger code runs. -/
def State.episode (s : State) (k : Fin 11) : Bool :=
  if k = T_MAG then s.sens.magEpisode
  else if k = T_COVER then (idx 4).any s.tamperLive
  else if k = T_PHASESEQ then s.nrg.live.toList.any (·.seqEpisode)
  else if k = T_NEUTRAL then s.nrg.live.toList.any (·.neutralEpisode)
  else false

def viewSeal : List (Nat × View) :=
  [(R.SEAL_STATUS.base, fun _ _ s =>
      let r := s.mseal.record
      packFields [(F.SEAL_STATUS_OPEN, b2n r.open_), (F.SEAL_STATUS_CLOSING, b2n s.mseal.closing), (F.SEAL_STATUS_CERT_PARTIAL, b2n r.certPartial),
                  (F.SEAL_STATUS_FLUE_READY, b2n s.flueReady), (F.SEAL_STATUS_BACKUP_GAP, b2n r.backupGap), (F.SEAL_STATUS_KEY_EPOCH, r.epoch)]),
   (R.SEAL_DEADLINE.base, fun _ _ s =>
      let r := s.mseal.record
      packFields [(F.SEAL_DEADLINE_DEADLINE, if r.open_ then r.deadline else 0), (F.SEAL_DEADLINE_REASON, r.reason)]),
   (R.SEAL_CALDIGESTk.base, fun _ ix s => digestWord s.mseal.record.calDigest (i0 ix)),
   (R.SEAL_TAMPCFG.base, fun _ _ s =>
      s.reg R.SEAL_TAMPCFG [] &&& R.SEAL_TAMPCFG.rwMask
      ||| packFields [(F.SEAL_TAMPCFG_LEVEL, bitmap 4 s.tamperPin),
                      (F.SEAL_TAMPCFG_SEEN, F.SEAL_TAMPCFG_SEEN.get (s.kept R.SEAL_TAMPCFG []) ||| bitmap 4 s.tamperLive)]),
   (R.SEAL_FLUE_STAT.base, fun _ _ s => packFields [(F.SEAL_FLUE_STAT_QUEUED, s.mseal.queue.length), (F.SEAL_FLUE_STAT_LOST, s.mseal.lost)]),
   (R.SEAL_FLUE_NEXT.base, fun _ _ s => s.mseal.next % 2 ^ 64),
   (R.SEAL_FLUE_OLDEST.base, fun _ _ s => ((s.mseal.store.head?.map (fun r => r.body.counter)).getD s.mseal.next) % 2 ^ 64),
   (R.SEAL_LEDk_0.base, fun _ ix s =>
      let k : Fin 11 := Fin.ofNat 11 (i0 ix)
      let e := s.mseal.ledger[k]
      packFields [(F.SEAL_LEDk_0_COUNT, satAdd 32 e.count e.dCount), (F.SEAL_LEDk_0_FIRST_MERGED, b2n e.firstMerged),
                  (F.SEAL_LEDk_0_LAST_MERGED, b2n e.lastMerged), (F.SEAL_LEDk_0_ACTIVE, b2n (s.episode k))]),
   (R.SEAL_LEDk_w.base, fun _ ix s =>
      let e := s.mseal.ledger[Fin.ofNat 11 (i0 ix)]
      let delta := e.dCount != 0
      match i1 ix with
      | 0 => e.firstTb
      | 1 => e.firstWall
      | 2 => e.lastTb
      | 3 => if delta then e.dLastWall else e.lastWall
      | _ => (if delta then e.dLastArg else e.lastArg) % 2 ^ 32 + e.dCount * 2 ^ 32)]

/-! ### VEH and SEQ -/

/-- A pilot state that PP_MISMATCH looks at (R286): B, C or D with PP absent or invalid. -/
def State.ppMismatch (s : State) (o : Fin 6) : Bool :=
  let p := (s.veh.pilots[o]).state
  let c := (s.veh.pp[o]).1
  (p == 1 || p == 2 || p == 3) && (c == 0 || c == 7)

/-- The value of `VEH_PINCFGn.PLC`: fixed on DC outputs (R287). -/
def State.pinCfg (s : State) (o : Fin 6) : Nat :=
  let v := s.reg R.VEH_PINCFGn [o.1]
  if isDc o then F.VEH_PINCFGn_PLC.set v (b2n !s.isMcs o) else v

/-- The modem of a pilot runs (R287). -/
def State.modemRuns (s : State) (m : Fin 7) : Bool :=
  if h : m.1 < 6 then s.plcOn ⟨m.1, h⟩ && !(s.veh.modems[m]).failed else s.veh.serving != 7 && !(s.veh.modems[m]).failed

def viewVeh : List (Nat × View) :=
  [(R.VEH_PILOTn.base, fun _ ix s =>
      let o : Fin 6 := Fin.ofNat 6 (i0 ix)
      let p := s.veh.pilots[o]
      packFields [(F.VEH_PILOTn_STATE, p.state), (F.VEH_PILOTn_PWM, match p.line s.clock.tb with | .pwm _ => 1 | _ => 0),
                  (F.VEH_PILOTn_DIODE, s.lh R.VEH_PILOTn ix F.VEH_PILOTn_DIODE p.diode), (F.VEH_PILOTn_PP_MISMATCH, b2n (s.ppMismatch o)),
                  (F.VEH_PILOTn_PENDING, b2n (s.pendingS (fun a => a == R.VEH_PINCFGn.addr [o.1]))),
                  (F.VEH_PILOTn_DUTY, match p.line s.clock.tb with | .steady => 1000 | .pwm d => d | .minus12 => 0),
                  (F.VEH_PILOTn_HIGH_MV, unsigned 16 p.high), (F.VEH_PILOTn_LOW_MV, unsigned 16 p.low)]),
   (R.VEH_PPn.base, fun _ ix s =>
      let p := s.veh.pp[Fin.ofNat 6 (i0 ix)]
      packFields [(F.VEH_PPn_CODE, p.1), (F.VEH_PPn_CABLE_A, if 1 ≤ p.1 ∧ p.1 ≤ 4 then ppAmps p.1 0 else 0), (F.VEH_PPn_OHMS, min 0xFFFF p.2)]),
   (R.VEH_PINCFGn.base, fun _ ix s => s.pinCfg (Fin.ofNat 6 (i0 ix))),
   (R.VEH_MODEMm.base, fun _ ix s =>
      let k : Fin 7 := Fin.ofNat 7 (i0 ix)
      let m := s.veh.modems[k]
      packFields [(F.VEH_MODEMm_COUPLER, if k.1 = 6 then s.veh.serving else m.coupler),
                  (F.VEH_MODEMm_STATE, if !s.modemRuns k then 0 else if m.matched then 3 else if m.inSlac then 2 else 1),
                  (F.VEH_MODEMm_FAILED, b2n m.failed), (F.VEH_MODEMm_TX_DROPPED, min 0xFFFF m.txDropped), (F.VEH_MODEMm_TX_FRAMES, m.txFrames),
                  (F.VEH_MODEMm_RX_FRAMES, m.rxFrames)]),
   (R.VEH_SLACn.base, fun _ ix s =>
      let p := s.veh.ports[Fin.ofNat 6 (i0 ix)]
      packFields [(F.VEH_SLACn_RESULT, p.result), (F.VEH_SLACn_OWN_ATTEN, min 0xFF p.own), (F.VEH_SLACn_NEXT_ATTEN, min 0xFF p.next),
                  (F.VEH_SLACn_RUNS, min 0xFF p.runs), (F.VEH_SLACn_AMBIGUOUS, min 0xFF p.ambiguous)]),
   (R.VEH_SPARE.base, fun _ _ s =>
      packFields [(F.VEH_SPARE_SERVING, s.veh.serving), (F.VEH_SPARE_SWITCHES, min 0xFFFF s.veh.switches), (F.VEH_SPARE_LAST_US, min 0xFFFF s.veh.lastUs)]),
   (R.VEH_T1Sk.base, fun _ ix s =>
      let k : Fin 4 := Fin.ofNat 4 (i0 ix)
      let t := s.veh.t1s[k]
      packFields [(F.VEH_T1Sk_ENABLED, b2n t.enabled), (F.VEH_T1Sk_LINK, b2n t.link),
                  (F.VEH_T1Sk_PLCA, b2n (t.enabled && s.useFld R.VEH_PINCFGn F.VEH_PINCFGn_PLCA [k.1] == 1)),
                  (F.VEH_T1Sk_LINK_DROPS, min 0xFFFF t.drops), (F.VEH_T1Sk_RX_ERRORS, min (2 ^ 32 - 1) t.errors)]),
   (R.VEH_PROTOn.base, fun _ ix s =>
      let o : Fin 6 := Fin.ofNat 6 (i0 ix)
      let p := s.veh.proto[o]
      packFields [(F.VEH_PROTOn_PROTOCOL, p.protocol), (F.VEH_PROTOn_TLS, b2n p.tls), (F.VEH_PROTOn_CLIENT_CERT, b2n p.clientCert),
                  (F.VEH_PROTOn_PAYMENT, p.payment), (F.VEH_PROTOn_SID, (s.so o).sidNat), (F.VEH_PROTOn_STAGE, p.stage), (F.VEH_PROTOn_SERVICE, p.service)]),
   (R.VEH_DECIDEn.base, fun _ _ _ => 0),
   (R.VEH_RELAYn.base, fun _ ix s =>
      let r := s.veh.relay[Fin.ofNat 6 (i0 ix)]
      packFields [(F.VEH_RELAYn_KIND, r.kind), (F.VEH_RELAYn_STALE, s.lh R.VEH_RELAYn ix F.VEH_RELAYn_STALE false), (F.VEH_RELAYn_REQ_SEQ, r.seq),
                  (F.VEH_RELAYn_REQ_LEN, r.len)]),
   (R.VEH_LIST_STAT.base, fun _ _ s =>
      packFields [(F.VEH_LIST_STAT_ENTRIES, s.veh.list.length), (F.VEH_LIST_STAT_VERSION, s.fld R.VEH_LIST_STAT F.VEH_LIST_STAT_VERSION [])]),
   (R.VEH_LISTWk.base, fun _ _ _ => 0)]

def viewSeq : List (Nat × View) :=
  [(R.SEQ_STATEn.base, fun _ ix s =>
      let o : Fin 6 := Fin.ofNat 6 (i0 ix)
      let q := s.so o
      packFields [(F.SEQ_STATEn_STATE, q.state.code), (F.SEQ_STATEn_SPECULATIVE, b2n q.state.speculative),
                  (F.SEQ_STATEn_DEGRADED, b2n (q.sid.isSome && s.guard.degraded.isSome)),
                  (F.SEQ_STATEn_PENDING, b2n (s.pendingS (fun a => a == R.SEQ_CFGn.addr [o.1]))), (F.SEQ_STATEn_SID, q.sidNat), (F.SEQ_STATEn_AUTH, q.auth),
                  (F.SEQ_STATEn_CAUSE, q.cause), (F.SEQ_STATEn_IN_STATE_MS, s.since q.enterTb 25000 32)]),
   (R.SEQ_ALLOCn.base, fun _ ix s => u64 (s.so (Fin.ofNat 6 (i0 ix))).alloc),
   (R.SEQ_REQn.base, fun _ ix s => u64 (s.so (Fin.ofNat 6 (i0 ix))).demand),
   (R.SEQ_ICAPn.base, fun _ ix s => u64 (s.icap (Fin.ofNat 6 (i0 ix)))),
   (R.SEQ_TEMPn.base, fun _ ix s =>
      let o : Fin 6 := Fin.ofNat 6 (i0 ix)
      if s.fld R.SEQ_THERMCFGn F.SEQ_THERMCFGn_SOURCE [o.1] = 0x1FF then 0
      else match s.grate.plan with
        | some p => u64 ((srcOf p s.grate s.sens (s.fld R.SEQ_THERMCFGn F.SEQ_THERMCFGn_SOURCE [o.1])).v * 1000 / 65536)
        | none => 0),
   (R.SEQ_LIMITn.base, fun _ ix s =>
      let o : Fin 6 := Fin.ofNat 6 (i0 ix)
      packFields [(F.SEQ_LIMITn_LIMITER, (s.so o).limiter), (F.SEQ_LIMITn_PRIORITY, s.fld R.SEQ_CFGn F.SEQ_CFGn_PRIORITY [o.1]),
                  (F.SEQ_LIMITn_PUMP_ON, b2n (s.pumpRuns o)), (F.SEQ_LIMITn_ZERO_CAP_S, ((s.so o).zeroCapTb.map (fun t => s.since t tbSecond 16)).getD 0)]),
   (R.SEQ_GUARD_POWER.base, fun _ _ s => u64 s.seqr.guardPower),
   (R.SEQ_BUDGET.base, fun _ _ s => u64 s.seqr.budget),
   (R.SEQ_MESH_SHARE.base, fun _ _ s => u64 s.seqr.share),
   (R.SEQ_SITE_STAT.base, fun _ _ s =>
      packFields [(F.SEQ_SITE_STAT_SOURCE, s.seqr.source), (F.SEQ_SITE_STAT_GUARD_BLIND, b2n s.seqr.guardBlind),
                  (F.SEQ_SITE_STAT_MESH_FALLBACK, b2n s.seqr.fallback), (F.SEQ_SITE_STAT_DEGRADED, b2n s.guard.degraded.isSome),
                  (F.SEQ_SITE_STAT_NODES, s.nodesHeard),
                  (F.SEQ_SITE_STAT_DEG_LEFT, (s.guard.degraded.map (fun t => s.secondsTo (t + 5400 * tbSecond))).getD 0)]),
   (R.SEQ_CMD.base, fun _ _ _ => 0),
   (R.SEQ_CABk.base, fun _ ix s =>
      let c := s.seqr.cabs[Fin.ofNat 8 (i0 ix)]
      packFields [(F.SEQ_CABk_STATE, if c.lost then 7 else c.state), (F.SEQ_CABk_ON_A, b2n (onWithin c.aTb s.clock.tb)), (F.SEQ_CABk_ON_B, b2n (onWithin c.bTb s.clock.tb)),
                  (F.SEQ_CABk_DISAGREE, min 0xFFFF c.disagree), (F.SEQ_CABk_TEMP, unsigned 16 c.temp), (F.SEQ_CABk_LOSSES, min 0xFFFF c.losses)]),
   (R.SEQ_CABPk.base, fun _ ix s => (s.seqr.cabs[Fin.ofNat 8 (i0 ix)]).pAvail * 1000)]

/-! ### FG and LSW -/

def viewFg : List (Nat × View) :=
  [(R.FG_STATUS.base, fun _ _ s =>
      let g := s.guard
      packFields [(F.FG_STATUS_STATE, g.stateCode), (F.FG_STATUS_DEGRADED, b2n g.degraded.isSome), (F.FG_STATUS_LANE_OK, b2n g.laneOk),
                  (F.FG_STATUS_CLOCK_OK, b2n g.clockOk), (F.FG_STATUS_FAULT_N, b2n s.faultN), (F.FG_STATUS_RESETS, min 0xFFFF g.resets),
                  (F.FG_STATUS_LAST_RESET, g.lastReset)]),
   (R.FG_NET.base, fun _ ix s =>
      let g := s.guard
      packFields [(F.FG_NET_A_OK, b2n (s.netOk false)), (F.FG_NET_B_OK, b2n (s.netOk true)), (F.FG_NET_DEG_CAUSE, g.degCause),
                  (F.FG_NET_SEEN_DISAGREE, s.lh R.FG_NET ix F.FG_NET_SEEN_DISAGREE false), (F.FG_NET_WINDOW_US, 20), (F.FG_NET_DISAGREE, min 0xFFFF g.disagree),
                  (F.FG_NET_DEG_ENTRIES, min 0xFFFF g.degEntries), (F.FG_NET_GOOD_S, (g.goodTb.map (fun t => s.since t tbSecond 16)).getD 0)]),
   (R.FG_GUARD.base, fun _ _ s =>
      let g := s.guard
      packFields [(F.FG_GUARD_TESTED, b2n g.tested), (F.FG_GUARD_OPEN, b2n s.doorOpen), (F.FG_GUARD_FAULT, b2n g.fault), (F.FG_GUARD_DEMAND, g.demand),
                  (F.FG_GUARD_SEEN_OPEN, b2n (g.seenOpen || (!g.tested && s.openLong))), (F.FG_GUARD_LEVELS, b2n g.levelA + 2 * b2n g.levelB), (F.FG_GUARD_DEMANDS, min (2 ^ 32 - 1) g.demands)]),
   (R.FG_SAFEOFF.base, fun _ _ s =>
      let g := s.guard
      packFields [(F.FG_SAFEOFF_TRIGGER, g.soTrigger), (F.FG_SAFEOFF_OUTPUTS, g.soOutputs), (F.FG_SAFEOFF_FORCED, g.soForced),
                  (F.FG_SAFEOFF_DURATION_US, min 0xFFFF g.soUs), (F.FG_SAFEOFF_COUNT, min (2 ^ 32 - 1) g.soCount)]),
   (R.FG_OUTn.base, fun _ ix s =>
      let o : Fin 6 := Fin.ofNat 6 (i0 ix)
      let g := s.go o
      packFields [(F.FG_OUTn_HV_EN, b2n g.hv), (F.FG_OUTn_GATE, b2n g.gate), (F.FG_OUTn_REQUEST, b2n g.request), (F.FG_OUTn_LATCHED, b2n g.latch.isSome),
                  (F.FG_OUTn_REASON, g.reason), (F.FG_OUTn_MIRROR_OPEN, b2n (s.mirrors o != [] && s.mirrorsOpen o)), (F.FG_OUTn_WELDED, b2n g.welded),
                  (F.FG_OUTn_LINES, bitmap 16 (fun n => (s.linesOf o).any (fun l => l.1 == n.1))), (F.FG_OUTn_DROPS, min 0xFFFF g.drops)]),
   (R.FG_ISOn.base, fun _ ix s =>
      let n : Fin 4 := Fin.ofNat 4 (i0 ix)
      let x := s.guard.iso[n]
      packFields [(F.FG_ISOn_R_ISO, min (2 ^ 32 - 1) x.rIso), (F.FG_ISOn_LEVEL, x.level), (F.FG_ISOn_RUNNING, b2n (s.isoRuns n)),
                  (F.FG_ISOn_INVALID, s.lh R.FG_ISOn ix F.FG_ISOn_INVALID false), (F.FG_ISOn_CHECK, x.check), (F.FG_ISOn_CHECK_V, x.checkV)]),
   (R.FG_RCDk.base, fun _ ix s =>
      let k : Fin 2 := Fin.ofNat 2 (i0 ix)
      let x := s.guard.rcd[k]
      packFields [(F.FG_RCDk_DC, unsigned 16 (clampSigned 16 x.dc)), (F.FG_RCDk_AC_RMS, min 0xFFFF x.ac), (F.FG_RCDk_TRIPPED, b2n ((s.go (acOut k)).latch == some 4)),
                  (F.FG_RCDk_TEST_OK, b2n x.testOk), (F.FG_RCDk_INVALID, s.lh R.FG_RCDk ix F.FG_RCDk_INVALID (x.bad != 0)), (F.FG_RCDk_RULE, x.rule),
                  (F.FG_RCDk_TEST_AGE, (x.passTb.map (fun t => s.since t (60 * tbSecond) 16)).getD 0)])]

/-- `LSW_CFGn` as it reads: HOLD reads 1 in modes 3, 4, 6 and 7. -/
def State.lswCfg (s : State) (n : Nat) : Nat :=
  let v := s.reg R.LSW_CFGn [n]
  let m := s.lsMode n
  if m = 3 ∨ m = 4 ∨ m = 6 ∨ m = 7 then F.LSW_CFGn_HOLD.set v 1 else v

def viewLsw : List (Nat × View) :=
  [(R.LSW_STATUS.base, fun _ ix s =>
      packFields [(F.LSW_STATUS_VAUX_MV, s.measured "VAUX_MV" []), (F.LSW_STATUS_UV, b2n s.lsw.uv), (F.LSW_STATUS_UV_SEEN, s.lh R.LSW_STATUS ix F.LSW_STATUS_UV_SEEN s.lsw.uv),
                  (F.LSW_STATUS_TOTAL, s.measured "LSW TOTAL" [])]),
   (R.LSW_CLEAR.base, fun _ _ _ => 0),
   (R.LSW_PGk.base, fun _ ix s => F.LSW_PGk_OWNED.set (s.reg R.LSW_PGk ix) (b2n (s.pgOwned (i0 ix)))),
   (R.LSW_CFGn.base, fun _ ix s => s.lswCfg (i0 ix)),
   (R.LSW_STATn.base, fun _ ix s =>
      let n : Fin 24 := Fin.ofNat 24 (i0 ix)
      let c := s.lsw.chans[n]
      let k := fun f live => s.lh R.LSW_STATn ix f live
      packFields [(F.LSW_STATn_STATE, c.state), (F.LSW_STATn_PENDING, b2n (s.pendingS (fun a => a == R.LSW_CFGn.addr [n.1]))),
                  (F.LSW_STATn_OC_SEEN, k F.LSW_STATn_OC_SEEN false), (F.LSW_STATn_OPEN, k F.LSW_STATn_OPEN c.openNow), (F.LSW_STATn_LOAD_OFF, b2n c.loadOff),
                  (F.LSW_STATn_NEG, k F.LSW_STATn_NEG false), (F.LSW_STATn_HOT, b2n (s.chanHot n)), (F.LSW_STATn_CLEAR_REFUSED, k F.LSW_STATn_CLEAR_REFUSED false),
                  (F.LSW_STATn_LOCK, c.lock), (F.LSW_STATn_RETRY_LEFT, c.retryLeft), (F.LSW_STATn_CURRENT, s.measured "LSW CURRENT" [n.1]),
                  (F.LSW_STATn_TRIPS, min 0xFFFF c.trips)])]

/-! ### NFC, MSH and PWR -/

/-- The reader's field is on (R404, R405); in LPCD it is on only within a ping. -/
def State.nfcField (s : State) : Bool :=
  !s.rdr.held && match s.rdr.state with
  | .start | .poll | .hold | .recovery => true
  | .test => s.fld R.NFC_TEST F.NFC_TEST_MODE [] != 0
  | _ => false

def viewNfc : List (Nat × View) :=
  [(R.NFC_STATUS.base, fun _ ix s =>
      let r := s.rdr
      packFields [(F.NFC_STATUS_STATE, r.state.code), (F.NFC_STATUS_FIELD, b2n s.nfcField), (F.NFC_STATUS_HELD, s.heldCards), (F.NFC_STATUS_EXTRA, min 0xFF r.extra),
                  (F.NFC_STATUS_DETECTS, r.detects), (F.NFC_STATUS_FALSE_DETECTS, min 0xFFFF r.falseDetects), (F.NFC_STATUS_CONSEC_FALSE, min 0xFF r.consecFalse),
                  (F.NFC_STATUS_RF_FAULT, s.lh R.NFC_STATUS ix F.NFC_STATUS_RF_FAULT false)]),
   (R.NFC_LPCD.base, fun _ _ s =>
      let r := s.rdr
      packFields [(F.NFC_LPCD_BASE_AMP, unsigned 16 (r.baseAmp / 65536)), (F.NFC_LPCD_BASE_PH, unsigned 16 (r.basePh / 65536)),
                  (F.NFC_LPCD_LAST_AMP, unsigned 16 r.lastAmp), (F.NFC_LPCD_LAST_PH, unsigned 16 r.lastPh)]),
   (R.NFC_TEST.base, fun _ _ s =>
      packFields [(F.NFC_TEST_MODE, s.fld R.NFC_TEST F.NFC_TEST_MODE []), (F.NFC_TEST_LEFT_S, if s.rdr.state = .test then s.secondsTo (s.rdr.stateTb + 600 * tbSecond) else 0)]),
   (R.NFC_CARDINFOk.base, fun _ ix s =>
      match s.rdr.cards[Fin.ofNat 4 (i0 ix)] with
      | none => 0
      | some c =>
        packFields [(F.NFC_CARDINFOk_PRESENT, 1), (F.NFC_CARDINFOk_PARKED, b2n c.parked), (F.NFC_CARDINFOk_TECH, b2n c.typeB),
                    (F.NFC_CARDINFOk_ISODEP, b2n (c.typeB || bitOf c.sak 5)), (F.NFC_CARDINFOk_RANDOM, b2n (c.uid.length == 4 && c.uid.headD 0 == 0x08#8)),
                    (F.NFC_CARDINFOk_UID_LEN, c.uid.length), (F.NFC_CARDINFOk_SID, c.sid.1), (F.NFC_CARDINFOk_SAK, if c.typeB then 0 else c.sak),
                    (F.NFC_CARDINFOk_ATQA, if c.typeB then 0 else c.atqa), (F.NFC_CARDINFOk_AGE_S, s.since c.tb tbSecond 16)]),
   (R.NFC_CARDUIDk_w.base, fun _ ix s =>
      match s.rdr.cards[Fin.ofNat 4 (i0 ix)] with
      | none => 0
      | some c => digestWord c.uid (i1 ix)),
   (R.NFC_CARDPk.base, fun _ ix s => ((s.rdr.cards[Fin.ofNat 4 (i0 ix)]).map (·.pseudonym)).getD 0),
   (R.NFC_BIND.base, fun _ _ _ => 0),
   (R.NFC_XCHG.base, fun _ _ s =>
      s.reg R.NFC_XCHG [] &&& R.NFC_XCHG.rwMask ||| packFields [(F.NFC_XCHG_STATE, s.rdr.xState), (F.NFC_XCHG_ERROR, s.rdr.xErr), (F.NFC_XCHG_RLEN, s.rdr.xLen)]),
   (R.NFC_TAGSTAT.base, fun _ _ s =>
      let t := s.tag
      packFields [(F.NFC_TAGSTAT_FIELD, t.field), (F.NFC_TAGSTAT_LOCKED, b2n (decide (10 ≤ t.fails))), (F.NFC_TAGSTAT_FAILS, t.fails),
                  (F.NFC_TAGSTAT_WIRE_BUSY, min 0xFFFF t.wireBusy), (F.NFC_TAGSTAT_RECOVERED, min 0xFFFF t.recovered), (F.NFC_TAGSTAT_WTX, min 0xFFFF t.wtx)]),
   (R.NFC_TAGCFG.base, fun _ _ s =>
      packFields [(F.NFC_TAGCFG_FDET_EN, b2n s.tag.fdetEn), (F.NFC_TAGCFG_PWD_EN, b2n s.tag.pwdEn), (F.NFC_TAGCFG_KEY_PRESENT, b2n s.tag.key.isSome),
                  (F.NFC_TAGCFG_STATUS_OFF, s.tag.statusOff)]),
   (R.NFC_TAGPWD.base, fun _ _ _ => 0),
   (R.NFC_TAGUID.base, fun _ _ _ => ofLE tagUid % 2 ^ 56)]

/-- STATE of `MSH_STATUS` (R447): acquiring while a tracker is not locked, held while another condition of R447 stops sending. -/
def State.meshState (s : State) : Nat :=
  if !s.meshOn then 0
  else if !(s.mesh.phases.toList.all (·.locked)) then 1
  else if s.meshTalks && s.pwr.pll then 2
  else 3

/-- `MSH_NODEn` of another node. -/
def State.nodeWord (s : State) (n : Fin 64) : Nat :=
  let m := s.mesh.nodes[n]
  let near := decide (m.link ≠ 0 ∧ s.clock.tb ≤ m.linkTb + 120 * tbSecond)
  let fresh := m.paths.filter (fun p => decide (s.clock.tb ≤ p.2.2 + 60 * tbSecond))
  let best := fresh.foldl (fun (a : Option (Nat × Nat × Nat)) p => match a with | some b => if p.1 < b.1 then some p else some b | none => some p) none
  let c := claimKw m.payload
  if m.sid.isNone then 0
  else packFields [(F.MSH_NODEn_TRACKED, 1), (F.MSH_NODEn_NEIGHBOUR, b2n near), (F.MSH_NODEn_SHARING, b2n m.sharing), (F.MSH_NODEn_HOPS, (best.map (·.2.1)).getD 0),
                   (F.MSH_NODEn_PRIO, c.2.2), (F.MSH_NODEn_LINK, if near then m.link else 0), (F.MSH_NODEn_PATH, (best.map (fun b => min 255 b.1)).getD 0),
                   (F.MSH_NODEn_DEMAND, c.1), (F.MSH_NODEn_LIMIT, c.2.1), (F.MSH_NODEn_AGE_S, s.since m.tb tbSecond 14)]

def viewMsh : List (Nat × View) :=
  [(R.MSH_STATUS.base, fun _ _ s =>
      let m := s.mesh
      packFields [(F.MSH_STATUS_STATE, s.meshState), (F.MSH_STATUS_LOCK, bitmap 3 (fun p => (m.phases[p]).locked)), (F.MSH_STATUS_CLASH, b2n m.clash),
                  (F.MSH_STATUS_FREQ60, b2n (decide ((m.phases[0]).spacing ≠ 0 ∧ (m.phases[0]).spacing < 9090))), (F.MSH_STATUS_TX_COST, m.cost),
                  (F.MSH_STATUS_TRACKED, (m.nodes.toList.filter (·.sid.isSome)).length), (F.MSH_STATUS_UNTRACKED, m.untracked)]),
   (R.MSH_COUNT.base, fun _ _ s =>
      packFields [(F.MSH_COUNT_TX_OK, s.mesh.txOk), (F.MSH_COUNT_TX_RETRIES, min 0xFFFF s.mesh.txRetries), (F.MSH_COUNT_TX_DROPPED, min 0xFFFF s.mesh.txDropped),
                  (F.MSH_COUNT_RX_BAD, min 0xFFFF s.mesh.rxBad)]),
   (R.MSH_ZC.base, fun _ _ s =>
      let p := s.mesh.phases
      packFields [(F.MSH_ZC_JUMPS, (p[0]).jumps + (p[1]).jumps * 2 ^ 16 + (p[2]).jumps * 2 ^ 32), (F.MSH_ZC_PERIOD_US, 2 * (p[0]).spacing)]),
   (R.MSH_TIME.base, fun _ _ s => packFields [(F.MSH_TIME_WALL_S, s.mesh.timeS), (F.MSH_TIME_ORIG, s.mesh.timeOrig)]),
   (R.MSH_TIME_TB.base, fun _ _ s => s.mesh.timeTb % 2 ^ 64),
   (R.MSH_NODEn.base, fun _ ix s =>
      let n : Fin 64 := Fin.ofNat 64 (i0 ix)
      if n.1 = 0 then 0
      else if n.1 = s.nodeId then
        let c := claimKw s.ownClaim
        packFields [(F.MSH_NODEn_SHARING, b2n (s.fld R.SEQ_GUARD_CFG F.SEQ_GUARD_CFG_SHARE [] == 1)), (F.MSH_NODEn_PRIO, c.2.2), (F.MSH_NODEn_DEMAND, c.1),
                    (F.MSH_NODEn_LIMIT, c.2.1)]
      else s.nodeWord n)]

def viewPwr : List (Nat × View) :=
  [(R.PWR_STATE.base, fun _ _ s =>
      let p := s.pwr
      packFields [(F.PWR_STATE_PENDING_WAKE, b2n p.pendingWake), (F.PWR_STATE_LAST_WAKE, p.lastWake), (F.PWR_STATE_RETAINED, p.retained), (F.PWR_STATE_LOST, p.lost),
                  (F.PWR_STATE_SLEEP_S, min (2 ^ 32 - 1) p.sleepS)]),
   (R.PWR_SUPPLY.base, fun _ _ s =>
      packFields [(F.PWR_SUPPLY_VIN_MV, s.measured "VIN_MV" []), (F.PWR_SUPPLY_VPP12_MV, s.measured "VPP12_MV" []), (F.PWR_SUPPLY_VNN12_MV, s.measured "VNN12_MV" []),
                  (F.PWR_SUPPLY_VBAT_MV, s.measured "VBAT_MV" [])]),
   (R.PWR_FLAGS.base, fun _ ix s =>
      let p := s.pwr
      packFields [(F.PWR_FLAGS_PFW, b2n p.pfw), (F.PWR_FLAGS_PFW_SEEN, s.lh R.PWR_FLAGS ix F.PWR_FLAGS_PFW_SEEN p.pfw), (F.PWR_FLAGS_PILOT_SUPPLY, b2n p.pilotSupply),
                  (F.PWR_FLAGS_VBAT_LOW, b2n (decide (s.measured "VBAT_MV" [] % 2 ^ 16 < 2000))), (F.PWR_FLAGS_VBAT_LOST, b2n p.vbatLost),
                  (F.PWR_FLAGS_XTAL32_FAIL, s.lh R.PWR_FLAGS ix F.PWR_FLAGS_XTAL32_FAIL p.lprc), (F.PWR_FLAGS_LPRC, b2n p.lprc),
                  (F.PWR_FLAGS_PFW_COUNT, min 0xFFFF p.pfwCount)]),
   (R.PWR_RESET.base, fun _ _ s =>
      packFields [(F.PWR_RESET_LAST, s.pwr.last), (F.PWR_RESET_WARM, s.pwr.warm), (F.PWR_RESET_FAILOVERS, s.pwr.failovers), (F.PWR_RESET_COLD, s.pwr.cold)]),
   (R.PWR_ALARM.base, fun _ ix s =>
      packFields [(F.PWR_ALARM_WALL, s.fld R.PWR_ALARM F.PWR_ALARM_WALL []), (F.PWR_ALARM_FIRED, s.lh R.PWR_ALARM ix F.PWR_ALARM_FIRED false)]),
   (R.PWR_SPLICE.base, fun _ _ s =>
      packFields [(F.PWR_SPLICE_KIND, s.pwr.spliceKind), (F.PWR_SPLICE_WIDE, b2n s.pwr.spliceWide), (F.PWR_SPLICE_UNC_US, min (2 ^ 32 - 1) s.pwr.spliceUs)]),
   (R.PWR_SPLICE_DTB.base, fun _ _ s => s.pwr.spliceDtb % 2 ^ 64),
   (R.PWR_CLOCK.base, fun _ _ s =>
      packFields [(F.PWR_CLOCK_PLL_LOCKED, b2n s.pwr.pll), (F.PWR_CLOCK_XTAL_OK, b2n s.pwr.xtal), (F.PWR_CLOCK_ON_FIRC, b2n !s.pwr.pll),
                  (F.PWR_CLOCK_NFC_DUTY, if s.pwr.pll then s.measured "NFC_DUTY" [] else 0), (F.PWR_CLOCK_FIRC_KHZ, if s.pwr.pll then s.measured "FIRC_KHZ" [] else 0)]),
   (R.PWR_TEMP.base, fun _ _ s =>
      packFields [(F.PWR_TEMP_DIGITAL, unsigned 16 s.dieTemp), (F.PWR_TEMP_POWER, s.powerTemp),
                  (F.PWR_TEMP_HOT, s.lh R.PWR_TEMP [] F.PWR_TEMP_HOT (s.dieHot || s.measured "PWR_TEMP.HOT" [] % 2 == 1))])]

/-! ### UPD, CNT and LOG -/

/-- HEALTHY of a component (R510). A self-test's result that no command reports is free. -/
def State.healthy (s : State) (k : Fin 5) : Bool :=
  let selfTest := (s.fw.comps[k]).running && Config.freeOf "component self-test" [k.1, (s.fw.comps[k]).starts] % 2 == 1
  match k.1 with
  | 0 => decide (2 ≤ s.pwr.level) && (s.grate.plan.isSome || s.grate.stored.isEmpty)
  | 1 => s.guard.normal && s.guard.normalTb.any (fun t => decide (t + 10 * tbSecond ≤ s.clock.tb))
  | 2 => selfTest
  | 3 => if s.fld R.NFC_RDCFG F.NFC_RDCFG_ENABLE [] = 1 then s.rdr.state == .lpcd || s.rdr.state == .hold else selfTest
  | _ => if s.grate.stored.isEmpty then selfTest else s.grate.plan.isSome

/-- The image fields of `UPD_COMPk_w`. -/
def imageWord (c : Component) (w : Nat) : Nat :=
  let i := c.image.getD { version := 0, svn := 0, metro := 0, provides := 0, requires_ := [], schema := 0 }
  match w with
  | 0 => packFields [(F.UPD_COMPk_w_VERSION, i.version), (F.UPD_COMPk_w_SVN, i.svn), (F.UPD_COMPk_w_FLOOR, c.floor), (F.UPD_COMPk_w_SLOT, b2n c.active),
                     (F.UPD_COMPk_w_TRIAL, b2n (c.trial || c.recheck)), (F.UPD_COMPk_w_OTHER_VALID, b2n (c.otherState == .verified))]
  | 1 => packFields [(F.UPD_COMPk_w_PROVIDES, i.provides), (F.UPD_COMPk_w_METRO, i.metro), (F.UPD_COMPk_w_SCHEMA, i.schema)]
  | 2 => ((List.range 4).map (fun j => i.requires_.getD j 0 % 2 ^ 16 * 2 ^ (16 * j))).sum
  | _ => packFields [(F.UPD_COMPk_w_REQUIRES_GRATE, i.requires_.getD 4 0), (F.UPD_COMPk_w_OTHER_VERSION, (c.other.map (·.version)).getD 0)]

/-- The anchors by entry: 0 to 3 SEALED, 4 to 7 UNSEALED (R513). -/
def State.anchorAt (s : State) (n : Nat) : Option Anchor := if n < 4 then s.mseal.record.anchors[n]? else s.fw.unsealedAnchors[n - 4]?

def viewUpd : List (Nat × View) :=
  [(R.UPD_STATUS.base, fun _ _ s =>
      let tail := [(F.UPD_STATUS_REFUSE, s.fw.refuse)]
      match s.fw.job, s.fw.onTrial with
      | some j, _ =>
        packFields ([(F.UPD_STATUS_STAGE, j.stage), (F.UPD_STATUS_KIND, j.kind), (F.UPD_STATUS_COMPONENT, if j.kind = 0 then j.comp else 7),
                     (F.UPD_STATUS_RECOVERY, b2n j.recovery), (F.UPD_STATUS_HOLDER, j.polder), (F.UPD_STATUS_JOB, j.job.1),
                     (F.UPD_STATUS_TOKEN_LEFT, s.secondsTo (j.tokenTb + 120 * tbSecond)), (F.UPD_STATUS_NEXT_BLOCK, j.next)] ++ tail)
      | none, some t => packFields ([(F.UPD_STATUS_STAGE, 5), (F.UPD_STATUS_COMPONENT, t.1), (F.UPD_STATUS_HOLDER, t.2)] ++ tail)
      | none, none => packFields ([(F.UPD_STATUS_COMPONENT, 7), (F.UPD_STATUS_HOLDER, 7)] ++ tail)),
   (R.UPD_PROGRESS.base, fun _ _ s =>
      packFields [(F.UPD_PROGRESS_CHECKPOINT, (s.fw.job.map (·.checkpoint)).getD ((s.fw.checkpoint.map (·.next)).getD 0)),
                  (F.UPD_PROGRESS_BAD_BLOCKS, min 0xFFFF ((s.fw.job.map (·.bad)).getD 0)),
                  (F.UPD_PROGRESS_RESUMABLE, b2n (s.fw.checkpoint.isSome && s.fw.job.isNone))]),
   (R.UPD_CTRL.base, fun _ _ _ => 0),
   (R.UPD_TRIAL.base, fun _ _ s =>
      match s.fw.watched with
      | none => packFields [(F.UPD_TRIAL_COMPONENT, 7), (F.UPD_TRIAL_REVERTS, s.fw.reverts)]
      | some k =>
        let c := s.fw.comps[k]
        packFields [(F.UPD_TRIAL_COMPONENT, k.1), (F.UPD_TRIAL_HEALTHY, b2n (s.healthy k)), (F.UPD_TRIAL_STARTS, c.starts), (F.UPD_TRIAL_RECHECK, b2n c.recheck),
                    (F.UPD_TRIAL_METRO_CHANGE, b2n c.metroChange), (F.UPD_TRIAL_SECONDS, c.secondsNow s.clock.tb), (F.UPD_TRIAL_REVERTS, s.fw.reverts)]),
   (R.UPD_COMPk_w.base, fun _ ix s => imageWord (s.fw.comps[Fin.ofNat 5 (i0 ix)]) (i1 ix)),
   (R.UPD_SETTINGS.base, fun _ _ s =>
      packFields [(F.UPD_SETTINGS_SCHEMA, s.fw.schema), (F.UPD_SETTINGS_DEFAULTED, b2n s.fw.defaulted), (F.UPD_SETTINGS_BACKUP, b2n s.fw.backup.isSome)]),
   (R.UPD_ANCHORn.base, fun _ ix s =>
      match s.anchorAt (i0 ix) with
      | none => 0
      | some a =>
        packFields [(F.UPD_ANCHORn_ID, a.id), (F.UPD_ANCHORn_PRESENT, 1), (F.UPD_ANCHORn_RUNNING, b2n (s.grate.plan.any (fun p => p.anchor == a.id))),
                    (F.UPD_ANCHORn_SHADOW, b2n (s.grate.shadow.any (fun p => p.anchor == a.id)))]),
   (R.UPD_STOREk.base, fun _ ix s =>
      let k : Fin 6 := Fin.ofNat 6 (i0 ix)
      let c := s.fw.stores[k]
      packFields [(F.UPD_STOREk_COUNT, c.certs.length), (F.UPD_STOREk_SLOT, c.slot), (F.UPD_STOREk_USABLE, b2n (s.chainOk k)), (F.UPD_STOREk_EXPIRES, c.expires)])]

/-- The polder of a session. -/
def State.polderOf (s : State) (i : Fin 64) : Nat := (s.anySession i).elim 7 (·.polder)

def viewCnt : List (Nat × View) :=
  [(R.CNT_EVk.base, fun i ix s =>
      let k : Fin 24 := Fin.ofNat 24 (i0 ix)
      packFields [(F.CNT_EVk_COUNT, s.cnt.count[k]), (F.CNT_EVk_WRAP, b2n (bitOf s.cnt.wrap[k] (s.polderOf i)))]),
   (R.CNT_BWn.base, fun _ ix s =>
      let b := s.cnt.bw[Fin.ofNat 4 (i0 ix)]
      packFields [(F.CNT_BWn_IN, b.lastIn), (F.CNT_BWn_OUT, b.lastOut)]),
   (R.CNT_BWPEAKn.base, fun _ ix s =>
      let b := s.cnt.bw[Fin.ofNat 4 (i0 ix)]
      packFields [(F.CNT_BWPEAKn_PEAK_IN, b.peakIn), (F.CNT_BWPEAKn_PEAK_OUT, b.peakOut)])]

def viewLog : List (Nat × View) :=
  [(R.LOG_HEAD.base, fun _ _ s => s.log.next % 2 ^ 64),
   (R.LOG_OLDEST.base, fun _ _ s => ((s.log.ring.head?.map (·.index)).getD ((s.log.staged.head?.map (·.index)).getD s.log.next)) % 2 ^ 64),
   (R.LOG_STAT.base, fun _ _ s =>
      let l := s.log
      packFields [(F.LOG_STAT_STAGED, l.staged.length), (F.LOG_STAT_FLASH_OK, b2n l.flashOk), (F.LOG_STAT_WRAPPED, b2n l.wrapped), (F.LOG_STAT_BOOT_GAP, l.bootGap),
                  (F.LOG_STAT_FOLDED, l.folded), (F.LOG_STAT_STAGE_LOST, l.stageLost)])]

/-! ### Every block -/

/-- The views of a block. -/
def viewsOf : Nat → List (Nat × View)
  | 0x0 => viewSys | 0x1 => viewSes | 0x2 => viewJob | 0x3 => viewKey | 0x4 => viewGrt | 0x5 => viewMet | 0x6 => viewNrg | 0x7 => viewBil
  | 0x8 => viewSeal | 0x9 => viewVeh | 0xA => viewSeq | 0xB => viewFg | 0xC => viewLsw | 0xD => viewNfc | 0xE => viewMsh | 0xF => viewPwr
  | 0x10 => viewUpd | 0x11 => viewCnt | 0x12 => viewLog | _ => []

/-- What a register shows to a session now. -/
def State.readReg (s : State) (i : Fin 64) (r : RegSpec) (ix : List Nat) : W64 :=
  w64 (match getKey r.base (viewsOf (r.base / 0x10000)) with
    | some v => v i ix s
    | none => s.reg r ix)

end Sys2Proof.Machine
end

