-- ==== Sys2Proof/Machine/UpdateCmds.lean ====
section
/-!
DEFINITION. The update job 0x30 and what follows it (chapter 16): blocks, checkpoints, verification, activation, trials,
anchors and certificate stores.
-/

namespace Sys2Proof.Machine

/-! ### Parameters (R499) -/

/-- KIND, COMPONENT or STORE, DELTA and RESUME of word 1. -/
def updKind (w : Nat) : Nat := bitsOf w 0 4
def updComp (w : Nat) : Nat := bitsOf w 4 3
def updDelta (w : Nat) : Bool := bitOf w 8
def updResume (w : Nat) : Bool := bitOf w 9

/-- Slot size of a component (R491); 256 KiB for a plan, 64 KiB for any other object. -/
def updLimit (kind comp : Nat) : Nat :=
  match kind with
  | 0 => [0x800000, 0x80000, 0x200000, 0x80000, 0x100000].getD comp 0
  | 1 => 0x40000
  | _ => 0x10000

/-- The version that BASE_VERSION names. -/
def State.updBase (s : State) (kind comp : Nat) : Nat :=
  if kind = 0 then ((s.fw.comps[Fin.ofNat 5 comp]).image.map (·.version)).getD 0 else ((s.grate.plan.map (·.planId)).getD 0) % 2 ^ 32

/-- The error of the parameters, 0 for none (R499, R570). -/
def State.updError (s : State) (u : UpdateJob) : Nat :=
  if 4 < u.kind ∨ (u.kind = 0 ∧ 4 < u.comp) ∨ (u.kind = 4 ∧ 5 < u.comp) ∨ (u.delta = true ∧ 2 ≤ u.kind) then BADFRAME
  else if updLimit u.kind u.comp < u.targetLen then 0x46
  else if u.base ≠ (if u.delta then s.updBase u.kind u.comp else 0) then 0x41
  else 0

/-- The update that a SUBMIT describes, from its first block. -/
def State.newUpdate (s : State) (b : Job) (j : Fin 16) (sid : Nat) : UpdateJob :=
  let w := b.param 1
  { stage := 1, kind := updKind w, comp := updComp w, delta := updDelta w, total := bitsOf w 32 32, targetLen := bitsOf (b.param 2) 0 32,
    base := bitsOf (b.param 2) 32 32, stream := w64 (b.param 3), job := j, holder := some sid, polder := b.polder, recovery := s.pwr.recovery,
    tokenTb := s.clock.tb, next := 0, data := [], bad := 0, checkpoint := 0, ended := false,
    slotB := (s.fw.comps[Fin.ofNat 5 (updComp w)]).landing }

/-- Two streams agree in what R498 compares. -/
def UpdateJob.same (a b : UpdateJob) : Bool :=
  a.kind == b.kind && a.comp == b.comp && a.stream == b.stream && a.targetLen == b.targetLen && a.base == b.base

/-- A RESUME takes over the update of a closed session, by the same polder (R498): none when a SUBMIT cannot. -/
def State.takesOver (s : State) (b : Job) (sid : Nat) : Option UpdateJob :=
  match s.fw.job with
  | some u =>
    if u.holder = none ∧ u.polder = b.polder ∧ updResume (b.param 1) ∧ u.same (s.newUpdate b u.job sid) then
      some { u with holder := some sid, stage := if u.ended then 2 else u.stage }
    else none
  | none => none

/-- The update begins with its SUBMIT in slot `j` (R496). A RESUME starts at the checkpoint of its own polder (R502); one that
finds none begins no update, and its job fails with STREAM. A new stream drops a checkpoint that waits. -/
def State.beginUpdate (s : State) (j : Fin 16) (sid : Nat) : State :=
  let b := s.job j
  let n := s.newUpdate b j sid
  if updResume (b.param 1) then
    match s.fw.checkpoint with
    | some c =>
      let r : UpdateJob := { n with next := c.next, data := c.data, checkpoint := c.next, delta := n.delta, slotB := c.slotB,
                                    ended := c.next == n.total, stage := if c.next = n.total then 2 else 1 }
      if s.fw.job.isNone ∧ c.polder = b.polder ∧ c.stream = n.stream ∧ c.kind = n.kind ∧ c.comp = n.comp ∧ c.targetLen = n.targetLen ∧ c.base = n.base then
        s.onFw (fun u => { u with job := some r })
      else s
    | none => s
  else s.onFw (fun u => { u with job := some n, checkpoint := if s.updError n = 0 then none else u.checkpoint })

/-! ### Blocks (R500 to R502) -/

/-- One result record of a stage that ends (R504). -/
def State.stageRecord (s : State) (u : UpdateJob) (stage detail word1 : Nat) : State :=
  s.addRecord u.job 0x0030 [w64 (stage + detail % 256 * 256 + u.next % 2 ^ 32 * 2 ^ 32), w64 word1]

/-- The job fails and the update ends. -/
def State.failUpdate (s : State) (u : UpdateJob) (err : Nat) : State :=
  ((s.finishJob u.job err).dropUpdate).logEv .updateJob u.comp u.polder 0 err u.kind

/-- The job ends done and the update ends with it. -/
def State.doneUpdate (s : State) (u : UpdateJob) : State :=
  ((s.finishJob u.job 0).onFw (fun f => { f with job := none, checkpoint := none })).logEv .updateJob u.comp u.polder 0 0 u.kind

/-- The base that a COPY reads: the active slot, or the running plan file; nothing without DELTA. -/
def State.copyBase (s : State) (u : UpdateJob) : Bytes :=
  if u.delta = false then []
  else if u.kind = 0 then
    let k := Fin.ofNat 5 u.comp
    if (s.fw.comps[k]).active then s.fw.bytesB[k] else s.fw.bytesA[k]
  else s.grate.stored

/-- Length in words of a block by its word 0; 0 when word 0 is no block's. -/
def blockWords (w0 : Nat) : Nat :=
  let len := bitsOf w0 48 16
  if bitsOf w0 36 12 ≠ 0 then 0
  else match bitsOf w0 32 4 with
    | 1 => if 1 ≤ len ∧ len ≤ 1000 then 3 + (len + 7) / 8 else 0
    | 2 => if len = 0 then 3 else 0
    | 15 => if len = 0 then 3 else 0
    | _ => 0

/-- A block is accepted: INDEX, length and CRC (R501). -/
def blockOk (next : Nat) (ws : List W64) : Bool :=
  let w0 := (ws.headD 0).toNat
  bitsOf w0 0 32 == next && ws.length == blockWords w0 && ws != []
  && (ws.getLastD 0).toNat == crc32c (wordBytes ws.dropLast)

/-- The object after a block: none where it would write beyond TARGET_LEN or copy from beyond the base, or an END does not fit
the parameters (R501). -/
def blockData (u : UpdateJob) (base : Bytes) (ws : List W64) : Option Bytes :=
  let w0 := (ws.headD 0).toNat
  let w1 := (ws.getD 1 0).toNat
  let fit := fun (d : Bytes) => if u.targetLen < d.length then none else some d
  match bitsOf w0 32 4 with
  | 1 => if w1 = 0 then fit (u.data ++ (wordBytes (ws.drop 2)).take (bitsOf w0 48 16)) else none
  | 2 =>
    let src := bitsOf w1 0 32
    let len := bitsOf w1 32 32
    if base.length < src + len then none else fit (u.data ++ (base.drop src).take len)
  | _ => if w1 = u.targetLen ∧ u.data.length = u.targetLen ∧ u.next + 1 = u.total then some u.data else none

/-- An accepted block: the token starts again, a checkpoint after every 64th block and after END, verification after END (R497,
R501 to R503). -/
def State.acceptBlock (s : State) (u : UpdateJob) (d : Bytes) (ended : Bool) : State :=
  let n := u.next + 1
  let mark := ended || n % 64 == 0
  let v : UpdateJob := { u with next := n, data := d, tokenTb := s.clock.tb, ended, stage := if ended then 2 else 1,
                                checkpoint := if mark then n else u.checkpoint }
  let s1 := if u.next = 0 then s.onFw (fun f => f.wipe u.kind u.comp u.slotB) else s
  let s2 := s1.onFw (fun f =>
    { f with job := some v,
             checkpoint := if mark then some { stream := v.stream, kind := v.kind, comp := v.comp, polder := v.polder, next := n, data := d,
                                               targetLen := v.targetLen, base := v.base, dropTb := none, slotB := v.slotB }
                           else f.checkpoint })
  let s3 := s2.onJob u.job (fun b => { b with input := [], progress := min 1000 (1000 * n / max 1 u.total) })
  if ended then s3.stageRecord v 2 0 0 else s3

/-- The job takes the block in its input buffer. -/
def State.takeBlock (s : State) (u : UpdateJob) : State :=
  let ws := (s.job u.job).input
  if ws = [] then s
  else if u.stage = 1 ∧ blockOk u.next ws then
    match blockData u (s.copyBase u) ws with
    | none => s.failUpdate u 0x40
    | some d => s.acceptBlock u d (bitsOf (ws.headD 0).toNat 32 4 == 15)
  else (s.onFw (fun f => { f with job := some { u with bad := satAdd 16 u.bad 1 } })).onJob u.job (fun b => { b with input := [] })

/-- UPDATE (R499): the job starts with its parameters checked, and takes a block that waits. A job without the update in hand is a
RESUME that matched no stream. -/
def updateRun (j : Slot) (s : State) : State :=
  let b := s.job j
  if b.code = 0x30 ∧ (b.state = .queued ∨ b.state = .running) then
    match s.fw.job with
    | none => s.finishJob j 0x48
    | some u =>
      if u.job ≠ j then s.finishJob j 0x48
      else if b.state = .queued then
        let e := s.updError u
        if e ≠ 0 then s.failUpdate u e else (s.startJob j true).takeBlock u
      else s.takeBlock u
  else s

/-! ### Verification (R503) -/

/-- The header of an image whose form is good, with its component (R492). -/
def imageOf (d : Bytes) : Option (Nat × Image) :=
  let comp := rdLE d 6 1
  let len := rdLE d 16 4
  if d.take 4 = [0x4C#8, 0x56#8, 0x46#8, 0x57#8] ∧ rdLE d 4 2 = 1 ∧ comp ≤ 4 ∧ rdLE d 7 1 = 0 ∧ rdLE d 12 2 ≤ 64
      ∧ (comp = 0 ∨ comp = 4 ∨ rdLE d 14 2 = 0) ∧ (comp = 0 ∨ rdLE d 32 2 = 0) ∧ rdLE d 34 2 = 0 ∧ rdLE d 36 4 = 0x3750
      ∧ (d.drop 48).take 16 = List.replicate 16 0#8 ∧ 64 ≤ len ∧ (len + 7) / 8 * 8 ≤ d.length then
    some (comp, { version := rdLE d 8 4, svn := rdLE d 12 2, metro := rdLE d 14 2, provides := rdLE d 20 2,
                  requires_ := (List.range 5).map (fun i => rdLE d (22 + 2 * i) 2), schema := rdLE d 32 2 })
  else none

/-- Both signatures of an image (R78, R492). -/
def imageSigned (d : Bytes) : Bool :=
  let n := (rdLE d 16 4 + 7) / 8 * 8
  bothVerify (Config.jodituKey 1) (Config.jodituLms 1) (sha384 (d.take n)) (d.drop n)

/-- The set of images with `img` for component `k` is compatible (R494). -/
def State.setOk (s : State) (k : Fin 5) (img : Image) : Bool :=
  let at_ := fun (c : Fin 5) => if c = k then some img else (s.fw.comps[c]).image
  (idx 5).all (fun c => (idx 5).all (fun d => c == d ||
    match at_ c with
    | none => true
    | some x => decide (x.requires_.getD d.1 0 ≤ ((at_ d).map (·.provides)).getD 0)))
  && s.grate.plan.all (fun p => decide (p.level ≤ ((at_ 4).map (·.provides)).getD 0))

/-- METRO of the last confirmed HEARTH in the boot record (R517). -/
def State.confirmedMetro (s : State) : Nat :=
  let h := s.fw.comps[(0 : Fin 5)]
  if h.trial then (h.other.map (·.metro)).getD 0 else h.metro

/-- The error that verification of an image finds, 0 for none. -/
def State.imageError (s : State) (u : UpdateJob) : Nat :=
  match imageOf u.data with
  | none => 0x40
  | some (comp, img) =>
    if comp ≠ u.comp ∨ u.data.length ≠ (rdLE u.data 16 4 + 7) / 8 * 8 + 3388 then 0x40
    else if imageSigned u.data = false then 0x42
    else if img.svn < (s.fw.comps[Fin.ofNat 5 comp]).floor then 0x43
    else if s.setOk (Fin.ofNat 5 comp) img = false then 0x44
    else if u.recovery ∧ img.metro ≠ s.confirmedMetro then 0x47
    else 0

/-- The verified image stands in its slot; the update waits for ACTIVATE. -/
def State.placeImage (s : State) (u : UpdateJob) : State :=
  match imageOf u.data with
  | none => s
  | some (_, img) =>
    let k := Fin.ofNat 5 u.comp
    let s1 := s.onComp k (fun c => if u.slotB then { c with stB := .verified, imgB := some img } else { c with stA := .verified, imgA := some img })
    let s2 := s1.onFw (fun f => { f with bytesA := if u.slotB then f.bytesA else upd f.bytesA k (fun _ => u.data),
                                         bytesB := if u.slotB then upd f.bytesB k (fun _ => u.data) else f.bytesB,
                                         job := some { u with stage := 3, tokenTb := s.clock.tb } })
    s2.stageRecord u 3 0 img.version

/-- What the checks of R147 read of the device: the digest of the running plan, or the held one while none runs (R146, R150). -/
def State.planCtx (s : State) (boot : Bool) : PlanCtx where
  anchors := s.mseal.record.anchors.map (fun a => (a, true)) ++ s.fw.unsealedAnchors.map (fun a => (a, false))
  held := if boot then s.mseal.record.mdigest else match s.grate.plan with | some p => some p.mdigest | none => s.mseal.record.mdigest
  grateLevel := (s.fw.comps[(4 : Fin 5)]).provides

/-- A verified plan enters the shadow plane and is compared (R149, R150). -/
def State.placeShadow (s : State) (p : Plan) (file : Bytes) : State :=
  s.onGrate (fun g =>
    let held := match g.plan with | some q => some q.mdigest | none => s.mseal.record.mdigest
    { g with shadow := some p, shadowFile := file, shadowState := 1, refuse := 0, sealedDiff := held != some p.mdigest,
             tripDiff := match g.plan with | some q => tripDiff q p | none => true,
             liveOk := match g.plan with | some q => liveOk q p | none => false })

/-- KIND 1: the plan checks; the shadow plane holds the plan, or the code of its refusal. -/
def State.verifyPlan (s : State) (u : UpdateJob) : State :=
  match checkPlan (s.planCtx false) u.data false with
  | .error c =>
    let s1 := s.onGrate (fun g => { g with shadow := none, shadowFile := [], shadowState := 4, refuse := c, sealedDiff := false, tripDiff := false, liveOk := false })
    (s1.stageRecord u 2 c 0).failUpdate u 0x49
  | .ok p => ((s.placeShadow p u.data).stageRecord u 3 0 p.planId).doneUpdate u

/-- An anchor of an install object, with its scope (true SEALED) (R513). -/
def anchorOf (d : Bytes) : Option (Anchor × Bool) :=
  if d.length = 176 ∧ d.take 4 = [0x4C#8, 0x56#8, 0x41#8, 0x4E#8] ∧ rdLE d 4 2 = 1 ∧ rdLE d 6 1 ≤ 1 ∧ rdLE d 7 1 = 0 ∧ rdLE d 8 1 = 4
      ∧ (d.drop 105).take 7 = List.replicate 7 0#8 ∧ d.drop 172 = List.replicate 4 0#8 then
    some ({ id := ofLE ((sha384 ((d.drop 8).take 164)).take 6), ecdsa := (ofBE ((d.drop 9).take 48), ofBE ((d.drop 57).take 48)), hss := (d.drop 112).take 60 },
      rdLE d 6 1 == 1)
  else none

/-- The ID of a remove object (R513). -/
def anchorId (d : Bytes) : Option Nat :=
  if d.length = 16 ∧ d.take 4 = [0x4C#8, 0x56#8, 0x41#8, 0x58#8] ∧ rdLE d 4 2 = 1 ∧ rdLE d 6 2 = 0 ∧ rdLE d 14 2 = 0 then some (rdLE d 8 6) else none

/-- The holder may change anchors of a scope: SEALED P1 with the seal open, UNSEALED P2 or P4 (R490, R514, R259). -/
def State.anchorGrant (s : State) (polder : Nat) (isSealed : Bool) : Bool :=
  if isSealed then polder == 1 && s.mseal.record.open_ else polder == 2 || polder == 4

/-- A change of the SEALED anchors: T_CONFIG with argument 3 first, then the record (R266, R514). -/
def State.setSealed (s : State) (l : List Anchor) : State := (s.tamper T_CONFIG 3 true).sealWrite (fun r => { r with anchors := l })

/-- KIND 2. -/
def State.installAnchor (s : State) (u : UpdateJob) : State :=
  match anchorOf u.data with
  | none => s.failUpdate u 0x40
  | some (a, isSealed) =>
    let l := if isSealed then s.mseal.record.anchors else s.fw.unsealedAnchors
    if s.anchorGrant u.polder isSealed = false then s.failUpdate u DENIED
    else if (s.mseal.record.anchors ++ s.fw.unsealedAnchors).any (fun x => x.id == a.id) then (s.stageRecord u 3 0 a.id).doneUpdate u
    else if 4 ≤ l.length then s.failUpdate u FULL
    else
      let s1 := if isSealed then s.setSealed (l ++ [a]) else s.onFw (fun f => { f with unsealedAnchors := l ++ [a] })
      (s1.stageRecord u 3 0 a.id).doneUpdate u

/-- KIND 3. An ID that no anchor has leaves everything as it is. -/
def State.removeAnchor (s : State) (u : UpdateJob) : State :=
  match anchorId u.data with
  | none => s.failUpdate u 0x40
  | some n =>
    let isSealed := s.mseal.record.anchors.any (fun x => x.id == n)
    let known := isSealed || s.fw.unsealedAnchors.any (fun x => x.id == n)
    if known ∧ s.anchorGrant u.polder isSealed = false then s.failUpdate u DENIED
    else if s.grate.plan.any (fun p => p.anchor == n) ∨ s.grate.shadow.any (fun p => p.anchor == n) then s.failUpdate u DENIED
    else
      let s1 := if isSealed then s.setSealed (s.mseal.record.anchors.filter (fun x => x.id != n))
        else s.onFw (fun f => { f with unsealedAnchors := f.unsealedAnchors.filter (fun x => x.id != n) })
      (s1.stageRecord u 3 0 n).doneUpdate u

/-- The entries of a store object: `n` certificates, each behind its length; none when the bytes do not fit. -/
def certEntries : Nat → Bytes → Option (List Bytes)
  | 0, d => if d = [] then some [] else none
  | n + 1, d =>
    let len := rdLE d 0 2
    if d.length < 2 + len then none else (certEntries n (d.drop (2 + len))).map (fun l => (d.drop 2).take len :: l)

/-- Certificates that a store holds at most (R300). -/
def storeCap (k : Nat) : Nat := [8, 16, 8, 3, 3, 3].getD k 0

/-- A certificate store of an object for store `k` (R515). -/
def storeOf (k : Nat) (d : Bytes) : Option CertStore :=
  let slot := rdLE d 8 1
  if d.length < 16 ∨ d.take 4 ≠ [0x4C#8, 0x56#8, 0x43#8, 0x53#8] ∨ rdLE d 4 2 ≠ 1 ∨ rdLE d 6 1 ≠ k ∨ storeCap k < rdLE d 7 1
      ∨ (d.drop 9).take 7 ≠ List.replicate 7 0#8 ∨ (if 3 ≤ k then decide (slot < 96) else slot != 0) then none
  else match certEntries (rdLE d 7 1) (d.drop 16) with
    | none => none
    | some l =>
      let days := l.map Config.certNotAfter
      if days.any Option.isNone then none
      else some { certs := l, slot, expires := (days.filterMap id).foldl min ((days.filterMap id).headD 0) }

/-- KIND 4: the object replaces the whole store. -/
def State.loadStore (s : State) (u : UpdateJob) : State :=
  match storeOf u.comp u.data with
  | none => s.failUpdate u 0x40
  | some c => ((s.onFw (fun f => { f with stores := upd f.stores (Fin.ofNat 6 u.comp) (fun _ => c) })).stageRecord u 3 0 0).doneUpdate u

/-- UPDATE_VERIFY (R503). -/
def updateCheck (s : State) : State :=
  match s.fw.job with
  | some u =>
    if u.stage = 2 ∧ (s.job u.job).state = .running then
      match u.kind with
      | 0 =>
        let e := s.imageError u
        if e = 0 then s.placeImage u else (s.stageRecord u 2 0 0).failUpdate u e
      | 1 => s.verifyPlan u
      | 2 => s.installAnchor u
      | 3 => s.removeAnchor u
      | _ => s.loadStore u
    else s
  | none => s

/-- UPDATE_TOKEN_EXPIRE (R497). -/
def updateTokenOut (s : State) : State :=
  match s.fw.job with
  | some u => if u.tokenTb + 120 * tbSecond ≤ s.clock.tb then s.failUpdate u 0x45 else s
  | none => s

/-- CHECKPOINT_EXPIRE (R502). -/
def checkpointOut (s : State) : State :=
  match s.fw.checkpoint with
  | some c =>
    if s.fw.job.isNone ∧ c.dropTb.any (fun t => decide (t ≤ s.clock.tb)) then
      s.onFw (fun u => { u.wipe c.kind c.comp c.slotB with checkpoint := none })
    else s
  | none => s

/-! ### Restarts (R506) -/

/-- The modems and TS PHYs are loaded again; no link survives. -/
def State.reloadModems (s : State) : State :=
  let s1 := (idx 6).foldl (fun (s : State) (o : Fin 6) => if s.linkUp o then s.commLost o else s) s
  let off := !(s1.fw.comps[(2 : Fin 5)]).running
  s1.onVeh (fun v => { v with modems := v.modems.map (fun m => { m with matched := false, inSlac := false, failed := off }),
                              slac := [], t1s := v.t1s.map (fun t => { t with link := false }) })

/-- The reader goes to OFF, then to START (R406). -/
def State.restartReader (s : State) : State :=
  let s1 := if s.rdr.state = .off then s else s.dropCards.rdEnter .off
  if (s1.fw.comps[(3 : Fin 5)]).running ∧ s1.fld R.NFC_RDCFG F.NFC_RDCFG_ENABLE [] = 1 ∧ s1.rdr.held = false then s1.rdEnter .start else s1

/-- Orderly save, then the Grate starts with the running plan; a shadow plan that the new image no longer meets is removed. -/
def State.restartGrate (s : State) : State :=
  let c := s.fw.comps[(4 : Fin 5)]
  let s1 := if s.grate.shadow.any (fun p => decide (c.provides < p.level)) then
      s.onGrate (fun g => { g with shadow := none, shadowFile := [], shadowState := 0, sealedDiff := false, tripDiff := false, liveOk := false })
    else s
  match s1.grate.plan with
  | none => s1
  | some p =>
    let d := s1.draw
    let s2 := d.2.logEv .invalidRun 0 7 0 d.1 0
    if c.running then s2.startPlan p else s2.onGrate (fun g => { g.startCells with plan := none })

/-- A component restarts on the image that the boot record now names. -/
def State.restartComp (s : State) (k : Fin 5) : State :=
  match k.1 with
  | 0 => (if s.pwr.recovery then s else s.orderlySave).coldReset 7
  | 1 => fgReset .image s.orderlySave
  | 2 => (s.orderlySave.countStart 2).reloadModems
  | 3 => (s.orderlySave.countStart 3).restartReader
  | _ => ((s.orderlySave).countStart 4).restartGrate

/-! ### Activation (R505, R506, R517) -/

/-- The image in an update is metrology-relevant (R43, R493). -/
def State.metroImage (s : State) (u : UpdateJob) : Bool :=
  let c := s.fw.comps[Fin.ofNat 5 u.comp]
  ((if u.slotB then c.imgB else c.imgA).map (·.metro)).getD 0 != c.metro

/-- A unit that the component runs is in use (REFUSE 1). -/
def State.compBusy (s : State) (u : UpdateJob) : Bool :=
  let outs := (idx 6).any (fun o => (s.so o).state != .idle && (s.so o).state != .unavailable) || s.anyHv
  match u.comp with
  | 0 => outs || (idx 16).any (fun j => j != u.job && ((s.job j).state == .queued || (s.job j).state == .running))
  | 1 => s.anyHv
  | 2 => s.veh.modems.toList.any (fun m => m.inSlac || m.matched) || s.veh.t1s.toList.any (·.link)
  | 3 => decide (0 < s.heldCards) || s.rdr.xState == 1 || s.rdr.state == .test
  | _ => outs

/-- The refusal of an ACTIVATE write: status and REFUSE; 0 for none. -/
def State.activateRefusal (s : State) (u : UpdateJob) : Nat × Nat :=
  if u.recovery then (0, 0)
  else if s.compBusy u then (BUSY, 1)
  else if s.metroImage u ∧ s.mseal.record.open_ = false then (DENIED, 2)
  else if u.polder = 4 ∧ s.doorOpen = false then (DENIED, 3)
  else (0, 0)

/-- The boot record names the new slot, on trial, with the old one as its fallback. -/
def Component.onTrial (c : Component) (slotB metro : Bool) (tb : Nat) : Component :=
  let d := if slotB = c.active then c else if c.state = .active then c.mark c.active .verified else c
  { d.mark slotB .active with active := slotB, trial := true, recheck := false, starts := 0, seconds := 0, secTb := tb, metroChange := metro, running := true }

/-- The accepted activation (R506): T_FW, the boot record, the restart; for HEARTH the job ends with the reset. -/
def State.activate (s : State) (u : UpdateJob) : State :=
  let k := Fin.ofNat 5 u.comp
  let metro := s.metroImage u
  let s1 := if metro ∧ u.recovery = false then s.tamper T_FW k.1 true else s
  let s2 := s1.onComp k (fun c => c.onTrial u.slotB metro s.clock.tb)
  let s3 := s2.onFw (fun f => { f with job := some { u with stage := 4 }, onTrial := some (k.1, u.polder), checkpoint := none })
  let s4 := (s3.onJob u.job (fun b => { b with cancellable := false })).stageRecord u 4 0 0
  let s5 := s4.logEv .updateJob u.comp u.polder 0 0 4
  if k = 0 then s5.restartComp 0
  else
    let s6 := s5.restartComp k
    ((s6.stageRecord u 5 0 0).finishJob u.job 0).onFw (fun f => { f with job := none })

/-- A write of ACTIVATE by the holder; while no verified image waits it does nothing. -/
def State.writeActivate (s : State) (u : UpdateJob) : Nat × State :=
  if u.stage ≠ 3 then (OK, s)
  else
    let r := s.activateRefusal u
    if r.1 ≠ 0 then (r.1, s.onFw (fun f => { f with refuse := r.2 })) else (OK, s.activate u)

/-! ### Confirmation and revert (R509, R510) -/

/-- The image is confirmed: first the record, then the floor; the update ends. -/
def State.confirmComp (s : State) (k : Fin 5) : State :=
  let c := s.fw.comps[k]
  let s1 := if k = 0 then s.onFw (fun f => { f with backup := none, defaulted := false, schema := (c.image.map (·.schema)).getD 0 }) else s
  let s2 := s1.onComp k (fun c => { c with trial := false, recheck := false, floor := max c.floor ((c.image.map (·.svn)).getD 0) })
  let s3 := s2.onFw (fun f => { f with onTrial := if f.onTrial.any (fun t => t.1 == k.1) then none else f.onTrial })
  s3.logEv .updateJob k.1 7 0 0 5

/-- A write of CONFIRM: BUSY unless the component on trial, or on recheck, is healthy. -/
def State.writeConfirm (s : State) : Nat × State :=
  match s.fw.watched with
  | some k => if s.healthy k then (OK, s.confirmComp k) else (BUSY, s)
  | none => (BUSY, s)

/-- A revert with its restart. -/
def State.revertComp (s : State) (k : Fin 5) (cause : Nat) : State := (s.revertSlots k cause).restartComp k

/-- A write of REVERT: the running trial reverts at once. -/
def State.writeRevert (s : State) : Nat × State :=
  match (idx 5).find? (fun k => (s.fw.comps[k]).trial) with
  | some k => (OK, s.revertComp k 3)
  | none => (OK, s)

/-! ### `UPD_CTRL` -/

/-- The session holds the update (R497). -/
def State.holds (s : State) (sid : Nat) : Bool := s.fw.job.any (fun u => u.holder == some sid)

/-- The dike's word on a write of `UPD_CTRL`: ACTIVATE for the holder, CONFIRM and REVERT for P2, and P4 with the door open; in
recovery ACTIVATE alone. -/
def State.ctrlGrant (s : State) (sid polder v : Nat) : Bool :=
  let host := !s.pwr.recovery && (polder == 2 || (polder == 4 && s.doorOpen))
  if F.UPD_CTRL_ACTIVATE.get v = 1 then s.holds sid && (host || (F.UPD_CTRL_CONFIRM.get v == 0 && F.UPD_CTRL_REVERT.get v == 0))
  else if F.UPD_CTRL_CONFIRM.get v = 1 ∨ F.UPD_CTRL_REVERT.get v = 1 then host
  else host || s.holds sid

/-- One write of `UPD_CTRL` that the dike lets through: ACTIVATE, then CONFIRM, then REVERT, up to the first refusal. -/
def State.writeCtrl (s : State) (v : Nat) : Nat × State :=
  let a := if F.UPD_CTRL_ACTIVATE.get v = 1 then (match s.fw.job with | some u => s.writeActivate u | none => (OK, s)) else (OK, s)
  let b := if a.1 = OK ∧ F.UPD_CTRL_CONFIRM.get v = 1 then a.2.writeConfirm else a
  if b.1 = OK ∧ F.UPD_CTRL_REVERT.get v = 1 then b.2.writeRevert else b

/-- TRIAL_EXPIRE (R508): 1,800 s of running time. -/
def trialOut (k : CompNo) (s : State) : State :=
  if (s.fw.comps[k]).judged ∧ 1800 ≤ (s.fw.comps[k]).secondsNow s.clock.tb then s.revertComp k 2 else s

/-- TRIAL_SECONDS_SAVE (R507): every 60 s of a trial. -/
def trialSave (k : CompNo) (s : State) : State :=
  let c := s.fw.comps[k]
  if c.judged ∧ c.secTb + 60 * tbSecond ≤ s.clock.tb then
    s.onComp k (fun c => { c with seconds := c.secondsNow s.clock.tb, secTb := s.clock.tb })
  else s

/-! ### The meanings -/

def execUpdate (j : Slot) (s : State) : Host.Outcome State Fault Refusal := .next (updateRun j s)
def execUpdateVerify (s : State) : Host.Outcome State Fault Refusal := .next (updateCheck s)
def execUpdateTokenExpire (s : State) : Host.Outcome State Fault Refusal := .next (updateTokenOut s)
def execCheckpointExpire (s : State) : Host.Outcome State Fault Refusal := .next (checkpointOut s)
def execTrialExpire (k : CompNo) (s : State) : Host.Outcome State Fault Refusal := .next (trialOut k s)
def execTrialSecondsSave (k : CompNo) (s : State) : Host.Outcome State Fault Refusal := .next (trialSave k s)

end Sys2Proof.Machine
end

