-- ==== Sys2Proof/Machine/BootCmds.lean ====
section
/-!
DEFINITION. Boot, the retries of the flash die and the crystal, and the wake from EMBER (R56, R60, R61, R218, R219, R249,
R252, R464 to R477, R487 to R489, R507 to R512).
-/

namespace Sys2Proof.Machine

/-! ### TB at PLL lock (R472, R476, R477) -/

/-- The stated uncertainty in µs of a splice over `dtb` ticks (R476): 200 ppm or 3 %, and 2 RTC ticks. -/
def spliceUnc (wide : Bool) (dtb : Nat) : Nat := (if wide then dtb * 3 / 2500 else dtb * 8 / 1000000) + 61

/-- R476: TB and wall time spliced over the gap since the anchor. -/
def State.spliceAt (s : State) (a : TbAnchor) (ticks kind : Nat) : State :=
  let dtb := rtcToTb ticks
  let tb := a.tb + dtb
  let s1 : State := { s with clock := { tb, run := true, wall := a.wall.map (fun w => (w + dtb / 25000, tb)) } }
  let s2 := s1.onPwr (fun p => { p with spliceKind := kind, spliceWide := p.lprcRan, spliceUs := min (2 ^ 32 - 1) (spliceUnc p.lprcRan dtb),
                                        spliceDtb := dtb, rtc := (a.rtc + ticks) % 2 ^ 48, rtcTb := tb })
  (s2.latch R.SYS_STATUS [] F.SYS_STATUS_TB_SPLICED.mask).onMseal (fun m => { m with splice := m.splice.map (fun _ => tb + 1) })

/-- R477: without an anchor TB starts at 0 and wall time is unknown. -/
def State.tbFromZero (s : State) (ticks : Nat) : State :=
  let s1 : State := { s with clock := { tb := 0, run := true, wall := none } }
  (s1.onGuard (fun g => { g with outs := g.outs.map (fun o => { o with gateTb := 0 }) })).onPwr (fun p => { p with spliceKind := 0, spliceWide := false, spliceUs := 0, spliceDtb := 0, rtc := (p.rtc + ticks) % 2 ^ 48, rtcTb := 0 })

/-- PLL lock: every main-domain clock runs, TB starts, pair B is released as the shadow (R472, R488 instant 6); a pair that failed its
self-test stays off (R28). The rule does not say in what role pair B is released: as the shadow at once, which SHADOW_READY shows with
the first checkpoint (DEDUCED, log entry 107). -/
def State.lockPll (s : State) (ticks kind : Nat) : State :=
  let s1 := match s.pwr.anchor with
    | some a => if s.pwr.backupLost then s.tbFromZero ticks else s.spliceAt a ticks kind
    | none => s.tbFromZero ticks
  ((s1.onPwr (fun p => { p with pll := true, xtal := true, idleTb := s1.clock.tb })).onHearth (fun h =>
    { h with pairA := if h.failedB && !h.failedA then .primary else h.pairA,
             pairB := if h.failedB then .off else if h.pairB == .off && !h.failedA then .shadow else h.pairB, busyUntil := s1.clock.tb })).pgStart

/-! ### Keys (R60, R61, R68, R80) -/

/-- A kept slot as flash restores it: the use count resumes at the reserved boundary. -/
def KeySlot.reloaded (k : KeySlot) : KeySlot :=
  if k.kept = .no then k
  else { k with count := k.useBoundary, useBoundary := k.useBoundary + 64,
                state := if k.state = .valid ∧ k.limit ≠ 0 ∧ k.limit ≤ k.useBoundary then .spent else k.state }

/-- The chain of parents of a kept derivation reaches a slot from 16 to 95 (R61). -/
def lostChain (slots : Vector KeySlot 256) : Nat → Fin 256 → Bool
  | 0, _ => false
  | fuel + 1, c =>
    let k := slots[c]
    k.hasParent && (decide (16 ≤ k.parent ∧ k.parent ≤ 95) || lostChain slots fuel (Fin.ofNat 256 k.parent))

/-- The kept derivation is orphaned by the reset. -/
def KeySlot.keptParams (k : KeySlot) : Bool := match k.kept with | .params _ _ => true | _ => false

/-- The Key Register at a boot or a wake: the derived slots, then the kept ones; EXPIRED where TB has started again (R68). -/
def State.keysUp (s : State) (timeLost : Bool) : State :=
  let root : KeySlot := { KeySlot.reset with state := .valid, kind := 6, engines := 2 ^ engKDF, gen := 1, key := Config.root s.life.rootFused }
  let s1 := s.onSlot 0 (fun k => { root with gen := max 1 k.gen })
  let s2 := s1.bootDerive
  let s3 := s2.onKeys (fun k =>
    { k with slots := updAll k.slots (fun n x =>
        let y := x.reloaded
        if y.keptParams && lostChain k.slots 256 n then { y with state := .orphan }
        else if timeLost ∧ y.expiry ≠ 0 ∧ y.state ≠ .empty then { y with state := .expired } else y),
             hss := { k.hss.compute with boundary := if k.hss.boundary ≤ k.hss.next then k.hss.next + 1024 else k.hss.boundary },
             remaskTb := some s.clock.tb })
  s3.bootFlue

/-! ### The metrology journal (R218, R219) -/

/-- A copy is good (R218): MAGIC and FORMAT stand in every copy that was written whole, and its tag checks under the storage key that it was
encrypted with, which derives from the root key in force then. -/
def SaveRecord.good (r : SaveRecord) (root : Nat) : Bool := r.whole && r.root == root

/-- The copy that a boot restores under a root key, and how `NRG_PFAIL.JOURNAL` reports it (R218). -/
def Energy.pick (n : Energy) (root : Nat) : Nat × Option SaveRecord :=
  let all := [n.copyA, n.copyB].filterMap id
  let newest := (all.map (·.seq)).foldl max 0
  match (all.filter (fun r => r.good root)).foldl (fun (m : Option SaveRecord) r => match m with | some x => if x.seq < r.seq then some r else m | none => some r) none with
  | some r => (if r.seq = newest then 1 else 2, some r)
  | none => (if n.everSaved then 3 else 0, none)

/-- The restored registers: energy, service registers, track values. -/
def State.restoreRecord (s : State) (r : SaveRecord) (journal : Nat) : State :=
  let s1 := s.onNrg (fun n =>
    { n with e := Vector.ofFn (fun i => if h : i.1 < 6 then r.energy[i.1]'h else r.site),
             svc := Vector.ofFn (fun i => if h : i.1 < 6 then r.svc[i.1]'h
               else Vector.ofFn (fun d => ((idx 6).map (fun o => (r.svc[o])[d])).sum)),
             saveSeq := max n.saveSeq r.seq, journal := journal, restoredReason := r.reason, restoredShort := r.shortTick, restoredTb := r.tb })
  s1.onSens (fun x => { x with track := Vector.ofFn (fun i => { x.track[i] with value := r.track[i], next := none, window := none }) })

/-- R218: the journal at boot. A lost one counts T_SUPPLY with argument 2. -/
def State.restoreJournal (s : State) : State :=
  let p := s.nrg.pick s.life.rootFused
  match p.2 with
  | some r => s.restoreRecord r p.1
  | none =>
    if p.1 = 3 then (s.tamper T_SUPPLY 2 true).onNrg (fun n => { n with journal := 3, journalLost := true })
    else s.onNrg (fun n => { n with journal := 0 })

/-- Accumulators of a plan that starts after a restore: the saved remainders and pulse fractions. After an orderly save the
part of a remainder below 1 µWh is gone (R461). -/
def State.restoreCells (s : State) (r : SaveRecord) : State :=
  match s.grate.plan with
  | none => s
  | some p =>
    if p.planId ≠ r.planId then s
    else
      s.onGrate (fun g => { g with integ := updAll g.integ (fun i x =>
        let rem := r.rem[i]
        let kept := if r.reason = 2 then (Int.tdiv rem uWhFrames) * uWhFrames else rem
        let pulse := match p.energies.find? (fun e => e.pulse && e.integ == i.1) with
          | some e => (r.pulse[e.output]?.getD 0) * 65536
          | none => 0
        { x with acc := kept * 65536, pulse := (pulse : Nat) }) })

/-- A µWh bound from a power in mW over ms, rounded up. -/
def boundUWh (mw ms : Nat) : Nat := (mw * ms + 3599) / 3600

/-- R219: the unbooked-energy bounds. `cut` is the wall time of the last T_SUPPLY in the backup domain, 0 when unknown. -/
def State.boundUnbooked (s : State) (r : SaveRecord) (cut : Nat) : State :=
  if r.reason = 2 then s.onNrg (fun n => { n with unbooked := Vector.replicate 6 (0, 0), dtAssumed := false })
  else
    let known := r.wall != 0 && cut != 0 && decide (r.wall ≤ cut)
    let ms := if known then cut - r.wall else 1000
    let bound := fun (o : Fin 6) => match s.grate.plan with
      | none => (0, 0)
      | some p => if bitOf s.present o.1 then (boundUWh r.peak[o] ms, boundUWh ((p.out o.1).volt * (p.out o.1).amp * 1000) ms) else (0, 0)
    let s1 := s.onNrg (fun n => { n with unbooked := Vector.ofFn bound, dtAssumed := !known })
    (idx 6).foldl (fun (s : State) (o : Fin 6) =>
      if bitOf s.present o.1 then s.logEv .unbooked o.1 7 0 (bound o).1 (bound o).2 else s) s1

/-! ### Billing (R249, R252) -/

/-- The newer billing state. -/
def Billing.newest (b : Billing) : Option BillSave :=
  match b.saveA, b.saveB with
  | some x, some y => if x.seq < y.seq then some y else some x
  | some x, none => some x
  | none, y => y

/-- R252 step 1: the billing state; without one everything starts at 0 and the ring alone is replayed. At a boot the history of sub-intervals is
empty (R238); at a wake it stands. -/
def State.loadBilling (s : State) (b : Nat) (cold : Bool) : State :=
  let cfg := s.reg R.BIL_DEMCFG []
  match s.bil.newest with
  | some x => s.onBil (fun y => { y with throughTb := x.throughTb, treg := x.treg, running := x.running, subs := if cold then [] else x.subs, md := x.md, pmd := x.pmd,
                                         holds := x.holds, phase := x.phase, period := x.period, saveSeq := x.seq, demcfg := cfg,
                                         cuts := (x.cuts ++ y.cuts.filter (fun c => !x.cuts.contains c)).filter (fun c => decide (x.running.start < c.at_)),
                                         marks := x.marks ++ y.marks.filter (fun m => !x.marks.contains m) })
  | none => s.onBil (fun y =>
      let st := gridEnd cfg y.phase b - demLen cfg
      { y with demcfg := cfg, running := if b = 0 then y.running else Interval.zero st (stopOf cfg y.phase [] st) })

/-- The service registers that a billing state holds; zero without one. -/
def State.loadSvc (s : State) : State :=
  let v := match s.bil.newest with | some x => x.svc | none => Vector.replicate 7 (Vector.replicate 2 0)
  s.onNrg (fun n => { n with svc := v })

/-- R252 step 3: entries after the last tick of the record go; the ones that the billing state covers count as committed. A
session's own sums give back what the replay will add again. -/
def Billing.rewind (b : Billing) (last : Nat) : Billing :=
  let kept := b.ticks.filter (fun t => decide (t.endTb ≤ last))
  let again := kept.filter (fun t => t.committed && decide (b.throughTb < t.endTb))
  let back := fun (o : Fin 6) (sid : Nat) (f : TickOut → Nat) =>
    ((again.map (fun t => t.outs[o])).filter (fun x => x.attr == .session && x.sid == sid)).map f |>.sum
  { b with ticks := kept.map (fun t => { t with committed := decide (t.endTb ≤ b.throughTb) }),
           attr := updAll b.attr (fun o a =>
             { a with sessImp := a.sessImp - back o a.sid (·.imp), sessExp := a.sessExp - back o a.sid (·.exp),
                      ends := a.ends.map (fun e => { e with imp := e.imp - back o e.sid (·.imp), exp := e.exp - back o e.sid (·.exp) }) }),
           holds := updAll b.holds (fun o l => l.map (fun h =>
             if h.sid = (b.attr[o]).sid ∧ (b.attr[o]).attr = .session then { h with outcome := some true } else h)) }

/-- Commit the uncommitted ticks up to a TB, in tick order and with no lag (R252 step 5). -/
def State.replayTo (s : State) (tb : Nat) : List PeriodClose × State :=
  (s.bil.ticks.filter (fun t => !t.committed && decide (t.endTb ≤ tb))).foldl (fun (r : List PeriodClose × State) (t : Tick) =>
    let q := r.2.commitTick t
    (r.1 ++ q.1, q.2)) ([], s)

/-- R252: the service registers that the replay has reached, against the record's; the record's stand. -/
def State.checkSvc (s : State) (v : Vector (Vector Nat 2) 7) : State :=
  if s.nrg.svc = v then s
  else
    let diff := fun (d : Fin 2) => ((idx 6).map (fun (o : Fin 6) => diffInt ((s.nrg.svc[o.1])[d]) ((v[o.1])[d]))).sum
    (s.logEv .serviceMismatch 0 7 0 (diff 0).natAbs (diff 1).natAbs).onNrg (fun n => { n with svc := v })

/-- R252 step 4: every open session is withdrawn and ends at the last tick of the record. -/
def State.withdrawAll (s : State) (last : Nat) : State :=
  (idx 6).foldl (fun (s : State) (o : Fin 6) =>
    let sid := (s.bil.attr[o]).sid
    let s1 := s.onBil (fun b => { b with holds := upd b.holds o (fun l => l.map (fun h => if h.outcome = none then { h with outcome := some false } else h)) })
    let s2 := if sid = 0 then s1 else (s1.billOutcome o sid (last + 1) false).billEnd o last
    s2.onJournal (fun b => { b.rebook o 5 last (fun _ x => x.attr == .pending) .service none with
                                attr := upd b.attr o (fun a => { a with cur := a.attr, curSid := a.sid }) })) s

/-- R252: the replay; `r` is the restored metrology record. Answers the periods that closed. -/
def State.replayBilling (s : State) (r : Option SaveRecord) (cold : Bool) : List PeriodClose × State :=
  let last := (r.map (·.lastTickTb)).getD 0
  let b := (r.map (·.billTime)).getD 0
  let s1 := ((s.loadBilling b cold).loadSvc).onBil (fun x =>
    let y := x.rewind last
    if r.isNone then { y with ticks := [] } else { y with lastB := if b = 0 then none else some b })
  let a := s1.replayTo (last - 200 * tbTick)
  let s2 := a.2.moveHolds.checkSvc s.nrg.svc
  let s3 := s2.withdrawAll last
  let c := s3.replayTo last
  (a.1 ++ c.1, c.2.moveHolds)

/-- R248, R249: bill time after the boot or the wake, and what the outage touched. -/
def State.resumeTime (s : State) (b : Nat) (wide outage : Bool) : List PeriodClose × State :=
  let s00 := s.onBil (fun x => { x with timeAt := 1000 * b, timeTb := s.clock.tb, lastB := none })
  let s0 := if outage ∧ b ≠ 0 then s00.mark .interrupted b b else s00
  match s.wallNow with
  | none => ([], s0.onBil (fun x => { x with mode := .unknown }))
  | some wall =>
    let s1 := if b = 0 then s0.startBill wall s.clock.tb else s0.meetWall b wall s.clock.tb
    let s3 := if wide then (s1.mark .uncertain (if b = 0 then wall else b) wall).onBil (fun x => { x with wide := true }) else s1
    let now := (s3.billNow).getD wall
    let s4 := s3.onBil (fun x => { x with lastB := some now, tariffNow := Vector.ofFn (fun n => s3.tariffAt n now) })
    s4.closeDue

/-! ### The plan (R147, R148) -/

/-- The stored plan is verified and starts; a refused one leaves the Grate idle with its code. -/
def State.loadPlan (s : State) : State :=
  if (s.fw.comps[(4 : Fin 5)]).running = false then s.startSensing true
  else match checkPlan (s.planCtx true) s.grate.stored true with
  | .ok p => (s.onGrate (fun g => { g with loadErr := 0 })).startPlan p
  | .error e => (s.onGrate (fun g => { g with loadErr := e })).startSensing true

/-! ### From PLL lock to LEVEL 3 (R469 instants 6 and 7, R488 instants 7 and 9) -/

/-- Journal, billing, plan and bounds; `cut` as R219 reads it, `cold` after a cold reset (R244). A seal found open closes once the Grate has
loaded (R260); a journal lost at this boot stays shown until the seal is opened and closed after it (R218). -/
def State.meterUp (s : State) (cut : Nat) (cold : Bool) : State :=
  let r := (s.nrg.pick s.life.rootFused).2
  let s1 := s.restoreJournal
  let a := s1.replayBilling r cold
  let t := a.2.resumeTime ((r.map (·.billTime)).getD 0) (s.pwr.spliceKind != 0 && s.pwr.spliceWide) cold
  let s2 := ((t.2.endRecords).periodRecords (a.1 ++ t.1)).startRecords
  let s3 := s2.loadPlan
  let s4 := match r with
    | some x => (s3.restoreCells x).boundUnbooked x cut
    | none => s3
  if s4.mseal.record.open_ then (s4.closeSeal 2 7).onNrg (fun n => { n with journalLost := s1.nrg.journal == 3 }) else s4

/-- Host ports, the component starts of MODEM, READER and GRATE, and LEVEL 2. -/
def State.linkUp2 (s : State) : State :=
  let s1 := (((s.portsUp).countStart 2).countStart 3).countStart 4
  let s2 := (s1.reloadModems).restartReader
  let s3 := s2.onFw (fun u => { u with checkpoint := u.checkpoint.map (fun c => { c with dropTb := some (s.clock.tb + 120 * tbSecond) }),
                                       comps := u.comps.map (fun c => { c with secTb := s.clock.tb }) })
  s3.onPwr (fun p => { p with level := 2 })

/-- The Fireguard at a boot: loaded and started after a power-on or a brown-out, otherwise checked; the first TB pulse (R348,
R349, R488 instant 8). -/
def State.guardUp (s : State) : State :=
  let s1 := if s.pwr.last ≤ 1 then
      let d := (s.dropAll (idx 6) 13).countStart 1
      d.onGuard (fun g => g.restart 0 true)
    else s
  s1.onGuard (fun g => { g with started := (s1.fw.comps[(1 : Fin 5)]).running, firstPulse := true, clockOk := true, hold := none, holdExpired := false })

/-- R268, R376, R455: the backup domain lost its state. -/
def State.afterBackupLoss (s : State) : State :=
  (((s.onGuard (fun g => { g with tested := false, seenOpen := false })).demandTest 4).tamper T_SUPPLY 3 true).sealWrite (fun r => { r with backupGap := true })

/-- BACKUP_GAP of a loss found at this boot outlasts the close that the same boot makes (R268). -/
def State.keepGap (s : State) (gone : Bool) : State :=
  if gone ∧ s.mseal.record.backupGap = false then s.sealWrite (fun r => { r with backupGap := true }) else s

/-- The record, the ledger and COUNTER as flash gives them (R256, R265, R273): the copies in force; counting resumes at the reserved boundary,
which moves on. -/
def State.sealUp (s : State) : State :=
  s.onMseal (fun m => { m.ledgerRead with record := m.inForce s.life.rootFused, next := m.boundary, boundary := m.boundary + 256 })

/-- After a cold reset the mesh's SEQ starts from a random value (R440). -/
def State.meshSeed (s : State) : State := s.draw.2.onMesh (fun m => { m with seq := s.draw.1 % 256 })

/-- Instants 6 to 9 of R488. The brown-out or cold reset is INTERRUPTED in the spans (R272). -/
def State.bootRun (s : State) (ticks : Nat) : State :=
  let gone := s.pwr.backupLost
  let supply := s.mseal.ledger[T_SUPPLY]
  let cut := if supply.dCount = 0 then 0 else supply.dLastWall
  let s1 := (s.lockPll ticks 2).sealUp.meshSeed
  let s2 := s1.onPwr (fun p => { p with bootWait := none, warm := 0, failovers := 0, pfwCount := 0, warmTbs := [], pfw := false,
                                        cold := if gone then 1 else satAdd 16 p.cold 1, vbatLost := gone, backupLost := false,
                                        lastWake := 0, pendingWake := false, sleepS := 0 })
  let s3 := ((s2.keysUp gone).linkUp2).guardUp
  let s4 := if gone then s3.afterBackupLoss else s3
  let s5 := ((s4.span 0x3F 8).mergeLedger.meterUp cut true).keepGap gone
  s5.onPwr (fun p => { p with level := 3 })

/-! ### The boot ROM (R56, R487, R489) -/

/-- R56: a transition that a power cut left unfinished. -/
def State.finishTransit (s : State) : State :=
  match s.life.inTransit with
  | none => s
  | some t =>
    let s1 := s.forget
    let s2 : State := { s1 with life := { s1.life with state := t, inTransit := none, transitions := s1.life.transitions + 1,
                                                       rootFused := if t = .scrapped then 0 else t.num, nonce := none } }
    if t = .returned then s2.onTag Tag.returned else s2

/-- Indexing resumes at the reserved boundary after a cold reset (R528). -/
def EventLog.resume (l : EventLog) : EventLog :=
  { l with next := l.boundary, boundary := l.boundary + 256, bootGap := l.boundary - l.next, flashOk := true, folds := [] }

/-- The log at a boot: the gap, and the reset. -/
def State.logUp (s : State) : State :=
  let s1 := s.onLog EventLog.resume
  let s2 := if s1.log.bootGap = 0 then s1 else s1.logEv .indexGap 0 7 0 s1.log.bootGap 0
  s2.logEv .reset 0 7 0 s.pwr.last 0

/-- Recovery service: the ROM at LEVEL 1 on FIRC (R489). -/
def State.recover (s : State) (crystal : Bool) : State :=
  s.onPwr (fun p => { p with recovery := true, inReset := false, level := 1, xtal := crystal, pll := false, bootWait := none })

/-- Settings whose home is the sealed record or the local list stay when the schema changes (R512). -/
def schemaKept (a : Nat) : Bool :=
  a / 0x10000 == 5 || a / 0x10000 == 6 || a / 0x10000 == 8
  || a == R.VEH_LIST_SALTk.addr [0] || a == R.VEH_LIST_SALTk.addr [1] || a == R.VEH_LIST_STAT.base

/-- R512: an image with another settings schema starts from defaults; the settings wait in the backup. -/
def State.checkSchema (s : State) : State :=
  if (((s.fw.comps[(0 : Fin 5)]).image.map (·.schema)).getD 0) = s.fw.schema ∨ s.fw.backup.isSome then s
  else
    let s1 : State := { s with regs := s.regs.filter (fun e => schemaKept e.1),
                               fw := { s.fw with backup := some (s.regs, s.fw.stores), defaulted := true,
                                                 stores := s.fw.stores.map (fun _ => { certs := [], slot := 0, expires := 0 }) } }
    s1.demandTest 3

/-- R510: a floor below the SVN of a confirmed image is burned. -/
def Component.burn (c : Component) : Component :=
  if c.judged then c else { c with floor := max c.floor ((c.image.map (·.svn)).getD 0) }

/-- Contactor requests of an earlier run fall when the sequencer starts anew, and the gates with them (R24, R344, R403). -/
def State.requestsOff (s : State) : State := (idx 6).foldl (fun (s : State) (o : Fin 6) => s.request o false) s

/-- HEARTH runs on pair A at FIRC, on pair B where pair A stays off (R28): settings are taken up, floors healed; LEVEL 1. -/
def State.startHearth (s : State) : State :=
  let s1 := (s.onFw (fun u => { u with comps := u.comps.map Component.burn })).checkSchema
  let s2 : State := { s1 with use := s1.regs, hearth := { s1.hearth with
    running := true, pairA := if s1.hearth.failedA then .off else .primary, pairB := if s1.hearth.failedA then .primary else .off,
    checkpointTb := none, busyUntil := 0 } }
  (s2.onPwr (fun p => { p with inReset := false, recovery := false, level := 1 })).requestsOff

/-- `choose_slot` of R508: the HEARTH slot that boots is good. -/
def Component.bootable (c : Component) : Bool := c.running && (c.state == .active || c.state == .verified)

/-- R487: the boot ROM's order. Images in the slots were verified when they were written and verify again. -/
def State.bootRom (s : State) (strap ticks : Nat) (crystal : Bool) : State :=
  let s1 := (s.onPwr (fun p => { p with strap, flashDead := false, bootWait := none })).finishTransit
  if s1.life.state = .scrapped then s1.onPwr (fun p => { p with inReset := false, level := 0 })
  else
    let s2 := s1.logUp
    if strap = 1 then s2.recover crystal
    else
      let s3 := (s2.onFw Update.readRecord).countStart 0
      if (s3.fw.comps[(0 : Fin 5)]).bootable = false then s3.recover crystal
      else
        let s4 := s3.startHearth
        if crystal then s4.bootRun ticks
        else s4.onPwr (fun p => { p with bootWait := some (strap, ticks, false) })

/-- Reset release is due: the cold reset is in force, NRST is high, and safe-off has ended where the reset waits for it. -/
def State.releaseDue (s : State) : Bool :=
  s.pwr.inReset && !s.pwr.nrst && s.pwr.bootWait.isNone && (s.guard.safe.isNone || s.pwr.last != 2)

/-- VIN is there: where it was absent, and no field powers the tag, the tag powers up and replays its commit record (R429). -/
def State.vinUp (s : State) : State :=
  let s1 := s.onPwr (fun p => { p with vin := true, mode := .run })
  if s.pwr.vin = false ∧ s.tag.field = 0 then s1.onTag Tag.replay else s1

/-- COLD_BOOT: reset release (R454, R487, R488). With the flash die silent the ROM waits. -/
def bootNow (strap ticks : Nat) (crystal : Bool) (s : State) : State :=
  if s.releaseDue then
    let s1 := s.vinUp
    if s1.pwr.flashDead then s1.onPwr (fun p => { p with strap, bootWait := some (strap, ticks, crystal) })
    else s1.bootRom strap ticks crystal
  else s

/-- FLASH_RETRY: every 1 s the ROM tries the flash die again (R487). -/
def flashTry (answers : Bool) (s : State) : State :=
  match s.pwr.bootWait with
  | some (strap, ticks, crystal) =>
    if s.pwr.flashDead ∧ s.pwr.inReset then
      if answers then s.bootRom strap (ticks + 32768) crystal
      else s.onPwr (fun p => { p with bootWait := some (strap, ticks + 32768, crystal) })
    else s
  | none => s

/-- CRYSTAL_RETRY: every 1 s the firmware on FIRC tries the crystal again (R473). -/
def crystalTry (starts : Bool) (s : State) : State :=
  match s.pwr.bootWait with
  | some (strap, ticks, _) =>
    if s.hearth.running ∧ s.pwr.xtal = false ∧ s.pwr.inReset = false then
      if starts then s.bootRun (ticks + 32768)
      else s.onPwr (fun p => { p with bootWait := some (strap, ticks + 32768, false) })
    else s
  | none => s

/-! ### WAKE (R464 to R469) -/

/-- LAST_WAKE (R466). -/
def wakeCode : WakeSource → Nat
  | .hp0 => 1 | .hp1 => 2 | .hp2 => 3 | .hp3 => 4 | .pilot => 5 | .tagField => 6 | .mesh => 7 | .alarm => 8

/-- The source is enabled in `PWR_WAKECFG`. -/
def State.wakeOn (s : State) (src : WakeSource) : Bool :=
  let g := fun f => s.fld R.PWR_WAKECFG f [] != 0
  match src with
  | .hp0 => g F.PWR_WAKECFG_HP0 | .hp1 => g F.PWR_WAKECFG_HP1 | .hp2 => g F.PWR_WAKECFG_HP2 | .hp3 => g F.PWR_WAKECFG_HP3
  | .pilot => g F.PWR_WAKECFG_PILOT && s.veh.watched != 0 | .tagField => g F.PWR_WAKECFG_TAG | .mesh => g F.PWR_WAKECFG_MESH | .alarm => g F.PWR_WAKECFG_ALARM

/-- Banks other than E0 that failed their check are logged (R465). -/
def State.logBanks (s : State) (lost : Nat) : State :=
  (List.range 8).foldl (fun (s : State) (n : Nat) => if bitOf lost n then s.logEv .bankLost n 7 0 n 0 else s) s

/-- What is lost with the banks that are not intact (R464): counters and the reader's baseline with E2, the plan image with E7. -/
def State.banksBack (s : State) (intact : Nat) : State :=
  let s1 := if bitOf intact 2 then s
    else ({ s with cnt := Counters.reset }.onRdr (fun r => { r with baseAmp := 0, basePh := 0 })).logEv .countersRestarted 0 7 0 (2 ^ 24 - 1) 0
  if bitOf intact 7 then s1 else s1.logEv .planReload 0 7 0 0 0

/-- The wake with E0 intact: the steps of R469 up to LEVEL 3. -/
def State.wakeUp (s : State) (code ticks bad : Nat) : State :=
  let retained := s.pwr.retain
  let lost := retained &&& bad
  let s1 : State := { s with regs := s.regs.filter (fun e => keptReg e.1 || e.1 == R.LSW_ON.base), sticky := s.sticky.filter (fun e => keptSticky e.1) }
  let s2 := ((s1.startHearth).lockPll ticks 1).sealUp
  let s3 := s2.onPwr (fun p => { p with mode := .run, lastWake := code, retained := retained - lost, lost, retain := 0, pendingWake := ticks == 0,
                                        sleepS := min (2 ^ 32 - 1) (p.spliceDtb / tbSecond) })
  let s4 := (s3.logBanks lost).banksBack (retained - lost)
  let s5 := ((s4.countStart 1).onGuard (fun g => { g with started := (s4.fw.comps[(1 : Fin 5)]).running, firstPulse := true, clockOk := true }))
  let s6 := ((s5.keysUp false).linkUp2).applyOn
  let s7 := s6.mergeLedger.meterUp 0 false
  s7.onPwr (fun p => { p with level := 3 })

/-- WAKE: an enabled source wakes the device; when E0 fails its check, the wake is a cold boot with code 8 (R465, R466). The straps are sampled,
and RECOVERY starts the recovery service of the ROM (R486, R487). -/
def wakeNow (src : WakeSource) (strap ticks : Nat) (bad : BitVec 8) (s : State) : State :=
  if s.pwr.mode = .ember ∧ s.wakeOn src then
    if bitOf bad.toNat 0 then (s.coldReset 8).onPwr (fun p => { p with lost := 0xFF })
    else
      let s1 := s.onPwr (fun p => { p with strap })
      if strap = 1 then (s1.onPwr (fun p => { p with mode := .run, lastWake := wakeCode src })).recover true
      else s1.wakeUp (wakeCode src) ticks bad.toNat
  else s

/-! ### The meanings -/

def execColdBoot (strap : Fin 4) (rtcTicks : Nat) (crystal : Bool) (s : State) : Host.Outcome State Fault Refusal := .next (bootNow strap.1 rtcTicks crystal s)
def execFlashRetry (answers : Bool) (s : State) : Host.Outcome State Fault Refusal := .next (flashTry answers s)
def execCrystalRetry (starts : Bool) (s : State) : Host.Outcome State Fault Refusal := .next (crystalTry starts s)
def execWakeUp (src : WakeSource) (strap : Fin 4) (rtcTicks : Nat) (bad : BitVec 8) (s : State) : Host.Outcome State Fault Refusal := .next (wakeNow src strap.1 rtcTicks bad s)

end Sys2Proof.Machine
end

