-- ==== Sys2Proof/Machine/Former.lean ====
section
/-!
DEFINITION. Former spellings of five commands, for readers of the earlier form of the model: four carried samples that State now holds, and
the wake carried no straps. Each is the present command, and no meaning of its own.
-/

namespace Sys2Proof

/-- CAL_MEASURE with the samples of the cell's input, which GRATE_FRAME now gives (R181). -/
def Instr.calMeasure (j : Slot) (_samples : List Int) : Instr := .calMeasureRun j

/-- ISO_HALF_END with the averages of the half and their validity, which the lane's frames now give (R354). -/
def Instr.isoHalfEnd (n : DcNo) (_up _um : Int) (_ok : Bool) : Instr := .isoHalfEnds n

/-- RCD_EVALUATION with the samples of the mains period, which the port's stream now gives (R361). -/
def Instr.rcdEvaluation (k : Outlet) (_x : List Int) : Instr := .rcdEvaluate k

/-- RCD_SELFTEST_END with the DC component, which the port's stream now gives (R364). -/
def Instr.rcdSelftestEnd (k : Outlet) (_dc : Int) : Instr := .rcdSelftestEnds k

/-- WAKE with the straps at NORMAL (R486). -/
def Instr.wake (src : WakeSource) (rtcTicks : Nat) (bad : BitVec 8) : Instr := .wakeUp src 0 rtcTicks bad

namespace Machine

def execCalMeasure (j : Slot) (_samples : List Int) (s : State) : Host.Outcome State Fault Refusal := execCalMeasureRun j s
def execIsoHalfEnd (n : DcNo) (_up _um : Int) (_ok : Bool) (s : State) : Host.Outcome State Fault Refusal := execIsoHalfEnds n s
def execRcdEvaluation (k : Outlet) (_x : List Int) (s : State) : Host.Outcome State Fault Refusal := execRcdEvaluate k s
def execRcdSelftestEnd (k : Outlet) (_dc : Int) (s : State) : Host.Outcome State Fault Refusal := execRcdSelftestEnds k s
def execWake (src : WakeSource) (rtcTicks : Nat) (bad : BitVec 8) (s : State) : Host.Outcome State Fault Refusal := execWakeUp src 0 rtcTicks bad s

end Machine

end Sys2Proof
end

