-- ==== Sys2Proof/Machine/JobCmds.lean ====
section
/-!
DEFINITION. Jobs as their owners end them: `JOB_CTRLn`, the 600 s of a finished slot (R121, R122), and SET_PASSWORD (R108).
-/

namespace Sys2Proof.Machine

/-- R118: the polder owns the job of a slot, or the slot is idle. -/
def State.ownsJob (s : State) (polder : Nat) (j : Fin 16) : Bool := (s.job j).state == .idle || (s.job j).polder == polder

/-- A job is finished: done, failed or cancelled. -/
def Job.finished (b : Job) : Bool := b.state == .done || b.state == .failed || b.state == .cancelled

/-- CANCEL of `JOB_CTRLn` on a slot in use (R122): LOCKED where CANCELLABLE is 0. An UPDATE that is cancelled ends (R499). -/
def State.jobStop (s : State) (j : Fin 16) : Nat × State :=
  if (s.job j).cancellable then (OK, (s.cancelJob j).dropUpdateOf j) else (LOCKED, s)

/-- RELEASE of `JOB_CTRLn` (R121); ignored while the job waits or runs. -/
def State.jobFree (s : State) (j : Fin 16) : Nat × State :=
  if (s.job j).finished then (OK, s.onJob j (fun _ => Job.reset)) else (OK, s)

/-- One write of `JOB_CTRLn` that the dike lets through; nothing happens on an idle slot (R118). -/
def State.writeJobCtrl (s : State) (j : Fin 16) (v : Nat) : Nat × State :=
  if (s.job j).state = .idle then (OK, s)
  else if F.JOB_CTRLn_CANCEL.get v = 1 then s.jobStop j
  else if F.JOB_CTRLn_RELEASE.get v = 1 then s.jobFree j
  else (OK, s)

/-- JOB_EXPIRE: 600 s after the job finished (R121). -/
def jobExpire (j : Slot) (s : State) : State :=
  if (s.job j).finished ∧ (s.job j).finishTb + 600 * tbSecond ≤ s.clock.tb then s.onJob j (fun _ => Job.reset) else s

/-- The stored K of a polder's password is replaced (R108). -/
def State.setPasswordOf (s : State) (polder : Nat) (k : Option Bytes) : State :=
  s.onHost (fun h => if polder = 3 then { h with password3 := k } else { h with password5 := k })

/-- SET_PASSWORD: job 0x02 (R108, R570). -/
def setPassword (j : Slot) (polder len : Nat) (pw : Bytes) (s : State) : State :=
  if s.jobTurn j 0x02 then
    if (polder ≠ 3 ∧ polder ≠ 5) ∨ (1 ≤ len ∧ len ≤ 7) ∨ 32 < len ∨ pw.length ≠ len then s.finishJob j BADFRAME
    else
      let k := if len = 0 then none else some (sha384 (leBytes 8 s.life.serial.toNat ++ pw))
      ((s.setPasswordOf polder k).closeWhere (fun h => h.polder == polder && h.password)).finishJob j 0
  else s

/-! ### The meanings -/

def execJobExpire (j : Slot) (s : State) : Host.Outcome State Fault Refusal := .next (jobExpire j s)
def execSetPassword (j : Slot) (polder len : Nat) (pw : Bytes) (s : State) : Host.Outcome State Fault Refusal := .next (setPassword j polder len pw s)

end Sys2Proof.Machine
end

