-- ==== Sys2Proof/Machine/RegWrite.lean ====
section
/-!
DEFINITION. One write of each writable register, as the field tables of the chapters give it: limits on values, fields that a
write leaves alone, LOCKED while a block runs (R11), and what the write does beyond the store.
-/

namespace Sys2Proof.Machine

/-- A write that the dike lets through: by the session and its polder, at the register's indices, of a word. It answers a status. -/
abbrev Writer := Fin 64 → Nat → List Nat → W64 → State → Nat × State

/-- A register whose RW fields take the value, limited by `clamp`. -/
def plainWriter (r : RegSpec) (clamp : Nat → Nat) : Writer := fun _ _ ix v s => s.putFields r ix v.toNat clamp false

/-! ### SYS, SES, KEY, GRT, MET: selections and statuses -/

/-- `SYS_STATUS`: the W1C bits clear (R6). -/
def State.clearStatus (s : State) (v : Nat) : State :=
  let m := R.SYS_STATUS.maskOf (fun f => f.acc == .w1c)
  { s with sticky := putKey R.SYS_STATUS.base (mergeMask (s.kept R.SYS_STATUS []) 0 (v &&& m)) s.sticky }

/-- `SES_SLUICE_STATn`: ones written clear the bits of OVERFLOWS. -/
def State.clearOverflows (s : State) (n : Fin 8) (v : Nat) : State :=
  s.onHost (fun h => { h with sluices := upd h.sluices n (fun q => { q with overflows := mergeMask q.overflows 0 (F.SES_SLUICE_STATn_OVERFLOWS.get v) }) })

/-- The limits of `SES_DAMPER`. -/
def clampDamper (v : Nat) : Nat :=
  F.SES_DAMPER_P3_RATE.limit 1 10000 (F.SES_DAMPER_P3_BURST.limit 1 512 (F.SES_DAMPER_P5_RATE.limit 1 10000 (F.SES_DAMPER_P5_BURST.limit 1 512 v)))

/-- A write of `SES_DAMPER`: the buckets are brought up to date at the old rate before the new one holds (R115); a bucket holds no more than its
size. -/
def State.writeDamper (s : State) (v : Nat) : Nat × State :=
  let settle := fun (s : State) => s.onHost (fun h => { h with table := h.table.map (fun u => match u with
    | .host x => .host { x with bucket := s.bucketNow x, refillTb := s.clock.tb }
    | u => u) })
  let a := (settle s).putFields R.SES_DAMPER [] v clampDamper false
  (a.1, settle a.2)

/-- A session's own selections. -/
def State.selectSlot (s : State) (i : Fin 64) (v : Nat) : State := s.onSession i (fun h => { h with keySel := F.KEY_SLOT_SEL_SLOT.get v })
def State.selectCal (s : State) (i : Fin 64) (v : Nat) : State := s.onSession i (fun h => { h with calSel := F.MET_CAL_SEL_SLOT.get v })
def State.selectProbe (s : State) (i : Fin 64) (v : Nat) : State := s.onSession i (fun h => { h with probeSel := F.GRT_PROBE_SEL_SOURCE.get v })

/-! ### Metrology settings: part of the sealed record (R255) -/

/-- The limits of `MET_FG_CFGn`; MODE 3 reads back as 0. -/
def clampFluxgate (v : Nat) : Nat :=
  let w := F.MET_FG_CFGn_DIV.limit 750 6000 (F.MET_FG_CFGn_ILIM.limit 2 40 (F.MET_FG_CFGn_THRESH.limit 4 14 v))
  if F.MET_FG_CFGn_MODE.get w = 3 then F.MET_FG_CFGn_MODE.set w 0 else w

/-- The limits of `NRG_PULSE_CFGn`. -/
def clampPulse (v : Nat) : Nat := F.NRG_PULSE_CFGn_WIDTH.limit 1 480 v

/-- A metrology setting: the write goes to the sealed record too. -/
def sealedWriter (r : RegSpec) (clamp : Nat → Nat) : Writer := fun _ _ ix v s =>
  let a := s.putFields r ix v.toNat clamp false
  (a.1, a.2.sealWrite id)

/-! ### BIL -/

/-- A signed 16-bit count of minutes limited to ±840. -/
def clampMinutes (f : Field) (v : Nat) : Nat := f.set v (unsigned 16 (max (-840) (min 840 (signed 16 (f.get v)))))

/-- The limits of `BIL_CALCFG`. -/
def clampOffsets (v : Nat) : Nat := clampMinutes F.BIL_CALCFG_OFFSET (clampMinutes F.BIL_CALCFG_NEXT_OFFSET v)

/-- The limits of `BIL_DEMCFG`. -/
def clampDemand (v : Nat) : Nat := F.BIL_DEMCFG_LEN.limit 0 4 (F.BIL_DEMCFG_N.limit 2 15 (F.BIL_DEMCFG_ALIGN.limit 0 59 v))

/-! ### VEH -/

/-- `VEH_PINCFGn`: PLC is fixed on D0 to D3, and PLCA exists there alone. -/
def State.writePin (s : State) (o : Fin 6) (v : Nat) : Nat × State :=
  s.putFields R.VEH_PINCFGn [o.1] v (fun w =>
    if isDc o then F.VEH_PINCFGn_PLC.set w (s.fld R.VEH_PINCFGn F.VEH_PINCFGn_PLC [o.1]) else F.VEH_PINCFGn_PLCA.set w 0) false

/-- The limits of `VEH_AUTHCFG` and `VEH_DAMPER`. -/
def clampAuth (v : Nat) : Nat := F.VEH_AUTHCFG_DEADLINE.limit 5 55 v
def clampVehDamper (v : Nat) : Nat :=
  F.VEH_DAMPER_MGMT_RATE.limit 1 1000 (F.VEH_DAMPER_MGMT_BURST.limit 1 256 (F.VEH_DAMPER_DATA_RATE.limit 100 10000 (F.VEH_DAMPER_DATA_BURST.limit 8 512 v)))

/-- A write of `VEH_DAMPER`: the buckets are brought up to date at the old rates before the new ones hold (R311). -/
def State.writeVehDamper (s : State) (v : Nat) : Nat × State :=
  let settle := fun (s : State) => s.onVeh (fun x => { x with modems := x.modems.map (fun m => m.refill s.clock.tb (s.reg R.VEH_DAMPER [])) })
  let a := (settle s).putFields R.VEH_DAMPER [] v clampVehDamper false
  (a.1, settle a.2)

/-- `VEH_LISTWk`: words 0 and 1 are held, word 2 applies the entry (R310). -/
def State.writeListWord (s : State) (k : Nat) (v : W64) : Nat × State :=
  if k = 2 then s.applyList v.toNat else (OK, s.setReg R.VEH_LISTWk [k] v.toNat)

/-! ### SEQ -/

/-- The limits of `SEQ_CFGn`: LOCK_LS 23 to 30 is none, CHECK_V stays within the STRUCTURE nominal voltage. -/
def State.writeSeqCfg (s : State) (o : Fin 6) (v : Nat) : Nat × State :=
  s.putFields R.SEQ_CFGn [o.1] v (fun w =>
    let w1 := F.SEQ_CFGn_CHECK_V.set w (min (s.outRec o).volt (F.SEQ_CFGn_CHECK_V.get w))
    if 23 ≤ F.SEQ_CFGn_LOCK_LS.get w1 then F.SEQ_CFGn_LOCK_LS.set w1 0x1F else w1) false

/-- The limits of `SEQ_THERMCFGn`. -/
def clampThermal (v : Nat) : Nat :=
  let d := F.SEQ_THERMCFGn_T_DERATE.get v
  let w := if F.SEQ_THERMCFGn_T_MAX.get v ≤ d then F.SEQ_THERMCFGn_T_MAX.set v (d + 1) else v
  F.SEQ_THERMCFGn_MIN_DUTY.limit 0 100 w

/-- The limits of `SEQ_GUARD_CFG`. -/
def clampGuardCfg (v : Nat) : Nat := F.SEQ_GUARD_CFG_MARGIN.limit 0 500 v

/-! ### LSW -/

/-- `LSW_PGk`: the block runs, for DUTY, while the sequencer owns it (R390); PERIOD and DUTY act from the next period on (R389). -/
def State.writePg (s : State) (k : Nat) (v : Nat) : Nat × State :=
  let a := s.putFields R.LSW_PGk [k] v (fun w => F.LSW_PGk_PERIOD.limit 100 40000 (F.LSW_PGk_DUTY.limit 0 256 w)) (s.pgOwned k)
  if a.1 = OK then (OK, a.2.pgSync (Fin.ofNat 8 k)) else a

/-- Modes in which a channel is held or drives a contactor (R384). -/
def heldMode (m : Nat) : Bool := m == 3 || m == 4 || m == 6 || m == 7

/-- What `LSW_CFGn` reads back. -/
def clampLsw (v : Nat) : Nat :=
  let w := if 8 ≤ F.LSW_CFGn_MODE.get v then F.LSW_CFGn_MODE.set v 0 else v
  let w1 := F.LSW_CFGn_OUTPUT.limit 0 5 (F.LSW_CFGn_RETRY_DELAY.limit 1 255 (F.LSW_CFGn_LIMIT_TIME.limit 1 255 w))
  if heldMode (F.LSW_CFGn_MODE.get w1) then F.LSW_CFGn_HOLD.set w1 1 else w1

/-- `LSW_CFGn`: MODE and OUTPUT stand while the channel is on, and while the present or the new mode is 3, 4, 6 or 7 and any HV_EN is
raised. A channel that leaves HOST and PWM loses its bit in `LSW_ON` (R385). -/
def State.writeChan (s : State) (n : Fin 24) (v : Nat) : Nat × State :=
  let runs := (s.chan n).isOn || (s.anyHv && (heldMode (s.lsMode n.1) || heldMode (F.LSW_CFGn_MODE.get (clampLsw v))))
  let a := s.putFields R.LSW_CFGn [n.1] v clampLsw runs
  if a.1 = OK then (OK, ((a.2.setReg R.LSW_ON [] (a.2.reg R.LSW_ON [] &&& a.2.onMask)).applyChan n).phaseSync n) else a

/-! ### MSH, PWR, CNT -/

/-- `MSH_CFG`: NODE_ID stands while ENABLE is 1; a new one clears CLASH (R446). -/
def State.writeMesh (s : State) (v : Nat) : Nat × State :=
  let id := s.fld R.MSH_CFG F.MSH_CFG_NODE_ID []
  let a := s.putFields R.MSH_CFG [] v (fun w => w) (s.fld R.MSH_CFG F.MSH_CFG_ENABLE [] == 1)
  if a.1 = OK ∧ a.2.fld R.MSH_CFG F.MSH_CFG_NODE_ID [] ≠ id then (OK, a.2.onMesh (fun m => { m with clash := false })) else a

/-- The limits of `MSH_DAMPER`. -/
def clampMeshDamper (v : Nat) : Nat :=
  F.MSH_DAMPER_ORIG_RATE.limit 1 60 (F.MSH_DAMPER_ORIG_BURST.limit 1 8 (F.MSH_DAMPER_RELAY_RATE.limit 1 180 (F.MSH_DAMPER_RELAY_BURST.limit 1 16 v)))

/-- A write of `MSH_DAMPER`: the buckets are brought up to date at the old rates before the new ones hold (R449). -/
def State.writeMeshDamper (s : State) (v : Nat) : Nat × State :=
  let settle := fun (s : State) => s.onMesh (fun m => m.refill s.clock.tb (s.reg R.MSH_DAMPER []))
  let a := (settle s).putFields R.MSH_DAMPER [] v clampMeshDamper false
  (a.1, settle a.2)

/-- `PWR_WAKECFG`: 3 reads back as 2. -/
def clampWake (v : Nat) : Nat :=
  F.PWR_WAKECFG_HP0.limit 0 2 (F.PWR_WAKECFG_HP1.limit 0 2 (F.PWR_WAKECFG_HP2.limit 0 2 (F.PWR_WAKECFG_HP3.limit 0 2 v)))

/-- `CNT_MASKp`: P2 may narrow the masks of P3 and P5 within the default, no others (R518). -/
def State.writeMask (s : State) (i : Nat) (v : Nat) : Nat × State :=
  if i = 2 ∨ i = 4 then (OK, s.setReg R.CNT_MASKp [i] (v &&& R.CNT_MASKp.resetAt (R.CNT_MASKp.addr [i]))) else (DENIED, s)

/-- Answer OK with a state. -/
def okWith (s : State) : Nat × State := (OK, s)

/-! ### The table -/

/-- How the write of each register goes; a register that is not listed takes its RW fields as they are written. -/
def writers : List (Nat × Writer) :=
  [(R.SYS_STATUS.base, fun _ _ _ v s => okWith (s.clearStatus v.toNat)),
   (R.SYS_RESET.base, fun _ _ _ v s => s.writeReset v.toNat),
   (R.SES_SLUICE_STATn.base, fun _ _ ix v s => okWith (s.clearOverflows (Fin.ofNat 8 (i0 ix)) v.toNat)),
   (R.SES_PORTCFGn.base, fun _ _ ix v s => s.writePort (Fin.ofNat 4 (i0 ix)) v.toNat),
   (R.SES_DAMPER.base, fun _ _ _ v s => s.writeDamper v.toNat),
   (R.JOB_CTRLn.base, fun _ _ ix v s => s.writeJobCtrl (Fin.ofNat 16 (i0 ix)) v.toNat),
   (R.KEY_SLOT_SEL.base, fun i _ _ v s => okWith (s.selectSlot i v.toNat)),
   (R.GRT_SWAP.base, fun _ p _ v s => s.writeSwap p v.toNat),
   (R.GRT_PROBE_SEL.base, fun i _ _ v s => okWith (s.selectProbe i v.toNat)),
   (R.MET_MCLK_CFG.base, sealedWriter R.MET_MCLK_CFG (fun v => v)),
   (R.MET_FG_CFGn.base, sealedWriter R.MET_FG_CFGn clampFluxgate),
   (R.MET_CAL_SEL.base, fun i _ _ v s => okWith (s.selectCal i v.toNat)),
   (R.NRG_PULSE_CFGn.base, sealedWriter R.NRG_PULSE_CFGn clampPulse),
   (R.SEAL_TAMPCFG.base, sealedWriter R.SEAL_TAMPCFG (fun v => v)),
   (R.BIL_TIMESET.base, fun _ _ _ v s => s.writeTimeset v.toNat),
   (R.BIL_CALCFG.base, plainWriter R.BIL_CALCFG clampOffsets),
   (R.BIL_TCMD.base, fun _ _ _ v s => s.writeTcmd v.toNat),
   (R.BIL_DEMCFG.base, plainWriter R.BIL_DEMCFG clampDemand),
   (R.BIL_DSYNC.base, fun _ _ _ v s => s.writeDsync v.toNat),
   (R.VEH_PINCFGn.base, fun _ _ ix v s => s.writePin (Fin.ofNat 6 (i0 ix)) v.toNat),
   (R.VEH_AUTHCFG.base, plainWriter R.VEH_AUTHCFG clampAuth),
   (R.VEH_DECIDEn.base, fun _ _ ix v s => okWith (s.takeDecision (Fin.ofNat 6 (i0 ix)) v.toNat)),
   (R.VEH_DAMPER.base, fun _ _ _ v s => s.writeVehDamper v.toNat),
   (R.VEH_LIST_SALTk.base, fun _ _ ix v s => s.writeSalt (i0 ix) v),
   (R.VEH_LISTWk.base, fun _ _ ix v s => s.writeListWord (i0 ix) v),
   (R.SEQ_CFGn.base, fun _ _ ix v s => s.writeSeqCfg (Fin.ofNat 6 (i0 ix)) v.toNat),
   (R.SEQ_THERMCFGn.base, plainWriter R.SEQ_THERMCFGn clampThermal),
   (R.SEQ_GUARD_CFG.base, plainWriter R.SEQ_GUARD_CFG clampGuardCfg),
   (R.SEQ_CMD.base, fun _ _ _ v s => s.writeSeqCmd v.toNat),
   (R.FG_ISOCFGn.base, fun _ _ ix v s => s.writeFg R.FG_ISOCFGn (i0 ix) (Fin.ofNat 6 (i0 ix)) v.toNat),
   (R.FG_ISOLIMn.base, fun _ _ ix v s => s.writeFg R.FG_ISOLIMn (i0 ix) (Fin.ofNat 6 (i0 ix)) v.toNat),
   (R.FG_RCDCFGk.base, fun _ _ ix v s => s.writeFg R.FG_RCDCFGk (i0 ix) (Fin.ofNat 6 (i0 ix + 4)) v.toNat),
   (R.FG_WELDCFGn.base, fun _ _ ix v s => s.writeFg R.FG_WELDCFGn (i0 ix) (Fin.ofNat 6 (i0 ix)) v.toNat),
   (R.LSW_ON.base, fun _ _ _ v s => okWith (s.writeOn v.toNat)),
   (R.LSW_CLEAR.base, fun _ _ _ v s => okWith (s.writeClear v.toNat)),
   (R.LSW_PGk.base, fun _ _ ix v s => s.writePg (i0 ix) v.toNat),
   (R.LSW_CFGn.base, fun _ _ ix v s => s.writeChan (Fin.ofNat 24 (i0 ix)) v.toNat),
   (R.NFC_RDCFG.base, fun _ _ _ v s => s.writeRdcfg v.toNat),
   (R.NFC_TEST.base, fun _ _ _ v s => s.writeTest v.toNat),
   (R.NFC_BIND.base, fun _ _ _ v s => okWith (s.writeBind v.toNat)),
   (R.NFC_XCHG.base, fun _ _ _ v s => s.writeXchg v.toNat),
   (R.NFC_TAGCFG.base, fun _ _ _ v s => s.writeTagcfg v.toNat),
   (R.NFC_TAGPWD.base, fun _ _ _ v s => s.writeTagpwd v.toNat),
   (R.MSH_CFG.base, fun _ _ _ v s => s.writeMesh v.toNat),
   (R.MSH_DAMPER.base, fun _ _ _ v s => s.writeMeshDamper v.toNat),
   (R.PWR_SLEEPCFG.base, fun _ _ _ v s => s.writeSleep v.toNat),
   (R.PWR_WAKECFG.base, plainWriter R.PWR_WAKECFG clampWake),
   (R.UPD_CTRL.base, fun _ _ _ v s => s.writeCtrl v.toNat),
   (R.CNT_MASKp.base, fun _ _ ix v s => s.writeMask (i0 ix) v.toNat),
   (R.CNT_BWCFG.base, fun _ _ _ v s => s.writeBw v.toNat)]

/-- The write of a register that the dike lets through. -/
def writeReg (r : RegSpec) : Writer := ((writers.find? (fun w => w.1 == r.base)).map (·.2)).getD (plainWriter r (fun v => v))

end Sys2Proof.Machine
end

