-- ==== Sys2Proof/Machine/Access.lean ====
section
/-!
DEFINITION. READ and WRITE of registers and windows (R83, R84, R102, R125): what an address decodes to, the dike's word on it, DARK,
the fields that a read clears, and the windows of the sluices, the relay, the card exchange, job results, tag memory and the
log export.
-/

namespace Sys2Proof.Machine

/-! ### The dike's word (R39, R42, R51, R77, R118, R518, R569) -/

/-- What a commissioning session may read (R569). -/
def State.commRead (s : State) (r : RegSpec) (ix : List Nat) : Bool :=
  r.base == R.SES_SELF.base || r.base == R.KEY_LIFECYCLE.base ||
  (r.base == R.JOB_STATUSn.base && (s.job (Fin.ofNat 16 (i0 ix))).commissioning)

/-- A session may read a register now. -/
def State.mayRead (s : State) (i : Fin 64) (h : Session) (r : RegSpec) (ix : List Nat) : Bool :=
  s.grantOk (r.rd.of h.polder) && (!h.commissioning || s.commRead r ix) &&
  (match r.rd.special with
   | .sluiceEnds => h.polder == sluiceTo (i0 ix) || h.polder == sluiceFrom (i0 ix)
   | .sluiceTo => h.polder == sluiceTo (i0 ix)
   | .jobOwner => s.ownsJob h.polder (Fin.ofNat 16 (i0 ix))
   | .ownGrants => s.grantOf (s.selSlot i) == h.polder
   | .cntMask => bitOf (s.reg R.CNT_MASKp [h.polder - 1]) (i0 ix)
   | .maskPolder => h.polder == 2 || h.polder == i0 ix + 1
   | .plain | .own | .holder => true)

/-- A session may write a register now; in recovery ACTIVATE alone (R516), in a commissioning session nothing (R569). -/
def State.mayWriteAt (s : State) (i : Fin 64) (h : Session) (r : RegSpec) (ix : List Nat) (v : Nat) : Bool :=
  s.grantOk (r.wr.of h.polder) && !h.commissioning && (!s.pwr.recovery || r.base == R.UPD_CTRL.base) &&
  (match r.wr.special with
   | .sluiceEnds => h.polder == sluiceTo (i0 ix) || h.polder == sluiceFrom (i0 ix)
   | .sluiceTo => h.polder == sluiceTo (i0 ix)
   | .jobOwner => s.ownsJob h.polder (Fin.ofNat 16 (i0 ix))
   | .holder => s.ctrlGrant i.1 h.polder v
   | .plain => r.base != R.CNT_MASKp.base || i0 ix == 2 || i0 ix == 4
   | .ownGrants | .own | .cntMask | .maskPolder => true)

/-! ### DARK (R32, R125) -/

/-- Block `b` is dark: at level 1 and below only SYS, SES, JOB and UPD answer. -/
def State.isDark (s : State) (b : Nat) : Bool := decide (s.serviceLevel ≤ 1) && !(b == 0 || b == 1 || b == 2 || b == 0x10)

/-- A DARK access to block `b`, by its address bits [23:16], is counted. What one access is the rules do not say (log entry 102): each dark
register of a READ or WRITE counts one, a frame to a dark window counts one. -/
def State.darkAccess (s : State) (b : Nat) : State :=
  (s.onHost (fun h => { h with darkCount := satAdd 32 h.darkCount 1, darkBlock := b % 256 })).latch R.SYS_STATUS [] F.SYS_STATUS_DARK.mask

/-! ### What a read leaves (R6, R7) -/

/-- Fields that a completed read clears. -/
def RegSpec.clearMask (r : RegSpec) : Nat := r.maskOf (fun f => f.acc == .rc || f.acc == .lh || f.acc == .ll)

/-- After the read an LH or LL field follows the live condition again (R6): one that holds (LL: that is false) now has held since this read,
and is kept for the next one. -/
def State.rearm (s : State) (i : Fin 64) (r : RegSpec) (ix : List Nat) : State :=
  let v := (s.readReg i r ix).toNat
  let ll := r.maskOf (fun f => f.acc == .ll)
  let held := if r.base = R.PWR_TEMP.base then (if s.dieHot then F.PWR_TEMP_HOT.mask else 0)
    else (v &&& r.maskOf (fun f => f.acc == .lh)) ||| (ll - (v &&& ll))
  if held = 0 then s else s.latch r ix held

/-- RC, LH and LL fields of a register are cleared. -/
def State.clearRead (s : State) (i : Fin 64) (r : RegSpec) (ix : List Nat) : State :=
  let k := s.kept r ix
  let s1 : State := if k &&& r.clearMask = 0 then s else { s with sticky := putKey (r.addr ix) (mergeMask k 0 r.clearMask) s.sticky }
  if r.base = R.GRT_PROBE_FLAGS.base then
    match s.probeMa i with
    | some m => s1.onGrate (fun g => { g with ma := upd g.ma m (fun c => { c with saturated := false }) })
    | none => s1
  else if r.base = R.MET_CAL_STATE.base then s1.onSens (fun x => { x with track := upd x.track (s.selCal i) (fun t => { t with limitHit := false }) })
  else if r.base = R.CNT_BWPEAKn.base then s1.onCnt (fun c => { c with bw := upd c.bw (Fin.ofNat 4 (i0 ix)) (fun b => { b with peakIn := 0, peakOut := 0 }) })
  else if r.base = R.CNT_EVk.base then
    s1.onCnt (fun c => { c with wrap := upd c.wrap (Fin.ofNat 24 (i0 ix)) (fun w => mergeMask w 0 (2 ^ s.polderOf i)) })
  else s1

/-- A read of a job's status word by its owner (R124). -/
def State.seeJob (s : State) (r : RegSpec) (ix : List Nat) : State :=
  if r.base = R.JOB_STATUSn.base then s.onJob (Fin.ofNat 16 (i0 ix)) (fun b => if b.finished then { b with seen := true } else b) else s

/-- Registers that answer NOTIME while time is unknown (R248). -/
def needsTime (r : RegSpec) : Bool :=
  r.base == R.BIL_CLOCK.base || r.base == R.BIL_LEAD.base || r.base == R.BIL_PROVn.base || r.base == R.BIL_DEMEn.base

/-! ### Registers, one by one (R102) -/

/-- How an access of several words went: the status, the words read or the count written, the payload of a BUSY, the registers whose
fields a completed read clears. -/
structure Run where
  status : Nat
  count : Nat
  words : List W64
  extra : List W64
  read : List (RegSpec × List Nat)
  state : State

/-- The access stops here. -/
def Run.stop (s : State) (status : Nat) (extra : List W64) : Run := { status, count := 0, words := [], extra, read := [], state := s }

/-- One more word before the rest of a run; DARK stands unless a later word stops the access. -/
def Run.after (r : Run) (w : W64) (dark : Bool) (read : List (RegSpec × List Nat)) : Run :=
  { r with status := if dark ∧ r.status = OK then DARK else r.status, count := r.count + 1, words := w :: r.words, read := read ++ r.read }

/-- Read `n` registers from address `a`. -/
def State.readRun (i : Fin 64) (h : Session) : Nat → Nat → State → Run
  | 0, _, s => Run.stop s OK []
  | n + 1, a, s =>
    match regAt a with
    | none => Run.stop s NOADDR []
    | some (r, ix) =>
      if s.mayRead i h r ix = false then Run.stop (s.dikeRefuse h.polder h.port.1 a) DENIED []
      else if s.isDark (a / 0x10000) then ((s.darkAccess (a / 0x10000)).readRun i h n (a + 8)).after 0#64 true []
      else if needsTime r ∧ s.clock.wall.isNone then Run.stop s NOTIME []
      else ((s.seeJob r ix).readRun i h n (a + 8)).after (s.readReg i r ix) false [(r, ix)]

/-- Write words to registers from address `a`. -/
def State.writeRun (i : Fin 64) (h : Session) : List W64 → Nat → State → Run
  | [], _, s => Run.stop s OK []
  | v :: vs, a, s =>
    match regAt a with
    | none => Run.stop s NOADDR []
    | some (r, ix) =>
      if s.mayWriteAt i h r ix v.toNat = false then Run.stop (s.dikeRefuse h.polder h.port.1 a) DENIED []
      else if s.isDark (a / 0x10000) then ((s.darkAccess (a / 0x10000)).writeRun i h vs (a + 8)).after v true []
      else
        let w := writeReg r i h.polder ix v s
        if w.1 = OK then (w.2.writeRun i h vs (a + 8)).after v false []
        else Run.stop w.2 w.1 (if w.1 = BUSY then [busyWord 0 7] else [])

/-- A READ of registers: fields clear when the whole READ completes with OK. -/
def State.readRegs (s : State) (i : Fin 64) (h : Session) (a n : Nat) : Act :=
  let r := s.readRun i h n a
  { status := r.status, count := r.count, payload := r.words,
    state := if r.status = OK then r.read.foldl (fun (s : State) x => (s.clearRead i x.1 x.2).rearm i x.1 x.2) r.state else r.state }

/-- A WRITE of registers. -/
def State.writeRegs (s : State) (i : Fin 64) (h : Session) (a : Nat) (v : List W64) : Act :=
  let r := s.writeRun i h v a
  { status := r.status, count := r.count, payload := r.extra, state := r.state }

/-! ### Sluices (R48 to R51) -/

/-- One message into a sluice: whole, or FULL. -/
def State.sluicePut (s : State) (n : Fin 8) (msg : List W64) : Nat × State :=
  if 8 ≤ (s.host.sluices[n]).msgs.length then
    (FULL, s.onHost (fun h => { h with sluices := upd h.sluices n (fun q => { q with overflows := satAdd 16 q.overflows 1 }) }))
  else (OK, s.onHost (fun h => { h with sluices := upd h.sluices n (fun q => { q with msgs := q.msgs ++ [msg] }) }))

/-- The oldest message of a sluice, cut to the words asked for, and removed. -/
def State.sluiceTake (s : State) (n : Fin 8) (want : Nat) : List W64 × State :=
  (((s.host.sluices[n]).msgs.headD []).take want,
   s.onHost (fun h => { h with sluices := upd h.sluices n (fun q => { q with msgs := q.msgs.drop 1 }) }))

/-! ### Windows (R83, R84) -/

/-- The windows of the address map. -/
inductive Window
  | sluiceTx (n : Fin 8)
  | sluiceRx (n : Fin 8)
  | cardCommand
  | cardAnswer
  | relayRequest (o : Fin 6)
  | relayAnswer (o : Fin 6)
  | results (j : Fin 16)
  | tag
  | log
deriving DecidableEq, Repr

/-- The window at an address: which, its base and its size in bytes. -/
def windowAt (a : Nat) : Option (Window × Nat × Nat) :=
  if 0x11000 ≤ a ∧ a < 0x11800 then some (.sluiceTx (Fin.ofNat 8 (a / 0x100)), a / 0x100 * 0x100, 0x100)
  else if 0x11800 ≤ a ∧ a < 0x12000 then some (.sluiceRx (Fin.ofNat 8 (a / 0x100)), a / 0x100 * 0x100, 0x100)
  else if 0xD1000 ≤ a ∧ a < 0xD1200 then some (.cardCommand, 0xD1000, 0x200)
  else if 0xD1200 ≤ a ∧ a < 0xD1400 then some (.cardAnswer, 0xD1200, 0x200)
  else if 0x94000 ≤ a ∧ a < 0xA0000 then
    (if a / 0x1000 % 2 = 0 then some (.relayRequest (Fin.ofNat 6 ((a - 0x94000) / 0x2000)), a / 0x1000 * 0x1000, 0x1000)
     else some (.relayAnswer (Fin.ofNat 6 ((a - 0x94000) / 0x2000)), a / 0x1000 * 0x1000, 0x1000))
  else if 0x10000000 ≤ a ∧ a < 0x11000000 then some (.results (Fin.ofNat 16 (a / 0x100000)), a / 0x100000 * 0x100000, 0x100000)
  else if 0x20000000 ≤ a ∧ a < 0x20004000 then some (.tag, 0x20000000, 0x4000)
  else if 0x30000000 ≤ a ∧ a < 0x30080000 then some (.log, 0x30000000, 0x80000)
  else none

/-- The block of a window, for DARK. -/
def Window.block : Window → Nat
  | .sluiceTx _ => 1 | .sluiceRx _ => 1 | .cardCommand => 0xD | .cardAnswer => 0xD | .relayRequest _ => 9 | .relayAnswer _ => 9
  | .results _ => 2 | .tag => 0x2000 | .log => 0x3000

/-- A sluice's window is reached from its first word alone. -/
def Window.startOk (w : Window) (off : Nat) : Bool :=
  match w with | .sluiceTx _ => off == 0 | .sluiceRx _ => off == 0 | _ => true

/-- A polder may read a window. -/
def State.mayReadWindow (s : State) (h : Session) (w : Window) (off : Nat) : Bool :=
  match w with
  | .sluiceRx n => !h.commissioning && h.polder == sluiceTo n.1
  | .cardAnswer | .relayRequest _ => !h.commissioning && h.polder == 2
  | .results j => s.ownsJob h.polder j && (!h.commissioning || (s.job j).commissioning)
  | .tag => !h.commissioning && (h.polder == 2 || h.polder == 3 || h.polder == 4) && decide (0x100 ≤ off)
  | .log => !h.commissioning && decide (1 ≤ h.polder) && decide (h.polder ≤ 4)
  | .sluiceTx _ | .cardCommand | .relayAnswer _ => false

/-- A polder may write a window. -/
def State.mayWriteWindow (s : State) (h : Session) (w : Window) (off : Nat) : Bool :=
  !h.commissioning && !s.pwr.recovery &&
  (match w with
   | .sluiceTx n => h.polder == sluiceFrom n.1
   | .cardCommand | .relayAnswer _ => h.polder == 2
   | .tag => s.mayWriteTag h.polder && decide (0x100 ≤ off)
   | .sluiceRx _ | .cardAnswer | .relayRequest _ | .results _ | .log => false)

/-- Words from a stream, from a byte offset: PARTIAL where they run out (R119). -/
def State.stream (s : State) (l : List W64) (off n : Nat) : Act :=
  let p := (l.drop (off / 8)).take n
  { status := if p.length = n then OK else PARTIAL, count := p.length, payload := p, state := s }

/-- Words from a buffer of bytes that reads zero beyond its contents. -/
def State.buffer (s : State) (b : Bytes) (off n : Nat) : Act :=
  let p := bytesWords (((b.drop off) ++ List.replicate (8 * n) 0#8).take (8 * n))
  { status := OK, count := n, payload := p, state := s }

/-- The slot of a polder's latest LOG_EXPORT that is done and not released (R532). -/
def State.logSlot (s : State) (polder : Nat) : Option (Fin 16) :=
  s.jobs.order.reverse.find? (fun j => (s.job j).code == 0x50 && (s.job j).polder == polder && (s.job j).state == .done)

/-- Read `n` words of a window from an offset. -/
def State.readWindow (s : State) (h : Session) (w : Window) (off n : Nat) : Act :=
  match w with
  | .sluiceRx k => let r := s.sluiceTake k n
                   { status := OK, count := r.1.length, payload := r.1, state := r.2 }
  | .cardAnswer => s.buffer s.rdr.response off n
  | .relayRequest o => s.buffer (s.veh.relay[o]).request off n
  | .results j => s.stream (recordWords 0 (s.job j).records) off n
  | .tag =>
    if s.tagHeld ≠ 0 then
      { status := BUSY, count := 0, payload := [busyWord (s.tagHeld / 25) 7], state := s.onTag (fun t => { t with wireBusy := satAdd 16 t.wireBusy 1 }) }
    else { status := OK, count := n, payload := bytesWords (Memory.readBytes s.tag.mem off (8 * n)), state := s }
  | .log => s.stream (bytesWords ((s.logSlot h.polder).elim [] (fun j => (s.job j).exported))) off n
  | .sluiceTx _ | .cardCommand | .relayAnswer _ => s.act DENIED 0

/-- A buffer of `size` bytes with words stored from an offset. -/
def storeAt (size off : Nat) (v : List W64) (b : Bytes) : Bytes := patch ((b ++ List.replicate size 0#8).take size) off (wordBytes v)

/-- Write words to a window from an offset. -/
def State.writeWindow (s : State) (w : Window) (off : Nat) (v : List W64) : Act :=
  match w with
  | .sluiceTx k => let r := s.sluicePut k v
                   r.2.act r.1 (if r.1 = OK then v.length else 0)
  | .cardCommand => (s.onRdr (fun r => { r with command := storeAt 0x200 off v r.command })).act OK v.length
  | .relayAnswer o => (s.onVeh (fun x => { x with relay := upd x.relay o (fun r => { r with response := storeAt 0x1000 off v r.response }) })).act OK v.length
  | .tag =>
    let r := s.tagWindow off v
    { status := r.1, count := if r.1 = OK then v.length else 0, payload := if r.1 = BUSY then [busyWord (s.tagHeld / 25) 7] else [], state := r.2 }
  | .sluiceRx _ | .cardAnswer | .relayRequest _ | .results _ | .log => s.act DENIED 0

/-- A window access after R83 and R84: the dike, DARK, then the window's own rules. -/
def State.windowAccess (s : State) (h : Session) (w : Window) (a off n : Nat) (allowed : Bool) (zeros : List W64) (go : State → Act) : Act :=
  if w.startOk off = false then s.act NOADDR 0
  else if allowed = false then (s.dikeRefuse h.polder h.port.1 a).act DENIED 0
  else if s.isDark w.block then { status := DARK, count := n, payload := zeros, state := s.darkAccess (a / 0x10000) }
  else go s

/-- The end of the block or window of an address; none where nothing is decoded. -/
def regionEnd (a : Nat) : Option Nat :=
  match windowAt a with
  | some (_, base, size) => some (base + size)
  | none => if a < 0x130000 then some ((a / 0x10000 + 1) * 0x10000) else none

/-- `n` words from address `a` lie within one block or window (R84). -/
def inRegion (a n : Nat) : Bool := (regionEnd a).any (fun e => decide (a + 8 * n ≤ e))

/-- READ of `n` words. -/
def State.readAccess (s : State) (i : Fin 64) (h : Session) (a n : Nat) : Act :=
  if inRegion a n = false then s.act NOADDR 0
  else match windowAt a with
    | some (w, base, _) => s.windowAccess h w a (a - base) n (s.mayReadWindow h w (a - base)) (List.replicate n 0#64) (fun s => s.readWindow h w (a - base) n)
    | none => s.readRegs i h a n

/-- WRITE of words. -/
def State.writeAccess (s : State) (i : Fin 64) (h : Session) (a : Nat) (v : List W64) : Act :=
  if inRegion a v.length = false then s.act NOADDR 0
  else match windowAt a with
    | some (w, base, _) => s.windowAccess h w a (a - base) v.length (s.mayWriteWindow h w (a - base)) [] (fun s => s.writeWindow w (a - base) v)
    | none => s.writeRegs i h a v

end Sys2Proof.Machine
end

