-- ==== Sys2Proof/Machine/FrameCmds.lean ====
section
/-!
DEFINITION. The eight operations of a host frame (R97): READ, WRITE, HELLO, PROVE, CLOSE, SUBMIT, FEED and NOP.
-/

namespace Sys2Proof.Machine

/-! ### Registers and windows -/

/-- READ. -/
def hostRead (f : Frame) (s : State) : State :=
  s.intake 1 f (fun s => s.inOrder f (fun i h s => s.readAccess i h f.addr.toNat f.count.toNat) (fun _ s => s))

/-- WRITE. -/
def hostWriteFrame (f : Frame) (s : State) : State :=
  s.intake 2 f (fun s => s.inOrder f (fun i h s => s.writeAccess i h f.addr.toNat f.payload) (fun _ s => s))

/-! ### Sessions -/

/-- HELLO. -/
def hostHello (f : Frame) (s : State) : State := s.intake 3 f (fun s => s.helloNow f)

/-- PROVE: the SID names a session in the opening state that is bound to this port and source (R100). -/
def hostProve (f : Frame) (s : State) : State :=
  s.intake 4 f (fun s => match s.sessionOf f with
    | some (i, h) =>
      if h.opening = false then s.plain f f.sid.toNat NOSESSION []
      else if s.hearthBusy then s.plain f i.1 BUSY [busyWord 1000 7]
      else s.proveNow f i h
    | none => s.plain f f.sid.toNat NOSESSION [])

/-- CLOSE: the session closes with its response (R114). -/
def hostClose (f : Frame) (s : State) : State := s.intake 5 f (fun s => s.inOrder f (fun _ _ s => s.act OK 0) (fun i s => s.closeSession i))

/-- NOP. -/
def hostNop (f : Frame) (s : State) : State := s.intake 8 f (fun s => s.inOrder f (fun _ _ s => s.act OK 0) (fun _ s => s))

/-! ### SUBMIT (R116, R117) -/

/-- The job codes that the chapters define. -/
def knownJob (code : Nat) : Bool := [0x02, 0x20, 0x21, 0x22, 0x23, 0x24, 0x25, 0x30, 0x40, 0x41, 0x42, 0x43, 0x44, 0x48, 0x49, 0x50].contains code

/-- UPDATE: who may submit it, by the kind of object (R490); in recovery the HEARTH image alone (R516). -/
def State.mayUpdate (s : State) (polder w : Nat) : Bool :=
  let k := updKind w
  let door := polder == 4 && s.doorOpen
  if s.pwr.recovery then k == 0 && updComp w == 0 && !updDelta w
  else if k = 0 then polder == 2 || door
  else if k = 4 then polder == 2
  else (polder == 1 && s.mseal.record.open_) || polder == 2 || door

/-- The submitting polder may run a job code (R42, R116, R516, R569). -/
def State.mayRun (s : State) (h : Session) (code w : Nat) : Bool :=
  let p := h.polder
  let door := p == 4 && s.doorOpen
  if h.commissioning then code == 0x21 || code == 0x23
  else if s.pwr.recovery then code == 0x30 && s.mayUpdate p w
  else match code with
    | 0x02 => p == 2
    | 0x20 | 0x21 | 0x22 | 0x23 => true
    | 0x24 => (p == 2 && s.doorOpen) || door
    | 0x25 => p == 2 || door
    | 0x30 => s.mayUpdate p w
    | 0x40 | 0x41 => p == 1
    | 0x42 | 0x43 => decide (p ≤ 4)
    | 0x44 => p == 1 || p == 2 || p == 4
    | 0x48 => p == 1 && s.mseal.record.open_
    | 0x49 => p == 1 || p == 4
    | 0x50 => decide (p ≤ 4)
    | _ => false

/-- A job as SUBMIT places it. -/
def newJob (h : Session) (id code : Nat) (params : List W64) : Job :=
  { Job.reset with state := .queued, id, code, polder := h.polder, params, cancellable := true, commissioning := h.commissioning }

/-- The slot that SUBMIT takes (R116). -/
def State.freeSlot (s : State) (addr : Nat) : Option (Fin 16) :=
  if h : addr < 16 then (if (s.job ⟨addr, h⟩).state = .idle then some ⟨addr, h⟩ else none)
  else (idx 16).find? (fun j => (s.job j).state == .idle)

/-- Place a job: the next job ID, the end of the queue (R117). -/
def State.placeJob (s : State) (j : Fin 16) (b : Job) : State :=
  s.onJobs (fun x => { slots := x.slots.set j b, nextId := (x.nextId + 1) % 65536, order := x.order.filter (· != j) ++ [j] })

/-- The response to an accepted SUBMIT: the status word. -/
def State.statusAct (s : State) (j : Fin 16) : Act := { status := OK, count := 1, payload := [w64 (s.jobWord j)], state := s }

/-- BUSY with the polder that holds the resource. -/
def State.busyAct (s : State) (polder : Nat) : Act := { status := BUSY, count := 1, payload := [busyWord 0 polder], state := s }

/-- The polder that holds the update (R496). -/
def State.updatePolder (s : State) : Nat :=
  match s.fw.job with
  | some u => u.polder
  | none => (s.fw.onTrial.map (·.2)).getD 7

/-- An UPDATE begins with its SUBMIT. -/
def State.updateStart (s : State) (j : Fin 16) (sid : Nat) : State := if (s.job j).code = 0x30 then s.beginUpdate j sid else s

/-- Place a job in the slot that ADDR names, or in the lowest free one; FULL where there is none. -/
def State.submitTo (s : State) (i : Fin 64) (addr : Nat) (b : Job) : Act :=
  match s.freeSlot addr with
  | none => s.act FULL 0
  | some j => ((s.placeJob j b).updateStart j i.1).statusAct j

/-- SUBMIT of an UPDATE (R496, R498): taken over, BUSY, or placed. A RESUME by the polder whose session has closed is placed
with other parameters too, and fails. -/
def State.submitUpdate (s : State) (i : Fin 64) (addr : Nat) (b : Job) : Act :=
  if s.updateExists = false then s.submitTo i addr b
  else match s.takesOver b i.1 with
    | some u => (s.onFw (fun x => { x with job := some u })).statusAct u.job
    | none =>
      if updResume (b.param 1) ∧ s.fw.job.any (fun u => u.holder.isNone && u.polder == b.polder) then s.submitTo i addr b
      else s.busyAct s.updatePolder

/-- LIFECYCLE waits for no session and no update: BUSY names the polder of what blocks it (R55), the one name that the payload word of R99
has room for. A charging session is the device's own, P0's (log entry 74). -/
def State.submitLife (s : State) (i : Fin 64) (addr : Nat) (b : Job) : Act :=
  if s.updateExists then s.busyAct s.updatePolder
  else if (idx 6).any (fun o => (s.so o).sid.isSome) then s.busyAct 0
  else s.submitTo i addr b

/-- KEY_DERIVE, KEY_IMPORT and KEY_INVALIDATE reserve the slot that they target: a second job for it is refused with BUSY, which names the
polder of the first (R70). -/
def State.submitKey (s : State) (i : Fin 64) (addr : Nat) (b : Job) : Act :=
  let n := Config.jobTarget b.code b.params % 256
  match s.reservedBy n with
  | some p => s.busyAct p
  | none => s.submitTo i addr { b with target := some n }

/-- SUBMIT in a session. -/
def State.submitNow (s : State) (i : Fin 64) (h : Session) (addr : Nat) (words : List W64) : Act :=
  let w := (words.headD 0#64).toNat
  let code := w % 256
  let b := newJob h s.jobs.nextId code (words.drop 1)
  if knownJob code = false then s.act BADFRAME 0
  else if s.mayRun h code (b.param 1) = false then (s.dikeRefuse h.polder h.port.1 0).act DENIED 0
  else if code = 0x30 then s.submitUpdate i addr b
  else if code = 0x24 then s.submitLife i addr b
  else if code = 0x20 ∨ code = 0x21 ∨ code = 0x22 then s.submitKey i addr b
  else s.submitTo i addr b

/-- SUBMIT. -/
def hostSubmit (f : Frame) (s : State) : State :=
  s.intake 6 f (fun s => s.inOrder f (fun i h s => s.submitNow i h f.addr.toNat f.payload) (fun _ s => s))

/-! ### FEED (R120, R497) -/

/-- FEED in a session: an UPDATE takes one block at a time, from its holder alone. -/
def State.feedNow (s : State) (i : Fin 64) (h : Session) (j : Fin 16) (words : List W64) : Act :=
  let b := s.job j
  let refused := (s.dikeRefuse h.polder h.port.1 j.1).act DENIED 0
  if h.commissioning ∨ s.ownsJob h.polder j = false then refused
  else if b.state ≠ .queued ∧ b.state ≠ .running then s.act NOADDR 0
  else if b.code = 0x30 ∧ s.holds i.1 = false then refused
  else if 128 < b.input.length + words.length ∨ (b.code = 0x30 ∧ b.input ≠ []) then s.act FULL 0
  else (s.onJob j (fun x => { x with input := x.input ++ words })).act OK words.length

/-- FEED. -/
def hostFeed (f : Frame) (s : State) : State :=
  s.intake 7 f (fun s => s.inOrder f (fun i h s => s.feedNow i h (Fin.ofNat 16 f.addr.toNat) f.payload) (fun _ s => s))

/-! ### The meanings -/

def execRead (f : Frame) (s : State) : Host.Outcome State Fault Refusal := .next (hostRead f s)
def execWrite (f : Frame) (s : State) : Host.Outcome State Fault Refusal := .next (hostWriteFrame f s)
def execHello (f : Frame) (s : State) : Host.Outcome State Fault Refusal := .next (hostHello f s)
def execProve (f : Frame) (s : State) : Host.Outcome State Fault Refusal := .next (hostProve f s)
def execClose (f : Frame) (s : State) : Host.Outcome State Fault Refusal := .next (hostClose f s)
def execSubmit (f : Frame) (s : State) : Host.Outcome State Fault Refusal := .next (hostSubmit f s)
def execFeed (f : Frame) (s : State) : Host.Outcome State Fault Refusal := .next (hostFeed f s)
def execNop (f : Frame) (s : State) : Host.Outcome State Fault Refusal := .next (hostNop f s)

end Sys2Proof.Machine
end

