-- ==== Sys2Proof/Machine/Wire.lean ====
section
/-!
DEFINITION. Frames on the wires of the host ports (R86, R87, R90, R92): what the port drives for the response in the state, and how the
bytes of a request arrive.
-/

namespace Sys2Proof.Machine

/-- The bytes of a response frame, with its TAG where it has one (R95). -/
def Response.bytes (r : Response) : Bytes :=
  frameBytes r.port.1 r.status r.sid (1 + 2 * b2n r.sealed + 4 * b2n r.attn) r.seq r.count r.addr r.payload ++ r.tag

/-! ### HP0 and HP1 (R86, R87) -/

/-- Who drives IO3 to IO0 in one clock: bit 3 of a nibble is on IO3. -/
inductive QuadClock
  | host (n : BitVec 4)
  | none
  | device (n : BitVec 4)
deriving DecidableEq, Repr

/-- A byte as its two nibbles, the high one first. -/
def nibbles (b : Byte) : List (BitVec 4) := [b.extractLsb' 4 4, b.extractLsb' 0 4]

/-- TA in bytes: 1 on HP0; on HP1 1, or 2 with TA_EXTRA. -/
def State.turnaround (s : State) (p : Fin 4) : Nat := if p.1 = 1 ∧ F.SES_PORTCFGn_TA_EXTRA.get (s.portWord p) = 1 then 2 else 1

/-- One transaction on HP0 or HP1 from CS_N falling to its rising: the request, the turnaround in which neither side drives, `fill` bytes of
0xFF until the response begins, the response. How many those are is a matter of time (R89). -/
def State.quadTransaction (s : State) (f : Frame) (fill : Nat) : List QuadClock :=
  ((reqBytes f).map (fun b => (nibbles b).map QuadClock.host)).flatten
  ++ List.replicate (2 * s.turnaround f.port) QuadClock.none
  ++ List.replicate (2 * fill) (QuadClock.device 0xF#4)
  ++ (((s.host.resp.map Response.bytes).getD []).map (fun b => (nibbles b).map QuadClock.device)).flatten

/-! ### HP2 (R90) -/

/-- One character: a start bit, eight data bits with the least significant first, one stop bit, no parity. -/
def uartChar (b : Byte) : List Bool := [false] ++ (List.range 8).map (fun i => b.getLsbD i) ++ [true]

/-- Bytes on HP2, back to back. -/
def uartBits (b : Bytes) : List Bool := (b.map uartChar).flatten

/-- The bit rate of HP2 in bit/s: 200 MHz × 16 / DIV_Q4, one eighth of it with SLOW, rounded down. -/
def State.uartRate (s : State) : Nat :=
  200000000 * 16 / (F.SES_PORTCFGn_DIV_Q4.get (s.portInUse 2) * (if F.SES_PORTCFGn_SLOW.get (s.portInUse 2) = 1 then 8 else 1))

/-- What HP2 sends for the response in the state. -/
def State.uartResponse (s : State) : List Bool := uartBits ((s.host.resp.map Response.bytes).getD [])

/-! ### HP3 (R92) -/

/-- The device's Ethernet address: 0x02 0x4C, then MAC. -/
def State.macAddress (s : State) : Nat := 0x024C * 2 ^ 32 + F.SES_PORTCFGn_MAC.get (s.portInUse 3)

/-- The Ethernet II frame that HP3 sends for a response, without FCS: to the request's source, EtherType 0x88B5, no VLAN tag. -/
def State.ethResponse (s : State) (r : Response) : Bytes := beBytes 6 r.dst ++ beBytes 6 s.macAddress ++ [0x88#8, 0xB5#8] ++ r.bytes

end Sys2Proof.Machine
end

