-- ==== Sys2Proof/Machine/HostRows.lean ====
section
/-!
DEFINITION. The rows that stand for one WRITE or READ of a session (log entry 7): the session's next frame, of which the row gives the
address and the words. The frame passes the dike, DARK, the change classes and the writers as WRITE and READ have them.
-/

namespace Sys2Proof.Machine

/-- A WRITE of words from an address in a session. -/
def State.askWrite (s : State) (sid : Sid) (addr : Nat) (words : List W64) : State :=
  s.ask sid 2 addr words.length words (fun i h s => s.writeAccess i h addr words)

/-- A READ of `n` words from an address in a session. -/
def State.askRead (s : State) (sid : Sid) (addr n : Nat) : State :=
  s.ask sid 1 addr n [] (fun i h s => s.readAccess i h addr n)

/-- A WRITE of one register in a session. -/
def State.askReg (s : State) (sid : Sid) (r : RegSpec) (ix : List Nat) (v : W64) : State := s.askWrite sid (r.addr ix) [v]

/-- A word with one field set. -/
def Field.put (f : Field) (v : W64) (x : Nat) : W64 := w64 (f.set v.toNat x)

/-! ### Sluices and jobs (R49, R50, R121, R122) -/

/-- SLUICE_SEND: the transmit window takes one message. -/
def sluiceSend (sid : Sid) (n : Sluiceno) (msg : WordList) (s : State) : State := s.askWrite sid (0x11000 + 0x100 * n.1) msg

/-- SLUICE_RECEIVE: the receive window gives up the oldest message, cut to `want` words. -/
def sluiceReceive (sid : Sid) (n : Sluiceno) (want : Nat) (s : State) : State := s.askRead sid (0x11800 + 0x100 * n.1) want

/-- JOB_CANCEL. -/
def jobCancel (sid : Sid) (j : Slot) (s : State) : State := s.askReg sid R.JOB_CTRLn [j.1] 1#64

/-- JOB_RELEASE. -/
def jobRelease (sid : Sid) (j : Slot) (s : State) : State := s.askReg sid R.JOB_CTRLn [j.1] 2#64

/-! ### The plan (R151, R157) -/

/-- SWAP_ARM: a write with ARM set. -/
def swapArm (sid : Sid) (v : W64) (s : State) : State := s.askReg sid R.GRT_SWAP [] (F.GRT_SWAP_ARM.put v 1)

/-- SWAP_ABANDON: a write with ABANDON set. -/
def swapAbandon (sid : Sid) (v : W64) (s : State) : State := s.askReg sid R.GRT_SWAP [] (F.GRT_SWAP_ABANDON.put v 1)

/-! ### Billing (R234, R243, R246) -/

/-- BIL_TIMESET. -/
def setTime (sid : Sid) (v : W64) (s : State) : State := s.askReg sid R.BIL_TIMESET [] v

/-- BIL_TCMD. -/
def tariffCommand (sid : Sid) (v : W64) (s : State) : State := s.askReg sid R.BIL_TCMD [] v

/-- BIL_DSYNC. -/
def demandSync (sid : Sid) (v : W64) (s : State) : State := s.askReg sid R.BIL_DSYNC [] v

/-! ### Authorisation (R306 to R310) -/

/-- VEH_DECIDE_AUTHORISATION. -/
def vehDecideAuth (sid : Sid) (o : Output) (v : W64) (s : State) : State := s.askReg sid R.VEH_DECIDEn [o.1] v

/-- VEH_DECIDE_WITHDRAW. -/
def vehDecideEnd (sid : Sid) (o : Output) (v : W64) (s : State) : State := s.askReg sid R.VEH_DECIDEn [o.1] v

/-- VEH_DECIDE_RELAY_RESPONSE. -/
def vehDecideRelay (sid : Sid) (o : Output) (v : W64) (s : State) : State := s.askReg sid R.VEH_DECIDEn [o.1] v

/-- LIST_ADD: the three words in one WRITE. -/
def vehListAdd (sid : Sid) (w0 w1 v : W64) (s : State) : State := s.askWrite sid (R.VEH_LISTWk.addr [0]) [w0, w1, v]

/-- LIST_REMOVE: the three words in one WRITE. -/
def vehListRemove (sid : Sid) (w0 w1 v : W64) (s : State) : State := s.askWrite sid (R.VEH_LISTWk.addr [0]) [w0, w1, v]

/-- LIST_CLEAR: word 2 alone. -/
def vehListClear (sid : Sid) (v : W64) (s : State) : State := s.askReg sid R.VEH_LISTWk [2] v

/-- LIST_SALT_WRITE. -/
def vehSalt (sid : Sid) (hi : Bool) (v : W64) (s : State) : State := s.askReg sid R.VEH_LIST_SALTk [b2n hi] v

/-! ### The sequencer (R319, R338, R341) -/

/-- SEQ_STOP: OP 1. -/
def seqHostStop (sid : Sid) (v : W64) (s : State) : State := s.askReg sid R.SEQ_CMD [] (F.SEQ_CMD_OP.put v 1)

/-- SEQ_UNLOCK: OP 2. -/
def seqHostUnlock (sid : Sid) (v : W64) (s : State) : State := s.askReg sid R.SEQ_CMD [] (F.SEQ_CMD_OP.put v 2)

/-- SEQ_CLEAR: OP 3. -/
def seqHostClear (sid : Sid) (v : W64) (s : State) : State := s.askReg sid R.SEQ_CMD [] (F.SEQ_CMD_OP.put v 3)

/-- SEQ_BLOCK: OP 4. -/
def seqHostBlock (sid : Sid) (v : W64) (s : State) : State := s.askReg sid R.SEQ_CMD [] (F.SEQ_CMD_OP.put v 4)

/-- SEQ_UNBLOCK: OP 5. -/
def seqHostUnblock (sid : Sid) (v : W64) (s : State) : State := s.askReg sid R.SEQ_CMD [] (F.SEQ_CMD_OP.put v 5)

/-! ### Protection (R376) -/

/-- FG_CONFIG_WRITE: an address that is no configuration register of the Fireguard is not decoded. -/
def fgConfig (sid : Sid) (addr : Nat) (v : W64) (s : State) : State :=
  match fgConfigOf addr with
  | none => s.reply sid NOADDR []
  | some _ => s.askWrite sid addr [v]

/-! ### Load switches (R385, R395) -/

/-- LSW_ON. -/
def lswHostOn (sid : Sid) (v : W64) (s : State) : State := s.askReg sid R.LSW_ON [] v

/-- LSW_CLEAR. -/
def lswHostClear (sid : Sid) (v : W64) (s : State) : State := s.askReg sid R.LSW_CLEAR [] v

/-! ### Reader and tag (R406, R416, R417, R423 to R427) -/

/-- NFC_ENABLE. -/
def rdEnable (sid : Sid) (v : W64) (s : State) : State := s.askReg sid R.NFC_RDCFG [] v

/-- NFC_TEST_MODE. -/
def rdTestMode (sid : Sid) (v : W64) (s : State) : State := s.askReg sid R.NFC_TEST [] v

/-- NFC_BIND. -/
def rdBind (sid : Sid) (v : W64) (s : State) : State := s.askReg sid R.NFC_BIND [] v

/-- NFC_XCHG. -/
def rdXchg (sid : Sid) (v : W64) (s : State) : State := s.askReg sid R.NFC_XCHG [] v

/-- TAG_UNLOCK. -/
def tagHostCfg (sid : Sid) (v : W64) (s : State) : State := s.askReg sid R.NFC_TAGCFG [] v

/-- TAG_PASSWORD_WRITE. -/
def tagHostPwd (sid : Sid) (v : W64) (s : State) : State := s.askReg sid R.NFC_TAGPWD [] v

/-- TAG_WINDOW_WRITE: words from an offset of the tag memory window. -/
def tagHostWindow (sid : Sid) (offset : Nat) (words : WordList) (s : State) : State := s.askWrite sid (0x20000000 + offset) words

/-! ### Resets, sleep, update, bandwidth windows (R458, R479, R505, R509, R524) -/

/-- COMMAND_WARM: a write with KIND 1. -/
def commandWarm (sid : Sid) (v : W64) (s : State) : State := s.askReg sid R.SYS_RESET [] (F.SYS_RESET_KIND.put v 1)

/-- COMMAND_COLD: a write with KIND 2. -/
def commandCold (sid : Sid) (v : W64) (s : State) : State := s.askReg sid R.SYS_RESET [] (F.SYS_RESET_KIND.put v 2)

/-- SLEEP: a write with SLEEP set. -/
def sleepNow (sid : Sid) (v : W64) (s : State) : State := s.askReg sid R.PWR_SLEEPCFG [] (F.PWR_SLEEPCFG_SLEEP.put v 1)

/-- ACTIVATE: a write with that bit set. -/
def updActivate (sid : Sid) (v : W64) (s : State) : State := s.askReg sid R.UPD_CTRL [] (F.UPD_CTRL_ACTIVATE.put v 1)

/-- CONFIRM: a write with that bit set. -/
def updConfirm (sid : Sid) (v : W64) (s : State) : State := s.askReg sid R.UPD_CTRL [] (F.UPD_CTRL_CONFIRM.put v 1)

/-- REVERT: a write with that bit set. -/
def updRevert (sid : Sid) (v : W64) (s : State) : State := s.askReg sid R.UPD_CTRL [] (F.UPD_CTRL_REVERT.put v 1)

/-- BWCFG_WRITE. -/
def bwcfgWrite (sid : Sid) (v : W64) (s : State) : State := s.askReg sid R.CNT_BWCFG [] v

/-! ### The meanings -/

def execSluiceSend (sid : Sid) (n : Sluiceno) (msg : WordList) (s : State) : Host.Outcome State Fault Refusal := .next (sluiceSend sid n msg s)
def execSluiceReceive (sid : Sid) (n : Sluiceno) (want : Nat) (s : State) : Host.Outcome State Fault Refusal := .next (sluiceReceive sid n want s)
def execJobCancel (sid : Sid) (j : Slot) (s : State) : Host.Outcome State Fault Refusal := .next (jobCancel sid j s)
def execJobRelease (sid : Sid) (j : Slot) (s : State) : Host.Outcome State Fault Refusal := .next (jobRelease sid j s)
def execSwapArm (sid : Sid) (v : W64) (s : State) : Host.Outcome State Fault Refusal := .next (swapArm sid v s)
def execSwapAbandon (sid : Sid) (v : W64) (s : State) : Host.Outcome State Fault Refusal := .next (swapAbandon sid v s)
def execBilTimeset (sid : Sid) (v : W64) (s : State) : Host.Outcome State Fault Refusal := .next (setTime sid v s)
def execBilTcmd (sid : Sid) (v : W64) (s : State) : Host.Outcome State Fault Refusal := .next (tariffCommand sid v s)
def execBilDsync (sid : Sid) (v : W64) (s : State) : Host.Outcome State Fault Refusal := .next (demandSync sid v s)
def execVehDecideAuthorisation (sid : Sid) (o : Output) (v : W64) (s : State) : Host.Outcome State Fault Refusal := .next (vehDecideAuth sid o v s)
def execVehDecideWithdraw (sid : Sid) (o : Output) (v : W64) (s : State) : Host.Outcome State Fault Refusal := .next (vehDecideEnd sid o v s)
def execVehDecideRelayResponse (sid : Sid) (o : Output) (v : W64) (s : State) : Host.Outcome State Fault Refusal := .next (vehDecideRelay sid o v s)
def execListAdd (sid : Sid) (w0 w1 v : W64) (s : State) : Host.Outcome State Fault Refusal := .next (vehListAdd sid w0 w1 v s)
def execListRemove (sid : Sid) (w0 w1 v : W64) (s : State) : Host.Outcome State Fault Refusal := .next (vehListRemove sid w0 w1 v s)
def execListClear (sid : Sid) (v : W64) (s : State) : Host.Outcome State Fault Refusal := .next (vehListClear sid v s)
def execListSaltWrite (sid : Sid) (hi : Bool) (v : W64) (s : State) : Host.Outcome State Fault Refusal := .next (vehSalt sid hi v s)
def execSeqStop (sid : Sid) (v : W64) (s : State) : Host.Outcome State Fault Refusal := .next (seqHostStop sid v s)
def execSeqUnlock (sid : Sid) (v : W64) (s : State) : Host.Outcome State Fault Refusal := .next (seqHostUnlock sid v s)
def execSeqClear (sid : Sid) (v : W64) (s : State) : Host.Outcome State Fault Refusal := .next (seqHostClear sid v s)
def execSeqBlock (sid : Sid) (v : W64) (s : State) : Host.Outcome State Fault Refusal := .next (seqHostBlock sid v s)
def execSeqUnblock (sid : Sid) (v : W64) (s : State) : Host.Outcome State Fault Refusal := .next (seqHostUnblock sid v s)
def execFgConfigWrite (sid : Sid) (addr : Nat) (v : W64) (s : State) : Host.Outcome State Fault Refusal := .next (fgConfig sid addr v s)
def execLswOn (sid : Sid) (v : W64) (s : State) : Host.Outcome State Fault Refusal := .next (lswHostOn sid v s)
def execLswClear (sid : Sid) (v : W64) (s : State) : Host.Outcome State Fault Refusal := .next (lswHostClear sid v s)
def execNfcEnable (sid : Sid) (v : W64) (s : State) : Host.Outcome State Fault Refusal := .next (rdEnable sid v s)
def execNfcTestMode (sid : Sid) (v : W64) (s : State) : Host.Outcome State Fault Refusal := .next (rdTestMode sid v s)
def execNfcBind (sid : Sid) (v : W64) (s : State) : Host.Outcome State Fault Refusal := .next (rdBind sid v s)
def execNfcXchg (sid : Sid) (v : W64) (s : State) : Host.Outcome State Fault Refusal := .next (rdXchg sid v s)
def execTagUnlock (sid : Sid) (v : W64) (s : State) : Host.Outcome State Fault Refusal := .next (tagHostCfg sid v s)
def execTagPasswordWrite (sid : Sid) (v : W64) (s : State) : Host.Outcome State Fault Refusal := .next (tagHostPwd sid v s)
def execTagWindowWrite (sid : Sid) (offset : Nat) (words : WordList) (s : State) : Host.Outcome State Fault Refusal := .next (tagHostWindow sid offset words s)
def execCommandWarm (sid : Sid) (v : W64) (s : State) : Host.Outcome State Fault Refusal := .next (commandWarm sid v s)
def execCommandCold (sid : Sid) (v : W64) (s : State) : Host.Outcome State Fault Refusal := .next (commandCold sid v s)
def execSleep (sid : Sid) (v : W64) (s : State) : Host.Outcome State Fault Refusal := .next (sleepNow sid v s)
def execActivate (sid : Sid) (v : W64) (s : State) : Host.Outcome State Fault Refusal := .next (updActivate sid v s)
def execConfirm (sid : Sid) (v : W64) (s : State) : Host.Outcome State Fault Refusal := .next (updConfirm sid v s)
def execRevert (sid : Sid) (v : W64) (s : State) : Host.Outcome State Fault Refusal := .next (updRevert sid v s)
def execBwcfgWrite (sid : Sid) (v : W64) (s : State) : Host.Outcome State Fault Refusal := .next (bwcfgWrite sid v s)

end Sys2Proof.Machine
end

