-- ==== Sys2Proof/Machine/Sense.lean ====
section
/-!
DEFINITION. Events of the sensing chapter: clock pads, lost channels, fluxgate ports, magnetic tamper and offset tracking
(R158 to R186).
-/

namespace Sys2Proof.Machine

/-- R160: a pad whose readback disagrees; every conditioner on that clock clears VALID, as for a stopped clock (R136). -/
def mclkPadFault (m : MclkNo) (s : State) : State :=
  if (s.sens.mclkOn)[m] then
    let s1 := (s.onSens (fun x => { x with padFault := upd x.padFault m (fun _ => true) })).latch R.MET_MCLK_STAT [] (2 ^ (4 + m.1))
    match s.grate.plan with
    | none => s1
    | some p => p.ics.foldl (fun s r => if h : r.index < 48 ∧ r.mclk = m.1 then s.loseIc ⟨r.index, h.1⟩ else s) s1
  else s

/-- R172: frames not VALID, and whether this loss has counted. -/
def lossOf (s : State) (ch : ChannelNo) : Nat × Bool :=
  if h : ch.1 < 48 then ((s.grate.ic[ch.1]).lostFrames, (s.grate.ic[ch.1]).sensorCounted)
  else ((s.sens.fg[ch.1 - 48]'(by omega)).lostFrames, (s.sens.fg[ch.1 - 48]'(by omega)).sensorCounted)

/-- R172: a loss has counted. -/
def countLoss (s : State) (ch : ChannelNo) : State :=
  if h : ch.1 < 48 then
    s.onGrate (fun g => { g with ic := upd g.ic ⟨ch.1, h⟩ (fun c => { c with sensorCounted := true, longLosses := satAdd 16 c.longLosses 1 }) })
  else s.onSens (fun x => { x with fg := upd x.fg ⟨ch.1 - 48, by omega⟩ (fun f => { f with sensorCounted := true }) })

/-- SENSOR_LONG_LOSS (R172): a metrological channel has been lost for 48,000 frames, and the frame at which it came to
that lies after the first 96,000 frames of the plan, or since a swap restarted its cells. -/
def longLoss (ch : ChannelNo) (s : State) : State :=
  match s.grate.plan with
  | none => s
  | some p =>
    let l := lossOf s ch
    if p.metroChannel ch.1 ∧ 48000 ≤ l.1 ∧ l.2 = false ∧ 96000 < s.grate.frames - (l.1 - 48000) - s.grate.restart[ch] then
      (countLoss s ch).tamper T_SENSOR ch.1 true
    else s

/-- Change a fluxgate port. -/
def State.onFg (s : State) (n : Fin 8) (f : FgPort → FgPort) : State :=
  s.onSens (fun x => { x with fg := upd x.fg n f })

/-- FG_PORT_FAULT (R168): flags, the stream's VALID, and for OPEN and SHORT the bridge off for 100 ms. -/
def fgFault (n : FgNo) (kind : FgFault) (s : State) : State :=
  let f := s.sens.fg[n]
  if f.on then
    let s := s.latch R.GRT_IC_VALID [] (2 ^ (48 + n.1))
    let s1 := if f.valid ∧ (s.grate.plan.map (fun p => p.metroChannel (48 + n.1))).getD false then s.logEv .sensorLost (48 + n.1) 7 0 (48 + n.1) 0 else s
    match kind with
    | .open_ => (s1.onFg n (fun f => { f with valid := false, open_ := true, goodPeriods := 0, on := false, satSince := none,
                                              magSince := none, offUntil := some (s.clock.tb + 2500000) })).latch R.MET_FG_STATn [n.1] F.MET_FG_STATn_OPEN.mask
    | .short => (s1.onFg n (fun f => { f with valid := false, short := true, goodPeriods := 0, on := false, satSince := none,
                                              magSince := none, offUntil := some (s.clock.tb + 2500000) })).latch R.MET_FG_STATn [n.1] F.MET_FG_STATn_SHORT.mask
    | .sat => (s1.onFg n (fun f => { f with valid := false, sat := true, goodPeriods := 0,
                                            satSince := some (f.satSince.getD s.clock.tb) })).latch R.MET_FG_STATn [n.1] F.MET_FG_STATn_SAT.mask
  else s

/-- FG_PORT_RETRY (R168): the bridge tries again after 100 ms. -/
def fgRetry (n : FgNo) (s : State) : State :=
  match (s.sens.fg[n]).offUntil with
  | some t => if t ≤ s.clock.tb then s.onFg n (fun f => { f with on := true, offUntil := none, open_ := false, short := false, goodPeriods := 0 }) else s
  | none => s

/-- FG_STREAM_VALID_RESTORED (R168): four consecutive valid periods. -/
def fgBack (n : FgNo) (s : State) : State :=
  if (s.sens.fg[n]).on ∧ (s.sens.fg[n]).valid = false ∧ (s.sens.fg[n]).goodPeriods = 4 then
    s.magKeep.onFg n (fun f => { f with valid := true, goodPeriods := 4, open_ := false, short := false, sat := false,
                                        satSince := none, lostFrames := 0, sensorCounted := false })
  else s

/-- R174: a trigger is logged with its source, and the first of an episode counts T_MAG. -/
def State.magTrigger (s : State) (src : Nat) : State :=
  let s1 := s.logEv .magTrigger src 7 0 src 0
  let s2 := if s.sens.magEpisode then s1 else s1.tamper T_MAG src true
  s2.onSens (fun x => { x with magEpisode := true, magLastTb := s.clock.tb })

/-- MAG_FIELD_DETECT (R173 condition 1). -/
def magField (n : FgNo) (s : State) : State :=
  if s.useFld R.MET_FG_CFGn F.MET_FG_CFGn_MODE [n.1] = 2 ∧ s.magNow n then s.magTrigger n.1 else s

/-- MAG_SAT_DETECT (R173 condition 2). -/
def magSat (n : FgNo) (s : State) : State :=
  if s.useFld R.MET_FG_CFGn F.MET_FG_CFGn_MODE [n.1] = 1 ∧ s.magNow n then s.magTrigger n.1 else s

/-- MAG_EPISODE_END (R174): no condition for 10.0 s. -/
def magEnd (s : State) : State :=
  if s.sens.magEpisode ∧ (idx 8).all (fun n => !s.magNow n) ∧ s.sens.magLastTb + 10 * tbSecond ≤ s.clock.tb then
    s.onSens (fun x => { x with magEpisode := false })
  else s

/-- R182: tracking runs on the slot, and the gate of its output has been open for 2.000 s. -/
def trackReady (p : Plan) (c : CalNo) (s : State) : Bool :=
  (s.sens.calInUse[c]).limit != 0 &&
  match p.trackOutput c.1 with
  | none => false
  | some o => !(s.go o).gate && decide ((s.go o).gateTb + 2 * tbSecond ≤ s.clock.tb)

/-- TRACK_WINDOW_OPEN (R182). -/
def trackOpen (c : CalNo) (s : State) : State :=
  match s.grate.plan with
  | none => s
  | some p =>
    if trackReady p c s ∧ (s.sens.track[c]).window = none then
      s.onSens (fun x => { x with track := upd x.track c (fun t => { t with window := some (0, 0) }) })
    else s

/-- TRACK_WINDOW_END (R182 to R184): the mean, clamped, waits for the next tick; the next window opens while the gate stays
open. -/
def trackEnd (c : CalNo) (s : State) : State :=
  match s.grate.plan, (s.sens.track[c]).window with
  | some p, some (n, sum) =>
    if 48000 ≤ n then
      let cal := s.sens.calInUse[c]
      let d := rdiv sum n - cal.off
      let lim : Int := cal.limit
      let hit := decide (cal.limit < d.natAbs)
      let s1 := s.onSens (fun x => { x with track := upd x.track c (fun t =>
        { t with next := some (max (-lim) (min lim d)), window := if trackReady p c s then some (0, 0) else none, limitHit := t.limitHit || hit }) })
      let s2 := if hit then s1.logEv .trackLimit c.1 7 0 c.1 0 else s1
      if hit ∧ cal.magnetic then s2.magTrigger (0x80 + c.1) else s2
    else s
  | _, _ => s

/-- TEMP_STALE (R177): 10.0 s, 480,000 frames, without a VALID temperature. The flag stands until b is VALID again, and with
it the uncertain bit of the outputs whose quantities pass through the cell (R272). -/
def tempStale (m : MaNo) (s : State) : State :=
  match s.grate.plan with
  | none => s
  | some p =>
    if p.mas.any (fun r => r.index == m.1 && r.op == 5) ∧ 480000 ≤ (s.grate.ma[m]).tempAge then
      s.onGrate (fun g => { g with ma := upd g.ma m (fun x => { x with stale := true }) })
    else s

/-! ### The meanings -/

def execMclkPadFault (m : MclkNo) (s : State) : Host.Outcome State Fault Refusal := .next (mclkPadFault m s)
def execSensorLongLoss (ch : ChannelNo) (s : State) : Host.Outcome State Fault Refusal := .next (longLoss ch s)
def execFgPortRetry (n : FgNo) (s : State) : Host.Outcome State Fault Refusal := .next (fgRetry n s)
def execMagFieldDetect (n : FgNo) (s : State) : Host.Outcome State Fault Refusal := .next (magField n s)
def execMagSatDetect (n : FgNo) (s : State) : Host.Outcome State Fault Refusal := .next (magSat n s)
def execMagEpisodeEnd (s : State) : Host.Outcome State Fault Refusal := .next (magEnd s)
def execTrackWindowOpen (c : CalNo) (s : State) : Host.Outcome State Fault Refusal := .next (trackOpen c s)
def execTrackWindowEnd (c : CalNo) (s : State) : Host.Outcome State Fault Refusal := .next (trackEnd c s)
def execTempStale (m : MaNo) (s : State) : Host.Outcome State Fault Refusal := .next (tempStale m s)
def execFgPortFault (n : FgNo) (kind : FgFault) (s : State) : Host.Outcome State Fault Refusal := .next (fgFault n kind s)
def execFgStreamValidRestored (n : FgNo) (s : State) : Host.Outcome State Fault Refusal := .next (fgBack n s)

end Sys2Proof.Machine
end

