-- ==== Sys2Proof/Machine/SesCmds.lean ====
section
/-!
DEFINITION. What happens to ports and sessions without a frame that is acted on (R12, R88, R90, R105, R114), and sluice messages (R49, R50).
-/

namespace Sys2Proof.Machine

/-- REQUEST_ABORTED: CS_N rose too early on HP0 or HP1 (R88). -/
def reqAborted (p : Port) (s : State) : State :=
  let s1 := s.onHost (fun h => { h with resp := none })
  if p.1 < 2 ∧ s.listens p then s1.dropFrame p else s1

/-- PARTIAL_FRAME_DISCARD: HP2 stays idle inside a frame (R90). -/
def partialDrop (s : State) : State :=
  let s1 := s.onHost (fun h => { h with resp := none })
  if s.listens 2 then s1.dropFrame 2 else s1

/-- OPENING_TIMEOUT: 2 s without a PROVE (R105). -/
def openingOut (sid : Sid) (s : State) : State :=
  match s.anySession sid with
  | some h => if h.opening ∧ h.lastTb + 2 * tbSecond ≤ s.clock.tb then s.closeSession sid else s
  | none => s

/-- IDLE_TIMEOUT: IDLE seconds without a consumed frame (R114). -/
def idleOut (sid : Sid) (s : State) : State :=
  match s.session sid with
  | some h => if h.lastTb + h.idle * tbSecond ≤ s.clock.tb then s.closeSession sid else s
  | none => s

/-- PORT_RESTART (R12). -/
def portRestart (p : Port) (s : State) : State := if s.portDue p then s.restartPort p else s

def execRequestAborted (p : Port) (s : State) : Host.Outcome State Fault Refusal := .next (reqAborted p s)
def execPartialFrameDiscard (s : State) : Host.Outcome State Fault Refusal := .next (partialDrop s)
def execOpeningTimeout (sid : Sid) (s : State) : Host.Outcome State Fault Refusal := .next (openingOut sid s)
def execIdleTimeout (sid : Sid) (s : State) : Host.Outcome State Fault Refusal := .next (idleOut sid s)
def execPortRestart (p : Port) (s : State) : Host.Outcome State Fault Refusal := .next (portRestart p s)

end Sys2Proof.Machine
end

