-- ==== Sys2Proof/Machine/Trips.lean ====
section
/-!
DEFINITION. TRIP lines (R133, R139, R351, R353).
-/

namespace Sys2Proof.Machine

/-- The level that the running plan's trip cells drive on a line (R133, R139). -/
def State.lineDriven (s : State) (n : Fin 16) : Bool :=
  match s.grate.plan with
  | some p => lineLevel p s.grate.tc n.1
  | none => false

/-- The line record of a bound line: outputs and action. -/
def State.lineRec (s : State) (n : Fin 16) : Option (Nat × Nat) :=
  match s.grate.plan with
  | some p => (p.sections.map (fun x => match x.body with | .trip l => l | _ => [])).flatten.findSome?
      (fun t => match t with | .line l outs a => if l = n.1 then some (outs, a) else none | _ => none)
  | none => none

/-- TRIP_LINE_ASSERT (R353): the trip latch lowers HV_EN of the named outputs; action 1 also runs safe-off on them. A line
that no record binds shows only in `GRT_TRIP`. -/
def tripAssert (n : LineNo) (s : State) : State :=
  if s.lineDriven n ∧ s.grate.lines[n] = false then
    let s1 := (s.onGrate (fun g => { g with lines := g.lines.set n true })).latch R.GRT_TRIP [] (2 ^ (F.GRT_TRIP_SEEN.lo + n.1))
    match s.lineRec n with
    | none => s1
    | some (outs, a) =>
      let s1 := s1.bump 21 1
      let os := (idx 6).filter (fun o => bitOf outs o.1)
      if a = 1 then (s1.dropAll os 2).safeOff 9 outs none else s1.dropAll os 1
  else s

/-- TRIP_LINE_CLEAR: the line is deasserted; a drop of action 0 ends 10 ms later (R351). -/
def tripClear (n : LineNo) (s : State) : State :=
  if s.lineDriven n = false ∧ s.grate.lines[n] = true then
    s.onGrate (fun g => { g with lines := g.lines.set n false, lineOffTb := g.lineOffTb.set n s.clock.tb })
  else s

def execTripLineAssert (n : LineNo) (s : State) : Host.Outcome State Fault Refusal := .next (tripAssert n s)
def execTripLineClear (n : LineNo) (s : State) : Host.Outcome State Fault Refusal := .next (tripClear n s)

end Sys2Proof.Machine
end

