-- ==== Sys2Proof/Machine/Dispatch.lean ====
section
/-!
DEFINITION. The dispatch of commands: one arm for each constructor of `Instr`, in the order of spec/opcode_table.json.
-/

namespace Sys2Proof.Machine

/-- The effect of a command on everything but the queue of waiting commands. -/
def exec (i : Instr) (s : State) : Host.Outcome State Fault Refusal :=
  match i with
  | .read f => Sys2Proof.Machine.execRead f s
  | .write f => Sys2Proof.Machine.execWrite f s
  | .hello f => Sys2Proof.Machine.execHello f s
  | .prove f => Sys2Proof.Machine.execProve f s
  | .close f => Sys2Proof.Machine.execClose f s
  | .submit f => Sys2Proof.Machine.execSubmit f s
  | .feed f => Sys2Proof.Machine.execFeed f s
  | .nop f => Sys2Proof.Machine.execNop f s
  | .requestAborted p => Sys2Proof.Machine.execRequestAborted p s
  | .partialFrameDiscard => Sys2Proof.Machine.execPartialFrameDiscard s
  | .openingTimeout sid => Sys2Proof.Machine.execOpeningTimeout sid s
  | .idleTimeout sid => Sys2Proof.Machine.execIdleTimeout sid s
  | .portRestart p => Sys2Proof.Machine.execPortRestart p s
  | .sluiceSend sid n msg => Sys2Proof.Machine.execSluiceSend sid n msg s
  | .sluiceReceive sid n want => Sys2Proof.Machine.execSluiceReceive sid n want s
  | .jobCancel sid j => Sys2Proof.Machine.execJobCancel sid j s
  | .jobRelease sid j => Sys2Proof.Machine.execJobRelease sid j s
  | .jobExpire j => Sys2Proof.Machine.execJobExpire j s
  | .setPassword j polder len pw => Sys2Proof.Machine.execSetPassword j polder len pw s
  | .keyDerive j p => Sys2Proof.Machine.execKeyDerive j p s
  | .keyImport j p => Sys2Proof.Machine.execKeyImport j p s
  | .keyInvalidate j target => Sys2Proof.Machine.execKeyInvalidate j target s
  | .attest j nonce => Sys2Proof.Machine.execAttest j nonce s
  | .lifecycle j target auth => Sys2Proof.Machine.execLifecycle j target auth s
  | .lifecycleNonce j => Sys2Proof.Machine.execLifecycleNonce j s
  | .lifecycleNonceLapse => Sys2Proof.Machine.execLifecycleNonceLapse s
  | .keyRemask => Sys2Proof.Machine.execKeyRemask s
  | .keySlotExpire n => Sys2Proof.Machine.execKeySlotExpire n s
  | .hssTreeReady => Sys2Proof.Machine.execHssTreeReady s
  | .grateFrame x => Sys2Proof.Machine.execGrateFrame x s
  | .tripLineAssert n => Sys2Proof.Machine.execTripLineAssert n s
  | .tripLineClear n => Sys2Proof.Machine.execTripLineClear n s
  | .icValidLost n steady => Sys2Proof.Machine.execIcValidLost n steady s
  | .icValidRestored n => Sys2Proof.Machine.execIcValidRestored n s
  | .mclkPadFault m => Sys2Proof.Machine.execMclkPadFault m s
  | .votePersistentDisagree g => Sys2Proof.Machine.execVotePersistentDisagree g s
  | .voteDisagreeClear g => Sys2Proof.Machine.execVoteDisagreeClear g s
  | .sensorLongLoss ch => Sys2Proof.Machine.execSensorLongLoss ch s
  | .swapArm sid v => Sys2Proof.Machine.execSwapArm sid v s
  | .swapAbandon sid v => Sys2Proof.Machine.execSwapAbandon sid v s
  | .planSwap => Sys2Proof.Machine.execPlanSwap s
  | .planSwapWaitExpire => Sys2Proof.Machine.execPlanSwapWaitExpire s
  | .fgPortRetry n => Sys2Proof.Machine.execFgPortRetry n s
  | .magFieldDetect n => Sys2Proof.Machine.execMagFieldDetect n s
  | .magSatDetect n => Sys2Proof.Machine.execMagSatDetect n s
  | .magEpisodeEnd => Sys2Proof.Machine.execMagEpisodeEnd s
  | .trackWindowOpen c => Sys2Proof.Machine.execTrackWindowOpen c s
  | .trackWindowEnd c => Sys2Proof.Machine.execTrackWindowEnd c s
  | .tempStale m => Sys2Proof.Machine.execTempStale m s
  | .tickHandoff => Sys2Proof.Machine.execTickHandoff s
  | .pulseStart o => Sys2Proof.Machine.execPulseStart o s
  | .pulseEnd o => Sys2Proof.Machine.execPulseEnd o s
  | .periodicSave => Sys2Proof.Machine.execPeriodicSave s
  | .phaseseqReversed o => Sys2Proof.Machine.execPhaseseqReversed o s
  | .phaseseqEpisodeEnd o => Sys2Proof.Machine.execPhaseseqEpisodeEnd o s
  | .neutralMissing o => Sys2Proof.Machine.execNeutralMissing o s
  | .neutralEpisodeEnd o => Sys2Proof.Machine.execNeutralEpisodeEnd o s
  | .powerFailWarning => Sys2Proof.Machine.execPowerFailWarning s
  | .warningClear => Sys2Proof.Machine.execWarningClear s
  | .brownOut => Sys2Proof.Machine.execBrownOut s
  | .billingBoundary => Sys2Proof.Machine.execBillingBoundary s
  | .tickCommit => Sys2Proof.Machine.execTickCommit s
  | .demandIntervalEnd => Sys2Proof.Machine.execDemandIntervalEnd s
  | .periodEnd => Sys2Proof.Machine.execPeriodEnd s
  | .offsetChange => Sys2Proof.Machine.execOffsetChange s
  | .calendarTariffSwitch => Sys2Proof.Machine.execCalendarTariffSwitch s
  | .tariffCommandEffective => Sys2Proof.Machine.execTariffCommandEffective s
  | .attrTimeout o => Sys2Proof.Machine.execAttrTimeout o s
  | .billSlewEnd => Sys2Proof.Machine.execBillSlewEnd s
  | .billHoldEnd => Sys2Proof.Machine.execBillHoldEnd s
  | .billingStateWrite => Sys2Proof.Machine.execBillingStateWrite s
  | .bilTimeset sid v => Sys2Proof.Machine.execBilTimeset sid v s
  | .bilTcmd sid v => Sys2Proof.Machine.execBilTcmd sid v s
  | .bilDsync sid v => Sys2Proof.Machine.execBilDsync sid v s
  | .sealOpen j => Sys2Proof.Machine.execSealOpen j s
  | .sealClose j => Sys2Proof.Machine.execSealClose j s
  | .sealAutoClose => Sys2Proof.Machine.execSealAutoClose s
  | .calWrite j => Sys2Proof.Machine.execCalWrite j s
  | .calMeasureRun j => Sys2Proof.Machine.execCalMeasureRun j s
  | .flueRead j => Sys2Proof.Machine.execFlueRead j s
  | .flueFetch j => Sys2Proof.Machine.execFlueFetch j s
  | .flueCert j => Sys2Proof.Machine.execFlueCert j s
  | .flueDeferredSign => Sys2Proof.Machine.execFlueDeferredSign s
  | .tamperInputActive n => Sys2Proof.Machine.execTamperInputActive n s
  | .ledgerMerge => Sys2Proof.Machine.execLedgerMerge s
  | .tNrst heldSeconds => Sys2Proof.Machine.execTNrst heldSeconds s
  | .pilotStateChange o p => Sys2Proof.Machine.execPilotStateChange o p s
  | .ppCodeChange o ohms => Sys2Proof.Machine.execPpCodeChange o ohms s
  | .modemFailed m why us => Sys2Proof.Machine.execModemFailed m why us s
  | .cmSlacParmReq run => Sys2Proof.Machine.execCmSlacParmReq run s
  | .cmStartAttenCharInd run => Sys2Proof.Machine.execCmStartAttenCharInd run s
  | .slacSound run atten => Sys2Proof.Machine.execSlacSound run atten s
  | .neighbourAttenChar run atten => Sys2Proof.Machine.execNeighbourAttenChar run atten s
  | .slacWindowClose => Sys2Proof.Machine.execSlacWindowClose s
  | .cmSlacMatchReq o run => Sys2Proof.Machine.execCmSlacMatchReq o run s
  | .cmValidate o run toggles => Sys2Proof.Machine.execCmValidate o run toggles s
  | .slacFailed o => Sys2Proof.Machine.execSlacFailed o s
  | .t1sDisable n => Sys2Proof.Machine.execT1sDisable n s
  | .t1sLinkDrop n => Sys2Proof.Machine.execT1sLinkDrop n s
  | .sdpRequest o tls => Sys2Proof.Machine.execSdpRequest o tls s
  | .supportedAppProtocol o offers => Sys2Proof.Machine.execSupportedAppProtocol o offers s
  | .tlsHandshake o h => Sys2Proof.Machine.execTlsHandshake o h s
  | .sessionSetup o evccid => Sys2Proof.Machine.execSessionSetup o evccid s
  | .serviceDiscovery o service => Sys2Proof.Machine.execServiceDiscovery o service s
  | .identification o id => Sys2Proof.Machine.execIdentification o id s
  | .certificateInstallation o update exi => Sys2Proof.Machine.execCertificateInstallation o update exi s
  | .chargeParameterDiscovery o vMax pMax schedule => Sys2Proof.Machine.execChargeParameterDiscovery o vMax pMax schedule s
  | .cableCheckRequest o => Sys2Proof.Machine.execCableCheckRequest o s
  | .prechargeRequest o target => Sys2Proof.Machine.execPrechargeRequest o target s
  | .powerDelivery o start => Sys2Proof.Machine.execPowerDelivery o start s
  | .chargeLoop o target volts power => Sys2Proof.Machine.execChargeLoop o target volts power s
  | .meteringReceipt o signed => Sys2Proof.Machine.execMeteringReceipt o signed s
  | .weldingDetection o => Sys2Proof.Machine.execWeldingDetection o s
  | .sessionStop o pause => Sys2Proof.Machine.execSessionStop o pause s
  | .authDeadline o => Sys2Proof.Machine.execAuthDeadline o s
  | .vehDecideAuthorisation sid o v => Sys2Proof.Machine.execVehDecideAuthorisation sid o v s
  | .vehDecideWithdraw sid o v => Sys2Proof.Machine.execVehDecideWithdraw sid o v s
  | .vehDecideRelayResponse sid o v => Sys2Proof.Machine.execVehDecideRelayResponse sid o v s
  | .listAdd sid w0 w1 v => Sys2Proof.Machine.execListAdd sid w0 w1 v s
  | .listRemove sid w0 w1 v => Sys2Proof.Machine.execListRemove sid w0 w1 v s
  | .listClear sid v => Sys2Proof.Machine.execListClear sid v s
  | .listSaltWrite sid hi v => Sys2Proof.Machine.execListSaltWrite sid hi v s
  | .lockTimeout o => Sys2Proof.Machine.execLockTimeout o s
  | .specHoldTimeout o => Sys2Proof.Machine.execSpecHoldTimeout o s
  | .noOutcomeTimeout o => Sys2Proof.Machine.execNoOutcomeTimeout o s
  | .rollbackTimeout o => Sys2Proof.Machine.execRollbackTimeout o s
  | .waitUnplugDone o => Sys2Proof.Machine.execWaitUnplugDone o s
  | .allocationZeroPause o => Sys2Proof.Machine.execAllocationZeroPause o s
  | .acPauseLimit o => Sys2Proof.Machine.execAcPauseLimit o s
  | .stoppingTimeout o => Sys2Proof.Machine.execStoppingTimeout o s
  | .acStopTimeout o => Sys2Proof.Machine.execAcStopTimeout o s
  | .pilot5pctEnd o => Sys2Proof.Machine.execPilot5pctEnd o s
  | .outputVoltageReached o mv => Sys2Proof.Machine.execOutputVoltageReached o mv s
  | .outputBelow60v o mv => Sys2Proof.Machine.execOutputBelow60v o mv s
  | .stopCurrentLow o ma => Sys2Proof.Machine.execStopCurrentLow o ma s
  | .lockEndOfTravel n => Sys2Proof.Machine.execLockEndOfTravel n s
  | .lockDriveTimeout n => Sys2Proof.Machine.execLockDriveTimeout n s
  | .setpointPeriod => Sys2Proof.Machine.execSetpointPeriod s
  | .cabinetStatusFrame k netB frame => Sys2Proof.Machine.execCabinetStatusFrame k netB frame s
  | .cabinetLost k => Sys2Proof.Machine.execCabinetLost k s
  | .cabinetStartTimeout k => Sys2Proof.Machine.execCabinetStartTimeout k s
  | .thermalStop o => Sys2Proof.Machine.execThermalStop o s
  | .pumpPostRunEnd o => Sys2Proof.Machine.execPumpPostRunEnd o s
  | .degradedStop => Sys2Proof.Machine.execDegradedStop s
  | .hearthResume => Sys2Proof.Machine.execHearthResume s
  | .seqStop sid v => Sys2Proof.Machine.execSeqStop sid v s
  | .seqUnlock sid v => Sys2Proof.Machine.execSeqUnlock sid v s
  | .seqClear sid v => Sys2Proof.Machine.execSeqClear sid v s
  | .seqBlock sid v => Sys2Proof.Machine.execSeqBlock sid v s
  | .seqUnblock sid v => Sys2Proof.Machine.execSeqUnblock sid v s
  | .meshShareRaise => Sys2Proof.Machine.execMeshShareRaise s
  | .meshFallback => Sys2Proof.Machine.execMeshFallback s
  | .safetySlot readA readB => Sys2Proof.Machine.execSafetySlot readA readB s
  | .cabinetSafetyFrame k netB frame => Sys2Proof.Machine.execCabinetSafetyFrame k netB frame s
  | .networkMissing netB => Sys2Proof.Machine.execNetworkMissing netB s
  | .networkDisagreement => Sys2Proof.Machine.execNetworkDisagreement s
  | .bothNetworksLost => Sys2Proof.Machine.execBothNetworksLost s
  | .cabinetMissing k => Sys2Proof.Machine.execCabinetMissing k s
  | .cabinetFramesRestored k => Sys2Proof.Machine.execCabinetFramesRestored k s
  | .networksRestored => Sys2Proof.Machine.execNetworksRestored s
  | .degradedClear => Sys2Proof.Machine.execDegradedClear s
  | .degradedLimit => Sys2Proof.Machine.execDegradedLimit s
  | .laneLost => Sys2Proof.Machine.execLaneLost s
  | .laneGood => Sys2Proof.Machine.execLaneGood s
  | .clockFault => Sys2Proof.Machine.execClockFault s
  | .heartbeatMissing => Sys2Proof.Machine.execHeartbeatMissing s
  | .holdEnd => Sys2Proof.Machine.execHoldEnd s
  | .holdExpire => Sys2Proof.Machine.execHoldExpire s
  | .fireguardReset c => Sys2Proof.Machine.execFireguardReset c s
  | .hvEnRaise o => Sys2Proof.Machine.execHvEnRaise o s
  | .isoHalfEnds n => Sys2Proof.Machine.execIsoHalfEnds n s
  | .cableCheckDwellStart n mv => Sys2Proof.Machine.execCableCheckDwellStart n mv s
  | .cableCheckRampFail n => Sys2Proof.Machine.execCableCheckRampFail n s
  | .rcdEvaluate k => Sys2Proof.Machine.execRcdEvaluate k s
  | .rcdSelftestStart k => Sys2Proof.Machine.execRcdSelftestStart k s
  | .rcdSelftestEnds k => Sys2Proof.Machine.execRcdSelftestEnds k s
  | .weldCheck o volts => Sys2Proof.Machine.execWeldCheck o volts s
  | .guardChange a b => Sys2Proof.Machine.execGuardChange a b s
  | .guardFault => Sys2Proof.Machine.execGuardFault s
  | .guardTestPass => Sys2Proof.Machine.execGuardTestPass s
  | .safeOffCurrentLow o ma => Sys2Proof.Machine.execSafeOffCurrentLow o ma s
  | .safeOffForce => Sys2Proof.Machine.execSafeOffForce s
  | .nrstAssert => Sys2Proof.Machine.execNrstAssert s
  | .nrstRelease heldSeconds => Sys2Proof.Machine.execNrstRelease heldSeconds s
  | .thermalReset => Sys2Proof.Machine.execThermalReset s
  | .watchdog => Sys2Proof.Machine.execWatchdog s
  | .hearthFailover => Sys2Proof.Machine.execHearthFailover s
  | .eccUncorrectable => Sys2Proof.Machine.execEccUncorrectable s
  | .eccCorrectable => Sys2Proof.Machine.execEccCorrectable s
  | .pairASelftestDone pass => Sys2Proof.Machine.execPairASelftestDone pass s
  | .hearthCheckpoint => Sys2Proof.Machine.execHearthCheckpoint s
  | .clockLoss => Sys2Proof.Machine.execClockLoss s
  | .crystalRetry starts => Sys2Proof.Machine.execCrystalRetry starts s
  | .xtal32Fail => Sys2Proof.Machine.execXtal32Fail s
  | .xtal32Restore => Sys2Proof.Machine.execXtal32Restore s
  | .backupAnchor => Sys2Proof.Machine.execBackupAnchor s
  | .rtcReload => Sys2Proof.Machine.execRtcReload s
  | .pilotSupplyUp => Sys2Proof.Machine.execPilotSupplyUp s
  | .pilotSupplyLoss => Sys2Proof.Machine.execPilotSupplyLoss s
  | .vauxUndervoltage => Sys2Proof.Machine.execVauxUndervoltage s
  | .vauxRecover => Sys2Proof.Machine.execVauxRecover s
  | .coldBoot strap rtcTicks crystal => Sys2Proof.Machine.execColdBoot strap rtcTicks crystal s
  | .flashRetry answers => Sys2Proof.Machine.execFlashRetry answers s
  | .commandWarm sid v => Sys2Proof.Machine.execCommandWarm sid v s
  | .commandCold sid v => Sys2Proof.Machine.execCommandCold sid v s
  | .emberEntryAuto => Sys2Proof.Machine.execEmberEntryAuto s
  | .sleep sid v => Sys2Proof.Machine.execSleep sid v s
  | .wakeUp src strap rtcTicks bad => Sys2Proof.Machine.execWakeUp src strap rtcTicks bad s
  | .lpLimit => Sys2Proof.Machine.execLpLimit s
  | .emberBrownOut => Sys2Proof.Machine.execEmberBrownOut s
  | .rtcAlarm => Sys2Proof.Machine.execRtcAlarm s
  | .lswOn sid v => Sys2Proof.Machine.execLswOn sid v s
  | .lswClear sid v => Sys2Proof.Machine.execLswClear sid v s
  | .currentLimitTurnoff n => Sys2Proof.Machine.execCurrentLimitTurnoff n s
  | .retryDelayEnd n => Sys2Proof.Machine.execRetryDelayEnd n s
  | .retryReload n ma => Sys2Proof.Machine.execRetryReload n ma s
  | .thermalLatch n => Sys2Proof.Machine.execThermalLatch n s
  | .openLoad n => Sys2Proof.Machine.execOpenLoad n s
  | .offStateTest n sees => Sys2Proof.Machine.execOffStateTest n sees s
  | .negVoltage n => Sys2Proof.Machine.execNegVoltage n s
  | .pullinEnd n => Sys2Proof.Machine.execPullinEnd n s
  | .nfcEnable sid v => Sys2Proof.Machine.execNfcEnable sid v s
  | .noCardBaseline pings => Sys2Proof.Machine.execNoCardBaseline pings s
  | .lpcdPing p => Sys2Proof.Machine.execLpcdPing p s
  | .lpcdConfirmPing p => Sys2Proof.Machine.execLpcdConfirmPing p s
  | .pollCycle cards => Sys2Proof.Machine.execPollCycle cards s
  | .inventory cards => Sys2Proof.Machine.execInventory cards s
  | .holdMaxExpire pings => Sys2Proof.Machine.execHoldMaxExpire pings s
  | .nfcRfFault => Sys2Proof.Machine.execNfcRfFault s
  | .nfcFaultRecover => Sys2Proof.Machine.execNfcFaultRecover s
  | .nfcFieldRestart => Sys2Proof.Machine.execNfcFieldRestart s
  | .nfcTestMode sid v => Sys2Proof.Machine.execNfcTestMode sid v s
  | .nfcTestLimit => Sys2Proof.Machine.execNfcTestLimit s
  | .nfcBind sid v => Sys2Proof.Machine.execNfcBind sid v s
  | .cardBindTimeout k => Sys2Proof.Machine.execCardBindTimeout k s
  | .nfcXchg sid v => Sys2Proof.Machine.execNfcXchg sid v s
  | .nfcXchgDone answer removed => Sys2Proof.Machine.execNfcXchgDone answer removed s
  | .tagFieldOn => Sys2Proof.Machine.execTagFieldOn s
  | .tagFieldLost => Sys2Proof.Machine.execTagFieldLost s
  | .fdetRelease => Sys2Proof.Machine.execFdetRelease s
  | .tagSelectApplication aid => Sys2Proof.Machine.execTagSelectApplication aid s
  | .tagSelectFile fid => Sys2Proof.Machine.execTagSelectFile fid s
  | .tagReadBinary offset le => Sys2Proof.Machine.execTagReadBinary offset le s
  | .tagUpdateBinary w => Sys2Proof.Machine.execTagUpdateBinary w s
  | .tagVerify pw => Sys2Proof.Machine.execTagVerify pw s
  | .tagAuthBegin => Sys2Proof.Machine.execTagAuthBegin s
  | .tagAuthFinish data => Sys2Proof.Machine.execTagAuthFinish data s
  | .tagDeselect => Sys2Proof.Machine.execTagDeselect s
  | .tagUnlock sid v => Sys2Proof.Machine.execTagUnlock sid v s
  | .tagPasswordWrite sid v => Sys2Proof.Machine.execTagPasswordWrite sid v s
  | .tagWindowWrite sid offset words => Sys2Proof.Machine.execTagWindowWrite sid offset words s
  | .tagWireServe => Sys2Proof.Machine.execTagWireServe s
  | .statusLineWrite => Sys2Proof.Machine.execStatusLineWrite s
  | .statusLineNrst => Sys2Proof.Machine.execStatusLineNrst s
  | .statusLineNotRunning => Sys2Proof.Machine.execStatusLineNotRunning s
  | .trackerLock p spacing => Sys2Proof.Machine.execTrackerLock p spacing s
  | .trackerUnlock p silent => Sys2Proof.Machine.execTrackerUnlock p silent s
  | .meshClaimDue => Sys2Proof.Machine.execMeshClaimDue s
  | .meshTimeDue => Sys2Proof.Machine.execMeshTimeDue s
  | .meshFrameStart => Sys2Proof.Machine.execMeshFrameStart s
  | .meshAttemptFail => Sys2Proof.Machine.execMeshAttemptFail s
  | .meshFrameSent => Sys2Proof.Machine.execMeshFrameSent s
  | .meshClaimRx f => Sys2Proof.Machine.execMeshClaimRx f s
  | .meshBeaconRx f => Sys2Proof.Machine.execMeshBeaconRx f s
  | .meshTimeRx f tb => Sys2Proof.Machine.execMeshTimeRx f tb s
  | .meshRelaySend => Sys2Proof.Machine.execMeshRelaySend s
  | .meshContextExpire n => Sys2Proof.Machine.execMeshContextExpire n s
  | .update j => Sys2Proof.Machine.execUpdate j s
  | .updateVerify => Sys2Proof.Machine.execUpdateVerify s
  | .updateTokenExpire => Sys2Proof.Machine.execUpdateTokenExpire s
  | .checkpointExpire => Sys2Proof.Machine.execCheckpointExpire s
  | .activate sid v => Sys2Proof.Machine.execActivate sid v s
  | .confirm sid v => Sys2Proof.Machine.execConfirm sid v s
  | .revert sid v => Sys2Proof.Machine.execRevert sid v s
  | .trialExpire k => Sys2Proof.Machine.execTrialExpire k s
  | .logExport j => Sys2Proof.Machine.execLogExport j s
  | .logFlush => Sys2Proof.Machine.execLogFlush s
  | .logFold => Sys2Proof.Machine.execLogFold s
  | .bwWindowEnd p => Sys2Proof.Machine.execBwWindowEnd p s
  | .bwcfgWrite sid v => Sys2Proof.Machine.execBwcfgWrite sid v s
  | .fgConfigWrite sid addr v => Sys2Proof.Machine.execFgConfigWrite sid addr v s
  | .fgPortFault n kind => Sys2Proof.Machine.execFgPortFault n kind s
  | .fgStreamValidRestored n => Sys2Proof.Machine.execFgStreamValidRestored n s
  | .vehicleMessageTimeout o => Sys2Proof.Machine.execVehicleMessageTimeout o s
  | .meshFrameBad => Sys2Proof.Machine.execMeshFrameBad s
  | .zeroCrossingJump p => Sys2Proof.Machine.execZeroCrossingJump p s
  | .vbatLost => Sys2Proof.Machine.execVbatLost s
  | .flashDieFault => Sys2Proof.Machine.execFlashDieFault s
  | .trialSecondsSave k => Sys2Proof.Machine.execTrialSecondsSave k s

end Sys2Proof.Machine
end

