-- ==== Sys2Proof/Machine/Tick.lean ====
section
/-!
DEFINITION. One tick of TB: what an empty queue of commands lets pass (log entry 1).
-/

namespace Sys2Proof.Machine

/-- One 40 ns tick of CLK_TB (R15): TB advances, and with it the counters of core clocks: 48 cycles of each pair that runs, and
8 bus cycles (R518). How many of pair A's cycles lie outside DOZE no command says: a free value. The idle time of R458 starts
anew while a condition of it does not hold. While TB stands still nothing passes. -/
def State.tick (s : State) : State :=
  if s.clock.run then
    let s0 := s.onClock (fun c => { c with tb := c.tb + 1 })
    let s1 := if s.maySleep then s0 else s0.onPwr (fun p => { p with idleTb := s0.clock.tb })
    let d := s1.draw
    let s2 := if s1.hearth.pairA = .off then s1 else (d.2.bump 0 48).bump 2 (d.1 % 49)
    let s3 := if s2.hearth.pairB = .off then s2 else s2.bump 1 48
    s3.bump 3 8
  else s

/-- `n` ticks of TB. -/
def State.ticks : Nat → State → State
  | 0, s => s
  | n + 1, s => State.ticks n s.tick

end Sys2Proof.Machine
end

