-- ==== Sys2Proof/Safety.lean ====
section
/-!
DEFINITION. What a safe run of the block is, in the terms that the statements use: the invariant of the state, the order of the
life-cycle states, the outputs whose HV_EN is raised, and what the statements about frames, resets, stops, safe-off, reverts, key chains and
the tag memory speak of.
-/

namespace Sys2Proof.Machine

/-- Keys strictly rising: the canonical form of an association list. -/
def Rising {α : Type} (l : List (Nat × α)) : Prop := l.Pairwise (fun x y => x.1 < y.1)

/-- The place of a life-cycle state in the order of R53: no transition runs backward. -/
def LifeState.rank : LifeState → Nat
  | .blank => 0
  | .vendor => 1
  | .field => 2
  | .returned => 3
  | .scrapped => 4

/-- The Fireguard's HV_EN of an output is raised. -/
def State.raised (s : State) (o : Fin 6) : Bool := (s.guard.outs[o]).hv

/-- The invariant of the state: the tag memory, the register contents, values in use, kept conditions and the settings set
aside by a trial are in canonical form; no sluice holds more than 8 messages (R49); each performance counter fits its 48 bits
(R518); at most 256 log entries are staged (R528); and a transition under way leads forward (R53, R56). -/
structure State.Inv (s : State) : Prop where
  tagMem : Memory.wf s.tag.mem = true
  regs : Rising s.regs
  use : Rising s.use
  sticky : Rising s.sticky
  backup : ∀ b, s.fw.backup = some b → Rising b.1
  sluices : ∀ n : Fin 8, (s.host.sluices[n]).msgs.length ≤ 8
  counters : ∀ k : Fin 24, s.cnt.count[k] < 2 ^ 48
  staged : s.log.staged.length ≤ 256
  transit : ∀ t, s.life.inTransit = some t → s.life.state.rank ≤ t.rank

/-- The block is outside reset and in mode RUN. -/
def State.up (s : State) : Prop := s.pwr.inReset = false ∧ s.pwr.mode = .run

/-- A port takes frame `f` as a request of operation `op`: step 1 of R100 passes, and the part is not scrapped (R58). -/
structure State.Takes (s : State) (op : Nat) (f : Frame) : Prop where
  port : s.listens f.port = true
  forUs : s.forUs f = true
  whole : tooShort f = false
  crc : crcOk f = true
  form : malformed op f s.pwr.recovery = false
  life : s.life.state ≠ .scrapped

/-- Steps 2 to 5 of R100 pass for frame `f`, of session `h` with ID `i`; its extended SEQ is `e`. -/
structure State.Passes (s : State) (f : Frame) (i : Fin 64) (h : Session) (e : Nat) : Prop where
  names : s.sessionOf f = some (i, h)
  isOpen : h.opening = false
  tag : h.sealed = true → s.tagOk f h (h.keySlot.getD 0) = true
  bare : h.sealed = false → f.flags.toNat ≠ 2
  key : ¬ (h.keySlot.isSome = true ∧ (s.slot (h.keySlot.getD 0)).state = .orphan)
  seq : h.fate f.seq.toNat = .accept e
  bucket : tbSecond ≤ s.bucketNow h
  idle : s.hearthBusy = false

/-- What the next access of the open session `sid` needs (R100, steps 0 and 3 to 5): a port that takes frames, a key that is no orphan, a frame
in the damper's bucket, and a Hearth that takes accesses. -/
structure State.Ready (s : State) (sid : Fin 64) (h : Session) : Prop where
  names : s.session sid = some h
  port : s.listens h.port = true
  key : ¬ (h.keySlot.isSome = true ∧ (s.slot (h.keySlot.getD 0)).state = .orphan)
  bucket : tbSecond ≤ s.bucketNow h
  idle : s.hearthBusy = false

/-- The session `sid` is ready, and the dike lets it write `v` to register `r` of a block that is not dark (R42, R100, R125). -/
structure State.Granted (s : State) (sid : Fin 64) (h : Session) (r : RegSpec) (ix : List Nat) (v : W64) : Prop where
  ready : s.Ready sid h
  may : s.mayWriteAt sid h r ix v.toNat = true
  lit : s.isDark (r.addr ix / 0x10000) = false

/-- The response on the ports answers a request of session `h` with SEQ `seq` under ID `sid` (R95, R98): its status, COUNT and payload, SEALED as
the session has it, ATTN as the state has it (R124). BADFRAME on HP0 and HP1 carries SID 0. -/
def State.Answers (t : State) (sid : Fin 64) (h : Session) (seq status count : Nat) (payload : List W64) : Prop :=
  ∃ r, t.host.resp = some r ∧ r.sid = (if status = BADFRAME ∧ h.port.1 < 2 then 0 else sid.1) ∧ r.port = h.port ∧ r.status = status ∧
    r.seq = seq ∧ r.count = count ∧ r.payload = payload ∧ r.sealed = h.sealed ∧ r.attn = t.attn h.polder

/-- From `s` to `t` a request of session `sid`, with SEQ `seq` (extended `e`), has been consumed (R101, R113) and answered. -/
structure State.Served (s t : State) (sid : Fin 64) (h : Session) (seq e status count : Nat) (payload : List W64) : Prop where
  answer : t.Answers sid h seq status count payload
  session : ∃ x, t.session sid = some x ∧ x.ext = max h.ext e ∧ e ∈ x.consumed ∧ x.lastTb = s.clock.tb

/-- From `s` to `t` the next access of session `sid` has been answered with a status, a COUNT and a payload. -/
def State.Replies (s t : State) (sid : Fin 64) (h : Session) (status count : Nat) (payload : List W64) : Prop :=
  s.Served t sid h ((h.ext + 1) % 65536) (h.ext + 1) status count payload

/-- From `s` to `t` nothing of the host ports has changed but the response and session `sid`, and of the key slots at most that session's own. -/
structure State.HostKept (s t : State) (sid : Fin 64) (h : Session) : Prop where
  host : t.host = { s.host with resp := t.host.resp, table := t.host.table }
  others : ∀ i, i ≠ sid → t.sidUse i = s.sidUse i
  slots : ∀ n, n ≠ h.keySlot.getD 0 → t.slot n = s.slot n

/-- As `HostKept`, where journal entries or records were stored as well: the use count of the storage key in slot 4 may have moved (R65, R254). -/
structure State.HostStored (s t : State) (sid : Fin 64) (h : Session) : Prop where
  host : t.host = { s.host with resp := t.host.resp, table := t.host.table }
  others : ∀ i, i ≠ sid → t.sidUse i = s.sidUse i
  slots : ∀ n : Fin 256, n ≠ 4 → n ≠ h.keySlot.getD 0 → t.slot n = s.slot n

/-- From `s` to `t` a request of session `sid` has been taken and answered, and nothing else has happened: what changed is the session and the
response, the session key's use count, counters, the log, and the time of the last frame. -/
structure State.PathOnly (s t : State) (sid : Fin 64) (h : Session) : Prop where
  kept : s.HostKept t sid h
  rest : t = { s with host := t.host, keys := t.keys, cnt := t.cnt, log := t.log, pwr := { s.pwr with idleTb := s.clock.tb } }

/-- A cold reset of code `code` is in force in `t`, begun in `s`: the Hearth and TB stand, the digital die's jobs and sessions are gone,
only kept settings are left, and the life cycle is as it was but for its nonce (R479, R482). -/
structure State.Down (s t : State) (code : Nat) : Prop where
  inReset : t.pwr.inReset = true
  last : t.pwr.last = code
  level : t.pwr.level = 0
  hearth : t.hearth.running = false
  clock : t.clock = { s.clock with run := false, wall := none }
  jobs : t.jobs = Jobs.reset
  sessions : ∀ i : Fin 64, t.anySession i = none
  regs : ∀ e ∈ t.regs, keptReg e.1 = true
  life : t.life = { s.life with nonce := none }

/-- Where a stop takes an output (R338). -/
def OutState.stop : OutState → OutState
  | .lock | .link => .waitUnplug
  | .specCheck | .specPrecharge | .specReady => .rollback
  | .check | .precharge | .ready | .charging | .paused => .stopping
  | x => x

/-- From `s` to `t` output `o` has been stopped with a cause: its state is the one that a stop leads to, the cause is recorded where a
running session had none, and no other output's sequencer changed (R318, R338). -/
structure State.Stops (s t : State) (o : Fin 6) (cause : Nat) : Prop where
  state : (t.so o).state = (s.so o).state.stop
  cause : (s.so o).state.stop ≠ (s.so o).state → (s.so o).stopped = false → (t.so o).cause = cause ∧ (t.so o).stopped = true
  others : ∀ p, p ≠ o → t.so p = s.so p

/-- The chain that the model offers in a TLS handshake (R298, R301; under TLS 1.3 log entry 125). -/
def State.tlsChain (s : State) (version13 : Bool) : Fin 6 := if version13 then (if s.chainOk 4 then 4 else 5) else 3

/-- The vehicle of output `o` is reachable in a session, and its TLS records, where it has them, can be opened and sealed. -/
structure State.Linked (s : State) (o : Fin 6) : Prop where
  link : s.linkUp o = true
  session : (s.so o).sid.isSome = true
  opens : (s.veh.proto[o]).tls = true → (s.slot (recordSlot o false)).refusal engTLSR s.clock.tb = none
  seals : (s.veh.proto[o]).tls = true → (s.slot (recordSlot o true)).refusal engTLSR s.clock.tb = none

/-- The latest response to the vehicle of an output: its name, whether it reports a failure, and whether the process goes on. -/
def State.answeredVeh (s : State) (o : Fin 6) (msg : String) (failed ongoing : Bool) : Prop :=
  ∃ r, s.veh.resp[o] = some r ∧ r.msg = msg ∧ r.failed = failed ∧ r.ongoing = ongoing

/-- From `s` to `t` the safe-off sequencer has started with a trigger on the outputs of a map, at least one of them still raised: their
pilots are at F, and no HV_EN has fallen yet (R378, R379). -/
structure State.SafeOffOn (s t : State) (trigger outs : Nat) : Prop where
  runs : ∃ x, t.guard.safe = some x ∧ x.trigger = trigger ∧ ∀ o : Fin 6, bitOf outs o.1 = true → bitOf x.outputs o.1 = true
  shown : t.guard.soTrigger = trigger
  pilots : ∀ o : Fin 6, bitOf outs o.1 = true → s.has o = true → (t.veh.pilots[o]).drive = .minus12
  raised : ∀ o : Fin 6, t.raised o = s.raised o

/-- From `s` to `t` component `k` has been put back on its other slot, which held a verified image: the slot that failed is marked so, the
other one runs on recheck, and the revert is counted (R509). -/
structure State.Reverted (s t : State) (k : Fin 5) : Prop where
  active : (t.fw.comps[k]).active = !(s.fw.comps[k]).active
  failed : (t.fw.comps[k]).otherState = .failed
  runs : (t.fw.comps[k]).state = .active
  trial : (t.fw.comps[k]).trial = false
  recheck : (t.fw.comps[k]).recheck = true
  seconds : (t.fw.comps[k]).seconds = 0
  floor : (t.fw.comps[k]).floor = (s.fw.comps[k]).floor
  reverts : t.fw.reverts = min 65535 (s.fw.reverts + 1)
  others : ∀ i : Fin 5, i ≠ k → t.fw.comps[i] = s.fw.comps[i]

/-- Slot `c` descends from slot `n` (R73): its parent, recorded with the generation that the parent has now, is `n` or descends from `n`. -/
inductive Descends (slots : Vector KeySlot 256) (n : Fin 256) : Fin 256 → Prop
  | child (c : Fin 256) : slots[c].hasParent = true → Fin.ofNat 256 slots[c].parent = n → slots[n].gen = slots[c].parentGen → Descends slots n c
  | deeper (c p : Fin 256) : slots[c].hasParent = true → Fin.ofNat 256 slots[c].parent = p → slots[p].gen = slots[c].parentGen →
      Descends slots n p → Descends slots n c

/-- Commands that may store into the tag memory. -/
def storesTag : Instr → Bool
  | .write _ | .lifecycle _ _ _ | .coldBoot _ _ _ | .flashRetry _ | .tagFieldOn | .tagFieldLost | .tagSelectApplication _ | .tagSelectFile _
  | .tagReadBinary _ _ | .tagUpdateBinary _ | .tagVerify _ | .tagAuthBegin | .tagAuthFinish _ | .tagDeselect
  | .tagWindowWrite _ _ _ | .tagWireServe | .statusLineWrite | .statusLineNrst | .statusLineNotRunning => true
  | _ => false

end Sys2Proof.Machine
end

