-- ==== Sys2Proof/Certificates/Slice0/Obligations.lean ====
section
/-!
DEFINITION. The statements for the provers, from the numbered rules of the spec: the queue and the step, rules over the whole machine, and
for every command where it completes, what it leaves in the state and what it leaves alone.
-/

open Sys2Proof Sys2Proof.Machine

/-! ### The queue, the step, reset and the whole machine -/

/-- A step takes the command at the front of the queue and runs it on the state with the queue's rest, whatever the command. -/
def Obligations.StepRunsFront : Prop :=
  ∀ (c : Instr) (rest : List Instr) (s : State), s.pending = c :: rest → step s = exec c { s with pending := rest }

/-- With no command waiting, a step is one tick of TB: TB advances by one 40 ns tick while it runs, and besides the clock nothing changes
but the clock counters, the count of free values drawn and the start of the idle time of R458, which is now unless every condition of
AUTO holds (log entry 1). While TB stands still the state does not change. No step stops. -/
def Obligations.IdleStepIsOneTick : Prop :=
  ∀ s : State, s.pending = [] →
    ∃ t, step s = .next t ∧
      t = { s with clock := t.clock, cnt := t.cnt, draws := t.draws, pwr := { s.pwr with idleTb := t.pwr.idleTb } } ∧
      (s.clock.run = true → t.clock = { s.clock with tb := s.clock.tb + 1 } ∧
        t.pwr.idleTb = if s.maySleep = true then s.pwr.idleTb else s.clock.tb + 1) ∧
      (s.clock.run = false → t = s)

/-- Every command answers a next state and leaves the queue of waiting commands as it was. -/
def Obligations.CommandsAnswerNext : Prop :=
  ∀ (c : Instr) (s : State), ∃ t, exec c s = .next t ∧ t.pending = s.pending

/-- What the spec gives for reset: no command waits, TB is 0, the wall time is unknown, no session is open, no job waits, every HV_EN is
low, the Fireguard runs no safe-off, and the whole of the tag memory reads as delivered. The invariant holds at reset. -/
def Obligations.ResetStateMeetsInv : Prop :=
  State.reset.pending = [] ∧ State.reset.clock.tb = 0 ∧ State.reset.clock.wall = none ∧
  (∀ i, State.reset.sidUse i = .free) ∧ (∀ j, (State.reset.job j).state = .idle) ∧ (∀ o, State.reset.raised o = false) ∧
  State.reset.guard.safe = none ∧ (∀ a, Memory.read State.reset.tag.mem a = fram0 a) ∧
  State.reset.Inv

/-- Every step keeps the invariant. -/
def Obligations.StepKeepsInv : Prop := ∀ s t : State, s.Inv → step s = .next t → t.Inv

/-- No command but HV_EN_RAISE of that output raises an HV_EN. -/
def Obligations.OnlyRaiseRaises : Prop :=
  ∀ (c : Instr) (s t : State) (o : Output), exec c s = .next t → t.raised o = true → s.raised o = true ∨ c = .hvEnRaise o

/-- No step runs the life cycle backward, from any state that meets the invariant. -/
def Obligations.LifeNeverBackward : Prop :=
  ∀ s t : State, s.Inv → step s = .next t → s.life.state.rank ≤ t.life.state.rank

/-- R37: no command makes a session of P0, and an open request that names P0, in order and with room, is answered DENIED, opens nothing and
is logged (written, or folded as R529 has it). -/
def Obligations.NoSessionIsP0 : Prop :=
  (∀ (c : Instr) (s t : State), exec c s = .next t → (∀ i h, s.anySession i = some h → h.polder ≠ 0) →
    ∀ i h, t.anySession i = some h → h.polder ≠ 0) ∧
  (∀ (f : Frame) (s : State), s.up → s.Takes 3 f → s.pwr.recovery = false → s.hearthBusy = false → s.sidCount SidUse.isHost < 32 →
    s.openingOn f.port < 4 → helloPolder (f.payload.headD 0).toNat = 0 →
    (∀ t, (s.backoffOf f.port 0).until_ = some t → t ≤ s.clock.tb) →
    ∃ (t : State) (r : Response), exec (.hello f) s = .next t ∧ t.host.resp = some r ∧ r.status = DENIED ∧ t.host.table = s.host.table ∧
      (t.log.next = s.log.next + 1 ∨ t.log.folded = min 65535 (s.log.folded + 1)))

/-- No command stores into the tag memory but the tag's own commands (a field that replays, or that serves the waiting pages with one of its
commands, the window and its pages, the status line), a WRITE frame, a boot at which the tag powers up, and the transition to RETURNED,
in its job or at the boot that completes it: after every other command every byte of the tag memory is as it was. -/
def Obligations.TagMemoryKeeps : Prop :=
  ∀ (c : Instr) (s t : State), exec c s = .next t → storesTag c = false → t.tag.mem = s.tag.mem

/-- What the commands of wide effect leave alone, where no statement of their own says it: each changes at most the named parts of the
state, and every other part is as it was. -/
def Obligations.WideCommandsKeepTheRest : Prop :=
  (∀ (cmd : Instr) (s t : State), exec cmd s = .next t →
    (∃ f : Frame, cmd = .prove f) →
    t = { s with keys := t.keys, host := t.host, cnt := t.cnt, log := t.log, fw := t.fw, pwr := t.pwr, draws := t.draws }) ∧
  (∀ (cmd : Instr) (s t : State), exec cmd s = .next t →
    (∃ f : Frame, cmd = .close f) →
    t = { s with keys := t.keys, host := t.host, cnt := t.cnt, log := t.log, fw := t.fw, pwr := t.pwr }) ∧
  (∀ (cmd : Instr) (s t : State), exec cmd s = .next t →
    (∃ f : Frame, cmd = .submit f) ∨ (∃ f : Frame, cmd = .feed f) →
    t = { s with keys := t.keys, host := t.host, jobs := t.jobs, cnt := t.cnt, log := t.log, fw := t.fw, pwr := t.pwr }) ∧
  (∀ (cmd : Instr) (s t : State), exec cmd s = .next t →
    (∃ (j : Slot) (polder : Nat) (len : Nat) (pw : Bytes), cmd = .setPassword j polder len pw) →
    t = { s with keys := t.keys, host := t.host, jobs := t.jobs, fw := t.fw }) ∧
  (∀ (cmd : Instr) (s t : State), exec cmd s = .next t →
    (∃ (j : Slot) (p : DeriveParams), cmd = .keyDerive j p) →
    t = { s with keys := t.keys, jobs := t.jobs, cnt := t.cnt, log := t.log, draws := t.draws }) ∧
  (∀ (cmd : Instr) (s t : State), exec cmd s = .next t →
    (∃ (j : Slot) (p : ImportParams), cmd = .keyImport j p) →
    t = { s with keys := t.keys, jobs := t.jobs, cnt := t.cnt, log := t.log, tag := t.tag, draws := t.draws }) ∧
  (∀ (cmd : Instr) (s t : State), exec cmd s = .next t →
    (∃ (j : Slot) (target : KeySlotNo), cmd = .keyInvalidate j target) →
    t = { s with keys := t.keys, jobs := t.jobs, cnt := t.cnt, log := t.log, tag := t.tag }) ∧
  (∀ (cmd : Instr) (s t : State), exec cmd s = .next t →
    cmd = .planSwap →
    t = { s with use := t.use, keys := t.keys, cnt := t.cnt, log := t.log, grate := t.grate, sens := t.sens, nrg := t.nrg,
                 mseal := t.mseal, guard := t.guard, veh := t.veh, draws := t.draws }) ∧
  (∀ (cmd : Instr) (s t : State), exec cmd s = .next t →
    (∃ n : LineNo, cmd = .tripLineAssert n) →
    t = { s with regs := t.regs, use := t.use, sticky := t.sticky, keys := t.keys, host := t.host, cnt := t.cnt, log := t.log,
                 grate := t.grate, sens := t.sens, bil := t.bil, mseal := t.mseal, fw := t.fw, guard := t.guard, seqr := t.seqr,
                 veh := t.veh, lsw := t.lsw, draws := t.draws }) ∧
  (∀ (cmd : Instr) (s t : State), exec cmd s = .next t →
    cmd = .sealAutoClose →
    t = { s with keys := t.keys, jobs := t.jobs, cnt := t.cnt, log := t.log, grate := t.grate, nrg := t.nrg, mseal := t.mseal,
                 draws := t.draws }) ∧
  (∀ (cmd : Instr) (s t : State), exec cmd s = .next t →
    (∃ run : Bytes, cmd = .cmStartAttenCharInd run) ∨ (∃ (run : Bytes) (atten : Nat), cmd = .neighbourAttenChar run atten) →
    t = { s with veh := t.veh }) ∧
  (∀ (cmd : Instr) (s t : State), exec cmd s = .next t →
    (∃ (o : Output) (id : Ident), cmd = .identification o id) ∨ (∃ o : Output, cmd = .authDeadline o) ∨
    (∃ o : Output, cmd = .lockTimeout o) ∨ (∃ o : Output, cmd = .rollbackTimeout o) ∨
    (∃ (o : Output) (mv : Nat), cmd = .outputBelow60v o mv) ∨ (∃ o : Output, cmd = .stoppingTimeout o) ∨
    (∃ o : Output, cmd = .acStopTimeout o) ∨ (∃ (o : Output) (ma : Int), cmd = .stopCurrentLow o ma) ∨
    (∃ n : ChanNo, cmd = .thermalLatch n) →
    t = { s with use := t.use, keys := t.keys, host := t.host, cnt := t.cnt, log := t.log, sens := t.sens, bil := t.bil,
                 guard := t.guard, seqr := t.seqr, veh := t.veh, lsw := t.lsw }) ∧
  (∀ (cmd : Instr) (s t : State), exec cmd s = .next t →
    (∃ (sid : Sid) (o : Output) (v : W64), cmd = .vehDecideAuthorisation sid o v) ∨
    (∃ (sid : Sid) (o : Output) (v : W64), cmd = .vehDecideWithdraw sid o v) →
    t = { s with use := t.use, sticky := t.sticky, keys := t.keys, host := t.host, cnt := t.cnt, log := t.log, sens := t.sens,
                 bil := t.bil, fw := t.fw, guard := t.guard, seqr := t.seqr, veh := t.veh, lsw := t.lsw, pwr := t.pwr }) ∧
  (∀ (cmd : Instr) (s t : State), exec cmd s = .next t →
    (∃ o : Output, cmd = .acPauseLimit o) ∨ (∃ o : Output, cmd = .thermalStop o) ∨ (∃ netB : Bool, cmd = .networkMissing netB) ∨
    cmd = .networkDisagreement →
    t = { s with keys := t.keys, host := t.host, cnt := t.cnt, log := t.log, bil := t.bil, guard := t.guard, seqr := t.seqr,
                 veh := t.veh, lsw := t.lsw }) ∧
  (∀ (cmd : Instr) (s t : State), exec cmd s = .next t →
    (∃ o : Output, cmd = .waitUnplugDone o) ∨ (∃ n : ChanNo, cmd = .lockEndOfTravel n) ∨ (∃ n : ChanNo, cmd = .lockDriveTimeout n) ∨
    cmd = .vauxRecover ∨ (∃ k : CabNo, cmd = .cabinetLost k) ∨ (∃ k : CabNo, cmd = .cabinetStartTimeout k) →
    t = { s with use := t.use, keys := t.keys, host := t.host, cnt := t.cnt, log := t.log, sens := t.sens, bil := t.bil,
                 guard := t.guard, seqr := t.seqr, veh := t.veh, lsw := t.lsw, draws := t.draws }) ∧
  (∀ (cmd : Instr) (s t : State), exec cmd s = .next t →
    (∃ (sid : Sid) (v : W64), cmd = .seqBlock sid v) ∨ (∃ (sid : Sid) (v : W64), cmd = .seqUnblock sid v) →
    t = { s with use := t.use, sticky := t.sticky, keys := t.keys, host := t.host, cnt := t.cnt, log := t.log, sens := t.sens,
                 bil := t.bil, fw := t.fw, guard := t.guard, seqr := t.seqr, veh := t.veh, lsw := t.lsw, pwr := t.pwr, draws := t.draws }) ∧
  (∀ (cmd : Instr) (s t : State), exec cmd s = .next t →
    (∃ (a : Bool) (b : Bool), cmd = .guardChange a b) ∨ cmd = .bothNetworksLost ∨ cmd = .degradedLimit ∨ cmd = .clockFault ∨
    cmd = .holdExpire ∨ (∃ c : FgCause, cmd = .fireguardReset c) →
    t = { s with regs := t.regs, use := t.use, keys := t.keys, host := t.host, cnt := t.cnt, log := t.log, sens := t.sens, bil := t.bil,
                 mseal := t.mseal, fw := t.fw, guard := t.guard, seqr := t.seqr, veh := t.veh, lsw := t.lsw, draws := t.draws }) ∧
  (∀ (cmd : Instr) (s t : State), exec cmd s = .next t →
    cmd = .vauxUndervoltage →
    t = { s with use := t.use, sticky := t.sticky, keys := t.keys, host := t.host, cnt := t.cnt, log := t.log, sens := t.sens,
                 bil := t.bil, guard := t.guard, seqr := t.seqr, veh := t.veh, lsw := t.lsw, draws := t.draws }) ∧
  (∀ (cmd : Instr) (s t : State), exec cmd s = .next t →
    (∃ cards : List CardIn, cmd = .pollCycle cards) ∨ (∃ cards : List CardIn, cmd = .inventory cards) →
    t = { s with use := t.use, keys := t.keys, host := t.host, cnt := t.cnt, log := t.log, sens := t.sens, bil := t.bil,
                 guard := t.guard, seqr := t.seqr, veh := t.veh, lsw := t.lsw, rdr := t.rdr, draws := t.draws }) ∧
  (∀ (cmd : Instr) (s t : State), exec cmd s = .next t →
    (∃ (sid : Sid) (v : W64), cmd = .nfcBind sid v) →
    t = { s with use := t.use, sticky := t.sticky, keys := t.keys, host := t.host, cnt := t.cnt, log := t.log, sens := t.sens,
                 bil := t.bil, fw := t.fw, guard := t.guard, seqr := t.seqr, veh := t.veh, lsw := t.lsw, rdr := t.rdr, pwr := t.pwr,
                 draws := t.draws })

/-! ### Host frames, sessions, jobs and sluices (R95 to R124) -/

/-- A NOP that passes R100 is answered OK without payload, with ATTN as R124 has it, consumes its SEQ (R101, R113), and does nothing else. A
CLOSE in order is answered OK and closes its session: its ID goes to the back of the free list, and its key slot, if it has one, is
EMPTY and keeps its generation. The polder's jobs, the sluices and the registers stay as they are. A request that CS_N aborts on HP0 or
HP1, and a partial frame on HP2, are counted in DROPPED of the port, which saturates at 16 bits, and change nothing else; no response is
given. A session that waits 2 s in the opening state, and an open one that consumes no frame for IDLE seconds, close: the ID goes to the
back of the free list, the key slot is EMPTY, and jobs and sluices stay; before that time nothing happens. A port with PENDING and 1 s
without a session takes up its S-class values. -/
def Obligations.FramesAnswerAndCloseAndPorts : Prop :=
  (∀ (f : Frame) (s : State) (i : Fin 64) (h : Session) (e : Nat), s.Takes 8 f → s.Passes f i h e →
    ∃ t, exec (.nop f) s = .next t ∧ s.Served t i h f.seq.toNat e OK 0 [] ∧ s.PathOnly t i h) ∧
  (∀ (f : Frame) (s : State) (i : Fin 64) (h : Session) (e : Nat), s.Takes 5 f → s.Passes f i h e →
    ∃ t, exec (.close f) s = .next t ∧ t.Answers i h f.seq.toNat OK 0 [] ∧
      t.sidUse i = .free ∧ t.host.freeSids = s.host.freeSids ++ [i] ∧ (∀ j, j ≠ i → t.sidUse j = s.sidUse j) ∧
      t.jobs = s.jobs ∧ t.host.sluices = s.host.sluices ∧ t.regs = s.regs ∧
      (∀ n, h.keySlot = some n → (t.slot n).state = .empty ∧ (t.slot n).gen = (s.slot n).gen)) ∧
  (∀ (p : Port) (s : State), p.1 < 2 → s.listens p = true →
    ∃ t, exec (.requestAborted p) s = .next t ∧ t = { s with host := t.host } ∧ t.host.resp = none ∧
      (t.host.ports[p]).dropped = min 65535 ((s.host.ports[p]).dropped + 1) ∧ t.host.table = s.host.table ∧
      (∀ q, q ≠ p → t.host.ports[q] = s.host.ports[q])) ∧
  (∀ s : State, s.listens 2 = true →
    ∃ t, exec .partialFrameDiscard s = .next t ∧ t = { s with host := t.host } ∧ t.host.resp = none ∧
      (t.host.ports[(2 : Fin 4)]).dropped = min 65535 ((s.host.ports[(2 : Fin 4)]).dropped + 1) ∧ t.host.table = s.host.table) ∧
  (∀ (sid : Sid) (s : State) (h : Session), s.anySession sid = some h → h.opening = true → h.lastTb + 2 * tbSecond ≤ s.clock.tb →
    ∃ t, exec (.openingTimeout sid) s = .next t ∧ t.sidUse sid = .free ∧ t.host.freeSids = s.host.freeSids ++ [sid] ∧
      (∀ i, i ≠ sid → t.sidUse i = s.sidUse i) ∧
      t = { s with host := t.host, keys := t.keys, fw := t.fw } ∧ t.host.sluices = s.host.sluices) ∧
  (∀ (sid : Sid) (s : State) (h : Session), s.session sid = some h → h.lastTb + h.idle * tbSecond ≤ s.clock.tb →
    ∃ t, exec (.idleTimeout sid) s = .next t ∧ t.sidUse sid = .free ∧ t.host.freeSids = s.host.freeSids ++ [sid] ∧
      (∀ n, h.keySlot = some n → (t.slot n).state = .empty) ∧ (∀ i, i ≠ sid → t.sidUse i = s.sidUse i) ∧
      t = { s with host := t.host, keys := t.keys, fw := t.fw } ∧ t.host.sluices = s.host.sluices) ∧
  (∀ (sid : Sid) (s : State) (h : Session), s.session sid = some h → s.clock.tb < h.lastTb + h.idle * tbSecond →
    exec (.idleTimeout sid) s = .next s) ∧
  (∀ (p : Port) (s : State), s.portDue p = true →
    ∃ t, exec (.portRestart p) s = .next t ∧ t.portPending p = false ∧ t = { s with use := t.use } ∧
      (∀ a, a ≠ R.SES_PORTCFGn.addr [p.1] → getKey a t.use = getKey a s.use))

/-- A READ in order of one register that the session may read, in a block that is not dark, with time known where the register needs it, is
answered OK with COUNT 1 and the register's word as it stands once the frame is taken; besides the frame's path it changes only what a
register that clears on reading clears, and for a register without such fields nothing. A READ of a run of such registers answers all
their words, in rising order of address, job status words apart (their reading marks the job as seen). A READ of a job's results, and of
the log export of the polder's latest export, answers their words from the offset, PARTIAL with the words there are where they run out.
A READ of the card answer or of a relayed request answers the bytes of that buffer, which reads zero beyond its contents; one of the tag
memory its bytes, unless the field holds it. Of an address that holds no register a READ answers NOADDR, of a register that the session
may not read DENIED, and of one in a dark block DARK with a zero word, which is counted. A WRITE in order of one word to a register that
the session may write, in a block that is not dark, is carried out by that register's writer on the state as it stands once the frame is
taken, and answered with the writer's status: COUNT 1 where it is OK, and one payload word where it is BUSY. A register without limits,
effects or locks of its own takes the word in its RW fields and leaves the rest of itself and every other register as they were. A WRITE
to the card command or to a relayed response stores its bytes there; one to a sluice with room stores its message. Of an address that
holds no register a WRITE answers NOADDR, and of a register that the session may not write DENIED; neither writes anything. -/
def Obligations.ReadAndWriteRegisters : Prop :=
  (∀ (f : Frame) (s : State) (i : Fin 64) (h : Session) (e : Nat) (r : RegSpec) (ix : List Nat),
    s.Takes 1 f → s.Passes f i h e → f.count = 1 → inRegion f.addr.toNat 1 = true → windowAt f.addr.toNat = none →
    regAt f.addr.toNat = some (r, ix) → s.mayRead i h r ix = true → s.isDark (f.addr.toNat / 0x10000) = false →
    (needsTime r = true → s.clock.wall.isSome = true) →
    ∃ t u : State, exec (.read f) s = .next t ∧ s.PathOnly u i h ∧ s.Served t i h f.seq.toNat e OK 1 [u.readReg i r ix] ∧
      t = { s with sticky := t.sticky, host := t.host, keys := t.keys, jobs := t.jobs, cnt := t.cnt, log := t.log, grate := t.grate,
                   sens := t.sens, pwr := { s.pwr with idleTb := s.clock.tb } } ∧
      (r.clearMask = 0 →
        r.base ∉ [R.JOB_STATUSn.base, R.GRT_PROBE_FLAGS.base, R.MET_CAL_STATE.base, R.CNT_BWPEAKn.base, R.CNT_EVk.base, R.PWR_TEMP.base] →
        s.PathOnly t i h)) ∧
  (∀ (f : Frame) (s : State) (i : Fin 64) (h : Session) (e : Nat),
    s.Takes 1 f → s.Passes f i h e → inRegion f.addr.toNat f.count.toNat = true → windowAt f.addr.toNat = none →
    (∀ k, k < f.count.toNat → ∃ x, regAt (f.addr.toNat + 8 * k) = some x ∧ s.mayRead i h x.1 x.2 = true ∧
      s.isDark ((f.addr.toNat + 8 * k) / 0x10000) = false ∧ x.1.base ≠ R.JOB_STATUSn.base ∧
      (needsTime x.1 = true → s.clock.wall.isSome = true)) →
    ∃ (t u : State) (words : List W64), exec (.read f) s = .next t ∧ s.PathOnly u i h ∧ words.length = f.count.toNat ∧
      s.Served t i h f.seq.toNat e OK f.count.toNat words ∧
      (∀ k x, k < f.count.toNat → regAt (f.addr.toNat + 8 * k) = some x → words[k]? = some (u.readReg i x.1 x.2))) ∧
  (∀ (f : Frame) (s : State) (i : Fin 64) (h : Session) (e : Nat) (w : Window) (base size : Nat),
    s.Takes 1 f → s.Passes f i h e → inRegion f.addr.toNat f.count.toNat = true → windowAt f.addr.toNat = some (w, base, size) →
    w.startOk (f.addr.toNat - base) = true → s.mayReadWindow h w (f.addr.toNat - base) = true → s.isDark w.block = false →
    ∃ (t : State) (words : List W64), exec (.read f) s = .next t ∧
      (∀ j, w = .results j → words = ((recordWords 0 (s.job j).records).drop ((f.addr.toNat - base) / 8)).take f.count.toNat ∧
        s.Served t i h f.seq.toNat e (if words.length = f.count.toNat then OK else PARTIAL) words.length words ∧ s.PathOnly t i h) ∧
      (w = .log → words = ((bytesWords ((s.logSlot h.polder).elim [] (fun j => (s.job j).exported))).drop ((f.addr.toNat - base) / 8)).take
          f.count.toNat ∧
        s.Served t i h f.seq.toNat e (if words.length = f.count.toNat then OK else PARTIAL) words.length words ∧ s.PathOnly t i h) ∧
      (w = .cardAnswer → words = bytesWords (((s.rdr.response.drop (f.addr.toNat - base)) ++ List.replicate (8 * f.count.toNat) 0#8).take
          (8 * f.count.toNat)) ∧ s.Served t i h f.seq.toNat e OK f.count.toNat words ∧ s.PathOnly t i h) ∧
      (∀ o, w = .relayRequest o → words = bytesWords ((((s.veh.relay[o]).request.drop (f.addr.toNat - base)) ++
          List.replicate (8 * f.count.toNat) 0#8).take (8 * f.count.toNat)) ∧
        s.Served t i h f.seq.toNat e OK f.count.toNat words ∧ s.PathOnly t i h) ∧
      (w = .tag → s.tagHeld = 0 → words = bytesWords (Memory.readBytes s.tag.mem (f.addr.toNat - base) (8 * f.count.toNat)) ∧
        s.Served t i h f.seq.toNat e OK f.count.toNat words ∧ s.PathOnly t i h) ∧
      (∀ n, w = .sluiceRx n → words = ((s.host.sluices[n]).msgs.headD []).take f.count.toNat ∧
        s.Served t i h f.seq.toNat e OK words.length words ∧ (t.host.sluices[n]).msgs = (s.host.sluices[n]).msgs.drop 1 ∧
        (∀ m, m ≠ n → t.host.sluices[m] = s.host.sluices[m]) ∧
        t = { s with host := t.host, keys := t.keys, cnt := t.cnt, log := t.log, pwr := { s.pwr with idleTb := s.clock.tb } })) ∧
  (∀ (f : Frame) (s : State) (i : Fin 64) (h : Session) (e : Nat),
    s.Takes 1 f → s.Passes f i h e → f.count = 1 → inRegion f.addr.toNat 1 = true → windowAt f.addr.toNat = none →
    ∃ t, exec (.read f) s = .next t ∧
      (regAt f.addr.toNat = none → s.Served t i h f.seq.toNat e NOADDR 0 [] ∧ s.PathOnly t i h) ∧
      (∀ r ix, regAt f.addr.toNat = some (r, ix) → s.mayRead i h r ix = false →
        s.Served t i h f.seq.toNat e DENIED 0 [] ∧ s.PathOnly t i h) ∧
      (∀ r ix, regAt f.addr.toNat = some (r, ix) → s.mayRead i h r ix = true → s.isDark (f.addr.toNat / 0x10000) = true →
        s.Served t i h f.seq.toNat e DARK 1 [0] ∧ t.host.darkCount = min (2 ^ 32 - 1) (s.host.darkCount + 1) ∧ t.regs = s.regs)) ∧
  (∀ (f : Frame) (s : State) (i : Fin 64) (h : Session) (e : Nat) (r : RegSpec) (ix : List Nat) (v : W64),
    s.Takes 2 f → s.Passes f i h e → f.payload = [v] → inRegion f.addr.toNat 1 = true → windowAt f.addr.toNat = none →
    regAt f.addr.toNat = some (r, ix) → s.mayWriteAt i h r ix v.toNat = true → s.isDark (f.addr.toNat / 0x10000) = false →
    ∃ t u : State, exec (.write f) s = .next t ∧ s.PathOnly u i h ∧
      t.Answers i h f.seq.toNat (writeReg r i h.polder ix v u).1 (b2n ((writeReg r i h.polder ix v u).1 == OK))
        (if (writeReg r i h.polder ix v u).1 = BUSY then [busyWord 0 7] else []) ∧
      t = { (writeReg r i h.polder ix v u).2 with host := t.host, keys := t.keys, cnt := t.cnt, log := t.log }) ∧
  (∀ (f : Frame) (s : State) (i : Fin 64) (h : Session) (e : Nat) (r : RegSpec) (ix : List Nat) (v : W64),
    s.Takes 2 f → s.Passes f i h e → f.payload = [v] → inRegion f.addr.toNat 1 = true → windowAt f.addr.toNat = none →
    regAt f.addr.toNat = some (r, ix) → s.mayWriteAt i h r ix v.toNat = true → s.isDark (f.addr.toNat / 0x10000) = false →
    writers.all (fun w => w.1 != r.base) = true →
    ∃ t, exec (.write f) s = .next t ∧ s.Served t i h f.seq.toNat e OK 1 [] ∧ s.HostKept t i h ∧
      t.reg r ix = mergeMask (s.reg r ix) v.toNat r.rwMask ∧
      (∀ a, a ≠ f.addr.toNat → getKey a t.regs = getKey a s.regs) ∧
      t = { s with regs := t.regs, host := t.host, keys := t.keys, cnt := t.cnt, log := t.log, pwr := { s.pwr with idleTb := s.clock.tb } }) ∧
  (∀ (f : Frame) (s : State) (i : Fin 64) (h : Session) (e : Nat) (w : Window) (base size : Nat),
    s.Takes 2 f → s.Passes f i h e → inRegion f.addr.toNat f.payload.length = true → windowAt f.addr.toNat = some (w, base, size) →
    w.startOk (f.addr.toNat - base) = true → s.mayWriteWindow h w (f.addr.toNat - base) = true → s.isDark w.block = false →
    ∃ t, exec (.write f) s = .next t ∧
      (w = .cardCommand → s.Served t i h f.seq.toNat e OK f.payload.length [] ∧ s.HostKept t i h ∧
        t.rdr = { s.rdr with command := storeAt 0x200 (f.addr.toNat - base) f.payload s.rdr.command } ∧
        t = { s with rdr := t.rdr, host := t.host, keys := t.keys, cnt := t.cnt, log := t.log, pwr := { s.pwr with idleTb := s.clock.tb } }) ∧
      (∀ o, w = .relayAnswer o → s.Served t i h f.seq.toNat e OK f.payload.length [] ∧ s.HostKept t i h ∧
        (t.veh.relay[o]).response = storeAt 0x1000 (f.addr.toNat - base) f.payload (s.veh.relay[o]).response ∧
        (∀ p, p ≠ o → t.veh.relay[p] = s.veh.relay[p]) ∧
        t = { s with veh := t.veh, host := t.host, keys := t.keys, cnt := t.cnt, log := t.log, pwr := { s.pwr with idleTb := s.clock.tb } }) ∧
      (∀ n, w = .sluiceTx n → (s.host.sluices[n]).msgs.length < 8 → s.Served t i h f.seq.toNat e OK f.payload.length [] ∧
        (t.host.sluices[n]).msgs = (s.host.sluices[n]).msgs ++ [f.payload] ∧ (∀ m, m ≠ n → t.host.sluices[m] = s.host.sluices[m]) ∧
        t = { s with host := t.host, keys := t.keys, cnt := t.cnt, log := t.log, pwr := { s.pwr with idleTb := s.clock.tb } })) ∧
  (∀ (f : Frame) (s : State) (i : Fin 64) (h : Session) (e : Nat) (v : W64),
    s.Takes 2 f → s.Passes f i h e → f.payload = [v] → inRegion f.addr.toNat 1 = true → windowAt f.addr.toNat = none →
    ∃ t, exec (.write f) s = .next t ∧
      (regAt f.addr.toNat = none → s.Served t i h f.seq.toNat e NOADDR 0 [] ∧ s.PathOnly t i h) ∧
      (∀ r ix, regAt f.addr.toNat = some (r, ix) → s.mayWriteAt i h r ix v.toNat = false →
        s.Served t i h f.seq.toNat e DENIED 0 [] ∧ s.PathOnly t i h))

/-- A HELLO in order, outside recovery, with quota, opening places and an ID left, no back-off running and a polder from 1 to 5 (with a
password set where it asks for one, but in RETURNED, where P3's and P5's is taken and its PROVE fails), takes the first free ID, answers
OK with that ID in the header and five words, the serial first, and leaves the session waiting in the opening state with a fresh device
nonce. In recovery a HELLO opens P4's session at once where no host session is there. A PROVE in order with the proof of R106 opens its
session with the SEQ of the PROVE consumed, and is answered OK with the device's own proof of six words. In password mode the session
has no key. In key mode with a host key that may be used for the proof and then for the derivation, or in a commissioning open without
one, the session key is derived (R107) into a free slot of 16 to 47, which records the host-key slot as its parent. With any other
payload, and where no K is there to prove with, a PROVE is answered AUTHFAIL, the back-off of its port and polder grows, and the ID is
free again. -/
def Obligations.SessionsOpen : Prop :=
  (∀ (f : Frame) (s : State) (i : Fin 64) (rest : List (Fin 64)), s.Takes 3 f → s.pwr.recovery = false → s.hearthBusy = false →
    s.sidCount SidUse.isHost < 32 → s.openingOn f.port < 4 → s.host.freeSids = i :: rest →
    helloPolder (f.payload.headD 0).toNat ≠ 0 →
    (∀ t, (s.backoffOf f.port (helloPolder (f.payload.headD 0).toNat)).until_ = some t → t ≤ s.clock.tb) →
    (helloPassword (f.payload.headD 0).toNat = true → (s.passwordOf (helloPolder (f.payload.headD 0).toNat)).isSome = true ∨
      (s.life.state = .returned ∧ (helloPolder (f.payload.headD 0).toNat = 3 ∨ helloPolder (f.payload.headD 0).toNat = 5))) →
    ∃ (t : State) (r : Response) (x : Session), exec (.hello f) s = .next t ∧ t.host.resp = some r ∧ r.status = OK ∧ r.sid = i.1 ∧
      r.seq = f.seq.toNat ∧ r.count = 5 ∧ r.payload = s.life.serial :: bytesWords x.devNonce ∧ r.attn = false ∧
      t.sidUse i = .host x ∧ x.opening = true ∧ x.port = f.port ∧ x.polder = helloPolder (f.payload.headD 0).toNat ∧
      x.password = helloPassword (f.payload.headD 0).toNat ∧ x.sealed = helloSeal (f.payload.headD 0).toNat ∧
      x.idle = helloIdle (f.payload.headD 0).toNat ∧ x.hello0 = f.payload.headD 0 ∧ x.hostNonce = wordBytes (f.payload.drop 1) ∧
      x.devNonce.length = 32 ∧ t.host.freeSids = rest ∧ (∀ k, k ≠ i → t.sidUse k = s.sidUse k) ∧
      t = { s with host := t.host, cnt := t.cnt, draws := s.draws + 32 }) ∧
  (∀ (f : Frame) (s : State) (i : Fin 64) (rest : List (Fin 64)), s.Takes 3 f → s.pwr.recovery = true →
    s.sidCount SidUse.isHost = 0 → s.host.freeSids = i :: rest → helloPolder (f.payload.headD 0).toNat ≠ 0 →
    ∃ (t : State) (r : Response) (x : Session), exec (.hello f) s = .next t ∧ t.host.resp = some r ∧ r.status = OK ∧ r.sid = i.1 ∧
      r.count = 5 ∧ t.session i = some x ∧ x.polder = 4 ∧ x.port = f.port ∧ x.keySlot = none ∧ x.sealed = false ∧ t.host.freeSids = rest) ∧
  (∀ (f : Frame) (s : State) (i : Fin 64) (h : Session) (k : Bytes), s.Takes 4 f → s.sessionOf f = some (i, h) → h.opening = true →
    s.hearthBusy = false → h.password = true → s.openKey h = some k → wordBytes f.payload = proofOf "LV3750-OPEN" k h i →
    ∃ (t : State) (x : Session), exec (.prove f) s = .next t ∧
      (∃ r, t.host.resp = some r ∧ r.status = OK ∧ r.sid = i.1 ∧ r.seq = f.seq.toNat ∧ r.count = 6 ∧
        r.payload = bytesWords (proofOf "LV3750-ACPT" k h i) ∧ r.sealed = false ∧ r.attn = t.attn h.polder) ∧
      t.session i = some x ∧ x.ext = f.seq.toNat ∧ x.consumed = [f.seq.toNat] ∧ x.keySlot = none ∧ x.polder = h.polder ∧
      x.commissioning = false ∧ (t.backoffOf h.port h.polder) = { n := 0, until_ := none } ∧ (∀ j, j ≠ i → t.sidUse j = s.sidUse j) ∧
      t = { s with host := t.host, cnt := t.cnt, pwr := { s.pwr with idleTb := s.clock.tb } }) ∧
  (∀ (f : Frame) (s : State) (i : Fin 64) (h : Session) (k : Bytes) (n : Fin 256), s.Takes 4 f → s.sessionOf f = some (i, h) →
    h.opening = true → s.hearthBusy = false → h.password = false → s.openKey h = some k →
    wordBytes f.payload = proofOf "LV3750-OPEN" k h i → s.freeKeySlot = some n →
    (s.mayCommission h = false →
      ((s.keyUse (hostKeySlot h.polder) engHMAC h.polder).2.slot (hostKeySlot h.polder)).refusal engKDF s.clock.tb = none) →
    ∃ (t : State) (x : Session), exec (.prove f) s = .next t ∧
      (∃ r, t.host.resp = some r ∧ r.status = OK ∧ r.sid = i.1 ∧ r.seq = f.seq.toNat ∧ r.count = 6 ∧
        r.payload = bytesWords (proofOf "LV3750-ACPT" k h i) ∧ r.sealed = false ∧ r.attn = t.attn h.polder) ∧
      t.session i = some x ∧ x.ext = f.seq.toNat ∧ x.consumed = [f.seq.toNat] ∧ x.keySlot = some n ∧ x.polder = h.polder ∧
      x.commissioning = s.mayCommission h ∧ (t.backoffOf h.port h.polder) = { n := 0, until_ := none } ∧
      (t.slot n).state = .valid ∧ (t.slot n).gen = (s.slot n).gen + 1 ∧
      (t.slot n).key = kdf k (ascii "LV3750-SESSION") (h.devNonce ++ h.hostNonce ++ leBytes 1 h.port.1 ++ leBytes 1 i.1) 128 ∧
      (t.slot n).parent = (hostKeySlot h.polder).1 ∧ (t.slot n).hasParent = true ∧ (t.slot n).grant = h.polder) ∧
  (∀ (f : Frame) (s : State) (i : Fin 64) (h : Session), s.Takes 4 f → s.sessionOf f = some (i, h) → h.opening = true →
    s.hearthBusy = false → (∀ k, s.openKey h = some k → wordBytes f.payload ≠ proofOf "LV3750-OPEN" k h i) →
    ∃ (t : State) (r : Response), exec (.prove f) s = .next t ∧ t.host.resp = some r ∧ r.status = AUTHFAIL ∧ r.sid = i.1 ∧ r.count = 0 ∧
      t.sidUse i = .free ∧ (t.backoffOf h.port h.polder).n = (s.backoffOf h.port h.polder).n + 1 ∧
      (t.backoffOf h.port h.polder).until_ =
        some (s.clock.tb + min (2 ^ (s.backoffOf h.port h.polder).n) 64 * tbSecond) ∧ (∀ j, j ≠ i → t.sidUse j = s.sidUse j))

/-- A SUBMIT in order of a known job that the session may run places it in the named idle slot, or in the lowest idle one for ADDR
0xFFFF_FFFF: queued, with the next job ID, the code, the polder and the parameters, and is answered OK with its status word. So it is
for every code: a key job whose target no job reserves, a LIFECYCLE with no update and no charging session, an UPDATE with no update
there. With no slot free it is answered FULL and places nothing; of a code that the session may not run it is answered DENIED and places
nothing. Of an UPDATE while another is there it takes that one over where a RESUME may (R498), and is answered BUSY with its polder
where it asks for none. A FEED in order to a queued or running job of the polder whose buffer has room (for an UPDATE: from the session
that holds it, with the buffer empty) appends the words and answers their count; where the buffer has no room it is answered FULL and
appends nothing. CANCEL of a waiting or running job of the polder that may be cancelled leaves it cancelled, ends its update where it is
one, and answers OK; one that may not be cancelled answers LOCKED and stays. RELEASE of a finished job returns its slot to idle; it
leaves a job that waits or runs. Either does nothing on an idle slot. A finished job expires after 600 s. SET_PASSWORD with a password
of 8 to 32 bytes stores SHA-384 over the serial and the password for its polder, one of 0 bytes removes it; either closes the polder's
password sessions and finishes the job. Of another polder, or with another length, it fails with BADFRAME and changes no password. Other
slots stay. -/
def Obligations.JobsRunTheirCourse : Prop :=
  (∀ (f : Frame) (s : State) (i : Fin 64) (h : Session) (e : Nat) (j : Slot) (w : W64) (ws : List W64), s.Takes 6 f → s.Passes f i h e →
    f.payload = w :: ws → knownJob w.toNat = true → s.mayRun h w.toNat ((newJob h 0 w.toNat ws).param 1) = true →
    s.freeSlot f.addr.toNat = some j →
    ((w.toNat = 0x20 ∨ w.toNat = 0x21 ∨ w.toNat = 0x22) → s.reservedBy (Config.jobTarget w.toNat ws % 256) = none) →
    (w.toNat = 0x24 → s.updateExists = false ∧ ∀ o : Output, (s.so o).sid = none) → (w.toNat = 0x30 → s.updateExists = false) →
    ∃ t, exec (.submit f) s = .next t ∧ s.Served t i h f.seq.toNat e OK 1 [w64 (t.jobWord j)] ∧ s.HostKept t i h ∧
      (t.job j).id = s.jobs.nextId ∧ (t.job j).code = w.toNat ∧ (t.job j).polder = h.polder ∧ (t.job j).params = ws ∧
      (t.job j).state = .queued ∧ (t.job j).records = [] ∧ (t.job j).commissioning = h.commissioning ∧
      t.jobs.nextId = (s.jobs.nextId + 1) % 65536 ∧ t.jobs.order = s.jobs.order.filter (· != j) ++ [j] ∧ (∀ k, k ≠ j → t.job k = s.job k) ∧
      (w.toNat ≠ 0x30 → t.fw = s.fw) ∧
      t = { s with jobs := t.jobs, fw := t.fw, host := t.host, keys := t.keys, cnt := t.cnt, log := t.log,
                   pwr := { s.pwr with idleTb := s.clock.tb } }) ∧
  (∀ (f : Frame) (s : State) (i : Fin 64) (h : Session) (e : Nat) (w : W64) (ws : List W64), s.Takes 6 f → s.Passes f i h e →
    f.payload = w :: ws → knownJob w.toNat = true → s.mayRun h w.toNat ((newJob h 0 w.toNat ws).param 1) = true →
    s.freeSlot f.addr.toNat = none →
    ((w.toNat = 0x20 ∨ w.toNat = 0x21 ∨ w.toNat = 0x22) → s.reservedBy (Config.jobTarget w.toNat ws % 256) = none) →
    (w.toNat = 0x24 → s.updateExists = false ∧ ∀ o : Output, (s.so o).sid = none) → (w.toNat = 0x30 → s.updateExists = false) →
    ∃ t, exec (.submit f) s = .next t ∧ s.Served t i h f.seq.toNat e FULL 0 [] ∧ s.PathOnly t i h) ∧
  (∀ (f : Frame) (s : State) (i : Fin 64) (h : Session) (e : Nat) (w : W64) (ws : List W64), s.Takes 6 f → s.Passes f i h e →
    f.payload = w :: ws → knownJob w.toNat = true → s.mayRun h w.toNat ((newJob h 0 w.toNat ws).param 1) = false →
    ∃ t, exec (.submit f) s = .next t ∧ s.Served t i h f.seq.toNat e DENIED 0 [] ∧ s.PathOnly t i h) ∧
  (∀ (f : Frame) (s : State) (i : Fin 64) (h : Session) (e : Nat) (w : W64) (ws : List W64) (u : UpdateJob), s.Takes 6 f → s.Passes f i h e →
    f.payload = w :: ws → w.toNat = 0x30 → s.mayRun h 0x30 ((newJob h 0 0x30 ws).param 1) = true →
    s.takesOver (newJob h s.jobs.nextId 0x30 ws) i.1 = some u →
    ∃ t, exec (.submit f) s = .next t ∧ s.Served t i h f.seq.toNat e OK 1 [w64 (t.jobWord u.job)] ∧ s.HostKept t i h ∧
      t = { s with fw := { s.fw with job := some u }, host := t.host, keys := t.keys, cnt := t.cnt, log := t.log,
                   pwr := { s.pwr with idleTb := s.clock.tb } }) ∧
  (∀ (f : Frame) (s : State) (i : Fin 64) (h : Session) (e : Nat) (w : W64) (ws : List W64), s.Takes 6 f → s.Passes f i h e →
    f.payload = w :: ws → w.toNat = 0x30 → s.mayRun h 0x30 ((newJob h 0 0x30 ws).param 1) = true → s.updateExists = true →
    updResume ((newJob h 0 0x30 ws).param 1) = false →
    ∃ t, exec (.submit f) s = .next t ∧ s.Served t i h f.seq.toNat e BUSY 1 [busyWord 0 s.updatePolder] ∧ s.PathOnly t i h) ∧
  (∀ (f : Frame) (s : State) (i : Fin 64) (h : Session) (e : Nat) (j : Slot), s.Takes 7 f → s.Passes f i h e →
    h.commissioning = false → s.ownsJob h.polder j = true → f.addr.toNat = j.1 → ((s.job j).state = .queued ∨ (s.job j).state = .running) →
    ((s.job j).code = 0x30 → s.holds i.1 = true) →
    ∃ t, exec (.feed f) s = .next t ∧ s.HostKept t i h ∧
      t = { s with jobs := t.jobs, host := t.host, keys := t.keys, cnt := t.cnt, log := t.log, pwr := { s.pwr with idleTb := s.clock.tb } } ∧
      (((s.job j).input.length + f.payload.length ≤ 128 ∧ ((s.job j).code = 0x30 → (s.job j).input = [])) →
        s.Served t i h f.seq.toNat e OK f.payload.length [] ∧ t.job j = { s.job j with input := (s.job j).input ++ f.payload } ∧
        (∀ k, k ≠ j → t.job k = s.job k)) ∧
      ((128 < (s.job j).input.length + f.payload.length ∨ ((s.job j).code = 0x30 ∧ (s.job j).input ≠ [])) →
        s.Served t i h f.seq.toNat e FULL 0 [] ∧ t.jobs = s.jobs)) ∧
  (∀ (sid : Sid) (j : Slot) (s : State) (h : Session), s.Granted sid h R.JOB_CTRLn [j.1] 1 →
    ∃ t, exec (.jobCancel sid j) s = .next t ∧ s.HostKept t sid h ∧ (∀ k, k ≠ j → t.job k = s.job k) ∧
      t = { s with jobs := t.jobs, fw := t.fw, host := t.host, keys := t.keys, cnt := t.cnt, log := t.log,
                   pwr := { s.pwr with idleTb := s.clock.tb } } ∧
      ((s.job j).state = .idle → s.Replies t sid h OK 1 [] ∧ t.jobs = s.jobs ∧ t.fw = s.fw) ∧
      ((s.job j).state ≠ .idle → (s.job j).cancellable = true → s.Replies t sid h OK 1 [] ∧
        t.job j = { s.job j with state := .cancelled, cancellable := false, finishTb := s.clock.tb, seen := false, input := [] } ∧
        (∀ u, s.fw.job = some u → u.job = j → t.fw.job = none) ∧ ((∀ u, s.fw.job = some u → u.job ≠ j) → t.fw = s.fw)) ∧
      ((s.job j).state ≠ .idle → (s.job j).cancellable = false → s.Replies t sid h LOCKED 0 [] ∧ t.jobs = s.jobs ∧ t.fw = s.fw)) ∧
  (∀ (sid : Sid) (j : Slot) (s : State) (h : Session), s.Granted sid h R.JOB_CTRLn [j.1] 2 →
    ∃ t, exec (.jobRelease sid j) s = .next t ∧ s.HostKept t sid h ∧ s.Replies t sid h OK 1 [] ∧ (∀ k, k ≠ j → t.job k = s.job k) ∧
      t.job j = (if (s.job j).finished = true then Job.reset else s.job j) ∧
      t = { s with jobs := t.jobs, host := t.host, keys := t.keys, cnt := t.cnt, log := t.log, pwr := { s.pwr with idleTb := s.clock.tb } }) ∧
  (∀ (j : Slot) (s : State), (s.job j).finished = true → (s.job j).finishTb + 600 * tbSecond ≤ s.clock.tb →
    ∃ t, exec (.jobExpire j) s = .next t ∧ t.job j = Job.reset ∧ (∀ k, k ≠ j → t.job k = s.job k) ∧ t = { s with jobs := t.jobs }) ∧
  (∀ (j : Slot) (pol : Nat) (pw : Bytes) (s : State), s.jobTurn j 0x02 = true → (pol = 3 ∨ pol = 5) →
    (pw = [] ∨ (8 ≤ pw.length ∧ pw.length ≤ 32)) →
    ∃ t, exec (.setPassword j pol pw.length pw) s = .next t ∧
      t.passwordOf pol = (if pw = [] then none else some (sha384 (leBytes 8 s.life.serial.toNat ++ pw))) ∧
      (∀ q, q ≠ pol → t.passwordOf q = s.passwordOf q) ∧ (t.job j).state = .done ∧ (t.job j).error = 0 ∧
      (∀ i h, t.anySession i = some h → ¬ (h.polder = pol ∧ h.password = true)) ∧
      (∀ i h, s.anySession i = some h → ¬ (h.polder = pol ∧ h.password = true) → t.anySession i = some h) ∧
      (∀ k, k ≠ j → t.job k = s.job k) ∧ t = { s with host := t.host, jobs := t.jobs, keys := t.keys, fw := t.fw }) ∧
  (∀ (j : Slot) (pol len : Nat) (pw : Bytes) (s : State), s.jobTurn j 0x02 = true →
    ((pol ≠ 3 ∧ pol ≠ 5) ∨ (1 ≤ len ∧ len ≤ 7) ∨ 32 < len ∨ pw.length ≠ len) →
    ∃ t, exec (.setPassword j pol len pw) s = .next t ∧ t = { s with jobs := t.jobs } ∧ (t.job j).state = .failed ∧
      (t.job j).error = BADFRAME ∧ (∀ k, k ≠ j → t.job k = s.job k))

/-- A message that a session of the From polder sends to a sluice with room is stored whole as the newest and answered OK with its words as
COUNT; a full sluice answers FULL, stores nothing and counts it. A session of the To polder that receives takes the oldest message away
and is given its first words, at most as many as it asks for; an empty sluice answers OK with COUNT 0. Any other polder's access is
DENIED and leaves the sluices as they were, and a message or a read of more than 32 words is not accepted. -/
def Obligations.SluicesAreFifos : Prop :=
  (∀ (sid : Sid) (n : Sluiceno) (msg : WordList) (s : State) (h : Session), s.Ready sid h → h.polder = sluiceFrom n.1 →
    h.commissioning = false → s.pwr.recovery = false → msg ≠ [] → msg.length ≤ 32 → s.isDark 1 = false →
    ∃ t, exec (.sluiceSend sid n msg) s = .next t ∧
      t = { s with host := t.host, keys := t.keys, cnt := t.cnt, log := t.log, pwr := { s.pwr with idleTb := s.clock.tb } } ∧
      ((s.host.sluices[n]).msgs.length < 8 → s.Replies t sid h OK msg.length [] ∧ (t.host.sluices[n]).msgs = (s.host.sluices[n]).msgs ++ [msg] ∧
        (t.host.sluices[n]).overflows = (s.host.sluices[n]).overflows) ∧
      (8 ≤ (s.host.sluices[n]).msgs.length → s.Replies t sid h FULL 0 [] ∧ (t.host.sluices[n]).msgs = (s.host.sluices[n]).msgs ∧
        (t.host.sluices[n]).overflows = min 65535 ((s.host.sluices[n]).overflows + 1)) ∧
      (∀ k, k ≠ n → t.host.sluices[k] = s.host.sluices[k])) ∧
  (∀ (sid : Sid) (n : Sluiceno) (msg : WordList) (s : State) (h : Session), s.Ready sid h → msg ≠ [] →
    32 < msg.length ∨ h.polder ≠ sluiceFrom n.1 →
    ∃ t, exec (.sluiceSend sid n msg) s = .next t ∧ t.host.sluices = s.host.sluices ∧
      (msg.length ≤ 32 → s.Replies t sid h DENIED 0 []) ∧ (32 < msg.length → msg.length ≤ 128 → s.Replies t sid h NOADDR 0 [])) ∧
  (∀ (sid : Sid) (n : Sluiceno) (want : Nat) (s : State) (h : Session), s.Ready sid h → h.polder = sluiceTo n.1 →
    h.commissioning = false → 1 ≤ want → want ≤ 32 → s.isDark 1 = false →
    ∃ (t : State) (words : List W64), exec (.sluiceReceive sid n want) s = .next t ∧
      t = { s with host := t.host, keys := t.keys, cnt := t.cnt, log := t.log, pwr := { s.pwr with idleTb := s.clock.tb } } ∧
      words = ((s.host.sluices[n]).msgs.headD []).take want ∧ s.Replies t sid h OK words.length words ∧
      (t.host.sluices[n]).msgs = (s.host.sluices[n]).msgs.drop 1 ∧ (∀ k, k ≠ n → t.host.sluices[k] = s.host.sluices[k])) ∧
  (∀ (sid : Sid) (n : Sluiceno) (want : Nat) (s : State) (h : Session), s.Ready sid h → 1 ≤ want → want ≤ 32 →
    h.polder ≠ sluiceTo n.1 →
    ∃ t, exec (.sluiceReceive sid n want) s = .next t ∧ t.host.sluices = s.host.sluices ∧ s.Replies t sid h DENIED 0 [])

/-! ### The Key Register, attestation and the life cycle (R53 to R82) -/

/-- KEY_DERIVE and KEY_IMPORT, when the parameters are in range, the target may be filled and the key that opens it may be used, fill the
target slot one generation on with the derived or unwrapped key under the polder's grant, with no use counted; every slot that descended
from the target is ORPHAN, and every other slot but the one whose key was used is as it was; the job ends done with the generation and
the count of orphans in its record. KEY_INVALIDATE by the polder that holds the grant empties the slot, which keeps its generation, and
makes every descendant, at any depth, ORPHAN in the same step; the job ends done. KEY_SLOT_EXPIRE turns a VALID slot whose expiry has
come to EXPIRED. -/
def Obligations.KeySlotsFillEmptyAndExpire : Prop :=
  (∀ (j : Slot) (p : DeriveParams) (s : State), s.jobTurn j 0x20 = true → (s.job j).records = [] → deriveOk p = true →
    (s.slot p.parent).state ≠ .empty → (s.slot p.parent).grant = (s.job j).polder →
    s.targetRefusal (s.job j).polder p.child false = none → s.remasking p.child = false →
    (s.slot p.parent).refusal engKDF s.clock.tb = none →
    ∃ t, exec (.keyDerive j p) s = .next t ∧ (t.slot p.child).state = .valid ∧ (t.slot p.child).gen = (s.slot p.child).gen + 1 ∧
      (t.slot p.child).grant = (s.job j).polder ∧ (t.slot p.child).count = 0 ∧ (t.slot p.child).parent = p.parent.1 ∧
      (t.slot p.child).key =
        childKey (s.slot p.parent).key p.label (deriveContext p.child (s.slot p.parent).gen p.context) p.kind ∧
      (t.slot p.child).expiry = clampExpiry (s.slot p.parent).expiry p.expiry.toNat ∧
      (t.slot p.child).engines = p.engines.toNat ∧ (t.slot p.child).limit = p.limit.toNat ∧
      (∀ c, c ∈ descendants s.keys.slots p.child → (t.slot c).state = .orphan) ∧
      (∀ c, c ≠ p.child → c ≠ p.parent → c ∉ descendants s.keys.slots p.child → t.slot c = s.slot c) ∧
      (t.job j).state = .done ∧ (t.job j).error = 0 ∧ (t.job j).records =
        [⟨0x20, [w64 (((s.slot p.child).gen + 1) % 2 ^ 32 + (descendants s.keys.slots p.child).length * 2 ^ 32)]⟩] ∧
      (∀ k, k ≠ j → t.job k = s.job k)) ∧
  (∀ (j : Slot) (p : ImportParams) (s : State) (key : Bytes), s.jobTurn j 0x21 = true → (s.job j).records = [] → importOk p = true →
    ((s.job j).commissioning = true → p.target.1 = 7 + (s.job j).polder) →
    s.targetRefusal (s.job j).polder p.target true = none → s.remasking p.target = false → (s.slot 1).refusal engECDH s.clock.tb = none →
    Config.unwrapBlob (s.slot 1).key p.blob = some key → key.length = importBytes p.kind →
    ∃ t, exec (.keyImport j p) s = .next t ∧ (t.slot p.target).state = .valid ∧ (t.slot p.target).gen = (s.slot p.target).gen + 1 ∧
      (t.slot p.target).key = key ∧ (t.slot p.target).grant = (s.job j).polder ∧ (t.slot p.target).kept = .record ∧
      (t.slot p.target).engines = importEngines p ∧ (t.slot p.target).count = 0 ∧
      (∀ c, c ∈ descendants s.keys.slots p.target → (t.slot c).state = .orphan) ∧
      (∀ c, c ≠ p.target → c ≠ 1 → c ∉ descendants s.keys.slots p.target → t.slot c = s.slot c) ∧
      (p.target.1 = 5 → t.tag.key = some key) ∧ (p.target.1 ≠ 5 → t.tag = s.tag) ∧
      (t.job j).state = .done ∧ (t.job j).error = 0 ∧ (t.job j).records =
        [⟨0x21, [w64 (((s.slot p.target).gen + 1) % 2 ^ 32 + (descendants s.keys.slots p.target).length * 2 ^ 32)]⟩] ∧
      (∀ k, k ≠ j → t.job k = s.job k)) ∧
  (∀ (j : Slot) (n : KeySlotNo) (s : State), s.jobTurn j 0x22 = true → (s.job j).records = [] → (s.slot n).state ≠ .empty →
    (s.slot n).grant = (s.job j).polder → (s.job j).polder ≠ 0 → n.1 ≠ 3 →
    ∃ t, exec (.keyInvalidate j n) s = .next t ∧ (t.slot n).state = .empty ∧ (t.slot n).gen = (s.slot n).gen ∧ (t.slot n).key = [] ∧
      (∀ c, c ∈ descendants s.keys.slots n → (t.slot c).state = .orphan) ∧
      (∀ c, c ≠ n → c ∉ descendants s.keys.slots n → t.slot c = s.slot c) ∧ (t.job j).state = .done ∧ (t.job j).error = 0) ∧
  (∀ (n : KeySlotNo) (s : State), (s.slot n).state = .valid → (s.slot n).expiry ≠ 0 → (s.slot n).expiry ≤ s.clock.tb →
    ∃ t, exec (.keySlotExpire n) s = .next t ∧ t.slot n = { s.slot n with state := .expired } ∧ (∀ c, c ≠ n → t.slot c = s.slot c) ∧
      t = { s with keys := t.keys, tag := t.tag } ∧ t.tag.mem = s.tag.mem)

/-- R72: a pass of re-masking changes no attribute, generation, use count or expiry of any slot, nor its key: a slot gets a share of the
same length and is otherwise as it was. -/
def Obligations.RemaskingIsNoUse : Prop :=
  ∀ s : State, ∃ t, exec .keyRemask s = .next t ∧
    (∀ n, t.slot n = { s.slot n with share := (t.slot n).share } ∧ (t.slot n).share.length = (s.slot n).share.length) ∧
    (s.clock.run = true → (∀ x, s.keys.remaskTb = some x → x + 131072 ≤ s.clock.tb) → t.keys.remaskTb = some s.clock.tb) ∧
    t = { s with keys := { s.keys with slots := t.keys.slots, remaskTb := t.keys.remaskTb }, draws := t.draws }

/-- R73: when a slot is invalidated or derived or imported anew, every slot in use whose chain of parents reaches it is ORPHAN in the same
step; an invalidation leaves every other slot as it was. -/
def Obligations.DescendantsBecomeOrphan : Prop :=
  (∀ (j : Slot) (n : KeySlotNo) (s : State), s.jobTurn j 0x22 = true → (s.slot n).state ≠ .empty →
    (s.slot n).grant = (s.job j).polder → (s.job j).polder ≠ 0 → n.1 ≠ 3 →
    ∃ t, exec (.keyInvalidate j n) s = .next t ∧ ∀ c, c ≠ n → (s.slot c).state ≠ .empty →
      (Descends s.keys.slots n c → t.slot c = { s.slot c with state := .orphan }) ∧ (¬ Descends s.keys.slots n c → t.slot c = s.slot c)) ∧
  (∀ (j : Slot) (p : DeriveParams) (s : State), s.jobTurn j 0x20 = true → deriveOk p = true →
    (s.slot p.parent).state ≠ .empty → (s.slot p.parent).grant = (s.job j).polder →
    s.targetRefusal (s.job j).polder p.child false = none → s.remasking p.child = false →
    (s.slot p.parent).refusal engKDF s.clock.tb = none →
    ∃ t, exec (.keyDerive j p) s = .next t ∧ (t.slot p.child).state = .valid ∧ ∀ c, c ≠ p.child → (s.slot c).state ≠ .empty →
      (Descends s.keys.slots p.child c → (t.slot c).state = .orphan) ∧
      (¬ Descends s.keys.slots p.child c → c ≠ p.parent → t.slot c = s.slot c)) ∧
  (∀ (j : Slot) (p : ImportParams) (s : State) (key : Bytes), s.jobTurn j 0x21 = true → importOk p = true →
    ((s.job j).commissioning = true → p.target.1 = 7 + (s.job j).polder) →
    s.targetRefusal (s.job j).polder p.target true = none → s.remasking p.target = false → (s.slot 1).refusal engECDH s.clock.tb = none →
    Config.unwrapBlob (s.slot 1).key p.blob = some key → key.length = importBytes p.kind →
    ∃ t, exec (.keyImport j p) s = .next t ∧ ∀ c, c ≠ p.target → (s.slot c).state ≠ .empty → Descends s.keys.slots p.target c →
      (t.slot c).state = .orphan)

/-- ATTEST with a 64-byte nonce, the flash die there, an index left in a tree that is ready, and slots 1 and 2 usable, takes one one-time
index and ends done with four partial records: the certificate, the report and its two signatures. Where the lower tree is used up and
the next one is not ready it runs on until HSS_TREE_READY, and the tree is computed. HSS_TREE_READY marks the computed tree as ready
where no ATTEST waits for it, and where one waits it runs no longer. LIFECYCLE_NONCE by P2, or by P4 with the door open, replaces the
nonce and returns serial and nonce. The nonce lapses after 600 s. LIFECYCLE by a polder that may, with no session and no update, makes
the transition the table allows, to RETURNED only with an authorisation that verifies: the state fuses hold the target, one transition
more is counted, the nonce is consumed, and the device is in reset. A RETURNED job whose authorisation does not verify fails with
AUTHFAIL, consumes the nonce, and leaves the state. -/
def Obligations.AttestationAndLifeCycle : Prop :=
  (∀ (j : Slot) (nonce : Bytes) (s : State), s.jobTurn j 0x23 = true → (s.job j).records = [] → nonce.length = 64 → s.log.flashOk = true →
    s.keys.hss.left = true → (s.keys.hss.newTree = true → s.keys.hss.nextReady = true) →
    (s.slot 1).refusal engECDSA s.clock.tb = none → (s.slot 2).refusal engLMS s.clock.tb = none →
    Config.identityCert.length + (s.report nonce).length + (ecdsaSign (s.slot 1).key (sha384 (s.report nonce))).length +
      (Config.hssSign (s.slot 2).key s.keys.hss.next (sha384 (s.report nonce))).length ≤ 1000000 →
    ∃ t, exec (.attest j nonce) s = .next t ∧ t.keys.hss.next = s.keys.hss.next + 1 ∧ (t.job j).state = .done ∧ (t.job j).error = 0 ∧
      (t.job j).records.map (·.words) =
        [bytesWords Config.identityCert, bytesWords (s.report nonce), bytesWords (ecdsaSign (s.slot 1).key (sha384 (s.report nonce))),
         bytesWords (Config.hssSign (s.slot 2).key s.keys.hss.next (sha384 (s.report nonce)))] ∧ (∀ k, k ≠ j → t.job k = s.job k)) ∧
  (∀ (j : Slot) (nonce : Bytes) (s : State), s.jobTurn j 0x23 = true → nonce.length = 64 → s.log.flashOk = true → s.keys.hss.left = true →
    s.keys.hss.newTree = true → s.keys.hss.nextReady = false →
    ∃ t, exec (.attest j nonce) s = .next t ∧ (t.job j).state = .running ∧ (t.job j).nonce = nonce ∧
      t.keys = { s.keys with hss := { s.keys.hss with computing := true } } ∧ (∀ k, k ≠ j → t.job k = s.job k) ∧
      t = { s with keys := t.keys, jobs := t.jobs }) ∧
  (∀ s : State, s.keys.hss.computing = true →
    ∃ t, exec .hssTreeReady s = .next t ∧ (∀ j, (t.job j).code = 0x23 → (t.job j).state ≠ .running) ∧
      ((∀ j, (s.job j).code = 0x23 → (s.job j).state ≠ .running) →
        t = { s with keys := t.keys } ∧ t.keys = { s.keys with hss := { s.keys.hss with nextReady := true, computing := false } })) ∧
  (∀ (j : Slot) (s : State), s.jobTurn j 0x25 = true → (s.job j).records = [] →
    ((s.job j).polder = 2 ∨ ((s.job j).polder = 4 ∧ s.doorOpen = true)) →
    ∃ t n, exec (.lifecycleNonce j) s = .next t ∧ t.life = { s.life with nonce := some (n, s.clock.tb) } ∧
      (t.job j).records = [⟨0x25, [s.life.serial, n]⟩] ∧ (t.job j).state = .done ∧ (t.job j).error = 0 ∧
      t = { s with life := t.life, jobs := t.jobs, draws := s.draws + 1 }) ∧
  (∀ (s : State) (n : W64) (b : Nat), s.life.nonce = some (n, b) → b + 600 * tbSecond ≤ s.clock.tb →
    exec .lifecycleNonceLapse s = .next { s with life := { s.life with nonce := none } }) ∧
  (∀ (j : Slot) (target : Nat) (auth : ReturnAuth) (s : State) (x : LifeState), s.jobTurn j 0x24 = true →
    s.lifeGrant (s.job j).polder false = true → lifeTarget s.life.state target = some x →
    (∀ o : Output, (s.seqr.outs[o]).sid = none) → s.updateExists = false → (x = .returned → s.returnOk auth = true) →
    ∃ t, exec (.lifecycle j target auth) s = .next t ∧ t.life.state = x ∧ t.life.transitions = s.life.transitions + 1 ∧
      t.life.nonce = none ∧ t.life.inTransit = none ∧ t.pwr.inReset = true ∧ t.pwr.last = 6) ∧
  (∀ (j : Slot) (auth : ReturnAuth) (s : State), s.jobTurn j 0x24 = true →
    s.lifeGrant (s.job j).polder false = true → s.life.state = .field →
    (∀ o : Output, (s.seqr.outs[o]).sid = none) → s.updateExists = false → s.returnOk auth = false →
    ∃ t, exec (.lifecycle j 3 auth) s = .next t ∧ t.life = { s.life with nonce := none } ∧ (t.job j).state = .failed ∧
      (t.job j).error = AUTHFAIL ∧ t = { s with life := t.life, jobs := t.jobs })

/-- R82: with no HSS index left, ATTEST fails with FULL and makes no report; every key slot stays as it was. -/
def Obligations.NoAttestationWithoutAnIndex : Prop :=
  ∀ (j : Slot) (nonce : Bytes) (s : State), s.jobTurn j 0x23 = true → nonce.length = 64 → s.log.flashOk = true → s.keys.hss.left = false →
    ∃ t, exec (.attest j nonce) s = .next t ∧ (t.job j).state = .failed ∧ (t.job j).error = 8 ∧ (t.job j).records = (s.job j).records ∧
      t = { s with jobs := t.jobs }

/-- R54: from FIELD, only a LIFECYCLE job with an authorisation leads to RETURNED: it names the nonce issued within the last 600 s, and both
of Joditu's signatures over the serial, the code 3 and that nonce verify (the bytes that are signed are the model's choice, log entry
106). A transition to SCRAPPED asks for none. -/
def Obligations.ReturnNeedsAuthorisation : Prop :=
  (∀ (c : Instr) (s t : State), exec c s = .next t → s.life.state = .field → s.life.inTransit = none → t.life.state = .returned →
    ∃ j auth n b, c = .lifecycle j 3 auth ∧ s.life.nonce = some (n, b) ∧ auth.nonce = n ∧ s.clock.tb < b + 600 * tbSecond ∧
      ecdsaVerify (Config.jodituKey 0) (sha384 (leBytes 8 s.life.serial.toNat ++ [3#8] ++ leBytes 8 n.toNat)) auth.ecdsa = true ∧
      hssVerify (Config.jodituLms 0) (sha384 (leBytes 8 s.life.serial.toNat ++ [3#8] ++ leBytes 8 n.toNat)) auth.lms = true) ∧
  (∀ (j : Slot) (auth : ReturnAuth) (s : State), s.jobTurn j 0x24 = true → s.lifeGrant (s.job j).polder false = true →
    s.life.state = .field ∨ s.life.state = .returned → (∀ o : Output, (s.seqr.outs[o]).sid = none) → s.updateExists = false →
    ∃ t, exec (.lifecycle j 4 auth) s = .next t ∧ t.life.state = .scrapped)

/-! ### The Grate, TRIP lines, the plan and sensing (R129 to R186) -/

/-- A frame of a running plan counts one frame, in the plan and in the tick, and one in the counter of frames, and raises no HV_EN; the lane
carries it to the Fireguard; sessions, keys, billing, the sequencer and the registers as written stay, and jobs too while no CAL_MEASURE
runs. With no plan, a frame takes up F-class values alone, and ends a CAL_MEASURE. Frame 480 of a tick waits for the hand-off. A line
that the plan's trip cells drive and that a line record binds lowers HV_EN of every output the record names as it asserts, and is shown
as asserted; an unbound one changes nothing but what `GRT_TRIP` shows. A line that is driven no longer is deasserted, with the time from
which its 10 ms run. -/
def Obligations.FramesAndTripLines : Prop :=
  (∀ (x : FrameIn) (s : State) (p : Plan), s.grate.plan = some p → s.grate.tickFrame < 480 →
    ∃ t, exec (.grateFrame x) s = .next t ∧ t.grate.frames = s.grate.frames + 1 ∧ t.grate.tickFrame = s.grate.tickFrame + 1 ∧
      t.grate.plan = some p ∧ t.cnt.count[(4 : Fin 24)] = (s.cnt.count[(4 : Fin 24)] + 1) % 2 ^ 48 ∧ (∀ o, t.raised o = s.raised o) ∧
      t.guard.laneTb = s.clock.tb ∧ t.guard.laneRun = min 48000 (s.guard.laneRun + 1) ∧ (s.sens.measure = none → t.jobs = s.jobs) ∧
      t = { s with use := t.use, sticky := t.sticky, jobs := t.jobs, cnt := t.cnt, log := t.log, grate := t.grate, sens := t.sens, nrg := t.nrg,
                   mseal := t.mseal, guard := t.guard }) ∧
  (∀ (x : FrameIn) (s : State), s.grate.plan = none →
    ∃ t, exec (.grateFrame x) s = .next t ∧ t = { s with use := t.use, jobs := t.jobs, sens := t.sens } ∧ t.sens.measure = none ∧
      (s.sens.measure = none → t = { s with use := t.use })) ∧
  (∀ (x : FrameIn) (s : State) (p : Plan), s.grate.plan = some p → 480 ≤ s.grate.tickFrame → exec (.grateFrame x) s = .next s) ∧
  (∀ (n : LineNo) (s : State) (outs a : Nat), s.lineDriven n = true → s.grate.lines[n] = false → s.lineRec n = some (outs, a) →
    ∃ t, exec (.tripLineAssert n) s = .next t ∧ t.grate.lines[n] = true ∧ (∀ k : LineNo, k ≠ n → t.grate.lines[k] = s.grate.lines[k]) ∧
      (∀ o : Output, bitOf outs o.1 = true → t.raised o = false) ∧ (∀ o : Output, t.raised o = true → s.raised o = true)) ∧
  (∀ (n : LineNo) (s : State), s.lineDriven n = true → s.grate.lines[n] = false → s.lineRec n = none →
    ∃ t, exec (.tripLineAssert n) s = .next t ∧ t.grate.lines[n] = true ∧ t = { s with grate := t.grate, sticky := t.sticky }) ∧
  (∀ (n : LineNo) (s : State), s.lineDriven n = false → s.grate.lines[n] = true →
    ∃ t, exec (.tripLineClear n) s = .next t ∧ t.grate.lines[n] = false ∧ t.grate.lineOffTb[n] = s.clock.tb ∧
      (∀ k : LineNo, k ≠ n → t.grate.lines[k] = s.grate.lines[k]) ∧ t = { s with grate := t.grate })

/-- A conditioner in use loses VALID after 64 bit periods without a transition, which sets NOTRANS and shows the side, or when its MCLK has
stopped; it regains it after 250 with transitions; no other does. A pad fault on a running clock takes VALID from every conditioner on
that clock. A group of two that disagrees for 480 frames is marked, and unmarked after 480 frames without. A metrological channel that
has been lost for 48,000 frames counts one T_SENSOR, once for each loss; a fluxgate port that faults loses VALID, and an OPEN or SHORT
one is off for 100 ms and then tries again; four valid periods make its stream VALID again. A magnetic condition that stands triggers:
an episode runs, and T_MAG counts one if none ran before; the episode ends when no condition has been true for 10.0 s. Offset tracking:
a window opens where tracking runs and the gate has been open for 2 s; a full window of 48,000 frames leaves the mean, less OFF and
within ±LIMIT, waiting for the next tick. A CAL cell without a VALID temperature for 480,000 frames is stale. -/
def Obligations.ConditionersSensorsAndTracking : Prop :=
  (∀ (n : IcNo) (b : Bool) (s : State) (p : Plan) (r : IcRec), s.grate.plan = some p → p.ics.find? (fun x => x.index == n.1) = some r →
    (b = true → (s.grate.ic[n]).steady = 64) → (b = false → (s.sens.mclkOn[r.mclk]?).getD false = false) →
    ∃ t, exec (.icValidLost n b) s = .next t ∧ (t.grate.ic[n]).valid = false ∧
      (b = true → (t.grate.ic[n]).noTrans = true ∧ (t.grate.ic[n]).highSide = lossLevel r.format (s.grate.ic[n]).level) ∧
      (∀ k : IcNo, k ≠ n → t.grate.ic[k] = s.grate.ic[k]) ∧
      t = { s with grate := t.grate, sticky := t.sticky, log := t.log, cnt := t.cnt }) ∧
  (∀ (n : IcNo) (s : State) (p : Plan), s.grate.plan = some p → p.ics.any (fun x => x.index == n.1) = true → (s.grate.ic[n]).valid = false →
    (s.grate.ic[n]).good = 250 →
    ∃ t, exec (.icValidRestored n) s = .next t ∧ (t.grate.ic[n]).valid = true ∧ (∀ k : IcNo, k ≠ n → t.grate.ic[k] = s.grate.ic[k]) ∧
      t = { s with grate := t.grate }) ∧
  (∀ (m : MclkNo) (s : State), (s.sens.mclkOn)[m] = true →
    ∃ t, exec (.mclkPadFault m) s = .next t ∧ (t.sens.padFault)[m] = true ∧
      (∀ (p : Plan) (r : IcRec) (h : r.index < 48), s.grate.plan = some p → r ∈ p.ics → r.mclk = m.1 →
        (t.grate.ic[r.index]).valid = false) ∧
      t = { s with grate := t.grate, sens := t.sens, sticky := t.sticky, log := t.log, cnt := t.cnt }) ∧
  (∀ (g : GroupNo) (s : State) (p : Plan), s.grate.plan = some p →
    p.votes.any (fun r => r.group == g.1 && r.members.length == 2) = true → 480 ≤ (s.grate.vote[g]).runBad → (s.grate.vote[g]).persistent = false →
    ∃ t, exec (.votePersistentDisagree g) s = .next t ∧ (t.grate.vote[g]).persistent = true ∧
      (∀ k : GroupNo, k ≠ g → t.grate.vote[k] = s.grate.vote[k]) ∧
      t = { s with grate := t.grate, log := t.log, cnt := t.cnt }) ∧
  (∀ (g : GroupNo) (s : State), (s.grate.vote[g]).persistent = true → 480 ≤ (s.grate.vote[g]).runGood →
    ∃ t, exec (.voteDisagreeClear g) s = .next t ∧ (t.grate.vote[g]).persistent = false ∧
      (∀ k : GroupNo, k ≠ g → t.grate.vote[k] = s.grate.vote[k]) ∧ t = { s with grate := t.grate }) ∧
  (∀ (ch : ChannelNo) (s : State) (p : Plan), s.grate.plan = some p → p.metroChannel ch.1 = true → 48000 ≤ (lossOf s ch).1 →
    (lossOf s ch).2 = false → 96000 < s.grate.frames - ((lossOf s ch).1 - 48000) - s.grate.restart[ch] →
    ∃ t, exec (.sensorLongLoss ch) s = .next t ∧ (lossOf t ch).2 = true ∧
      (t.mseal.ledger[T_SENSOR]).dCount = min (2 ^ 32 - 1) ((s.mseal.ledger[T_SENSOR]).dCount + 1) ∧
      (t.mseal.ledger[T_SENSOR]).dLastArg = ch.1 ∧
      t = { s with grate := t.grate, sens := t.sens, mseal := t.mseal, log := t.log, cnt := t.cnt, draws := t.draws }) ∧
  (∀ (n : FgNo) (k : FgFault) (s : State), (s.sens.fg[n]).on = true →
    ∃ t, exec (.fgPortFault n k) s = .next t ∧ (t.sens.fg[n]).valid = false ∧
      (k ≠ .sat → (t.sens.fg[n]).on = false ∧ (t.sens.fg[n]).offUntil = some (s.clock.tb + 2500000)) ∧
      (k = .sat → (t.sens.fg[n]).on = true ∧ (t.sens.fg[n]).sat = true) ∧
      (∀ m : FgNo, m ≠ n → t.sens.fg[m] = s.sens.fg[m]) ∧ t = { s with sens := t.sens, sticky := t.sticky, log := t.log, cnt := t.cnt }) ∧
  (∀ (n : FgNo) (s : State) (b : Nat), (s.sens.fg[n]).offUntil = some b → b ≤ s.clock.tb →
    ∃ t, exec (.fgPortRetry n) s = .next t ∧ (t.sens.fg[n]).on = true ∧ (t.sens.fg[n]).offUntil = none ∧ (t.sens.fg[n]).open_ = false ∧
      (∀ m : FgNo, m ≠ n → t.sens.fg[m] = s.sens.fg[m]) ∧ t = { s with sens := t.sens }) ∧
  (∀ (n : FgNo) (s : State), (s.sens.fg[n]).on = true → (s.sens.fg[n]).valid = false → (s.sens.fg[n]).goodPeriods = 4 →
    ∃ t, exec (.fgStreamValidRestored n) s = .next t ∧ (t.sens.fg[n]).valid = true ∧ (t.sens.fg[n]).sat = false ∧
      t = { s with sens := t.sens }) ∧
  (∀ (n : FgNo) (s : State) (c : Instr),
    (c = .magFieldDetect n ∧ s.useFld R.MET_FG_CFGn F.MET_FG_CFGn_MODE [n.1] = 2) ∨
      (c = .magSatDetect n ∧ s.useFld R.MET_FG_CFGn F.MET_FG_CFGn_MODE [n.1] = 1) → s.magNow n = true →
    ∃ t, exec c s = .next t ∧ t.sens.magEpisode = true ∧ t.sens.magLastTb = s.clock.tb ∧
      (s.sens.magEpisode = false →
        (t.mseal.ledger[T_MAG]).dCount = min (2 ^ 32 - 1) ((s.mseal.ledger[T_MAG]).dCount + 1) ∧ (t.mseal.ledger[T_MAG]).dLastArg = n.1) ∧
      (s.sens.magEpisode = true → t.mseal = s.mseal) ∧
      t = { s with sens := t.sens, mseal := t.mseal, log := t.log, cnt := t.cnt, draws := t.draws }) ∧
  (∀ s : State, s.sens.magEpisode = true → (∀ n : FgNo, s.magNow n = false) → s.sens.magLastTb + 10 * tbSecond ≤ s.clock.tb →
    exec .magEpisodeEnd s = .next { s with sens := { s.sens with magEpisode := false } }) ∧
  (∀ (c : CalNo) (s : State) (p : Plan), s.grate.plan = some p → trackReady p c s = true → (s.sens.track[c]).window = none →
    ∃ t, exec (.trackWindowOpen c) s = .next t ∧ (t.sens.track[c]).window = some (0, 0) ∧
      (∀ k : CalNo, k ≠ c → t.sens.track[k] = s.sens.track[k]) ∧ t = { s with sens := t.sens }) ∧
  (∀ (c : CalNo) (s : State) (p : Plan) (n : Nat) (sum : Int), s.grate.plan = some p → (s.sens.track[c]).window = some (n, sum) → 48000 ≤ n →
    ∃ t, exec (.trackWindowEnd c) s = .next t ∧ (t.sens.track[c]).next =
        some (max (-((s.sens.calInUse[c]).limit : Int)) (min (s.sens.calInUse[c]).limit (rdiv sum n - (s.sens.calInUse[c]).off))) ∧
      ((t.sens.track[c]).limitHit = true ↔
        (s.sens.track[c]).limitHit = true ∨ (s.sens.calInUse[c]).limit < (rdiv sum n - (s.sens.calInUse[c]).off).natAbs) ∧
      (∀ k : CalNo, k ≠ c → t.sens.track[k] = s.sens.track[k]) ∧
      t = { s with sens := t.sens, mseal := t.mseal, log := t.log, cnt := t.cnt, draws := t.draws }) ∧
  (∀ (m : MaNo) (s : State) (p : Plan), s.grate.plan = some p → p.mas.any (fun r => r.index == m.1 && r.op == 5) = true →
    480000 ≤ (s.grate.ma[m]).tempAge →
    ∃ t, exec (.tempStale m) s = .next t ∧ t.grate.ma[m] = { s.grate.ma[m] with stale := true } ∧
      (∀ k : MaNo, k ≠ m → t.grate.ma[k] = s.grate.ma[k]) ∧ t = { s with grate := t.grate })

/-- An arming write by a polder that may arms a verified shadow plan and sets its wait, 60 s where it names none and 3,600 s at most; a
second one changes nothing. An abandoning write takes an armed swap back. The armed plan replaces the running one at a boundary that
qualifies; one whose sealed part differs is recorded as the selected plan first, and is refused with code 12 where the seal is closed
then. The wait that runs out abandons the swap with code 11. -/
def Obligations.SwapArmsAndReplaces : Prop :=
  (∀ (sid : Sid) (v : W64) (s : State) (h : Session), s.Granted sid h R.GRT_SWAP [] (F.GRT_SWAP_ARM.put v 1) →
    F.GRT_SWAP_ABANDON.get (F.GRT_SWAP_ARM.put v 1).toNat = 0 →
    s.grate.shadowState = 1 → (s.grate.sealedDiff = true → h.polder = 1 ∧ s.mseal.record.open_ = true) →
    ∃ t, exec (.swapArm sid v) s = .next t ∧ s.Replies t sid h OK 1 [] ∧ s.HostKept t sid h ∧
      t.grate = { s.grate with shadowState := 2, waitUntil := s.clock.tb +
        (if F.GRT_SWAP_WAIT.get (F.GRT_SWAP_ARM.put v 1).toNat = 0 then 60 else min 3600 (F.GRT_SWAP_WAIT.get (F.GRT_SWAP_ARM.put v 1).toNat))
          * tbSecond } ∧
      t = { s with grate := t.grate, host := t.host, keys := t.keys, cnt := t.cnt, log := t.log, pwr := { s.pwr with idleTb := s.clock.tb } }) ∧
  (∀ (sid : Sid) (v : W64) (s : State) (h : Session), s.Granted sid h R.GRT_SWAP [] (F.GRT_SWAP_ARM.put v 1) →
    F.GRT_SWAP_ABANDON.get (F.GRT_SWAP_ARM.put v 1).toNat = 0 → s.grate.shadowState ≠ 1 →
    ∃ t, exec (.swapArm sid v) s = .next t ∧ s.Replies t sid h OK 1 [] ∧ s.PathOnly t sid h) ∧
  (∀ (sid : Sid) (v : W64) (s : State) (h : Session), s.Granted sid h R.GRT_SWAP [] (F.GRT_SWAP_ABANDON.put v 1) →
    ∃ t, exec (.swapAbandon sid v) s = .next t ∧ s.Replies t sid h OK 1 [] ∧ s.HostKept t sid h ∧
      t.grate = (if s.armed = true then { s.grate with shadowState := 1 } else s.grate) ∧
      t = { s with grate := t.grate, host := t.host, keys := t.keys, cnt := t.cnt, log := t.log, pwr := { s.pwr with idleTb := s.clock.tb } }) ∧
  (∀ (s : State) (b : Plan), s.grate.shadow = some b → s.armed = true → (s.grate.sealedDiff = true → s.mseal.record.open_ = true) →
    s.swapBoundary = true →
    ∃ t, exec .planSwap s = .next t ∧ t.grate.plan = some b ∧ t.grate.shadow = none ∧ t.grate.shadowState = 0 ∧
      t.grate.stored = s.grate.shadowFile ∧
      (s.grate.sealedDiff = true → t.mseal.record.selector = b.planId ∧ t.mseal.record.mdigest = some b.mdigest ∧
        (t.mseal.ledger[T_CONFIG]).dCount = min (2 ^ 32 - 1) ((s.mseal.ledger[T_CONFIG]).dCount + 1) ∧
        (t.mseal.ledger[T_CONFIG]).dLastArg = 1)) ∧
  (∀ (s : State) (b : Plan), s.grate.shadow = some b → s.armed = true → s.grate.sealedDiff = true → s.mseal.record.open_ = false →
    s.swapBoundary = true → exec .planSwap s = .next { s with grate := { s.grate with shadowState := 4, refuse := 12 } }) ∧
  (∀ s : State, s.armed = true → s.grate.liveOk = false → s.grate.waitUntil ≤ s.clock.tb →
    exec .planSwapWaitExpire s = .next { s with grate := { s.grate with shadowState := 4, refuse := 11 } })

/-! ### Energy and billing (R187 to R255) -/

/-- At the hand-off a tick is counted, an entry for billing with its TBs and the active increments of every output joins the queue, no
energy register falls, and the register of a binding of its own rises by exactly the whole µWh of its integrator, SITE's by those of all
bindings. A queued pulse becomes active when its gap has passed, is counted as emitted, and ends after WIDTH frames. Other outputs'
pulses stay. At every 100th tick of a running plan the metrology state goes to the older copy with reason 0 and the next sequence
number, the other copy stays, and the highest powers restart. A reversed sequence that has held for 1.0 s, and a missing neutral that
has, count one occurrence and open an episode, once; the missing neutral also stops a session with cause 13. The episodes end after 10.0
s. -/
def Obligations.EnergyTicksPulsesAndEpisodes : Prop :=
  (∀ (s : State) (p : Plan), s.grate.plan = some p → 480 ≤ s.grate.tickFrame →
    ∃ t d, exec .tickHandoff s = .next t ∧ t.nrg.tick = s.nrg.tick + 1 ∧ t.nrg.tickTb = s.clock.tb ∧ t.grate.tickFrame = 0 ∧
      t.nrg.waiting = s.nrg.waiting ++ [{ startTb := s.nrg.tickTb, endTb := s.clock.tb, inc := d, short := false }] ∧
      (∀ (o : Fin 7) (k : Fin 4), (s.nrg.e[o])[k] ≤ (t.nrg.e[o])[k]) ∧
      (∀ (o : Output), d[o] = #v[(t.nrg.e[(⟨o.1, by omega⟩ : Fin 7)])[(0 : Fin 4)] - (s.nrg.e[(⟨o.1, by omega⟩ : Fin 7)])[(0 : Fin 4)],
        (t.nrg.e[(⟨o.1, by omega⟩ : Fin 7)])[(1 : Fin 4)] - (s.nrg.e[(⟨o.1, by omega⟩ : Fin 7)])[(1 : Fin 4)]]) ∧
      (∀ (e : EnRec) (h : e.integ < 32 ∧ e.output < 6 ∧ e.reg < 4),
        p.energies.filter (fun x => x.integ == e.integ || (x.output == e.output && x.reg == e.reg)) = [e] →
        (t.nrg.e[(⟨e.output, by omega⟩ : Fin 7)])[(⟨e.reg, h.2.2⟩ : Fin 4)] =
          (s.nrg.e[(⟨e.output, by omega⟩ : Fin 7)])[(⟨e.reg, h.2.2⟩ : Fin 4)] + wholeUWh (s.grate.integ[e.integ]'h.1).acc) ∧
      (p.energies.Pairwise (fun x y => x.integ ≠ y.integ) → (∀ x, x ∈ p.energies → x.integ < 32 ∧ x.output < 6 ∧ x.reg < 4) →
        ∀ k : Fin 4, (t.nrg.e[(6 : Fin 7)])[k] = (s.nrg.e[(6 : Fin 7)])[k] +
          ((p.energies.filter (fun x => x.reg == k.1)).map (fun x => (s.grate.integ[x.integ]?.map (fun i => wholeUWh i.acc)).getD 0)).sum) ∧
      t = { s with cnt := t.cnt, grate := t.grate, sens := t.sens, nrg := t.nrg, mseal := t.mseal }) ∧
  (∀ (o : Output) (s : State), 0 < (s.nrg.pulses[o]).queued → (s.nrg.pulses[o]).active = false →
    s.useFld R.NRG_PULSE_CFGn F.NRG_PULSE_CFGn_WIDTH [o.1] ≤ (s.nrg.pulses[o]).gap →
    ∃ t, exec (.pulseStart o) s = .next t ∧ (t.nrg.pulses[o]).active = true ∧ (t.nrg.pulses[o]).queued + 1 = (s.nrg.pulses[o]).queued ∧
      (t.nrg.pulses[o]).emitted = ((s.nrg.pulses[o]).emitted + 1) % 2 ^ 32 ∧
      (t.nrg.pulses[o]).left = s.useFld R.NRG_PULSE_CFGn F.NRG_PULSE_CFGn_WIDTH [o.1] ∧
      t = { s with nrg := { s.nrg with pulses := t.nrg.pulses } } ∧ (∀ k : Output, k ≠ o → t.nrg.pulses[k] = s.nrg.pulses[k])) ∧
  (∀ (o : Output) (s : State), (s.nrg.pulses[o]).active = true → (s.nrg.pulses[o]).left = 0 →
    ∃ t, exec (.pulseEnd o) s = .next t ∧ t.nrg.pulses[o] = { s.nrg.pulses[o] with active := false, gap := 0 } ∧
      t = { s with nrg := { s.nrg with pulses := t.nrg.pulses } } ∧ (∀ k : Output, k ≠ o → t.nrg.pulses[k] = s.nrg.pulses[k])) ∧
  (∀ s : State, 0 < s.nrg.tick → s.nrg.tick % 100 = 0 → s.grate.plan.isSome = true →
    ∃ t r, exec .periodicSave s = .next t ∧ r = s.saveRecord 0 s.nrg.tickTb ∧ r.reason = 0 ∧ r.energy = Vector.ofFn (fun o => s.nrg.e[o.1]) ∧ r.seq = s.nrg.saveSeq + 1 ∧ t.nrg.saveSeq = s.nrg.saveSeq + 1 ∧
      ((t.nrg.copyA = some r ∧ t.nrg.copyB = s.nrg.copyB) ∨ (t.nrg.copyB = some r ∧ t.nrg.copyA = s.nrg.copyA)) ∧
      t.nrg.e = s.nrg.e ∧ (∀ o : Output, (t.nrg.live[o]).peakMw = 0) ∧
      t = { s with nrg := t.nrg, keys := t.keys, cnt := t.cnt, log := t.log }) ∧
  (∀ (o : Outlet) (s : State), (s.nrg.live[outletNo o]).seq = 2 → (s.nrg.live[outletNo o]).seqEpisode = false →
    (s.nrg.live[outletNo o]).seqSince + tbSecond ≤ s.clock.tb →
    ∃ t, exec (.phaseseqReversed o) s = .next t ∧ (t.nrg.live[outletNo o]).seqEpisode = true ∧
      (t.mseal.ledger[T_PHASESEQ]).dCount = min (2 ^ 32 - 1) ((s.mseal.ledger[T_PHASESEQ]).dCount + 1) ∧
      (t.mseal.ledger[T_PHASESEQ]).dLastArg = o.1 ∧
      t = { s with nrg := t.nrg, mseal := t.mseal, log := t.log, cnt := t.cnt, draws := t.draws }) ∧
  (∀ (o : Outlet) (s : State), (s.nrg.live[outletNo o]).seqEpisode = true → (s.nrg.live[outletNo o]).seq = 1 →
    (s.nrg.live[outletNo o]).seqSince + 10 * tbSecond ≤ s.clock.tb →
    ∃ t, exec (.phaseseqEpisodeEnd o) s = .next t ∧ t.nrg.live[outletNo o] = { s.nrg.live[outletNo o] with seqEpisode := false } ∧
      t = { s with nrg := t.nrg }) ∧
  (∀ (o : Outlet) (s : State), (s.nrg.live[outletNo o]).neutral = true → (s.nrg.live[outletNo o]).neutralEpisode = false →
    (s.nrg.live[outletNo o]).neutralSince + tbSecond ≤ s.clock.tb →
    ∃ t, exec (.neutralMissing o) s = .next t ∧ (t.nrg.live[outletNo o]).neutralEpisode = true ∧
      (t.mseal.ledger[T_NEUTRAL]).dCount = min (2 ^ 32 - 1) ((s.mseal.ledger[T_NEUTRAL]).dCount + 1) ∧
      (t.mseal.ledger[T_NEUTRAL]).dLastArg = o.1 ∧
      ((s.so (outletNo o)).sid.isSome = true → s.Stops t (outletNo o) 13) ∧
      ((s.so (outletNo o)).sid = none → t = { s with nrg := t.nrg, mseal := t.mseal, log := t.log, cnt := t.cnt, draws := t.draws }) ∧
      t = { s with nrg := t.nrg, mseal := t.mseal, log := t.log, cnt := t.cnt, draws := t.draws, keys := t.keys, host := t.host, bil := t.bil,
                   guard := t.guard, seqr := t.seqr, veh := t.veh, lsw := t.lsw }) ∧
  (∀ (o : Outlet) (s : State), (s.nrg.live[outletNo o]).neutralEpisode = true → (s.nrg.live[outletNo o]).neutral = false →
    (s.nrg.live[outletNo o]).neutralSince + 10 * tbSecond ≤ s.clock.tb →
    ∃ t, exec (.neutralEpisodeEnd o) s = .next t ∧ t.nrg.live[outletNo o] = { s.nrg.live[outletNo o] with neutralEpisode := false } ∧
      t = { s with nrg := t.nrg })

/-- At a boundary a handed-off tick is booked at the end of the journal with the next JSEQ, the attribution and tariffs in force at its bill
time, uncommitted; bill time, at the boundary's own TB, and the attribution move on. With no plan a boundary moves bill time and books
nothing. Its commit, 200 ticks later, adds its energy to the tariff registers of a session output, to the service registers of an output
with neither session nor pending session, and to no other; the entry then counts as committed. Energy held for a session without an
outcome for 300 s is treated as withdrawn. The billing state goes to the older copy at every 100th boundary. An interval that the commit
front has passed closes: its energy gives the latest demand, a maximum rises to it and never falls, and the next interval starts at its
stop with no energy. An interval that a period end cuts also counts a period and starts the maxima again. At NEXT_AT the next OFFSET
takes its place. Calendar and commands set the tariffs in force. -/
def Obligations.TicksIntervalsAndPeriods : Prop :=
  (∀ (s : State) (h : HandedTick) (b x : Nat), s.nrg.waiting = [h] → h.short = false → s.bil.mode ≠ .unknown →
    s.bil.lastB = some x → (bookTick s h).billAt h.endTb = some b →
    (∀ k ∈ s.bil.ticks, k.short = true → k.committed = false → k.startTb ≠ h.startTb) →
    ∃ t k, exec .billingBoundary s = .next t ∧ t.nrg.waiting = [] ∧ t.bil.ticks = (s.bil.ticks ++ [k]).drop (s.bil.ticks.length - 415) ∧
      k.jseq = s.bil.jseq ∧ t.bil.jseq = s.bil.jseq + 1 ∧ k.startTb = h.startTb ∧ k.endTb = h.endTb ∧ k.s = some x ∧
      k.committed = false ∧ t.bil.lastB = some b ∧ t.bil.boundaries = s.bil.boundaries + 1 ∧
      (∀ o : Fin 6, (k.outs[o]).imp = (h.inc[o])[0] ∧ (k.outs[o]).exp = (h.inc[o])[1] ∧ (k.outs[o]).attr = (s.bil.attr[o]).cur ∧
        (k.outs[o]).tariff = s.tariffAt ⟨o.1, by omega⟩ x ∧ (t.bil.attr[o]).cur = (if (s.bil.attr[o]).sinceTb ≤ h.endTb then (s.bil.attr[o]).attr
          else (s.bil.attr[o]).cur)) ∧
      t = { s with use := t.use, keys := t.keys, cnt := t.cnt, log := t.log, nrg := t.nrg, bil := t.bil, mseal := t.mseal }) ∧
  (∀ (s : State) (b : Nat), s.nrg.waiting = [] → s.grate.plan = none → s.bil.mode ≠ .unknown → s.billAt s.clock.tb = some b →
    ∃ t, exec .billingBoundary s = .next t ∧ t.bil.lastB = some b ∧ t.bil.boundaries = s.bil.boundaries + 1 ∧ t.bil.ticks = s.bil.ticks ∧
      t.bil.treg = s.bil.treg ∧
      t = { s with use := t.use, keys := t.keys, cnt := t.cnt, log := t.log, bil := t.bil, mseal := t.mseal }) ∧
  (∀ (s : State) (k : Tick) (rest : List Tick), s.bil.open_ = k :: rest → k.endTb + 200 * tbTick ≤ s.clock.tb →
    (∀ (o : Fin 6), ∀ h ∈ s.bil.holds[o], h.outcome = none) →
    ∃ t, exec .tickCommit s = .next t ∧ t.bil.throughTb = k.endTb ∧
      t.bil.ticks = s.bil.ticks.map (fun x => if x.jseq = k.jseq then { x with committed := true } else x) ∧
      (∀ (o : Fin 6), (t.nrg.svc[o.1])[0] = (s.nrg.svc[o.1])[0] +
          (if (k.outs[o]).attr = .session ∨ (k.outs[o]).attr = .pending then 0 else (k.outs[o]).imp) ∧
        (t.nrg.svc[o.1])[1] = (s.nrg.svc[o.1])[1] +
          (if (k.outs[o]).attr = .session ∨ (k.outs[o]).attr = .pending then 0 else (k.outs[o]).exp)) ∧
      (∀ (o : Fin 6) (j : Fin 8), ((t.bil.treg[o.1])[j])[0] = ((s.bil.treg[o.1])[j])[0] +
          (if (k.outs[o]).attr = .session ∧ (k.outs[o]).tariff = j.1 then (k.outs[o]).imp else 0) ∧
        ((t.bil.treg[o.1])[j])[1] = ((s.bil.treg[o.1])[j])[1] +
          (if (k.outs[o]).attr = .session ∧ (k.outs[o]).tariff = j.1 then (k.outs[o]).exp else 0)) ∧
      t = { s with keys := t.keys, cnt := t.cnt, log := t.log, nrg := t.nrg, bil := t.bil, mseal := t.mseal }) ∧
  (∀ (o : Output) (s : State) (h : Hold), s.bil.holds[o] = [h] → h.outcome = none → h.startTb + 300 * tbSecond ≤ s.clock.tb →
    ∃ t, exec (.attrTimeout o) s = .next t ∧ t.bil.holds[o] = [{ h with outcome := some false, timedOut := true }] ∧
      (∀ k ∈ t.bil.ticks, k.committed = false → ¬ ((k.outs[o]).sid = h.sid ∧ (k.outs[o]).attr = .pending)) ∧ t.bil.treg = s.bil.treg ∧
      (∀ p : Output, p ≠ o → t.bil.holds[p] = s.bil.holds[p] ∧ t.bil.attr[p] = s.bil.attr[p]) ∧
      t = { s with keys := t.keys, cnt := t.cnt, log := t.log, bil := t.bil }) ∧
  (∀ s : State, 0 < s.bil.boundaries → s.bil.boundaries % 100 = 0 →
    ∃ t, exec .billingStateWrite s = .next t ∧ t.bil.saveSeq = s.bil.saveSeq + 1 ∧
      ((t.bil.saveA = some s.billSave ∧ t.bil.saveB = s.bil.saveB) ∨ (t.bil.saveB = some s.billSave ∧ t.bil.saveA = s.bil.saveA)) ∧
      t.bil.treg = s.bil.treg ∧ t = { s with keys := t.keys, cnt := t.cnt, log := t.log, bil := t.bil }) ∧
  (∀ (s : State) (f stop : Nat), s.bil.mode ≠ .unknown → s.front = some f → s.bil.cuts = [] →
    stop = gridEnd s.bil.demcfg s.bil.phase s.bil.running.start → stop ≤ f → f < gridEnd s.bil.demcfg s.bil.phase stop →
    ∃ t, exec .demandIntervalEnd s = .next t ∧ t.bil.running.start = stop ∧ t.bil.running.hasTick = false ∧
      (∀ n : Fin 7, t.bil.running.energy[n] = 0) ∧ t.bil.period = s.bil.period ∧
      (∀ (n : Fin 7) (k : Fin 9), ((s.bil.md[n])[k]).d ≤ ((t.bil.md[n])[k]).d) ∧
      (demSliding s.bil.demcfg = false → ∀ n : Fin 7,
        (t.bil.last[n]).d = (rdiv (s.bil.running.energy[n] * 3600 : Nat) (demLen s.bil.demcfg)).toNat ∧
        ((t.bil.md[n])[8]).d = max ((s.bil.md[n])[8]).d (t.bil.last[n]).d) ∧ t = { s with bil := t.bil }) ∧
  (∀ (s : State) (b lo f p : Nat), s.bil.mode ≠ .unknown → s.billNow = some b → s.bil.lastB = some lo → s.front = some f →
    (s.bil.periodEnds s.calendar s.calcfg lo b).cuts = [{ at_ := p, periodEnd := true, newPhase := none }] →
    s.bil.running.start < p → p ≤ gridEnd s.bil.demcfg s.bil.phase s.bil.running.start → p ≤ f →
    f < gridEnd (s.reg R.BIL_DEMCFG []) (alignPhase (s.reg R.BIL_DEMCFG [])) p →
    ∃ t, exec .periodEnd s = .next t ∧ t.bil.period = s.bil.period + 1 ∧ t.bil.running.start = p ∧
      t.bil.demcfg = s.reg R.BIL_DEMCFG [] ∧ (∀ (n : Fin 7) (k : Fin 9), (t.bil.md[n])[k] = MaxDemand.zero) ∧
      (∀ n : Fin 7, ((s.bil.md[n])[8]).d ≤ ((t.bil.pmd[n])[8]).d) ∧
      t = { s with keys := t.keys, cnt := t.cnt, log := t.log, bil := t.bil, mseal := t.mseal }) ∧
  (∀ (s : State) (b : Nat), s.bil.lastB = some b → F.BIL_CALCFG_NEXT_AT.get s.calcfg ≠ 0 → F.BIL_CALCFG_NEXT_AT.get s.calcfg * 60000 ≤ b →
    ∃ t, exec .offsetChange s = .next t ∧ t.fld R.BIL_CALCFG F.BIL_CALCFG_OFFSET [] = F.BIL_CALCFG_NEXT_OFFSET.get s.calcfg ∧
      t.fld R.BIL_CALCFG F.BIL_CALCFG_NEXT_AT [] = 0 ∧
      t = { s with regs := t.regs, use := t.use, bil := { s.bil with calUntil := t.bil.calUntil } }) ∧
  (∀ (s : State) (b : Nat), s.billNow = some b →
    ∃ t, exec .calendarTariffSwitch s = .next t ∧ (∀ n : Fin 7, t.bil.tariffNow[n] = s.tariffAt n b) ∧
      t = { s with bil := { s.bil with tariffNow := t.bil.tariffNow } }) ∧
  (∀ (s : State) (b : Nat) (c : TCmd), s.billNow = some b → c ∈ s.bil.queue → c.applied = false → c.effective ≤ b →
    ∃ t, exec .tariffCommandEffective s = .next t ∧ (∀ n : Fin 7, t.bil.tariffNow[n] = s.tariffAt n b) ∧
      (∀ x ∈ t.bil.queue, x.effective ≤ b → x.applied = true) ∧
      t = { s with bil := { s.bil with tariffNow := t.bil.tariffNow, queue := t.bil.queue } })

/-- The first setting of time starts bill time at wall time, or, where the restored record gives a bill time, lets that meet it. A later
setting takes wall time at the instant it names, or, with TIME_LATE kept, at the oldest one that may still move. Bill time behind wall
time steps forward, at most 2 s ahead of it slews, and further ahead is held, with one T_TIME. A slew or a hold ends when wall time has
met bill time. A tariff command is queued at its time, or, where that can no longer move, at the oldest that can, with TCMD_LATE kept;
one outside the limits is ignored, with IGNORED kept, and a ninth waiting one is refused with FULL. A demand synchronisation at a bill
time ahead cuts the interval there, the grid moving with the cut; at or before the running interval's start the grid moves at once.
Outside its range it is ignored. While bill time is unknown both return NOTIME and have no effect. -/
def Obligations.BillTimeAndTariffCommands : Prop :=
  (∀ (sid : Sid) (v : W64) (h : Session) (s : State), s.Granted sid h R.BIL_TIMESET [] v → s.bil.mode = .unknown → s.bil.timeAt < 1000 →
    ∃ t, exec (.bilTimeset sid v) s = .next t ∧ s.Replies t sid h OK 1 [] ∧ s.HostKept t sid h ∧ t.bil.mode = .normal ∧
      t.clock = { s.clock with wall := some (F.BIL_TIMESET_WALL.get v.toNat, s.clock.tb) } ∧
      t.bil.timeAt = 1000 * F.BIL_TIMESET_WALL.get v.toNat ∧ t.bil.treg = s.bil.treg ∧ t.bil.wide = false ∧
      t = { s with clock := t.clock, host := t.host, keys := t.keys, cnt := t.cnt, log := t.log, bil := t.bil,
                   pwr := { s.pwr with idleTb := s.clock.tb } }) ∧
  (∀ (sid : Sid) (v : W64) (h : Session) (s : State) (wall w b first instant : Nat), s.Granted sid h R.BIL_TIMESET [] v →
    wall = F.BIL_TIMESET_WALL.get v.toNat →
    ((s.bil.mode = .unknown ∧ b = s.bil.timeAt / 1000 ∧ b ≠ 0 ∧ first ≤ s.clock.tb ∧ instant = s.clock.tb ∧ w = wall) ∨
      (s.bil.mode ≠ .unknown ∧ first = (s.bil.oldest.map (·.startTb)).getD s.boundTb ∧
        instant = max first (s.clock.tb - 25000 * min 2000 (F.BIL_TIMESET_BACK.get v.toNat)) ∧
        w = wall + (first - (s.clock.tb - 25000 * min 2000 (F.BIL_TIMESET_BACK.get v.toNat))) / 25000 ∧ s.billAt instant = some b)) →
    ∃ t, exec (.bilTimeset sid v) s = .next t ∧ s.Replies t sid h OK 1 [] ∧ s.HostStored t sid h ∧
      t.clock = { s.clock with wall := some (w, instant) } ∧
      (b ≤ w → t.bil.mode = .normal ∧ t.bil.timeAt = 1000 * w) ∧
      (w < b → b ≤ w + 2000 → t.bil.mode = .slew ∧ t.bil.timeAt = 1000 * b) ∧
      (w + 2000 < b → t.bil.mode = .hold ∧ t.bil.timeAt = 1000 * b ∧
        (t.mseal.ledger[T_TIME]).dCount = min (2 ^ 32 - 1) ((s.mseal.ledger[T_TIME]).dCount + 1)) ∧
      (s.bil.mode ≠ .unknown → s.clock.tb - 25000 * min 2000 (F.BIL_TIMESET_BACK.get v.toNat) < first →
        t.kept R.BIL_CMD_STAT [] &&& F.BIL_CMD_STAT_TIME_LATE.mask = F.BIL_CMD_STAT_TIME_LATE.mask) ∧
      t.bil.timeTb = instant ∧ t.bil.treg = s.bil.treg ∧ t.bil.wide = false ∧
      t = { s with sticky := t.sticky, clock := t.clock, host := t.host, keys := t.keys, cnt := t.cnt, log := t.log, bil := t.bil,
                   mseal := t.mseal, draws := t.draws, pwr := { s.pwr with idleTb := s.clock.tb } }) ∧
  (∀ (s : State) (w : Nat), s.wallMicro s.clock.tb = some w → s.bil.mode = .slew →
    s.bil.timeAt + (s.clock.tb - s.bil.timeTb) * 999 / 25000 ≤ w →
    exec .billSlewEnd s = .next { s with bil := { s.bil with mode := .normal, timeAt := w, timeTb := s.clock.tb } }) ∧
  (∀ (s : State) (w : Nat), s.wallMicro s.clock.tb = some w → s.bil.mode = .hold → s.bil.timeAt ≤ w →
    exec .billHoldEnd s = .next { s with bil := { s.bil with mode := .normal, timeAt := w, timeTb := s.clock.tb } }) ∧
  (∀ (sid : Sid) (v : W64) (h : Session) (s : State) (now f eff tariff : Nat), s.Granted sid h R.BIL_TCMD [] v → s.billNow = some now →
    s.front = some f → eff = F.BIL_TCMD_EFFECTIVE.get v.toNat → tariff = F.BIL_TCMD_TARIFF.get v.toNat →
    (tariff < 8 ∨ tariff = 15) → eff ≤ now + 86400000 → (s.bil.queue.filter (fun c => !c.applied)).length < 8 →
    ∃ t c, exec (.bilTcmd sid v) s = .next t ∧ s.Replies t sid h OK 1 [] ∧ s.HostStored t sid h ∧ c ∈ t.bil.queue ∧ c.tariff = tariff ∧
      c.outputs = F.BIL_TCMD_OUTPUTS.get v.toNat ∧ c.site = (F.BIL_TCMD_SITE.get v.toNat == 1) ∧
      c.effective = (if eff = 0 then s.nextS else max eff f) ∧ c.order = s.bil.cmdOrder ∧ t.bil.cmdOrder = s.bil.cmdOrder + 1 ∧
      t.bil.queue.length = s.bil.queue.length + 1 ∧ t.bil.treg = s.bil.treg ∧
      (eff ≠ 0 → eff < f → t.kept R.BIL_CMD_STAT [] &&& F.BIL_CMD_STAT_TCMD_LATE.mask = F.BIL_CMD_STAT_TCMD_LATE.mask) ∧
      (eff = 0 ∨ f ≤ eff → t.sticky = s.sticky) ∧
      t = { s with sticky := t.sticky, host := t.host, keys := t.keys, cnt := t.cnt, log := t.log, bil := t.bil,
                   pwr := { s.pwr with idleTb := s.clock.tb } }) ∧
  (∀ (sid : Sid) (v : W64) (h : Session) (s : State) (now f : Nat), s.Granted sid h R.BIL_TCMD [] v → s.billNow = some now →
    s.front = some f → (8 ≤ F.BIL_TCMD_TARIFF.get v.toNat ∧ F.BIL_TCMD_TARIFF.get v.toNat < 15 ∨
      now + 86400000 < F.BIL_TCMD_EFFECTIVE.get v.toNat) →
    ∃ t, exec (.bilTcmd sid v) s = .next t ∧ s.Replies t sid h OK 1 [] ∧ s.HostKept t sid h ∧
      t.kept R.BIL_CMD_STAT [] &&& F.BIL_CMD_STAT_IGNORED.mask = F.BIL_CMD_STAT_IGNORED.mask ∧
      t = { s with sticky := t.sticky, host := t.host, keys := t.keys, cnt := t.cnt, log := t.log, pwr := { s.pwr with idleTb := s.clock.tb } }) ∧
  (∀ (sid : Sid) (v : W64) (h : Session) (s : State) (now f : Nat), s.Granted sid h R.BIL_TCMD [] v → s.billNow = some now →
    s.front = some f → (F.BIL_TCMD_TARIFF.get v.toNat < 8 ∨ F.BIL_TCMD_TARIFF.get v.toNat = 15) →
    F.BIL_TCMD_EFFECTIVE.get v.toNat ≤ now + 86400000 → 8 ≤ (s.bil.queue.filter (fun c => !c.applied)).length →
    ∃ t, exec (.bilTcmd sid v) s = .next t ∧ s.Replies t sid h FULL 0 [] ∧ s.PathOnly t sid h) ∧
  (∀ (sid : Sid) (v : W64) (h : Session) (s : State) (now f x : Nat), s.Granted sid h R.BIL_DSYNC [] v → s.billNow = some now →
    s.front = some f → x = F.BIL_DSYNC_END.get v.toNat → f ≤ x → x ≤ now + demLen s.bil.demcfg →
    ∃ t, exec (.bilDsync sid v) s = .next t ∧ s.Replies t sid h OK 1 [] ∧ s.HostKept t sid h ∧ t.bil.running = s.bil.running ∧
      (s.bil.running.start < x →
        { at_ := x, periodEnd := false, newPhase := some (x % demLen s.bil.demcfg) } ∈ t.bil.cuts ∧ t.bil.phase = s.bil.phase) ∧
      (x ≤ s.bil.running.start → t.bil.phase = x % demLen s.bil.demcfg) ∧
      t = { s with host := t.host, keys := t.keys, cnt := t.cnt, log := t.log, bil := t.bil, pwr := { s.pwr with idleTb := s.clock.tb } }) ∧
  (∀ (sid : Sid) (v : W64) (h : Session) (s : State) (now f x : Nat), s.Granted sid h R.BIL_DSYNC [] v → s.billNow = some now →
    s.front = some f → x = F.BIL_DSYNC_END.get v.toNat → (x < f ∨ now + demLen s.bil.demcfg < x) →
    ∃ t, exec (.bilDsync sid v) s = .next t ∧ s.Replies t sid h OK 1 [] ∧ s.HostKept t sid h ∧
      t.kept R.BIL_CMD_STAT [] &&& F.BIL_CMD_STAT_IGNORED.mask = F.BIL_CMD_STAT_IGNORED.mask ∧
      t = { s with sticky := t.sticky, host := t.host, keys := t.keys, cnt := t.cnt, log := t.log, pwr := { s.pwr with idleTb := s.clock.tb } }) ∧
  (∀ (sid : Sid) (v : W64) (h : Session) (s : State), s.bil.mode = .unknown →
    (s.Granted sid h R.BIL_TCMD [] v → ∃ t, exec (.bilTcmd sid v) s = .next t ∧ s.Replies t sid h NOTIME 0 [] ∧ s.PathOnly t sid h) ∧
    (s.Granted sid h R.BIL_DSYNC [] v → ∃ t, exec (.bilDsync sid v) s = .next t ∧ s.Replies t sid h NOTIME 0 [] ∧ s.PathOnly t sid h))

/-! ### The metrology seal, the Flue and the tamper ledger (R179 to R181, R256 to R278) -/

/-- SEAL_OPEN with the door open opens the seal until its deadline, counts one T_SEAL with the reason, and returns the epoch and the
deadline; while it is open it moves the deadline alone; with the door closed it is DENIED, and for more than 480 minutes BADFRAME. A
close with no metrology change keeps the epoch; with a change it moves to the next one; the calibration stays, and CAL_WRITE jobs that
wait fail with DENIED. A close of a closed seal ends done. The deadline closes the seal by itself. Queued records are signed in their
order once time and the key are there. A watched tamper input that becomes active counts one T_COVER, with its bit in the argument, in
every power state but OFF; within 1.0 s of its last count it does not count again. The merge adds every delta to the count in flash and
clears it. -/
def Obligations.SealRecordsAndTamper : Prop :=
  (∀ (j : Slot) (s : State) (dl : Nat), s.jobTurn j 0x40 = true → (s.job j).records = [] → bitsOf ((s.job j).param 1) 0 9 ≤ 480 →
    s.doorOpen = true → s.mseal.record.open_ = false →
    dl = s.wall0 + (if bitsOf ((s.job j).param 1) 0 9 = 0 then 60 else bitsOf ((s.job j).param 1) 0 9) * 60000 →
    ∃ t, exec (.sealOpen j) s = .next t ∧ t.mseal.record.open_ = true ∧ t.mseal.record.deadline = dl ∧
      t.mseal.record.reason = bitsOf ((s.job j).param 1) 16 16 ∧ t.mseal.record.seq = s.mseal.record.seq + 1 ∧
      t.mseal.record.epoch = s.mseal.record.epoch ∧ t.mseal.record.cal = s.mseal.record.cal ∧
      (t.mseal.ledger[T_SEAL]).dCount = min (2 ^ 32 - 1) ((s.mseal.ledger[T_SEAL]).dCount + 1) ∧
      (t.job j).records = [⟨0x40, [w64 s.mseal.record.epoch, w64 dl]⟩] ∧ (t.job j).state = .done ∧ (t.job j).error = 0 ∧
      t = { s with keys := t.keys, jobs := t.jobs, cnt := t.cnt, log := t.log, mseal := t.mseal, draws := t.draws }) ∧
  (∀ (j : Slot) (s : State) (dl : Nat), s.jobTurn j 0x40 = true → (s.job j).records = [] → bitsOf ((s.job j).param 1) 0 9 ≤ 480 →
    s.doorOpen = true → s.mseal.record.open_ = true →
    dl = s.wall0 + (if bitsOf ((s.job j).param 1) 0 9 = 0 then 60 else bitsOf ((s.job j).param 1) 0 9) * 60000 →
    ∃ t, exec (.sealOpen j) s = .next t ∧ t.mseal.record = { s.mseal.record with deadline := dl, seq := s.mseal.record.seq + 1, root := s.life.rootFused } ∧
      t.mseal.ledger = s.mseal.ledger ∧ (t.job j).records = [⟨0x40, [w64 s.mseal.record.epoch, w64 dl]⟩] ∧ (t.job j).state = .done ∧
      (t.job j).error = 0 ∧ t = { s with keys := t.keys, jobs := t.jobs, cnt := t.cnt, log := t.log, mseal := t.mseal }) ∧
  (∀ (j : Slot) (s : State), s.jobTurn j 0x40 = true → (480 < bitsOf ((s.job j).param 1) 0 9 ∨ s.doorOpen = false) →
    ∃ t, exec (.sealOpen j) s = .next t ∧ (t.job j).state = .failed ∧
      (t.job j).error = (if 480 < bitsOf ((s.job j).param 1) 0 9 then BADFRAME else DENIED) ∧ t = { s with jobs := t.jobs }) ∧
  (∀ (j : Slot) (s : State), s.jobTurn j 0x41 = true → s.mseal.record.open_ = true →
    ∃ t, exec (.sealClose j) s = .next t ∧ t.mseal.record.open_ = false ∧ t.mseal.record.deadline = 0 ∧ t.mseal.changed = false ∧
      t.mseal.record.epoch = s.mseal.record.epoch + (if s.mseal.changed then 1 else 0) ∧ t.mseal.record.cal = s.mseal.record.cal ∧
      (s.mseal.changed = true → t.mseal.record.calDigest = calDigestOf s.mseal.record.cal) ∧
      (∀ i, (s.job i).state = .queued → (s.job i).code = 0x48 → (t.job i).state = .failed ∧ (t.job i).error = DENIED) ∧
      (t.job j).state = .done ∧ (t.job j).error = 0 ∧
      t = { s with keys := t.keys, jobs := t.jobs, cnt := t.cnt, log := t.log, grate := t.grate, nrg := t.nrg, mseal := t.mseal,
                   draws := t.draws }) ∧
  (∀ (j : Slot) (s : State), s.jobTurn j 0x41 = true → s.mseal.record.open_ = false →
    ∃ t, exec (.sealClose j) s = .next t ∧ (t.job j).state = .done ∧ (t.job j).error = 0 ∧ t = { s with jobs := t.jobs }) ∧
  (∀ s : State, s.mseal.record.open_ = true → (∀ w, s.wallNow = some w → s.mseal.record.deadline ≤ w) →
    ∃ t, exec .sealAutoClose s = .next t ∧ t.mseal.record.open_ = false ∧ t.mseal.record.deadline = 0 ∧ t.mseal.changed = false ∧
      t.mseal.record.epoch = s.mseal.record.epoch + (if s.mseal.changed then 1 else 0) ∧ t.mseal.record.cal = s.mseal.record.cal ∧
      t = { s with keys := t.keys, jobs := t.jobs, cnt := t.cnt, log := t.log, grate := t.grate, nrg := t.nrg, mseal := t.mseal,
                   draws := t.draws }) ∧
  (∀ s : State, s.flueReady = true → (s.slot 3).refusal engFLUE s.clock.tb = none → (s.slot 3).limit = 0 →
    ∃ t, exec .flueDeferredSign s = .next t ∧ t.mseal.queue = [] ∧ t.mseal.next = s.mseal.next + s.mseal.queue.length ∧
      t.mseal.ledger = s.mseal.ledger ∧ t.mseal.record = s.mseal.record ∧ (s.mseal.queue = [] → t = s) ∧
      t = { s with keys := t.keys, cnt := t.cnt, log := t.log, mseal := t.mseal }) ∧
  (∀ (n : TamperNo) (s : State), s.pwr.mode ≠ .off → (∀ b, (s.mseal.inputs[n]).lastTb = some b → s.clock.run = true → b + tbSecond ≤ s.clock.tb) →
    bitOf (s.fld R.SEAL_TAMPCFG F.SEAL_TAMPCFG_EN []) n.1 = true →
    ∃ t, exec (.tamperInputActive n) s = .next t ∧
      (t.mseal.ledger[T_COVER]).dCount = min (2 ^ 32 - 1) ((s.mseal.ledger[T_COVER]).dCount + 1) ∧
      bitOf (t.mseal.ledger[T_COVER]).dLastArg n.1 = true ∧ bitOf (t.kept R.SEAL_TAMPCFG []) (20 + n.1) = true ∧
      (∀ k : Fin 11, k ≠ T_COVER → t.mseal.ledger[k] = s.mseal.ledger[k]) ∧
      t = { s with sticky := t.sticky, cnt := t.cnt, log := t.log, mseal := t.mseal, draws := t.draws }) ∧
  (∀ (n : TamperNo) (s : State) (b : Nat), (s.mseal.inputs[n]).lastTb = some b → s.clock.run = true → s.clock.tb < b + tbSecond →
    exec (.tamperInputActive n) s = .next s) ∧
  (∀ s : State, s.hearth.running = true →
    ∃ t, exec .ledgerMerge s = .next t ∧
      (∀ k : Fin 11, (t.mseal.ledger[k]).dCount = 0 ∧ (t.mseal.ledger[k]).count =
        if (s.mseal.ledger[k]).dCount = 0 then (s.mseal.ledger[k]).count
        else min (2 ^ 32 - 1) ((s.mseal.ledger[k]).count + (s.mseal.ledger[k]).dCount)) ∧
      t = { s with mseal := { s.mseal with ledger := t.mseal.ledger, ledgerA := t.mseal.ledgerA, ledgerB := t.mseal.ledgerB } })

/-- CAL_WRITE with the seal open writes its slot in the sealed record, clears that slot's track value, counts one T_CONFIG with the slot in
its argument, and leaves every other slot; with the seal closed it is DENIED. CAL_MEASURE of a slot that the plan uses, over 48 to
4,800,000 frames, starts to count from the next frame; the frame that gives it its last VALID sample ends it done, one that makes more
than N skipped ends it with 0x41, and one that finds no CAL cell for the slot with 0x42. FLUE_READ of one output, when nothing refuses
it, makes one record with the next counter, the nonce and the output's committed energy, signed and kept, and returns it; when something
refuses it, it fails with that error and makes no record. FLUE_FETCH returns kept records in order of their counters and FLUE_CERT a
kept certificate; neither changes the Flue. -/
def Obligations.CalibrationAndFlueJobs : Prop :=
  (∀ (j : Slot) (s : State) (n : Fin 64), s.jobTurn j 0x48 = true → (s.job j).records = [] → (s.job j).param 1 = n.1 →
    s.mseal.record.open_ = true → calInRange ((s.job j).param 3) ((s.job j).param 5) = true →
    ∃ t, exec (.calWrite j) s = .next t ∧
      t.mseal.record.cal[n] = { scale := w64 ((s.job j).param 2), offset := w64 ((s.job j).param 3), temp := w64 ((s.job j).param 4),
                                phase := w64 (F.MET_CAL_PHASE_WRITTEN.set ((s.job j).param 5) 1) } ∧
      (∀ m : Fin 64, m ≠ n → t.mseal.record.cal[m] = s.mseal.record.cal[m] ∧ t.sens.track[m] = s.sens.track[m]) ∧
      (t.sens.track[n]).value = 0 ∧ (t.mseal.ledger[T_CONFIG]).dCount = min (2 ^ 32 - 1) ((s.mseal.ledger[T_CONFIG]).dCount + 1) ∧
      (t.mseal.ledger[T_CONFIG]).dLastArg = 2 + n.1 * 256 ∧ t.mseal.changed = true ∧ (t.job j).state = .done ∧ (t.job j).error = 0 ∧
      t = { s with keys := t.keys, jobs := t.jobs, cnt := t.cnt, log := t.log, sens := t.sens, mseal := t.mseal, draws := t.draws }) ∧
  (∀ (j : Slot) (s : State), s.jobTurn j 0x48 = true → (s.job j).param 1 < 64 → s.mseal.record.open_ = false →
    ∃ t, exec (.calWrite j) s = .next t ∧ (t.job j).state = .failed ∧ (t.job j).error = DENIED ∧ t = { s with jobs := t.jobs }) ∧
  (∀ (j : Slot) (s : State) (p : Plan) (n : Nat), s.jobTurn j 0x49 = true → n = bitsOf ((s.job j).param 1) 32 32 → 48 ≤ n → n ≤ 4800000 →
    s.grate.plan = some p → p.mas.any (fun m => m.op == 5 && m.calSlot == bitsOf ((s.job j).param 1) 0 6) = true →
    ∃ t, exec (.calMeasureRun j) s = .next t ∧ (t.job j).state = .running ∧ (∀ k, k ≠ j → t.job k = s.job k) ∧
      t.sens.measure = some { job := j, slot := bitsOf ((s.job j).param 1) 0 6, want := n, n := 0, skipped := 0, sum := 0, sq := 0, lo := 0, hi := 0 } ∧
      t = { s with jobs := t.jobs, sens := t.sens }) ∧
  (∀ (x : FrameIn) (s : State) (m : Measure) (p : Plan), s.sens.measure = some m → s.grate.plan = some p → s.grate.tickFrame < 480 →
    p.mas.any (fun r => r.op == 5 && r.calSlot == m.slot) = true → (s.job m.job).code = 0x49 → (s.job m.job).state = .running →
    (s.job m.job).records = [] → m.want < 48000 → m.n + 1 = m.want → m.skipped = m.want →
    ∃ t, exec (.grateFrame x) s = .next t ∧ t.sens.measure = none ∧
      (((t.job m.job).state = .done ∧ (t.job m.job).error = 0 ∧ ∃ r : Measure, (t.job m.job).records = [⟨0x49, r.words⟩] ∧ r.n = m.want ∧
          r.skipped = m.skipped) ∨
        ((t.job m.job).state = .failed ∧ (t.job m.job).error = 0x41))) ∧
  (∀ (x : FrameIn) (s : State) (m : Measure), s.sens.measure = some m → s.grate.plan = none → (s.job m.job).code = 0x49 →
    (s.job m.job).state = .running →
    ∃ t, exec (.grateFrame x) s = .next t ∧ t.sens.measure = none ∧ (t.job m.job).state = .failed ∧ (t.job m.job).error = 0x42 ∧
      t = { s with use := t.use, jobs := t.jobs, sens := t.sens }) ∧
  (∀ (j : Slot) (s : State) (n : Fin 7), s.jobTurn j 0x42 = true → (s.job j).records = [] → bitsOf ((s.job j).param 1) 0 7 = 2 ^ n.1 →
    s.flueRefusal (s.job j).polder (2 ^ n.1) = 0 → (s.slot 3).refusal engFLUE s.clock.tb = none →
    ∃ t r, exec (.flueRead j) s = .next t ∧ t.mseal.store.getLast? = some r ∧ r.body.counter = s.mseal.next ∧
      t.mseal.next = s.mseal.next + 1 ∧ r.body.output = n.1 ∧ r.body.nonce = w64 ((s.job j).param 2) ∧
      r.body.type = (if bitOf ((s.job j).param 1) 8 then 5 else 1) ∧ r.body.imp = s.energyAt n 0 ∧ r.body.exp = s.energyAt n 1 ∧
      r.body.wall = s.wall0 ∧ r.sig = ecdsaSign (s.slot 3).key (sha384 r.body.bytes) ∧
      (r.bytes.length ≤ 1000000 →
        (t.job j).records = [⟨0x80, bytesWords r.bytes⟩] ∧ (t.job j).state = .done ∧ (t.job j).error = 0) ∧
      t = { s with keys := t.keys, jobs := t.jobs, cnt := t.cnt, log := t.log, mseal := t.mseal }) ∧
  (∀ (j : Slot) (s : State), s.jobTurn j 0x42 = true → s.flueRefusal (s.job j).polder (bitsOf ((s.job j).param 1) 0 7) ≠ 0 →
    ∃ t, exec (.flueRead j) s = .next t ∧ (t.job j).state = .failed ∧
      (t.job j).error = s.flueRefusal (s.job j).polder (bitsOf ((s.job j).param 1) 0 7) ∧ t = { s with jobs := t.jobs }) ∧
  (∀ (j : Slot) (s : State) (l : List FlueRecord), s.jobTurn j 0x43 = true → (s.job j).records = [] →
    1 ≤ bitsOf ((s.job j).param 2) 0 11 → bitsOf ((s.job j).param 2) 0 11 ≤ 1024 → (s.job j).polder ≠ 3 →
    l = (s.mseal.store.filter (fun r => decide ((s.job j).param 1 ≤ r.body.counter) &&
      (bitsOf ((s.job j).param 2) 16 7 == 0 || bitOf (bitsOf ((s.job j).param 2) 16 7) r.body.output))).take (bitsOf ((s.job j).param 2) 0 11) →
    (l.map (fun r => (bytesWords r.bytes).length + 1)).sum * 8 ≤ 2 ^ 20 →
    ∃ t, exec (.flueFetch j) s = .next t ∧ (t.job j).records = l.map (fun r => ⟨0x80, bytesWords r.bytes⟩) ∧
      (t.job j).state = .done ∧ (t.job j).error = 0 ∧ t = { s with jobs := t.jobs }) ∧
  (∀ (j : Slot) (s : State) (e : Nat) (c : Bytes), s.jobTurn j 0x44 = true → (s.job j).records = [] →
    e = (if bitsOf ((s.job j).param 1) 0 32 = 0 then s.mseal.record.epoch else bitsOf ((s.job j).param 1) 0 32) →
    s.mseal.certs.find? (fun c => c.1 == e) = some (e, c) → ((bytesWords c).length + 1) * 8 ≤ 2 ^ 20 →
    ∃ t, exec (.flueCert j) s = .next t ∧ (t.job j).records = [⟨0x81, bytesWords c⟩] ∧ (t.job j).state = .done ∧ (t.job j).error = 0 ∧
      t = { s with jobs := t.jobs })

/-! ### The vehicle link (chapter 09) -/

/-- The accepted state of a pilot that STRUCTURE declares is the one that its plateaus give, with the plateaus kept; a state without a
vehicle, E or INVALID on an energised output is FAULT with cause 7, the request withdrawn and the pilot at F, or, while the sequencer is
suspended, waits until it resumes. Any other pilot is not measured. A proximity code is the one that the table gives for the resistance;
no plug, or an invalid one, on an energised output is FAULT too. A failed modem of a pilot gives its coupler, address and network to GP6
while that is free, and a SLAC run that it was in starts over on every candidate (the model's choice, log entry 109); else the pilot's
link is lost and its output stops with cause 6. A new SLAC run takes the couplers that may answer; sounds add to their sums until the
tenth or 600 ms, when the run closes with the coupler that wins, if any; the match of that coupler joins its modem to the vehicle with a
fresh key and ends the run. A failed SLAC ends the link. -/
def Obligations.PilotsModemsAndSlac : Prop :=
  (∀ (o : Output) (i : PilotIn) (s : State), bitOf s.veh.watched o.1 = false → exec (.pilotStateChange o i) s = .next s) ∧
  (∀ (o : Output) (i : PilotIn) (s : State), bitOf s.veh.watched o.1 = true →
    ∃ t, exec (.pilotStateChange o i) s = .next t ∧ (t.veh.pilots[o]).state = ((s.veh.pilots[o]).judge s.clock.tb i).1 ∧
      (t.veh.pilots[o]).diode = ((s.veh.pilots[o]).judge s.clock.tb i).2 ∧ (t.veh.pilots[o]).high = i.high ∧ (t.veh.pilots[o]).low = i.low ∧
      (((s.veh.pilots[o]).judge s.clock.tb i).1 ≠ (s.veh.pilots[o]).state → (t.veh.pilots[o]).tb = s.clock.tb) ∧
      (s.seqr.suspended = true → ((s.veh.pilots[o]).judge s.clock.tb i).1 ≠ (s.veh.pilots[o]).state →
        (t.so o).missed = true ∧ (t.so o).state = (s.so o).state) ∧
      (s.seqr.suspended = false → (s.so o).state.energised = true → ((s.veh.pilots[o]).judge s.clock.tb i).1 ≠ (s.veh.pilots[o]).state →
        ((s.veh.pilots[o]).judge s.clock.tb i).1 ∈ [0, 4, 6] →
        (t.so o).state = .fault ∧ (t.go o).request = false ∧ (t.go o).gate = false ∧ (t.veh.pilots[o]).drive = .minus12 ∧
        ((s.so o).stopped = false → (t.so o).cause = 7)) ∧
      t = { s with use := t.use, sticky := t.sticky, keys := t.keys, host := t.host, cnt := t.cnt, log := t.log, sens := t.sens, bil := t.bil,
                   guard := t.guard, seqr := t.seqr, veh := t.veh, lsw := t.lsw, draws := t.draws }) ∧
  (∀ (o : Output) (ohms c : Nat) (s : State), c = ppCode (s.useFld R.VEH_PINCFGn F.VEH_PINCFGn_PP_TABLE [o.1]) ohms →
    ∃ t, exec (.ppCodeChange o ohms) s = .next t ∧ t.veh.pp[o] = (c, min 0xFFFF ohms) ∧
      (s.seqr.suspended = true → (t.so o).missed = true ∧ (t.so o).state = (s.so o).state) ∧
      (s.seqr.suspended = false → (s.so o).state.energised = true → c = 0 ∨ c = 7 →
        (t.so o).state = .fault ∧ (t.go o).request = false ∧ ((s.so o).stopped = false → (t.so o).cause = 7)) ∧
      t = { s with use := t.use, keys := t.keys, host := t.host, cnt := t.cnt, log := t.log, sens := t.sens, bil := t.bil, guard := t.guard,
                   seqr := t.seqr, veh := t.veh, lsw := t.lsw, draws := t.draws }) ∧
  (∀ (m : ModemNo) (w : ModemFault) (us : Nat) (s : State), (s.veh.modems[m]).failed = false → m.1 < 6 →
    (s.veh.modems[(6 : Fin 7)]).failed = false → s.veh.serving = 7 →
    ∃ t, exec (.modemFailed m w us) s = .next t ∧ (t.veh.modems[m]).failed = true ∧ t.veh.serving = (s.veh.modems[m]).coupler ∧
      (t.veh.modems[(6 : Fin 7)]).coupler = (s.veh.modems[m]).coupler ∧ (t.veh.modems[(6 : Fin 7)]).matched = (s.veh.modems[m]).matched ∧
      (t.veh.modems[(6 : Fin 7)]).mac = (s.veh.modems[m]).mac ∧ (t.veh.modems[(6 : Fin 7)]).nmk = (s.veh.modems[m]).nmk ∧
      (∀ c : Output, (s.veh.modems[m]).coupler = c.1 → (s.veh.modems[m]).inSlac = true →
        ∀ r ∈ t.veh.slac, bitOf r.candidates c.1 = true → r.closed = false → r.sounds = 0 ∧ r.startTb = none) ∧
      t = { s with cnt := t.cnt, log := t.log, veh := t.veh }) ∧
  (∀ (m : ModemNo) (w : ModemFault) (us : Nat) (c : Output) (s : State), (s.veh.modems[m]).failed = false →
    (m.1 = 6 ∨ (s.veh.modems[(6 : Fin 7)]).failed = true ∨ s.veh.serving ≠ 7) → (s.veh.modems[m]).coupler = c.1 → s.plcOn c = true → (s.so c).state ≠ .lock →
    ∃ t, exec (.modemFailed m w us) s = .next t ∧ (t.veh.modems[m]).failed = true ∧ (t.veh.modems[m]).matched = false ∧ s.Stops t c 6 ∧
      t = { s with keys := t.keys, host := t.host, cnt := t.cnt, log := t.log, bil := t.bil, seqr := t.seqr, veh := t.veh }) ∧
  (∀ (run : Bytes) (s : State), s.findRun run = none → bitmap 6 s.slacCandidate ≠ 0 → (∀ o, (s.so o).state ≠ .waitUnplug) →
    ∃ t r, exec (.cmSlacParmReq run) s = .next t ∧ t.veh.slac = s.veh.slac ++ [r] ∧ r.runId = run ∧
      r.candidates = bitmap 6 s.slacCandidate ∧ r.sounds = 0 ∧ r.closed = false ∧ r.startTb = none ∧
      t = { s with cnt := t.cnt, veh := t.veh }) ∧
  (∀ (run : Bytes) (a : Nat) (s : State), exec (.cmStartAttenCharInd run) s = .next (s.onRun run (fun r =>
      if r.startTb.isNone then { r with startTb := some s.clock.tb } else r)) ∧
    exec (.neighbourAttenChar run a) s = .next (s.onRun run (fun r => { r with neighbours := r.neighbours ++ [a] }))) ∧
  (∀ (run : Bytes) (atten : SampleList) (s : State) (r : SlacRun) (x : Nat), s.veh.slac = [r] → r.runId = run → r.closed = false →
    r.startTb = some x → s.clock.tb ≤ x + slacWindow →
    ∃ t q, exec (.slacSound run atten) s = .next t ∧ t.veh.slac = [q] ∧ q.sounds = r.sounds + 1 ∧ q.sums = (r.sound atten).sums ∧
      (q.closed = true ↔ 9 ≤ r.sounds) ∧ (9 ≤ r.sounds → q.winner = (idx 6).find? (r.sound atten).wins) ∧
      t = { s with cnt := t.cnt, veh := t.veh }) ∧
  (∀ (s : State) (r : SlacRun) (x : Nat), s.veh.slac = [r] → r.closed = false → r.startTb = some x → x + slacWindow ≤ s.clock.tb →
    ∃ t, exec .slacWindowClose s = .next t ∧ t.veh.slac = [{ r with closed := true, winner := (idx 6).find? r.wins }] ∧
      t = { s with cnt := t.cnt, veh := t.veh }) ∧
  (∀ (o : Output) (run : Bytes) (m : Fin 7) (s : State) (r : SlacRun), s.findRun run = some r → r.closed = true → r.winner = some o →
    r.wins o = true → s.modemFor o = some m → (s.plcSend o true).1 = true →
    ∃ t, exec (.cmSlacMatchReq o run) s = .next t ∧ (t.veh.modems[m]).matched = true ∧ (t.veh.modems[m]).inSlac = false ∧
      (t.veh.modems[m]).nmk.length = 16 ∧ t.findRun run = none ∧ (t.veh.ports[o]).result = 2 ∧ (t.veh.proto[o]).stage = 1 ∧
      t = { s with cnt := t.cnt, log := t.log, veh := t.veh, draws := t.draws }) ∧
  (∀ (o : Output) (run : Bytes) (n : Nat) (s : State) (r : SlacRun), s.veh.slac = [r] → r.runId = run → r.closed = true → r.winner = none →
    F.VEH_SLACCFG_VALIDATE.get r.cfg = 1 → r.within o = true →
    ∃ t v, exec (.cmValidate o run n) s = .next t ∧ t.veh.slac = [{ r with toggles := some v }] ∧ v[o] = n ∧
      t = { s with cnt := t.cnt, veh := t.veh }) ∧
  (∀ (o : Output) (s : State), s.plcOn o = true → s.linkUp o = false → (s.so o).state ≠ .lock →
    ∃ t, exec (.slacFailed o) s = .next t ∧ s.Stops t o 6 ∧
      (t.veh.ports[o]).result = (if (s.veh.ports[o]).result ≤ 1 then 6 else (s.veh.ports[o]).result) ∧
      t = { s with keys := t.keys, host := t.host, cnt := t.cnt, log := t.log, bil := t.bil, seqr := t.seqr, veh := t.veh })

/-- A 10BASE-T1S port is disabled 1 s after its vehicle has left, and a drop of its link ends the session. SDP is answered while the damper
lets a frame out. A TLS handshake with an offered suite and a valid chain whose key may sign gives both record slots a new key and is
answered; any other is answered with an alert and ends the link. The application protocol is the first of ORDER that may be used. -/
def Obligations.NetworkAndTls : Prop :=
  (∀ (n : DcNo) (s : State), (s.veh.t1s[n]).enabled = true → (s.veh.pilots[n.1]'(by omega)).state = 0 →
    (s.veh.pilots[n.1]'(by omega)).tb + tbSecond ≤ s.clock.tb →
    ∃ t, exec (.t1sDisable n) s = .next t ∧ t.veh.t1s[n] = { s.veh.t1s[n] with enabled := false, link := false, lost := false } ∧
      t = { s with veh := { s.veh with t1s := t.veh.t1s } }) ∧
  (∀ (n : DcNo) (s : State), (s.veh.t1s[n]).enabled = true → (s.so ⟨n.1, by omega⟩).state ≠ .lock →
    ∃ t, exec (.t1sLinkDrop n) s = .next t ∧ (t.veh.t1s[n]).link = false ∧ (t.veh.t1s[n]).lost = true ∧
      s.Stops t ⟨n.1, by omega⟩ 6 ∧
      t = { s with keys := t.keys, host := t.host, cnt := t.cnt, log := t.log, bil := t.bil, seqr := t.seqr, veh := t.veh }) ∧
  (∀ (o : Output) (tls : Bool) (s : State), s.Linked o → (s.plcSend o true).1 = true →
    ∃ t, exec (.sdpRequest o tls) s = .next t ∧ t.answeredVeh o "SDPRes" false false ∧ (t.veh.proto[o]).stage = 2 ∧
      t = { s with keys := t.keys, cnt := t.cnt, veh := t.veh }) ∧
  (∀ (o : Output) (offers : WordList) (c : Nat) (s : State), s.Linked o →
    c = chooseProtocol (s.chainOk 3) ((s.takeUp .s (fun a => a == R.VEH_PROTOCFG.addr [])).useFld R.VEH_PROTOCFG F.VEH_PROTOCFG_ORDER [])
      (offers.map BitVec.toNat) (s.veh.proto[o]) →
    ∃ t, exec (.supportedAppProtocol o offers) s = .next t ∧ t.answeredVeh o "supportedAppProtocolRes" (c == 0) false ∧
      (t.veh.proto[o]).protocol = c ∧ t = { s with use := t.use, keys := t.keys, cnt := t.cnt, veh := t.veh }) ∧
  (∀ (o : Output) (h : TlsHello) (s : State), s.linkUp o = true → (s.so o).sid.isSome = true → (s.veh.proto[o]).tls = false →
    h.suiteOk = true → (if h.version13 then s.chain20 && (!h.client || h.clientOk) else s.chainOk 3) = true →
    (s.slot (Fin.ofNat 256 (s.fw.stores[s.tlsChain h.version13]).slot)).refusal engECDSA s.clock.tb = none →
    ∃ t, exec (.tlsHandshake o h) s = .next t ∧ t.answeredVeh o "TlsFinished" false false ∧ (t.veh.proto[o]).tls = true ∧
      (t.veh.proto[o]).tls13 = h.version13 ∧ (t.veh.proto[o]).clientCert = (h.version13 && h.client) ∧
      (∀ d, (t.slot (recordSlot o d)).gen = (s.slot (recordSlot o d)).gen + 1) ∧
      (t.slot (recordSlot o true)).state = .valid ∧ (t.slot (recordSlot o true)).key.length = (if h.version13 then 32 else 16) ∧
      t = { s with keys := t.keys, cnt := t.cnt, veh := t.veh, draws := t.draws }) ∧
  (∀ (o : Output) (h : TlsHello) (s : State), s.linkUp o = true → (s.so o).sid.isSome = true → (s.veh.proto[o]).tls = false →
    ((h.suiteOk && (if h.version13 then s.chain20 && (!h.client || h.clientOk) else s.chainOk 3)) = false ∨
      (s.slot (Fin.ofNat 256 (s.fw.stores[s.tlsChain h.version13]).slot)).refusal engECDSA s.clock.tb ≠ none) → (s.so o).state ≠ .lock →
    ∃ t, exec (.tlsHandshake o h) s = .next t ∧ t.answeredVeh o "TlsAlert" true false ∧ (t.veh.proto[o]).tls = false ∧ s.Stops t o 6 ∧
      t = { s with keys := t.keys, host := t.host, cnt := t.cnt, log := t.log, bil := t.bil, seqr := t.seqr, veh := t.veh })

/-- In a session with a reachable vehicle every message of the charging sequence is taken and answered, with what it says kept for the
sequencer: the limits, the targets, the cable-check request, the service. PowerDelivery starts a ready DC output; SessionStop stops the
output with cause 1, and a missing message with cause 15. Certificate requests go to P2 as relayed requests. -/
def Obligations.VehicleMessages : Prop :=
  (∀ (o : Output) (id : Bytes) (s : State), s.Linked o →
    ∃ t, exec (.sessionSetup o id) s = .next t ∧ t.answeredVeh o "SessionSetupRes" false false ∧ (t.veh.proto[o]).stage = 4 ∧
      t = { s with keys := t.keys, host := t.host, cnt := t.cnt, veh := t.veh }) ∧
  (∀ (o : Output) (service : Nat) (s : State), s.Linked o →
    ∃ t, exec (.serviceDiscovery o service) s = .next t ∧
      (service = 0 → t.answeredVeh o "ServiceDiscoveryRes" false false) ∧
      (service ≠ 0 → t.answeredVeh o "ServiceSelectionRes" (!offered (s.outRec o).kind (s.veh.proto[o]).protocol service) false) ∧
      (service ≠ 0 → offered (s.outRec o).kind (s.veh.proto[o]).protocol service = true → (t.veh.proto[o]).service = service) ∧
      t = { s with keys := t.keys, cnt := t.cnt, veh := t.veh }) ∧
  (∀ (o : Output) (update : Bool) (exi : Bytes) (s : State), s.Linked o → exi.length ≤ exiMax →
    ((s.veh.proto[o]).protocol = 2 ∨ ((s.veh.proto[o]).protocol = 3 ∧ update = false)) →
    ∃ t, exec (.certificateInstallation o update exi) s = .next t ∧ (t.veh.relay[o]).kind = (if update then 3 else 2) ∧
      (t.veh.relay[o]).seq = ((s.veh.relay[o]).seq + 1) % 65536 ∧ (t.veh.relay[o]).request = exi ∧
      (t.veh.relay[o]).deadline = some (s.clock.tb + s.deadlineTb) ∧
      t = { s with keys := t.keys, host := t.host, cnt := t.cnt, veh := t.veh }) ∧
  (∀ (o : Output) (vMax : Nat) (pMax : Int) (schedule : Bool) (s : State), s.Linked o →
    ∃ t, exec (.chargeParameterDiscovery o vMax pMax schedule) s = .next t ∧ t.answeredVeh o "ChargeParameterDiscoveryRes" false false ∧
      (t.so o).vMax = (if vMax = 0 then (s.so o).vMax else vMax) ∧
      (t.so o).pReq = (if (s.veh.proto[o]).service = 3 then pMax else max 0 pMax) ∧ (∀ p, p ≠ o → t.so p = s.so p) ∧
      t = { s with keys := t.keys, host := t.host, cnt := t.cnt, guard := t.guard, seqr := t.seqr, veh := t.veh }) ∧
  (∀ (o : Output) (s : State), s.Linked o →
    ∃ t, exec (.cableCheckRequest o) s = .next t ∧ (t.so o).cableReq = true ∧
      t.answeredVeh o "CableCheckRes" (!isDc o || decide (12 ≤ (t.so o).state.code)) (decide ((t.so o).state.code < 8)) ∧
      t = { s with keys := t.keys, cnt := t.cnt, guard := t.guard, seqr := t.seqr, veh := t.veh }) ∧
  (∀ (o : Output) (mv : Nat) (s : State), s.Linked o →
    ∃ t, exec (.prechargeRequest o mv) s = .next t ∧ t.so o = { s.so o with target := some mv } ∧
      t.answeredVeh o "PreChargeRes" (!isDc o || decide (12 ≤ (s.so o).state.code)) (decide ((s.so o).state.code < 9)) ∧
      t = { s with keys := t.keys, cnt := t.cnt, seqr := t.seqr, veh := t.veh }) ∧
  (∀ (o : Output) (start : Bool) (s : State), s.Linked o →
    ∃ t, exec (.powerDelivery o start) s = .next t ∧ t.answeredVeh o "PowerDeliveryRes" false false ∧
      (t.so o).state = (if start && isDc o && (s.so o).state == .ready then .charging else (s.so o).state) ∧
      t = { s with keys := t.keys, cnt := t.cnt, seqr := t.seqr, veh := t.veh }) ∧
  (∀ (o : Output) (target : Int) (volts : Nat) (power : Int) (s : State), s.Linked o →
    ∃ t r, exec (.chargeLoop o target volts power) s = .next t ∧ t.veh.resp[o] = some r ∧ r.msg = "ChargeLoopRes" ∧ r.failed = false ∧
      r.args = [(s.meterWh o : Int), s.outMv o] ∧ (t.so o).iTarget = (if (s.veh.proto[o]).service = 3 then target else max 0 target) ∧
      (t.so o).pReq = (if (s.veh.proto[o]).service = 3 then power else max 0 power) ∧ (t.so o).state = (s.so o).state ∧
      t = { s with keys := t.keys, cnt := t.cnt, seqr := t.seqr, veh := t.veh }) ∧
  (∀ (o : Output) (signed : Bytes) (s : State), s.Linked o →
    ∃ t, exec (.meteringReceipt o signed) s = .next t ∧
      t.answeredVeh o "MeteringReceiptRes" (!decide (signed.length ≤ exiMax ∧ 2 ≤ (s.veh.proto[o]).protocol)) false ∧
      (signed.length ≤ exiMax → 2 ≤ (s.veh.proto[o]).protocol → (t.veh.relay[o]).kind = 4 ∧ (t.veh.relay[o]).request = signed) ∧
      t = { s with keys := t.keys, host := t.host, cnt := t.cnt, veh := t.veh }) ∧
  (∀ (o : Output) (s : State), s.Linked o →
    ∃ t, exec (.weldingDetection o) s = .next t ∧ t.answeredVeh o "WeldingDetectionRes" (!isDc o) false ∧
      t = { s with keys := t.keys, cnt := t.cnt, veh := t.veh }) ∧
  (∀ (o : Output) (pause : Bool) (s : State), s.Linked o →
    ∃ t, exec (.sessionStop o pause) s = .next t ∧ t.answeredVeh o "SessionStopRes" false false ∧ s.Stops t o 1 ∧
      (t.so o).fiveUntil = none ∧
      t = { s with keys := t.keys, host := t.host, cnt := t.cnt, log := t.log, bil := t.bil, seqr := t.seqr, veh := t.veh }) ∧
  (∀ (o : Output) (s : State), s.linkUp o = true → (s.so o).sid.isSome = true →
    ∃ t, exec (.vehicleMessageTimeout o) s = .next t ∧ s.Stops t o 15 ∧
      t = { s with keys := t.keys, host := t.host, cnt := t.cnt, log := t.log, bil := t.bil, seqr := t.seqr, veh := t.veh })

/-- An identification with P2 open and no word of the list goes to P2 as a request with the deadline, and the session waits; with P2 away
and the identity on the list it is accepted; a contract whose chain fails is denied and stops the session. The deadline is a denial.
P2's matching decision accepts, denies, withdraws or answers; one that does not match changes nothing but STALE. An entry written with
OP 1 joins the local list in place of one of the same hash, unless 4,096 others are there, which is FULL and leaves the list; OP 2
removes it, OP 3 empties the list, and a salt written empties it too. -/
def Obligations.AuthorisationAndLocalList : Prop :=
  (∀ (o : Output) (id : Ident) (s : State), s.Linked o → (s.so o).ended = false → (s.so o).auth ≤ 1 → (s.veh.relay[o]).kind ≠ 1 →
    (if id.contract then s.fld R.VEH_AUTHCFG F.VEH_AUTHCFG_PNC [] == 1 && (s.veh.proto[o]).tls && decide (2 ≤ (s.veh.proto[o]).protocol)
      else s.fld R.VEH_AUTHCFG F.VEH_AUTHCFG_EIM [] == 1) = true →
    ∃ t, exec (.identification o id) s = .next t ∧
      ((!id.contract || id.chainOk) = true → s.p2Open = true → s.fld R.VEH_AUTHCFG F.VEH_AUTHCFG_LIST_FIRST [] = 0 →
        (t.so o).auth = 1 ∧ (t.so o).state = (s.so o).state ∧ (t.veh.relay[o]).kind = 1 ∧
        (t.veh.relay[o]).request = identBody id.type (id.identity.take 64) ∧
        (t.veh.relay[o]).deadline = some (s.clock.tb + s.deadlineTb) ∧ t.answeredVeh o "AuthorizationRes" false true) ∧
      ((!id.contract || id.chainOk) = true → s.p2Open = false → s.listLookup id.type (id.identity.take 64) = some true →
        (s.so o).stopped = false → (t.so o).auth = 2 ∧ t.answeredVeh o "AuthorizationRes" false false) ∧
      ((!id.contract || id.chainOk) = false → (s.so o).stopped = false →
        (t.so o).auth = 3 ∧ s.Stops t o 3 ∧ t.answeredVeh o "AuthorizationRes" true false)) ∧
  (∀ (o : Output) (x : Nat) (s : State), (s.veh.relay[o]).kind = 1 → (s.veh.relay[o]).deadline = some x → x ≤ s.clock.tb →
    (s.so o).sid.isSome = true → (s.so o).ended = false → (s.so o).stopped = false →
    ∃ t, exec (.authDeadline o) s = .next t ∧ (t.so o).auth = 3 ∧ (t.veh.relay[o]).kind = 0 ∧ (t.veh.relay[o]).deadline = none ∧
      s.Stops t o 3) ∧
  (∀ (sid : Sid) (o : Output) (v : W64) (h : Session) (s : State), s.Granted sid h R.VEH_DECIDEn [o.1] v → s.decisionMatches o v.toNat = true →
    F.VEH_DECIDEn_KIND.get v.toNat = 1 → (s.veh.relay[o]).kind = 1 → (s.so o).sid.isSome = true → (s.so o).ended = false →
    (s.so o).stopped = false → F.VEH_DECIDEn_OUTCOME.get v.toNat ≤ 1 →
    ∃ t, exec (.vehDecideAuthorisation sid o v) s = .next t ∧ s.Replies t sid h OK 1 [] ∧ (t.veh.relay[o]).kind = 0 ∧
      (F.VEH_DECIDEn_OUTCOME.get v.toNat = 1 → (t.so o).auth = 2) ∧
      (F.VEH_DECIDEn_OUTCOME.get v.toNat = 0 → (t.so o).auth = 3 ∧ s.Stops t o 3)) ∧
  (∀ (sid : Sid) (o : Output) (v : W64) (h : Session) (s : State), s.Granted sid h R.VEH_DECIDEn [o.1] v → F.VEH_DECIDEn_KIND.get v.toNat = 1 →
    F.VEH_DECIDEn_OUTCOME.get v.toNat = 2 → (s.so o).sid.isSome = true → F.VEH_DECIDEn_SID.get v.toNat = (s.so o).sidNat →
    (s.so o).ended = false → (s.so o).auth = 2 → (s.so o).stopped = false →
    ∃ t, exec (.vehDecideWithdraw sid o v) s = .next t ∧ s.Replies t sid h OK 1 [] ∧ (t.so o).auth = 3 ∧ s.Stops t o 4) ∧
  (∀ (sid : Sid) (o : Output) (v : W64) (h : Session) (s : State), s.Granted sid h R.VEH_DECIDEn [o.1] v → s.decisionMatches o v.toNat = true →
    F.VEH_DECIDEn_KIND.get v.toNat = 2 → 2 ≤ (s.veh.relay[o]).kind →
    ∃ t, exec (.vehDecideRelayResponse sid o v) s = .next t ∧ s.Replies t sid h OK 1 [] ∧ (t.veh.relay[o]).kind = 0 ∧
      ((s.veh.relay[o]).kind = 4 → t.veh.resp = s.veh.resp ∧ s.HostKept t sid h ∧
        t = { s with veh := t.veh, host := t.host, keys := t.keys, cnt := t.cnt, log := t.log, pwr := { s.pwr with idleTb := s.clock.tb } })) ∧
  (∀ (c : Instr) (sid : Sid) (o : Output) (v : W64) (h : Session) (s : State), s.Granted sid h R.VEH_DECIDEn [o.1] v →
    c ∈ [.vehDecideAuthorisation sid o v, .vehDecideWithdraw sid o v, .vehDecideRelayResponse sid o v] →
    ((s.decisionMatches o v.toNat = false ∧ ¬(F.VEH_DECIDEn_KIND.get v.toNat = 1 ∧ F.VEH_DECIDEn_OUTCOME.get v.toNat = 2)) ∨
      (F.VEH_DECIDEn_KIND.get v.toNat = 1 ∧ F.VEH_DECIDEn_OUTCOME.get v.toNat = 2 ∧
        ((s.so o).sid = none ∨ F.VEH_DECIDEn_SID.get v.toNat ≠ (s.so o).sidNat))) →
    ∃ t, exec c s = .next t ∧ s.Replies t sid h OK 1 [] ∧ s.HostKept t sid h ∧
      t.kept R.VEH_RELAYn [o.1] &&& F.VEH_RELAYn_STALE.mask = F.VEH_RELAYn_STALE.mask ∧
      t = { s with sticky := t.sticky, host := t.host, keys := t.keys, cnt := t.cnt, log := t.log, pwr := { s.pwr with idleTb := s.clock.tb } }) ∧
  (∀ (sid : Sid) (w0 w1 v : W64) (h : Session) (s : State) (k : Nat), s.Granted sid h R.VEH_LISTWk [2] v →
    s.mayWriteAt sid h R.VEH_LISTWk [0] w0.toNat = true → s.mayWriteAt sid h R.VEH_LISTWk [1] w1.toNat = true →
    F.VEH_LISTWk_OP.get v.toNat = 1 → k = w0.toNat + w1.toNat * 2 ^ 64 → (s.veh.list.filter (fun e => e.hash != k)).length < 4096 →
    ∃ t, exec (.listAdd sid w0 w1 v) s = .next t ∧ s.Replies t sid h OK 3 [] ∧ s.HostStored t sid h ∧
      t.veh = { s.veh with list := s.veh.list.filter (fun e => e.hash != k) ++
        [{ hash := k, blocked := F.VEH_LISTWk_BLOCKED.get v.toNat == 1, expiry := F.VEH_LISTWk_EXPIRY.get v.toNat }] } ∧
      t = { s with regs := t.regs, veh := t.veh, host := t.host, keys := t.keys, cnt := t.cnt, log := t.log, pwr := { s.pwr with idleTb := s.clock.tb } }) ∧
  (∀ (sid : Sid) (w0 w1 v : W64) (h : Session) (s : State), s.Granted sid h R.VEH_LISTWk [2] v →
    s.mayWriteAt sid h R.VEH_LISTWk [0] w0.toNat = true → s.mayWriteAt sid h R.VEH_LISTWk [1] w1.toNat = true →
    F.VEH_LISTWk_OP.get v.toNat = 1 → 4096 ≤ (s.veh.list.filter (fun e => e.hash != w0.toNat + w1.toNat * 2 ^ 64)).length →
    ∃ t, exec (.listAdd sid w0 w1 v) s = .next t ∧ s.Replies t sid h FULL 2 [] ∧ s.HostKept t sid h ∧
      t = { s with regs := t.regs, host := t.host, keys := t.keys, cnt := t.cnt, log := t.log, pwr := { s.pwr with idleTb := s.clock.tb } }) ∧
  (∀ (sid : Sid) (w0 w1 v : W64) (h : Session) (s : State), s.Granted sid h R.VEH_LISTWk [2] v →
    s.mayWriteAt sid h R.VEH_LISTWk [0] w0.toNat = true → s.mayWriteAt sid h R.VEH_LISTWk [1] w1.toNat = true →
    F.VEH_LISTWk_OP.get v.toNat = 2 →
    ∃ t, exec (.listRemove sid w0 w1 v) s = .next t ∧ s.Replies t sid h OK 3 [] ∧ s.HostStored t sid h ∧
      t.veh = { s.veh with list := s.veh.list.filter (fun e => e.hash != w0.toNat + w1.toNat * 2 ^ 64) } ∧
      t = { s with regs := t.regs, veh := t.veh, host := t.host, keys := t.keys, cnt := t.cnt, log := t.log, pwr := { s.pwr with idleTb := s.clock.tb } }) ∧
  (∀ (sid : Sid) (v : W64) (h : Session) (s : State), s.Granted sid h R.VEH_LISTWk [2] v → F.VEH_LISTWk_OP.get v.toNat = 3 →
    ∃ t, exec (.listClear sid v) s = .next t ∧ s.Replies t sid h OK 1 [] ∧ s.HostStored t sid h ∧
      t = { s with veh := { s.veh with list := [] }, host := t.host, keys := t.keys, cnt := t.cnt, log := t.log, pwr := { s.pwr with idleTb := s.clock.tb } }) ∧
  (∀ (sid : Sid) (hi : Bool) (v : W64) (h : Session) (s : State), s.Granted sid h R.VEH_LIST_SALTk [b2n hi] v →
    ∃ t, exec (.listSaltWrite sid hi v) s = .next t ∧ s.Replies t sid h OK 1 [] ∧ s.HostStored t sid h ∧
      t.reg R.VEH_LIST_SALTk [b2n hi] = v.toNat ∧
      t = { s with regs := t.regs, veh := { s.veh with list := [] }, host := t.host, keys := t.keys, cnt := t.cnt, log := t.log, pwr := { s.pwr with idleTb := s.clock.tb } })

/-! ### The session sequencer and power allocation (chapter 10) -/

/-- The sequencer's timers: a lock that takes 2 s and a rollback that takes 1 s are FAULT; a speculative hold of 60 s goes to ROLLBACK with
its check discarded and its SID kept; 240 s without an outcome is a denial with cause 5; STOPPING goes on to WELDCHECK with the request
withdrawn; an AC pause of 60 s and a thermal cap of 0 for 30 s stop the output; degraded mode stops every output that charges. When the
Hearth resumes, the sequencer goes on where it was, and what it missed is seen: a fall of HV_EN on an energised output is FAULT with its
cause. SEQ_CMD acts on each output that it names and on no other: a stop with cause 2, an unlock that drives the release of an output in
WAIT_UNPLUG, a clear that ends a latch of reason 2 or 5 whose cause has gone and no other latch, a block that keeps the output out of
service, and its end. A mesh share that was to rise takes effect when its time has come, and without claims the share falls back to an
equal part of the site limit. -/
def Obligations.SequencerTimersAndCommands : Prop :=
  (∀ (o : Output) (s : State), (s.so o).state = .lock → s.inStateUs o 2000000 = true →
    ∃ t, exec (.lockTimeout o) s = .next t ∧ (t.so o).state = .fault ∧ (t.go o).request = false ∧ (t.veh.pilots[o]).drive = .minus12 ∧
      ((s.so o).stopped = false → (t.so o).cause = (if (s.veh.pp[o]).1 = 0 ∨ (s.veh.pp[o]).1 = 7 then 7 else 17)) ∧
      (∀ p, p ≠ o → t.so p = s.so p)) ∧
  (∀ (o : Output) (s : State), (s.so o).state = .rollback → s.inStateUs o 1000000 = true →
    ∃ t, exec (.rollbackTimeout o) s = .next t ∧ (t.so o).state = .fault ∧ (t.go o).request = false ∧ (t.so o).needClear = true ∧
      ((s.so o).stopped = false → (t.so o).cause = 16) ∧ (∀ p, p ≠ o → t.so p = s.so p)) ∧
  (∀ (o : Output) (s : State), (s.so o).state = .specReady → s.inStateUs o 60000000 = true →
    ∃ t, exec (.specHoldTimeout o) s = .next t ∧
      t.so o = { s.so o with holdUsed := true, verdictV := none, toLink := true, state := .rollback, enterTb := s.clock.tb } ∧
      (∀ p, p ≠ o → t.so p = s.so p) ∧ t = { s with seqr := t.seqr, veh := t.veh }) ∧
  (∀ (o : Output) (x : Nat) (s : State), (s.so o).startTb = some x → x + 240 * tbSecond ≤ s.clock.tb → (s.so o).auth ≤ 1 →
    (s.so o).stopped = false → (s.so o).ended = false → (s.so o).sid.isSome = true →
    ∃ t, exec (.noOutcomeTimeout o) s = .next t ∧ (t.so o).auth = 3 ∧ s.Stops t o 5 ∧
      t = { s with keys := t.keys, host := t.host, cnt := t.cnt, log := t.log, bil := t.bil, seqr := t.seqr, veh := t.veh }) ∧
  (∀ (o : Output) (s : State), isDc o = true → (s.so o).state = .charging → (∃ x, (s.so o).zeroAllocTb = some x ∧ x + tbSecond ≤ s.clock.tb) →
    ∃ t, exec (.allocationZeroPause o) s = .next t ∧ t.so o = { s.so o with state := .paused, enterTb := s.clock.tb } ∧
      t = { s with seqr := t.seqr, veh := t.veh }) ∧
  (∀ (o : Output) (s : State), isDc o = false → (s.so o).state = .paused → (s.veh.pilots[o]).state = 1 →
    max (s.veh.pilots[o]).tb (s.so o).enterTb + 60 * tbSecond ≤ s.clock.tb →
    ∃ t, exec (.acPauseLimit o) s = .next t ∧ (t.so o).state = .stopping ∧ s.Stops t o 1) ∧
  (∀ (c : Instr) (o : Output) (s : State), (s.so o).state = .stopping →
    ((c = .stoppingTimeout o ∧ isDc o = true ∧ s.inStateUs o 1000000 = true) ∨
     (c = .acStopTimeout o ∧ isDc o = false ∧ s.inStateUs o 3000000 = true) ∨
     (∃ ma : Int, c = .stopCurrentLow o ma ∧ isDc o = true ∧ ma.natAbs < 5000)) →
    ∃ t, exec c s = .next t ∧ (t.so o).state = .weldcheck ∧ (t.go o).request = false ∧ (t.go o).gate = false ∧
      ((s.so o).sid.isSome = true → (t.so o).ended = true) ∧ (∀ p, p ≠ o → t.so p = s.so p)) ∧
  (∀ (o : Output) (x : Nat) (s : State), (s.so o).fiveUntil = some x → x ≤ s.clock.tb →
    ∃ t, exec (.pilot5pctEnd o) s = .next t ∧ t.so o = { s.so o with fiveUntil := none } ∧ (t.veh.pilots[o]).drive = .steady ∧
      t = { s with seqr := t.seqr, veh := t.veh }) ∧
  (∀ (o : Output) (x : Nat) (s : State), (s.so o).zeroCapTb = some x → x + 30 * tbSecond ≤ s.clock.tb → s.sharing o = true →
    ∃ t, exec (.thermalStop o) s = .next t ∧ (t.so o).state = .stopping ∧ s.Stops t o 11) ∧
  (∀ (o : Output) (x : Nat) (s : State), (s.so o).postRun = some x → x ≤ s.clock.tb → (s.so o).state.energised = false →
    ∃ t, exec (.pumpPostRunEnd o) s = .next t ∧ t.so o = { s.so o with postRun := none } ∧
      (∀ p, p ≠ o → t.so p = s.so p) ∧ t = { s with regs := t.regs, seqr := t.seqr, lsw := t.lsw }) ∧
  (∀ (x : Nat) (s : State), s.guard.degraded = some x → x + 5280 * tbSecond ≤ s.clock.tb →
    ∃ t, exec .degradedStop s = .next t ∧
      (∀ o, (7 ≤ (s.so o).state.code ∧ (s.so o).state.code ≤ 11 → (t.so o).state = .stopping) ∧
        (¬(7 ≤ (s.so o).state.code ∧ (s.so o).state.code ≤ 11) → t.so o = s.so o)) ∧
      t = { s with keys := t.keys, host := t.host, cnt := t.cnt, log := t.log, bil := t.bil, seqr := t.seqr, veh := t.veh }) ∧
  (∀ s : State, s.seqr.suspended = true →
    ∃ t, exec .hearthResume s = .next t ∧ t.seqr.suspended = false ∧ t.hearth = { s.hearth with running := true, busyUntil := s.clock.tb } ∧
      (∀ o : Output, (s.so o).fell = none → (s.so o).missed = false → t.so o = s.so o) ∧
      (∀ (o : Output) (c : Nat), (s.so o).fell = some c → (s.so o).state.energised = true →
        (t.so o).state = .fault ∧ (t.go o).request = false ∧ ((s.so o).stopped = false → (t.so o).cause = c)) ∧
      ((∀ o : Output, (s.so o).fell = none ∧ (s.so o).missed = false) →
        t = { s with hearth := t.hearth, seqr := { s.seqr with suspended := false }, lsw := t.lsw }) ∧
      t = { s with use := t.use, hearth := t.hearth, keys := t.keys, host := t.host, cnt := t.cnt, log := t.log, sens := t.sens, bil := t.bil,
                   guard := t.guard, seqr := t.seqr, veh := t.veh, lsw := t.lsw, draws := t.draws }) ∧
  (∀ (sid : Sid) (v w : W64) (h : Session) (s : State), w = F.SEQ_CMD_OP.put v 1 → s.Granted sid h R.SEQ_CMD [] w →
    ∃ t, exec (.seqStop sid v) s = .next t ∧ s.Replies t sid h OK 1 [] ∧
      (∀ o : Fin 6, (t.so o).state = (if bitOf (F.SEQ_CMD_OUTPUTS.get w.toNat) o.1 then (s.so o).state.stop else (s.so o).state)) ∧
      (∀ o : Fin 6, bitOf (F.SEQ_CMD_OUTPUTS.get w.toNat) o.1 = false → t.so o = s.so o) ∧
      (∀ o : Fin 6, bitOf (F.SEQ_CMD_OUTPUTS.get w.toNat) o.1 = true → (s.so o).state.stop ≠ (s.so o).state →
        (s.so o).stopped = false → (t.so o).cause = 2) ∧
      t = { s with bil := t.bil, seqr := t.seqr, veh := t.veh, host := t.host, keys := t.keys, cnt := t.cnt, log := t.log, pwr := { s.pwr with idleTb := s.clock.tb } }) ∧
  (∀ (sid : Sid) (v w : W64) (h : Session) (s : State), w = F.SEQ_CMD_OP.put v 2 → s.Granted sid h R.SEQ_CMD [] w →
    ∃ t, exec (.seqUnlock sid v) s = .next t ∧ s.Replies t sid h OK 1 [] ∧ s.HostKept t sid h ∧
      (∀ (o : Fin 6) (n : Fin 24), F.SEQ_CMD_OUTPUTS.get w.toNat = 2 ^ o.1 → (s.so o).state = .waitUnplug → s.lockLs o = some n →
        (t.lsw.chans[Fin.ofNat 24 (n.1 + 1)]).driven = true ∧ (t.lsw.chans[Fin.ofNat 24 (n.1 + 1)]).lock = 1 ∧
        (t.lsw.chans[Fin.ofNat 24 (n.1 + 1)]).lockTb = s.clock.tb ∧ (t.lsw.chans[n]).driven = false) ∧
      ((∀ o : Fin 6, bitOf (F.SEQ_CMD_OUTPUTS.get w.toNat) o.1 = true → (s.so o).state ≠ .waitUnplug) → t.lsw = s.lsw) ∧
      t = { s with lsw := t.lsw, host := t.host, keys := t.keys, cnt := t.cnt, log := t.log, pwr := { s.pwr with idleTb := s.clock.tb } }) ∧
  (∀ (sid : Sid) (v w : W64) (h : Session) (o : Fin 6) (s : State), w = F.SEQ_CMD_OP.put v 3 → s.Granted sid h R.SEQ_CMD [] w →
    F.SEQ_CMD_OUTPUTS.get w.toNat = 2 ^ o.1 →
    ∃ t, exec (.seqClear sid v) s = .next t ∧ s.Replies t sid h OK 1 [] ∧
      ((s.go o).latch = none → (t.so o).needClear = false) ∧
      ((s.go o).latch = some 5 → s.mirrorsOpen o = true → (t.go o).latch = none ∧ (t.go o).welded = false ∧ (t.so o).needClear = false) ∧
      ((s.go o).latch = some 2 → (∀ l ∈ s.linesOf o, (s.grate.lines[l.1]?).getD false = false) → s.below60 o = true →
        (t.go o).latch = none ∧ (t.so o).needClear = false) ∧
      ((s.go o).latch = some 3 ∨ (s.go o).latch = some 4 ∨ ((s.go o).latch = some 5 ∧ s.mirrorsOpen o = false) → s.PathOnly t sid h)) ∧
  (∀ (sid : Sid) (v w : W64) (h : Session) (s : State), w = F.SEQ_CMD_OP.put v 4 → s.Granted sid h R.SEQ_CMD [] w →
    ∃ t, exec (.seqBlock sid v) s = .next t ∧ s.Replies t sid h OK 1 [] ∧
      (∀ o : Fin 6, bitOf (F.SEQ_CMD_OUTPUTS.get w.toNat) o.1 = true → (t.so o).blocked = true ∧
        ((s.so o).state = .idle ∨ (s.so o).state = .unavailable → (t.so o).state = .unavailable ∧ (t.so o).cause = 18)) ∧
      (∀ o : Fin 6, bitOf (F.SEQ_CMD_OUTPUTS.get w.toNat) o.1 = false → t.so o = s.so o)) ∧
  (∀ (sid : Sid) (v w : W64) (h : Session) (s : State), w = F.SEQ_CMD_OP.put v 5 → s.Granted sid h R.SEQ_CMD [] w →
    ∃ t, exec (.seqUnblock sid v) s = .next t ∧ s.Replies t sid h OK 1 [] ∧
      (∀ o : Fin 6, bitOf (F.SEQ_CMD_OUTPUTS.get w.toNat) o.1 = true → (t.so o).blocked = false) ∧
      (∀ o : Fin 6, bitOf (F.SEQ_CMD_OUTPUTS.get w.toNat) o.1 = false → t.so o = s.so o)) ∧
  (∀ (s : State) (x : Int) (w : Nat) (r : List (Int × Nat)), s.seqr.raise = (x, w) :: r → w ≤ s.clock.tb →
    exec .meshShareRaise s = .next { s with seqr := { s.seqr with share := x, raise := r } }) ∧
  (∀ s : State, s.fld R.SEQ_GUARD_CFG F.SEQ_GUARD_CFG_SHARE [] = 1 → s.claimers = [] →
    ∃ t, exec .meshFallback s = .next t ∧ t.seqr.fallback = true ∧
      t.seqr.share = (s.fld R.SEQ_SITE_LIMIT F.SEQ_SITE_LIMIT_POWER [] / max 1 s.seqr.nodesMax : Nat) ∧ t.seqr.raise = [] ∧
      t.seqr.outs = s.seqr.outs ∧ t = { s with seqr := t.seqr })

/-- A voltage within 10 V of the hint or the target takes speculation to SPEC_READY and PRECHARGE to READY. Below 60 V FAULT goes to UNLOCK,
or at once to WAIT_UNPLUG without a lock, ROLLBACK withdraws the request and does the same, and a ROLLBACK of a hold timeout returns to
LINK; in any other state the pilot leaves the F of a safe-off. A vehicle that has left WAIT_UNPLUG for 100 ms gives its SID back. A
cabinet's status frame with a good check sum and a newer sequence number is taken as it stands; one with a bad check sum only counts. A
cabinet that is silent on both networks for 50 ms, in fault, or late to start is lost: every energised output that it serves is FAULT
with cause 10. A setpoint period sends one frame for each DC output present; while the sequencer is suspended it sends the last frames
again and does nothing else. -/
def Obligations.VoltageUnpluggingAndCabinets : Prop :=
  (∀ (o : Output) (mv x : Nat) (s : State), (s.so o).state = .precharge → (s.so o).target = some x → (diffInt mv x).natAbs ≤ 10000 →
    ∃ t, exec (.outputVoltageReached o mv) s = .next t ∧ t.so o = { s.so o with state := .ready, enterTb := s.clock.tb } ∧
      t = { s with seqr := t.seqr, veh := t.veh }) ∧
  (∀ (o : Output) (mv : Nat) (s : State), (s.so o).state = .specPrecharge →
    (diffInt mv (1000 * s.useFld R.SEQ_CFGn F.SEQ_CFGn_PRECHARGE_HINT [o.1])).natAbs ≤ 10000 →
    ∃ t, exec (.outputVoltageReached o mv) s = .next t ∧ t.so o = { s.so o with state := .specReady, enterTb := s.clock.tb } ∧
      t = { s with seqr := t.seqr, veh := t.veh }) ∧
  (∀ (o : Output) (mv : Nat) (s : State), mv < 60000 → ((s.so o).state = .fault ∨ ((s.so o).state = .rollback ∧ (s.so o).toLink = false)) →
    ∃ t, exec (.outputBelow60v o mv) s = .next t ∧
      (t.so o).state = (if (s.lockLs o).isSome then .unlock else .waitUnplug) ∧
      ((s.so o).state = .rollback → (t.go o).request = false ∧ (t.go o).gate = false) ∧ (t.so o).sid = (s.so o).sid ∧
      (∀ p, p ≠ o → t.so p = s.so p)) ∧
  (∀ (o : Output) (mv : Nat) (s : State), mv < 60000 → (s.so o).state = .rollback → (s.so o).toLink = true → (s.so o).auth ≤ 1 →
    (s.so o).holdUsed = true →
    ∃ t, exec (.outputBelow60v o mv) s = .next t ∧ (t.so o).state = .link ∧ (t.so o).sid = (s.so o).sid ∧ (t.go o).request = false ∧
      (∀ p, p ≠ o → t.so p = s.so p)) ∧
  (∀ (o : Output) (mv : Nat) (s : State), mv < 60000 → (s.so o).state ≠ .rollback → (s.so o).state ≠ .fault →
    (s.veh.pilots[o]).drive = .minus12 →
    ∃ t, exec (.outputBelow60v o mv) s = .next t ∧ (t.veh.pilots[o]).drive = s.pilotOf o (s.so o).state ∧
      t = { s with veh := { s.veh with pilots := t.veh.pilots } }) ∧
  (∀ (o : Output) (i : Fin 64) (s : State), (s.so o).state = .waitUnplug → s.pilotALong o = true → (s.so o).sid = some i →
    s.sidUse i ≠ .free →
    ∃ t, exec (.waitUnplugDone o) s = .next t ∧ ((t.so o).state = .idle ∨ (t.so o).state = .unavailable) ∧ (t.so o).sid = none ∧
      (t.so o).maskKey = [] ∧ t.sidUse i = .free ∧ t.host.freeSids = s.host.freeSids ++ [i] ∧ (∀ p, p ≠ o → t.so p = s.so p)) ∧
  (∀ (k : CabNo) (netB : Bool) (fr : Bytes) (s : State) (f : Nat → Nat → Nat), (f = fun off n => ofLE ((fr.drop off).take n)) →
    fr.length = 32 → f 28 4 = crc32c (fr.take 28) →
    ((s.seqr.cabs[k]).seq = none ∨ ∃ l, (s.seqr.cabs[k]).seq = some l ∧ 1 ≤ (f 0 4 + 2 ^ 32 - l) % 2 ^ 32 ∧ (f 0 4 + 2 ^ 32 - l) % 2 ^ 32 ≤ 2 ^ 31) →
    ∃ t, exec (.cabinetStatusFrame k netB fr) s = .next t ∧ (t.seqr.cabs[k]).seq = some (f 0 4) ∧ (t.seqr.cabs[k]).state = f 9 1 ∧
      (t.seqr.cabs[k]).vMeas = f 12 4 ∧ (t.seqr.cabs[k]).iMeas = signed 32 (f 16 4) ∧ (t.seqr.cabs[k]).pAvail = f 20 4 ∧
      (t.seqr.cabs[k]).temp = signed 16 (f 24 2) ∧ (if netB then (t.seqr.cabs[k]).bTb else (t.seqr.cabs[k]).aTb) = some s.clock.tb ∧
      (2 ≤ f 9 1 → f 9 1 ≤ 4 → (t.seqr.cabs[k]).lost = false) ∧ (∀ c, c ≠ k → t.seqr.cabs[c] = s.seqr.cabs[c]) ∧ t.seqr.outs = s.seqr.outs ∧
      t = { s with cnt := t.cnt, seqr := t.seqr }) ∧
  (∀ (k : CabNo) (netB : Bool) (fr : Bytes) (s : State), ofLE ((fr.drop 28).take 4) ≠ crc32c (fr.take 28) →
    ∃ t, exec (.cabinetStatusFrame k netB fr) s = .next t ∧ t.cnt.count[(20 : Fin 24)] = (s.cnt.count[(20 : Fin 24)] + 1) % 2 ^ 48 ∧
      t = { s with cnt := t.cnt }) ∧
  (∀ (c : Instr) (k : CabNo) (s : State), (s.seqr.cabs[k]).lost = false →
    ((c = .cabinetLost k ∧ ((onWithin (s.seqr.cabs[k]).aTb s.clock.tb = false ∧ onWithin (s.seqr.cabs[k]).bTb s.clock.tb = false) ∨
        (s.seqr.cabs[k]).state = 5)) ∨
     (c = .cabinetStartTimeout k ∧ ∃ x, (s.seqr.cabs[k]).activeTb = some x ∧ x + 5 * tbSecond ≤ s.clock.tb)) →
    ∃ t, exec c s = .next t ∧ (t.seqr.cabs[k]).lost = true ∧ (t.seqr.cabs[k]).losses = min 65535 ((s.seqr.cabs[k]).losses + 1) ∧
      (∀ o, o ∈ s.servedBy k → (s.so o).state.energised = true →
        (t.so o).state = .fault ∧ (t.go o).request = false ∧ ((s.so o).stopped = false → (t.so o).cause = 10)) ∧
      (∀ o, o ∉ s.servedBy k → t.so o = s.so o)) ∧
  (∀ s : State, ∃ t, exec .setpointPeriod s = .next t ∧
    (s.seqr.suspended = false → t.seqr.frames.length = ((idx 6).filter (fun o => isDc o && s.has o)).length) ∧
    (s.seqr.suspended = true → t.seqr.frames.map (·.1) = s.seqr.frames.map (fun x => x.1) ∧ t.seqr.outs = s.seqr.outs ∧ t = { s with cnt := t.cnt, seqr := t.seqr }) ∧
    t = { s with regs := t.regs, use := t.use, keys := t.keys, host := t.host, cnt := t.cnt, log := t.log, sens := t.sens, bil := t.bil, guard := t.guard,
                 seqr := t.seqr, veh := t.veh, lsw := t.lsw, draws := t.draws })

/-- The division of a budget gives no party more than it asks for, nobody a negative amount, and all together no more than the budget. -/
def Obligations.DivisionStaysInTheBudget : Prop :=
  ∀ (l : List Claimant) (b : Int), 0 ≤ b → (∀ c ∈ l, 0 ≤ c.d ∧ 0 ≤ c.floor ∧ c.a = 0) →
    (waterFill l b).length = l.length ∧ (∀ c ∈ waterFill l b, 0 ≤ c.a ∧ c.a ≤ c.d) ∧ ((waterFill l b).map (·.a)).sum ≤ b ∧
    (waterFill l b).map (fun c => (c.key, c.d)) = l.map (fun c => (c.key, c.d))

/-! ### The Fireguard, protection and the safety networks (chapter 11) -/

/-- With some HV_EN raised, a lost lane, a clock fault, an expired hold and a Fireguard reset start safe-off on every output with their
trigger; the lane is good again after its run of frames; a missing heartbeat only starts the hold, and its return ends it. With no HV_EN
raised a Fireguard reset takes place at once. -/
def Obligations.FireguardFaults : Prop :=
  (∀ s : State, s.guard.laneOk = true → s.guard.laneTb + 25000 ≤ s.clock.tb →
    ∃ t, exec .laneLost s = .next t ∧ t.guard.laneOk = false ∧ (s.anyHv = true → s.SafeOffOn t 5 0x3F) ∧
      (s.anyHv = false → t = { s with guard := t.guard } ∧ t.guard.outs = s.guard.outs)) ∧
  (∀ s : State, s.guard.laneOk = false → 48000 ≤ s.guard.laneRun →
    ∃ t, exec .laneGood s = .next t ∧ t.guard.laneOk = true ∧ t.guard.outs = s.guard.outs ∧ t = { s with guard := t.guard }) ∧
  (∀ s : State, s.guard.clockOk = true → s.anyHv = true ∨ s.guard.safe = none →
    ∃ t, exec .clockFault s = .next t ∧ t.guard.clockOk = false ∧ (s.anyHv = true → s.SafeOffOn t 4 0x3F)) ∧
  (∀ s : State, s.guard.hold = none →
    ∃ t, exec .heartbeatMissing s = .next t ∧ t.guard.hold = some s.clock.tb ∧ t.guard.outs = s.guard.outs ∧ t = { s with guard := t.guard }) ∧
  (∀ s : State, s.guard.hold.isSome = true → s.guard.holdExpired = false →
    ∃ t, exec .holdEnd s = .next t ∧ t.guard.hold = none ∧ t.guard.outs = s.guard.outs ∧ t = { s with guard := t.guard }) ∧
  (∀ (x : Nat) (s : State), s.guard.hold = some x → x + 7500000 ≤ s.clock.tb → s.guard.holdExpired = false →
    s.anyHv = true ∨ s.guard.safe = none →
    ∃ t, exec .holdExpire s = .next t ∧ t.guard.holdExpired = true ∧ (s.anyHv = true → s.SafeOffOn t 3 0x3F)) ∧
  (∀ (c : FgCause) (s : State), s.guard.safe = none →
    ∃ t, exec (.fireguardReset c) s = .next t ∧
      (s.anyHv = true → s.SafeOffOn t 2 0x3F ∧ ∃ x, t.guard.safe = some x ∧ x.thenReset = some (fgCauseCode c)) ∧
      (s.anyHv = false → t.guard.lastReset = fgCauseCode c ∧ t.guard.resets = min 65535 (s.guard.resets + 1) ∧ t.guard.laneOk = false ∧
        ∀ o, t.raised o = false) ∧
      (c = .image → t.guard.tested = false ∧ t.guard.demand = 2))

/-- HV_EN of a present output rises only when every condition holds, and its gate closes with it only where a request waits that did not
stand when HV_EN last fell; otherwise it stays low, its gate stays, and its REASON is the first condition that fails. -/
def Obligations.HvEnRisesOnlyWhenAllHolds : Prop :=
  ∀ (o : Output) (s : State), (s.go o).hv = false → s.has o = true →
    ∃ t, exec (.hvEnRaise o) s = .next t ∧ (t.go o).hv = (s.hvFail o).isNone ∧ (∀ r, s.hvFail o = some r → (t.go o).reason = r) ∧
      (s.hvFail o = none → (t.go o).latch = none ∧ (t.go o).gate = ((s.go o).request && !(s.go o).needEdge)) ∧
      (s.hvFail o ≠ none → t = { s with guard := t.guard } ∧ (t.go o).gate = (s.go o).gate) ∧ (∀ p, p ≠ o → t.go p = s.go p) ∧
      t = { s with use := t.use, sens := t.sens, guard := t.guard, lsw := t.lsw }

/-- During safe-off an output whose current is below 5 A, or, while the lane is silent, whose cabinet reports its stage disabled, is
dropped, with the reason of the trigger where it holds no latch; 50 ms after the trigger every output that is left is dropped and named
in FORCED; the safe-off ends with the last. The guard input: opening with an HV_EN raised starts safe-off on every output with trigger
8; a guard that no longer reads open, so also one in a combination that is neither (the model's choice, log entry 126), leaves no
commissioning session; levels that do not differ for more than 50 ms are a fault, which drops every output with reason 9 and demands the
test; open and then closed for 100 ms passes the test. -/
def Obligations.SafeOffAndTheGuardInput : Prop :=
  (∀ (o : Output) (ma : Int) (s : State) (x : SafeOff), s.currentLow o ma = true → s.guard.safe = some x → bitOf x.left o.1 = true →
    ∃ t, exec (.safeOffCurrentLow o ma) s = .next t ∧ t.raised o = false ∧
      (x.left ≠ 2 ^ o.1 → (∃ y, t.guard.safe = some y ∧ y.left = x.left - 2 ^ o.1 ∧ y.trigger = x.trigger) ∧
        ((s.go o).latch = none → latchedReason (trigReason x.trigger) = false → (t.go o).reason = trigReason x.trigger) ∧
        (∀ p, p ≠ o → t.raised p = s.raised p)) ∧
      (x.left = 2 ^ o.1 → x.thenReset = none → s.pwr.coldAfter = none → t.guard.safe = none)) ∧
  (∀ (s : State) (x : SafeOff), s.guard.safe = some x → x.startTb + 1250000 ≤ s.clock.tb ∨ s.clock.run = false → 0 < x.left → x.left < 64 →
    ∃ t, exec .safeOffForce s = .next t ∧ (∀ o : Fin 6, bitOf x.left o.1 = true → t.raised o = false) ∧
      (x.thenReset = none → s.pwr.coldAfter = none → t.guard.safe = none ∧ t.guard.soForced = x.left ∧
        ∀ o : Fin 6, bitOf x.left o.1 = false → t.raised o = s.raised o)) ∧
  (∀ (a b : Bool) (s : State), ¬(a = s.guard.levelA ∧ b = s.guard.levelB) →
    ∃ t, exec (.guardChange a b) s = .next t ∧ t.guard.levelA = a ∧ t.guard.levelB = b ∧ t.guard.levelTb = s.clock.tb ∧
      (a = false → b = true → s.anyHv = true → s.SafeOffOn t 8 0x3F) ∧
      (s.doorOpen = true → ∀ (i : Fin 64) (h : Session), t.anySession i = some h → h.commissioning = false)) ∧
  (∀ s : State, s.guard.levelA = s.guard.levelB → s.guard.levelTb + 1250000 < s.clock.tb → s.guard.fault = false →
    ∃ t, exec .guardFault s = .next t ∧ t.guard.fault = true ∧ t.guard.tested = false ∧ t.guard.demand = 5 ∧
      (∀ o, t.raised o = false ∧ (s.raised o = true → (t.go o).reason = 9 ∧ (t.go o).gate = false)) ∧
      t = { s with use := t.use, keys := t.keys, host := t.host, cnt := t.cnt, log := t.log, sens := t.sens, bil := t.bil, guard := t.guard,
                   seqr := t.seqr, veh := t.veh, lsw := t.lsw }) ∧
  (∀ s : State, s.guard.tested = false → s.guard.seenOpen = true → s.doorClosed = true → s.guard.fault = false →
    s.guard.levelTb + 2500000 ≤ s.clock.tb →
    ∃ t, exec .guardTestPass s = .next t ∧ t.guard.tested = true ∧ t.guard.seenOpen = false ∧ t.guard.outs = s.guard.outs ∧
      t = { s with guard := t.guard })

/-- At the end of a half of T_HALF the insulation monitor takes the averages of its last quarter, of half a to keep, of half b to judge the
cycle: a valid cycle above the fault level gives its resistance and level and clears the run of faults; the second fault in a row, while
the output is in the states that the monitor may drop, drops it with the latch of reason 3; an invalid cycle counts, and the fourth in a
row drops it with reason 14. The cable check starts its dwell within 10 V, and fails 2 s after its first setpoint without it. An
evaluation of residual current over a mains period of VALID samples gives its components; a rule reached drops the output with the latch
of reason 4 and makes a self-test due; no rule reached leaves every HV_EN. An invalid window counts, and the third in a row drops a
raised output that may charge with reason 14. The self-test holds HV_EN low and passes when the DC component of its last 50 ms lies
within 30 % of its current. The welding check after an opening passes with the mirrors open and no phase voltage, and otherwise latches
reason 5. A configuration register of a raised output is LOCKED against changes of class X; a change of one demands the guard test. -/
def Obligations.InsulationLeakageAndWelding : Prop :=
  (∀ (n : DcNo) (s : State), s.isoRuns n = true → (s.guard.iso[n]).halfTb + s.halfTicks n.1 ≤ s.clock.tb → (s.guard.iso[n]).halfB = false →
    ∃ t, exec (.isoHalfEnds n) s = .next t ∧
      t.guard.iso[n] = { (s.guard.iso[n]).begin true s.clock.tb with
        upA := (s.guard.iso[n]).average.1, umA := (s.guard.iso[n]).average.2.1, okA := (s.guard.iso[n]).average.2.2 } ∧
      t.guard.outs = s.guard.outs ∧ t = { s with guard := t.guard, lsw := t.lsw }) ∧
  (∀ (n : DcNo) (a : Int × Int × Bool) (s : State) (r : Option (Nat × Nat)) (v lvl : Nat), s.isoRuns n = true →
    (s.guard.iso[n]).halfTb + s.halfTicks n.1 ≤ s.clock.tb → (s.guard.iso[n]).halfB = true →
    a = (s.guard.iso[n]).average → (s.guard.iso[n]).okA = true → a.2.2 = true →
    r = isoResist (s.guard.iso[n]).upA (s.guard.iso[n]).umA a.1 a.2.1 (s.fld R.FG_ISOCFGn F.FG_ISOCFGn_RB_KOHM [n.1])
      (s.fld R.FG_ISOLIMn F.FG_ISOLIMn_RDIV_KOHM [n.1]) → v = (s.outRec (dcOut n)).volt →
    lvl = isoLevel r (s.fld R.FG_ISOLIMn F.FG_ISOLIMn_WARN [n.1] * v) (s.fld R.FG_ISOLIMn F.FG_ISOLIMn_FAULT [n.1] * v) →
    ∃ t, exec (.isoHalfEnds n) s = .next t ∧
      (lvl ≠ 3 → (t.guard.iso[n]).level = lvl ∧ (t.guard.iso[n]).faults = 0 ∧ (t.guard.iso[n]).invalids = 0 ∧
        (t.guard.iso[n]).rIso = ((r.map (fun q => min 0xFFFFFFFE (q.1 / q.2))).getD 0xFFFFFFFF) ∧ (t.guard.iso[n]).halfB = false ∧
        (∀ o, t.raised o = s.raised o) ∧ t = { s with guard := t.guard, lsw := t.lsw, seqr := t.seqr, veh := t.veh }) ∧
      (lvl = 3 → 8 ≤ (s.so (dcOut n)).state.code → 1 ≤ (s.guard.iso[n]).faults → s.guard.safe = none →
        t.raised (dcOut n) = false ∧ (t.go (dcOut n)).latch = some 3 ∧
        (s.raised (dcOut n) = true → (t.go (dcOut n)).gate = false) ∧
        ∀ p, p ≠ dcOut n → t.raised p = s.raised p)) ∧
  (∀ (n : DcNo) (s : State), s.isoRuns n = true → (s.guard.iso[n]).halfTb + s.halfTicks n.1 ≤ s.clock.tb → (s.guard.iso[n]).halfB = true →
    ((s.guard.iso[n]).okA = false ∨ (s.guard.iso[n]).average.2.2 = false) →
    ∃ t, exec (.isoHalfEnds n) s = .next t ∧ (t.guard.iso[n]).halfB = false ∧ (t.guard.iso[n]).rIso = (s.guard.iso[n]).rIso ∧
      t.kept R.FG_ISOn [n.1] &&& F.FG_ISOn_INVALID.mask = F.FG_ISOn_INVALID.mask ∧
      ((s.guard.iso[n]).invalids < 3 → (t.guard.iso[n]).invalids = (s.guard.iso[n]).invalids + 1 ∧ (t.guard.iso[n]).faults = 0 ∧
        ∀ o, t.raised o = s.raised o) ∧
      (8 ≤ (s.so (dcOut n)).state.code → 3 ≤ (s.guard.iso[n]).invalids → s.guard.safe = none →
        t.raised (dcOut n) = false ∧ (t.go (dcOut n)).reason = 14 ∧ ∀ p, p ≠ dcOut n → t.raised p = s.raised p)) ∧
  (∀ (n : DcNo) (mv : Nat) (s : State), (s.guard.iso[n]).check = 1 → (s.guard.iso[n]).dwell = none →
    (diffInt mv (1000 * (s.guard.iso[n]).checkV)).natAbs ≤ 10000 →
    ∃ t, exec (.cableCheckDwellStart n mv) s = .next t ∧
      t.guard.iso[n] = { (s.guard.iso[n]).begin false s.clock.tb with dwell := some 0, worst := 0 } ∧ t.guard.outs = s.guard.outs ∧
      t = { s with guard := t.guard, lsw := t.lsw }) ∧
  (∀ (n : DcNo) (x : Nat) (s : State), (s.guard.iso[n]).check = 1 → (s.guard.iso[n]).dwell = none →
    (s.guard.iso[n]).firstCheckTb = some x → x + 2 * tbSecond ≤ s.clock.tb →
    ∃ t, exec (.cableCheckRampFail n) s = .next t ∧ t.guard.iso[n] = { s.guard.iso[n] with check := 4, firstCheckTb := none } ∧
      (t.so (dcOut n)).state = (if (s.so (dcOut n)).state.speculative then .rollback
        else if (s.so (dcOut n)).state = .check then .stopping else (s.so (dcOut n)).state) ∧
      t = { s with guard := t.guard, seqr := t.seqr, veh := t.veh }) ∧
  (∀ (k : Outlet) (xs : List Int) (s : State), s.rcdConfigured k = true → xs ≠ [] →
    (s.guard.rcd[k]).window s.clock.tb (s.mainsTicks k) = xs.map some →
    ∃ t, exec (.rcdEvaluate k) s = .next t ∧
      ((∀ (i : Fin 6) (r : Bool × Nat × Nat), rcdRows[i.1]? = some r →
          (if rcdReaches xs (s.fld R.FG_RCDCFGk F.FG_RCDCFGk_FS_MA [k.1]) r.1 r.2.1 then ((s.guard.rcd[k]).runs)[i] + 1 else 0) < r.2.2) →
        (t.guard.rcd[k]).bad = 0 ∧ ((t.guard.rcd[k]).dc, (t.guard.rcd[k]).ac) = rcdParts xs (s.fld R.FG_RCDCFGk F.FG_RCDCFGk_FS_MA [k.1]) ∧
        (∀ o, t.raised o = s.raised o) ∧ t = { s with guard := t.guard }) ∧
      (∀ (i : Fin 6) (r : Bool × Nat × Nat), rcdRows[i.1]? = some r →
        r.2.2 ≤ (if rcdReaches xs (s.fld R.FG_RCDCFGk F.FG_RCDCFGk_FS_MA [k.1]) r.1 r.2.1 then ((s.guard.rcd[k]).runs)[i] + 1 else 0) →
        (s.go (acOut k)).latch ≠ some 4 → s.guard.safe = none →
        t.raised (acOut k) = false ∧ (t.go (acOut k)).latch = some 4 ∧ (t.guard.rcd[k]).due = true)) ∧
  (∀ (k : Outlet) (x : List (Option Int)) (s : State), s.rcdConfigured k = true → x = (s.guard.rcd[k]).window s.clock.tb (s.mainsTicks k) →
    (x = [] ∨ none ∈ x) →
    ∃ t, exec (.rcdEvaluate k) s = .next t ∧ (t.guard.rcd[k]).bad = (s.guard.rcd[k]).bad + 1 ∧
      t.kept R.FG_RCDk [k.1] &&& F.FG_RCDk_INVALID.mask = F.FG_RCDk_INVALID.mask ∧
      (2 ≤ (s.guard.rcd[k]).bad → 9 ≤ (s.so (acOut k)).state.code → (s.so (acOut k)).state.code ≤ 14 → s.raised (acOut k) = true →
        t.raised (acOut k) = false ∧ (t.go (acOut k)).reason = 14 ∧ ∀ p, p ≠ acOut k → t.raised p = s.raised p)) ∧
  (∀ (k : Outlet) (s : State), s.rcdConfigured k = true → (s.guard.rcd[k]).testing = none → (s.so (acOut k)).state.code ≤ 1 →
    ((s.guard.rcd[k]).due = true ∨ ∀ b, (s.guard.rcd[k]).passTb = some b → b + 3600 * tbSecond ≤ s.clock.tb) →
    ∃ t, exec (.rcdSelftestStart k) s = .next t ∧ t.raised (acOut k) = false ∧ (t.go (acOut k)).gate = false ∧
      t.guard.rcd[k] = { s.guard.rcd[k] with testing := some s.clock.tb } ∧
      t = { s with use := t.use, sens := t.sens, guard := t.guard, lsw := t.lsw }) ∧
  (∀ (k : Outlet) (y : Nat) (x : List (Option Int)) (s : State), (s.guard.rcd[k]).testing = some y → y + 2500000 ≤ s.clock.tb →
    x = (s.guard.rcd[k]).window s.clock.tb 1250000 →
    ∃ t, exec (.rcdSelftestEnds k) s = .next t ∧ (t.guard.rcd[k]).testing = none ∧
      (x = [] ∨ none ∈ x → (t.guard.rcd[k]).testOk = false) ∧
      (∀ xs : List Int, x = xs.map some → xs ≠ [] → ((t.guard.rcd[k]).testOk = true ↔
        7 * (s.fld R.FG_RCDCFGk F.FG_RCDCFGk_TEST_MA [k.1] : Int) * xs.length * 2 ^ 31 ≤ xs.sum * (s.fld R.FG_RCDCFGk F.FG_RCDCFGk_FS_MA [k.1] : Int) * 10 ∧
        xs.sum * (s.fld R.FG_RCDCFGk F.FG_RCDCFGk_FS_MA [k.1] : Int) * 10 ≤ 13 * (s.fld R.FG_RCDCFGk F.FG_RCDCFGk_TEST_MA [k.1] : Int) * xs.length * 2 ^ 31)) ∧
      ((t.guard.rcd[k]).testOk = true → (t.guard.rcd[k]).passTb = some s.clock.tb ∧ (t.guard.rcd[k]).due = false) ∧
      ((t.guard.rcd[k]).testOk = false → (t.go (acOut k)).reason = 14) ∧ (∀ o, t.raised o = s.raised o) ∧
      t = { s with guard := t.guard, seqr := t.seqr, lsw := t.lsw }) ∧
  (∀ (o : Output) (volts : WordList) (x : Nat) (s : State), (s.go o).gate = false → (s.go o).openTb = some x → x + 5000000 ≤ s.clock.tb →
    ∃ t, exec (.weldCheck o volts) s = .next t ∧
      (s.mirrorsOpen o = true → (∀ v ∈ volts, s.vcheck o = true → v.toNat < 50000) →
        (t.go o).welded = false ∧ (t.go o).openTb = none ∧ (∀ p, t.raised p = s.raised p) ∧
        ((s.so o).state = .weldcheck → (t.so o).state = (if (s.lockLs o).isSome then .unlock else .waitUnplug))) ∧
      (s.mirrorsOpen o = false → t.raised o = false ∧ (t.go o).latch = some 5 ∧ (t.go o).welded = true ∧
        ((s.so o).state = .weldcheck → (t.so o).state = .fault)) ∧
      t = { s with use := t.use, keys := t.keys, host := t.host, cnt := t.cnt, log := t.log, sens := t.sens, bil := t.bil, guard := t.guard,
                   seqr := t.seqr, veh := t.veh, lsw := t.lsw }) ∧
  (∀ (sid : Sid) (addr n : Nat) (v : W64) (h : Session) (r : RegSpec) (o : Fin 6) (s : State) (new : Nat),
    fgConfigOf addr = some (r, n, o) → addr = r.addr [n] → s.Granted sid h r [n] v →
    new = fgClamp r (mergeMask (s.reg r [n]) v.toNat r.rwMask) →
    ((s.go o).hv = false ∨ (s.reg r [n] ^^^ new) &&& r.xMask = 0 →
      ∃ t, exec (.fgConfigWrite sid addr v) s = .next t ∧ s.Replies t sid h OK 1 [] ∧ s.HostKept t sid h ∧ t.reg r [n] = new ∧
        (new ≠ s.reg r [n] → t.guard.tested = false ∧ t.guard.demand = 3) ∧ (new = s.reg r [n] → t.guard = s.guard) ∧
        t.guard.outs = s.guard.outs ∧ t = { s with regs := t.regs, guard := t.guard, host := t.host, keys := t.keys, cnt := t.cnt, log := t.log, pwr := { s.pwr with idleTb := s.clock.tb } }) ∧
    ((s.go o).hv = true → (s.reg r [n] ^^^ new) &&& r.xMask ≠ 0 →
      ∃ t, exec (.fgConfigWrite sid addr v) s = .next t ∧ s.Replies t sid h LOCKED 0 [] ∧ s.PathOnly t sid h))

/-- Each slot of a started Fireguard sends the next device frame on both networks, with the raised outputs. A valid frame of a cabinet that
serves an output gives its flags and its time, and drops a raised output whose 2oo2H pair it leaves without OWN_OC; any other frame only
counts. Frames missing on one network, or three disagreements in 1 s, enter degraded mode: the raised outputs are kept in it and stay
raised, and sessions before CHECK stop with cause 12. Both networks lost, or the limit of degraded mode, start safe-off; a silent
cabinet drops the outputs that it serves. Each condition ends when its frames are good again. -/
def Obligations.SafetyNetworks : Prop :=
  (∀ (a b : Option Bytes) (s : State), s.guard.started = true →
    ∃ t, exec (.safetySlot a b) s = .next t ∧ t.guard.slotSeq = (s.guard.slotSeq + 1) % 2 ^ 32 ∧ t.guard.outs = s.guard.outs ∧
      (s.guard.safe = none → t.guard.frameA = deviceFrame ((s.guard.slotSeq + 1) % 2 ^ 32) s.clock.tb s.hvMap 0 (b2n s.guard.degraded.isSome) ∧
        t.guard.frameB = deviceFrame ((s.guard.slotSeq + 1) % 2 ^ 32) s.clock.tb s.hvMap 0 (b2n s.guard.degraded.isSome + 4)) ∧
      t.cnt.count[(20 : Fin 24)] = (s.cnt.count[(20 : Fin 24)] + 2) % 2 ^ 48 ∧
      t = { s with sticky := t.sticky, cnt := t.cnt, guard := t.guard }) ∧
  (∀ (k : CabNo) (netB : Bool) (fr : Bytes) (s : State), s.guard.started = true → s.namedCabs.contains k = true →
    (copyValid fr (s.guard.last ⟨k.1, by omega⟩ netB) = true → s.ownOcLost k fr = []) →
    ∃ t, exec (.cabinetSafetyFrame k netB fr) s = .next t ∧ t.guard.outs = s.guard.outs ∧
      (copyValid fr (s.guard.last ⟨k.1, by omega⟩ netB) = true → (t.guard.cabs[k]).flags = frameNat fr 13 1 ∧
        (t.guard.cabs[k]).enabled = frameNat fr 12 1 ∧ (t.guard.cabs[k]).validTb = some s.clock.tb ∧
        t.guard.last ⟨k.1, by omega⟩ netB = some (frameNat fr 0 4) ∧ t = { s with sticky := t.sticky, cnt := t.cnt, guard := t.guard }) ∧
      (copyValid fr (s.guard.last ⟨k.1, by omega⟩ netB) = false → t = { s with cnt := t.cnt })) ∧
  (∀ (k : CabNo) (netB : Bool) (fr : Bytes) (s : State), s.guard.started = false ∨ s.namedCabs.contains k = false →
    ∃ t, exec (.cabinetSafetyFrame k netB fr) s = .next t ∧ t.cnt.count[(20 : Fin 24)] = (s.cnt.count[(20 : Fin 24)] + 1) % 2 ^ 48 ∧
      t = { s with cnt := t.cnt }) ∧
  (∀ (k : CabNo) (netB : Bool) (fr : Bytes) (s : State), s.guard.started = true → s.namedCabs.contains k = true →
    copyValid fr (s.guard.last ⟨k.1, by omega⟩ netB) = true → s.ownOcLost k fr ≠ [] →
    ∃ t, exec (.cabinetSafetyFrame k netB fr) s = .next t ∧ (∀ o ∈ s.ownOcLost k fr, t.raised o = false ∧ (t.go o).reason = 6) ∧
      (∀ o, o ∉ s.ownOcLost k fr → t.raised o = s.raised o)) ∧
  (∀ (c : Instr) (cause : Nat) (s : State), s.guard.degraded = none →
    ((c = .networkMissing true ∧ cause = 2 ∧ 10 ≤ s.guard.missB) ∨ (c = .networkMissing false ∧ cause = 1 ∧ 10 ≤ s.guard.missA) ∨
     (c = .networkDisagreement ∧ cause = 3 ∧ 3 ≤ (s.guard.disTbs.filter (fun x => decide (s.clock.tb < x + tbSecond))).length)) →
    ∃ t, exec c s = .next t ∧ t.guard.degraded = some s.clock.tb ∧ t.guard.degHv = s.hvMap ∧ t.guard.degCause = cause ∧
      t.guard.degEntries = min 65535 (s.guard.degEntries + 1) ∧ t.guard.outs = s.guard.outs ∧
      (∀ o, (t.so o).state = (if 2 ≤ (s.so o).state.code ∧ (s.so o).state.code ≤ 6 then (s.so o).state.stop else (s.so o).state)) ∧
      t = { s with keys := t.keys, host := t.host, cnt := t.cnt, log := t.log, bil := t.bil, guard := t.guard, seqr := t.seqr, veh := t.veh }) ∧
  (∀ s : State, (10 ≤ s.guard.missOwn ∨ s.guard.degraded.isSome = true ∧
      ((s.guard.degCause = 1 ∧ 10 ≤ s.guard.missB) ∨ (s.guard.degCause = 2 ∧ 10 ≤ s.guard.missA))) → s.guard.netsLost = false → s.anyHv = true ∨ s.guard.safe = none →
    ∃ t, exec .bothNetworksLost s = .next t ∧ t.guard.netsLost = true ∧ (s.anyHv = true → s.SafeOffOn t 6 0x3F)) ∧
  (∀ (k : CabNo) (s : State), s.namedCabs.contains k = true → (s.guard.cabs[k]).down = false →
    (10 ≤ (s.guard.cabs[k]).missing ∨ 2 ≤ (s.guard.cabs[k]).badRun) →
    ∃ t, exec (.cabinetMissing k) s = .next t ∧ (t.guard.cabs[k]).down = true ∧
      (∀ o, o ∈ s.servedBy k → t.raised o = false ∧ (t.go o).reason = 6) ∧ (∀ o, o ∉ s.servedBy k → t.raised o = s.raised o) ∧
      t = { s with use := t.use, keys := t.keys, host := t.host, cnt := t.cnt, log := t.log, sens := t.sens, bil := t.bil, guard := t.guard,
                   seqr := t.seqr, veh := t.veh, lsw := t.lsw }) ∧
  (∀ (k : CabNo) (x : Nat) (s : State), (s.guard.cabs[k]).down = true → (s.guard.cabs[k]).goodTb = some x → x + tbSecond ≤ s.clock.tb →
    ∃ t, exec (.cabinetFramesRestored k) s = .next t ∧ t.guard.cabs[k] = { s.guard.cabs[k] with down := false } ∧
      t.guard.outs = s.guard.outs ∧ t = { s with guard := t.guard }) ∧
  (∀ (x : Nat) (s : State), s.guard.goodTb = some x →
    (s.guard.netsLost = true → x + 1 * tbSecond ≤ s.clock.tb → ∃ t, exec .networksRestored s = .next t ∧ t.guard.netsLost = false ∧
      t.guard.outs = s.guard.outs ∧ t = { s with guard := t.guard }) ∧
    (s.guard.degraded.isSome = true → x + 60 * tbSecond ≤ s.clock.tb → ∃ t, exec .degradedClear s = .next t ∧ t.guard.degraded = none ∧
      t.guard.degHv = 0 ∧ t.guard.outs = s.guard.outs ∧ t = { s with cnt := t.cnt, log := t.log, guard := t.guard })) ∧
  (∀ (x : Nat) (s : State), s.guard.degraded = some x → x + 5400 * tbSecond ≤ s.clock.tb → s.anyHv = true →
    ∃ t, exec .degradedLimit s = .next t ∧ s.SafeOffOn t 7 s.hvMap)

/-! ### Load switches and the card reader (chapters 12 and 13) -/

/-- A channel at its current limit waits for a retry while it has one and its mode allows it, and latches off otherwise; a temperature latch
takes any mode; the latch of a gated channel on an energised output is FAULT with cause 9, which a suspended sequencer enters when it
resumes. Retries begin again after 1 s of current, the delay ends as the channel is wanted, pull-in ends in the on state, and the load
tests keep what they see; a mirror that no longer reports open contacts of a gate open for 200 ms makes its output welded. A lock drive
ends at its end of travel, which takes UNLOCK to WAIT_UNPLUG, or after 2 s, which takes it to FAULT with cause 17. With VAUX low no
channel is on; when it returns, the HOST, PWM and LOCK channels that are requested turn on again. LSW_ON turns the HOST and PWM channels
on and off and no others; a clear ends the latch of a channel that it names unless it is hot, which CLEAR_REFUSED keeps, and leaves the
others. -/
def Obligations.LoadSwitchesLocksAndVaux : Prop :=
  (∀ (n : ChanNo) (s : State), (s.chan n).isOn = true → 0 < (s.chan n).retryLeft → s.lsMode n.1 ∉ [3, 4, 6, 7] →
    ∃ t, exec (.currentLimitTurnoff n) s = .next t ∧
      t.chan n = { s.chan n with state := 3, retryLeft := (s.chan n).retryLeft - 1, trips := min 65535 ((s.chan n).trips + 1),
                                 waitUntil := s.clock.tb + s.fld R.LSW_CFGn F.LSW_CFGn_RETRY_DELAY [n.1] * 250000 } ∧
      (∀ m, m ≠ n → t.chan m = s.chan m) ∧ t = { s with sticky := t.sticky, lsw := t.lsw }) ∧
  (∀ (c : Instr) (n : ChanNo) (s : State) (x : Nat),
    ((c = .currentLimitTurnoff n ∧ x = 4 ∧ (s.chan n).isOn = true ∧ ((s.chan n).retryLeft = 0 ∨ s.lsMode n.1 ∈ [3, 4, 6, 7])) ∨
     (c = .thermalLatch n ∧ x = 5 ∧ (s.chan n).state ≠ 5)) →
    ∃ t, exec c s = .next t ∧ (t.chan n).state = x ∧
      (t.chan n).trips = (if (s.chan n).isOn then min 65535 ((s.chan n).trips + 1) else (s.chan n).trips) ∧
      (t.chan n).retryLeft = (s.chan n).retryLeft ∧
      (s.gated n = true → (s.so (s.gateOf n)).state.energised = true → s.seqr.suspended = true →
        (t.so (s.gateOf n)).state = (s.so (s.gateOf n)).state ∧ (t.so (s.gateOf n)).fell = some ((s.so (s.gateOf n)).fell.getD 9)) ∧
      (s.gated n = true → (s.so (s.gateOf n)).state.energised = true → s.seqr.suspended = false →
        (t.so (s.gateOf n)).state = .fault ∧ (t.go (s.gateOf n)).request = false ∧
        ((s.so (s.gateOf n)).stopped = false → (t.so (s.gateOf n)).cause = 9)) ∧
      (s.gated n = false → (∀ m, m ≠ n → t.chan m = s.chan m) ∧
        t = { s with sticky := t.sticky, cnt := t.cnt, log := t.log, lsw := t.lsw })) ∧
  (∀ (n : ChanNo) (s : State), (s.chan n).state = 3 → (s.chan n).waitUntil ≤ s.clock.tb →
    ∃ t, exec (.retryDelayEnd n) s = .next t ∧
      (s.chanWanted n = true → s.lsw.uv = false → (s.chan n).gateHold = false → (t.chan n).state = (if s.inPullin n then 2 else 1)) ∧
      (s.chanWanted n = true → s.lsw.uv = true → (t.chan n).state = 6) ∧ (s.chanWanted n = false → (t.chan n).state = 0) ∧
      (∀ m, m ≠ n → t.chan m = s.chan m) ∧ t = { s with lsw := t.lsw }) ∧
  (∀ (n : ChanNo) (ma : Nat) (s : State), (s.chan n).isOn = true → 0 < ma →
    ∃ t, exec (.retryReload n ma) s = .next t ∧ (t.chan n).state = (s.chan n).state ∧ (t.chan n).openNow = false ∧
      (s.lsMode n.1 ∈ [3, 4, 6, 7] → (t.chan n).retryLeft = 0) ∧
      (s.lsMode n.1 ∉ [3, 4, 6, 7] → (t.chan n).retryLeft =
        (s.takeField R.LSW_CFGn F.LSW_CFGn_RETRY_MAX [n.1]).useFld R.LSW_CFGn F.LSW_CFGn_RETRY_MAX [n.1]) ∧
      (∀ m, m ≠ n → t.chan m = s.chan m) ∧
      t = { s with use := t.use, lsw := t.lsw }) ∧
  (∀ (n : ChanNo) (s : State), (s.chan n).isOn = true → (s.lsMode n.1 = 2 → 80 ≤ s.onTicks n) →
    ∃ t, exec (.openLoad n) s = .next t ∧ t.chan n = { s.chan n with openNow := true } ∧
      t.kept R.LSW_STATn [n.1] &&& F.LSW_STATn_OPEN.mask = F.LSW_STATn_OPEN.mask ∧ t = { s with sticky := t.sticky, lsw := t.lsw }) ∧
  (∀ (n : ChanNo) (sees : Bool) (s : State), (s.chan n).isOn = false → s.mirrorWelds n sees = [] →
    ∃ t, exec (.offStateTest n sees) s = .next t ∧ (t.chan n).lastTest = sees ∧ (t.chan n).state = (s.chan n).state ∧
      (s.lsMode n.1 = 6 → (t.chan n).loadOff = (if (s.chan n).lastTest = sees ∧ 2 ≤ (s.chan n).testRun then sees else (s.chan n).loadOff)) ∧
      (s.lsMode n.1 ≠ 6 → (t.chan n).loadOff = sees ∧ (t.chan n).openNow = !sees) ∧
      (∀ m, m ≠ n → t.chan m = s.chan m) ∧ t = { s with sticky := t.sticky, lsw := t.lsw }) ∧
  (∀ (n : ChanNo) (sees : Bool) (s : State), (s.chan n).isOn = false → s.mirrorWelds n sees ≠ [] →
    ∃ t, exec (.offStateTest n sees) s = .next t ∧ (t.chan n).loadOff = false ∧
      (∀ o ∈ s.mirrorWelds n sees, t.raised o = false ∧ (t.go o).latch = some 5 ∧ (t.go o).welded = true) ∧
      (∀ o, o ∉ s.mirrorWelds n sees → t.raised o = s.raised o)) ∧
  (∀ (n : ChanNo) (s : State), ∃ t, exec (.negVoltage n) s = .next t ∧
    t.kept R.LSW_STATn [n.1] &&& F.LSW_STATn_NEG.mask = F.LSW_STATn_NEG.mask ∧ t = { s with sticky := t.sticky }) ∧
  (∀ (n : ChanNo) (s : State), (s.chan n).state = 2 → s.inPullin n = false →
    ∃ t, exec (.pullinEnd n) s = .next t ∧ t.chan n = { s.chan n with state := 1 } ∧ (∀ m, m ≠ n → t.chan m = s.chan m) ∧
      t = { s with lsw := t.lsw }) ∧
  (∀ (n : ChanNo) (s : State), s.lsMode n.1 = 5 → (s.chan n).lock = 1 → (s.chan n).isOn = true → (s.chan n).lockTb + 1750000 ≤ s.clock.tb →
    (∀ o ∈ s.lockOutputs n, (s.so o).state ≠ .unavailable) →
    ∃ t, exec (.lockEndOfTravel n) s = .next t ∧ t.chan n = { s.chan n with state := 0, driven := false, lock := 2 } ∧
      (∀ o ∈ s.lockOutputs n, (s.so o).state = .unlock → (t.so o).state = .waitUnplug) ∧
      (∀ o, o ∉ s.lockOutputs n → t.so o = s.so o)) ∧
  (∀ (n : ChanNo) (s : State), (s.chan n).lock = 1 → (s.chan n).lockTb + 2 * tbSecond ≤ s.clock.tb →
    (∀ o ∈ s.lockOutputs n, (s.so o).state ≠ .unavailable) →
    ∃ t, exec (.lockDriveTimeout n) s = .next t ∧ (t.chan n).lock = 3 ∧ (t.chan n).driven = false ∧ (t.chan n).isOn = false ∧
      ((s.chan n).latched = true → (t.chan n).state = (s.chan n).state) ∧
      (∀ o ∈ s.lockOutputs n, (s.so o).state = .unlock →
        (t.so o).state = .fault ∧ ((s.so o).stopped = false → (t.so o).cause = 17)) ∧
      (∀ o, o ∉ s.lockOutputs n → t.so o = s.so o)) ∧
  (∀ s : State, ∃ t, exec .vauxUndervoltage s = .next t ∧ t.lsw.uv = true ∧ (∀ n : Fin 24, (t.chan n).isOn = false) ∧
    (∀ n : Fin 24, s.gated n = false → (s.chan n).latched = false → (t.chan n).state = 6) ∧
    (∀ n : Fin 24, (s.chan n).latched = true → (t.chan n).state = (s.chan n).state) ∧
    (∀ n : Fin 24, s.gated n = true → (s.chan n).isOn = true → (s.so (s.gateOf n)).state.energised = true → s.seqr.suspended = false →
      (t.so (s.gateOf n)).state = .fault)) ∧
  (∀ s : State, s.lsw.uv = true →
    ∃ t, exec .vauxRecover s = .next t ∧ t.lsw.uv = false ∧
      (∀ n : Fin 24, s.lsMode n.1 = 1 ∨ s.lsMode n.1 = 2 → (s.chan n).state = 6 → (s.chan n).gateHold = false →
        (t.chan n).state = (if bitOf (s.fld R.LSW_ON F.LSW_ON_ON []) n.1 then 1 else 0)) ∧
      (∀ n : Fin 24, s.lsMode n.1 = 5 → (s.chan n).state = 6 → (s.chan n).gateHold = false →
        (∀ o : Fin 6, (s.so o).state ≠ .idle ∧ (s.so o).state ≠ .unavailable) →
        (t.chan n).state = (if (s.chan n).driven then 1 else 0)) ∧
      (∀ n : Fin 24, (s.chan n).latched = true → (t.chan n).state = (s.chan n).state)) ∧
  (∀ (sid : Sid) (v : W64) (h : Session) (s : State), s.Granted sid h R.LSW_ON [] v →
    ∃ t, exec (.lswOn sid v) s = .next t ∧ s.Replies t sid h OK 1 [] ∧ s.HostKept t sid h ∧ t.reg R.LSW_ON [] = v.toNat &&& s.onMask ∧
      (∀ n : Fin 24, s.lsMode n.1 = 1 ∨ s.lsMode n.1 = 2 → (s.chan n).latched = false → (s.chan n).state ≠ 3 → (s.chan n).gateHold = false →
        s.lsw.uv = false → (t.chan n).state = (if bitOf (t.fld R.LSW_ON F.LSW_ON_ON []) n.1 then 1 else 0)) ∧
      (∀ n : Fin 24, s.lsMode n.1 ≠ 1 → s.lsMode n.1 ≠ 2 → t.chan n = s.chan n) ∧
      t = { s with regs := t.regs, host := t.host, keys := t.keys, cnt := t.cnt, log := t.log, lsw := t.lsw,
                   pwr := { s.pwr with idleTb := s.clock.tb } }) ∧
  (∀ (sid : Sid) (v : W64) (h : Session) (s : State), s.Granted sid h R.LSW_CLEAR [] v →
    ∃ t, exec (.lswClear sid v) s = .next t ∧ s.Replies t sid h OK 1 [] ∧ s.HostKept t sid h ∧
      (∀ n : Fin 24, bitOf v.toNat n.1 = false → t.chan n = s.chan n) ∧
      (∀ n : Fin 24, bitOf v.toNat n.1 = true → s.chanHot n = true → t.chan n = s.chan n ∧
        t.kept R.LSW_STATn [n.1] &&& F.LSW_STATn_CLEAR_REFUSED.mask = F.LSW_STATn_CLEAR_REFUSED.mask) ∧
      (∀ n : Fin 24, bitOf v.toNat n.1 = true → s.chanHot n = false → (t.chan n).latched = false ∧
        (s.lsMode n.1 ∈ [3, 4, 6, 7] → (t.chan n).retryLeft = 0)) ∧
      t = { s with use := t.use, sticky := t.sticky, host := t.host, keys := t.keys, cnt := t.cnt, log := t.log, lsw := t.lsw,
                   pwr := { s.pwr with idleTb := s.clock.tb } })

/-- A change of a pulse generator's PERIOD or DUTY, as a write of LSW_PGk or the sequencer's duty makes it, acts from the next start of its
period and not before: up to that start the run in force is the one before the change. The channels stay as they are. (When the first
period starts, and how a change of PHASE between two on phases counts, are the model's choice, log entry 121.) -/
def Obligations.PulseGeneratorsTakeUpChanges : Prop :=
  (∀ (k : Fin 8) (r : PgRun) (s : State),
    ((pgKeep (pgTick s.clock.tb) s.lsw.pgs[k]).filter (fun x => decide (x.start ≤ pgTick s.clock.tb))).getLast? = some r → 0 < r.period →
    (∀ x, pgTick s.clock.tb ≤ x → x < r.next (pgTick s.clock.tb + 1) → (s.pgSync k).pgRun k x = r) ∧
    (∀ x, r.next (pgTick s.clock.tb + 1) ≤ x → ((s.pgSync k).pgRun k x).period = (s.pgWanted k 0).period ∧
      ((s.pgSync k).pgRun k x).duty = (s.pgWanted k 0).duty) ∧
    (s.pgSync k).lsw.chans = s.lsw.chans ∧ s.pgSync k = { s with lsw := (s.pgSync k).lsw })

/-- The reader starts when it is enabled and lets every card go when it is not; a baseline takes it to low-power detection; a ping that
detects, and its repeat, take it to polling; three cycles without a card lead back and let PARKED cards go, with RECOVERY after 8 false
detections; a card found is held with a context of its own. A fault ends after 5 s, the warning's stop when the supply is good, and the
test mode after 600 s. A held card that an inventory misses goes at the second miss, a parked one at once, and a card that it finds
counts no miss; after HOLD_MAX the held cards are parked. A waiting card is bound to the output that P2 names, or after 10 s to none. An
exchange starts with a held card, fails at once without one, is LOCKED while one runs, and ends with the answer or the reason for none. -/
def Obligations.CardReader : Prop :=
  (∀ (sid : Sid) (v : W64) (h : Session) (s : State) (new : Nat), s.Granted sid h R.NFC_RDCFG [] v →
    (∀ (k : Fin 4) (c : Card), s.rdr.cards[k] = some c → c.sid ≠ sid) →
    new = clampRdcfg (mergeMask (s.reg R.NFC_RDCFG []) v.toNat R.NFC_RDCFG.rwMask) →
    ∃ t, exec (.nfcEnable sid v) s = .next t ∧ s.Replies t sid h OK 1 [] ∧ t.reg R.NFC_RDCFG [] = new ∧
      (F.NFC_RDCFG_ENABLE.get new = 1 → s.rdr.state = .off → t.rdr.state = .start) ∧
      (F.NFC_RDCFG_ENABLE.get new = 1 → s.rdr.state ≠ .off → t.rdr = s.rdr) ∧
      (F.NFC_RDCFG_ENABLE.get new = 1 ∨ s.rdr.state = .off → s.HostKept t sid h ∧ t.rdr.cards = s.rdr.cards) ∧
      (F.NFC_RDCFG_ENABLE.get new ≠ 1 → s.rdr.state ≠ .off → t.rdr.state = .off ∧ ∀ k : Fin 4, t.rdr.cards[k] = none) ∧
      t = { s with regs := t.regs, host := t.host, keys := t.keys, cnt := t.cnt, log := t.log, rdr := t.rdr,
                   pwr := { s.pwr with idleTb := s.clock.tb } }) ∧
  (∀ (pings : List Ping) (s : State), s.heldCards = 0 →
    (s.rdr.state = .hold ∨ ((s.rdr.state = .start ∨ s.rdr.state = .recovery) ∧ s.passed s.rdr.lastTb 1 = true)) →
    ∃ t, exec (.noCardBaseline pings) s = .next t ∧ t.rdr.state = .lpcd ∧
      t.rdr.baseAmp = (pings.map (·.amp)).sum * 65536 / (max 1 pings.length : Nat) ∧ t = { s with rdr := t.rdr }) ∧
  (∀ (p : Ping) (s : State), s.rdr.state = .lpcd →
    ∃ t, exec (.lpcdPing p) s = .next t ∧ t.rdr.state = .lpcd ∧ t.rdr.lastAmp = p.amp ∧ t.rdr.lastPh = p.phase ∧
      (s.detects p = true → t.rdr.confirm = true ∧ t.rdr.baseAmp = s.rdr.baseAmp) ∧
      (s.detects p = false → t.rdr.confirm = s.rdr.confirm ∧ t.rdr.baseAmp = s.rdr.baseAmp + (p.amp * 65536 - s.rdr.baseAmp) / 16) ∧
      t = { s with rdr := t.rdr }) ∧
  (∀ (p : Ping) (s : State), s.rdr.state = .lpcd → s.rdr.confirm = true →
    ∃ t, exec (.lpcdConfirmPing p) s = .next t ∧ t.rdr.confirm = false ∧
      (s.detects p = true → t.rdr.state = .poll ∧ t.rdr.detects = (s.rdr.detects + 1) % 65536) ∧
      (s.detects p = false → t.rdr.state = .lpcd ∧ t.rdr.detects = s.rdr.detects) ∧ t = { s with rdr := t.rdr }) ∧
  (∀ (cards : List CardIn) (s : State), s.rdr.state = .poll → s.resolve cards = [] →
    ∃ t, exec (.pollCycle cards) s = .next t ∧ (s.rdr.polls < 2 → t.rdr.cards = s.rdr.cards ∧ t.host = s.host) ∧
      (2 ≤ s.rdr.polls → ∀ k : Fin 4, t.rdr.cards[k] = (s.rdr.cards[k]).filter (fun h => !h.parked)) ∧
      t.rdr.state = (if s.rdr.polls < 2 then .poll else if 7 ≤ s.rdr.consecFalse then .recovery else .lpcd) ∧
      (s.rdr.polls < 2 → t.rdr.polls = s.rdr.polls + 1) ∧
      (2 ≤ s.rdr.polls → t.rdr.falseDetects = min 65535 (s.rdr.falseDetects + 1)) ∧ t = { s with host := t.host, rdr := t.rdr }) ∧
  (∀ (cards : List CardIn) (s : State), s.rdr.state = .poll ∨ s.rdr.state = .start ∨ s.rdr.state = .recovery → s.resolve cards ≠ [] →
    ∃ t, exec (.pollCycle cards) s = .next t ∧ t.rdr.state = .hold ∧
      (∀ (c : CardIn) (i : Fin 64) (r : State), s.resolve cards = [c] → (∀ k : Fin 4, s.rdr.cards[k] = none) →
        s.allocSid (.card 0) = some (i, r) → ∃ h, t.rdr.cards[(0 : Fin 4)] = some h ∧ h.uid = c.uid ∧ h.sid = i ∧
          (s.waitingOutputs = [] → t = { s with host := t.host, keys := t.keys, cnt := t.cnt, log := t.log, rdr := t.rdr, draws := t.draws })) ∧
      ((∀ c ∈ s.resolve cards, (s.findCard c).isSome) → t.rdr.extra = 0 ∧ t = { s with rdr := t.rdr })) ∧
  (∀ s : State, s.rdr.state ∈ [.start, .lpcd, .poll, .hold, .recovery] →
    ∃ t, exec .nfcRfFault s = .next t ∧ t.rdr.state = .fault ∧ t.rdr.cards = s.rdr.cards ∧
      t = { s with sticky := t.sticky, cnt := t.cnt, log := t.log, rdr := t.rdr }) ∧
  (∀ s : State, s.rdr.state = .fault → s.passed s.rdr.stateTb 5 = true →
    ∃ t, exec .nfcFaultRecover s = .next t ∧ t.rdr.state = .recovery ∧ t = { s with rdr := t.rdr }) ∧
  (∀ s : State, s.rdr.held = true → s.pwr.pfw = false →
    ∃ t, exec .nfcFieldRestart s = .next t ∧ t.rdr.held = false ∧ t.rdr.state = (if s.rdr.state = .off then .off else .start) ∧
      t = { s with rdr := t.rdr }) ∧
  (∀ (sid : Sid) (v : W64) (h : Session) (s : State), s.Granted sid h R.NFC_TEST [] v →
    ∃ t, exec (.nfcTestMode sid v) s = .next t ∧ s.Replies t sid h OK 1 [] ∧ s.HostKept t sid h ∧
      t.fld R.NFC_TEST F.NFC_TEST_MODE [] = (if F.NFC_TEST_MODE.get v.toNat = 3 then 0 else F.NFC_TEST_MODE.get v.toNat) ∧
      (s.rdr.state = .off → t.rdr = s.rdr) ∧
      (F.NFC_TEST_MODE.get v.toNat = 1 ∨ F.NFC_TEST_MODE.get v.toNat = 2 → s.rdr.state ≠ .off → t.rdr.state = .test) ∧
      (F.NFC_TEST_MODE.get v.toNat = 0 ∨ F.NFC_TEST_MODE.get v.toNat = 3 → s.rdr.state = .test → t.rdr.state = .start) ∧
      (F.NFC_TEST_MODE.get v.toNat = 0 ∨ F.NFC_TEST_MODE.get v.toNat = 3 → s.rdr.state ≠ .test → t.rdr = s.rdr) ∧
      t.rdr.cards = s.rdr.cards ∧
      t = { s with regs := t.regs, host := t.host, keys := t.keys, cnt := t.cnt, log := t.log, rdr := t.rdr,
                   pwr := { s.pwr with idleTb := s.clock.tb } }) ∧
  (∀ s : State, s.rdr.state = .test → s.passed s.rdr.stateTb 600 = true →
    ∃ t, exec .nfcTestLimit s = .next t ∧ t.rdr.state = .start ∧ t.fld R.NFC_TEST F.NFC_TEST_MODE [] = 0 ∧
      t = { s with regs := t.regs, rdr := t.rdr }) ∧
  (∀ (cards : List CardIn) (s : State) (k : Fin 4) (h : Card), s.rdr.state = .hold → s.resolve cards = [] → s.rdr.cards[k] = some h →
    ∃ t, exec (.inventory cards) s = .next t ∧ t.rdr.state = .hold ∧
      (h.parked = true ∨ 1 ≤ h.misses → t.rdr.cards[k] = none) ∧
      (h.parked = false → h.misses = 0 → t.rdr.cards[k] = some { h with misses := 1 }) ∧
      t = { s with host := t.host, rdr := t.rdr }) ∧
  (∀ (cards : List CardIn) (c : CardIn) (s : State) (h : Card), s.rdr.state = .hold → s.resolve cards = [c] →
    s.rdr.cards[(0 : Fin 4)] = some h → h.uid = c.uid → h.typeB = c.typeB →
    ∃ t, exec (.inventory cards) s = .next t ∧ t.rdr.cards[(0 : Fin 4)] = some { h with misses := 0, parked := false } ∧
      t = { s with host := t.host, rdr := t.rdr }) ∧
  (∀ (pings : List Ping) (s : State), s.rdr.state = .hold → s.heldCards ≠ 0 →
    s.passed s.rdr.lastTb (s.fld R.NFC_RDCFG F.NFC_RDCFG_HOLD_MAX []) = true → s.rdr.xState ≠ 1 →
    ∃ t, exec (.holdMaxExpire pings) s = .next t ∧ t.rdr.state = .lpcd ∧
      (∀ k : Fin 4, t.rdr.cards[k] = (s.rdr.cards[k]).map (fun h => { h with parked := true })) ∧ t = { s with rdr := t.rdr }) ∧
  (∀ (sid : Sid) (v : W64) (x : Session) (s : State) (k : Fin 4) (o : Fin 6) (h : Card), s.Granted sid x R.NFC_BIND [] v →
    k = Fin.ofNat 4 (F.NFC_BIND_CARD.get v.toNat) → o.1 = F.NFC_BIND_OUTPUT.get v.toNat → s.rdr.cards[k] = some h → h.waiting = true →
    (s.so o).sid ≠ some sid →
    ∃ t g, exec (.nfcBind sid v) s = .next t ∧ s.Replies t sid x OK 1 [] ∧ t.rdr.cards[k] = some g ∧ g.bound = some o ∧ g.waiting = false ∧
      g.uid = h.uid) ∧
  (∀ (sid : Sid) (v : W64) (x : Session) (s : State), s.Granted sid x R.NFC_BIND [] v →
    6 ≤ F.NFC_BIND_OUTPUT.get v.toNat ∨ (∀ h, s.rdr.cards[(Fin.ofNat 4 (F.NFC_BIND_CARD.get v.toNat) : Fin 4)] = some h → h.waiting = false) →
    ∃ t, exec (.nfcBind sid v) s = .next t ∧ s.Replies t sid x OK 1 [] ∧ s.PathOnly t sid x) ∧
  (∀ (k : CardNo) (h : Card) (s : State), s.rdr.cards[k] = some h → h.waiting = true → s.passed h.tb 10 = true →
    ∃ t g, exec (.cardBindTimeout k) s = .next t ∧ t.rdr.cards[k] = some g ∧ g.bound = none ∧ g.waiting = false ∧ g.uid = h.uid ∧
      t = { s with host := t.host, keys := t.keys, cnt := t.cnt, log := t.log, rdr := t.rdr, draws := t.draws }) ∧
  (∀ (sid : Sid) (v : W64) (x : Session) (s : State), s.Granted sid x R.NFC_XCHG [] v → F.NFC_XCHG_GO.get v.toNat = 1 →
    (s.rdr.xState ≠ 1 →
      ∃ t, exec (.nfcXchg sid v) s = .next t ∧ s.Replies t sid x OK 1 [] ∧ s.HostKept t sid x ∧ t.rdr.cards = s.rdr.cards ∧
        (t.rdr.xState, t.rdr.xErr) = (if (s.rdr.cards[Fin.ofNat 4 (F.NFC_XCHG_CARD.get v.toNat)]).isSome then (1, 0) else (3, 0x41)) ∧
        t = { s with regs := t.regs, host := t.host, keys := t.keys, cnt := t.cnt, log := t.log, rdr := t.rdr,
                     pwr := { s.pwr with idleTb := s.clock.tb } }) ∧
    (s.rdr.xState = 1 → ∃ t, exec (.nfcXchg sid v) s = .next t ∧ s.Replies t sid x LOCKED 0 [] ∧ s.PathOnly t sid x)) ∧
  (∀ (answer : Option Bytes) (removed : Bool) (s : State), s.rdr.xState = 1 →
    ∃ t, exec (.nfcXchgDone answer removed) s = .next t ∧
      (∀ a, answer = some a → t.rdr.xState = 2 ∧ t.rdr.xLen = min 512 a.length ∧ t.rdr.response = a.take 512) ∧
      (answer = none → t.rdr.xState = 3 ∧ t.rdr.xErr = (if removed then 0x41 else 0x40) ∧ t.rdr.response = s.rdr.response) ∧
      t = { s with rdr := t.rdr })

/-! ### The service tag (R419 to R431) -/

/-- A field takes the tag's power-up replay with it: a set commit record puts the shadow into its page, and every other byte stands. A field
command that finds wired pages waiting after the first 50 ms is held until they are written. While the field lasts, the application and
a file are selected and a file is read as its access row allows; the field's end opens the tag again, the waiting pages are written, and
FDET falls 10 ms later. The host stores into the tag window's bytes and no others: at once while no field transaction runs; in its first
50 ms the write is answered BUSY, with what is left of them, and stores nothing; after them it waits for a gap; the system pages are
DENIED, and words beyond the window NOADDR. Waiting pages are served after the 50 ms. The status line is the text that R431 gives for
who writes it, in its 48 bytes of the NDEF file, and changes no other byte. -/
def Obligations.TagFilesAndWire : Prop :=
  (∀ s : State, s.tag.field = 0 → Memory.wf s.tag.mem = true →
    ∃ t, exec .tagFieldOn s = .next t ∧ t.tag.field = 1 ∧ t.tag.fdet = s.tag.fdetEn ∧ t.tag.commit = none ∧
      (s.tag.commit = none → t.tag.mem = s.tag.mem ∧ t.tag.recovered = s.tag.recovered) ∧
      (∀ p, s.tag.commit = some p → t.tag.recovered = min 65535 (s.tag.recovered + 1) ∧
        (∀ i (h : i < s.tag.shadow.length), Memory.read t.tag.mem (64 * p + i) = s.tag.shadow[i]) ∧
        ∀ a, a < 64 * p ∨ 64 * p + s.tag.shadow.length ≤ a → Memory.read t.tag.mem a = Memory.read s.tag.mem a) ∧
      t = { s with tag := t.tag }) ∧
  (∀ s : State, (s.tag.txnTb = none ∨ s.tagHeld ≠ 0 ∨ s.tag.wire = [] → s.tagHold = s) ∧
    (s.tag.txnTb ≠ none → s.tagHeld = 0 → s.tag.wire ≠ [] → ∃ u, exec .tagWireServe s = .next u ∧ s.tagHold.tag.mem = u.tag.mem ∧
      s.tagHold.tag.wire = [] ∧ s.tagHold.tag.wtx = min 65535 (s.tag.wtx + 1) ∧
      s.tagHold = { s with tag := { s.tag with
        mem := u.tag.mem, shadow := u.tag.shadow, commit := u.tag.commit, wire := [], wtx := s.tagHold.tag.wtx } })) ∧
  (∀ (aid : Bytes) (s : State), 1 ≤ s.tag.field →
    ∃ t, exec (.tagSelectApplication aid) s = .next t ∧ t.tag.field = max 2 s.tag.field ∧ t.tag.mem = s.tagHold.tag.mem ∧
      t.tag.txnTb = some (s.tag.txnTb.getD s.clock.tb) ∧
      (aid = [0xD2#8, 0x76#8, 0x00#8, 0x00#8, 0x85#8, 0x01#8, 0x01#8] →
        t.tag.app = true ∧ t.tag.file = none ∧ t.tag.answer = [0x90#8, 0x00#8]) ∧
      (aid ≠ [0xD2#8, 0x76#8, 0x00#8, 0x00#8, 0x85#8, 0x01#8, 0x01#8] → t.tag.app = s.tag.app ∧ t.tag.answer = [0x6A#8, 0x82#8]) ∧
      t = { s with tag := t.tag }) ∧
  (∀ (fid : BitVec 16) (s : State), 1 ≤ s.tag.field →
    ∃ t, exec (.tagSelectFile fid) s = .next t ∧
      (∀ f, s.tag.app = true → tagFileOf fid.toNat = some f → t.tag.file = some f ∧ t.tag.answer = [0x90#8, 0x00#8]) ∧
      (s.tag.app = false ∨ tagFileOf fid.toNat = none → t.tag.file = s.tag.file ∧ t.tag.answer = [0x6A#8, 0x82#8]) ∧
      t.tag.mem = s.tagHold.tag.mem ∧
      t = { s with tag := t.tag }) ∧
  (∀ (offset le : Nat) (s : State), 1 ≤ s.tag.field →
    ∃ t, exec (.tagReadBinary offset le) s = .next t ∧
      (∀ f, s.tag.file = some f → (s.tag.field = 3 ∨ f = .cc ∨ f = .ndef) → offset < f.place.2 →
        t.tag.answer = Memory.readBytes s.tagHold.tag.mem (f.place.1 + offset) (min (min le 255) (f.place.2 - offset)) ++ [0x90#8, 0x00#8]) ∧
      (∀ f, s.tag.file = some f → (s.tag.field = 3 ∨ f = .cc ∨ f = .ndef) → f.place.2 ≤ offset → t.tag.answer = [0x6B#8, 0x00#8]) ∧
      (∀ f, s.tag.file = some f → s.tag.field ≠ 3 → f ≠ .cc → f ≠ .ndef → t.tag.answer = [0x69#8, 0x82#8]) ∧
      (s.tag.file = none → t.tag.answer = [0x69#8, 0x82#8]) ∧
      t = { s with tag := { s.tagHold.tag with answer := t.tag.answer } }) ∧
  (∀ s : State, 1 ≤ s.tag.field →
    (∃ t, exec .tagFieldLost s = .next t ∧ t.tag.field = 0 ∧ t.tag.app = false ∧ t.tag.file = none ∧ t.tag.txnTb = none ∧
      t.tag.rndB = none ∧ t.tag.lostTb = some s.clock.tb ∧ t.tag.fdet = s.tag.fdet ∧
      t.tag.mem = s.tag.serve.mem ∧ t.tag.wire = [] ∧ t = { s with tag := t.tag }) ∧
    (∃ t, exec .tagDeselect s = .next t ∧ t.tag.field = 1 ∧ t.tag.app = false ∧ t.tag.file = none ∧ t.tag.txnTb = none ∧
      t.tag.rndB = none ∧ t.tag.fdet = s.tag.fdet ∧ t.tag.mem = s.tag.serve.mem ∧ t.tag.wire = [] ∧ t = { s with tag := t.tag })) ∧
  (∀ (s : State) (t0 : Nat), s.tag.field = 0 → s.tag.lostTb = some t0 →
    ∃ t, exec .fdetRelease s = .next t ∧ (t0 + 250000 ≤ s.clock.tb → t.tag.fdet = false) ∧
      (s.clock.tb < t0 + 250000 → t.tag.fdet = s.tag.fdet) ∧ t.tag.mem = s.tag.mem ∧ t = { s with tag := t.tag }) ∧
  (∀ (sid : Sid) (offset : Nat) (words : WordList) (h : Session) (s : State), s.Ready sid h → s.mayWriteTag h.polder = true →
    h.commissioning = false → s.pwr.recovery = false → s.isDark 0x2000 = false → offset % 8 = 0 → offset < 0x4000 →
    1 ≤ words.length → words.length ≤ 128 →
    ∃ t, exec (.tagWindowWrite sid offset words) s = .next t ∧
      (0x4000 < offset + 8 * words.length → s.Replies t sid h NOADDR 0 [] ∧ s.PathOnly t sid h) ∧
      (offset < 0x100 → s.Replies t sid h DENIED 0 [] ∧ s.PathOnly t sid h) ∧
      (0x100 ≤ offset → offset + 8 * words.length ≤ 0x4000 → s.tagHeld ≠ 0 →
        s.Replies t sid h BUSY 0 [busyWord (s.tagHeld / 25) 7] ∧ s.HostKept t sid h ∧
        t = { s with host := t.host, keys := t.keys, cnt := t.cnt, log := t.log, pwr := { s.pwr with idleTb := s.clock.tb },
                     tag := { s.tag with wireBusy := min 65535 (s.tag.wireBusy + 1) } }) ∧
      (0x100 ≤ offset → offset + 8 * words.length ≤ 0x4000 → s.tag.txnTb ≠ none → s.tagHeld = 0 →
        s.Replies t sid h OK words.length [] ∧ s.HostKept t sid h ∧
        t = { s with host := t.host, keys := t.keys, cnt := t.cnt, log := t.log, pwr := { s.pwr with idleTb := s.clock.tb },
                     tag := { s.tag with wire := s.tag.wire ++ pageSplit 258 offset (wordBytes words) } }) ∧
      (0x100 ≤ offset → offset + 8 * words.length ≤ 0x4000 → s.tag.txnTb = none → s.tag.wire = [] → Memory.wf s.tag.mem = true →
        s.Replies t sid h OK words.length [] ∧ s.HostKept t sid h ∧ t.tag.wire = [] ∧ Memory.readBytes t.tag.mem offset (8 * words.length) = wordBytes words ∧
        (∀ a, a < offset ∨ offset + 8 * words.length ≤ a → Memory.read t.tag.mem a = Memory.read s.tag.mem a) ∧
        t = { s with host := t.host, keys := t.keys, cnt := t.cnt, log := t.log, pwr := { s.pwr with idleTb := s.clock.tb }, tag := t.tag })) ∧
  (∀ (sid : Sid) (offset : Nat) (words : WordList) (h : Session) (s : State), s.Ready sid h → offset % 8 = 0 →
    offset + 8 * words.length ≤ 0x4000 → 1 ≤ words.length → words.length ≤ 128 →
    s.mayWriteTag h.polder = false ∨ h.commissioning = true ∨ s.pwr.recovery = true →
    ∃ t, exec (.tagWindowWrite sid offset words) s = .next t ∧ s.Replies t sid h DENIED 0 [] ∧ s.PathOnly t sid h) ∧
  (∀ s : State, ∃ t, exec .tagWireServe s = .next t ∧ (s.tagHeld ≠ 0 → t = s) ∧ (s.tagHeld = 0 → t.tag.wire = []) ∧
    (∀ a d, s.tagHeld = 0 → s.tag.wire = [(a, d)] → a % 64 + d.length ≤ 64 → Memory.wf s.tag.mem = true →
      Memory.readBytes t.tag.mem a d.length = d ∧ ∀ b, b < a ∨ a + d.length ≤ b → Memory.read t.tag.mem b = Memory.read s.tag.mem b) ∧
    t = { s with tag := t.tag }) ∧
  (∀ (s : State) (text : String) (c : Instr), s.tag.statusOff ≠ 0 →
    (c = .statusLineWrite ∧ s.pwr.recovery = true ∧ text = "recovery mode") ∨
    (c = .statusLineWrite ∧ s.pwr.recovery = false ∧ s.hearth.running = true ∧ s.faultN = true ∧ (∃ t0, s.tag.faultSince = some t0 ∧ t0 + 250000000 ≤ s.clock.tb) ∧
      text = "out of service: fault") ∨
    (c = .statusLineWrite ∧ s.pwr.recovery = false ∧ s.hearth.running = true ∧
      (s.faultN = false ∨ ∀ t0, s.tag.faultSince = some t0 → s.clock.tb < t0 + 250000000) ∧
      text = "in service: " ++ toString s.readyCount.1 ++ " of " ++ toString s.readyCount.2 ++ " outputs ready") ∨
    (c = .statusLineNrst ∧ s.pwr.nrst = true ∧ s.pwr.vin = true ∧ text = "controller held in reset") ∨
    (c = .statusLineNotRunning ∧ s.hearth.running = false ∧ s.pwr.vin = true ∧ s.pwr.nrst = false ∧ text = "controller not running") →
    ∃ t, exec c s = .next t ∧
      (s.tag.txnTb = none → s.tag.wire = [] → Memory.wf s.tag.mem = true →
        Memory.readBytes t.tag.mem (0x140 + s.tag.statusOff) 48 = (ascii text ++ List.replicate 48 0x20#8).take 48 ∧
        ∀ a, a < 0x140 + s.tag.statusOff ∨ 0x140 + s.tag.statusOff + 48 ≤ a → Memory.read t.tag.mem a = Memory.read s.tag.mem a) ∧
      (s.tag.txnTb ≠ none → t.tag.mem = s.tag.mem ∧ t.tag.wire = s.tag.wire ++
        pageSplit 258 (0x140 + s.tag.statusOff) ((ascii text ++ List.replicate 48 0x20#8).take 48)) ∧
      t = { s with tag := t.tag }) ∧
  (∀ (s : State) (c : Instr), s.tag.statusOff = 0 → c = .statusLineWrite ∨ c = .statusLineNrst ∨ c = .statusLineNotRunning →
    ∃ t, exec c s = .next t ∧ t.tag.mem = s.tag.mem ∧ t = { s with tag := t.tag })

/-- UPDATE BINARY of 1 to 64 bytes within a file that the tag's state may write stores exactly these bytes at their place and answers 90 00;
a file it may not write is answered 69 82 and nothing is stored. When the field collapses during a write within one page, the tag's next
power-up finds the page old as a whole before the commit record is set, and new as a whole from then on; a collapse between two pages
leaves the first new and the second old. Waiting wired pages are written first. No byte outside those named changes. -/
def Obligations.PageWritesAreAtomic : Prop :=
  (∀ (w : TagWrite) (s : State) (f : TagFile), 1 ≤ s.tag.field → s.tag.file = some f →
    ∃ t, exec (.tagUpdateBinary w) s = .next t ∧
      (s.tag.field ≠ 3 ∨ f = .cc ∨ f = .svcCfg → t.tag.mem = s.tagHold.tag.mem ∧ t.tag.answer = [0x69#8, 0x82#8]) ∧
      (s.tag.field = 3 → f = .ndef ∨ f = .svcLog ∨ f = .svcMsg → 1 ≤ w.data.length → w.data.length ≤ 64 →
        f.place.2 < w.offset + w.data.length → t.tag.mem = s.tagHold.tag.mem ∧ t.tag.answer = [0x6B#8, 0x00#8]) ∧
      (s.tag.field = 3 → f = .ndef ∨ f = .svcLog ∨ f = .svcMsg → w.collapse = none → 1 ≤ w.data.length → w.data.length ≤ 64 →
        w.offset + w.data.length ≤ f.place.2 → Memory.wf s.tagHold.tag.mem = true →
        t.tag.answer = [0x90#8, 0x00#8] ∧ t.tag.field = 3 ∧ Memory.readBytes t.tag.mem (f.place.1 + w.offset) w.data.length = w.data ∧
        ∀ a, a < f.place.1 + w.offset ∨ f.place.1 + w.offset + w.data.length ≤ a →
          Memory.read t.tag.mem a = Memory.read s.tagHold.tag.mem a) ∧
      t = { s with tag := t.tag }) ∧
  (∀ (w : TagWrite) (s : State) (f : TagFile) (k : Nat) (torn : Bool), s.tag.field = 3 → s.tag.file = some f →
    f = .ndef ∨ f = .svcLog ∨ f = .svcMsg → 1 ≤ w.data.length → w.offset + w.data.length ≤ f.place.2 → w.collapse = some (k, torn) →
    (f.place.1 + w.offset) % 64 + w.data.length ≤ 64 → 1 ≤ k → k ≤ 6 → s.tagHold.tag.wire = [] → s.tagHold.tag.commit = none →
    Memory.wf s.tagHold.tag.mem = true →
    ∃ t u, exec (.tagUpdateBinary w) s = .next t ∧ t.tag.field = 0 ∧ t.tag.answer = [] ∧ exec .tagFieldOn t = .next u ∧
      (k ≤ 3 ∨ (k = 4 ∧ torn = true) → ∀ a, Memory.read u.tag.mem a = Memory.read s.tagHold.tag.mem a) ∧
      (5 ≤ k ∨ (k = 4 ∧ torn = false) → Memory.readBytes u.tag.mem (f.place.1 + w.offset) w.data.length = w.data ∧
        ∀ a, a < f.place.1 + w.offset ∨ f.place.1 + w.offset + w.data.length ≤ a →
          Memory.read u.tag.mem a = Memory.read s.tagHold.tag.mem a)) ∧
  (∀ (w : TagWrite) (s : State) (f : TagFile) (torn : Bool) (n : Nat), s.tag.field = 3 → s.tag.file = some f →
    f = .ndef ∨ f = .svcLog ∨ f = .svcMsg → w.data.length ≤ 64 → w.offset + w.data.length ≤ f.place.2 → w.collapse = some (6, torn) →
    n = 64 - (f.place.1 + w.offset) % 64 → n < w.data.length → s.tagHold.tag.wire = [] → s.tagHold.tag.commit = none →
    Memory.wf s.tagHold.tag.mem = true →
    ∃ t u, exec (.tagUpdateBinary w) s = .next t ∧ exec .tagFieldOn t = .next u ∧
      Memory.readBytes u.tag.mem (f.place.1 + w.offset) n = w.data.take n ∧
      ∀ a, a < f.place.1 + w.offset ∨ f.place.1 + w.offset + n ≤ a → Memory.read u.tag.mem a = Memory.read s.tagHold.tag.mem a)

/-- VERIFY and AUTH_FINISH share one failure count: a right password makes the tag Secured and clears it, a wrong one adds one and leaves
the tag as it was, and at 10 both are locked. A write of NFC_TAGCFG takes its settings and with UNLOCK clears the count; NFC_TAGPWD sets
the password. -/
def Obligations.TagSecrets : Prop :=
  (∀ (pw : BitVec 32) (s : State), 1 ≤ s.tag.field →
    ∃ t, exec (.tagVerify pw) s = .next t ∧ t.tag.mem = s.tagHold.tag.mem ∧
      (s.tag.pwdEn = false ∨ 10 ≤ s.tag.fails →
        t.tag.answer = [0x69#8, 0x83#8] ∧ t.tag.field = s.tag.field ∧ t.tag.fails = s.tag.fails) ∧
      (s.tag.pwdEn = true → s.tag.fails < 10 → pw.toNat = s.tag.pwd →
        t.tag.answer = [0x90#8, 0x00#8] ∧ t.tag.field = 3 ∧ t.tag.fails = 0) ∧
      (s.tag.pwdEn = true → s.tag.fails < 10 → pw.toNat ≠ s.tag.pwd →
        t.tag.answer = [0x63#8, 0x00#8] ∧ t.tag.field = s.tag.field ∧ t.tag.fails = s.tag.fails + 1) ∧ t = { s with tag := t.tag }) ∧
  (∀ (data : Bytes) (s : State), 1 ≤ s.tag.field → 10 ≤ s.tag.fails →
    ∃ t, exec (.tagAuthFinish data) s = .next t ∧ t.tag.answer = [0x69#8, 0x83#8] ∧ t.tag.field = s.tag.field ∧
      t.tag.fails = s.tag.fails ∧ t = { s with tag := t.tag }) ∧
  (∀ (sid : Sid) (v : W64) (h : Session) (s : State), s.Granted sid h R.NFC_TAGCFG [] v →
    ∃ t, exec (.tagUnlock sid v) s = .next t ∧ s.Replies t sid h OK 1 [] ∧ s.HostKept t sid h ∧
      t.tag.fails = (if F.NFC_TAGCFG_UNLOCK.get v.toNat = 1 then 0 else s.tag.fails) ∧
      t.tag.fdetEn = (F.NFC_TAGCFG_FDET_EN.get v.toNat == 1) ∧ t.tag.pwdEn = (F.NFC_TAGCFG_PWD_EN.get v.toNat == 1) ∧
      t.tag.statusOff = (if F.NFC_TAGCFG_STATUS_OFF.get v.toNat = 0 then 0 else max 2 (min 4048 (F.NFC_TAGCFG_STATUS_OFF.get v.toNat))) ∧
      t = { s with host := t.host, keys := t.keys, cnt := t.cnt, log := t.log, pwr := { s.pwr with idleTb := s.clock.tb },
                   tag := { s.tag with fails := t.tag.fails, fdetEn := t.tag.fdetEn, pwdEn := t.tag.pwdEn, statusOff := t.tag.statusOff } }) ∧
  (∀ (sid : Sid) (v : W64) (h : Session) (s : State), s.Granted sid h R.NFC_TAGPWD [] v →
    ∃ t, exec (.tagPasswordWrite sid v) s = .next t ∧ s.Replies t sid h OK 1 [] ∧ s.HostKept t sid h ∧ t.tag.pwd = F.NFC_TAGPWD_PASSWORD.get v.toNat ∧
      t = { s with host := t.host, keys := t.keys, cnt := t.cnt, log := t.log, pwr := { s.pwr with idleTb := s.clock.tb }, tag := { s.tag with pwd := t.tag.pwd } })

/-- R422: AUTH_BEGIN returns a fresh 16-byte block under the tag key, and 69 85 without a key. AUTH_FINISH with the block rotated left by
one byte, in CBC behind the reader's own block, returns the reader's block rotated the same way under the key and makes the tag Secured;
any other data do not. One block serves one AUTH_FINISH. -/
def Obligations.AesAuthentication : Prop :=
  (∀ s : State, 1 ≤ s.tag.field →
    ∃ t, exec .tagAuthBegin s = .next t ∧
      (s.tag.key = none → t.tag.answer = [0x69#8, 0x85#8] ∧ t.tag.rndB = s.tag.rndB ∧ t.draws = s.draws) ∧
      (s.tag.key = none ∨ s.hearth.running = false → t.keys = s.keys ∧ t.tag.key = s.tag.key) ∧
      (s.tag.key ≠ none → s.hearth.running = true → (s.slot 5).state = .valid → t.slot 5 = (s.keyUse 5 engTAG 0).2.slot 5) ∧
      (∀ n, n ≠ 5 → t.slot n = s.slot n) ∧
      (∀ k, s.tag.key = some k → ∃ b : Bytes, b.length = 16 ∧ t.tag.rndB = some b ∧ t.draws = s.draws + 16 ∧
        t.tag.answer = aesEnc k b ++ [0x90#8, 0x00#8]) ∧
      t = { s with keys := t.keys, cnt := t.cnt, log := t.log, draws := t.draws,
                   tag := { s.tagHold.tag with answer := t.tag.answer, rndB := t.tag.rndB, key := t.tag.key } }) ∧
  (∀ (data : Bytes) (s : State) (k b : Bytes), 1 ≤ s.tag.field → s.tag.key = some k → s.tag.rndB = some b →
    ∃ t, exec (.tagAuthFinish data) s = .next t ∧ t.tag.mem = s.tagHold.tag.mem ∧
      (s.tag.fails < 10 → data.length = 32 → xorBytes (aesDec k (data.drop 16)) (data.take 16) = b.drop 1 ++ b.take 1 →
        t.tag.field = 3 ∧ t.tag.fails = 0 ∧ t.tag.rndB = none ∧
        t.tag.answer = aesEnc k ((aesDec k (data.take 16)).drop 1 ++ (aesDec k (data.take 16)).take 1) ++ [0x90#8, 0x00#8]) ∧
      (s.tag.fails < 10 → data.length ≠ 32 ∨ xorBytes (aesDec k (data.drop 16)) (data.take 16) ≠ b.drop 1 ++ b.take 1 →
        t.tag.field = s.tag.field ∧ t.tag.fails = s.tag.fails + 1 ∧ t.tag.rndB = none ∧ t.tag.answer = [0x63#8, 0x00#8]) ∧
      t = { s with tag := t.tag }) ∧
  (∀ (data : Bytes) (s : State), 1 ≤ s.tag.field → s.tag.rndB = none →
    ∃ t, exec (.tagAuthFinish data) s = .next t ∧ t = { s with tag := { s.tagHold.tag with answer := t.tag.answer } })

/-! ### The mains mesh (R432 to R449) -/

/-- Trackers lock and unlock and count jumps, each on its own phase. A claim, a TIME frame and a relayed copy take one token and join the
queue, or are dropped and counted. A frame starts only while the mesh may send, with the transmit cost of the moment; a failed attempt
raises that cost by 2 and the fourth drops the frame; a clean frame lowers it by 1. -/
def Obligations.MeshSends : Prop :=
  (∀ (p : PhaseNo) (spacing : Nat) (s : State),
    ∃ t, exec (.trackerLock p spacing) s = .next t ∧ (∀ q, q ≠ p → t.mesh.phases[q] = s.mesh.phases[q]) ∧
      (7690 ≤ spacing → spacing ≤ 11110 → (t.mesh.phases[p]).locked = true ∧ (t.mesh.phases[p]).spacing = spacing) ∧
      (spacing < 7690 ∨ 11110 < spacing → t = s) ∧ t = { s with mesh := { s.mesh with phases := t.mesh.phases } }) ∧
  (∀ (p : PhaseNo) (silent : Bool) (s : State),
    ∃ t, exec (.trackerUnlock p silent) s = .next t ∧ (t.mesh.phases[p]).locked = false ∧
      (∀ q, q ≠ p → t.mesh.phases[q] = s.mesh.phases[q]) ∧ t = { s with mesh := { s.mesh with phases := t.mesh.phases } }) ∧
  (∀ (p : PhaseNo) (s : State),
    ∃ t, exec (.zeroCrossingJump p) s = .next t ∧ (t.mesh.phases[p]).jumps = min 65535 ((s.mesh.phases[p]).jumps + 1) ∧
      (t.mesh.phases[p]).locked = (s.mesh.phases[p]).locked ∧ (∀ q, q ≠ p → t.mesh.phases[q] = s.mesh.phases[q]) ∧
      t = { s with mesh := { s.mesh with phases := t.mesh.phases } }) ∧
  (∀ s : State, s.meshTalks = true → s.due s.mesh.claimTb 20 = true →
    ∃ t, exec .meshClaimDue s = .next t ∧ t.mesh.claimTb = some s.clock.tb ∧ t.mesh.seq = (s.mesh.seq + 1) % 256 ∧
      (1500000000 ≤ (s.mesh.refill s.clock.tb (s.reg R.MSH_DAMPER [])).orig → t.mesh.queue = s.mesh.queue ++ [⟨⟨if s.fld R.SEQ_GUARD_CFG
        F.SEQ_GUARD_CFG_SHARE [] = 1 then 1 else 2, s.nodeId, s.nodeId, 1, s.mesh.cost, (s.mesh.seq + 1) % 256, s.ownClaim⟩, false, 0⟩] ∧
        t.mesh.orig + 1500000000 = (s.mesh.refill s.clock.tb (s.reg R.MSH_DAMPER [])).orig) ∧
      ((s.mesh.refill s.clock.tb (s.reg R.MSH_DAMPER [])).orig < 1500000000 →
        t.mesh.queue = s.mesh.queue ∧ t.mesh.txDropped = min 65535 (s.mesh.txDropped + 1)) ∧ t = { s with mesh := t.mesh }) ∧
  (∀ s : State, s.meshTalks = false ∨ s.due s.mesh.claimTb 20 = false → ∃ t, exec .meshClaimDue s = .next t ∧ t = s) ∧
  (∀ (s : State) (w : Nat), s.wallNow = some w → s.meshTalks = true → s.fld R.MSH_CFG F.MSH_CFG_TIME_SRC [] = 1 →
    s.due s.mesh.timeDueTb 600 = true → 1500000000 ≤ (s.mesh.refill s.clock.tb (s.reg R.MSH_DAMPER [])).orig →
    ∃ t, exec .meshTimeDue s = .next t ∧ t.mesh.timeDueTb = some s.clock.tb ∧ t.mesh.queue = s.mesh.queue ++
      [⟨⟨3, s.nodeId, s.nodeId, 1, s.mesh.cost, (s.mesh.seq + 1) % 256, w / 1000⟩, false, 0⟩] ∧ t = { s with mesh := t.mesh }) ∧
  (∀ s : State, s.wallNow = none → ∃ t, exec .meshTimeDue s = .next t ∧ t = s) ∧
  (∀ (s : State) (x : MeshTx) (rest : List MeshTx), s.mesh.queue = x :: rest →
    ∃ t, exec .meshFrameStart s = .next t ∧ (s.meshSends = false ∨ s.mesh.sending.isSome = true → t = s) ∧
      (s.meshSends = true → s.mesh.sending = none → t.mesh.queue = rest ∧ ∃ y, t.mesh.sending = some y ∧ y.relay = x.relay ∧
        y.attempts = x.attempts ∧ y.frame.orig = x.frame.orig ∧ y.frame.seq = x.frame.seq ∧ y.frame.hops = x.frame.hops ∧
        y.frame.cost = (if x.relay then x.frame.cost else s.mesh.cost) ∧ (x.frame.type ≠ 3 → y.frame.payload = x.frame.payload)) ∧
      t = { s with mesh := { s.mesh with queue := t.mesh.queue, sending := t.mesh.sending } }) ∧
  (∀ (s : State) (x : MeshTx), s.mesh.sending = some x →
    ∃ t, exec .meshAttemptFail s = .next t ∧ t.mesh.sending = none ∧ t.mesh.cost = min 15 (s.mesh.cost + 2) ∧
      (x.attempts < 3 → t.mesh.queue = { x with attempts := x.attempts + 1 } :: s.mesh.queue ∧ t.mesh.txDropped = s.mesh.txDropped) ∧
      (3 ≤ x.attempts → t.mesh.queue = s.mesh.queue ∧ t.mesh.txDropped = min 65535 (s.mesh.txDropped + 1)) ∧ t = { s with mesh := t.mesh }) ∧
  (∀ (s : State) (x : MeshTx), s.mesh.sending = some x →
    ∃ t, exec .meshFrameSent s = .next t ∧ t.mesh.sending = none ∧ t.mesh.cost = s.mesh.cost - 1 ∧ t.mesh.queue = s.mesh.queue ∧
      t.mesh.txOk = (s.mesh.txOk + 1) % 65536 ∧ t = { s with mesh := t.mesh }) ∧
  (∀ (s : State) (w : MeshTx) (rest : List MeshTx), s.mesh.waits = w :: rest → s.meshTalks = true →
    1500000000 ≤ (s.mesh.refill s.clock.tb (s.reg R.MSH_DAMPER [])).relays →
    ∃ t, exec .meshRelaySend s = .next t ∧ t.mesh.waits = rest ∧ t.mesh.queue = s.mesh.queue ++ [⟨w.frame, true, 0⟩] ∧
      t = { s with mesh := t.mesh })

/-- A good new CLAIM or BEACON of a node that has or gets a context is kept with its payload, moves the link cost of a direct neighbour as
the missed SEQs say, and makes a relay wait with one hop more and the whole path's cost, with the link cost before the frame (DEDUCED,
log entry 34), where the post relays; no other node's state changes. Without a context the node is counted as untracked. A copy cancels
a wait that costs as much or more. A frame under this post's own ID that it did not send is a clash. TIME stores its second. A frame
with HOPS 0 and a bad frame are counted; a context ends 120 s after the node's last accepted frame. -/
def Obligations.MeshReceives : Prop :=
  (∀ (x : MeshIn) (c : Instr) (sharing : Bool) (s : State),
    (c = .meshClaimRx x ∧ x.type = 1 ∧ sharing = true) ∨ (c = .meshBeaconRx x ∧ x.type = 2 ∧ sharing = false) → s.meshOn = true →
    x.hops.1 ≠ 0 → x.orig.1 ≠ s.nodeId → x.orig.1 ≠ 0 → (s.mesh.nodes[x.orig]).isNew x.seq.1 s.clock.tb = true →
    (s.nodeContext x.orig).isSome = true →
    ∃ t, exec c s = .next t ∧ (t.mesh.nodes[x.orig]).sid.isSome = true ∧ (t.mesh.nodes[x.orig]).payload = x.payload.toNat ∧ (t.mesh.nodes[x.orig]).sharing = sharing ∧
      (t.mesh.nodes[x.orig]).claimTb = some s.clock.tb ∧ (t.mesh.nodes[x.orig]).tb = s.clock.tb ∧
      (t.mesh.nodes[x.orig]).seqs = ((x.seq.1, s.clock.tb) :: (s.mesh.nodes[x.orig]).seqs).take 8 ∧
      (x.orig ≠ x.send → (t.mesh.nodes[x.orig]).link = (s.mesh.nodes[x.orig]).link) ∧
      (x.orig = x.send → (s.mesh.nodes[x.orig]).link = 0 → (t.mesh.nodes[x.orig]).link = 4) ∧
      (∀ g, x.orig = x.send → (s.mesh.nodes[x.orig]).link ≠ 0 → (s.mesh.nodes[x.orig]).linkSeq < 256 → g ≤ 16 →
        x.seq.1 = ((s.mesh.nodes[x.orig]).linkSeq + 1 + g) % 256 →
        (t.mesh.nodes[x.orig]).link = max 1 (min 15 ((s.mesh.nodes[x.orig]).link + 2 * g - 1))) ∧
      (∀ n, n ≠ x.orig → t.mesh.nodes[n] = s.mesh.nodes[n]) ∧
      (s.meshTalks = true → s.fld R.MSH_CFG F.MSH_CFG_RELAY [] = 1 → x.hops.1 < 7 →
        t.mesh.waits.getLast? = some ⟨⟨x.type, x.orig.1, s.nodeId, x.hops.1 + 1, min 255 (x.cost.1 + s.linkCost x.send + s.mesh.cost), x.seq.1,
          x.payload.toNat⟩, true, 0⟩) ∧
      (∀ w ∈ s.mesh.waits, w.frame.orig = x.orig.1 → w.frame.seq = x.seq.1 → x.cost.1 ≤ w.frame.cost →
        s.fld R.MSH_CFG F.MSH_CFG_RELAY [] ≠ 1 → w ∉ t.mesh.waits) ∧
      ((s.mesh.nodes[x.orig]).sid.isSome = true → t.host = s.host) ∧ t = { s with host := t.host, mesh := t.mesh }) ∧
  (∀ (x : MeshIn) (c : Instr) (s : State),
    (c = .meshClaimRx x ∧ x.type = 1) ∨ (c = .meshBeaconRx x ∧ x.type = 2) ∨ (∃ tb, c = .meshTimeRx x tb ∧ x.type = 3) → s.meshOn = true →
    x.hops.1 ≠ 0 → x.orig.1 ≠ s.nodeId → x.orig.1 ≠ 0 →
    ∃ t, exec c s = .next t ∧
      ((s.mesh.nodes[x.orig]).isNew x.seq.1 s.clock.tb = true → (s.nodeContext x.orig).isSome = false →
        t.mesh.nodes = s.mesh.nodes ∧ t.mesh.untracked = min 255 (s.mesh.untracked + 1) ∧ t = { s with mesh := t.mesh }) ∧
      ((s.mesh.nodes[x.orig]).isNew x.seq.1 s.clock.tb = false →
        (t.mesh.nodes[x.orig]).payload = (s.mesh.nodes[x.orig]).payload ∧ (t.mesh.nodes[x.orig]).seqs = (s.mesh.nodes[x.orig]).seqs ∧
        (∀ n, n ≠ x.orig → t.mesh.nodes[n] = s.mesh.nodes[n]) ∧ t.mesh.queue = s.mesh.queue ∧ t = { s with mesh := t.mesh })) ∧
  (∀ (x : MeshIn) (c : Instr) (s : State),
    (c = .meshClaimRx x ∧ x.type = 1) ∨ (c = .meshBeaconRx x ∧ x.type = 2) ∨ (∃ tb, c = .meshTimeRx x tb ∧ x.type = 3) →
    ∃ t, exec c s = .next t ∧ (s.meshOn = false → t = s) ∧
      (s.meshOn = true → x.hops.1 = 0 → t = { s with mesh := { s.mesh with rxBad := min 65535 (s.mesh.rxBad + 1) } }) ∧
      (s.meshOn = true → x.hops.1 ≠ 0 → x.orig.1 = s.nodeId → x.seq.1 ∉ s.mesh.sent →
        t.mesh.clash = true ∧ (s.mesh.clash = false → t.mesh.queue = [] ∧ t.mesh.waits = []) ∧ t.mesh.nodes = s.mesh.nodes) ∧
      t = { s with host := t.host, cnt := t.cnt, log := t.log, mesh := t.mesh }) ∧
  (∀ (x : MeshIn) (tb : Nat) (s : State), x.type = 3 → s.meshOn = true → x.hops.1 ≠ 0 → x.orig.1 ≠ s.nodeId → x.orig.1 ≠ 0 →
    (s.mesh.nodes[x.orig]).isNew x.seq.1 s.clock.tb = true → (s.nodeContext x.orig).isSome = true →
    ∃ t, exec (.meshTimeRx x tb) s = .next t ∧ t.mesh.timeS = x.payload.toNat ∧ t.mesh.timeOrig = x.orig.1 ∧ t.mesh.timeTb = tb ∧
      (t.mesh.nodes[x.orig]).payload = (s.mesh.nodes[x.orig]).payload ∧ ((s.mesh.nodes[x.orig]).sid.isSome = true → t.host = s.host) ∧
      t = { s with host := t.host, mesh := t.mesh }) ∧
  (∀ s : State, ∃ t, exec .meshFrameBad s = .next t ∧
    t = { s with mesh := { s.mesh with rxBad := min 65535 (s.mesh.rxBad + 1) } }) ∧
  (∀ (n i : Fin 64) (s : State), (s.mesh.nodes[n]).sid = some i →
    ∃ t, exec (.meshContextExpire n) s = .next t ∧
      ((s.mesh.nodes[n]).tb + 3000000000 ≤ s.clock.tb → (t.mesh.nodes[n]).sid = none ∧ t.sidUse i = .free ∧
        (∀ k, k ≠ n → t.mesh.nodes[k] = s.mesh.nodes[k]) ∧ ∀ k, k ≠ i → t.sidUse k = s.sidUse k) ∧
      (s.clock.tb < (s.mesh.nodes[n]).tb + 3000000000 → t = s) ∧ t = { s with host := t.host, mesh := t.mesh })

/-! ### Supplies, clocks and resets (chapter 15, R27, R28, R215) -/

/-- The power-fail warning sets PFW and counts it, stops the reader field and any mesh frame, and, from LEVEL 3 on while TB runs, takes a
save with reason 1 after the short tick, and otherwise none; the Fireguard, the load switches and the life cycle stay. The warning
clears alone. A brown-out is a cold reset with code 1: the device is in VAULT and T_SUPPLY counts. In EMBER the brown-out takes no save,
and a copy whose write has ended stays. VBAT lost without VIN leaves OFF, no anchor, and empty ledger deltas. NRST low with VIN there is
a cold reset with code 2 and safe-off with trigger 1; without VIN the hold is timed and nothing else happens. A hold of 30 s, with VIN
or without it, counts one T_NRST with argument 30, once, and the release puts the length of the hold into it. The thermal reset is a
cold reset with code 5, after an orderly save from LEVEL 3 on; the EMBER limit is one with code 3. -/
def Obligations.SupplyPinAndThermalResets : Prop :=
  (∀ s : State, s.pwr.pfw = false → s.pwr.vin = true → s.pwr.mode = .run →
    ∃ t, exec .powerFailWarning s = .next t ∧ t.pwr.pfw = true ∧ t.pwr.pfwCount = min 65535 (s.pwr.pfwCount + 1) ∧ t.rdr.held = true ∧
      t.mesh.sending = none ∧
      (s.clock.run = true → 3 ≤ s.pwr.level → t.nrg.saveSeq = s.nrg.saveSeq + 1 ∧ t.nrg.restoredReason = 1 ∧
        t.pwr.anchor = some { tb := s.clock.tb, rtc := s.rtcNow, wall := s.wallNow }) ∧
      (s.clock.run = false ∨ s.pwr.level < 3 → t.nrg = s.nrg ∧ t.bil = s.bil ∧ t.pwr.anchor = s.pwr.anchor) ∧
      t = { s with use := t.use, sticky := t.sticky, keys := t.keys, cnt := t.cnt, log := t.log, grate := t.grate, nrg := t.nrg, bil := t.bil,
                   mseal := t.mseal, rdr := t.rdr, mesh := t.mesh, pwr := t.pwr, draws := t.draws }) ∧
  (∀ s : State, s.pwr.pfw = true → s.pwr.vin = true →
    exec .warningClear s = .next { s with pwr := { s.pwr with pfw := false } }) ∧
  (∀ s : State, s.pwr.vin = true → s.pwr.mode = .run → s.pwr.inReset = false →
    ∃ t, exec .brownOut s = .next t ∧ s.Down t 1 ∧ t.pwr.vin = false ∧ t.pwr.mode = .vault ∧
      (t.mseal.ledger[T_SUPPLY]).dCount = min (2 ^ 32 - 1) ((s.mseal.ledger[T_SUPPLY]).dCount + 1) ∧
      (t.mseal.ledger[T_SUPPLY]).dLastArg = 1) ∧
  (∀ s : State, s.pwr.mode = .ember → s.pwr.vin = true →
    ∃ t, exec .emberBrownOut s = .next t ∧ t.pwr.inReset = true ∧ t.pwr.vin = false ∧ t.pwr.mode = .vault ∧ t.hearth.running = false ∧
      (∀ o, t.raised o = false) ∧ t.nrg.saveSeq = s.nrg.saveSeq ∧
      ((∀ r, s.nrg.copyA = some r ∨ s.nrg.copyB = some r → r.doneTb ≤ s.clock.tb) → t.nrg.copyA = s.nrg.copyA ∧ t.nrg.copyB = s.nrg.copyB) ∧
      (t.mseal.ledger[T_SUPPLY]).dCount = min (2 ^ 32 - 1) ((s.mseal.ledger[T_SUPPLY]).dCount + 1)) ∧
  (∀ s : State, s.pwr.vin = false →
    ∃ t, exec .vbatLost s = .next t ∧ t.pwr.mode = .off ∧ t.pwr.backupLost = true ∧ t.pwr.anchor = none ∧ t.pwr.cold = 0 ∧
      (∀ k : Fin 11, (t.mseal.ledger[k]).dCount = 0 ∧ (t.mseal.ledger[k]).count = (s.mseal.ledger[k]).count) ∧ t.guard.tested = false ∧
      t = { s with regs := t.regs, sticky := t.sticky, host := t.host, mseal := t.mseal, guard := t.guard, pwr := t.pwr } ∧
      t.host.table = s.host.table) ∧
  (∀ s : State, s.pwr.mode ≠ .off → s.pwr.vin = true → s.pwr.nrst = false → s.pwr.inReset = false →
    ∃ t, exec .nrstAssert s = .next t ∧ s.Down t 2 ∧ t.pwr.nrst = true ∧ t.pwr.nrstCounted = false ∧
      (s.guard.safe = none → t.guard.soTrigger = 1)) ∧
  (∀ s : State, s.pwr.mode ≠ .off → s.pwr.vin = false → s.pwr.nrst = false →
    exec .nrstAssert s = .next { s with pwr := { s.pwr with nrst := true, nrstCounted := false } }) ∧
  (∀ (held : Nat) (s : State), s.pwr.mode ≠ .off → s.pwr.nrst = true → s.pwr.nrstCounted = false → 30 ≤ held →
    ∃ t, exec (.tNrst held) s = .next t ∧ t.pwr = { s.pwr with nrstCounted := true } ∧
      (t.mseal.ledger[T_NRST]).dCount = min (2 ^ 32 - 1) ((s.mseal.ledger[T_NRST]).dCount + 1) ∧ (t.mseal.ledger[T_NRST]).dLastArg = 30 ∧
      t = { s with cnt := t.cnt, log := t.log, mseal := t.mseal, pwr := t.pwr }) ∧
  (∀ (held : Nat) (s : State), s.pwr.nrst = true →
    ∃ t, exec (.nrstRelease held) s = .next t ∧ t.pwr = { s.pwr with nrst := false, nrstCounted := false } ∧
      (s.pwr.nrstCounted = true → (s.mseal.ledger[T_NRST]).dCount ≠ 0 →
        (t.mseal.ledger[T_NRST]).dLastArg = min (2 ^ 32 - 1) held) ∧
      (s.pwr.nrstCounted = false → t.mseal = s.mseal) ∧ t = { s with mseal := t.mseal, pwr := t.pwr }) ∧
  (∀ s : State, s.pwr.vin = true → s.pwr.mode = .run → s.pwr.inReset = false →
    ∃ t, exec .thermalReset s = .next t ∧ s.Down t 5 ∧ (∀ o, t.raised o = s.raised o) ∧ t.guard.firstPulse = false ∧
      t.nrg.saveSeq = (if s.clock.run = true ∧ 3 ≤ s.pwr.level then s.nrg.saveSeq + 1 else s.nrg.saveSeq)) ∧
  (∀ s : State, s.pwr.mode = .ember → s.pwr.inReset = false → ∃ t, exec .lpLimit s = .next t ∧ s.Down t 3)

/-- The watchdog of the pair in control with no shadow ready takes an orderly save and is a warm reset with code 16: running jobs fail with
BUSY, the Fireguard starts its hold, and sessions, keys but for the save's use of slot 4, energy, TB and the contactors stay. A write of
SYS_RESET with KIND 1 is a warm reset with code 17 after an orderly save; with KIND 2 it is, after one, a cold reset with code 6, or
BUSY while an HV_EN is raised. With a shadow ready, a mismatch, an uncorrectable ECC error and a watchdog are failovers: the pairs
change roles, FAILOVERS counts, the sequencer waits, and no HV_EN, session or energy register changes. A pair that passes its self-test
becomes the shadow, one that fails is off until the next cold reset. Checkpoints and corrected errors change their own record alone. -/
def Obligations.WarmResetsAndFailovers : Prop :=
  (∀ s : State, s.up → s.shadowReady = false → (s.pwr.warmTbs.filter (fun x => decide (s.clock.tb < x + 60 * tbSecond))).length < 3 →
    ∃ t, exec .watchdog s = .next t ∧ t.hearth.running = false ∧ t.pwr.last = 16 ∧ t.pwr.warm = min 65535 (s.pwr.warm + 1) ∧
      t.pwr.inReset = false ∧ (∀ j, (s.job j).state = .running → (t.job j).state = .failed ∧ (t.job j).error = BUSY) ∧
      (∀ j, (s.job j).state ≠ .running → t.job j = s.job j) ∧ t.guard.hold.isSome = true ∧ t.guard.outs = s.guard.outs ∧
      t.nrg.saveSeq = s.nrg.saveSeq + 1 ∧ t.nrg.e = s.nrg.e ∧ (∀ n : Fin 256, n ≠ 4 → t.slot n = s.slot n) ∧
      t = { s with life := t.life, pwr := t.pwr, sticky := t.sticky, hearth := t.hearth, jobs := t.jobs, fw := t.fw, seqr := t.seqr,
                   guard := t.guard, lsw := t.lsw, log := t.log, cnt := t.cnt, nrg := t.nrg, keys := t.keys }) ∧
  (∀ (sid : Sid) (v : W64) (h : Session) (s : State), s.up → s.Granted sid h R.SYS_RESET [] (F.SYS_RESET_KIND.put v 1) →
    (s.pwr.warmTbs.filter (fun x => decide (s.clock.tb < x + 60 * tbSecond))).length < 3 →
    ∃ t, exec (.commandWarm sid v) s = .next t ∧ s.Replies t sid h OK 1 [] ∧ t.hearth.running = false ∧ t.pwr.last = 17 ∧
      t.nrg.saveSeq = s.nrg.saveSeq + 1 ∧ t.nrg.e = s.nrg.e ∧ s.HostStored t sid h ∧ t.grate = s.grate ∧ t.clock = s.clock ∧
      t.guard.outs = s.guard.outs) ∧
  (∀ (sid : Sid) (v : W64) (h : Session) (s : State), s.up →
    s.Granted sid h R.SYS_RESET [] (F.SYS_RESET_KIND.put v 2) → s.anyHv = false →
    ∃ t, exec (.commandCold sid v) s = .next t ∧ t.Answers sid h ((h.ext + 1) % 65536) OK 1 [] ∧ s.Down t 6 ∧ t.nrg.saveSeq = s.nrg.saveSeq + 1) ∧
  (∀ (sid : Sid) (v : W64) (h : Session) (s : State), s.Granted sid h R.SYS_RESET [] (F.SYS_RESET_KIND.put v 2) →
    s.anyHv = true →
    ∃ t, exec (.commandCold sid v) s = .next t ∧ s.Replies t sid h BUSY 0 [busyWord 0 7] ∧ s.PathOnly t sid h) ∧
  (∀ (c : Instr) (s : State), c = .hearthFailover ∨ c = .eccUncorrectable ∨ c = .watchdog → s.up → s.shadowReady = true →
    s.hearth.pairA = .primary →
    ∃ t, exec c s = .next t ∧ t.hearth.pairA = .selfTest (s.clock.tb + 25000 + 3750000) ∧ t.hearth.pairB = .primary ∧
      t.hearth.running = s.hearth.running ∧ t.pwr.failovers = min 65535 (s.pwr.failovers + 1) ∧ t.pwr.warm = s.pwr.warm ∧
      (c = .eccUncorrectable → t.cnt.count[(9 : Fin 24)] = (s.cnt.count[(9 : Fin 24)] + 1) % 2 ^ 48) ∧
      t.seqr = { s.seqr with suspended := true } ∧
      t = { s with sticky := t.sticky, hearth := t.hearth, cnt := t.cnt, log := t.log, seqr := t.seqr, pwr := t.pwr }) ∧
  (∀ s : State, s.up → s.shadowReady = false → exec .hearthFailover s = .next
    { s with hearth := { s.hearth with running := false }, seqr := { s.seqr with suspended := true } }) ∧
  (∀ s : State, s.up → ∃ t, exec .eccCorrectable s = .next t ∧ t.cnt.count[(8 : Fin 24)] = (s.cnt.count[(8 : Fin 24)] + 1) % 2 ^ 48 ∧
    (∀ k : Fin 24, k ≠ 8 → t.cnt.count[k] = s.cnt.count[k]) ∧ t = { s with cnt := t.cnt }) ∧
  (∀ (pass : Bool) (s : State) (x : Nat), s.hearth.pairA = .selfTest x → x ≤ s.clock.tb → (∀ y, s.hearth.pairB ≠ .selfTest y) →
    exec (.pairASelftestDone pass) s = .next { s with hearth :=
      { s.hearth with pairA := if pass then .shadow else .off, failedA := s.hearth.failedA || !pass } }) ∧
  (∀ (pass : Bool) (s : State) (x : Nat), s.hearth.pairB = .selfTest x → x ≤ s.clock.tb → (∀ y, s.hearth.pairA ≠ .selfTest y) →
    exec (.pairASelftestDone pass) s = .next { s with hearth :=
      { s.hearth with pairB := if pass then .shadow else .off, failedB := s.hearth.failedB || !pass } }) ∧
  (∀ s : State, s.hearth.running = true →
    exec .hearthCheckpoint s = .next { s with hearth := { s.hearth with checkpointTb := some s.clock.tb } })

/-- R481: a warm reset that would be the fourth within 60 s, of the watchdog or by command, is a cold reset with code 9. -/
def Obligations.FourthWarmResetIsCold : Prop :=
  (∀ s : State, s.up → s.shadowReady = false → 3 ≤ (s.pwr.warmTbs.filter (fun x => decide (s.clock.tb < x + 60 * tbSecond))).length →
    ∃ t, exec .watchdog s = .next t ∧ s.Down t 9) ∧
  (∀ (sid : Sid) (v : W64) (h : Session) (s : State), s.up → s.Granted sid h R.SYS_RESET [] (F.SYS_RESET_KIND.put v 1) →
    3 ≤ (s.pwr.warmTbs.filter (fun x => decide (s.clock.tb < x + 60 * tbSecond))).length →
    ∃ t, exec (.commandWarm sid v) s = .next t ∧ t.Answers sid h ((h.ext + 1) % 65536) OK 1 [] ∧ s.Down t 9)

/-- When the crystal stops, TB and MCLK stop and safe-off runs on every output with trigger 4; the cold reset with code 4 follows when it
ends, at once where no HV_EN is raised. The crystal is tried again every 1 s; the backup clock falls back to the LPRC and returns. The
anchor takes TB, RTC and wall time at one instant, and the RTC is reloaded from wall time. The alarm clears itself and is kept as fired.
The pilots' supply and a silent flash die are noted. -/
def Obligations.ClocksAndTime : Prop :=
  (∀ s : State, s.up → s.pwr.pll = true → s.guard.safe = none → s.anyHv = true →
    ∃ t, exec .clockLoss s = .next t ∧ t.clock = { s.clock with run := false, wall := none } ∧ t.pwr.coldAfter = some 4 ∧
      t.pwr.inReset = false ∧ t.guard.soTrigger = 4 ∧ (∃ x, t.guard.safe = some x ∧ x.trigger = 4 ∧ x.outputs = 0x3F ∧ x.thenReset = none) ∧
      (∀ o, t.raised o = s.raised o) ∧ (∀ k : Fin 4, t.sens.mclkOn[k] = false)) ∧
  (∀ s : State, s.up → s.pwr.pll = true → s.guard.safe = none → s.anyHv = false → ∃ t, exec .clockLoss s = .next t ∧ s.Down t 4) ∧
  (∀ (s : State) (strap ticks : Nat) (c : Bool), s.pwr.bootWait = some (strap, ticks, c) → s.hearth.running = true → s.pwr.xtal = false →
    s.pwr.inReset = false →
    exec (.crystalRetry false) s = .next { s with pwr := { s.pwr with bootWait := some (strap, ticks + 32768, false) } } ∧
    ∃ t, exec (.crystalRetry true) s = .next t ∧ t.pwr.level = 3 ∧ t.pwr.xtal = true ∧ t.pwr.pll = true ∧ t.clock.run = true ∧
      t.pwr.bootWait = none ∧ t.hearth.running = true) ∧
  (∀ s : State, s.pwr.mode ≠ .off → s.pwr.lprc = false →
    ∃ t, exec .xtal32Fail s = .next t ∧ t.pwr = { s.pwr with lprc := true, lprcRan := true } ∧
      t = { s with sticky := t.sticky, cnt := t.cnt, log := t.log, pwr := t.pwr }) ∧
  (∀ s : State, s.pwr.mode ≠ .off → s.pwr.lprc = true →
    ∃ t, exec .xtal32Restore s = .next t ∧ t.pwr = { s.pwr with lprc := false } ∧ t = { s with cnt := t.cnt, log := t.log, pwr := t.pwr }) ∧
  (∀ s : State, s.clock.run = true →
    ∃ t, exec .backupAnchor s = .next t ∧ t.pwr.anchor = some { tb := s.clock.tb, rtc := s.rtcNow, wall := s.wallNow } ∧
      t.rtcNow = s.rtcNow ∧ t = { s with pwr := t.pwr }) ∧
  (∀ (w : Nat) (s : State), s.clock.run = true → s.wallNow = some w →
    ∃ t, exec .rtcReload s = .next t ∧ t.rtcNow = w * 4096 / 125 % 2 ^ 48 ∧ t.wallNow = some w ∧ t = { s with pwr := t.pwr }) ∧
  (∀ (w : Nat) (s : State), s.clock.run = true → s.wallNow = some w → s.pwr.mode ≠ .off → s.fld R.PWR_ALARM F.PWR_ALARM_WALL [] ≠ 0 →
    s.fld R.PWR_ALARM F.PWR_ALARM_WALL [] ≤ w →
    ∃ t, exec .rtcAlarm s = .next t ∧ t.fld R.PWR_ALARM F.PWR_ALARM_WALL [] = 0 ∧
      t.kept R.PWR_ALARM [] &&& F.PWR_ALARM_FIRED.mask = F.PWR_ALARM_FIRED.mask ∧ t = { s with regs := t.regs, sticky := t.sticky }) ∧
  (∀ (c : Instr) (s : State), c = .pilotSupplyUp ∨ c = .pilotSupplyLoss →
    ∃ t, exec c s = .next t ∧ t.pwr = { s.pwr with pilotSupply := decide (c = .pilotSupplyUp) } ∧
      t = { s with use := t.use, keys := t.keys, host := t.host, cnt := t.cnt, log := t.log, sens := t.sens, bil := t.bil, guard := t.guard,
                   seqr := t.seqr, veh := t.veh, lsw := t.lsw, pwr := t.pwr, draws := t.draws }) ∧
  (∀ s : State, exec .flashDieFault s = .next { s with log := { s.log with flashOk := false }, pwr := { s.pwr with flashDead := true } })

/-- A cold boot with a good HEARTH image and the crystal reaches LEVEL 3 with TB running, from the anchor and the RTC where there is one and
from 0 where there is none; a pair that failed its self-test stays off. With the strap of recovery, or with no image that boots, it
stops at LEVEL 1 in recovery service. With the flash die silent the ROM waits and tries again every 1 s, one RTC second later. EMBER is
entered by command when nothing prevents it, and by itself when AUTH allows it and IDLE_S has passed: save and anchor are taken, TB and
the Hearth stop, every load-switch channel is off or latched, no session is left, and settings stay. A command that may not returns BUSY
and has no effect. An enabled source wakes the device to LEVEL 3 with its code, a pair that failed its self-test staying off; with the
strap of recovery it wakes into recovery service, and with bank E0 lost the wake is a cold reset with code 8. -/
def Obligations.BootAndEmber : Prop :=
  (∀ (strap : Fin 4) (ticks : Nat) (s : State), s.releaseDue = true → s.pwr.flashDead = false → s.life.inTransit = none →
    s.life.state ≠ .scrapped → strap.1 ≠ 1 → (s.fw.readRecord.comps[(0 : Fin 5)]).bootable = true →
    ((s.fw.readRecord.comps[(0 : Fin 5)]).judged = true →
      (s.fw.readRecord.comps[(0 : Fin 5)]).starts < 3 ∧ (s.fw.readRecord.comps[(0 : Fin 5)]).secondsNow s.clock.tb < 1800) →
    ∃ t, exec (.coldBoot strap ticks true) s = .next t ∧ t.pwr.level = 3 ∧ t.pwr.inReset = false ∧ t.pwr.mode = .run ∧ t.pwr.vin = true ∧
      t.pwr.strap = strap.1 ∧ t.hearth.running = true ∧ t.clock.run = true ∧
      (s.hearth.failedA = false → t.hearth.pairA = .primary ∧ t.hearth.pairB = if s.hearth.failedB then .off else .shadow) ∧
      (s.hearth.failedA = true → t.hearth.pairA = .off ∧ t.hearth.pairB ≠ .shadow) ∧
      (∀ a, s.pwr.anchor = some a → s.pwr.backupLost = false → t.clock.tb = a.tb + rtcToTb ticks ∧ t.pwr.spliceKind = 2) ∧
      (s.pwr.anchor = none → t.clock.tb = 0 ∧ t.pwr.spliceKind = 0)) ∧
  (∀ (ticks : Nat) (crystal : Bool) (s : State), s.releaseDue = true → s.pwr.flashDead = false → s.life.inTransit = none →
    s.life.state ≠ .scrapped →
    ∃ t, exec (.coldBoot 1 ticks crystal) s = .next t ∧ t.pwr.recovery = true ∧ t.pwr.level = 1 ∧ t.pwr.inReset = false ∧
      t.hearth = s.hearth) ∧
  (∀ (strap : Fin 4) (ticks : Nat) (crystal : Bool) (s : State), s.releaseDue = true → s.pwr.flashDead = false → s.life.inTransit = none →
    s.life.state ≠ .scrapped → (s.fw.readRecord.comps[(0 : Fin 5)]).judged = false →
    (s.fw.readRecord.comps[(0 : Fin 5)]).bootable = false →
    ∃ t, exec (.coldBoot strap ticks crystal) s = .next t ∧ t.pwr.recovery = true ∧ t.pwr.level = 1 ∧ t.pwr.inReset = false ∧
      t.hearth = s.hearth) ∧
  (∀ (strap : Fin 4) (ticks : Nat) (crystal : Bool) (s : State), s.releaseDue = true → s.pwr.flashDead = true →
    ∃ t, exec (.coldBoot strap ticks crystal) s = .next t ∧
      t.pwr = { s.pwr with vin := true, mode := .run, strap := strap.1, bootWait := some (strap.1, ticks, crystal) } ∧
      (s.pwr.vin = true ∨ s.tag.field ≠ 0 ∨ s.tag.commit = none → t.tag = s.tag) ∧
      (∀ p, s.pwr.vin = false → s.tag.field = 0 → s.tag.commit = some p → t.tag.commit = none ∧
        t.tag.mem = Memory.writeBytes (64 * p) s.tag.shadow s.tag.mem) ∧ t = { s with pwr := t.pwr, tag := t.tag }) ∧
  (∀ (strap ticks : Nat) (crystal : Bool) (s : State), s.pwr.bootWait = some (strap, ticks, crystal) → s.pwr.flashDead = true →
    s.pwr.inReset = true →
    exec (.flashRetry false) s = .next { s with pwr := { s.pwr with bootWait := some (strap, ticks + 32768, crystal) } } ∧
    (strap = 1 → s.life.inTransit = none → s.life.state ≠ .scrapped →
      ∃ t, exec (.flashRetry true) s = .next t ∧ t.pwr.flashDead = false ∧ t.pwr.recovery = true ∧ t.pwr.level = 1)) ∧
  (∀ s : State, s.fld R.PWR_SLEEPCFG F.PWR_SLEEPCFG_AUTO [] = 1 → s.hearth.running = true → s.clock.run = true → s.maySleep = true →
    s.pwr.idleTb + s.fld R.PWR_SLEEPCFG F.PWR_SLEEPCFG_IDLE_S [] * tbSecond ≤ s.clock.tb →
    ∃ t, exec .emberEntryAuto s = .next t ∧ t.pwr.mode = .ember ∧ t.pwr.level = 0 ∧ t.hearth.running = false ∧ t.clock.run = false ∧
      t.pwr.anchor = some { tb := s.clock.tb, rtc := s.rtcNow, wall := s.wallNow } ∧ t.pwr.retain = s.retainNow ∧
      t.nrg.saveSeq = s.nrg.saveSeq + 1 ∧ (∀ i : Fin 64, t.anySession i = none) ∧ (∀ n : Fin 24, (t.lsw.chans[n]).isOn = false ∧
        ((s.lsw.chans[n]).latched = true → (t.lsw.chans[n]).state = (s.lsw.chans[n]).state)) ∧
      (s.log.flashOk = true → t.log.staged = []) ∧ t.host.sluices = s.host.sluices ∧
      t = { s with hearth := t.hearth, clock := t.clock, life := t.life, keys := t.keys, host := t.host, jobs := t.jobs, cnt := t.cnt, log := t.log,
                   grate := t.grate, sens := t.sens, nrg := t.nrg, bil := t.bil, mseal := t.mseal, fw := t.fw, guard := t.guard,
                   seqr := t.seqr, veh := t.veh, lsw := t.lsw, rdr := t.rdr, mesh := t.mesh, pwr := t.pwr }) ∧
  (∀ (sid : Sid) (v : W64) (h : Session) (s : State), s.Granted sid h R.PWR_SLEEPCFG [] (F.PWR_SLEEPCFG_SLEEP.put v 1) →
    s.maySleep = true →
    ∃ t, exec (.sleep sid v) s = .next t ∧ t.Answers sid h ((h.ext + 1) % 65536) OK 1 [] ∧ t.pwr.mode = .ember ∧ t.clock.run = false ∧ t.hearth.running = false) ∧
  (∀ (sid : Sid) (v : W64) (h : Session) (s : State), s.Granted sid h R.PWR_SLEEPCFG [] (F.PWR_SLEEPCFG_SLEEP.put v 1) →
    s.maySleep = false → ∃ t, exec (.sleep sid v) s = .next t ∧ s.Replies t sid h BUSY 0 [busyWord 0 7] ∧ s.PathOnly t sid h) ∧
  (∀ (src : WakeSource) (strap : Fin 4) (ticks : Nat) (bad : BitVec 8) (s : State), s.pwr.mode = .ember → s.wakeOn src = true →
    bitOf bad.toNat 0 = false → strap.1 ≠ 1 →
    ∃ t, exec (.wakeUp src strap ticks bad) s = .next t ∧ t.pwr.mode = .run ∧ t.pwr.level = 3 ∧ t.pwr.lastWake = wakeCode src ∧
      t.pwr.lost = s.pwr.retain &&& bad.toNat ∧ t.hearth.running = true ∧ t.clock.run = true ∧ t.pwr.inReset = false ∧
      (s.hearth.failedA = false → t.hearth.pairA = .primary ∧ t.hearth.pairB = if s.hearth.failedB then .off else .shadow) ∧
      (s.hearth.failedA = true → t.hearth.pairA = .off ∧ t.hearth.pairB ≠ .shadow)) ∧
  (∀ (src : WakeSource) (ticks : Nat) (bad : BitVec 8) (s : State), s.pwr.mode = .ember → s.wakeOn src = true →
    bitOf bad.toNat 0 = false →
    ∃ t, exec (.wakeUp src 1 ticks bad) s = .next t ∧ t.pwr.mode = .run ∧ t.pwr.recovery = true ∧ t.pwr.level = 1 ∧
      t.pwr.lastWake = wakeCode src ∧ t = { s with pwr := t.pwr }) ∧
  (∀ (src : WakeSource) (strap : Fin 4) (ticks : Nat) (bad : BitVec 8) (s : State), s.pwr.mode = .ember → s.wakeOn src = true →
    bitOf bad.toNat 0 = true → s.pwr.inReset = false →
    ∃ t, exec (.wakeUp src strap ticks bad) s = .next t ∧ s.Down t 8 ∧ t.pwr.lost = 0xFF)

/-! ### Firmware update (R496 to R517), the event log and the bandwidth windows (R523 to R532) -/

/-- The update's job starts with its parameters checked, takes each block that is the next in order and whole, appends its bytes, marks
every 64th block, and goes to verification with the END block; a block that is not the next is discarded and counted, and one that does
not fit fails the job. When the token runs out the update ends with its slot; a checkpoint ends at its time with its slot. -/
def Obligations.UpdateBlocks : Prop :=
  (∀ (j : Slot) (s : State) (u : UpdateJob), (s.job j).code = 0x30 → (s.job j).state = .queued → s.fw.job = some u → u.job = j →
    ∃ t, exec (.update j) s = .next t ∧
      (s.updError u ≠ 0 → (t.job j).state = .failed ∧ (t.job j).error = s.updError u ∧ t.fw.job = none ∧
        t.fw.checkpoint = (if u.next = 0 then s.fw.checkpoint else none)) ∧
      (s.updError u = 0 → (s.job j).input = [] → (t.job j).state = .running ∧ (t.job j).cancellable = true ∧ t = { s with jobs := t.jobs }) ∧
      t = { s with jobs := t.jobs, cnt := t.cnt, log := t.log, fw := t.fw }) ∧
  (∀ (j : Slot) (s : State), (s.job j).code = 0x30 → (s.job j).state = .queued ∨ (s.job j).state = .running →
    (∀ u, s.fw.job = some u → u.job ≠ j) →
    ∃ t, exec (.update j) s = .next t ∧ (t.job j).state = .failed ∧ (t.job j).error = 0x48 ∧ t = { s with jobs := t.jobs }) ∧
  (∀ (j : Slot) (s : State) (u : UpdateJob) (w0 : W64) (rest : List W64), (s.job j).code = 0x30 → (s.job j).state = .running →
    s.fw.job = some u → u.job = j → u.stage = 1 → (s.job j).input = w0 :: rest →
    ∃ t, exec (.update j) s = .next t ∧
      (blockOk u.next (w0 :: rest) = false →
        t.fw.job = some { u with bad := min 65535 (u.bad + 1) } ∧ (t.job j).input = [] ∧ (t.job j).state = .running ∧
        t.fw.checkpoint = s.fw.checkpoint ∧ t.fw.comps = s.fw.comps) ∧
      (blockOk u.next (w0 :: rest) = true → bitsOf w0.toNat 32 4 = 1 → rest.headD 0 = 0 →
        u.data.length + bitsOf w0.toNat 48 16 ≤ u.targetLen →
        (t.job j).input = [] ∧ (t.job j).state = .running ∧
        (∃ v, t.fw.job = some v ∧ v.next = u.next + 1 ∧ v.stage = 1 ∧ v.tokenTb = s.clock.tb ∧ v.bad = u.bad ∧ v.holder = u.holder ∧
          v.data = u.data ++ (wordBytes rest.tail).take (bitsOf w0.toNat 48 16)) ∧
        ((u.next + 1) % 64 ≠ 0 → t.fw.checkpoint = s.fw.checkpoint) ∧
        ((u.next + 1) % 64 = 0 → ∃ c, t.fw.checkpoint = some c ∧ c.next = u.next + 1 ∧ c.stream = u.stream ∧ c.kind = u.kind ∧ c.comp = u.comp ∧
          c.polder = u.polder ∧ c.data = u.data ++ (wordBytes rest.tail).take (bitsOf w0.toNat 48 16))) ∧
      (blockOk u.next (w0 :: rest) = true → bitsOf w0.toNat 32 4 = 2 →
        bitsOf (rest.headD 0).toNat 0 32 + bitsOf (rest.headD 0).toNat 32 32 ≤ (s.copyBase u).length →
        u.data.length + bitsOf (rest.headD 0).toNat 32 32 ≤ u.targetLen →
        ∃ v, t.fw.job = some v ∧ v.next = u.next + 1 ∧
          v.data = u.data ++ ((s.copyBase u).drop (bitsOf (rest.headD 0).toNat 0 32)).take (bitsOf (rest.headD 0).toNat 32 32)) ∧
      (blockOk u.next (w0 :: rest) = true → bitsOf w0.toNat 32 4 = 15 → (rest.headD 0).toNat = u.targetLen → u.data.length = u.targetLen →
        u.next + 1 = u.total →
        ∃ v, t.fw.job = some v ∧ v.stage = 2 ∧ v.ended = true ∧ v.data = u.data ∧ v.next = u.total ∧ v.tokenTb = s.clock.tb) ∧
      (blockOk u.next (w0 :: rest) = true → bitsOf w0.toNat 32 4 = 1 → u.targetLen < u.data.length + bitsOf w0.toNat 48 16 →
        (t.job j).state = .failed ∧ (t.job j).error = 0x40 ∧ t.fw.job = none) ∧
      (blockOk u.next (w0 :: rest) = true → bitsOf w0.toNat 32 4 = 2 →
        (s.copyBase u).length < bitsOf (rest.headD 0).toNat 0 32 + bitsOf (rest.headD 0).toNat 32 32 →
        (t.job j).state = .failed ∧ (t.job j).error = 0x40 ∧ t.fw.job = none) ∧
      t = { s with jobs := t.jobs, cnt := t.cnt, log := t.log, fw := t.fw }) ∧
  (∀ (s : State) (u : UpdateJob), s.fw.job = some u →
    ∃ t, exec .updateTokenExpire s = .next t ∧ (s.clock.tb < u.tokenTb + 3000000000 → t = s) ∧
      (u.tokenTb + 3000000000 ≤ s.clock.tb → t.fw.job = none ∧ t.fw.checkpoint = (if u.next = 0 then s.fw.checkpoint else none) ∧
        ((s.job u.job).state = .running → (t.job u.job).state = .failed ∧ (t.job u.job).error = 0x45) ∧
        ∀ i : Fin 5, u.kind ≠ 0 ∨ i ≠ Fin.ofNat 5 u.comp → t.fw.comps[i] = s.fw.comps[i]) ∧
      t = { s with jobs := t.jobs, cnt := t.cnt, log := t.log, fw := t.fw }) ∧
  (∀ (s : State) (c : Checkpoint) (t0 : Nat), s.fw.checkpoint = some c → s.fw.job = none → c.dropTb = some t0 →
    ∃ t, exec .checkpointExpire s = .next t ∧ (s.clock.tb < t0 → t = s) ∧
      (t0 ≤ s.clock.tb → t.fw.checkpoint = none ∧ (c.kind ≠ 0 → t.fw.comps = s.fw.comps) ∧
        (c.kind = 0 → c.slotB = true → (t.fw.comps[Fin.ofNat 5 c.comp]).stB = .empty ∧
          (t.fw.comps[Fin.ofNat 5 c.comp]).stA = (s.fw.comps[Fin.ofNat 5 c.comp]).stA) ∧
        (c.kind = 0 → c.slotB = false → (t.fw.comps[Fin.ofNat 5 c.comp]).stA = .empty ∧
          (t.fw.comps[Fin.ofNat 5 c.comp]).stB = (s.fw.comps[Fin.ofNat 5 c.comp]).stB)) ∧ t = { s with fw := t.fw })

/-- Verification ends the update's download by its kind. A good image stands verified in its slot, the running slot is as it was, and the
update waits for ACTIVATE; a bad one fails the job with the first check's error. A good plan becomes the shadow plan; a bad one leaves
its refusal. A store is replaced whole. -/
def Obligations.UpdatesAreVerified : Prop :=
  (∀ (s : State) (u : UpdateJob), s.fw.job = some u → u.stage = 2 → (s.job u.job).state = .running → (s.job u.job).fits ⟨0x30, [0, 0]⟩ = true →
    ∃ t, exec .updateVerify s = .next t ∧
      (∀ img, u.kind = 0 → u.comp ≤ 4 → s.imageError u = 0 → imageOf u.data = some (u.comp, img) →
        t.fw.job = some { u with stage := 3, tokenTb := s.clock.tb } ∧ (t.job u.job).state = .running ∧
        (t.fw.comps[Fin.ofNat 5 u.comp]).active = (s.fw.comps[Fin.ofNat 5 u.comp]).active ∧
        (u.slotB = true → (t.fw.comps[Fin.ofNat 5 u.comp]).stB = .verified ∧ (t.fw.comps[Fin.ofNat 5 u.comp]).imgB = some img ∧
          t.fw.bytesB[Fin.ofNat 5 u.comp] = u.data ∧ (t.fw.comps[Fin.ofNat 5 u.comp]).imgA = (s.fw.comps[Fin.ofNat 5 u.comp]).imgA) ∧
        (u.slotB = false → (t.fw.comps[Fin.ofNat 5 u.comp]).stA = .verified ∧ (t.fw.comps[Fin.ofNat 5 u.comp]).imgA = some img ∧
          t.fw.bytesA[Fin.ofNat 5 u.comp] = u.data ∧ (t.fw.comps[Fin.ofNat 5 u.comp]).imgB = (s.fw.comps[Fin.ofNat 5 u.comp]).imgB) ∧
        ∀ i : Fin 5, i ≠ Fin.ofNat 5 u.comp → t.fw.comps[i] = s.fw.comps[i]) ∧
      (u.kind = 0 → s.imageError u ≠ 0 → (t.job u.job).state = .failed ∧ (t.job u.job).error = s.imageError u ∧ t.fw.job = none) ∧
      (∀ p, u.kind = 1 → checkPlan (s.planCtx false) u.data false = .ok p → t.grate.shadow = some p ∧ t.grate.shadowFile = u.data ∧
        t.grate.plan = s.grate.plan ∧ (t.job u.job).state = .done ∧ (t.job u.job).error = 0 ∧ t.fw.job = none) ∧
      (∀ e, u.kind = 1 → checkPlan (s.planCtx false) u.data false = .error e → t.grate.shadow = none ∧ t.grate.refuse = e ∧
        t.grate.plan = s.grate.plan ∧ (t.job u.job).state = .failed ∧ (t.job u.job).error = 0x49 ∧ t.fw.job = none) ∧
      (∀ c, u.kind = 4 → storeOf u.comp u.data = some c → t.fw.stores[Fin.ofNat 6 u.comp] = c ∧ (t.job u.job).state = .done ∧
        (t.job u.job).error = 0 ∧ ∀ i : Fin 6, i ≠ Fin.ofNat 6 u.comp → t.fw.stores[i] = s.fw.stores[i]) ∧
      (u.kind = 0 ∨ u.kind = 1 ∨ u.kind = 4 →
        t = { s with jobs := t.jobs, cnt := t.cnt, log := t.log, grate := t.grate, fw := t.fw }))

/-- R514: a scope holds at most 4 anchors. An install into a full scope fails with FULL, one of an ID already there changes nothing and ends
done, one in a scope that is not the holder's fails with DENIED; so do the removal from such a scope and that of an anchor that signed
the running or the shadow plan. A sealed install or removal counts T_CONFIG with argument 3. -/
def Obligations.AnchorScopes : Prop :=
  (∀ (s : State) (u : UpdateJob) (a : Anchor) (isSealed : Bool) (l : List Anchor), s.fw.job = some u → u.stage = 2 →
    (s.job u.job).state = .running → (s.job u.job).fits ⟨0x30, [0, 0]⟩ = true → u.kind = 2 → anchorOf u.data = some (a, isSealed) →
    l = (if isSealed then s.mseal.record.anchors else s.fw.unsealedAnchors) →
    ∃ t, exec .updateVerify s = .next t ∧
      (s.anchorGrant u.polder isSealed = false → (t.job u.job).state = .failed ∧ (t.job u.job).error = 2 ∧ t.mseal = s.mseal ∧
        t.fw.unsealedAnchors = s.fw.unsealedAnchors) ∧
      (s.anchorGrant u.polder isSealed = true → (∃ x ∈ s.mseal.record.anchors ++ s.fw.unsealedAnchors, x.id = a.id) →
        (t.job u.job).state = .done ∧ (t.job u.job).error = 0 ∧ t.mseal = s.mseal ∧ t.fw.unsealedAnchors = s.fw.unsealedAnchors) ∧
      (s.anchorGrant u.polder isSealed = true → (∀ x ∈ s.mseal.record.anchors ++ s.fw.unsealedAnchors, x.id ≠ a.id) → 4 ≤ l.length →
        (t.job u.job).state = .failed ∧ (t.job u.job).error = 8 ∧ t.mseal = s.mseal ∧ t.fw.unsealedAnchors = s.fw.unsealedAnchors) ∧
      (s.anchorGrant u.polder isSealed = true → (∀ x ∈ s.mseal.record.anchors ++ s.fw.unsealedAnchors, x.id ≠ a.id) → l.length < 4 →
        (t.job u.job).state = .done ∧ (t.job u.job).error = 0 ∧
        (isSealed = true → t.mseal.record.anchors = l ++ [a] ∧ t.fw.unsealedAnchors = s.fw.unsealedAnchors ∧
          (t.mseal.ledger[T_CONFIG]).dCount = min (2 ^ 32 - 1) ((s.mseal.ledger[T_CONFIG]).dCount + 1) ∧ (t.mseal.ledger[T_CONFIG]).dLastArg = 3) ∧
        (isSealed = false → t.fw.unsealedAnchors = l ++ [a] ∧ t.mseal = s.mseal)) ∧
      (∀ m : Fin 256, m ≠ 4 → t.slot m = s.slot m) ∧
      t = { s with keys := t.keys, jobs := t.jobs, cnt := t.cnt, log := t.log, mseal := t.mseal, fw := t.fw, draws := t.draws }) ∧
  (∀ (s : State) (u : UpdateJob) (n : Nat), s.fw.job = some u → u.stage = 2 → (s.job u.job).state = .running →
    (s.job u.job).fits ⟨0x30, [0, 0]⟩ = true → u.kind = 3 → anchorId u.data = some n →
    ∃ t, exec .updateVerify s = .next t ∧
      ((∃ p, (s.grate.plan = some p ∨ s.grate.shadow = some p) ∧ p.anchor = n) →
        (t.job u.job).state = .failed ∧ (t.job u.job).error = 2 ∧ t.mseal = s.mseal ∧ t.fw.unsealedAnchors = s.fw.unsealedAnchors) ∧
      ((∃ x ∈ s.mseal.record.anchors ++ s.fw.unsealedAnchors, x.id = n) →
        s.anchorGrant u.polder (s.mseal.record.anchors.any (fun x => x.id == n)) = false →
        (t.job u.job).state = .failed ∧ (t.job u.job).error = 2 ∧ t.mseal = s.mseal ∧ t.fw.unsealedAnchors = s.fw.unsealedAnchors) ∧
      ((∀ p, s.grate.plan = some p ∨ s.grate.shadow = some p → p.anchor ≠ n) → (∃ x ∈ s.mseal.record.anchors, x.id = n) →
        s.anchorGrant u.polder true = true → (t.job u.job).state = .done ∧ (t.job u.job).error = 0 ∧
        t.mseal.record.anchors = s.mseal.record.anchors.filter (fun x => x.id != n) ∧ t.fw.unsealedAnchors = s.fw.unsealedAnchors ∧
        (t.mseal.ledger[T_CONFIG]).dCount = min (2 ^ 32 - 1) ((s.mseal.ledger[T_CONFIG]).dCount + 1) ∧ (t.mseal.ledger[T_CONFIG]).dLastArg = 3) ∧
      ((∀ p, s.grate.plan = some p ∨ s.grate.shadow = some p → p.anchor ≠ n) → (∀ x ∈ s.mseal.record.anchors, x.id ≠ n) →
        u.polder = 2 ∨ u.polder = 4 → (t.job u.job).state = .done ∧ (t.job u.job).error = 0 ∧ t.mseal = s.mseal ∧
        t.fw.unsealedAnchors = s.fw.unsealedAnchors.filter (fun x => x.id != n)) ∧
      (∀ m : Fin 256, m ≠ 4 → t.slot m = s.slot m) ∧
      t = { s with keys := t.keys, jobs := t.jobs, cnt := t.cnt, log := t.log, mseal := t.mseal, fw := t.fw, draws := t.draws })

/-- ACTIVATE by the holder of a verified image puts the new slot on trial and restarts the component, HEARTH through a cold reset with code
7; a refused write changes nothing but REFUSE, and any other session is DENIED. CONFIRM of a healthy image ends its trial and raises its
floor; it is BUSY otherwise. REVERT, and 1800 s of trial without CONFIRM, put the other slot back, HEARTH's through a cold reset. The
trial's seconds are saved each minute. -/
def Obligations.ActivationTrialAndRevert : Prop :=
  (∀ (sid : Sid) (v w : W64) (h : Session) (s : State) (u : UpdateJob), w = F.UPD_CTRL_ACTIVATE.put v 1 → s.Granted sid h R.UPD_CTRL [] w →
    s.fw.job = some u → F.UPD_CTRL_CONFIRM.get w.toNat = 0 → F.UPD_CTRL_REVERT.get w.toNat = 0 →
    (u.stage ≠ 3 → ∃ t, exec (.activate sid v) s = .next t ∧ s.Replies t sid h OK 1 [] ∧ s.PathOnly t sid h) ∧
    (u.stage = 3 → (s.activateRefusal u).1 ≠ 0 → ∃ t, exec (.activate sid v) s = .next t ∧
      s.Replies t sid h (s.activateRefusal u).1 0 (if (s.activateRefusal u).1 = BUSY then [busyWord 0 7] else []) ∧ s.HostKept t sid h ∧
      t = { s with host := t.host, keys := t.keys, cnt := t.cnt, log := t.log, pwr := { s.pwr with idleTb := s.clock.tb },
                   fw := { s.fw with refuse := (s.activateRefusal u).2 } }) ∧
    (u.stage = 3 → (s.activateRefusal u).1 = 0 → 1 ≤ u.comp → u.comp ≤ 4 → (s.job u.job).state = .running → (s.job u.job).records.length ≤ 8 →
      (s.job u.job).resultWords ≤ 100 → s.anyHv = false → s.guard.safe = none → s.pwr.coldAfter = none → s.pwr.inReset = false →
      (∀ (k : Fin 4) (c : Card), s.rdr.cards[k] = some c → c.sid ≠ sid) → (∀ o : Fin 6, (s.so o).sid ≠ some sid) →
      ∃ t, exec (.activate sid v) s = .next t ∧ s.Replies t sid h OK 1 [] ∧ t.fw.job = none ∧ t.fw.checkpoint = none ∧
        t.fw.onTrial = some (u.comp, u.polder) ∧ (t.job u.job).state = .done ∧ (t.job u.job).error = 0 ∧
        (t.fw.comps[Fin.ofNat 5 u.comp]).active = u.slotB ∧ (t.fw.comps[Fin.ofNat 5 u.comp]).trial = true ∧
        (t.fw.comps[Fin.ofNat 5 u.comp]).recheck = false ∧ (t.fw.comps[Fin.ofNat 5 u.comp]).starts = 1 ∧
        (t.fw.comps[Fin.ofNat 5 u.comp]).seconds = 0 ∧ (t.fw.comps[Fin.ofNat 5 u.comp]).state = .active ∧
        (∀ i : Fin 5, i ≠ Fin.ofNat 5 u.comp → t.fw.comps[i] = s.fw.comps[i]) ∧
        (u.comp = 1 → t.guard.lastReset = 3 ∧ t.guard.demand = 2)) ∧
    (u.stage = 3 → (s.activateRefusal u).1 = 0 → u.comp = 0 → s.pwr.inReset = false →
      ∃ t, exec (.activate sid v) s = .next t ∧ t.Answers sid h ((h.ext + 1) % 65536) OK 1 [] ∧ s.Down t 7 ∧
        (t.fw.comps[(0 : Fin 5)]).active = u.slotB ∧ (t.fw.comps[(0 : Fin 5)]).trial = true ∧ (t.fw.comps[(0 : Fin 5)]).starts = 0 ∧
        t.fw.onTrial = some (0, u.polder))) ∧
  (∀ (sid : Sid) (v : W64) (h : Session) (s : State), s.Ready sid h → s.holds sid.1 = false →
    ∃ t, exec (.activate sid v) s = .next t ∧ s.Replies t sid h DENIED 0 [] ∧ s.PathOnly t sid h) ∧
  (∀ (sid : Sid) (v w : W64) (h : Session) (s : State), w = F.UPD_CTRL_CONFIRM.put v 1 → s.Granted sid h R.UPD_CTRL [] w →
    F.UPD_CTRL_ACTIVATE.get w.toNat = 0 → F.UPD_CTRL_REVERT.get w.toNat = 0 →
    ((∀ k, s.fw.watched = some k → s.healthy k = false) →
      ∃ t, exec (.confirm sid v) s = .next t ∧ s.Replies t sid h BUSY 0 [busyWord 0 7] ∧ s.PathOnly t sid h) ∧
    (∀ k, s.fw.watched = some k → s.healthy k = true →
      ∃ t, exec (.confirm sid v) s = .next t ∧ s.Replies t sid h OK 1 [] ∧ s.HostKept t sid h ∧ (t.fw.comps[k]).trial = false ∧
        (t.fw.comps[k]).recheck = false ∧ (t.fw.comps[k]).floor = max (s.fw.comps[k]).floor (((s.fw.comps[k]).image.map (·.svn)).getD 0) ∧
        (t.fw.comps[k]).active = (s.fw.comps[k]).active ∧ (∀ i, i ≠ k → t.fw.comps[i] = s.fw.comps[i]) ∧
        t = { s with host := t.host, keys := t.keys, cnt := t.cnt, log := t.log, pwr := { s.pwr with idleTb := s.clock.tb }, fw := t.fw })) ∧
  (∀ (sid : Sid) (v w : W64) (h : Session) (s : State), w = F.UPD_CTRL_REVERT.put v 1 → s.Granted sid h R.UPD_CTRL [] w →
    F.UPD_CTRL_ACTIVATE.get w.toNat = 0 → F.UPD_CTRL_CONFIRM.get w.toNat = 0 →
    ((∀ k : Fin 5, (s.fw.comps[k]).trial = false) →
      ∃ t, exec (.revert sid v) s = .next t ∧ s.Replies t sid h OK 1 [] ∧ s.PathOnly t sid h) ∧
    (∀ k : Fin 5, (s.fw.comps[k]).trial = true → (∀ i : Fin 5, i < k → (s.fw.comps[i]).trial = false) →
      (s.fw.comps[k]).otherState = .verified → s.pwr.inReset = false → s.pwr.coldAfter = none →
      (∀ (n : Fin 4) (c : Card), s.rdr.cards[n] = some c → c.sid ≠ sid) → (∀ o : Fin 6, (s.so o).sid ≠ some sid) →
      ∃ t, exec (.revert sid v) s = .next t ∧ s.Reverted t k ∧ t.Answers sid h ((h.ext + 1) % 65536) OK 1 [] ∧
        (k ≠ 0 → s.Replies t sid h OK 1 []) ∧ (k = 0 → s.Down t 7))) ∧
  (∀ (k : CompNo) (s : State), (s.fw.comps[k]).trial = true ∨ (s.fw.comps[k]).recheck = true →
    ((s.fw.comps[k]).secondsNow s.clock.tb < 1800 → ∃ t, exec (.trialExpire k) s = .next t ∧ t = s) ∧
    (1800 ≤ (s.fw.comps[k]).secondsNow s.clock.tb → (s.fw.comps[k]).otherState = .verified → s.pwr.inReset = false → s.pwr.coldAfter = none →
      ∃ t, exec (.trialExpire k) s = .next t ∧ s.Reverted t k ∧ (k = 0 → s.Down t 7))) ∧
  (∀ (k : CompNo) (s : State), (s.fw.comps[k]).trial = true ∨ (s.fw.comps[k]).recheck = true →
    ∃ t, exec (.trialSecondsSave k) s = .next t ∧ (s.clock.tb < (s.fw.comps[k]).secTb + 1500000000 → t = s) ∧
      ((s.fw.comps[k]).secTb + 1500000000 ≤ s.clock.tb → (t.fw.comps[k]).secTb = s.clock.tb ∧
        (t.fw.comps[k]).seconds = min 1800 ((s.fw.comps[k]).seconds + (s.clock.tb - (s.fw.comps[k]).secTb) / 25000000) ∧
        ∀ i, i ≠ k → t.fw.comps[i] = s.fw.comps[i]) ∧ t = { s with fw := t.fw })

/-- An export copies the entries of the asked classes that the polder may see, in index order, up to the count, with a record of the first
index, the number and the next index. A flush moves staged entries into the ring, which keeps the latest 16384. The fold writes one
entry for each code and source that was folded. A window that has ended is taken, and its counts start again; a write of CNT_BWCFG
starts every window at the next multiple of its length. -/
def Obligations.LogAndBandwidth : Prop :=
  (∀ (j : Slot) (s : State) (l : List LogEntry), s.jobTurn j 0x50 = true → (s.job j).records = [] →
    l = (s.log.held.filter (fun e => decide ((s.job j).param 1 ≤ e.index) &&
      (bitsOf ((s.job j).param 2) 16 8 == 0 || bitOf (bitsOf ((s.job j).param 2) 16 8) e.ev.cls) &&
      bitOf (classPolders e.ev.cls) (s.job j).polder)).take (bitsOf ((s.job j).param 2) 0 15) →
    ∃ t, exec (.logExport j) s = .next t ∧
      (bitsOf ((s.job j).param 2) 0 15 = 0 ∨ 16384 < bitsOf ((s.job j).param 2) 0 15 →
        (t.job j).state = .failed ∧ (t.job j).error = BADFRAME ∧ t = { s with jobs := t.jobs }) ∧
      (1 ≤ bitsOf ((s.job j).param 2) 0 15 → bitsOf ((s.job j).param 2) 0 15 ≤ 16384 →
        (t.job j).exported = (l.map LogEntry.bytes).flatten ∧
        (∃ w0, (t.job j).records.head? = some ⟨0x50, [w0, w64 l.length, w64 s.log.next]⟩ ∧
          ∀ e, l.head? = some e → w0 = w64 e.index) ∧
        (bitOf ((s.job j).param 2) 24 = false → (t.job j).state = .done ∧ (t.job j).error = 0 ∧ (t.job j).records.length = 1 ∧
          t = { s with jobs := t.jobs })) ∧
      t = { s with keys := t.keys, jobs := t.jobs, cnt := t.cnt, log := t.log }) ∧
  (∀ s : State,
    ∃ t, exec .logFlush s = .next t ∧ (s.log.flashOk = false → t = s) ∧
      (s.log.flashOk = true → t.log.staged = [] ∧ t.log.ring.length = min 16384 (s.log.ring.length + s.log.staged.length) ∧
        t.log.ring <:+ s.log.held) ∧ t.log.next = s.log.next ∧ t = { s with log := t.log }) ∧
  (∀ s : State,
    ∃ t, exec .logFold s = .next t ∧ t.log.folds = [] ∧ t.log.next = s.log.next + (s.log.folds.filter (fun f => f.folded != 0)).length ∧
      (∀ f, (s.log.folds.filter (fun f => f.folded != 0)).getLast? = some f → ∃ e, t.log.held.getLast? = some e ∧ e.ev = .folded ∧
        e.arg1 = f.folded ∧ e.arg0 = f.ev.code + sourceWord f.inst f.polder f.origin * 65536) ∧
      t = { s with cnt := t.cnt, log := t.log }) ∧
  (∀ (p : Port) (s : State),
    ∃ t, exec (.bwWindowEnd p) s = .next t ∧ (s.clock.tb < (s.cnt.bw[p]).start + 2 ^ s.bwK p → t = s) ∧
      ((s.cnt.bw[p]).start + 2 ^ s.bwK p ≤ s.clock.tb → (t.cnt.bw[p]).lastIn = (s.cnt.bw[p]).inBytes ∧
        (t.cnt.bw[p]).lastOut = (s.cnt.bw[p]).outBytes ∧ (t.cnt.bw[p]).peakIn = max (s.cnt.bw[p]).peakIn (s.cnt.bw[p]).inBytes ∧
        (t.cnt.bw[p]).peakOut = max (s.cnt.bw[p]).peakOut (s.cnt.bw[p]).outBytes ∧ (t.cnt.bw[p]).inBytes = 0 ∧ (t.cnt.bw[p]).outBytes = 0 ∧
        (t.cnt.bw[p]).start % 2 ^ s.bwK p = 0 ∧ (t.cnt.bw[p]).start ≤ s.clock.tb ∧ s.clock.tb < (t.cnt.bw[p]).start + 2 ^ s.bwK p) ∧
      (∀ q, q ≠ p → t.cnt.bw[q] = s.cnt.bw[q]) ∧ t = { s with cnt := { s.cnt with bw := t.cnt.bw } }) ∧
  (∀ (sid : Sid) (v : W64) (h : Session) (s : State), s.Granted sid h R.CNT_BWCFG [] v →
    ∃ t, exec (.bwcfgWrite sid v) s = .next t ∧ s.Replies t sid h OK 1 [] ∧ s.HostKept t sid h ∧
      t.reg R.CNT_BWCFG [] = clampBw (mergeMask (s.reg R.CNT_BWCFG []) v.toNat R.CNT_BWCFG.rwMask) ∧
      (∀ p : Fin 4, 16 ≤ t.bwK p ∧ t.bwK p ≤ 30 ∧ (t.cnt.bw[p]).start % 2 ^ t.bwK p = 0 ∧ s.clock.tb < (t.cnt.bw[p]).start ∧
        (t.cnt.bw[p]).start ≤ s.clock.tb + 2 ^ t.bwK p ∧ (t.cnt.bw[p]).inBytes = 0 ∧ (t.cnt.bw[p]).outBytes = 0 ∧
        (t.cnt.bw[p]).lastIn = (s.cnt.bw[p]).lastIn ∧ (t.cnt.bw[p]).peakIn = (s.cnt.bw[p]).peakIn) ∧
      t = { s with regs := t.regs, host := t.host, keys := t.keys, cnt := t.cnt, log := t.log, pwr := { s.pwr with idleTb := s.clock.tb } })
end

