-- ==== Sys2Proof/Laws/Memory.lean ====
section
/-!
SUPPORT. Laws of the tag memory and of association lists: a write keeps the canonical form, a read after a write, and a write
leaves every other place alone.
-/

namespace Sys2Proof.Machine

/-! ### Association lists -/

/-- Storing a key keeps the keys rising. -/
theorem rising_putKey {α : Type} (k : Nat) (v : α) (l : List (Nat × α)) (h : Rising l) : Rising (putKey k v l) := by
  induction l with
  | nil => simp [putKey, Rising]
  | cons p l ih =>
    obtain ⟨k', v'⟩ := p
    simp only [Rising, List.pairwise_cons] at h
    have ih' := ih h.2
    unfold putKey
    split
    · rename_i hlt
      simp only [Rising, List.pairwise_cons, List.mem_cons, forall_eq_or_imp]
      exact ⟨⟨hlt, fun q hq => Nat.lt_trans hlt (h.1 q hq)⟩, h.1, h.2⟩
    · split
      · rename_i he
        simp only [Rising, List.pairwise_cons]
        exact ⟨fun q hq => by have := h.1 q hq; omega, h.2⟩
      · rename_i hlt hne
        simp only [Rising, List.pairwise_cons]
        refine ⟨?_, ih'⟩
        have mem_put : ∀ m : List (Nat × α), ∀ q ∈ putKey k v m, q = (k, v) ∨ q ∈ m := by
          intro m
          induction m with
          | nil => intro q hq; simp [putKey] at hq; exact Or.inl hq
          | cons r m ihm =>
            obtain ⟨k2, v2⟩ := r
            intro q hq
            unfold putKey at hq
            split at hq
            · simpa [or_assoc] using hq
            · split at hq
              · rcases List.mem_cons.1 hq with e | e
                · exact Or.inl e
                · exact Or.inr (List.mem_cons_of_mem _ e)
              · rcases List.mem_cons.1 hq with e | e
                · exact Or.inr (by simp [e])
                · rcases ihm q e with e | e
                  · exact Or.inl e
                  · exact Or.inr (List.mem_cons_of_mem _ e)
        intro q hq
        rcases mem_put l q hq with e | e
        · subst e; simp only; omega
        · exact h.1 q e

/-- Leaving keys out keeps the rest rising. -/
theorem rising_filter {α : Type} (q : Nat × α → Bool) (l : List (Nat × α)) (h : Rising l) : Rising (l.filter q) :=
  List.Pairwise.filter q h

/-- A key just stored reads back. -/
@[simp] theorem getKey_putKey_same {α : Type} (k : Nat) (v : α) (l : List (Nat × α)) : getKey k (putKey k v l) = some v := by
  induction l with
  | nil => simp [putKey, getKey]
  | cons p l ih =>
    obtain ⟨k', v'⟩ := p
    unfold putKey
    split
    · simp [getKey]
    · split
      · simp [getKey]
      · rename_i h1 h2
        have : (k' == k) = false := by simp; omega
        simpa [getKey, List.find?_cons, this] using ih

/-- Storing a key leaves every other key alone. -/
theorem getKey_putKey_other {α : Type} (k k2 : Nat) (v : α) (l : List (Nat × α)) (hne : k2 ≠ k) :
    getKey k2 (putKey k v l) = getKey k2 l := by
  induction l with
  | nil => simp [putKey, getKey, Ne.symm hne]
  | cons p l ih =>
    obtain ⟨k', v'⟩ := p
    have hk : (k == k2) = false := by simp; omega
    unfold putKey
    split
    · simp [getKey, List.find?_cons, hk]
    · split
      · rename_i he
        subst he
        simp [getKey, hk]
      · by_cases hq : k' = k2
        · subst hq; simp [getKey]
        · have : (k' == k2) = false := by simpa using hq
          simpa [getKey, List.find?_cons, this] using ih

/-! ### The tag memory -/

/-- The canonical form of the tag memory, as a statement about pairs. -/
theorem Memory.wf_iff (m : List Host.Cell) : Memory.wf m = true ↔ Rising m ∧ ∀ c ∈ m, c.2 ≠ fram0 c.1 := by
  induction m with
  | nil => simp [Memory.wf, Rising]
  | cons c l ih =>
    cases l with
    | nil => simp [Memory.wf, Rising]
    | cons d l =>
      rw [Memory.wf, Bool.and_eq_true, Bool.and_eq_true, ih]
      simp only [Rising, List.pairwise_cons, List.mem_cons, forall_eq_or_imp, bne_iff_ne, decide_eq_true_eq]
      constructor
      · rintro ⟨⟨h1, h2⟩, ⟨⟨h3, h4⟩, h5, h6⟩⟩
        exact ⟨⟨⟨h2, fun q hq => Nat.lt_trans h2 (h3 q hq)⟩, h3, h4⟩, h1, h5, h6⟩
      · rintro ⟨⟨⟨h2, _⟩, h3, h4⟩, h1, h5, h6⟩
        exact ⟨⟨h1, h2⟩, ⟨h3, h4⟩, h5, h6⟩

/-- What a write can list. -/
theorem Memory.mem_write (a : Nat) (v : Byte) (m : List Host.Cell) :
    ∀ c ∈ Memory.write a v m, (c = (a, v) ∧ v ≠ fram0 a) ∨ c ∈ m := by
  induction m with
  | nil => intro c hc; unfold Memory.write at hc; split at hc <;> simp_all
  | cons d l ih =>
    intro c hc
    unfold Memory.write at hc
    split at hc
    · split at hc
      · exact Or.inr hc
      · rcases List.mem_cons.1 hc with e | e
        · exact Or.inl ⟨e, by assumption⟩
        · exact Or.inr e
    · split at hc
      · split at hc
        · exact Or.inr (List.mem_cons_of_mem _ hc)
        · rcases List.mem_cons.1 hc with e | e
          · exact Or.inl ⟨e, by assumption⟩
          · exact Or.inr (List.mem_cons_of_mem _ e)
      · rcases List.mem_cons.1 hc with e | e
        · exact Or.inr (by simp [e])
        · rcases ih c e with e | e
          · exact Or.inl e
          · exact Or.inr (List.mem_cons_of_mem _ e)

/-- A write keeps the offsets rising. -/
theorem Memory.rising_write (a : Nat) (v : Byte) (m : List Host.Cell) (h : Rising m) : Rising (Memory.write a v m) := by
  induction m with
  | nil => unfold Memory.write; split <;> simp [Rising]
  | cons d l ih =>
    have h' := h
    simp only [Rising, List.pairwise_cons] at h'
    unfold Memory.write
    split
    · rename_i hlt
      split
      · exact h
      · simp only [Rising, List.pairwise_cons, List.mem_cons, forall_eq_or_imp]
        exact ⟨⟨hlt, fun q hq => Nat.lt_trans hlt (h'.1 q hq)⟩, h'.1, h'.2⟩
    · split
      · rename_i he
        split
        · exact h'.2
        · simp only [Rising, List.pairwise_cons]
          exact ⟨fun q hq => by have := h'.1 q hq; omega, h'.2⟩
      · rename_i h1 h2
        simp only [Rising, List.pairwise_cons]
        refine ⟨fun q hq => ?_, ih h'.2⟩
        rcases Memory.mem_write a v l q hq with e | e
        · rw [e.1]; simp only; omega
        · exact h'.1 q e

/-- A write keeps the canonical form. -/
theorem Memory.wf_write (a : Nat) (v : Byte) (m : List Host.Cell) (h : Memory.wf m = true) : Memory.wf (Memory.write a v m) = true := by
  rw [Memory.wf_iff] at h ⊢
  refine ⟨Memory.rising_write a v m h.1, fun c hc => ?_⟩
  rcases Memory.mem_write a v m c hc with e | e
  · rw [e.1]; exact e.2
  · exact h.2 c e

/-- A write of a string of bytes keeps the canonical form. -/
theorem Memory.wf_writeBytes (bs : Bytes) : ∀ (a : Nat) (m : List Host.Cell), Memory.wf m = true → Memory.wf (Memory.writeBytes a bs m) = true := by
  induction bs with
  | nil => intro a m h; exact h
  | cons b bs ih => intro a m h; exact ih _ _ (Memory.wf_write a b m h)

/-- An offset below every listed one reads as an unlisted offset. -/
theorem Memory.read_unlisted (m : List Host.Cell) (a : Nat) (h : ∀ c ∈ m, c.1 ≠ a) : Memory.read m a = fram0 a := by
  induction m with
  | nil => rfl
  | cons c l ih =>
    have h1 : c.1 ≠ a := h c (by simp)
    simp only [Memory.read, h1, if_false]
    exact ih (fun d hd => h d (List.mem_cons_of_mem _ hd))

/-- A byte just written reads back. -/
theorem Memory.read_write_same (a : Nat) (v : Byte) (m : List Host.Cell) (h : Rising m) : Memory.read (Memory.write a v m) a = v := by
  induction m with
  | nil => unfold Memory.write; split <;> simp_all [Memory.read]
  | cons d l ih =>
    have h' := h
    simp only [Rising, List.pairwise_cons] at h'
    unfold Memory.write
    split
    · rename_i hlt
      split
      · rename_i hv
        rw [Memory.read_unlisted, hv]
        intro c hc
        rcases List.mem_cons.1 hc with e | e
        · rw [e]; omega
        · have := h'.1 c e; omega
      · simp [Memory.read]
    · split
      · rename_i he
        split
        · rename_i hv
          rw [Memory.read_unlisted, hv]
          intro c hc
          have := h'.1 c hc; omega
        · simp [Memory.read]
      · rename_i h1 h2
        have : d.1 ≠ a := fun e => h2 e.symm
        simp only [Memory.read, this, if_false]
        exact ih h'.2

/-- A write leaves every other byte alone. -/
theorem Memory.read_write_other (a b : Nat) (v : Byte) (m : List Host.Cell) (hne : b ≠ a) : Memory.read (Memory.write a v m) b = Memory.read m b := by
  induction m with
  | nil =>
    unfold Memory.write
    split
    · rfl
    · simp [Memory.read, Ne.symm hne]
  | cons d l ih =>
    unfold Memory.write
    split
    · split
      · rfl
      · simp [Memory.read, Ne.symm hne]
    · split
      · rename_i he
        subst he
        split
        · simp [Memory.read, Ne.symm hne]
        · simp [Memory.read, Ne.symm hne]
      · simp only [Memory.read]
        rw [ih]

/-- A string of bytes leaves every byte outside it alone. -/
theorem Memory.read_writeBytes_other (bs : Bytes) : ∀ (a b : Nat) (m : List Host.Cell), (b < a ∨ a + bs.length ≤ b) →
    Memory.read (Memory.writeBytes a bs m) b = Memory.read m b := by
  induction bs with
  | nil => intro a b m _; rfl
  | cons x bs ih =>
    intro a b m h
    simp only [List.length_cons] at h
    rw [Memory.writeBytes, ih (a + 1) b _ (by omega), Memory.read_write_other a b x m (by omega)]

/-- A byte of a string just written reads back. -/
theorem Memory.read_writeBytes (bs : Bytes) : ∀ (a i : Nat) (m : List Host.Cell), Rising m → (h : i < bs.length) →
    Memory.read (Memory.writeBytes a bs m) (a + i) = bs[i] := by
  induction bs with
  | nil => intro a i m _ h; simp at h
  | cons x bs ih =>
    intro a i m hm h
    cases i with
    | zero =>
      rw [Memory.writeBytes, Memory.read_writeBytes_other bs (a + 1) (a + 0) _ (by omega)]
      simpa using Memory.read_write_same a x m hm
    | succ i =>
      have := ih (a + 1) i (Memory.write a x m) (Memory.rising_write a x m hm) (by simpa using h)
      rw [Memory.writeBytes]
      simpa [Nat.add_assoc, Nat.add_comm 1 i] using this

end Sys2Proof.Machine
end

