-- ==== Sys2Proof/Laws/State.lean ====
section
/-!
SUPPORT. What each shared operation leaves alone, part of the state by part of the state. The modifiers of Machine/Mods.lean carry
such lemmas already.
-/

namespace Sys2Proof.Machine

/-- Two states are equal when each part is. -/
theorem State.parts {a b : State} (regs : a.regs = b.regs) (use : a.use = b.use) (sticky : a.sticky = b.sticky)
    (hearth : a.hearth = b.hearth) (clock : a.clock = b.clock) (life : a.life = b.life) (keys : a.keys = b.keys)
    (host : a.host = b.host) (jobs : a.jobs = b.jobs) (cnt : a.cnt = b.cnt) (log : a.log = b.log) (grate : a.grate = b.grate)
    (sens : a.sens = b.sens) (nrg : a.nrg = b.nrg) (bil : a.bil = b.bil) (mseal : a.mseal = b.mseal) (fw : a.fw = b.fw)
    (guard : a.guard = b.guard) (seqr : a.seqr = b.seqr) (veh : a.veh = b.veh) (lsw : a.lsw = b.lsw) (rdr : a.rdr = b.rdr)
    (tag : a.tag = b.tag) (mesh : a.mesh = b.mesh) (pwr : a.pwr = b.pwr) (draws : a.draws = b.draws)
    (pending : a.pending = b.pending) : a = b := by
  cases a; cases b; subst_vars; simp_all

@[simp] theorem State.draw_same (s) :
  (State.draw s).2.regs = s.regs ∧ (State.draw s).2.use = s.use ∧ (State.draw s).2.sticky = s.sticky ∧
  (State.draw s).2.hearth = s.hearth ∧ (State.draw s).2.clock = s.clock ∧ (State.draw s).2.life = s.life ∧
  (State.draw s).2.keys = s.keys ∧ (State.draw s).2.host = s.host ∧ (State.draw s).2.jobs = s.jobs ∧ (State.draw s).2.cnt = s.cnt ∧
  (State.draw s).2.log = s.log ∧ (State.draw s).2.grate = s.grate ∧ (State.draw s).2.sens = s.sens ∧ (State.draw s).2.nrg = s.nrg ∧
  (State.draw s).2.bil = s.bil ∧ (State.draw s).2.mseal = s.mseal ∧ (State.draw s).2.fw = s.fw ∧ (State.draw s).2.guard = s.guard ∧
  (State.draw s).2.seqr = s.seqr ∧ (State.draw s).2.veh = s.veh ∧ (State.draw s).2.lsw = s.lsw ∧ (State.draw s).2.rdr = s.rdr ∧
  (State.draw s).2.tag = s.tag ∧ (State.draw s).2.mesh = s.mesh ∧ (State.draw s).2.pwr = s.pwr ∧
  (State.draw s).2.pending = s.pending := by
  unfold State.draw; simp

@[simp] theorem State.drawBytes_same (x0 s) :
  (State.drawBytes x0 s).2.regs = s.regs ∧ (State.drawBytes x0 s).2.use = s.use ∧ (State.drawBytes x0 s).2.sticky = s.sticky ∧
  (State.drawBytes x0 s).2.hearth = s.hearth ∧ (State.drawBytes x0 s).2.clock = s.clock ∧ (State.drawBytes x0 s).2.life = s.life ∧
  (State.drawBytes x0 s).2.keys = s.keys ∧ (State.drawBytes x0 s).2.host = s.host ∧ (State.drawBytes x0 s).2.jobs = s.jobs ∧
  (State.drawBytes x0 s).2.cnt = s.cnt ∧ (State.drawBytes x0 s).2.log = s.log ∧ (State.drawBytes x0 s).2.grate = s.grate ∧
  (State.drawBytes x0 s).2.sens = s.sens ∧ (State.drawBytes x0 s).2.nrg = s.nrg ∧ (State.drawBytes x0 s).2.bil = s.bil ∧
  (State.drawBytes x0 s).2.mseal = s.mseal ∧ (State.drawBytes x0 s).2.fw = s.fw ∧ (State.drawBytes x0 s).2.guard = s.guard ∧
  (State.drawBytes x0 s).2.seqr = s.seqr ∧ (State.drawBytes x0 s).2.veh = s.veh ∧ (State.drawBytes x0 s).2.lsw = s.lsw ∧
  (State.drawBytes x0 s).2.rdr = s.rdr ∧ (State.drawBytes x0 s).2.tag = s.tag ∧ (State.drawBytes x0 s).2.mesh = s.mesh ∧
  (State.drawBytes x0 s).2.pwr = s.pwr ∧ (State.drawBytes x0 s).2.pending = s.pending := by
  unfold State.drawBytes; simp

@[simp] theorem State.setReg_same (s x1 x2 x3) :
  (State.setReg s x1 x2 x3).use = s.use ∧ (State.setReg s x1 x2 x3).sticky = s.sticky ∧ (State.setReg s x1 x2 x3).hearth = s.hearth ∧
  (State.setReg s x1 x2 x3).clock = s.clock ∧ (State.setReg s x1 x2 x3).life = s.life ∧ (State.setReg s x1 x2 x3).keys = s.keys ∧
  (State.setReg s x1 x2 x3).host = s.host ∧ (State.setReg s x1 x2 x3).jobs = s.jobs ∧ (State.setReg s x1 x2 x3).cnt = s.cnt ∧
  (State.setReg s x1 x2 x3).log = s.log ∧ (State.setReg s x1 x2 x3).grate = s.grate ∧ (State.setReg s x1 x2 x3).sens = s.sens ∧
  (State.setReg s x1 x2 x3).nrg = s.nrg ∧ (State.setReg s x1 x2 x3).bil = s.bil ∧ (State.setReg s x1 x2 x3).mseal = s.mseal ∧
  (State.setReg s x1 x2 x3).fw = s.fw ∧ (State.setReg s x1 x2 x3).guard = s.guard ∧ (State.setReg s x1 x2 x3).seqr = s.seqr ∧
  (State.setReg s x1 x2 x3).veh = s.veh ∧ (State.setReg s x1 x2 x3).lsw = s.lsw ∧ (State.setReg s x1 x2 x3).rdr = s.rdr ∧
  (State.setReg s x1 x2 x3).tag = s.tag ∧ (State.setReg s x1 x2 x3).mesh = s.mesh ∧ (State.setReg s x1 x2 x3).pwr = s.pwr ∧
  (State.setReg s x1 x2 x3).draws = s.draws ∧ (State.setReg s x1 x2 x3).pending = s.pending := by
  unfold State.setReg; simp

@[simp] theorem State.setFld_same (s x1 x2 x3 x4) :
  (State.setFld s x1 x2 x3 x4).use = s.use ∧ (State.setFld s x1 x2 x3 x4).sticky = s.sticky ∧
  (State.setFld s x1 x2 x3 x4).hearth = s.hearth ∧ (State.setFld s x1 x2 x3 x4).clock = s.clock ∧
  (State.setFld s x1 x2 x3 x4).life = s.life ∧ (State.setFld s x1 x2 x3 x4).keys = s.keys ∧
  (State.setFld s x1 x2 x3 x4).host = s.host ∧ (State.setFld s x1 x2 x3 x4).jobs = s.jobs ∧ (State.setFld s x1 x2 x3 x4).cnt = s.cnt ∧
  (State.setFld s x1 x2 x3 x4).log = s.log ∧ (State.setFld s x1 x2 x3 x4).grate = s.grate ∧
  (State.setFld s x1 x2 x3 x4).sens = s.sens ∧ (State.setFld s x1 x2 x3 x4).nrg = s.nrg ∧ (State.setFld s x1 x2 x3 x4).bil = s.bil ∧
  (State.setFld s x1 x2 x3 x4).mseal = s.mseal ∧ (State.setFld s x1 x2 x3 x4).fw = s.fw ∧
  (State.setFld s x1 x2 x3 x4).guard = s.guard ∧ (State.setFld s x1 x2 x3 x4).seqr = s.seqr ∧
  (State.setFld s x1 x2 x3 x4).veh = s.veh ∧ (State.setFld s x1 x2 x3 x4).lsw = s.lsw ∧ (State.setFld s x1 x2 x3 x4).rdr = s.rdr ∧
  (State.setFld s x1 x2 x3 x4).tag = s.tag ∧ (State.setFld s x1 x2 x3 x4).mesh = s.mesh ∧ (State.setFld s x1 x2 x3 x4).pwr = s.pwr ∧
  (State.setFld s x1 x2 x3 x4).draws = s.draws ∧ (State.setFld s x1 x2 x3 x4).pending = s.pending := by
  unfold State.setFld; simp

@[simp] theorem State.latch_same (s x1 x2 x3) :
  (State.latch s x1 x2 x3).regs = s.regs ∧ (State.latch s x1 x2 x3).use = s.use ∧ (State.latch s x1 x2 x3).hearth = s.hearth ∧
  (State.latch s x1 x2 x3).clock = s.clock ∧ (State.latch s x1 x2 x3).life = s.life ∧ (State.latch s x1 x2 x3).keys = s.keys ∧
  (State.latch s x1 x2 x3).host = s.host ∧ (State.latch s x1 x2 x3).jobs = s.jobs ∧ (State.latch s x1 x2 x3).cnt = s.cnt ∧
  (State.latch s x1 x2 x3).log = s.log ∧ (State.latch s x1 x2 x3).grate = s.grate ∧ (State.latch s x1 x2 x3).sens = s.sens ∧
  (State.latch s x1 x2 x3).nrg = s.nrg ∧ (State.latch s x1 x2 x3).bil = s.bil ∧ (State.latch s x1 x2 x3).mseal = s.mseal ∧
  (State.latch s x1 x2 x3).fw = s.fw ∧ (State.latch s x1 x2 x3).guard = s.guard ∧ (State.latch s x1 x2 x3).seqr = s.seqr ∧
  (State.latch s x1 x2 x3).veh = s.veh ∧ (State.latch s x1 x2 x3).lsw = s.lsw ∧ (State.latch s x1 x2 x3).rdr = s.rdr ∧
  (State.latch s x1 x2 x3).tag = s.tag ∧ (State.latch s x1 x2 x3).mesh = s.mesh ∧ (State.latch s x1 x2 x3).pwr = s.pwr ∧
  (State.latch s x1 x2 x3).draws = s.draws ∧ (State.latch s x1 x2 x3).pending = s.pending := by
  unfold State.latch; simp

@[simp] theorem State.takeField_same (s x1 x2 x3) :
  (State.takeField s x1 x2 x3).regs = s.regs ∧ (State.takeField s x1 x2 x3).sticky = s.sticky ∧
  (State.takeField s x1 x2 x3).hearth = s.hearth ∧ (State.takeField s x1 x2 x3).clock = s.clock ∧
  (State.takeField s x1 x2 x3).life = s.life ∧ (State.takeField s x1 x2 x3).keys = s.keys ∧
  (State.takeField s x1 x2 x3).host = s.host ∧ (State.takeField s x1 x2 x3).jobs = s.jobs ∧ (State.takeField s x1 x2 x3).cnt = s.cnt ∧
  (State.takeField s x1 x2 x3).log = s.log ∧ (State.takeField s x1 x2 x3).grate = s.grate ∧
  (State.takeField s x1 x2 x3).sens = s.sens ∧ (State.takeField s x1 x2 x3).nrg = s.nrg ∧ (State.takeField s x1 x2 x3).bil = s.bil ∧
  (State.takeField s x1 x2 x3).mseal = s.mseal ∧ (State.takeField s x1 x2 x3).fw = s.fw ∧
  (State.takeField s x1 x2 x3).guard = s.guard ∧ (State.takeField s x1 x2 x3).seqr = s.seqr ∧
  (State.takeField s x1 x2 x3).veh = s.veh ∧ (State.takeField s x1 x2 x3).lsw = s.lsw ∧ (State.takeField s x1 x2 x3).rdr = s.rdr ∧
  (State.takeField s x1 x2 x3).tag = s.tag ∧ (State.takeField s x1 x2 x3).mesh = s.mesh ∧ (State.takeField s x1 x2 x3).pwr = s.pwr ∧
  (State.takeField s x1 x2 x3).draws = s.draws ∧ (State.takeField s x1 x2 x3).pending = s.pending := by
  unfold State.takeField; simp

@[simp] theorem State.bump_same (s x1 x2) :
  (State.bump s x1 x2).regs = s.regs ∧ (State.bump s x1 x2).use = s.use ∧ (State.bump s x1 x2).sticky = s.sticky ∧
  (State.bump s x1 x2).hearth = s.hearth ∧ (State.bump s x1 x2).clock = s.clock ∧ (State.bump s x1 x2).life = s.life ∧
  (State.bump s x1 x2).keys = s.keys ∧ (State.bump s x1 x2).host = s.host ∧ (State.bump s x1 x2).jobs = s.jobs ∧
  (State.bump s x1 x2).log = s.log ∧ (State.bump s x1 x2).grate = s.grate ∧ (State.bump s x1 x2).sens = s.sens ∧
  (State.bump s x1 x2).nrg = s.nrg ∧ (State.bump s x1 x2).bil = s.bil ∧ (State.bump s x1 x2).mseal = s.mseal ∧
  (State.bump s x1 x2).fw = s.fw ∧ (State.bump s x1 x2).guard = s.guard ∧ (State.bump s x1 x2).seqr = s.seqr ∧
  (State.bump s x1 x2).veh = s.veh ∧ (State.bump s x1 x2).lsw = s.lsw ∧ (State.bump s x1 x2).rdr = s.rdr ∧
  (State.bump s x1 x2).tag = s.tag ∧ (State.bump s x1 x2).mesh = s.mesh ∧ (State.bump s x1 x2).pwr = s.pwr ∧
  (State.bump s x1 x2).draws = s.draws ∧ (State.bump s x1 x2).pending = s.pending := by
  unfold State.bump; simp

@[simp] theorem State.logRaw_same (s x1 x2 x3 x4 x5 x6) :
  (State.logRaw s x1 x2 x3 x4 x5 x6).regs = s.regs ∧ (State.logRaw s x1 x2 x3 x4 x5 x6).use = s.use ∧
  (State.logRaw s x1 x2 x3 x4 x5 x6).sticky = s.sticky ∧ (State.logRaw s x1 x2 x3 x4 x5 x6).hearth = s.hearth ∧
  (State.logRaw s x1 x2 x3 x4 x5 x6).clock = s.clock ∧ (State.logRaw s x1 x2 x3 x4 x5 x6).life = s.life ∧
  (State.logRaw s x1 x2 x3 x4 x5 x6).keys = s.keys ∧ (State.logRaw s x1 x2 x3 x4 x5 x6).host = s.host ∧
  (State.logRaw s x1 x2 x3 x4 x5 x6).jobs = s.jobs ∧ (State.logRaw s x1 x2 x3 x4 x5 x6).grate = s.grate ∧
  (State.logRaw s x1 x2 x3 x4 x5 x6).sens = s.sens ∧ (State.logRaw s x1 x2 x3 x4 x5 x6).nrg = s.nrg ∧
  (State.logRaw s x1 x2 x3 x4 x5 x6).bil = s.bil ∧ (State.logRaw s x1 x2 x3 x4 x5 x6).mseal = s.mseal ∧
  (State.logRaw s x1 x2 x3 x4 x5 x6).fw = s.fw ∧ (State.logRaw s x1 x2 x3 x4 x5 x6).guard = s.guard ∧
  (State.logRaw s x1 x2 x3 x4 x5 x6).seqr = s.seqr ∧ (State.logRaw s x1 x2 x3 x4 x5 x6).veh = s.veh ∧
  (State.logRaw s x1 x2 x3 x4 x5 x6).lsw = s.lsw ∧ (State.logRaw s x1 x2 x3 x4 x5 x6).rdr = s.rdr ∧
  (State.logRaw s x1 x2 x3 x4 x5 x6).tag = s.tag ∧ (State.logRaw s x1 x2 x3 x4 x5 x6).mesh = s.mesh ∧
  (State.logRaw s x1 x2 x3 x4 x5 x6).pwr = s.pwr ∧ (State.logRaw s x1 x2 x3 x4 x5 x6).draws = s.draws ∧
  (State.logRaw s x1 x2 x3 x4 x5 x6).pending = s.pending := by
  unfold State.logRaw; simp

@[simp] theorem State.logEv_same (s x1 x2 x3 x4 x5 x6) :
  (State.logEv s x1 x2 x3 x4 x5 x6).regs = s.regs ∧ (State.logEv s x1 x2 x3 x4 x5 x6).use = s.use ∧
  (State.logEv s x1 x2 x3 x4 x5 x6).sticky = s.sticky ∧ (State.logEv s x1 x2 x3 x4 x5 x6).hearth = s.hearth ∧
  (State.logEv s x1 x2 x3 x4 x5 x6).clock = s.clock ∧ (State.logEv s x1 x2 x3 x4 x5 x6).life = s.life ∧
  (State.logEv s x1 x2 x3 x4 x5 x6).keys = s.keys ∧ (State.logEv s x1 x2 x3 x4 x5 x6).host = s.host ∧
  (State.logEv s x1 x2 x3 x4 x5 x6).jobs = s.jobs ∧ (State.logEv s x1 x2 x3 x4 x5 x6).grate = s.grate ∧
  (State.logEv s x1 x2 x3 x4 x5 x6).sens = s.sens ∧ (State.logEv s x1 x2 x3 x4 x5 x6).nrg = s.nrg ∧
  (State.logEv s x1 x2 x3 x4 x5 x6).bil = s.bil ∧ (State.logEv s x1 x2 x3 x4 x5 x6).mseal = s.mseal ∧
  (State.logEv s x1 x2 x3 x4 x5 x6).fw = s.fw ∧ (State.logEv s x1 x2 x3 x4 x5 x6).guard = s.guard ∧
  (State.logEv s x1 x2 x3 x4 x5 x6).seqr = s.seqr ∧ (State.logEv s x1 x2 x3 x4 x5 x6).veh = s.veh ∧
  (State.logEv s x1 x2 x3 x4 x5 x6).lsw = s.lsw ∧ (State.logEv s x1 x2 x3 x4 x5 x6).rdr = s.rdr ∧
  (State.logEv s x1 x2 x3 x4 x5 x6).tag = s.tag ∧ (State.logEv s x1 x2 x3 x4 x5 x6).mesh = s.mesh ∧
  (State.logEv s x1 x2 x3 x4 x5 x6).pwr = s.pwr ∧ (State.logEv s x1 x2 x3 x4 x5 x6).draws = s.draws ∧
  (State.logEv s x1 x2 x3 x4 x5 x6).pending = s.pending := by
  unfold State.logEv; simp only; (repeat' split) <;> simp

@[simp] theorem State.tamperWall_same (s x1) :
  (State.tamperWall s x1).2.regs = s.regs ∧ (State.tamperWall s x1).2.use = s.use ∧ (State.tamperWall s x1).2.sticky = s.sticky ∧
  (State.tamperWall s x1).2.hearth = s.hearth ∧ (State.tamperWall s x1).2.clock = s.clock ∧ (State.tamperWall s x1).2.life = s.life ∧
  (State.tamperWall s x1).2.keys = s.keys ∧ (State.tamperWall s x1).2.host = s.host ∧ (State.tamperWall s x1).2.jobs = s.jobs ∧
  (State.tamperWall s x1).2.cnt = s.cnt ∧ (State.tamperWall s x1).2.log = s.log ∧ (State.tamperWall s x1).2.grate = s.grate ∧
  (State.tamperWall s x1).2.sens = s.sens ∧ (State.tamperWall s x1).2.nrg = s.nrg ∧ (State.tamperWall s x1).2.bil = s.bil ∧
  (State.tamperWall s x1).2.mseal = s.mseal ∧ (State.tamperWall s x1).2.fw = s.fw ∧ (State.tamperWall s x1).2.guard = s.guard ∧
  (State.tamperWall s x1).2.seqr = s.seqr ∧ (State.tamperWall s x1).2.veh = s.veh ∧ (State.tamperWall s x1).2.lsw = s.lsw ∧
  (State.tamperWall s x1).2.rdr = s.rdr ∧ (State.tamperWall s x1).2.tag = s.tag ∧ (State.tamperWall s x1).2.mesh = s.mesh ∧
  (State.tamperWall s x1).2.pwr = s.pwr ∧ (State.tamperWall s x1).2.pending = s.pending := by
  unfold State.tamperWall; (repeat' split) <;> simp

@[simp] theorem State.span_same (s x1 x2) :
  (State.span s x1 x2).regs = s.regs ∧ (State.span s x1 x2).use = s.use ∧ (State.span s x1 x2).sticky = s.sticky ∧
  (State.span s x1 x2).hearth = s.hearth ∧ (State.span s x1 x2).clock = s.clock ∧ (State.span s x1 x2).life = s.life ∧
  (State.span s x1 x2).keys = s.keys ∧ (State.span s x1 x2).host = s.host ∧ (State.span s x1 x2).jobs = s.jobs ∧
  (State.span s x1 x2).cnt = s.cnt ∧ (State.span s x1 x2).log = s.log ∧ (State.span s x1 x2).grate = s.grate ∧
  (State.span s x1 x2).sens = s.sens ∧ (State.span s x1 x2).nrg = s.nrg ∧ (State.span s x1 x2).bil = s.bil ∧
  (State.span s x1 x2).fw = s.fw ∧ (State.span s x1 x2).guard = s.guard ∧ (State.span s x1 x2).seqr = s.seqr ∧
  (State.span s x1 x2).veh = s.veh ∧ (State.span s x1 x2).lsw = s.lsw ∧ (State.span s x1 x2).rdr = s.rdr ∧
  (State.span s x1 x2).tag = s.tag ∧ (State.span s x1 x2).mesh = s.mesh ∧ (State.span s x1 x2).pwr = s.pwr ∧
  (State.span s x1 x2).draws = s.draws ∧ (State.span s x1 x2).pending = s.pending := by
  unfold State.span; simp

@[simp] theorem State.tamper_same (s x1 x2 x3) :
  (State.tamper s x1 x2 x3).regs = s.regs ∧ (State.tamper s x1 x2 x3).use = s.use ∧ (State.tamper s x1 x2 x3).sticky = s.sticky ∧
  (State.tamper s x1 x2 x3).hearth = s.hearth ∧ (State.tamper s x1 x2 x3).clock = s.clock ∧ (State.tamper s x1 x2 x3).life = s.life ∧
  (State.tamper s x1 x2 x3).keys = s.keys ∧ (State.tamper s x1 x2 x3).host = s.host ∧ (State.tamper s x1 x2 x3).jobs = s.jobs ∧
  (State.tamper s x1 x2 x3).grate = s.grate ∧ (State.tamper s x1 x2 x3).sens = s.sens ∧ (State.tamper s x1 x2 x3).nrg = s.nrg ∧
  (State.tamper s x1 x2 x3).bil = s.bil ∧ (State.tamper s x1 x2 x3).fw = s.fw ∧ (State.tamper s x1 x2 x3).guard = s.guard ∧
  (State.tamper s x1 x2 x3).seqr = s.seqr ∧ (State.tamper s x1 x2 x3).veh = s.veh ∧ (State.tamper s x1 x2 x3).lsw = s.lsw ∧
  (State.tamper s x1 x2 x3).rdr = s.rdr ∧ (State.tamper s x1 x2 x3).tag = s.tag ∧ (State.tamper s x1 x2 x3).mesh = s.mesh ∧
  (State.tamper s x1 x2 x3).pwr = s.pwr ∧ (State.tamper s x1 x2 x3).pending = s.pending := by
  unfold State.tamper; simp

@[simp] theorem State.onJob_same (s x1 x2) :
  (State.onJob s x1 x2).regs = s.regs ∧ (State.onJob s x1 x2).use = s.use ∧ (State.onJob s x1 x2).sticky = s.sticky ∧
  (State.onJob s x1 x2).hearth = s.hearth ∧ (State.onJob s x1 x2).clock = s.clock ∧ (State.onJob s x1 x2).life = s.life ∧
  (State.onJob s x1 x2).keys = s.keys ∧ (State.onJob s x1 x2).host = s.host ∧ (State.onJob s x1 x2).cnt = s.cnt ∧
  (State.onJob s x1 x2).log = s.log ∧ (State.onJob s x1 x2).grate = s.grate ∧ (State.onJob s x1 x2).sens = s.sens ∧
  (State.onJob s x1 x2).nrg = s.nrg ∧ (State.onJob s x1 x2).bil = s.bil ∧ (State.onJob s x1 x2).mseal = s.mseal ∧
  (State.onJob s x1 x2).fw = s.fw ∧ (State.onJob s x1 x2).guard = s.guard ∧ (State.onJob s x1 x2).seqr = s.seqr ∧
  (State.onJob s x1 x2).veh = s.veh ∧ (State.onJob s x1 x2).lsw = s.lsw ∧ (State.onJob s x1 x2).rdr = s.rdr ∧
  (State.onJob s x1 x2).tag = s.tag ∧ (State.onJob s x1 x2).mesh = s.mesh ∧ (State.onJob s x1 x2).pwr = s.pwr ∧
  (State.onJob s x1 x2).draws = s.draws ∧ (State.onJob s x1 x2).pending = s.pending := by
  unfold State.onJob; simp

@[simp] theorem State.finishJob_same (s x1 x2) :
  (State.finishJob s x1 x2).regs = s.regs ∧ (State.finishJob s x1 x2).use = s.use ∧ (State.finishJob s x1 x2).sticky = s.sticky ∧
  (State.finishJob s x1 x2).hearth = s.hearth ∧ (State.finishJob s x1 x2).clock = s.clock ∧ (State.finishJob s x1 x2).life = s.life ∧
  (State.finishJob s x1 x2).keys = s.keys ∧ (State.finishJob s x1 x2).host = s.host ∧ (State.finishJob s x1 x2).cnt = s.cnt ∧
  (State.finishJob s x1 x2).log = s.log ∧ (State.finishJob s x1 x2).grate = s.grate ∧ (State.finishJob s x1 x2).sens = s.sens ∧
  (State.finishJob s x1 x2).nrg = s.nrg ∧ (State.finishJob s x1 x2).bil = s.bil ∧ (State.finishJob s x1 x2).mseal = s.mseal ∧
  (State.finishJob s x1 x2).fw = s.fw ∧ (State.finishJob s x1 x2).guard = s.guard ∧ (State.finishJob s x1 x2).seqr = s.seqr ∧
  (State.finishJob s x1 x2).veh = s.veh ∧ (State.finishJob s x1 x2).lsw = s.lsw ∧ (State.finishJob s x1 x2).rdr = s.rdr ∧
  (State.finishJob s x1 x2).tag = s.tag ∧ (State.finishJob s x1 x2).mesh = s.mesh ∧ (State.finishJob s x1 x2).pwr = s.pwr ∧
  (State.finishJob s x1 x2).draws = s.draws ∧ (State.finishJob s x1 x2).pending = s.pending := by
  unfold State.finishJob; (repeat' split) <;> simp

@[simp] theorem State.cancelJob_same (s x1) :
  (State.cancelJob s x1).regs = s.regs ∧ (State.cancelJob s x1).use = s.use ∧ (State.cancelJob s x1).sticky = s.sticky ∧
  (State.cancelJob s x1).hearth = s.hearth ∧ (State.cancelJob s x1).clock = s.clock ∧ (State.cancelJob s x1).life = s.life ∧
  (State.cancelJob s x1).keys = s.keys ∧ (State.cancelJob s x1).host = s.host ∧ (State.cancelJob s x1).cnt = s.cnt ∧
  (State.cancelJob s x1).log = s.log ∧ (State.cancelJob s x1).grate = s.grate ∧ (State.cancelJob s x1).sens = s.sens ∧
  (State.cancelJob s x1).nrg = s.nrg ∧ (State.cancelJob s x1).bil = s.bil ∧ (State.cancelJob s x1).mseal = s.mseal ∧
  (State.cancelJob s x1).fw = s.fw ∧ (State.cancelJob s x1).guard = s.guard ∧ (State.cancelJob s x1).seqr = s.seqr ∧
  (State.cancelJob s x1).veh = s.veh ∧ (State.cancelJob s x1).lsw = s.lsw ∧ (State.cancelJob s x1).rdr = s.rdr ∧
  (State.cancelJob s x1).tag = s.tag ∧ (State.cancelJob s x1).mesh = s.mesh ∧ (State.cancelJob s x1).pwr = s.pwr ∧
  (State.cancelJob s x1).draws = s.draws ∧ (State.cancelJob s x1).pending = s.pending := by
  unfold State.cancelJob; simp

@[simp] theorem State.addRecord_same (s x1 x2 x3) :
  (State.addRecord s x1 x2 x3).regs = s.regs ∧ (State.addRecord s x1 x2 x3).use = s.use ∧
  (State.addRecord s x1 x2 x3).sticky = s.sticky ∧ (State.addRecord s x1 x2 x3).hearth = s.hearth ∧
  (State.addRecord s x1 x2 x3).clock = s.clock ∧ (State.addRecord s x1 x2 x3).life = s.life ∧
  (State.addRecord s x1 x2 x3).keys = s.keys ∧ (State.addRecord s x1 x2 x3).host = s.host ∧ (State.addRecord s x1 x2 x3).cnt = s.cnt ∧
  (State.addRecord s x1 x2 x3).log = s.log ∧ (State.addRecord s x1 x2 x3).grate = s.grate ∧
  (State.addRecord s x1 x2 x3).sens = s.sens ∧ (State.addRecord s x1 x2 x3).nrg = s.nrg ∧ (State.addRecord s x1 x2 x3).bil = s.bil ∧
  (State.addRecord s x1 x2 x3).mseal = s.mseal ∧ (State.addRecord s x1 x2 x3).fw = s.fw ∧
  (State.addRecord s x1 x2 x3).guard = s.guard ∧ (State.addRecord s x1 x2 x3).seqr = s.seqr ∧
  (State.addRecord s x1 x2 x3).veh = s.veh ∧ (State.addRecord s x1 x2 x3).lsw = s.lsw ∧ (State.addRecord s x1 x2 x3).rdr = s.rdr ∧
  (State.addRecord s x1 x2 x3).tag = s.tag ∧ (State.addRecord s x1 x2 x3).mesh = s.mesh ∧ (State.addRecord s x1 x2 x3).pwr = s.pwr ∧
  (State.addRecord s x1 x2 x3).draws = s.draws ∧ (State.addRecord s x1 x2 x3).pending = s.pending := by
  unfold State.addRecord; simp only; (repeat' split) <;> simp

@[simp] theorem State.startJob_same (s x1 x2) :
  (State.startJob s x1 x2).regs = s.regs ∧ (State.startJob s x1 x2).use = s.use ∧ (State.startJob s x1 x2).sticky = s.sticky ∧
  (State.startJob s x1 x2).hearth = s.hearth ∧ (State.startJob s x1 x2).clock = s.clock ∧ (State.startJob s x1 x2).life = s.life ∧
  (State.startJob s x1 x2).keys = s.keys ∧ (State.startJob s x1 x2).host = s.host ∧ (State.startJob s x1 x2).cnt = s.cnt ∧
  (State.startJob s x1 x2).log = s.log ∧ (State.startJob s x1 x2).grate = s.grate ∧ (State.startJob s x1 x2).sens = s.sens ∧
  (State.startJob s x1 x2).nrg = s.nrg ∧ (State.startJob s x1 x2).bil = s.bil ∧ (State.startJob s x1 x2).mseal = s.mseal ∧
  (State.startJob s x1 x2).fw = s.fw ∧ (State.startJob s x1 x2).guard = s.guard ∧ (State.startJob s x1 x2).seqr = s.seqr ∧
  (State.startJob s x1 x2).veh = s.veh ∧ (State.startJob s x1 x2).lsw = s.lsw ∧ (State.startJob s x1 x2).rdr = s.rdr ∧
  (State.startJob s x1 x2).tag = s.tag ∧ (State.startJob s x1 x2).mesh = s.mesh ∧ (State.startJob s x1 x2).pwr = s.pwr ∧
  (State.startJob s x1 x2).draws = s.draws ∧ (State.startJob s x1 x2).pending = s.pending := by
  unfold State.startJob; simp

@[simp] theorem State.onSlot_same (s x1 x2) :
  (State.onSlot s x1 x2).regs = s.regs ∧ (State.onSlot s x1 x2).use = s.use ∧ (State.onSlot s x1 x2).sticky = s.sticky ∧
  (State.onSlot s x1 x2).hearth = s.hearth ∧ (State.onSlot s x1 x2).clock = s.clock ∧ (State.onSlot s x1 x2).life = s.life ∧
  (State.onSlot s x1 x2).host = s.host ∧ (State.onSlot s x1 x2).jobs = s.jobs ∧ (State.onSlot s x1 x2).cnt = s.cnt ∧
  (State.onSlot s x1 x2).log = s.log ∧ (State.onSlot s x1 x2).grate = s.grate ∧ (State.onSlot s x1 x2).sens = s.sens ∧
  (State.onSlot s x1 x2).nrg = s.nrg ∧ (State.onSlot s x1 x2).bil = s.bil ∧ (State.onSlot s x1 x2).mseal = s.mseal ∧
  (State.onSlot s x1 x2).fw = s.fw ∧ (State.onSlot s x1 x2).guard = s.guard ∧ (State.onSlot s x1 x2).seqr = s.seqr ∧
  (State.onSlot s x1 x2).veh = s.veh ∧ (State.onSlot s x1 x2).lsw = s.lsw ∧ (State.onSlot s x1 x2).rdr = s.rdr ∧
  (State.onSlot s x1 x2).tag = s.tag ∧ (State.onSlot s x1 x2).mesh = s.mesh ∧ (State.onSlot s x1 x2).pwr = s.pwr ∧
  (State.onSlot s x1 x2).draws = s.draws ∧ (State.onSlot s x1 x2).pending = s.pending := by
  unfold State.onSlot; simp

@[simp] theorem State.refuse_same (s x1 x2 x3 x4 x5) :
  (State.refuse s x1 x2 x3 x4 x5).regs = s.regs ∧ (State.refuse s x1 x2 x3 x4 x5).use = s.use ∧
  (State.refuse s x1 x2 x3 x4 x5).sticky = s.sticky ∧ (State.refuse s x1 x2 x3 x4 x5).hearth = s.hearth ∧
  (State.refuse s x1 x2 x3 x4 x5).clock = s.clock ∧ (State.refuse s x1 x2 x3 x4 x5).life = s.life ∧
  (State.refuse s x1 x2 x3 x4 x5).host = s.host ∧ (State.refuse s x1 x2 x3 x4 x5).jobs = s.jobs ∧
  (State.refuse s x1 x2 x3 x4 x5).log = s.log ∧ (State.refuse s x1 x2 x3 x4 x5).grate = s.grate ∧
  (State.refuse s x1 x2 x3 x4 x5).sens = s.sens ∧ (State.refuse s x1 x2 x3 x4 x5).nrg = s.nrg ∧
  (State.refuse s x1 x2 x3 x4 x5).bil = s.bil ∧ (State.refuse s x1 x2 x3 x4 x5).mseal = s.mseal ∧
  (State.refuse s x1 x2 x3 x4 x5).fw = s.fw ∧ (State.refuse s x1 x2 x3 x4 x5).guard = s.guard ∧
  (State.refuse s x1 x2 x3 x4 x5).seqr = s.seqr ∧ (State.refuse s x1 x2 x3 x4 x5).veh = s.veh ∧
  (State.refuse s x1 x2 x3 x4 x5).lsw = s.lsw ∧ (State.refuse s x1 x2 x3 x4 x5).rdr = s.rdr ∧
  (State.refuse s x1 x2 x3 x4 x5).tag = s.tag ∧ (State.refuse s x1 x2 x3 x4 x5).mesh = s.mesh ∧
  (State.refuse s x1 x2 x3 x4 x5).pwr = s.pwr ∧ (State.refuse s x1 x2 x3 x4 x5).draws = s.draws ∧
  (State.refuse s x1 x2 x3 x4 x5).pending = s.pending := by
  unfold State.refuse; simp

@[simp] theorem State.keyUse_same (s x1 x2 x3) :
  (State.keyUse s x1 x2 x3).2.regs = s.regs ∧ (State.keyUse s x1 x2 x3).2.use = s.use ∧
  (State.keyUse s x1 x2 x3).2.sticky = s.sticky ∧ (State.keyUse s x1 x2 x3).2.hearth = s.hearth ∧
  (State.keyUse s x1 x2 x3).2.clock = s.clock ∧ (State.keyUse s x1 x2 x3).2.life = s.life ∧
  (State.keyUse s x1 x2 x3).2.host = s.host ∧ (State.keyUse s x1 x2 x3).2.jobs = s.jobs ∧
  (State.keyUse s x1 x2 x3).2.grate = s.grate ∧ (State.keyUse s x1 x2 x3).2.sens = s.sens ∧ (State.keyUse s x1 x2 x3).2.nrg = s.nrg ∧
  (State.keyUse s x1 x2 x3).2.bil = s.bil ∧ (State.keyUse s x1 x2 x3).2.mseal = s.mseal ∧ (State.keyUse s x1 x2 x3).2.fw = s.fw ∧
  (State.keyUse s x1 x2 x3).2.guard = s.guard ∧ (State.keyUse s x1 x2 x3).2.seqr = s.seqr ∧ (State.keyUse s x1 x2 x3).2.veh = s.veh ∧
  (State.keyUse s x1 x2 x3).2.lsw = s.lsw ∧ (State.keyUse s x1 x2 x3).2.rdr = s.rdr ∧ (State.keyUse s x1 x2 x3).2.tag = s.tag ∧
  (State.keyUse s x1 x2 x3).2.mesh = s.mesh ∧ (State.keyUse s x1 x2 x3).2.pwr = s.pwr ∧ (State.keyUse s x1 x2 x3).2.draws = s.draws ∧
  (State.keyUse s x1 x2 x3).2.pending = s.pending := by
  unfold State.keyUse; (repeat' split) <;> simp

@[simp] theorem State.orphanFrom_same (s x1) :
  (State.orphanFrom s x1).2.regs = s.regs ∧ (State.orphanFrom s x1).2.use = s.use ∧ (State.orphanFrom s x1).2.sticky = s.sticky ∧
  (State.orphanFrom s x1).2.hearth = s.hearth ∧ (State.orphanFrom s x1).2.clock = s.clock ∧ (State.orphanFrom s x1).2.life = s.life ∧
  (State.orphanFrom s x1).2.host = s.host ∧ (State.orphanFrom s x1).2.jobs = s.jobs ∧ (State.orphanFrom s x1).2.cnt = s.cnt ∧
  (State.orphanFrom s x1).2.log = s.log ∧ (State.orphanFrom s x1).2.grate = s.grate ∧ (State.orphanFrom s x1).2.sens = s.sens ∧
  (State.orphanFrom s x1).2.nrg = s.nrg ∧ (State.orphanFrom s x1).2.bil = s.bil ∧ (State.orphanFrom s x1).2.mseal = s.mseal ∧
  (State.orphanFrom s x1).2.fw = s.fw ∧ (State.orphanFrom s x1).2.guard = s.guard ∧ (State.orphanFrom s x1).2.seqr = s.seqr ∧
  (State.orphanFrom s x1).2.veh = s.veh ∧ (State.orphanFrom s x1).2.lsw = s.lsw ∧ (State.orphanFrom s x1).2.rdr = s.rdr ∧
  (State.orphanFrom s x1).2.tag = s.tag ∧ (State.orphanFrom s x1).2.mesh = s.mesh ∧ (State.orphanFrom s x1).2.pwr = s.pwr ∧
  (State.orphanFrom s x1).2.draws = s.draws ∧ (State.orphanFrom s x1).2.pending = s.pending := by
  unfold State.orphanFrom; simp

@[simp] theorem State.emptySlot_same (s x1) :
  (State.emptySlot s x1).2.regs = s.regs ∧ (State.emptySlot s x1).2.use = s.use ∧ (State.emptySlot s x1).2.sticky = s.sticky ∧
  (State.emptySlot s x1).2.hearth = s.hearth ∧ (State.emptySlot s x1).2.clock = s.clock ∧ (State.emptySlot s x1).2.life = s.life ∧
  (State.emptySlot s x1).2.host = s.host ∧ (State.emptySlot s x1).2.jobs = s.jobs ∧ (State.emptySlot s x1).2.cnt = s.cnt ∧
  (State.emptySlot s x1).2.log = s.log ∧ (State.emptySlot s x1).2.grate = s.grate ∧ (State.emptySlot s x1).2.sens = s.sens ∧
  (State.emptySlot s x1).2.nrg = s.nrg ∧ (State.emptySlot s x1).2.bil = s.bil ∧ (State.emptySlot s x1).2.mseal = s.mseal ∧
  (State.emptySlot s x1).2.fw = s.fw ∧ (State.emptySlot s x1).2.guard = s.guard ∧ (State.emptySlot s x1).2.seqr = s.seqr ∧
  (State.emptySlot s x1).2.veh = s.veh ∧ (State.emptySlot s x1).2.lsw = s.lsw ∧ (State.emptySlot s x1).2.rdr = s.rdr ∧
  (State.emptySlot s x1).2.tag = s.tag ∧ (State.emptySlot s x1).2.mesh = s.mesh ∧ (State.emptySlot s x1).2.pwr = s.pwr ∧
  (State.emptySlot s x1).2.draws = s.draws ∧ (State.emptySlot s x1).2.pending = s.pending := by
  unfold State.emptySlot; simp

@[simp] theorem State.fillSlot_same (s x1 x2) :
  (State.fillSlot s x1 x2).2.regs = s.regs ∧ (State.fillSlot s x1 x2).2.use = s.use ∧ (State.fillSlot s x1 x2).2.sticky = s.sticky ∧
  (State.fillSlot s x1 x2).2.hearth = s.hearth ∧ (State.fillSlot s x1 x2).2.clock = s.clock ∧
  (State.fillSlot s x1 x2).2.life = s.life ∧ (State.fillSlot s x1 x2).2.host = s.host ∧ (State.fillSlot s x1 x2).2.jobs = s.jobs ∧
  (State.fillSlot s x1 x2).2.cnt = s.cnt ∧ (State.fillSlot s x1 x2).2.log = s.log ∧ (State.fillSlot s x1 x2).2.grate = s.grate ∧
  (State.fillSlot s x1 x2).2.sens = s.sens ∧ (State.fillSlot s x1 x2).2.nrg = s.nrg ∧ (State.fillSlot s x1 x2).2.bil = s.bil ∧
  (State.fillSlot s x1 x2).2.mseal = s.mseal ∧ (State.fillSlot s x1 x2).2.fw = s.fw ∧ (State.fillSlot s x1 x2).2.guard = s.guard ∧
  (State.fillSlot s x1 x2).2.seqr = s.seqr ∧ (State.fillSlot s x1 x2).2.veh = s.veh ∧ (State.fillSlot s x1 x2).2.lsw = s.lsw ∧
  (State.fillSlot s x1 x2).2.rdr = s.rdr ∧ (State.fillSlot s x1 x2).2.tag = s.tag ∧ (State.fillSlot s x1 x2).2.mesh = s.mesh ∧
  (State.fillSlot s x1 x2).2.pwr = s.pwr ∧ (State.fillSlot s x1 x2).2.pending = s.pending := by
  unfold State.fillSlot; simp

@[simp] theorem State.onSession_same (s x1 x2) :
  (State.onSession s x1 x2).regs = s.regs ∧ (State.onSession s x1 x2).use = s.use ∧ (State.onSession s x1 x2).sticky = s.sticky ∧
  (State.onSession s x1 x2).hearth = s.hearth ∧ (State.onSession s x1 x2).clock = s.clock ∧ (State.onSession s x1 x2).life = s.life ∧
  (State.onSession s x1 x2).keys = s.keys ∧ (State.onSession s x1 x2).jobs = s.jobs ∧ (State.onSession s x1 x2).cnt = s.cnt ∧
  (State.onSession s x1 x2).log = s.log ∧ (State.onSession s x1 x2).grate = s.grate ∧ (State.onSession s x1 x2).sens = s.sens ∧
  (State.onSession s x1 x2).nrg = s.nrg ∧ (State.onSession s x1 x2).bil = s.bil ∧ (State.onSession s x1 x2).mseal = s.mseal ∧
  (State.onSession s x1 x2).fw = s.fw ∧ (State.onSession s x1 x2).guard = s.guard ∧ (State.onSession s x1 x2).seqr = s.seqr ∧
  (State.onSession s x1 x2).veh = s.veh ∧ (State.onSession s x1 x2).lsw = s.lsw ∧ (State.onSession s x1 x2).rdr = s.rdr ∧
  (State.onSession s x1 x2).tag = s.tag ∧ (State.onSession s x1 x2).mesh = s.mesh ∧ (State.onSession s x1 x2).pwr = s.pwr ∧
  (State.onSession s x1 x2).draws = s.draws ∧ (State.onSession s x1 x2).pending = s.pending := by
  unfold State.onSession; simp

@[simp] theorem State.freeSid_same (s x1) :
  (State.freeSid s x1).regs = s.regs ∧ (State.freeSid s x1).use = s.use ∧ (State.freeSid s x1).sticky = s.sticky ∧
  (State.freeSid s x1).hearth = s.hearth ∧ (State.freeSid s x1).clock = s.clock ∧ (State.freeSid s x1).life = s.life ∧
  (State.freeSid s x1).keys = s.keys ∧ (State.freeSid s x1).jobs = s.jobs ∧ (State.freeSid s x1).cnt = s.cnt ∧
  (State.freeSid s x1).log = s.log ∧ (State.freeSid s x1).grate = s.grate ∧ (State.freeSid s x1).sens = s.sens ∧
  (State.freeSid s x1).nrg = s.nrg ∧ (State.freeSid s x1).bil = s.bil ∧ (State.freeSid s x1).mseal = s.mseal ∧
  (State.freeSid s x1).fw = s.fw ∧ (State.freeSid s x1).guard = s.guard ∧ (State.freeSid s x1).seqr = s.seqr ∧
  (State.freeSid s x1).veh = s.veh ∧ (State.freeSid s x1).lsw = s.lsw ∧ (State.freeSid s x1).rdr = s.rdr ∧
  (State.freeSid s x1).tag = s.tag ∧ (State.freeSid s x1).mesh = s.mesh ∧ (State.freeSid s x1).pwr = s.pwr ∧
  (State.freeSid s x1).draws = s.draws ∧ (State.freeSid s x1).pending = s.pending := by
  unfold State.freeSid; (repeat' split) <;> simp

@[simp] theorem State.closeSession_same (s x1) :
  (State.closeSession s x1).regs = s.regs ∧ (State.closeSession s x1).use = s.use ∧ (State.closeSession s x1).sticky = s.sticky ∧
  (State.closeSession s x1).hearth = s.hearth ∧ (State.closeSession s x1).clock = s.clock ∧ (State.closeSession s x1).life = s.life ∧
  (State.closeSession s x1).jobs = s.jobs ∧ (State.closeSession s x1).cnt = s.cnt ∧ (State.closeSession s x1).log = s.log ∧
  (State.closeSession s x1).grate = s.grate ∧ (State.closeSession s x1).sens = s.sens ∧ (State.closeSession s x1).nrg = s.nrg ∧
  (State.closeSession s x1).bil = s.bil ∧ (State.closeSession s x1).mseal = s.mseal ∧ (State.closeSession s x1).guard = s.guard ∧
  (State.closeSession s x1).seqr = s.seqr ∧ (State.closeSession s x1).veh = s.veh ∧ (State.closeSession s x1).lsw = s.lsw ∧
  (State.closeSession s x1).rdr = s.rdr ∧ (State.closeSession s x1).tag = s.tag ∧ (State.closeSession s x1).mesh = s.mesh ∧
  (State.closeSession s x1).pwr = s.pwr ∧ (State.closeSession s x1).draws = s.draws ∧
  (State.closeSession s x1).pending = s.pending := by
  unfold State.closeSession; simp only; (repeat' split) <;> simp

@[simp] theorem State.post_same (s x1 x2) :
  (State.post s x1 x2).regs = s.regs ∧ (State.post s x1 x2).use = s.use ∧ (State.post s x1 x2).sticky = s.sticky ∧
  (State.post s x1 x2).hearth = s.hearth ∧ (State.post s x1 x2).clock = s.clock ∧ (State.post s x1 x2).life = s.life ∧
  (State.post s x1 x2).keys = s.keys ∧ (State.post s x1 x2).jobs = s.jobs ∧ (State.post s x1 x2).cnt = s.cnt ∧
  (State.post s x1 x2).log = s.log ∧ (State.post s x1 x2).grate = s.grate ∧ (State.post s x1 x2).sens = s.sens ∧
  (State.post s x1 x2).nrg = s.nrg ∧ (State.post s x1 x2).bil = s.bil ∧ (State.post s x1 x2).mseal = s.mseal ∧
  (State.post s x1 x2).fw = s.fw ∧ (State.post s x1 x2).guard = s.guard ∧ (State.post s x1 x2).seqr = s.seqr ∧
  (State.post s x1 x2).veh = s.veh ∧ (State.post s x1 x2).lsw = s.lsw ∧ (State.post s x1 x2).rdr = s.rdr ∧
  (State.post s x1 x2).tag = s.tag ∧ (State.post s x1 x2).mesh = s.mesh ∧ (State.post s x1 x2).pwr = s.pwr ∧
  (State.post s x1 x2).draws = s.draws ∧ (State.post s x1 x2).pending = s.pending := by
  unfold State.post; simp

@[simp] theorem State.replyTo_same (s x1 x2 x3 x4 x5) :
  (State.replyTo s x1 x2 x3 x4 x5).regs = s.regs ∧ (State.replyTo s x1 x2 x3 x4 x5).use = s.use ∧
  (State.replyTo s x1 x2 x3 x4 x5).sticky = s.sticky ∧ (State.replyTo s x1 x2 x3 x4 x5).hearth = s.hearth ∧
  (State.replyTo s x1 x2 x3 x4 x5).clock = s.clock ∧ (State.replyTo s x1 x2 x3 x4 x5).life = s.life ∧
  (State.replyTo s x1 x2 x3 x4 x5).keys = s.keys ∧ (State.replyTo s x1 x2 x3 x4 x5).jobs = s.jobs ∧
  (State.replyTo s x1 x2 x3 x4 x5).cnt = s.cnt ∧ (State.replyTo s x1 x2 x3 x4 x5).log = s.log ∧
  (State.replyTo s x1 x2 x3 x4 x5).grate = s.grate ∧ (State.replyTo s x1 x2 x3 x4 x5).sens = s.sens ∧
  (State.replyTo s x1 x2 x3 x4 x5).nrg = s.nrg ∧ (State.replyTo s x1 x2 x3 x4 x5).bil = s.bil ∧
  (State.replyTo s x1 x2 x3 x4 x5).mseal = s.mseal ∧ (State.replyTo s x1 x2 x3 x4 x5).fw = s.fw ∧
  (State.replyTo s x1 x2 x3 x4 x5).guard = s.guard ∧ (State.replyTo s x1 x2 x3 x4 x5).seqr = s.seqr ∧
  (State.replyTo s x1 x2 x3 x4 x5).veh = s.veh ∧ (State.replyTo s x1 x2 x3 x4 x5).lsw = s.lsw ∧
  (State.replyTo s x1 x2 x3 x4 x5).rdr = s.rdr ∧ (State.replyTo s x1 x2 x3 x4 x5).tag = s.tag ∧
  (State.replyTo s x1 x2 x3 x4 x5).mesh = s.mesh ∧ (State.replyTo s x1 x2 x3 x4 x5).pwr = s.pwr ∧
  (State.replyTo s x1 x2 x3 x4 x5).draws = s.draws ∧ (State.replyTo s x1 x2 x3 x4 x5).pending = s.pending := by
  unfold State.replyTo; simp

@[simp] theorem State.reply_same (s x1 x2 x3) :
  (State.reply s x1 x2 x3).regs = s.regs ∧ (State.reply s x1 x2 x3).use = s.use ∧ (State.reply s x1 x2 x3).sticky = s.sticky ∧
  (State.reply s x1 x2 x3).hearth = s.hearth ∧ (State.reply s x1 x2 x3).clock = s.clock ∧ (State.reply s x1 x2 x3).life = s.life ∧
  (State.reply s x1 x2 x3).keys = s.keys ∧ (State.reply s x1 x2 x3).jobs = s.jobs ∧ (State.reply s x1 x2 x3).cnt = s.cnt ∧
  (State.reply s x1 x2 x3).log = s.log ∧ (State.reply s x1 x2 x3).grate = s.grate ∧ (State.reply s x1 x2 x3).sens = s.sens ∧
  (State.reply s x1 x2 x3).nrg = s.nrg ∧ (State.reply s x1 x2 x3).bil = s.bil ∧ (State.reply s x1 x2 x3).mseal = s.mseal ∧
  (State.reply s x1 x2 x3).fw = s.fw ∧ (State.reply s x1 x2 x3).guard = s.guard ∧ (State.reply s x1 x2 x3).seqr = s.seqr ∧
  (State.reply s x1 x2 x3).veh = s.veh ∧ (State.reply s x1 x2 x3).lsw = s.lsw ∧ (State.reply s x1 x2 x3).rdr = s.rdr ∧
  (State.reply s x1 x2 x3).tag = s.tag ∧ (State.reply s x1 x2 x3).mesh = s.mesh ∧ (State.reply s x1 x2 x3).pwr = s.pwr ∧
  (State.reply s x1 x2 x3).draws = s.draws ∧ (State.reply s x1 x2 x3).pending = s.pending := by
  unfold State.reply; (repeat' split) <;> simp

@[simp] theorem State.dikeRefuse_same (s x1 x2 x3) :
  (State.dikeRefuse s x1 x2 x3).regs = s.regs ∧ (State.dikeRefuse s x1 x2 x3).use = s.use ∧
  (State.dikeRefuse s x1 x2 x3).sticky = s.sticky ∧ (State.dikeRefuse s x1 x2 x3).hearth = s.hearth ∧
  (State.dikeRefuse s x1 x2 x3).clock = s.clock ∧ (State.dikeRefuse s x1 x2 x3).life = s.life ∧
  (State.dikeRefuse s x1 x2 x3).host = s.host ∧ (State.dikeRefuse s x1 x2 x3).jobs = s.jobs ∧
  (State.dikeRefuse s x1 x2 x3).grate = s.grate ∧ (State.dikeRefuse s x1 x2 x3).sens = s.sens ∧
  (State.dikeRefuse s x1 x2 x3).nrg = s.nrg ∧ (State.dikeRefuse s x1 x2 x3).bil = s.bil ∧
  (State.dikeRefuse s x1 x2 x3).mseal = s.mseal ∧ (State.dikeRefuse s x1 x2 x3).fw = s.fw ∧
  (State.dikeRefuse s x1 x2 x3).guard = s.guard ∧ (State.dikeRefuse s x1 x2 x3).seqr = s.seqr ∧
  (State.dikeRefuse s x1 x2 x3).veh = s.veh ∧ (State.dikeRefuse s x1 x2 x3).lsw = s.lsw ∧ (State.dikeRefuse s x1 x2 x3).rdr = s.rdr ∧
  (State.dikeRefuse s x1 x2 x3).tag = s.tag ∧ (State.dikeRefuse s x1 x2 x3).mesh = s.mesh ∧
  (State.dikeRefuse s x1 x2 x3).pwr = s.pwr ∧ (State.dikeRefuse s x1 x2 x3).draws = s.draws ∧
  (State.dikeRefuse s x1 x2 x3).pending = s.pending := by
  unfold State.dikeRefuse; simp

@[simp] theorem State.putFields_same (s x1 x2 x3 x4 x5) :
  (State.putFields s x1 x2 x3 x4 x5).2.use = s.use ∧ (State.putFields s x1 x2 x3 x4 x5).2.sticky = s.sticky ∧
  (State.putFields s x1 x2 x3 x4 x5).2.hearth = s.hearth ∧ (State.putFields s x1 x2 x3 x4 x5).2.clock = s.clock ∧
  (State.putFields s x1 x2 x3 x4 x5).2.life = s.life ∧ (State.putFields s x1 x2 x3 x4 x5).2.keys = s.keys ∧
  (State.putFields s x1 x2 x3 x4 x5).2.host = s.host ∧ (State.putFields s x1 x2 x3 x4 x5).2.jobs = s.jobs ∧
  (State.putFields s x1 x2 x3 x4 x5).2.cnt = s.cnt ∧ (State.putFields s x1 x2 x3 x4 x5).2.log = s.log ∧
  (State.putFields s x1 x2 x3 x4 x5).2.grate = s.grate ∧ (State.putFields s x1 x2 x3 x4 x5).2.sens = s.sens ∧
  (State.putFields s x1 x2 x3 x4 x5).2.nrg = s.nrg ∧ (State.putFields s x1 x2 x3 x4 x5).2.bil = s.bil ∧
  (State.putFields s x1 x2 x3 x4 x5).2.mseal = s.mseal ∧ (State.putFields s x1 x2 x3 x4 x5).2.fw = s.fw ∧
  (State.putFields s x1 x2 x3 x4 x5).2.guard = s.guard ∧ (State.putFields s x1 x2 x3 x4 x5).2.seqr = s.seqr ∧
  (State.putFields s x1 x2 x3 x4 x5).2.veh = s.veh ∧ (State.putFields s x1 x2 x3 x4 x5).2.lsw = s.lsw ∧
  (State.putFields s x1 x2 x3 x4 x5).2.rdr = s.rdr ∧ (State.putFields s x1 x2 x3 x4 x5).2.tag = s.tag ∧
  (State.putFields s x1 x2 x3 x4 x5).2.mesh = s.mesh ∧ (State.putFields s x1 x2 x3 x4 x5).2.pwr = s.pwr ∧
  (State.putFields s x1 x2 x3 x4 x5).2.draws = s.draws ∧ (State.putFields s x1 x2 x3 x4 x5).2.pending = s.pending := by
  unfold State.putFields; simp only; (repeat' split) <;> simp

@[simp] theorem State.countBytes_same (s x1 x2 x3) :
  (State.countBytes s x1 x2 x3).regs = s.regs ∧ (State.countBytes s x1 x2 x3).use = s.use ∧
  (State.countBytes s x1 x2 x3).sticky = s.sticky ∧ (State.countBytes s x1 x2 x3).hearth = s.hearth ∧
  (State.countBytes s x1 x2 x3).clock = s.clock ∧ (State.countBytes s x1 x2 x3).life = s.life ∧
  (State.countBytes s x1 x2 x3).keys = s.keys ∧ (State.countBytes s x1 x2 x3).host = s.host ∧
  (State.countBytes s x1 x2 x3).jobs = s.jobs ∧ (State.countBytes s x1 x2 x3).log = s.log ∧
  (State.countBytes s x1 x2 x3).grate = s.grate ∧ (State.countBytes s x1 x2 x3).sens = s.sens ∧
  (State.countBytes s x1 x2 x3).nrg = s.nrg ∧ (State.countBytes s x1 x2 x3).bil = s.bil ∧
  (State.countBytes s x1 x2 x3).mseal = s.mseal ∧ (State.countBytes s x1 x2 x3).fw = s.fw ∧
  (State.countBytes s x1 x2 x3).guard = s.guard ∧ (State.countBytes s x1 x2 x3).seqr = s.seqr ∧
  (State.countBytes s x1 x2 x3).veh = s.veh ∧ (State.countBytes s x1 x2 x3).lsw = s.lsw ∧ (State.countBytes s x1 x2 x3).rdr = s.rdr ∧
  (State.countBytes s x1 x2 x3).tag = s.tag ∧ (State.countBytes s x1 x2 x3).mesh = s.mesh ∧
  (State.countBytes s x1 x2 x3).pwr = s.pwr ∧ (State.countBytes s x1 x2 x3).draws = s.draws ∧
  (State.countBytes s x1 x2 x3).pending = s.pending := by
  unfold State.countBytes; simp

@[simp] theorem State.countIn_same (s x1) :
  (State.countIn s x1).regs = s.regs ∧ (State.countIn s x1).use = s.use ∧ (State.countIn s x1).sticky = s.sticky ∧
  (State.countIn s x1).hearth = s.hearth ∧ (State.countIn s x1).clock = s.clock ∧ (State.countIn s x1).life = s.life ∧
  (State.countIn s x1).keys = s.keys ∧ (State.countIn s x1).host = s.host ∧ (State.countIn s x1).jobs = s.jobs ∧
  (State.countIn s x1).log = s.log ∧ (State.countIn s x1).grate = s.grate ∧ (State.countIn s x1).sens = s.sens ∧
  (State.countIn s x1).nrg = s.nrg ∧ (State.countIn s x1).bil = s.bil ∧ (State.countIn s x1).mseal = s.mseal ∧
  (State.countIn s x1).fw = s.fw ∧ (State.countIn s x1).guard = s.guard ∧ (State.countIn s x1).seqr = s.seqr ∧
  (State.countIn s x1).veh = s.veh ∧ (State.countIn s x1).lsw = s.lsw ∧ (State.countIn s x1).rdr = s.rdr ∧
  (State.countIn s x1).tag = s.tag ∧ (State.countIn s x1).mesh = s.mesh ∧ (State.countIn s x1).pwr = s.pwr ∧
  (State.countIn s x1).draws = s.draws ∧ (State.countIn s x1).pending = s.pending := by
  unfold State.countIn; simp

@[simp] theorem State.dropFrame_same (s x1) :
  (State.dropFrame s x1).regs = s.regs ∧ (State.dropFrame s x1).use = s.use ∧ (State.dropFrame s x1).sticky = s.sticky ∧
  (State.dropFrame s x1).hearth = s.hearth ∧ (State.dropFrame s x1).clock = s.clock ∧ (State.dropFrame s x1).life = s.life ∧
  (State.dropFrame s x1).keys = s.keys ∧ (State.dropFrame s x1).jobs = s.jobs ∧ (State.dropFrame s x1).cnt = s.cnt ∧
  (State.dropFrame s x1).log = s.log ∧ (State.dropFrame s x1).grate = s.grate ∧ (State.dropFrame s x1).sens = s.sens ∧
  (State.dropFrame s x1).nrg = s.nrg ∧ (State.dropFrame s x1).bil = s.bil ∧ (State.dropFrame s x1).mseal = s.mseal ∧
  (State.dropFrame s x1).fw = s.fw ∧ (State.dropFrame s x1).guard = s.guard ∧ (State.dropFrame s x1).seqr = s.seqr ∧
  (State.dropFrame s x1).veh = s.veh ∧ (State.dropFrame s x1).lsw = s.lsw ∧ (State.dropFrame s x1).rdr = s.rdr ∧
  (State.dropFrame s x1).tag = s.tag ∧ (State.dropFrame s x1).mesh = s.mesh ∧ (State.dropFrame s x1).pwr = s.pwr ∧
  (State.dropFrame s x1).draws = s.draws ∧ (State.dropFrame s x1).pending = s.pending := by
  unfold State.dropFrame; simp

@[simp] theorem State.respond_same (s x1 x2 x3 x4 x5 x6 x7) :
  (State.respond s x1 x2 x3 x4 x5 x6 x7).regs = s.regs ∧ (State.respond s x1 x2 x3 x4 x5 x6 x7).use = s.use ∧
  (State.respond s x1 x2 x3 x4 x5 x6 x7).sticky = s.sticky ∧ (State.respond s x1 x2 x3 x4 x5 x6 x7).hearth = s.hearth ∧
  (State.respond s x1 x2 x3 x4 x5 x6 x7).clock = s.clock ∧ (State.respond s x1 x2 x3 x4 x5 x6 x7).life = s.life ∧
  (State.respond s x1 x2 x3 x4 x5 x6 x7).jobs = s.jobs ∧ (State.respond s x1 x2 x3 x4 x5 x6 x7).grate = s.grate ∧
  (State.respond s x1 x2 x3 x4 x5 x6 x7).sens = s.sens ∧ (State.respond s x1 x2 x3 x4 x5 x6 x7).nrg = s.nrg ∧
  (State.respond s x1 x2 x3 x4 x5 x6 x7).bil = s.bil ∧ (State.respond s x1 x2 x3 x4 x5 x6 x7).mseal = s.mseal ∧
  (State.respond s x1 x2 x3 x4 x5 x6 x7).fw = s.fw ∧ (State.respond s x1 x2 x3 x4 x5 x6 x7).guard = s.guard ∧
  (State.respond s x1 x2 x3 x4 x5 x6 x7).seqr = s.seqr ∧ (State.respond s x1 x2 x3 x4 x5 x6 x7).veh = s.veh ∧
  (State.respond s x1 x2 x3 x4 x5 x6 x7).lsw = s.lsw ∧ (State.respond s x1 x2 x3 x4 x5 x6 x7).rdr = s.rdr ∧
  (State.respond s x1 x2 x3 x4 x5 x6 x7).tag = s.tag ∧ (State.respond s x1 x2 x3 x4 x5 x6 x7).mesh = s.mesh ∧
  (State.respond s x1 x2 x3 x4 x5 x6 x7).pwr = s.pwr ∧ (State.respond s x1 x2 x3 x4 x5 x6 x7).draws = s.draws ∧
  (State.respond s x1 x2 x3 x4 x5 x6 x7).pending = s.pending := by
  unfold State.respond; (repeat' split) <;> simp

@[simp] theorem State.plain_same (s x1 x2 x3 x4) :
  (State.plain s x1 x2 x3 x4).regs = s.regs ∧ (State.plain s x1 x2 x3 x4).use = s.use ∧
  (State.plain s x1 x2 x3 x4).sticky = s.sticky ∧ (State.plain s x1 x2 x3 x4).hearth = s.hearth ∧
  (State.plain s x1 x2 x3 x4).clock = s.clock ∧ (State.plain s x1 x2 x3 x4).life = s.life ∧
  (State.plain s x1 x2 x3 x4).jobs = s.jobs ∧ (State.plain s x1 x2 x3 x4).grate = s.grate ∧
  (State.plain s x1 x2 x3 x4).sens = s.sens ∧ (State.plain s x1 x2 x3 x4).nrg = s.nrg ∧ (State.plain s x1 x2 x3 x4).bil = s.bil ∧
  (State.plain s x1 x2 x3 x4).mseal = s.mseal ∧ (State.plain s x1 x2 x3 x4).fw = s.fw ∧ (State.plain s x1 x2 x3 x4).guard = s.guard ∧
  (State.plain s x1 x2 x3 x4).seqr = s.seqr ∧ (State.plain s x1 x2 x3 x4).veh = s.veh ∧ (State.plain s x1 x2 x3 x4).lsw = s.lsw ∧
  (State.plain s x1 x2 x3 x4).rdr = s.rdr ∧ (State.plain s x1 x2 x3 x4).tag = s.tag ∧ (State.plain s x1 x2 x3 x4).mesh = s.mesh ∧
  (State.plain s x1 x2 x3 x4).pwr = s.pwr ∧ (State.plain s x1 x2 x3 x4).draws = s.draws ∧
  (State.plain s x1 x2 x3 x4).pending = s.pending := by
  unfold State.plain; simp

@[simp] theorem State.onBackoff_same (s x1 x2 x3) :
  (State.onBackoff s x1 x2 x3).regs = s.regs ∧ (State.onBackoff s x1 x2 x3).use = s.use ∧
  (State.onBackoff s x1 x2 x3).sticky = s.sticky ∧ (State.onBackoff s x1 x2 x3).hearth = s.hearth ∧
  (State.onBackoff s x1 x2 x3).clock = s.clock ∧ (State.onBackoff s x1 x2 x3).life = s.life ∧
  (State.onBackoff s x1 x2 x3).keys = s.keys ∧ (State.onBackoff s x1 x2 x3).jobs = s.jobs ∧ (State.onBackoff s x1 x2 x3).cnt = s.cnt ∧
  (State.onBackoff s x1 x2 x3).log = s.log ∧ (State.onBackoff s x1 x2 x3).grate = s.grate ∧
  (State.onBackoff s x1 x2 x3).sens = s.sens ∧ (State.onBackoff s x1 x2 x3).nrg = s.nrg ∧ (State.onBackoff s x1 x2 x3).bil = s.bil ∧
  (State.onBackoff s x1 x2 x3).mseal = s.mseal ∧ (State.onBackoff s x1 x2 x3).fw = s.fw ∧
  (State.onBackoff s x1 x2 x3).guard = s.guard ∧ (State.onBackoff s x1 x2 x3).seqr = s.seqr ∧
  (State.onBackoff s x1 x2 x3).veh = s.veh ∧ (State.onBackoff s x1 x2 x3).lsw = s.lsw ∧ (State.onBackoff s x1 x2 x3).rdr = s.rdr ∧
  (State.onBackoff s x1 x2 x3).tag = s.tag ∧ (State.onBackoff s x1 x2 x3).mesh = s.mesh ∧ (State.onBackoff s x1 x2 x3).pwr = s.pwr ∧
  (State.onBackoff s x1 x2 x3).draws = s.draws ∧ (State.onBackoff s x1 x2 x3).pending = s.pending := by
  unfold State.onBackoff; simp

@[simp] theorem State.onSo_same (s x1 x2) :
  (State.onSo s x1 x2).regs = s.regs ∧ (State.onSo s x1 x2).use = s.use ∧ (State.onSo s x1 x2).sticky = s.sticky ∧
  (State.onSo s x1 x2).hearth = s.hearth ∧ (State.onSo s x1 x2).clock = s.clock ∧ (State.onSo s x1 x2).life = s.life ∧
  (State.onSo s x1 x2).keys = s.keys ∧ (State.onSo s x1 x2).host = s.host ∧ (State.onSo s x1 x2).jobs = s.jobs ∧
  (State.onSo s x1 x2).cnt = s.cnt ∧ (State.onSo s x1 x2).log = s.log ∧ (State.onSo s x1 x2).grate = s.grate ∧
  (State.onSo s x1 x2).sens = s.sens ∧ (State.onSo s x1 x2).nrg = s.nrg ∧ (State.onSo s x1 x2).bil = s.bil ∧
  (State.onSo s x1 x2).mseal = s.mseal ∧ (State.onSo s x1 x2).fw = s.fw ∧ (State.onSo s x1 x2).guard = s.guard ∧
  (State.onSo s x1 x2).veh = s.veh ∧ (State.onSo s x1 x2).lsw = s.lsw ∧ (State.onSo s x1 x2).rdr = s.rdr ∧
  (State.onSo s x1 x2).tag = s.tag ∧ (State.onSo s x1 x2).mesh = s.mesh ∧ (State.onSo s x1 x2).pwr = s.pwr ∧
  (State.onSo s x1 x2).draws = s.draws ∧ (State.onSo s x1 x2).pending = s.pending := by
  unfold State.onSo; simp

@[simp] theorem State.onGo_same (s x1 x2) :
  (State.onGo s x1 x2).regs = s.regs ∧ (State.onGo s x1 x2).use = s.use ∧ (State.onGo s x1 x2).sticky = s.sticky ∧
  (State.onGo s x1 x2).hearth = s.hearth ∧ (State.onGo s x1 x2).clock = s.clock ∧ (State.onGo s x1 x2).life = s.life ∧
  (State.onGo s x1 x2).keys = s.keys ∧ (State.onGo s x1 x2).host = s.host ∧ (State.onGo s x1 x2).jobs = s.jobs ∧
  (State.onGo s x1 x2).cnt = s.cnt ∧ (State.onGo s x1 x2).log = s.log ∧ (State.onGo s x1 x2).grate = s.grate ∧
  (State.onGo s x1 x2).sens = s.sens ∧ (State.onGo s x1 x2).nrg = s.nrg ∧ (State.onGo s x1 x2).bil = s.bil ∧
  (State.onGo s x1 x2).mseal = s.mseal ∧ (State.onGo s x1 x2).fw = s.fw ∧ (State.onGo s x1 x2).seqr = s.seqr ∧
  (State.onGo s x1 x2).veh = s.veh ∧ (State.onGo s x1 x2).lsw = s.lsw ∧ (State.onGo s x1 x2).rdr = s.rdr ∧
  (State.onGo s x1 x2).tag = s.tag ∧ (State.onGo s x1 x2).mesh = s.mesh ∧ (State.onGo s x1 x2).pwr = s.pwr ∧
  (State.onGo s x1 x2).draws = s.draws ∧ (State.onGo s x1 x2).pending = s.pending := by
  unfold State.onGo; simp

@[simp] theorem State.onPilot_same (s x1 x2) :
  (State.onPilot s x1 x2).regs = s.regs ∧ (State.onPilot s x1 x2).use = s.use ∧ (State.onPilot s x1 x2).sticky = s.sticky ∧
  (State.onPilot s x1 x2).hearth = s.hearth ∧ (State.onPilot s x1 x2).clock = s.clock ∧ (State.onPilot s x1 x2).life = s.life ∧
  (State.onPilot s x1 x2).keys = s.keys ∧ (State.onPilot s x1 x2).host = s.host ∧ (State.onPilot s x1 x2).jobs = s.jobs ∧
  (State.onPilot s x1 x2).cnt = s.cnt ∧ (State.onPilot s x1 x2).log = s.log ∧ (State.onPilot s x1 x2).grate = s.grate ∧
  (State.onPilot s x1 x2).sens = s.sens ∧ (State.onPilot s x1 x2).nrg = s.nrg ∧ (State.onPilot s x1 x2).bil = s.bil ∧
  (State.onPilot s x1 x2).mseal = s.mseal ∧ (State.onPilot s x1 x2).fw = s.fw ∧ (State.onPilot s x1 x2).guard = s.guard ∧
  (State.onPilot s x1 x2).seqr = s.seqr ∧ (State.onPilot s x1 x2).lsw = s.lsw ∧ (State.onPilot s x1 x2).rdr = s.rdr ∧
  (State.onPilot s x1 x2).tag = s.tag ∧ (State.onPilot s x1 x2).mesh = s.mesh ∧ (State.onPilot s x1 x2).pwr = s.pwr ∧
  (State.onPilot s x1 x2).draws = s.draws ∧ (State.onPilot s x1 x2).pending = s.pending := by
  unfold State.onPilot; simp

@[simp] theorem State.onComp_same (s x1 x2) :
  (State.onComp s x1 x2).regs = s.regs ∧ (State.onComp s x1 x2).use = s.use ∧ (State.onComp s x1 x2).sticky = s.sticky ∧
  (State.onComp s x1 x2).hearth = s.hearth ∧ (State.onComp s x1 x2).clock = s.clock ∧ (State.onComp s x1 x2).life = s.life ∧
  (State.onComp s x1 x2).keys = s.keys ∧ (State.onComp s x1 x2).host = s.host ∧ (State.onComp s x1 x2).jobs = s.jobs ∧
  (State.onComp s x1 x2).cnt = s.cnt ∧ (State.onComp s x1 x2).log = s.log ∧ (State.onComp s x1 x2).grate = s.grate ∧
  (State.onComp s x1 x2).sens = s.sens ∧ (State.onComp s x1 x2).nrg = s.nrg ∧ (State.onComp s x1 x2).bil = s.bil ∧
  (State.onComp s x1 x2).mseal = s.mseal ∧ (State.onComp s x1 x2).guard = s.guard ∧ (State.onComp s x1 x2).seqr = s.seqr ∧
  (State.onComp s x1 x2).veh = s.veh ∧ (State.onComp s x1 x2).lsw = s.lsw ∧ (State.onComp s x1 x2).rdr = s.rdr ∧
  (State.onComp s x1 x2).tag = s.tag ∧ (State.onComp s x1 x2).mesh = s.mesh ∧ (State.onComp s x1 x2).pwr = s.pwr ∧
  (State.onComp s x1 x2).draws = s.draws ∧ (State.onComp s x1 x2).pending = s.pending := by
  unfold State.onComp; simp

end Sys2Proof.Machine
end

