-- ==== Sys2Proof/Laws/Host.lean ====
section
/-!
SUPPORT. What the path of a host frame does, step by step: taken in, checked, run and answered.
-/

namespace Sys2Proof.Machine

/-- Table entries under an update. -/
@[simp] theorem upd_same {α : Type} {n : Nat} (v : Vector α n) (i : Fin n) (f : α → α) : (upd v i f)[i] = f v[i] := by simp [upd]
theorem upd_other {α : Type} {n : Nat} (v : Vector α n) (i j : Fin n) (f : α → α) (h : i ≠ j) : (upd v i f)[j] = v[j] := by
  have : i.1 ≠ j.1 := fun x => h (Fin.ext x)
  simp only [upd, Fin.getElem_fin]
  exact Vector.getElem_set_ne _ _ this

/-- The state once a port has taken a frame: no response stands, and the frame is counted. -/
def State.taken (s : State) (f : Frame) : State := (s.onHost (fun x => { x with resp := none })).countIn f

/-- A frame that a port takes is counted and handed on. -/
theorem State.intake_takes {f : Frame} {s : State} {op : Nat} (h : s.Takes op f) (nx : State → State) :
    s.intake op f nx = nx (s.taken f) := by
  obtain ⟨h1, h2, h3, h4, h5, h6⟩ := h
  unfold State.intake
  simp only [show (s.onHost (fun x => { x with resp := none })).listens f.port = true from h1,
    show (s.onHost (fun x => { x with resp := none })).forUs f = true from h2, h3, h4,
    show malformed op f (s.onHost (fun x => { x with resp := none })).pwr.recovery = false from h5]
  simp [h6, State.taken]

/-- The session ID of a response: 0 where a BADFRAME answers on HP0 or HP1 (R95). -/
def sidOf (f : Frame) (sid status : Nat) : Nat := if status = BADFRAME ∧ f.port.1 < 2 then 0 else sid

/-- The response that an answer leaves. -/
theorem State.respond_resp (s : State) (f : Frame) (sid status count : Nat) (payload : List W64) (attn : Bool)
    (wrap : Option (Fin 256 × Bytes × Nat)) :
    ∃ r, (s.respond f sid status count payload attn wrap).host.resp = some r ∧ r.status = status ∧ r.sid = sidOf f sid status ∧ r.count = count ∧
      r.payload = payload ∧ r.attn = attn ∧ r.seq = f.seq.toNat ∧ r.addr = f.addr.toNat ∧ r.sealed = wrap.isSome ∧ r.port = f.port := by
  unfold State.respond
  exact ⟨_, rfl, rfl, rfl, rfl, rfl, rfl, rfl, rfl, rfl, rfl⟩

/-- An answer leaves sessions, ports, sluices and free IDs alone. -/
theorem State.respond_host (s : State) (f : Frame) (sid status count : Nat) (payload : List W64) (attn : Bool)
    (wrap : Option (Fin 256 × Bytes × Nat)) :
    (s.respond f sid status count payload attn wrap).host =
      { s.host with resp := (s.respond f sid status count payload attn wrap).host.resp } := by
  unfold State.respond
  simp only [State.onHost_host]
  (repeat' split) <;> simp

/-- The state in which an operation runs: its session has consumed its SEQ and paid the damper. -/
def State.consumed (u : State) (i : Fin 64) (h : Session) (e : Nat) : State :=
  let used := if h.sealed = true ∧ (u.slot (h.keySlot.getD 0)).state = .valid then (u.keyUse (h.keySlot.getD 0) engAESX h.polder).2 else u
  ((used.onSession i (fun x => { x.consume e u.clock.tb with bucket := used.bucketNow h - tbSecond, refillTb := u.clock.tb })).bump 12 1).onPwr
    (fun p => { p with idleTb := u.clock.tb })

/-- The key with which the answer of a sealed session is sealed. -/
def State.wrapOf (s : State) (f : Frame) (h : Session) : Option (Fin 256 × Bytes × Nat) :=
  if h.sealed then some (h.keySlot.getD 0, (s.slot (h.keySlot.getD 0)).key, h.extOf f.seq.toNat) else none

/-- A request whose session is known, whose key is no orphan, whose SEQ is accepted and for which the damper has a frame and the Hearth runs has its
operation carried out and is answered (R100). -/
theorem State.served_runs {f : Frame} {u : State} {i : Fin 64} {h : Session} {e : Nat}
    (key : ¬ (h.keySlot.isSome = true ∧ (u.slot (h.keySlot.getD 0)).state = .orphan)) (seq : h.fate f.seq.toNat = .accept e)
    (bucket : tbSecond ≤ u.bucketNow h) (idle : u.hearthBusy = false)
    (run : Fin 64 → Session → State → Act) (after : Fin 64 → State → State) :
    u.served f i h run after =
      after i (((run i h (u.consumed i h e)).state).respond f i.1 (run i h (u.consumed i h e)).status (run i h (u.consumed i h e)).count
        (run i h (u.consumed i h e)).payload ((run i h (u.consumed i h e)).state.attn h.polder) (u.wrapOf f h)) := by
  have hused : ∀ x : State, (x = u ∨ x = (u.keyUse (h.keySlot.getD 0) engAESX h.polder).2) →
      x.bucketNow h = u.bucketNow h ∧ x.hearthBusy = u.hearthBusy := by
    intro x hx
    rcases hx with rfl | rfl
    · exact ⟨rfl, rfl⟩
    · constructor
      · simp [State.bucketNow, State.damperOf, State.fld, State.reg]
      · simp [State.hearthBusy]
  have hx := hused (if h.sealed = true ∧ (u.slot (h.keySlot.getD 0)).state = .valid then (u.keyUse (h.keySlot.getD 0) engAESX h.polder).2 else u)
    (by split <;> simp)
  have eb : ∀ x : State, x.bucketNow h = u.bucketNow h → ¬ (x.bucketNow h < tbSecond) := by intro x hx; omega
  unfold State.served
  simp only []
  rw [if_neg key, seq]
  simp only []
  rw [if_neg (by intro c; exact eb _ hx.1 c.1), if_neg (by rw [hx.2, idle]; simp)]
  simp only [State.consumed, State.wrapOf]

/-- A frame that passes R100 up to step 5 runs its operation and is answered. -/
theorem State.inOrder_passes {f : Frame} {s : State} {i : Fin 64} {h : Session} {e : Nat} (p : s.Passes f i h e)
    (run : Fin 64 → Session → State → Act) (after : Fin 64 → State → State) :
    (s.taken f).inOrder f run after =
      after i (((run i h ((s.taken f).consumed i h e)).state).respond f i.1 (run i h ((s.taken f).consumed i h e)).status
        (run i h ((s.taken f).consumed i h e)).count (run i h ((s.taken f).consumed i h e)).payload
        ((run i h ((s.taken f).consumed i h e)).state.attn h.polder) ((s.taken f).wrapOf f h)) := by
  obtain ⟨h1, h2, h3, h4, h5, h6, h7, h8⟩ := p
  have hu : ∃ u, u = s.taken f := ⟨_, rfl⟩
  obtain ⟨u, hu⟩ := hu
  have e1 : u.sessionOf f = s.sessionOf f := by subst hu; simp [State.sessionOf, State.anySession, State.sidUse, State.taken, State.countIn]
  have e2 : ∀ n, u.slot n = s.slot n := by intro n; subst hu; simp [State.slot, State.taken]
  have e3 : u.tagOk f h (h.keySlot.getD 0) = s.tagOk f h (h.keySlot.getD 0) := by simp [State.tagOk, e2]
  have e4 : u.bucketNow h = s.bucketNow h := by subst hu; simp [State.bucketNow, State.damperOf, State.fld, State.reg, State.taken]
  have e5 : u.hearthBusy = s.hearthBusy := by subst hu; simp [State.hearthBusy, State.taken]
  rw [← hu]
  unfold State.inOrder
  rw [e1, h1]
  simp only [h2, Bool.false_eq_true, if_false, e3]
  rw [if_neg (by intro c; have := h3 c.1; simp [this] at c), if_neg (by intro c; exact h4 c.1 c.2)]
  exact u.served_runs (by rw [e2]; exact h5) h6 (by omega) (by rw [e5]; exact h8) run after

/-- Besides the session, a consumed frame touches counters, the key's use count, the log and the time of the last frame. -/
theorem State.consumed_frame (s : State) (i : Fin 64) (h : Session) (e : Nat) :
    ∃ (hs : HostState) (ks : KeyReg) (cn : Counters) (lg : EventLog),
      s.consumed i h e = { s with host := hs, keys := ks, cnt := cn, log := lg, pwr := { s.pwr with idleTb := s.clock.tb } } ∧
      hs.sluices = s.host.sluices ∧ hs.ports = s.host.ports ∧ hs.freeSids = s.host.freeSids ∧ hs.password3 = s.host.password3 ∧
      hs.password5 = s.host.password5 ∧
      ∃ b, hs.table = upd s.host.table i (fun u => match u with
        | .host x => .host { x.consume e s.clock.tb with bucket := b, refillTb := s.clock.tb } | u => u) := by
  refine ⟨(s.consumed i h e).host, (s.consumed i h e).keys, (s.consumed i h e).cnt, (s.consumed i h e).log, ?_, ?_⟩
  · unfold State.consumed
    simp only
    split <;> apply State.parts <;> simp
  · unfold State.consumed
    simp only [State.onPwr_host, State.bump_same, State.onSession, State.onHost_host]
    (repeat' split) <;> simp <;> exact ⟨_, rfl⟩

/-- The session of a frame that passes is the table's. -/
theorem State.Passes.inTable {s : State} {f : Frame} {i : Fin 64} {h : Session} {e : Nat} (p : s.Passes f i h e) :
    s.host.table[i] = .host h := by
  have h1 := p.names
  unfold State.sessionOf at h1
  simp only at h1
  split at h1
  · cases h1
  · split at h1
    · rename_i x hx
      split at h1
      · simp only [Option.some.injEq, Prod.mk.injEq] at h1
        obtain ⟨rfl, rfl⟩ := h1
        unfold State.anySession State.sidUse at hx
        split at hx
        · rename_i y hy; simp only [Option.some.injEq] at hx; subst hx; exact hy
        · cases hx
      · cases h1
    · cases h1

/-- What the session is once its request is consumed. -/
theorem State.consumed_session {s : State} {i : Fin 64} {h : Session} (e : Nat) (t : s.host.table[i] = .host h) :
    ∃ b, (s.consumed i h e).sidUse i = .host { h.consume e s.clock.tb with bucket := b, refillTb := s.clock.tb } := by
  obtain ⟨hs, ks, cn, lg, h1, -, -, -, -, -, b, h2⟩ := s.consumed_frame i h e
  refine ⟨b, ?_⟩
  rw [State.sidUse, h1]
  simp only [h2, upd_same, t]

/-- An accepted extended SEQ is recorded as consumed. -/
theorem Session.consume_mem (h : Session) (q e tb : Nat) (a : h.fate q = .accept e) : e ∈ (h.consume e tb).consumed := by
  have : max h.ext e < e + 1024 := by
    unfold Session.fate at a
    simp only at a
    split at a
    · cases a; omega
    · split at a
      · split at a
        · cases a
        · cases a; omega
      · cases a
  simp only [Session.consume, List.mem_filter, List.mem_cons, true_or, true_and, decide_eq_true_eq]
  exact this

end Sys2Proof.Machine
end

