-- ==== Sys2Proof/Laws/Keeps.lean ====
section
/-!
SUPPORT. What every operation but a few keeps: the queue of commands, the invariant, and, between `a` and `t`, that no HV_EN rises
and that the life cycle does not run backward. One lemma for each modifier of the state; the lemmas of the operations follow.
-/

namespace Sys2Proof.Machine

/-- From `a` to `t` the queue is as it was, no HV_EN has risen, and, where `a` satisfies the invariant, so does `t`, with the life
cycle no further back. -/
structure Keeps (a t : State) : Prop where
  pending : t.pending = a.pending
  raised : ∀ o, t.raised o = true → a.raised o = true
  inv : a.Inv → t.Inv
  rank : a.Inv → a.life.state.rank ≤ t.life.state.rank

/-- Nothing happens. -/
@[simp] theorem Keeps.same (a : State) : Keeps a a := ⟨rfl, fun _ h => h, fun h => h, fun _ => Nat.le_refl _⟩

/-- One thing after another. -/
theorem Keeps.trans {a s t : State} (h : Keeps a s) (k : Keeps s t) : Keeps a t :=
  ⟨k.pending.trans h.pending, fun o x => h.raised o (k.raised o x), fun x => k.inv (h.inv x),
   fun x => Nat.le_trans (h.rank x) (k.rank (h.inv x))⟩

/-- A change that leaves the parts of the invariant as they were, part by part. -/
theorem Keeps.step {a s t : State} (h : Keeps a s)
    (pending : t.pending = s.pending := by rfl)
    (raised : ∀ o, t.raised o = true → s.raised o = true := by intro _ h; exact h)
    (tagMem : Memory.wf s.tag.mem = true → Memory.wf t.tag.mem = true := by intro h; exact h)
    (regs : Rising s.regs → Rising t.regs := by intro h; exact h)
    (use : Rising s.use → Rising t.use := by intro h; exact h)
    (sticky : Rising s.sticky → Rising t.sticky := by intro h; exact h)
    (backup : s.Inv → ∀ b, t.fw.backup = some b → Rising b.1 := by intro h b e; exact h.backup b e)
    (sluices : s.Inv → ∀ n : Fin 8, (t.host.sluices[n]).msgs.length ≤ 8 := by intro h; exact h.sluices)
    (counters : s.Inv → ∀ k : Fin 24, t.cnt.count[k] < 2 ^ 48 := by intro h; exact h.counters)
    (staged : s.Inv → t.log.staged.length ≤ 256 := by intro h; exact h.staged)
    (transit : s.Inv → ∀ x, t.life.inTransit = some x → t.life.state.rank ≤ x.rank := by intro h; exact h.transit)
    (rank : s.Inv → s.life.state.rank ≤ t.life.state.rank := by intro _; exact Nat.le_refl _) : Keeps a t :=
  h.trans ⟨pending, raised,
    fun i => ⟨tagMem i.tagMem, regs i.regs, use i.use, sticky i.sticky, backup i, sluices i, counters i, staged i, transit i⟩, rank⟩

/-! ### Modifiers of parts that the invariant does not name -/

section
variable {a s : State} (h : Keeps a s)
include h

@[simp] theorem Keeps.onHearth (f) : Keeps a (s.onHearth f) := h.step
@[simp] theorem Keeps.onClock (f) : Keeps a (s.onClock f) := h.step
@[simp] theorem Keeps.onKeys (f) : Keeps a (s.onKeys f) := h.step
@[simp] theorem Keeps.onJobs (f) : Keeps a (s.onJobs f) := h.step
@[simp] theorem Keeps.onGrate (f) : Keeps a (s.onGrate f) := h.step
@[simp] theorem Keeps.onSens (f) : Keeps a (s.onSens f) := h.step
@[simp] theorem Keeps.onNrg (f) : Keeps a (s.onNrg f) := h.step
@[simp] theorem Keeps.onBil (f) : Keeps a (s.onBil f) := h.step
@[simp] theorem Keeps.onMseal (f) : Keeps a (s.onMseal f) := h.step
@[simp] theorem Keeps.onSeqr (f) : Keeps a (s.onSeqr f) := h.step
@[simp] theorem Keeps.onVeh (f) : Keeps a (s.onVeh f) := h.step
@[simp] theorem Keeps.onLsw (f) : Keeps a (s.onLsw f) := h.step
@[simp] theorem Keeps.onRdr (f) : Keeps a (s.onRdr f) := h.step
@[simp] theorem Keeps.onMesh (f) : Keeps a (s.onMesh f) := h.step
@[simp] theorem Keeps.onPwr (f) : Keeps a (s.onPwr f) := h.step

/-! ### Modifiers of parts that it names -/

@[simp] theorem Keeps.onHost {f : HostState → HostState} (hf : ∀ x, (f x).sluices = x.sluices) : Keeps a (s.onHost f) :=
  h.step (sluices := by intro i; simp only [State.onHost_host, hf]; exact i.sluices)
@[simp] theorem Keeps.onCnt {f : Counters → Counters} (hf : ∀ x, (f x).count = x.count) : Keeps a (s.onCnt f) :=
  h.step (counters := by intro i; simp only [State.onCnt_cnt, hf]; exact i.counters)
@[simp] theorem Keeps.onLog {f : EventLog → EventLog} (hf : ∀ x, (f x).staged = x.staged) : Keeps a (s.onLog f) :=
  h.step (staged := by intro i; simp only [State.onLog_log, hf]; exact i.staged)
@[simp] theorem Keeps.onFw {f : Update → Update} (hf : ∀ x, (f x).backup = x.backup) : Keeps a (s.onFw f) :=
  h.step (backup := by intro i; simp only [State.onFw_fw, hf]; exact i.backup)
@[simp] theorem Keeps.onTag {f : Tag → Tag} (hf : ∀ x, (f x).mem = x.mem) : Keeps a (s.onTag f) :=
  h.step (tagMem := by simp only [State.onTag_tag, hf]; exact id)
@[simp] theorem Keeps.onGuard {f : Guard → Guard} (hf : ∀ (x : Guard) (o : Fin 6), ((f x).outs[o]).hv = true → (x.outs[o]).hv = true) :
    Keeps a (s.onGuard f) :=
  h.step (raised := by intro o; exact hf _ o)

/-- A fold of operations that each keep. -/
@[simp] theorem Keeps.fold {β : Type} {f : State → β → State} (hf : ∀ (s : State) (x : β), Keeps a s → Keeps a (f s x)) (l : List β) :
    Keeps a (l.foldl f s) := by
  induction l generalizing s with
  | nil => exact h
  | cons x xs ih => exact ih (hf s x h)

/-- A fold that also carries something else, the state first. -/
theorem Keeps.fold_fst {β γ : Type} {f : State × γ → β → State × γ}
    (hf : ∀ (p : State × γ) (x : β), Keeps a p.1 → Keeps a (f p x).1) (l : List β) (c : γ) : Keeps a (l.foldl f (s, c)).1 := by
  have : ∀ (l : List β) (p : State × γ), Keeps a p.1 → Keeps a (l.foldl f p).1 := by
    intro l
    induction l with
    | nil => intro p h; exact h
    | cons x xs ih => intro p h; exact ih _ (hf p x h)
  exact this l (s, c) h

/-- A fold that also carries something else, the state second. -/
theorem Keeps.fold_snd {β γ : Type} {f : γ × State → β → γ × State}
    (hf : ∀ (p : γ × State) (x : β), Keeps a p.2 → Keeps a (f p x).2) (l : List β) (c : γ) : Keeps a (l.foldl f (c, s)).2 := by
  have : ∀ (l : List β) (p : γ × State), Keeps a p.2 → Keeps a (l.foldl f p).2 := by
    intro l
    induction l with
    | nil => intro p h; exact h
    | cons x xs ih => intro p h; exact ih _ (hf p x h)
  exact this l (c, s) h

/-- Storing a register. -/
@[simp] theorem Keeps.setReg (r : RegSpec) (ix : List Nat) (v : Nat) : Keeps a (s.setReg r ix v) := h.step (regs := rising_putKey _ _ _)
@[simp] theorem Keeps.setFld (r : RegSpec) (f : Field) (ix : List Nat) (v : Nat) : Keeps a (s.setFld r f ix v) := h.setReg ..
@[simp] theorem Keeps.latch (r : RegSpec) (ix : List Nat) (v : Nat) : Keeps a (s.latch r ix v) := h.step (sticky := rising_putKey _ _ _)
@[simp] theorem Keeps.takeField (r : RegSpec) (f : Field) (ix : List Nat) : Keeps a (s.takeField r f ix) := h.step (use := rising_putKey _ _ _)
@[simp] theorem Keeps.draw : Keeps a s.draw.2 := h.step
@[simp] theorem Keeps.drawBytes (n : Nat) : Keeps a (s.drawBytes n).2 := h.step

end

/-- One of two things. -/
@[simp] theorem Keeps.ite {a s t : State} {c : Prop} [Decidable c] (x : c → Keeps a s) (y : ¬c → Keeps a t) : Keeps a (if c then s else t) := by
  split
  · exact x (by assumption)
  · exact y (by assumption)

/-- Values of a class are taken up. -/
@[simp] theorem Keeps.takeUp {a s : State} (h : Keeps a s) (c : Cls) (q : Nat → Bool) : Keeps a (s.takeUp c q) := by
  unfold State.takeUp
  refine h.fold ?_ _
  intro s e h
  split
  · split
    · exact h.step (use := rising_putKey _ _ _)
    · exact h
  · exact h

/-- A performance counter stays below 2^48. -/
@[simp] theorem Keeps.bump {a s : State} (h : Keeps a s) (k : Fin 24) (n : Nat) : Keeps a (s.bump k n) := by
  refine h.step (counters := ?_)
  intro i j
  simp only [State.bump, State.onCnt_cnt]
  have hj := i.counters j
  by_cases e : k = j
  · subst e; simp only [Fin.getElem_fin, Vector.getElem_set_self]; exact Nat.mod_lt _ (by decide)
  · have : k.1 ≠ j.1 := fun x => e (Fin.ext x)
    simp only [Fin.getElem_fin] at hj ⊢
    rw [Vector.getElem_set_ne _ _ this]; exact hj

/-- Flushing leaves no more waiting. -/
theorem EventLog.flush_length (l : EventLog) (h : l.staged.length ≤ 256) : l.flush.staged.length ≤ 256 := by
  unfold EventLog.flush; split <;> simp [h]

/-- Staging an entry keeps at most 256 waiting. -/
theorem EventLog.stage_length (l : EventLog) (e : LogEntry) (h : l.staged.length ≤ 256) : (l.stage e).staged.length ≤ 256 := by
  have key : ∀ m : EventLog, m.staged.length ≤ 256 → (if 64 ≤ m.staged.length then m.flush else m).staged.length ≤ 256 := by
    intro m hm; split
    · exact EventLog.flush_length _ hm
    · exact hm
  refine key _ ?_
  simp only [List.length_append, List.length_drop, List.length_cons, List.length_nil]
  split <;> omega

@[simp] theorem Keeps.logRaw {a s : State} (h : Keeps a s) (ev : Ev) (i p o x y : Nat) : Keeps a (s.logRaw ev i p o x y) := by
  unfold State.logRaw
  refine Keeps.bump (h.step (staged := ?_)) _ _
  intro i
  exact EventLog.stage_length _ _ i.staged

@[simp] theorem Keeps.logEv {a s : State} (h : Keeps a s) (ev : Ev) (i p o x y : Nat) : Keeps a (s.logEv ev i p o x y) := by
  unfold State.logEv
  simp only
  split
  · refine Keeps.logRaw (Keeps.onLog h ?_) ..
    intro _; rfl
  · refine Keeps.onLog h ?_
    intro _; rfl

/-- A notice posted leaves at most 8 messages in each sluice. -/
@[simp] theorem Keeps.post {a s : State} (h : Keeps a s) (n : Fin 8) (m : List W64) : Keeps a (s.post n m) := by
  unfold State.post
  refine h.step (sluices := ?_)
  intro i k
  have hk := i.sluices k
  simp only [State.onHost_host, upd]
  by_cases e : n = k
  · subst e
    simp only [Fin.getElem_fin, Vector.getElem_set_self] at hk ⊢
    split
    · rename_i x; simp only [List.length_append, List.length_cons, List.length_nil]; omega
    · exact hk
  · have : n.1 ≠ k.1 := fun x => e (Fin.ext x)
    simp only [Fin.getElem_fin] at hk ⊢
    rw [Vector.getElem_set_ne _ _ this]; exact hk

/-- A change of one output of the Fireguard that does not raise HV_EN. -/
@[simp] theorem Keeps.onGo {a s : State} (h : Keeps a s) (o : Fin 6) {f : GuardOut → GuardOut} (hf : ∀ x, (f x).hv = true → x.hv = true) :
    Keeps a (s.onGo o f) := by
  unfold State.onGo
  refine h.onGuard ?_
  intro g k
  simp only [upd]
  by_cases e : o = k
  · subst e; simp only [Fin.getElem_fin, Vector.getElem_set_self]; exact hf _
  · have : o.1 ≠ k.1 := fun x => e (Fin.ext x)
    simp only [Fin.getElem_fin]
    rw [Vector.getElem_set_ne _ _ this]; exact id

end Sys2Proof.Machine
end

