-- ==== Sys2Proof/WellFormed.lean ====
section
/-!
DEFINITION. Which commands are well formed: the lengths and ranges that a command's operands have where it arises. The meanings
are total: they answer a next state for an ill-formed command too, and no statement about them assumes this check.
-/

namespace Sys2Proof

/-- A frame as a port takes it (R92, R95): the Ethernet envelope on HP3 alone, a TAG of 16 bytes or none, and as many payload
words as COUNT can name. -/
def Frame.wf (f : Frame) : Bool :=
  (f.eth.isSome == decide (f.port = 3)) && (f.tag.length == 0 || f.tag.length == 16) && decide (f.payload.length < 65536)

/-- A card's identity: 4, 7 or 10 bytes of Type A, the 4-byte PUPI of Type B. -/
def CardIn.wf (c : CardIn) : Bool :=
  if c.typeB then c.uid.length == 4 else c.uid.length == 4 || c.uid.length == 7 || c.uid.length == 10

/-- The operands of a command have the lengths and ranges of its source. -/
def Instr.wf : Instr → Bool
  | .read f => f.wf
  | .write f => f.wf
  | .hello f => f.wf
  | .prove f => f.wf
  | .close f => f.wf
  | .submit f => f.wf
  | .feed f => f.wf
  | .nop f => f.wf
  | .requestAborted _ => true
  | .partialFrameDiscard => true
  | .openingTimeout sid => sid != 0
  | .idleTimeout sid => sid != 0
  | .portRestart _ => true
  | .sluiceSend sid _ msg => sid != 0 && decide (1 ≤ msg.length ∧ msg.length ≤ 32)
  | .sluiceReceive sid _ want => sid != 0 && decide (1 ≤ want ∧ want ≤ 128)
  | .jobCancel sid _ => sid != 0
  | .jobRelease sid _ => sid != 0
  | .jobExpire _ => true
  | .setPassword _ polder len pw => (polder == 3 || polder == 5) && len == pw.length && (len == 0 || decide (8 ≤ len ∧ len ≤ 32))
  | .keyDerive _ p => decide (1 ≤ p.label.length ∧ p.label.length ≤ 32) && decide (p.context.length ≤ 64)
  | .keyImport _ _ => true
  | .keyInvalidate _ _ => true
  | .attest _ nonce => nonce.length == 64
  | .lifecycle _ target _ => target == 3 || target == 4
  | .lifecycleNonce _ => true
  | .lifecycleNonceLapse => true
  | .keyRemask => true
  | .keySlotExpire _ => true
  | .hssTreeReady => true
  | .grateFrame _ => true
  | .tripLineAssert _ => true
  | .tripLineClear _ => true
  | .icValidLost _ _ => true
  | .icValidRestored _ => true
  | .mclkPadFault _ => true
  | .votePersistentDisagree _ => true
  | .voteDisagreeClear _ => true
  | .sensorLongLoss _ => true
  | .swapArm sid _ => sid != 0
  | .swapAbandon sid _ => sid != 0
  | .planSwap => true
  | .planSwapWaitExpire => true
  | .fgPortRetry _ => true
  | .magFieldDetect _ => true
  | .magSatDetect _ => true
  | .magEpisodeEnd => true
  | .trackWindowOpen _ => true
  | .trackWindowEnd _ => true
  | .tempStale _ => true
  | .tickHandoff => true
  | .pulseStart _ => true
  | .pulseEnd _ => true
  | .periodicSave => true
  | .phaseseqReversed _ => true
  | .phaseseqEpisodeEnd _ => true
  | .neutralMissing _ => true
  | .neutralEpisodeEnd _ => true
  | .powerFailWarning => true
  | .warningClear => true
  | .brownOut => true
  | .billingBoundary => true
  | .tickCommit => true
  | .demandIntervalEnd => true
  | .periodEnd => true
  | .offsetChange => true
  | .calendarTariffSwitch => true
  | .tariffCommandEffective => true
  | .attrTimeout _ => true
  | .billSlewEnd => true
  | .billHoldEnd => true
  | .billingStateWrite => true
  | .bilTimeset sid _ => sid != 0
  | .bilTcmd sid _ => sid != 0
  | .bilDsync sid _ => sid != 0
  | .sealOpen _ => true
  | .sealClose _ => true
  | .sealAutoClose => true
  | .calWrite _ => true
  | .calMeasureRun _ => true
  | .flueRead _ => true
  | .flueFetch _ => true
  | .flueCert _ => true
  | .flueDeferredSign => true
  | .tamperInputActive _ => true
  | .ledgerMerge => true
  | .tNrst _ => true
  | .pilotStateChange _ _ => true
  | .ppCodeChange _ _ => true
  | .modemFailed _ _ _ => true
  | .cmSlacParmReq _ => true
  | .cmStartAttenCharInd _ => true
  | .slacSound _ _ => true
  | .neighbourAttenChar _ _ => true
  | .slacWindowClose => true
  | .cmSlacMatchReq _ _ => true
  | .cmValidate _ _ _ => true
  | .slacFailed _ => true
  | .t1sDisable _ => true
  | .t1sLinkDrop _ => true
  | .sdpRequest _ _ => true
  | .supportedAppProtocol _ _ => true
  | .tlsHandshake _ _ => true
  | .sessionSetup _ _ => true
  | .serviceDiscovery _ _ => true
  | .identification _ _ => true
  | .certificateInstallation _ _ _ => true
  | .chargeParameterDiscovery _ _ _ _ => true
  | .cableCheckRequest _ => true
  | .prechargeRequest _ _ => true
  | .powerDelivery _ _ => true
  | .chargeLoop _ _ _ _ => true
  | .meteringReceipt _ _ => true
  | .weldingDetection _ => true
  | .sessionStop _ _ => true
  | .authDeadline _ => true
  | .vehDecideAuthorisation sid _ _ => sid != 0
  | .vehDecideWithdraw sid _ _ => sid != 0
  | .vehDecideRelayResponse sid _ _ => sid != 0
  | .listAdd sid _ _ _ => sid != 0
  | .listRemove sid _ _ _ => sid != 0
  | .listClear sid _ => sid != 0
  | .listSaltWrite sid _ _ => sid != 0
  | .lockTimeout _ => true
  | .specHoldTimeout _ => true
  | .noOutcomeTimeout _ => true
  | .rollbackTimeout _ => true
  | .waitUnplugDone _ => true
  | .allocationZeroPause _ => true
  | .acPauseLimit _ => true
  | .stoppingTimeout _ => true
  | .acStopTimeout _ => true
  | .pilot5pctEnd _ => true
  | .outputVoltageReached _ _ => true
  | .outputBelow60v _ _ => true
  | .stopCurrentLow _ _ => true
  | .lockEndOfTravel _ => true
  | .lockDriveTimeout _ => true
  | .setpointPeriod => true
  | .cabinetStatusFrame _ _ frame => decide (frame.length ≤ 64)
  | .cabinetLost _ => true
  | .cabinetStartTimeout _ => true
  | .thermalStop _ => true
  | .pumpPostRunEnd _ => true
  | .degradedStop => true
  | .hearthResume => true
  | .seqStop sid _ => sid != 0
  | .seqUnlock sid _ => sid != 0
  | .seqClear sid _ => sid != 0
  | .seqBlock sid _ => sid != 0
  | .seqUnblock sid _ => sid != 0
  | .meshShareRaise => true
  | .meshFallback => true
  | .safetySlot _ _ => true
  | .cabinetSafetyFrame _ _ frame => decide (frame.length ≤ 64)
  | .networkMissing _ => true
  | .networkDisagreement => true
  | .bothNetworksLost => true
  | .cabinetMissing _ => true
  | .cabinetFramesRestored _ => true
  | .networksRestored => true
  | .degradedClear => true
  | .degradedLimit => true
  | .laneLost => true
  | .laneGood => true
  | .clockFault => true
  | .heartbeatMissing => true
  | .holdEnd => true
  | .holdExpire => true
  | .fireguardReset _ => true
  | .hvEnRaise _ => true
  | .isoHalfEnds _ => true
  | .cableCheckDwellStart _ _ => true
  | .cableCheckRampFail _ => true
  | .rcdEvaluate _ => true
  | .rcdSelftestStart _ => true
  | .rcdSelftestEnds _ => true
  | .weldCheck _ _ => true
  | .guardChange _ _ => true
  | .guardFault => true
  | .guardTestPass => true
  | .safeOffCurrentLow _ _ => true
  | .safeOffForce => true
  | .nrstAssert => true
  | .nrstRelease _ => true
  | .thermalReset => true
  | .watchdog => true
  | .hearthFailover => true
  | .eccUncorrectable => true
  | .eccCorrectable => true
  | .pairASelftestDone _ => true
  | .hearthCheckpoint => true
  | .clockLoss => true
  | .crystalRetry _ => true
  | .xtal32Fail => true
  | .xtal32Restore => true
  | .backupAnchor => true
  | .rtcReload => true
  | .pilotSupplyUp => true
  | .pilotSupplyLoss => true
  | .vauxUndervoltage => true
  | .vauxRecover => true
  | .coldBoot _ rtcTicks _ => decide (rtcTicks < 2 ^ 48)
  | .flashRetry _ => true
  | .commandWarm sid _ => sid != 0
  | .commandCold sid _ => sid != 0
  | .emberEntryAuto => true
  | .sleep sid _ => sid != 0
  | .wakeUp _ _ rtcTicks _ => decide (rtcTicks < 2 ^ 48)
  | .lpLimit => true
  | .emberBrownOut => true
  | .rtcAlarm => true
  | .lswOn sid _ => sid != 0
  | .lswClear sid _ => sid != 0
  | .currentLimitTurnoff _ => true
  | .retryDelayEnd _ => true
  | .retryReload _ _ => true
  | .thermalLatch _ => true
  | .openLoad _ => true
  | .offStateTest _ _ => true
  | .negVoltage _ => true
  | .pullinEnd _ => true
  | .nfcEnable sid _ => sid != 0
  | .noCardBaseline _ => true
  | .lpcdPing _ => true
  | .lpcdConfirmPing _ => true
  | .pollCycle cards => cards.all CardIn.wf
  | .inventory cards => cards.all CardIn.wf
  | .holdMaxExpire _ => true
  | .nfcRfFault => true
  | .nfcFaultRecover => true
  | .nfcFieldRestart => true
  | .nfcTestMode sid _ => sid != 0
  | .nfcTestLimit => true
  | .nfcBind sid _ => sid != 0
  | .cardBindTimeout _ => true
  | .nfcXchg sid _ => sid != 0
  | .nfcXchgDone _ _ => true
  | .tagFieldOn => true
  | .tagFieldLost => true
  | .fdetRelease => true
  | .tagSelectApplication _ => true
  | .tagSelectFile _ => true
  | .tagReadBinary offset le => decide (offset < 65536) && decide (le ≤ 256)
  | .tagUpdateBinary w => decide (w.offset < 65536) && decide (1 ≤ w.data.length ∧ w.data.length ≤ 64) && (w.collapse.all (fun c => decide (1 ≤ c.1 ∧ c.1 ≤ 6)))
  | .tagVerify _ => true
  | .tagAuthBegin => true
  | .tagAuthFinish data => data.length == 32
  | .tagDeselect => true
  | .tagUnlock sid _ => sid != 0
  | .tagPasswordWrite sid _ => sid != 0
  | .tagWindowWrite sid _ words => sid != 0 && decide (1 ≤ words.length ∧ words.length ≤ 128)
  | .tagWireServe => true
  | .statusLineWrite => true
  | .statusLineNrst => true
  | .statusLineNotRunning => true
  | .trackerLock _ _ => true
  | .trackerUnlock _ _ => true
  | .meshClaimDue => true
  | .meshTimeDue => true
  | .meshFrameStart => true
  | .meshAttemptFail => true
  | .meshFrameSent => true
  | .meshClaimRx _ => true
  | .meshBeaconRx _ => true
  | .meshTimeRx _ _ => true
  | .meshRelaySend => true
  | .meshContextExpire _ => true
  | .update _ => true
  | .updateVerify => true
  | .updateTokenExpire => true
  | .checkpointExpire => true
  | .activate sid _ => sid != 0
  | .confirm sid _ => sid != 0
  | .revert sid _ => sid != 0
  | .trialExpire _ => true
  | .logExport _ => true
  | .logFlush => true
  | .logFold => true
  | .bwWindowEnd _ => true
  | .bwcfgWrite sid _ => sid != 0
  | .fgConfigWrite sid addr _ => sid != 0 && addr % 8 == 0 && addr / 0x10000 == 0x0B
  | .fgPortFault _ _ => true
  | .fgStreamValidRestored _ => true
  | .vehicleMessageTimeout _ => true
  | .meshFrameBad => true
  | .zeroCrossingJump _ => true
  | .vbatLost => true
  | .flashDieFault => true
  | .trialSecondsSave _ => true

end Sys2Proof
end

