-- ==== Sys2Proof/Tests/Slice0.lean ====
section
/-!
SUPPORT. Tests of the model: the checks of `Instr.wf`, small tests of one step, and for each statement of
`Sys2Proof.Certificates.Slice0.Obligations` with hypotheses a concrete state and operands that meet them, clause by clause.
-/

namespace Sys2Proof.Machine

/-- A session under ID 1. -/
def State.withSession (s : State) (h : Session) : State :=
  s.onHost (fun x => { x with table := x.table.set 1 (.host h), freeSids := x.freeSids.filter (· != 1) })

/-- A job in slot 0. -/
def State.withJob (s : State) (b : Job) : State := s.onJob 0 (fun _ => b)

/-- A state with a relayed request pending on output 0. -/
def State.asking (s : State) (kind : Nat) : State :=
  s.onVeh (fun v => { v with relay := upd v.relay 0 (fun r => { r with kind := kind, seq := 9, deadline := some 100000000001 }) })

/-- A key slot set to a value. -/
def State.withSlot (s : State) (n : Fin 256) (k : KeySlot) : State := s.onSlot n (fun _ => k)

/-- A field of a register in use set to a value. -/
def State.using_ (s : State) (r : RegSpec) (ix : List Nat) (f : Field) (v : Nat) : State :=
  { s with regs := putKey (r.addr ix) (f.set (s.reg r ix) v) s.regs, use := putKey (r.addr ix) (f.set (s.inUse r ix) v) s.use }

end Sys2Proof.Machine

namespace Sys2Proof.Tests
open Sys2Proof.Machine

/-- The block up and running on all its levels, 4,000 s after TB started: no plan, no session. -/
def live : State :=
  { State.reset with
    hearth := { running := true, pairA := .primary, pairB := .off, checkpointTb := none, busyUntil := 0, failedA := false, failedB := false }
    clock := { tb := 100000000000, run := true, wall := none }
    use := putKey (R.SES_PORTCFGn.addr [0]) 0xC800001 []
    log := { EventLog.reset with flashOk := true, boundary := 256 }
    guard := { Guard.reset with started := true, firstPulse := true, clockOk := true, laneOk := true, levelA := true, tested := true }
    pwr := { Power.reset with inReset := false, level := 3, pll := true, xtal := true, backupLost := false } }

/-- `live` with the door open. -/
def door : State := live.onGuard (fun g => { g with levelA := false, levelB := true, seenOpen := true })

/-- An open password session of a polder on HP0. -/
def ses (p : Nat) : Session :=
  { port := 0, src := 0, polder := p, password := true, sealed := false, commissioning := false, idle := 60, hello0 := 0, hostNonce := [],
    devNonce := [], opening := false, ext := 5, extFirst := 5, consumed := [5], bucket := 512 * tbSecond, refillTb := 100000000000,
    keySlot := none, lastTb := 100000000000, keySel := 0, calSel := 0, probeSel := 0x1FF }

/-- `live` with an open session of polder `p` under ID 1. -/
def host (p : Nat) : State := State.withSession live (ses p)

/-- A waiting job. -/
def queued (code polder : Nat) (params : List W64) : Job :=
  { Job.reset with state := .queued, code, polder, params, cancellable := true, seen := false }

/-- A frame on HP0 for ID 1 with a good CRC. -/
def frame (op seq addr count : Nat) (payload : List W64) : Frame :=
  { port := 0, eth := none, op := BitVec.ofNat 8 op, sid := if op = 3 then 0 else 1, flags := 0, seq := BitVec.ofNat 16 seq,
    count := BitVec.ofNat 16 count, addr := BitVec.ofNat 32 addr, payload, tag := [],
    crc := BitVec.ofNat 32 (crc32c (frameHead 0 op (if op = 3 then 0 else 1) 0 seq count addr payload)) }

/-- A key slot in use. -/
def vslot (grant : Nat) : KeySlot := { KeySlot.reset with state := .valid, engines := 1023, grant, kind := 3, key := List.replicate 32 7#8, share := List.replicate 32 7#8 }

/-- `live` with slot 100 of P2, its child 101 and grandchild 102. -/
def keyed : State :=
  (((live.withSlot 1 { vslot 0 with key := List.replicate 48 7#8, kind := 4 }).withSlot 2 { vslot 0 with kind := 6 }).withSlot 100 (vslot 2)).withSlot 101 { vslot 2 with hasParent := true, parent := 100 }
    |>.withSlot 102 { vslot 2 with hasParent := true, parent := 101 }

/-- A small plan: one conditioner and one cell chain for output 0, a trip line, a vote of two. -/
def plan : Plan where
  planId := 1
  version := 1
  level := 0
  built := 0
  anchor := 0
  sections := [
    { sealed := true, id := 1, digest := [], body := .struct 63 1 (List.replicate 6 { volt := 1000, amp := 500, kind := 0, cabinet := 1, ownOc := false }) },
    { sealed := true, id := 2, digest := [], body := .ic [{ index := 0, mclk := 0, falling := false, invert := false, format := 0 }] },
    { sealed := true, id := 3, digest := [], body := .ma [{ index := 0, op := 5, a := 0x30, b := 0, c := 0, shift := 0, calSlot := 3, p := 0, k := 0 }] },
    { sealed := true, id := 4, digest := [], body := .integ [{ index := 0, mode := 0, source := 0 }] },
    { sealed := true, id := 5, digest := [], body := .energy [{ integ := 0, output := 0, reg := 0, pulse := true, threshold := 1000 }] },
    { sealed := true, id := 6, digest := [], body := .qty [{ output := 0, qty := 2, phase := 0, source := 0xB0, metro := true }] },
    { sealed := true, id := 7, digest := [], body := .tc [{ index := 0, sample := false, above := true, below := false, source := 0xB0, debounce := 1, line := 0, hi := 10, lo := -10 }] },
    { sealed := true, id := 8, digest := [], body := .trip [.line 0 1 0] },
    { sealed := true, id := 9, digest := [], body := .vote [{ group := 0, members := [0xB0, 0xB1], tolerance := 5 }] }]

/-- `live` with that plan. -/
def planned : State := (live.onGrate (fun g => { g with plan := some plan, frames := 1000000, settled := true })).onVeh (fun v => { v with watched := 0x3F })

/-- `planned` with bill time known and a session of polder `p` under ID 1. -/
def billed (p : Nat) : State :=
  ({ planned with clock := { live.clock with wall := some (1000000000, 90000000000) } }.onBil (fun b => { b with
      mode := .normal, timeAt := 1000000000, timeTb := 90000000000, lastB := some 1000399999,
      running := Interval.zero 999900000 1000800000 })).withSession (ses p)

/-- No samples. -/
def quiet : FrameIn := { bits := Vector.replicate 48 0#250, fg := Vector.replicate 8 none }

/-- A tick of 200 ms that ended at `e`, open, with bill time `b` at its start. -/
def tick (n e b : Nat) : Tick where
  jseq := n
  startTb := e - 5000000
  endTb := e
  s := some b
  outs := Vector.replicate 6 { imp := 3, exp := 1, sid := 0, tariff := 2, attr := .none }
  siteTariff := 2
  held := false
  short := false
  wide := false
  slewed := false
  span := Vector.replicate 7 0
  cal := []
  calcfg := 0
  committed := false

/-- A vehicle's session on output 0 in a sequencer state, its modem matched; its session ID is 2. -/
def veh (x : OutState) : State :=
  (((planned.onSo 0 (fun q => { q with state := x, sid := some 2, startTb := some 99000000000, enterTb := 99000000000 })).onHost (fun h =>
    { h with table := h.table.set 2 (.vehicle 0), freeSids := h.freeSids.filter (· != 2) })).onVeh (fun v =>
    { v with modems := upd v.modems 0 (fun m => { m with matched := true, refillTb := 100000000000 }) })).withSlot 3 (vslot 0)

/-- `veh` with a session of polder `p` under ID 1. -/
def vhost (p : Nat) (x : OutState) : State := (veh x).withSession (ses p)

/-- A frame of a cabinet with a good CRC. -/
def cabFrame (seq : Nat) : Bytes :=
  let b := leBytes 4 seq ++ List.replicate 24 3#8
  b ++ leBytes 4 (crc32c b)

/-- `veh` with HV_EN raised on output 0. -/
def hot (x : OutState) : State := (veh x).onGo 0 (fun g => { g with hv := true, request := true })

/-- `veh` with the settings that HV_EN of output 4 asks for. -/
def ready4 : State :=
  (((((veh .idle).using_ R.FG_WELDCFGn [4] F.FG_WELDCFGn_VCHECK 1).using_ R.FG_RCDCFGk [0] F.FG_RCDCFGk_EN 1).using_ R.FG_RCDCFGk [0] F.FG_RCDCFGk_FS_MA 3000
    |>.using_ R.FG_RCDCFGk [0] F.FG_RCDCFGk_TEST_LS 9).using_ R.LSW_CFGn [9] F.LSW_CFGn_MODE 7).using_ R.MET_FG_CFGn [0] F.MET_FG_CFGn_MODE 1
    |>.using_ R.MET_FG_CFGn [0] F.MET_FG_CFGn_DIV 1500 |>.onRcd 0 (fun r => { r with testOk := true, passTb := some 99000000000, due := false })

/-- A safety frame with a good CRC. -/
def safeFrame (seq : Nat) : Bytes :=
  let b := leBytes 4 seq ++ List.replicate 12 2#8
  b ++ leBytes 4 (crc32c b)

/-- `veh` with the monitor of output 0 configured. -/
def iso (x : OutState) : State :=
  ((((((veh x).using_ R.FG_ISOCFGn [0] F.FG_ISOCFGn_SRC_UP 1).using_ R.FG_ISOCFGn [0] F.FG_ISOCFGn_SRC_UM 2).using_ R.FG_ISOCFGn [0] F.FG_ISOCFGn_RB_KOHM 500).using_
    R.FG_ISOCFGn [0] F.FG_ISOCFGn_LS_POS 10).using_ R.FG_ISOCFGn [0] F.FG_ISOCFGn_LS_NEG 11).using_ R.LSW_CFGn [10] F.LSW_CFGn_MODE 7 |>.using_ R.LSW_CFGn [11] F.LSW_CFGn_MODE 7

/-- The second half of a measurement of output 0 that has ended. -/
def isoHalf : State :=
  (iso .charging).onIso 0 (fun x => { x with halfB := true, okA := true, upA := 400000, umA := 300000, sumUp := 3000000, sumUm := 4000000, frames := 10 })

/-- `live` with the card reader in a state for 4,000 s. -/
def reader (x : RdState) : State := (host 2).onRdr (fun r => { r with state := x })

/-- A card on the field. -/
def card : CardIn := { typeB := false, uid := [1#8, 2#8, 3#8, 4#8], sak := 8, atqa := 4, lost := false }

/-- A Type B card on the field. -/
def cardB : CardIn := { card with typeB := true }

/-- That card, held under ID 5. -/
def held : Card := { parked := false, typeB := false, sak := 8, atqa := 4, uid := [1#8, 2#8, 3#8, 4#8], sid := 5, tb := 90000000000, misses := 0, pseudonym := 7, waiting := true, bound := none }

/-- `reader` that holds the card. -/
def holding (x : RdState) : State := ((reader x).onRdr (fun r => { r with cards := r.cards.set 0 (some held) })).onHost (fun h => { h with table := h.table.set 5 (.card 0) })

/-- The tag in a field state with a file selected. -/
def tagged (field : Nat) (f : TagFile) : State := (host 2).onTag (fun t => { t with field := field, app := true, file := some f })

/-- `live` with the mesh on as node 5. -/
def meshed : State := (live.using_ R.MSH_CFG [] F.MSH_CFG_ENABLE 1).using_ R.MSH_CFG [] F.MSH_CFG_NODE_ID 5

/-- That post knows the time. -/
def meshClock : State := ((meshed.using_ R.MSH_CFG [] F.MSH_CFG_TIME_SRC 1).onClock (fun c => { c with wall := some (1000000000, 100000000000) })).onMesh (fun m => { m with refillTb := 100000000000 })

/-- A frame of node 3. -/
def meshIn (type : Nat) : MeshIn := { type, orig := 3, send := 3, hops := 1, cost := 2, seq := 9, payload := 77 }

/-- A frame on its way out. -/
def meshTx : MeshTx := ⟨⟨1, 5, 5, 1, 0, 7, 12⟩, false, 0⟩

/-- An update of a component in a stage, held by the session of ID 1. -/
def upd1 (stage kind comp : Nat) : UpdateJob :=
  { stage, kind, comp, delta := false, total := 10, targetLen := 80, base := 0, stream := 3, job := 0, holder := some 1, polder := 2, recovery := false,
    tokenTb := 97000000000, next := 0, data := [], bad := 0, checkpoint := 0, ended := false, slotB := true }

/-- `host 2` with that update running. -/
def updating (u : UpdateJob) : State := ((host 2).withJob { queued 0x30 2 [] with state := .running }).onFw (fun x => { x with job := some u })

/-- Component `k` on trial in slot B, slot A verified. -/
def trial (k : Fin 5) : State :=
  (host 2).onFw (fun x => { x with comps := upd x.comps k (fun c => { c with active := true, stA := .verified, stB := .active, imgB := c.imgA, trial := true, secTb := 98500000000 }) })

/-- `live` asleep. -/
def ember : State :=
  { (live.using_ R.PWR_WAKECFG [] F.PWR_WAKECFG_HP0 1) with
    hearth := { live.hearth with running := false }
    clock := { live.clock with run := false }
    pwr := { live.pwr with mode := .ember, level := 0, pll := false, retain := 0xFF, anchor := some { tb := 100000000000, rtc := 5, wall := none } } }

/-- An anchor object of a scope. -/
def anchorData (isSealed : Bool) : Bytes :=
  [0x4C#8, 0x56#8, 0x41#8, 0x4E#8, 1#8, 0#8, if isSealed then 1#8 else 0#8, 0#8, 4#8] ++ List.replicate 96 7#8 ++ List.replicate 7 0#8 ++ List.replicate 60 9#8 ++ List.replicate 4 0#8

/-- The anchor of that object. -/
def anchor : Anchor :=
  { id := ofLE ((sha384 (((anchorData true).drop 8).take 164)).take 6), ecdsa := (ofBE (List.replicate 48 7#8), ofBE (List.replicate 48 7#8)), hss := List.replicate 60 9#8 }

/-- A remove object. -/
def removeData (n : Nat) : Bytes := [0x4C#8, 0x56#8, 0x41#8, 0x58#8, 1#8, 0#8, 0#8, 0#8] ++ leBytes 6 n ++ [0#8, 0#8]

end Sys2Proof.Tests
namespace Sys2Proof.Tests
open Sys2Proof.Machine

theorem up_of {s : State} (p : s.pwr.inReset = false ∧ s.pwr.mode = .run) : s.up := p

theorem takes_of {s : State} {op : Nat} {f : Frame}
    (p : s.listens f.port = true ∧ s.forUs f = true ∧ tooShort f = false ∧ crcOk f = true ∧ malformed op f s.pwr.recovery = false ∧ s.life.state ≠ .scrapped) :
    s.Takes op f := ⟨p.1, p.2.1, p.2.2.1, p.2.2.2.1, p.2.2.2.2.1, p.2.2.2.2.2⟩

theorem passes_of {s : State} {f : Frame} {i : Fin 64} {h : Session} {e : Nat}
    (p : s.sessionOf f = some (i, h) ∧ h.opening = false ∧ h.sealed = false ∧ f.flags.toNat ≠ 2 ∧ h.keySlot = none ∧
      h.fate f.seq.toNat = .accept e ∧ tbSecond ≤ s.bucketNow h ∧ s.hearthBusy = false) : s.Passes f i h e :=
  ⟨p.1, p.2.1, fun x => (by rw [p.2.2.1] at x; cases x), fun _ => p.2.2.2.1, by simp [p.2.2.2.2.1], p.2.2.2.2.2.1, p.2.2.2.2.2.2.1, p.2.2.2.2.2.2.2⟩

theorem ready_of {s : State} {sid : Fin 64} {h : Session}
    (p : s.session sid = some h ∧ s.listens h.port = true ∧ h.keySlot = none ∧ tbSecond ≤ s.bucketNow h ∧ s.hearthBusy = false) : s.Ready sid h :=
  ⟨p.1, p.2.1, by simp [p.2.2.1], p.2.2.2.1, p.2.2.2.2⟩

theorem granted_of {s : State} {sid : Fin 64} {r : RegSpec} {ix : List Nat} {h : Session} {v : W64}
    (p : (s.session sid = some h ∧ s.listens h.port = true ∧ h.keySlot = none ∧ tbSecond ≤ s.bucketNow h ∧ s.hearthBusy = false) ∧
      s.mayWriteAt sid h r ix v.toNat = true ∧ s.isDark (r.addr ix / 0x10000) = false) : s.Granted sid h r ix v :=
  ⟨ready_of p.1, p.2.1, p.2.2⟩

theorem linked_of {s : State} {o : Fin 6} (p : s.linkUp o = true ∧ (s.so o).sid.isSome = true ∧ (s.veh.proto[o]).tls = false) : s.Linked o :=
  ⟨p.1, p.2.1, fun x => (by rw [p.2.2] at x; cases x), fun x => (by rw [p.2.2] at x; cases x)⟩

theorem inv_of {s : State} (p : (Memory.wf s.tag.mem = true ∧ s.regs.Pairwise (fun x y => x.1 < y.1) ∧ s.use.Pairwise (fun x y => x.1 < y.1) ∧ s.sticky.Pairwise (fun x y => x.1 < y.1)) ∧ s.fw.backup = none ∧
    (∀ n : Fin 8, (s.host.sluices[n]).msgs.length ≤ 8) ∧ (∀ k : Fin 24, s.cnt.count[k] < 2 ^ 48) ∧ s.log.staged.length ≤ 256 ∧ s.life.inTransit = none) : s.Inv :=
  ⟨p.1.1, p.1.2.1, p.1.2.2.1, p.1.2.2.2, fun b h => (by rw [p.2.1] at h; cases h), p.2.2.1, p.2.2.2.1, p.2.2.2.2.1, fun b h => (by rw [p.2.2.2.2.2] at h; cases h)⟩

end Sys2Proof.Tests

namespace Sys2Proof.Tests
open Sys2Proof.Machine

set_option Elab.async false
set_option linter.unusedVariables false

/-! ### Well-formed commands -/

/-- Session ID 0 names no session: no command of a session carries it. -/
theorem test_wf_session_id :
    ([
    .openingTimeout 0, .idleTimeout 0, .sluiceSend 0 0 [1#64], .sluiceReceive 0 0 1,
    .jobCancel 0 0, .jobRelease 0 0, .swapArm 0 0, .swapAbandon 0 0,
    .bilTimeset 0 0, .bilTcmd 0 0, .bilDsync 0 0, .vehDecideAuthorisation 0 0 0,
    .vehDecideWithdraw 0 0 0, .vehDecideRelayResponse 0 0 0, .listAdd 0 0 0 0, .listRemove 0 0 0 0,
    .listClear 0 0, .listSaltWrite 0 false 0, .seqStop 0 0, .seqUnlock 0 0,
    .seqClear 0 0, .seqBlock 0 0, .seqUnblock 0 0, .commandWarm 0 0,
    .commandCold 0 0, .sleep 0 0, .lswOn 0 0, .lswClear 0 0,
    .nfcEnable 0 0, .nfcTestMode 0 0, .nfcBind 0 0, .nfcXchg 0 0,
    .tagUnlock 0 0, .tagPasswordWrite 0 0, .tagWindowWrite 0 1 [1#64], .activate 0 0,
    .confirm 0 0, .revert 0 0, .bwcfgWrite 0 0, .fgConfigWrite 0 0xB0000 0] : List Instr).all (fun c => !c.wf) = true := by decide +kernel

/-- A frame of HP0 that is well formed, and one ill formed for each check of `Frame.wf`, under each operation. -/
theorem test_wf_frames :
    ([Instr.read, Instr.write, Instr.hello, Instr.prove, Instr.close, Instr.submit, Instr.feed, Instr.nop]).all (fun c =>
      (c (frame 1 0 0 1 [])).wf && !(c { frame 1 0 0 1 [] with port := 3 }).wf && !(c { frame 1 0 0 1 [] with tag := [1#8] }).wf &&
        !(c { frame 1 0 0 1 [] with payload := List.replicate 65536 0 }).wf) = true := by decide +kernel

/-- Each remaining check of `Instr.wf` refuses a term that fails it and no other. -/
theorem test_wf_operands :
    ([.sluiceSend 1 0 [], .sluiceSend 1 0 (List.replicate 33 0), .sluiceReceive 1 0 0, .sluiceReceive 1 0 129,
      .setPassword 0 4 0 [], .setPassword 0 3 9 (List.replicate 8 1#8), .setPassword 0 3 7 (List.replicate 7 1#8),
      .setPassword 0 5 33 (List.replicate 33 1#8),
      .keyDerive 0 { parent := 1, child := 2, kind := 1, engines := 0, legacy := 0, limit := 0, expiry := 0, label := [], context := [] },
      .keyDerive 0 { parent := 1, child := 2, kind := 1, engines := 0, legacy := 0, limit := 0, expiry := 0, label := List.replicate 33 1#8, context := [] },
      .keyDerive 0 { parent := 1, child := 2, kind := 1, engines := 0, legacy := 0, limit := 0, expiry := 0, label := [1#8], context := List.replicate 65 1#8 },
      .attest 0 (List.replicate 63 1#8), .lifecycle 0 2 ⟨0, [], []⟩, .cabinetStatusFrame 0 false (List.replicate 65 0#8),
      .cabinetSafetyFrame 0 false (List.replicate 65 0#8), .coldBoot 0 (2 ^ 48) true, .wakeUp .pilot 0 (2 ^ 48) 0,
      .pollCycle [{ card with uid := [1#8] }], .inventory [{ cardB with uid := List.replicate 7 1#8 }],
      .tagReadBinary 65536 1, .tagReadBinary 0 257, .tagUpdateBinary ⟨65536, [1#8], none⟩, .tagUpdateBinary ⟨0, [], none⟩,
      .tagUpdateBinary ⟨0, List.replicate 65 1#8, none⟩, .tagUpdateBinary ⟨0, [1#8], some (0, true)⟩, .tagUpdateBinary ⟨0, [1#8], some (7, true)⟩,
      .tagAuthFinish (List.replicate 31 1#8), .tagWindowWrite 1 0 [], .tagWindowWrite 1 0 (List.replicate 129 0),
      .fgConfigWrite 1 0xB0001 0, .fgConfigWrite 1 0xC0000 0] : List Instr).all (fun c => !c.wf) = true := by decide +kernel

/-- Terms at the ends of the ranges that the checks accept. -/
theorem test_wf_accepts :
    ([.sluiceSend 1 7 (List.replicate 32 0), .sluiceReceive 63 0 128, .setPassword 0 3 0 [], .setPassword 0 5 32 (List.replicate 32 1#8),
      .keyDerive 0 { parent := 1, child := 2, kind := 1, engines := 0, legacy := 0, limit := 0, expiry := 0, label := List.replicate 32 1#8, context := List.replicate 64 1#8 },
      .attest 0 (List.replicate 64 1#8), .lifecycle 0 4 ⟨0, [], []⟩, .coldBoot 0 (2 ^ 48 - 1) true, .pollCycle [card, cardB], .tagReadBinary 65535 256,
      .tagUpdateBinary ⟨0, List.replicate 64 1#8, some (6, false)⟩, .tagAuthFinish (List.replicate 32 1#8), .tagWindowWrite 1 0 (List.replicate 128 0),
      .fgConfigWrite 1 0xB0008 0] : List Instr).all Instr.wf = true := by decide +kernel

/-! ### One step on a small state

Each expected result is worked from the rule named. -/

/-- The state that a command answers. -/
def after (c : Instr) (s : State) : State :=
  match exec c s with
  | .next t => t
  | _ => s

/-- R96: the check value of the CRC. -/
theorem test_crc32c : crc32c [0x31#8, 0x32#8, 0x33#8, 0x34#8, 0x35#8, 0x36#8, 0x37#8, 0x38#8, 0x39#8] = 0xE3069283 := by decide +kernel

/-- FIPS 180-4: SHA-256 of "abc". -/
theorem test_sha256_abc : (sha256 (ascii "abc")).take 4 = [0xBA#8, 0x78#8, 0x16#8, 0xBF#8] := by decide +kernel

/-- The front command runs on the queue's rest; an empty queue passes one tick of TB. -/
theorem test_step_front : step { live with pending := [.keyRemask, .logFlush] } = exec .keyRemask { live with pending := [.logFlush] } := rfl

theorem test_step_idle : (match step live with | .next t => t.clock.tb | _ => 0) = 100000000001 := by decide +kernel

/-- No table word spells a command: the state stays. -/
theorem test_withFetchWord : live.withFetchWord 8 5 = live := rfl

/-- R66: a slot expires at its time, not before. -/
theorem test_slot_expires :
    ((after (.keySlotExpire 7) (live.withSlot 7 { vslot 2 with expiry := 100000000000 })).slot 7).state = .expired ∧
    ((after (.keySlotExpire 7) (live.withSlot 7 { vslot 2 with expiry := 100000000001 })).slot 7).state = .valid := by decide +kernel

/-- R49: a sluice with 8 messages stores nothing and counts the refusal. -/
theorem test_sluice_full :
    let s := (host 2).onHost (fun h => { h with sluices := upd h.sluices 0 (fun q => { q with msgs := List.replicate 8 [1#64] }) })
    ((after (.sluiceSend 1 0 [5#64]) s).host.sluices[(0 : Fin 8)]).msgs.length = 8 := by decide +kernel

/-- R341: a DC stop waits in STOPPING until the current is below 5 A or 1 s has passed. -/
theorem test_stop_current :
    ((after (.stopCurrentLow 0 4999) (veh .stopping)).so 0).state = .weldcheck ∧
    ((after (.stopCurrentLow 0 5000) (veh .stopping)).so 0).state = .stopping ∧
    ((after (.stopCurrentLow 0 (-5000)) (veh .stopping)).so 0).state = .stopping := by decide +kernel

/-- The self-test of a Hearth pair: passed, it becomes the shadow; failed, it goes off. -/
theorem test_selftest :
    let s := live.onHearth (fun h => { h with pairA := .selfTest 100000000000, pairB := .primary })
    (after (.pairASelftestDone true) s).hearth.pairA = .shadow ∧ (after (.pairASelftestDone false) s).hearth.pairA = .off := by decide +kernel

/-- R440: a frame whose number of hops left is 0 is bad; one of the node's own is not counted. -/
theorem test_mesh_hops :
    (after (.meshClaimRx { meshIn 1 with hops := 0 }) meshClock).mesh.rxBad = 1 ∧
    (after (.meshClaimRx { meshIn 1 with orig := 5 }) meshClock).mesh.rxBad = 0 := by decide +kernel

/-- R442: after the fourth failed attempt the frame is dropped. -/
theorem test_mesh_attempts :
    (after .meshAttemptFail (meshed.onMesh (fun m => { m with sending := some { meshTx with attempts := 2 } }))).mesh.txDropped = 0 ∧
    (after .meshAttemptFail (meshed.onMesh (fun m => { m with sending := some { meshTx with attempts := 3 } }))).mesh.txDropped = 1 := by
  decide +kernel

/-! ### Witnesses of the statements -/

/-- States and operands that meet the hypotheses of `StepRunsFront`, clause by clause. -/
theorem test_wit_StepRunsFront :
    ∃ (c : Instr) (rest : List Instr) (s : State), s.pending = c :: rest :=
  ⟨(.nop (frame 8 6 0 0 [])), [], ({ live with pending := [.nop (frame 8 6 0 0 [])] }), by decide +kernel⟩

/-- States and operands that meet the hypotheses of `IdleStepIsOneTick`, clause by clause. -/
theorem test_wit_IdleStepIsOneTick :
    ∃ (s : State), s.pending = [] :=
  ⟨live, by decide +kernel⟩

/-- States and operands that meet the hypotheses of `StepKeepsInv`, clause by clause. -/
theorem test_wit_StepKeepsInv :
    ∃ (s t : State), s.Inv ∧ step s = .next t :=
  ⟨live, _, inv_of (by decide +kernel), rfl⟩

/-- States and operands that meet the hypotheses of `OnlyRaiseRaises`, clause by clause. -/
theorem test_wit_OnlyRaiseRaises :
    ∃ (c : Instr) (s t : State) (o : Output), exec c s = .next t ∧ t.raised o = true :=
  ⟨(.hearthCheckpoint), (live.onGo 0 (fun x => { x with hv := true })), _, 0, rfl, by decide +kernel⟩

/-- States and operands that meet the hypotheses of `LifeNeverBackward`, clause by clause. -/
theorem test_wit_LifeNeverBackward :
    ∃ (s t : State), s.Inv ∧ step s = .next t :=
  ⟨live, _, inv_of (by decide +kernel), rfl⟩

/-- States and operands that meet the hypotheses of `NoSessionIsP0`, clause by clause. -/
theorem test_wit_NoSessionIsP0 :
    (∃ (c : Instr) (s t : State), exec c s = .next t ∧ (∀ i h, s.anySession i = some h → h.polder ≠ 0)) ∧
    (∃ (f : Frame) (s : State), s.up ∧ s.Takes 3 f ∧ s.pwr.recovery = false ∧ s.hearthBusy = false ∧ s.sidCount SidUse.isHost < 32 ∧ s.openingOn f.port < 4 ∧ helloPolder (f.payload.headD 0).toNat = 0 ∧ (∀ t, (s.backoffOf f.port 0).until_ = some t → t ≤ s.clock.tb)) :=
  ⟨⟨(.nop (frame 8 6 0 0 [])), (host 2), _, rfl, by decide +kernel⟩,
    ⟨(frame 3 6 0 5 [0x10, 0, 0, 0, 0]), live, up_of (by decide +kernel), takes_of (by decide +kernel), by decide +kernel⟩⟩

/-- States and operands that meet the hypotheses of `TagMemoryKeeps`, clause by clause. -/
theorem test_wit_TagMemoryKeeps :
    ∃ (c : Instr) (s t : State), exec c s = .next t ∧ storesTag c = false :=
  ⟨(.nop (frame 8 6 0 0 [])), (host 2), _, rfl, by decide +kernel⟩

/-- States and operands that meet the hypotheses of `WideCommandsKeepTheRest`, clause by clause. -/
theorem test_wit_WideCommandsKeepTheRest :
    (∃ (cmd : Instr) (s t : State), exec cmd s = .next t ∧ (∃ f : Frame, cmd = .prove f)) ∧
    (∃ (cmd : Instr) (s t : State), exec cmd s = .next t ∧ (∃ f : Frame, cmd = .close f)) ∧
    (∃ (cmd : Instr) (s t : State), exec cmd s = .next t ∧ ((∃ f : Frame, cmd = .submit f) ∨ (∃ f : Frame, cmd = .feed f))) ∧
    (∃ (cmd : Instr) (s t : State), exec cmd s = .next t ∧ (∃ (j : Slot) (polder : Nat) (len : Nat) (pw : Bytes), cmd = .setPassword j polder len pw)) ∧
    (∃ (cmd : Instr) (s t : State), exec cmd s = .next t ∧ (∃ (j : Slot) (p : DeriveParams), cmd = .keyDerive j p)) ∧
    (∃ (cmd : Instr) (s t : State), exec cmd s = .next t ∧ (∃ (j : Slot) (p : ImportParams), cmd = .keyImport j p)) ∧
    (∃ (cmd : Instr) (s t : State), exec cmd s = .next t ∧ (∃ (j : Slot) (target : KeySlotNo), cmd = .keyInvalidate j target)) ∧
    (∃ (cmd : Instr) (s t : State), exec cmd s = .next t ∧ cmd = .planSwap) ∧
    (∃ (cmd : Instr) (s t : State), exec cmd s = .next t ∧ (∃ n : LineNo, cmd = .tripLineAssert n)) ∧
    (∃ (cmd : Instr) (s t : State), exec cmd s = .next t ∧ cmd = .sealAutoClose) ∧
    (∃ (cmd : Instr) (s t : State), exec cmd s = .next t ∧ ((∃ run : Bytes, cmd = .cmStartAttenCharInd run) ∨ (∃ (run : Bytes) (atten : Nat), cmd = .neighbourAttenChar run atten))) ∧
    (∃ (cmd : Instr) (s t : State), exec cmd s = .next t ∧ ((∃ (o : Output) (id : Ident), cmd = .identification o id) ∨ (∃ o : Output, cmd = .authDeadline o) ∨ (∃ o : Output, cmd = .lockTimeout o) ∨ (∃ o : Output, cmd = .rollbackTimeout o) ∨ (∃ (o : Output) (mv : Nat), cmd = .outputBelow60v o mv) ∨ (∃ o : Output, cmd = .stoppingTimeout o) ∨ (∃ o : Output, cmd = .acStopTimeout o) ∨ (∃ (o : Output) (ma : Int), cmd = .stopCurrentLow o ma) ∨ (∃ n : ChanNo, cmd = .thermalLatch n))) ∧
    (∃ (cmd : Instr) (s t : State), exec cmd s = .next t ∧ ((∃ (o : Output) (id : Ident), cmd = .identification o id) ∨ (∃ o : Output, cmd = .authDeadline o) ∨ (∃ o : Output, cmd = .lockTimeout o) ∨ (∃ o : Output, cmd = .rollbackTimeout o) ∨ (∃ (o : Output) (mv : Nat), cmd = .outputBelow60v o mv) ∨ (∃ o : Output, cmd = .stoppingTimeout o) ∨ (∃ o : Output, cmd = .acStopTimeout o) ∨ (∃ (o : Output) (ma : Int), cmd = .stopCurrentLow o ma) ∨ (∃ n : ChanNo, cmd = .thermalLatch n))) ∧
    (∃ (cmd : Instr) (s t : State), exec cmd s = .next t ∧ ((∃ (o : Output) (id : Ident), cmd = .identification o id) ∨ (∃ o : Output, cmd = .authDeadline o) ∨ (∃ o : Output, cmd = .lockTimeout o) ∨ (∃ o : Output, cmd = .rollbackTimeout o) ∨ (∃ (o : Output) (mv : Nat), cmd = .outputBelow60v o mv) ∨ (∃ o : Output, cmd = .stoppingTimeout o) ∨ (∃ o : Output, cmd = .acStopTimeout o) ∨ (∃ (o : Output) (ma : Int), cmd = .stopCurrentLow o ma) ∨ (∃ n : ChanNo, cmd = .thermalLatch n))) ∧
    (∃ (cmd : Instr) (s t : State), exec cmd s = .next t ∧ ((∃ (sid : Sid) (o : Output) (v : W64), cmd = .vehDecideAuthorisation sid o v) ∨ (∃ (sid : Sid) (o : Output) (v : W64), cmd = .vehDecideWithdraw sid o v))) ∧
    (∃ (cmd : Instr) (s t : State), exec cmd s = .next t ∧ ((∃ o : Output, cmd = .acPauseLimit o) ∨ (∃ o : Output, cmd = .thermalStop o) ∨ (∃ netB : Bool, cmd = .networkMissing netB) ∨ cmd = .networkDisagreement)) ∧
    (∃ (cmd : Instr) (s t : State), exec cmd s = .next t ∧ ((∃ o : Output, cmd = .acPauseLimit o) ∨ (∃ o : Output, cmd = .thermalStop o) ∨ (∃ netB : Bool, cmd = .networkMissing netB) ∨ cmd = .networkDisagreement)) ∧
    (∃ (cmd : Instr) (s t : State), exec cmd s = .next t ∧ ((∃ o : Output, cmd = .waitUnplugDone o) ∨ (∃ n : ChanNo, cmd = .lockEndOfTravel n) ∨ (∃ n : ChanNo, cmd = .lockDriveTimeout n) ∨ cmd = .vauxRecover ∨ (∃ k : CabNo, cmd = .cabinetLost k) ∨ (∃ k : CabNo, cmd = .cabinetStartTimeout k))) ∧
    (∃ (cmd : Instr) (s t : State), exec cmd s = .next t ∧ ((∃ o : Output, cmd = .waitUnplugDone o) ∨ (∃ n : ChanNo, cmd = .lockEndOfTravel n) ∨ (∃ n : ChanNo, cmd = .lockDriveTimeout n) ∨ cmd = .vauxRecover ∨ (∃ k : CabNo, cmd = .cabinetLost k) ∨ (∃ k : CabNo, cmd = .cabinetStartTimeout k))) ∧
    (∃ (cmd : Instr) (s t : State), exec cmd s = .next t ∧ ((∃ (sid : Sid) (v : W64), cmd = .seqBlock sid v) ∨ (∃ (sid : Sid) (v : W64), cmd = .seqUnblock sid v))) ∧
    (∃ (cmd : Instr) (s t : State), exec cmd s = .next t ∧ ((∃ (a : Bool) (b : Bool), cmd = .guardChange a b) ∨ cmd = .bothNetworksLost ∨ cmd = .degradedLimit ∨ cmd = .clockFault ∨ cmd = .holdExpire ∨ (∃ c : FgCause, cmd = .fireguardReset c))) ∧
    (∃ (cmd : Instr) (s t : State), exec cmd s = .next t ∧ ((∃ (a : Bool) (b : Bool), cmd = .guardChange a b) ∨ cmd = .bothNetworksLost ∨ cmd = .degradedLimit ∨ cmd = .clockFault ∨ cmd = .holdExpire ∨ (∃ c : FgCause, cmd = .fireguardReset c))) ∧
    (∃ (cmd : Instr) (s t : State), exec cmd s = .next t ∧ cmd = .vauxUndervoltage) ∧
    (∃ (cmd : Instr) (s t : State), exec cmd s = .next t ∧ ((∃ cards : List CardIn, cmd = .pollCycle cards) ∨ (∃ cards : List CardIn, cmd = .inventory cards))) ∧
    (∃ (cmd : Instr) (s t : State), exec cmd s = .next t ∧ (∃ (sid : Sid) (v : W64), cmd = .nfcBind sid v)) :=
  ⟨⟨(.prove (frame 4 6 0 6 [0,0,0,0,0,0])), (State.withSession live { ses 3 with opening := true }), _, rfl, by simp⟩,
    ⟨(.close (frame 5 6 0 0 [])), (host 2), _, rfl, by simp⟩,
    ⟨(.submit (frame 6 6 0 2 [0x22, 9])), (host 2), _, rfl, by simp⟩,
    ⟨(.setPassword 0 3 8 (List.replicate 8 1#8)), (State.withJob (host 3) (queued 0x02 2 [])), _, rfl, by simp⟩,
    ⟨(.keyDerive 0 { parent := 100, child := 103, kind := 3, engines := 1, legacy := 0, limit := 5, expiry := 0, label := [1#8], context := [] }), (keyed.withJob (queued 0x20 2 [])), _, rfl, by simp⟩,
    ⟨(.keyImport 0 { target := 103, blob := [], kind := 3, engines := 1, legacy := 0 }), (keyed.withJob (queued 0x21 2 [])), _, rfl, by simp⟩,
    ⟨(.keyInvalidate 0 100), (keyed.withJob (queued 0x22 2 [])), _, rfl, by simp⟩,
    ⟨.planSwap, (planned.onGrate (fun g => { g with shadow := some plan, shadowState := 2, liveOk := true })), _, rfl, by simp⟩,
    ⟨(.tripLineAssert 0), ((hot .charging).onGrate (fun g => { g with tc := g.tc.set 0 { TcState.reset with verdict := true, valid := true } })), _, rfl, by simp⟩,
    ⟨.sealAutoClose, (live.onMseal (fun m => { m with changed := true, record := { m.record with open_ := true, deadline := 5, epoch := 7 } })), _, rfl, by simp⟩,
    ⟨(.neighbourAttenChar [1#8] 5), planned, _, rfl, by simp⟩,
    ⟨(.identification 0 { type := 1, identity := [1#8], contract := false, chainOk := true }), ((vhost 2 .link).using_ R.VEH_AUTHCFG [] F.VEH_AUTHCFG_EIM 1), _, rfl, by simp⟩,
    ⟨(.lockTimeout 0), (veh .lock), _, rfl, by simp⟩,
    ⟨(.outputBelow60v 0 59999), (veh .rollback), _, rfl, by simp⟩,
    ⟨(.vehDecideAuthorisation 1 0 (w64 (2 + 64 + 0 + 9 * 65536))), ((vhost 2 .specReady).asking 1), _, rfl, by simp⟩,
    ⟨(.thermalStop 0), ((veh .paused).onSo 0 (fun q => { q with zeroCapTb := some 99000000000 })), _, rfl, by simp⟩,
    ⟨(.networkMissing true), ((hot .charging).onGuard (fun g => { g with missB := 10 })), _, rfl, by simp⟩,
    ⟨(.waitUnplugDone 0), (veh .waitUnplug), _, rfl, by simp⟩,
    ⟨(.cabinetLost 1), (hot .charging), _, rfl, by simp⟩,
    ⟨(.seqBlock 1 1), (vhost 2 .idle), _, rfl, by simp⟩,
    ⟨(.guardChange false true), (hot .charging), _, rfl, by simp⟩,
    ⟨.clockFault, (hot .charging), _, rfl, by simp⟩,
    ⟨.vauxUndervoltage, ((hot .charging).onChan 4 (fun c => { c with state := 1 })), _, rfl, by simp⟩,
    ⟨(.pollCycle [card]), ((reader .poll).using_ R.NFC_RDCFG [] F.NFC_RDCFG_TYPE_A 1), _, rfl, by simp⟩,
    ⟨(.nfcBind 1 (w64 (F.NFC_BIND_OUTPUT.set 0 5))), (holding .hold), _, rfl, by simp⟩⟩

/-- States and operands that meet the hypotheses of `FramesAnswerAndCloseAndPorts`, clause by clause. -/
theorem test_wit_FramesAnswerAndCloseAndPorts :
    (∃ (f : Frame) (s : State) (i : Fin 64) (h : Session) (e : Nat), s.Takes 8 f ∧ s.Passes f i h e) ∧
    (∃ (f : Frame) (s : State) (i : Fin 64) (h : Session) (e : Nat), s.Takes 5 f ∧ s.Passes f i h e) ∧
    (∃ (p : Port) (s : State), p.1 < 2 ∧ s.listens p = true) ∧
    (∃ (s : State), s.listens 2 = true) ∧
    (∃ (sid : Sid) (s : State) (h : Session), s.anySession sid = some h ∧ h.opening = true ∧ h.lastTb + 2 * tbSecond ≤ s.clock.tb) ∧
    (∃ (sid : Sid) (s : State) (h : Session), s.session sid = some h ∧ h.lastTb + h.idle * tbSecond ≤ s.clock.tb) ∧
    (∃ (sid : Sid) (s : State) (h : Session), s.session sid = some h ∧ s.clock.tb < h.lastTb + h.idle * tbSecond) ∧
    (∃ (p : Port) (s : State), s.portDue p = true) :=
  ⟨⟨(frame 8 6 0 0 []), (host 2), 1, (ses 2), 6, takes_of (by decide +kernel), passes_of (by decide +kernel)⟩,
    ⟨(frame 5 6 0 0 []), (host 2), 1, (ses 2), 6, takes_of (by decide +kernel), passes_of (by decide +kernel)⟩,
    ⟨0, live, by decide +kernel⟩,
    ⟨({ live with use := putKey (R.SES_PORTCFGn.addr [2]) 0xC800001 [] }), by decide +kernel⟩,
    ⟨1, (State.withSession live { ses 2 with opening := true, lastTb := 0 }), { ses 2 with opening := true, lastTb := 0 }, by decide +kernel⟩,
    ⟨1, (State.withSession live { ses 2 with keySlot := some 16, lastTb := 98500000000 }), { ses 2 with keySlot := some 16, lastTb := 98500000000 }, by decide +kernel⟩,
    ⟨1, (State.withSession live { ses 2 with lastTb := 98500000001 }), { ses 2 with lastTb := 98500000001 }, by decide +kernel⟩,
    ⟨0, ({ live with regs := putKey (R.SES_PORTCFGn.addr [0]) 0xC800000 [] }), by decide +kernel⟩⟩

/-- States and operands that meet the hypotheses of `ReadAndWriteRegisters`, clause by clause. -/
theorem test_wit_ReadAndWriteRegisters :
    (∃ (f : Frame) (s : State) (i : Fin 64) (h : Session) (e : Nat) (r : RegSpec) (ix : List Nat), s.Takes 1 f ∧ s.Passes f i h e ∧ f.count = 1 ∧ inRegion f.addr.toNat 1 = true ∧ windowAt f.addr.toNat = none ∧ regAt f.addr.toNat = some (r, ix) ∧ s.mayRead i h r ix = true ∧ s.isDark (f.addr.toNat / 0x10000) = false ∧ (needsTime r = true → s.clock.wall.isSome = true)) ∧
    (∃ (f : Frame) (s : State) (i : Fin 64) (h : Session) (e : Nat) (r : RegSpec) (ix : List Nat), s.Takes 1 f ∧ s.Passes f i h e ∧ f.count = 1 ∧ inRegion f.addr.toNat 1 = true ∧ windowAt f.addr.toNat = none ∧ regAt f.addr.toNat = some (r, ix) ∧ s.mayRead i h r ix = true ∧ s.isDark (f.addr.toNat / 0x10000) = false ∧ (needsTime r = true → s.clock.wall.isSome = true)) ∧
    (∃ (f : Frame) (s : State) (i : Fin 64) (h : Session) (e : Nat) (r : RegSpec) (ix : List Nat), s.Takes 1 f ∧ s.Passes f i h e ∧ f.count = 1 ∧ inRegion f.addr.toNat 1 = true ∧ windowAt f.addr.toNat = none ∧ regAt f.addr.toNat = some (r, ix) ∧ s.mayRead i h r ix = true ∧ s.isDark (f.addr.toNat / 0x10000) = false ∧ (needsTime r = true → s.clock.wall.isSome = true)) ∧
    (∃ (f : Frame) (s : State) (i : Fin 64) (h : Session) (e : Nat), s.Takes 1 f ∧ s.Passes f i h e ∧ inRegion f.addr.toNat f.count.toNat = true ∧ windowAt f.addr.toNat = none ∧ (∀ k, k < f.count.toNat → ∃ x, regAt (f.addr.toNat + 8 * k) = some x ∧ s.mayRead i h x.1 x.2 = true ∧ s.isDark ((f.addr.toNat + 8 * k) / 0x10000) = false ∧ x.1.base ≠ R.JOB_STATUSn.base ∧ (needsTime x.1 = true → s.clock.wall.isSome = true))) ∧
    (∃ (f : Frame) (s : State) (i : Fin 64) (h : Session) (e : Nat) (w : Window) (base size : Nat), s.Takes 1 f ∧ s.Passes f i h e ∧ inRegion f.addr.toNat f.count.toNat = true ∧ windowAt f.addr.toNat = some (w, base, size) ∧ w.startOk (f.addr.toNat - base) = true ∧ s.mayReadWindow h w (f.addr.toNat - base) = true ∧ s.isDark w.block = false) ∧
    (∃ (f : Frame) (s : State) (i : Fin 64) (h : Session) (e : Nat) (w : Window) (base size : Nat), s.Takes 1 f ∧ s.Passes f i h e ∧ inRegion f.addr.toNat f.count.toNat = true ∧ windowAt f.addr.toNat = some (w, base, size) ∧ w.startOk (f.addr.toNat - base) = true ∧ s.mayReadWindow h w (f.addr.toNat - base) = true ∧ s.isDark w.block = false) ∧
    (∃ (f : Frame) (s : State) (i : Fin 64) (h : Session) (e : Nat) (w : Window) (base size : Nat), s.Takes 1 f ∧ s.Passes f i h e ∧ inRegion f.addr.toNat f.count.toNat = true ∧ windowAt f.addr.toNat = some (w, base, size) ∧ w.startOk (f.addr.toNat - base) = true ∧ s.mayReadWindow h w (f.addr.toNat - base) = true ∧ s.isDark w.block = false) ∧
    (∃ (f : Frame) (s : State) (i : Fin 64) (h : Session) (e : Nat), s.Takes 1 f ∧ s.Passes f i h e ∧ f.count = 1 ∧ inRegion f.addr.toNat 1 = true ∧ windowAt f.addr.toNat = none) ∧
    (∃ (f : Frame) (s : State) (i : Fin 64) (h : Session) (e : Nat), s.Takes 1 f ∧ s.Passes f i h e ∧ f.count = 1 ∧ inRegion f.addr.toNat 1 = true ∧ windowAt f.addr.toNat = none) ∧
    (∃ (f : Frame) (s : State) (i : Fin 64) (h : Session) (e : Nat) (r : RegSpec) (ix : List Nat) (v : W64), s.Takes 2 f ∧ s.Passes f i h e ∧ f.payload = [v] ∧ inRegion f.addr.toNat 1 = true ∧ windowAt f.addr.toNat = none ∧ regAt f.addr.toNat = some (r, ix) ∧ s.mayWriteAt i h r ix v.toNat = true ∧ s.isDark (f.addr.toNat / 0x10000) = false) ∧
    (∃ (f : Frame) (s : State) (i : Fin 64) (h : Session) (e : Nat) (r : RegSpec) (ix : List Nat) (v : W64), s.Takes 2 f ∧ s.Passes f i h e ∧ f.payload = [v] ∧ inRegion f.addr.toNat 1 = true ∧ windowAt f.addr.toNat = none ∧ regAt f.addr.toNat = some (r, ix) ∧ s.mayWriteAt i h r ix v.toNat = true ∧ s.isDark (f.addr.toNat / 0x10000) = false) ∧
    (∃ (f : Frame) (s : State) (i : Fin 64) (h : Session) (e : Nat) (r : RegSpec) (ix : List Nat) (v : W64), s.Takes 2 f ∧ s.Passes f i h e ∧ f.payload = [v] ∧ inRegion f.addr.toNat 1 = true ∧ windowAt f.addr.toNat = none ∧ regAt f.addr.toNat = some (r, ix) ∧ s.mayWriteAt i h r ix v.toNat = true ∧ s.isDark (f.addr.toNat / 0x10000) = false ∧ writers.all (fun w => w.1 != r.base) = true) ∧
    (∃ (f : Frame) (s : State) (i : Fin 64) (h : Session) (e : Nat) (w : Window) (base size : Nat), s.Takes 2 f ∧ s.Passes f i h e ∧ inRegion f.addr.toNat f.payload.length = true ∧ windowAt f.addr.toNat = some (w, base, size) ∧ w.startOk (f.addr.toNat - base) = true ∧ s.mayWriteWindow h w (f.addr.toNat - base) = true ∧ s.isDark w.block = false) ∧
    (∃ (f : Frame) (s : State) (i : Fin 64) (h : Session) (e : Nat) (w : Window) (base size : Nat), s.Takes 2 f ∧ s.Passes f i h e ∧ inRegion f.addr.toNat f.payload.length = true ∧ windowAt f.addr.toNat = some (w, base, size) ∧ w.startOk (f.addr.toNat - base) = true ∧ s.mayWriteWindow h w (f.addr.toNat - base) = true ∧ s.isDark w.block = false) ∧
    (∃ (f : Frame) (s : State) (i : Fin 64) (h : Session) (e : Nat) (w : Window) (base size : Nat), s.Takes 2 f ∧ s.Passes f i h e ∧ inRegion f.addr.toNat f.payload.length = true ∧ windowAt f.addr.toNat = some (w, base, size) ∧ w.startOk (f.addr.toNat - base) = true ∧ s.mayWriteWindow h w (f.addr.toNat - base) = true ∧ s.isDark w.block = false) ∧
    (∃ (f : Frame) (s : State) (i : Fin 64) (h : Session) (e : Nat) (v : W64), s.Takes 2 f ∧ s.Passes f i h e ∧ f.payload = [v] ∧ inRegion f.addr.toNat 1 = true ∧ windowAt f.addr.toNat = none) ∧
    (∃ (f : Frame) (s : State) (i : Fin 64) (h : Session) (e : Nat) (v : W64), s.Takes 2 f ∧ s.Passes f i h e ∧ f.payload = [v] ∧ inRegion f.addr.toNat 1 = true ∧ windowAt f.addr.toNat = none) :=
  ⟨⟨(frame 1 6 (R.SYS_REV.addr []) 1 []), (host 2), 1, (ses 2), 6, R.SYS_REV, [], takes_of (by decide +kernel), passes_of (by decide +kernel), by decide +kernel⟩,
    ⟨(frame 1 6 (R.JOB_STATUSn.addr [0]) 1 []), (State.withJob (host 2) { queued 0x22 2 [] with state := .done }), 1, (ses 2), 6, R.JOB_STATUSn, [0], takes_of (by decide +kernel), passes_of (by decide +kernel), by decide +kernel⟩,
    ⟨(frame 1 6 (R.LSW_STATn.addr [0]) 1 []), ((host 2).latch R.LSW_STATn [0] F.LSW_STATn_NEG.mask), 1, (ses 2), 6, R.LSW_STATn, [0], takes_of (by decide +kernel), passes_of (by decide +kernel), by decide +kernel⟩,
    ⟨(frame 1 6 (R.LSW_STATn.addr [0]) 3 []), ((host 2).latch R.LSW_STATn [1] F.LSW_STATn_NEG.mask), 1, (ses 2), 6, takes_of (by decide +kernel), passes_of (by decide +kernel), by decide +kernel⟩,
    ⟨(frame 1 6 0x10000000 2 []), (State.withJob (host 2) { queued 0x22 2 [] with state := .done, records := [⟨1, [2, 3]⟩] }), 1, (ses 2), 6, (.results 0), 0x10000000, 0x100000, takes_of (by decide +kernel), passes_of (by decide +kernel), by decide +kernel⟩,
    ⟨(frame 1 6 0x20000100 2 []), (host 2), 1, (ses 2), 6, .tag, 0x20000000, 0x4000, takes_of (by decide +kernel), passes_of (by decide +kernel), by decide +kernel⟩,
    ⟨(frame 1 6 0x20000100 2 []), ((host 2).onTag (fun t => { t with field := 2, txnTb := some 99999000000 })), 1, (ses 2), 6, .tag, 0x20000000, 0x4000, takes_of (by decide +kernel), passes_of (by decide +kernel), by decide +kernel⟩,
    ⟨(frame 1 6 0xFFF8 1 []), (host 2), 1, (ses 2), 6, takes_of (by decide +kernel), passes_of (by decide +kernel), by decide +kernel⟩,
    ⟨(frame 1 6 (R.KEY_SLOT_SEL.addr []) 1 []), (host 5), 1, (ses 5), 6, takes_of (by decide +kernel), passes_of (by decide +kernel), by decide +kernel⟩,
    ⟨(frame 2 6 R.SEQ_SITE_LIMIT.base 1 [5000000]), (host 2), 1, (ses 2), 6, R.SEQ_SITE_LIMIT, [], 5000000, takes_of (by decide +kernel), passes_of (by decide +kernel), by decide +kernel⟩,
    ⟨(frame 2 6 (R.LSW_PGk.addr [1]) 1 [0x801000]), (host 2), 1, (ses 2), 6, R.LSW_PGk, [1], 0x801000, takes_of (by decide +kernel), passes_of (by decide +kernel), by decide +kernel⟩,
    ⟨(frame 2 6 R.SEQ_SITE_LIMIT.base 1 [5000000]), (host 2), 1, (ses 2), 6, R.SEQ_SITE_LIMIT, [], 5000000, takes_of (by decide +kernel), passes_of (by decide +kernel), by decide +kernel⟩,
    ⟨(frame 2 6 0xD1008 2 [1, 2]), (host 2), 1, (ses 2), 6, .cardCommand, 0xD1000, 0x200, takes_of (by decide +kernel), passes_of (by decide +kernel), by decide +kernel⟩,
    ⟨(frame 2 6 0x95000 2 [1, 2]), (host 2), 1, (ses 2), 6, (.relayAnswer 0), 0x95000, 0x1000, takes_of (by decide +kernel), passes_of (by decide +kernel), by decide +kernel⟩,
    ⟨(frame 2 6 0x11000 2 [1, 2]), (host 2), 1, (ses 2), 6, (.sluiceTx 0), 0x11000, 0x100, takes_of (by decide +kernel), passes_of (by decide +kernel), by decide +kernel⟩,
    ⟨(frame 2 6 0xFFF8 1 [1]), (host 2), 1, (ses 2), 6, 1, takes_of (by decide +kernel), passes_of (by decide +kernel), by decide +kernel⟩,
    ⟨(frame 2 6 (R.SEQ_SITE_LIMIT.addr []) 1 [1]), (host 5), 1, (ses 5), 6, 1, takes_of (by decide +kernel), passes_of (by decide +kernel), by decide +kernel⟩⟩

/-- States and operands that meet the hypotheses of `SessionsOpen`, clause by clause. -/
theorem test_wit_SessionsOpen :
    (∃ (f : Frame) (s : State) (i : Fin 64) (rest : List (Fin 64)), s.Takes 3 f ∧ s.pwr.recovery = false ∧ s.hearthBusy = false ∧ s.sidCount SidUse.isHost < 32 ∧ s.openingOn f.port < 4 ∧ s.host.freeSids = i :: rest ∧ helloPolder (f.payload.headD 0).toNat ≠ 0 ∧ (∀ t, (s.backoffOf f.port (helloPolder (f.payload.headD 0).toNat)).until_ = some t → t ≤ s.clock.tb) ∧ (helloPassword (f.payload.headD 0).toNat = true → (s.passwordOf (helloPolder (f.payload.headD 0).toNat)).isSome = true ∨ (s.life.state = .returned ∧ (helloPolder (f.payload.headD 0).toNat = 3 ∨ helloPolder (f.payload.headD 0).toNat = 5)))) ∧
    (∃ (f : Frame) (s : State) (i : Fin 64) (rest : List (Fin 64)), s.Takes 3 f ∧ s.pwr.recovery = true ∧ s.sidCount SidUse.isHost = 0 ∧ s.host.freeSids = i :: rest ∧ helloPolder (f.payload.headD 0).toNat ≠ 0) ∧
    (∃ (f : Frame) (s : State) (i : Fin 64) (h : Session) (k : Bytes), s.Takes 4 f ∧ s.sessionOf f = some (i, h) ∧ h.opening = true ∧ s.hearthBusy = false ∧ h.password = true ∧ s.openKey h = some k ∧ wordBytes f.payload = proofOf "LV3750-OPEN" k h i) ∧
    (∃ (f : Frame) (s : State) (i : Fin 64) (h : Session) (k : Bytes) (n : Fin 256), s.Takes 4 f ∧ s.sessionOf f = some (i, h) ∧ h.opening = true ∧ s.hearthBusy = false ∧ h.password = false ∧ s.openKey h = some k ∧ wordBytes f.payload = proofOf "LV3750-OPEN" k h i ∧ s.freeKeySlot = some n ∧ (s.mayCommission h = false → ((s.keyUse (hostKeySlot h.polder) engHMAC h.polder).2.slot (hostKeySlot h.polder)).refusal engKDF s.clock.tb = none)) ∧
    (∃ (f : Frame) (s : State) (i : Fin 64) (h : Session) (k : Bytes) (n : Fin 256), s.Takes 4 f ∧ s.sessionOf f = some (i, h) ∧ h.opening = true ∧ s.hearthBusy = false ∧ h.password = false ∧ s.openKey h = some k ∧ wordBytes f.payload = proofOf "LV3750-OPEN" k h i ∧ s.freeKeySlot = some n ∧ (s.mayCommission h = false → ((s.keyUse (hostKeySlot h.polder) engHMAC h.polder).2.slot (hostKeySlot h.polder)).refusal engKDF s.clock.tb = none)) ∧
    (∃ (f : Frame) (s : State) (i : Fin 64) (h : Session), s.Takes 4 f ∧ s.sessionOf f = some (i, h) ∧ h.opening = true ∧ s.hearthBusy = false ∧ (∀ k, s.openKey h = some k → wordBytes f.payload ≠ proofOf "LV3750-OPEN" k h i)) :=
  ⟨⟨(frame 3 6 0 5 [0x2, 0, 0, 0, 0]), live, 1, ((List.finRange 64).drop 2), takes_of (by decide +kernel), by decide +kernel⟩,
    ⟨(frame 3 6 0 5 [0x2, 0, 0, 0, 0]), { live with pwr := { live.pwr with recovery := true, level := 1 } }, 1, ((List.finRange 64).drop 2), takes_of (by decide +kernel), by decide +kernel⟩,
    ⟨(frame 4 6 0 6 (bytesWords (proofOf "LV3750-OPEN" [1#8] { ses 3 with opening := true } 1))), ((State.withSession live { ses 3 with opening := true }).onHost (fun x => { x with password3 := some [1#8] })), 1, { ses 3 with opening := true }, [1#8], takes_of (by decide +kernel), by decide +kernel⟩,
    ⟨(frame 4 6 0 6 (bytesWords (proofOf "LV3750-OPEN" (List.replicate 48 0#8) { ses 2 with opening := true, password := false } 1))), (State.withSession door { ses 2 with opening := true, password := false }), 1, { ses 2 with opening := true, password := false }, (List.replicate 48 0#8), 16, takes_of (by decide +kernel), by decide +kernel⟩,
    ⟨(frame 4 6 0 6 (bytesWords (proofOf "LV3750-OPEN" (List.replicate 32 7#8) { ses 2 with opening := true, password := false } 1))), ((State.withSession live { ses 2 with opening := true, password := false }).withSlot 9 (vslot 2)), 1, { ses 2 with opening := true, password := false }, (List.replicate 32 7#8), 16, takes_of (by decide +kernel), by decide +kernel⟩,
    ⟨(frame 4 6 0 6 [0, 0, 0, 0, 0, 0]), ((State.withSession live { ses 3 with opening := true }).onHost (fun x => { x with password3 := some [1#8] })), 1, { ses 3 with opening := true }, takes_of (by decide +kernel), by decide +kernel⟩⟩

/-- States and operands that meet the hypotheses of `JobsRunTheirCourse`, clause by clause. -/
theorem test_wit_JobsRunTheirCourse :
    (∃ (f : Frame) (s : State) (i : Fin 64) (h : Session) (e : Nat) (j : Slot) (w : W64) (ws : List W64), s.Takes 6 f ∧ s.Passes f i h e ∧ f.payload = w :: ws ∧ knownJob w.toNat = true ∧ s.mayRun h w.toNat ((newJob h 0 w.toNat ws).param 1) = true ∧ s.freeSlot f.addr.toNat = some j ∧ ((w.toNat = 0x20 ∨ w.toNat = 0x21 ∨ w.toNat = 0x22) → s.reservedBy (Config.jobTarget w.toNat ws % 256) = none) ∧ (w.toNat = 0x24 → s.updateExists = false ∧ ∀ o : Output, (s.so o).sid = none) ∧ (w.toNat = 0x30 → s.updateExists = false)) ∧
    (∃ (f : Frame) (s : State) (i : Fin 64) (h : Session) (e : Nat) (w : W64) (ws : List W64), s.Takes 6 f ∧ s.Passes f i h e ∧ f.payload = w :: ws ∧ knownJob w.toNat = true ∧ s.mayRun h w.toNat ((newJob h 0 w.toNat ws).param 1) = true ∧ s.freeSlot f.addr.toNat = none ∧ ((w.toNat = 0x20 ∨ w.toNat = 0x21 ∨ w.toNat = 0x22) → s.reservedBy (Config.jobTarget w.toNat ws % 256) = none) ∧ (w.toNat = 0x24 → s.updateExists = false ∧ ∀ o : Output, (s.so o).sid = none) ∧ (w.toNat = 0x30 → s.updateExists = false)) ∧
    (∃ (f : Frame) (s : State) (i : Fin 64) (h : Session) (e : Nat) (w : W64) (ws : List W64), s.Takes 6 f ∧ s.Passes f i h e ∧ f.payload = w :: ws ∧ knownJob w.toNat = true ∧ s.mayRun h w.toNat ((newJob h 0 w.toNat ws).param 1) = false) ∧
    (∃ (f : Frame) (s : State) (i : Fin 64) (h : Session) (e : Nat) (w : W64) (ws : List W64) (u : UpdateJob), s.Takes 6 f ∧ s.Passes f i h e ∧ f.payload = w :: ws ∧ w.toNat = 0x30 ∧ s.mayRun h 0x30 ((newJob h 0 0x30 ws).param 1) = true ∧ s.takesOver (newJob h s.jobs.nextId 0x30 ws) i.1 = some u) ∧
    (∃ (f : Frame) (s : State) (i : Fin 64) (h : Session) (e : Nat) (w : W64) (ws : List W64), s.Takes 6 f ∧ s.Passes f i h e ∧ f.payload = w :: ws ∧ w.toNat = 0x30 ∧ s.mayRun h 0x30 ((newJob h 0 0x30 ws).param 1) = true ∧ s.updateExists = true ∧ updResume ((newJob h 0 0x30 ws).param 1) = false) ∧
    (∃ (f : Frame) (s : State) (i : Fin 64) (h : Session) (e : Nat) (j : Slot), s.Takes 7 f ∧ s.Passes f i h e ∧ h.commissioning = false ∧ s.ownsJob h.polder j = true ∧ f.addr.toNat = j.1 ∧ ((s.job j).state = .queued ∨ (s.job j).state = .running) ∧ ((s.job j).code = 0x30 → s.holds i.1 = true)) ∧
    (∃ (f : Frame) (s : State) (i : Fin 64) (h : Session) (e : Nat) (j : Slot), s.Takes 7 f ∧ s.Passes f i h e ∧ h.commissioning = false ∧ s.ownsJob h.polder j = true ∧ f.addr.toNat = j.1 ∧ ((s.job j).state = .queued ∨ (s.job j).state = .running) ∧ ((s.job j).code = 0x30 → s.holds i.1 = true)) ∧
    (∃ (f : Frame) (s : State) (i : Fin 64) (h : Session) (e : Nat) (j : Slot), s.Takes 7 f ∧ s.Passes f i h e ∧ h.commissioning = false ∧ s.ownsJob h.polder j = true ∧ f.addr.toNat = j.1 ∧ ((s.job j).state = .queued ∨ (s.job j).state = .running) ∧ ((s.job j).code = 0x30 → s.holds i.1 = true)) ∧
    (∃ (sid : Sid) (j : Slot) (s : State) (h : Session), s.Granted sid h R.JOB_CTRLn [j.1] 1) ∧
    (∃ (sid : Sid) (j : Slot) (s : State) (h : Session), s.Granted sid h R.JOB_CTRLn [j.1] 1) ∧
    (∃ (sid : Sid) (j : Slot) (s : State) (h : Session), s.Granted sid h R.JOB_CTRLn [j.1] 2) ∧
    (∃ (j : Slot) (s : State), (s.job j).finished = true ∧ (s.job j).finishTb + 600 * tbSecond ≤ s.clock.tb) ∧
    (∃ (j : Slot) (pol : Nat) (pw : Bytes) (s : State), s.jobTurn j 0x02 = true ∧ (pol = 3 ∨ pol = 5) ∧ (pw = [] ∨ (8 ≤ pw.length ∧ pw.length ≤ 32))) ∧
    (∃ (j : Slot) (pol len : Nat) (pw : Bytes) (s : State), s.jobTurn j 0x02 = true ∧ ((pol ≠ 3 ∧ pol ≠ 5) ∨ (1 ≤ len ∧ len ≤ 7) ∨ 32 < len ∨ pw.length ≠ len)) :=
  ⟨⟨(frame 6 6 0 2 [0x22, 9]), (host 2), 1, (ses 2), 6, 0, 0x22, [9], takes_of (by decide +kernel), passes_of (by decide +kernel), by decide +kernel⟩,
    ⟨(frame 6 6 0 2 [0x22, 9]), ((idx 16).foldl (fun s j => s.onJob j (fun _ => queued 0x50 3 [])) (host 2)), 1, (ses 2), 6, 0x22, [9], takes_of (by decide +kernel), passes_of (by decide +kernel), by decide +kernel⟩,
    ⟨(frame 6 6 0 2 [0x24, 3]), (host 3), 1, (ses 3), 6, 0x24, [3], takes_of (by decide +kernel), passes_of (by decide +kernel), by decide +kernel⟩,
    ⟨(frame 6 6 0 4 [0x30, 0xA00000220, 80, 3]), (updating { upd1 1 0 2 with holder := none }), 1, (ses 2), 6, 0x30, [0xA00000220, 80, 3], { upd1 1 0 2 with holder := some 1 }, takes_of (by decide +kernel), passes_of (by decide +kernel), by decide +kernel⟩,
    ⟨(frame 6 6 0 4 [0x30, 0xA00000020, 80, 3]), (updating (upd1 1 0 2)), 1, (ses 2), 6, 0x30, [0xA00000020, 80, 3], takes_of (by decide +kernel), passes_of (by decide +kernel), by decide +kernel⟩,
    ⟨(frame 7 6 0 2 [7, 8]), (State.withJob (host 2) (queued 0x22 2 [])), 1, (ses 2), 6, 0, takes_of (by decide +kernel), passes_of (by decide +kernel), by decide +kernel⟩,
    ⟨(frame 7 6 0 2 [7, 8]), (updating (upd1 1 0 2)), 1, (ses 2), 6, 0, takes_of (by decide +kernel), passes_of (by decide +kernel), by decide +kernel⟩,
    ⟨(frame 7 6 0 2 [7, 8]), ((updating (upd1 1 0 2)).onJob 0 (fun j => { j with input := List.replicate 127 0 })), 1, (ses 2), 6, 0, takes_of (by decide +kernel), passes_of (by decide +kernel), by decide +kernel⟩,
    ⟨1, 0, (State.withJob (host 2) (queued 0x22 2 [])), (ses 2), granted_of (by decide +kernel)⟩,
    ⟨1, 0, (State.withJob (host 2) { queued 0x22 2 [] with cancellable := false }), (ses 2), granted_of (by decide +kernel)⟩,
    ⟨1, 0, (State.withJob (host 2) { queued 0x22 2 [] with state := .done }), (ses 2), granted_of (by decide +kernel)⟩,
    ⟨0, (State.withJob (host 2) { queued 0x22 2 [] with state := .done, finishTb := 85000000000 }), by decide +kernel⟩,
    ⟨0, 3, (List.replicate 8 1#8), (State.withJob (host 3) (queued 0x02 2 [])), by decide +kernel⟩,
    ⟨0, 3, 7, (List.replicate 7 1#8), (State.withJob (host 3) (queued 0x02 2 [])), by decide +kernel⟩⟩

/-- States and operands that meet the hypotheses of `SluicesAreFifos`, clause by clause. -/
theorem test_wit_SluicesAreFifos :
    (∃ (sid : Sid) (n : Sluiceno) (msg : WordList) (s : State) (h : Session), s.Ready sid h ∧ h.polder = sluiceFrom n.1 ∧ h.commissioning = false ∧ s.pwr.recovery = false ∧ msg ≠ [] ∧ msg.length ≤ 32 ∧ s.isDark 1 = false) ∧
    (∃ (sid : Sid) (n : Sluiceno) (msg : WordList) (s : State) (h : Session), s.Ready sid h ∧ h.polder = sluiceFrom n.1 ∧ h.commissioning = false ∧ s.pwr.recovery = false ∧ msg ≠ [] ∧ msg.length ≤ 32 ∧ s.isDark 1 = false) ∧
    (∃ (sid : Sid) (n : Sluiceno) (msg : WordList) (s : State) (h : Session), s.Ready sid h ∧ msg ≠ [] ∧ (32 < msg.length ∨ h.polder ≠ sluiceFrom n.1)) ∧
    (∃ (sid : Sid) (n : Sluiceno) (msg : WordList) (s : State) (h : Session), s.Ready sid h ∧ msg ≠ [] ∧ (32 < msg.length ∨ h.polder ≠ sluiceFrom n.1)) ∧
    (∃ (sid : Sid) (n : Sluiceno) (want : Nat) (s : State) (h : Session), s.Ready sid h ∧ h.polder = sluiceTo n.1 ∧ h.commissioning = false ∧ 1 ≤ want ∧ want ≤ 32 ∧ s.isDark 1 = false) ∧
    (∃ (sid : Sid) (n : Sluiceno) (want : Nat) (s : State) (h : Session), s.Ready sid h ∧ 1 ≤ want ∧ want ≤ 32 ∧ h.polder ≠ sluiceTo n.1) :=
  ⟨⟨1, 0, [1, 2], (host 2), (ses 2), ready_of (by decide +kernel), by decide +kernel⟩,
    ⟨1, 0, [1, 2], ((host 2).onHost (fun h => { h with sluices := upd h.sluices 0 (fun q => { q with msgs := List.replicate 8 [1] }) })), (ses 2), ready_of (by decide +kernel), by decide +kernel⟩,
    ⟨1, 0, (List.replicate 33 1), (host 2), (ses 2), ready_of (by decide +kernel), by decide +kernel⟩,
    ⟨1, 0, [1], (host 3), (ses 3), ready_of (by decide +kernel), by decide +kernel⟩,
    ⟨1, 0, 1, ((host 3).onHost (fun h => { h with sluices := upd h.sluices 0 (fun q => { q with msgs := [[1, 2, 3], [4]] }) })), (ses 3), ready_of (by decide +kernel), by decide +kernel⟩,
    ⟨1, 0, 2, (host 2), (ses 2), ready_of (by decide +kernel), by decide +kernel⟩⟩

/-- States and operands that meet the hypotheses of `KeySlotsFillEmptyAndExpire`, clause by clause. -/
theorem test_wit_KeySlotsFillEmptyAndExpire :
    (∃ (j : Slot) (p : DeriveParams) (s : State), s.jobTurn j 0x20 = true ∧ (s.job j).records = [] ∧ deriveOk p = true ∧ (s.slot p.parent).state ≠ .empty ∧ (s.slot p.parent).grant = (s.job j).polder ∧ s.targetRefusal (s.job j).polder p.child false = none ∧ s.remasking p.child = false ∧ (s.slot p.parent).refusal engKDF s.clock.tb = none) ∧
    (∃ (j : Slot) (p : DeriveParams) (s : State), s.jobTurn j 0x20 = true ∧ (s.job j).records = [] ∧ deriveOk p = true ∧ (s.slot p.parent).state ≠ .empty ∧ (s.slot p.parent).grant = (s.job j).polder ∧ s.targetRefusal (s.job j).polder p.child false = none ∧ s.remasking p.child = false ∧ (s.slot p.parent).refusal engKDF s.clock.tb = none) ∧
    (∃ (j : Slot) (n : KeySlotNo) (s : State), s.jobTurn j 0x22 = true ∧ (s.job j).records = [] ∧ (s.slot n).state ≠ .empty ∧ (s.slot n).grant = (s.job j).polder ∧ (s.job j).polder ≠ 0 ∧ n.1 ≠ 3) ∧
    (∃ (n : KeySlotNo) (s : State), (s.slot n).state = .valid ∧ (s.slot n).expiry ≠ 0 ∧ (s.slot n).expiry ≤ s.clock.tb) :=
  ⟨⟨0, { parent := 100, child := 103, kind := 3, engines := 1, legacy := 0, limit := 5, expiry := 0, label := [1#8], context := [] }, (keyed.withJob (queued 0x20 2 [])), by decide +kernel⟩,
    ⟨0, { parent := 100, child := 101, kind := 3, engines := 1, legacy := 0, limit := 5, expiry := 0, label := [1#8], context := [] }, (keyed.withJob (queued 0x20 2 [])), by decide +kernel⟩,
    ⟨0, 100, (keyed.withJob (queued 0x22 2 [])), by decide +kernel⟩,
    ⟨100, (keyed.withSlot 100 { vslot 2 with expiry := 100000000000 }), by decide +kernel⟩⟩

/-- States and operands that meet the hypotheses of `DescendantsBecomeOrphan`, clause by clause. -/
theorem test_wit_DescendantsBecomeOrphan :
    (∃ (j : Slot) (n : KeySlotNo) (s : State), s.jobTurn j 0x22 = true ∧ (s.slot n).state ≠ .empty ∧ (s.slot n).grant = (s.job j).polder ∧ (s.job j).polder ≠ 0 ∧ n.1 ≠ 3) ∧
    (∃ (j : Slot) (p : DeriveParams) (s : State), s.jobTurn j 0x20 = true ∧ deriveOk p = true ∧ (s.slot p.parent).state ≠ .empty ∧ (s.slot p.parent).grant = (s.job j).polder ∧ s.targetRefusal (s.job j).polder p.child false = none ∧ s.remasking p.child = false ∧ (s.slot p.parent).refusal engKDF s.clock.tb = none) :=
  ⟨⟨0, 100, (keyed.withJob (queued 0x22 2 [])), by decide +kernel⟩,
    ⟨0, { parent := 100, child := 101, kind := 3, engines := 1, legacy := 0, limit := 5, expiry := 0, label := [1#8], context := [] }, (keyed.withJob (queued 0x20 2 [])), by decide +kernel⟩⟩

/-- States and operands that meet the hypotheses of `AttestationAndLifeCycle`, clause by clause. -/
theorem test_wit_AttestationAndLifeCycle :
    (∃ (j : Slot) (nonce : Bytes) (s : State), s.jobTurn j 0x23 = true ∧ nonce.length = 64 ∧ s.log.flashOk = true ∧ s.keys.hss.left = true ∧ s.keys.hss.newTree = true ∧ s.keys.hss.nextReady = false) ∧
    (∃ (s : State), s.keys.hss.computing = true) ∧
    (∃ (s : State), s.keys.hss.computing = true) ∧
    (∃ (j : Slot) (s : State), s.jobTurn j 0x25 = true ∧ (s.job j).records = [] ∧ ((s.job j).polder = 2 ∨ ((s.job j).polder = 4 ∧ s.doorOpen = true))) ∧
    (∃ (s : State) (n : W64) (b : Nat), s.life.nonce = some (n, b) ∧ b + 600 * tbSecond ≤ s.clock.tb) ∧
    (∃ (j : Slot) (target : Nat) (auth : ReturnAuth) (s : State) (x : LifeState), s.jobTurn j 0x24 = true ∧ s.lifeGrant (s.job j).polder false = true ∧ lifeTarget s.life.state target = some x ∧ (∀ o : Output, (s.seqr.outs[o]).sid = none) ∧ s.updateExists = false ∧ (x = .returned → s.returnOk auth = true)) ∧
    (∃ (j : Slot) (auth : ReturnAuth) (s : State), s.jobTurn j 0x24 = true ∧ s.lifeGrant (s.job j).polder false = true ∧ s.life.state = .field ∧ (∀ o : Output, (s.seqr.outs[o]).sid = none) ∧ s.updateExists = false ∧ s.returnOk auth = false) :=
  ⟨⟨0, (List.replicate 64 1#8), ((keyed.withJob (queued 0x23 2 [])).onKeys (fun k => { k with hss := { k.hss with next := 32768, boundary := 33792, nextReady := false } })), by decide +kernel⟩,
    ⟨(keyed.onKeys (fun k => { k with hss := { k.hss with computing := true } })), by decide +kernel⟩,
    ⟨((keyed.withJob { queued 0x23 2 [] with state := .running }).onKeys (fun k => { k with hss := { k.hss with computing := true } })), by decide +kernel⟩,
    ⟨0, (keyed.withJob (queued 0x25 2 [])), by decide +kernel⟩,
    ⟨{ live with life := { live.life with nonce := some (7, 85000000000) } }, 7, 85000000000, by decide +kernel⟩,
    ⟨0, 4, ⟨0, [], []⟩, ({ door with life := { live.life with state := .field } }.withJob (queued 0x24 4 [])), .scrapped, by decide +kernel⟩,
    ⟨0, ⟨0, [], []⟩, ({ door with life := { live.life with state := .field } }.withJob (queued 0x24 4 [])), by decide +kernel⟩⟩

/-- States and operands that meet the hypotheses of `NoAttestationWithoutAnIndex`, clause by clause. -/
theorem test_wit_NoAttestationWithoutAnIndex :
    ∃ (j : Slot) (nonce : Bytes) (s : State), s.jobTurn j 0x23 = true ∧ nonce.length = 64 ∧ s.log.flashOk = true ∧ s.keys.hss.left = false :=
  ⟨0, (List.replicate 64 1#8), ((keyed.withJob (queued 0x23 2 [])).onKeys (fun k => { k with hss := { k.hss with next := 2 ^ 30, boundary := 2 ^ 30 } })), by decide +kernel⟩

/-- States and operands that meet the hypotheses of `ReturnNeedsAuthorisation`, clause by clause. -/
theorem test_wit_ReturnNeedsAuthorisation :
    ∃ (j : Slot) (auth : ReturnAuth) (s : State), s.jobTurn j 0x24 = true ∧ s.lifeGrant (s.job j).polder false = true ∧ (s.life.state = .field ∨ s.life.state = .returned) ∧ (∀ o : Output, (s.seqr.outs[o]).sid = none) ∧ s.updateExists = false :=
  ⟨0, ⟨0, [], []⟩, ({ door with life := { live.life with state := .field } }.withJob (queued 0x24 4 [])), by decide +kernel⟩

/-- States and operands that meet the hypotheses of `FramesAndTripLines`, clause by clause. -/
theorem test_wit_FramesAndTripLines :
    (∃ (x : FrameIn) (s : State) (p : Plan), s.grate.plan = some p ∧ s.grate.tickFrame < 480) ∧
    (∃ (x : FrameIn) (s : State), s.grate.plan = none) ∧
    (∃ (x : FrameIn) (s : State) (p : Plan), s.grate.plan = some p ∧ 480 ≤ s.grate.tickFrame) ∧
    (∃ (n : LineNo) (s : State) (outs a : Nat), s.lineDriven n = true ∧ s.grate.lines[n] = false ∧ s.lineRec n = some (outs, a)) ∧
    (∃ (n : LineNo) (s : State), s.lineDriven n = true ∧ s.grate.lines[n] = false ∧ s.lineRec n = none) ∧
    (∃ (n : LineNo) (s : State), s.lineDriven n = false ∧ s.grate.lines[n] = true) :=
  ⟨⟨quiet, planned, plan, by decide +kernel⟩,
    ⟨quiet, live, by decide +kernel⟩,
    ⟨quiet, (planned.onGrate (fun g => { g with tickFrame := 480 })), plan, by decide +kernel⟩,
    ⟨0, (planned.onGrate (fun g => { g with tc := g.tc.set 0 { TcState.reset with verdict := true, valid := true } })), 1, 0, by decide +kernel⟩,
    ⟨0, ((live.onGrate (fun g => { g with plan := some { plan with sections := plan.sections.take 7 }, tc := g.tc.set 0 { TcState.reset with verdict := true, valid := true } }))), by decide +kernel⟩,
    ⟨0, (live.onGrate (fun g => { g with lines := g.lines.set 0 true })), by decide +kernel⟩⟩

/-- States and operands that meet the hypotheses of `ConditionersSensorsAndTracking`, clause by clause. -/
theorem test_wit_ConditionersSensorsAndTracking :
    (∃ (n : IcNo) (b : Bool) (s : State) (p : Plan) (r : IcRec), s.grate.plan = some p ∧ p.ics.find? (fun x => x.index == n.1) = some r ∧ (b = true → (s.grate.ic[n]).steady = 64) ∧ (b = false → (s.sens.mclkOn[r.mclk]?).getD false = false)) ∧
    (∃ (n : IcNo) (b : Bool) (s : State) (p : Plan) (r : IcRec), s.grate.plan = some p ∧ p.ics.find? (fun x => x.index == n.1) = some r ∧ (b = true → (s.grate.ic[n]).steady = 64) ∧ (b = false → (s.sens.mclkOn[r.mclk]?).getD false = false)) ∧
    (∃ (n : IcNo) (s : State) (p : Plan), s.grate.plan = some p ∧ p.ics.any (fun x => x.index == n.1) = true ∧ (s.grate.ic[n]).valid = false ∧ (s.grate.ic[n]).good = 250) ∧
    (∃ (m : MclkNo) (s : State), (s.sens.mclkOn)[m] = true) ∧
    (∃ (g : GroupNo) (s : State) (p : Plan), s.grate.plan = some p ∧ p.votes.any (fun r => r.group == g.1 && r.members.length == 2) = true ∧ 480 ≤ (s.grate.vote[g]).runBad ∧ (s.grate.vote[g]).persistent = false) ∧
    (∃ (g : GroupNo) (s : State), (s.grate.vote[g]).persistent = true ∧ 480 ≤ (s.grate.vote[g]).runGood) ∧
    (∃ (ch : ChannelNo) (s : State) (p : Plan), s.grate.plan = some p ∧ p.metroChannel ch.1 = true ∧ 48000 ≤ (lossOf s ch).1 ∧ (lossOf s ch).2 = false ∧ 96000 < s.grate.frames - ((lossOf s ch).1 - 48000) - s.grate.restart[ch]) ∧
    (∃ (n : FgNo) (k : FgFault) (s : State), (s.sens.fg[n]).on = true) ∧
    (∃ (n : FgNo) (k : FgFault) (s : State), (s.sens.fg[n]).on = true) ∧
    (∃ (n : FgNo) (s : State) (b : Nat), (s.sens.fg[n]).offUntil = some b ∧ b ≤ s.clock.tb) ∧
    (∃ (n : FgNo) (s : State), (s.sens.fg[n]).on = true ∧ (s.sens.fg[n]).valid = false ∧ (s.sens.fg[n]).goodPeriods = 4) ∧
    (∃ (n : FgNo) (s : State) (c : Instr), ((c = .magFieldDetect n ∧ s.useFld R.MET_FG_CFGn F.MET_FG_CFGn_MODE [n.1] = 2) ∨ (c = .magSatDetect n ∧ s.useFld R.MET_FG_CFGn F.MET_FG_CFGn_MODE [n.1] = 1)) ∧ s.magNow n = true) ∧
    (∃ (s : State), s.sens.magEpisode = true ∧ (∀ n : FgNo, s.magNow n = false) ∧ s.sens.magLastTb + 10 * tbSecond ≤ s.clock.tb) ∧
    (∃ (c : CalNo) (s : State) (p : Plan), s.grate.plan = some p ∧ trackReady p c s = true ∧ (s.sens.track[c]).window = none) ∧
    (∃ (c : CalNo) (s : State) (p : Plan) (n : Nat) (sum : Int), s.grate.plan = some p ∧ (s.sens.track[c]).window = some (n, sum) ∧ 48000 ≤ n) ∧
    (∃ (c : CalNo) (s : State) (p : Plan) (n : Nat) (sum : Int), s.grate.plan = some p ∧ (s.sens.track[c]).window = some (n, sum) ∧ 48000 ≤ n) ∧
    (∃ (c : CalNo) (s : State) (p : Plan) (n : Nat) (sum : Int), s.grate.plan = some p ∧ (s.sens.track[c]).window = some (n, sum) ∧ 48000 ≤ n) ∧
    (∃ (m : MaNo) (s : State) (p : Plan), s.grate.plan = some p ∧ p.mas.any (fun r => r.index == m.1 && r.op == 5) = true ∧ 480000 ≤ (s.grate.ma[m]).tempAge) :=
  ⟨⟨0, true, (planned.onGrate (fun g => { g with ic := g.ic.set 0 { IcState.reset with valid := true, steady := 64 } })), plan, { index := 0, mclk := 0, falling := false, invert := false, format := 0 }, by decide +kernel⟩,
    ⟨0, false, (planned.onGrate (fun g => { g with ic := g.ic.set 0 { IcState.reset with valid := true } })), plan, { index := 0, mclk := 0, falling := false, invert := false, format := 0 }, by decide +kernel⟩,
    ⟨0, (planned.onGrate (fun g => { g with ic := g.ic.set 0 { IcState.reset with good := 250 } })), plan, by decide +kernel⟩,
    ⟨0, ((planned.onGrate (fun g => { g with ic := g.ic.set 0 { IcState.reset with valid := true } })).onSens (fun x => { x with mclkOn := Vector.replicate 4 true })), by decide +kernel⟩,
    ⟨0, (planned.onGrate (fun g => { g with vote := g.vote.set 0 { VoteState.reset with runBad := 480 } })), plan, by decide +kernel⟩,
    ⟨0, (planned.onGrate (fun g => { g with vote := g.vote.set 0 { VoteState.reset with runGood := 480, persistent := true } })), by decide +kernel⟩,
    ⟨0, (planned.onGrate (fun g => { g with ic := g.ic.set 0 { IcState.reset with lostFrames := 48000 } })), plan, by decide +kernel⟩,
    ⟨0, .open_, (live.onSens (fun x => { x with fg := x.fg.set 0 { FgPort.reset with on := true, valid := true } })), by decide +kernel⟩,
    ⟨0, .sat, (live.onSens (fun x => { x with fg := x.fg.set 0 { FgPort.reset with on := true, valid := true } })), by decide +kernel⟩,
    ⟨0, (live.onSens (fun x => { x with fg := x.fg.set 0 { FgPort.reset with open_ := true, offUntil := some 100000000000 } })), 100000000000, by decide +kernel⟩,
    ⟨0, (live.onSens (fun x => { x with fg := x.fg.set 0 { FgPort.reset with on := true, goodPeriods := 4 } })), by decide +kernel⟩,
    ⟨0, ((live.using_ R.MET_FG_CFGn [0] F.MET_FG_CFGn_MODE 2).onSens (fun x => { x with fg := x.fg.set 0 { FgPort.reset with on := true, magSince := some 99975000000 } })), (.magFieldDetect 0), by decide +kernel⟩,
    ⟨(live.onSens (fun x => { x with magEpisode := true, magLastTb := 99750000000 })), by decide +kernel⟩,
    ⟨3, (planned.onSens (fun x => { x with calInUse := x.calInUse.set 3 { CalSlot.reset with offset := w64 (F.MET_CAL_OFFSET_TRACK_LIMIT.set 0 50) } })), plan, by decide +kernel⟩,
    ⟨3, (planned.onSens (fun x => { x with calInUse := x.calInUse.set 3 { CalSlot.reset with offset := w64 (F.MET_CAL_OFFSET_TRACK_LIMIT.set 0 50) }, track := x.track.set 3 { Track.reset with window := some (48000, 48000 * 51) } })), plan, 48000, 2448000, by decide +kernel⟩,
    ⟨3, (planned.onSens (fun x => { x with calInUse := x.calInUse.set 3 { CalSlot.reset with offset := w64 (F.MET_CAL_OFFSET_TRACK_LIMIT.set 0 50) }, track := x.track.set 3 { Track.reset with window := some (48000, 48000 * 50) } })), plan, 48000, 2400000, by decide +kernel⟩,
    ⟨3, (planned.onSens (fun x => { x with calInUse := x.calInUse.set 3 { CalSlot.reset with offset := w64 (F.MET_CAL_OFFSET_TRACK_LIMIT.set 0 50) }, track := x.track.set 3 { Track.reset with window := some (48000, -48000 * 50) } })), plan, 48000, (-2400000), by decide +kernel⟩,
    ⟨0, (planned.onGrate (fun g => { g with ma := g.ma.set 0 { MaState.reset with tempAge := 480000 } })), plan, by decide +kernel⟩⟩

/-- States and operands that meet the hypotheses of `SwapArmsAndReplaces`, clause by clause. -/
theorem test_wit_SwapArmsAndReplaces :
    (∃ (sid : Sid) (v : W64) (s : State) (h : Session), s.Granted sid h R.GRT_SWAP [] (F.GRT_SWAP_ARM.put v 1) ∧ F.GRT_SWAP_ABANDON.get (F.GRT_SWAP_ARM.put v 1).toNat = 0 ∧ s.grate.shadowState = 1 ∧ (s.grate.sealedDiff = true → h.polder = 1 ∧ s.mseal.record.open_ = true)) ∧
    (∃ (sid : Sid) (v : W64) (s : State) (h : Session), s.Granted sid h R.GRT_SWAP [] (F.GRT_SWAP_ARM.put v 1) ∧ F.GRT_SWAP_ABANDON.get (F.GRT_SWAP_ARM.put v 1).toNat = 0 ∧ s.grate.shadowState = 1 ∧ (s.grate.sealedDiff = true → h.polder = 1 ∧ s.mseal.record.open_ = true)) ∧
    (∃ (sid : Sid) (v : W64) (s : State) (h : Session), s.Granted sid h R.GRT_SWAP [] (F.GRT_SWAP_ARM.put v 1) ∧ F.GRT_SWAP_ABANDON.get (F.GRT_SWAP_ARM.put v 1).toNat = 0 ∧ s.grate.shadowState ≠ 1) ∧
    (∃ (sid : Sid) (v : W64) (s : State) (h : Session), s.Granted sid h R.GRT_SWAP [] (F.GRT_SWAP_ABANDON.put v 1)) ∧
    (∃ (sid : Sid) (v : W64) (s : State) (h : Session), s.Granted sid h R.GRT_SWAP [] (F.GRT_SWAP_ABANDON.put v 1)) ∧
    (∃ (s : State) (b : Plan), s.grate.shadow = some b ∧ s.armed = true ∧ (s.grate.sealedDiff = true → s.mseal.record.open_ = true) ∧ s.swapBoundary = true) ∧
    (∃ (s : State) (b : Plan), s.grate.shadow = some b ∧ s.armed = true ∧ (s.grate.sealedDiff = true → s.mseal.record.open_ = true) ∧ s.swapBoundary = true) ∧
    (∃ (s : State) (b : Plan), s.grate.shadow = some b ∧ s.armed = true ∧ (s.grate.sealedDiff = true → s.mseal.record.open_ = true) ∧ s.swapBoundary = true) ∧
    (∃ (s : State) (b : Plan), s.grate.shadow = some b ∧ s.armed = true ∧ s.grate.sealedDiff = true ∧ s.mseal.record.open_ = false ∧ s.swapBoundary = true) ∧
    (∃ (s : State), s.armed = true ∧ s.grate.liveOk = false ∧ s.grate.waitUntil ≤ s.clock.tb) :=
  ⟨⟨1, 0, ((host 2).onGrate (fun g => { g with shadowState := 1 })), (ses 2), granted_of (by decide +kernel), by decide +kernel⟩,
    ⟨1, 0, (((host 2).onGrate (fun g => { g with shadowState := 1 })).onGo 0 (fun x => { x with hv := true })), (ses 2), granted_of (by decide +kernel), by decide +kernel⟩,
    ⟨1, 0, ((host 2).onGrate (fun g => { g with shadowState := 3 })), (ses 2), granted_of (by decide +kernel), by decide +kernel⟩,
    ⟨1, 0, ((host 2).onGrate (fun g => { g with shadowState := 2 })), (ses 2), granted_of (by decide +kernel)⟩,
    ⟨1, 0, ((host 2).onGrate (fun g => { g with shadowState := 4 })), (ses 2), granted_of (by decide +kernel)⟩,
    ⟨(live.onGrate (fun g => { g with shadow := some plan, shadowState := 2, liveOk := true })), plan, by decide +kernel⟩,
    ⟨(planned.onGrate (fun g => { g with shadow := some plan, shadowState := 2, liveOk := true })), plan, by decide +kernel⟩,
    ⟨(planned.onGrate (fun g => { g with shadow := some plan, shadowState := 2, liveOk := false })), plan, by decide +kernel⟩,
    ⟨(planned.onGrate (fun g => { g with shadow := some plan, shadowState := 2, sealedDiff := true })), plan, by decide +kernel⟩,
    ⟨(live.onGrate (fun g => { g with shadowState := 3, waitUntil := 100000000000 })), by decide +kernel⟩⟩

/-- States and operands that meet the hypotheses of `EnergyTicksPulsesAndEpisodes`, clause by clause. -/
theorem test_wit_EnergyTicksPulsesAndEpisodes :
    (∃ (s : State) (p : Plan), s.grate.plan = some p ∧ 480 ≤ s.grate.tickFrame) ∧
    (∃ (o : Output) (s : State), 0 < (s.nrg.pulses[o]).queued ∧ (s.nrg.pulses[o]).active = false ∧ s.useFld R.NRG_PULSE_CFGn F.NRG_PULSE_CFGn_WIDTH [o.1] ≤ (s.nrg.pulses[o]).gap) ∧
    (∃ (o : Output) (s : State), (s.nrg.pulses[o]).active = true ∧ (s.nrg.pulses[o]).left = 0) ∧
    (∃ (s : State), 0 < s.nrg.tick ∧ s.nrg.tick % 100 = 0 ∧ s.grate.plan.isSome = true) ∧
    (∃ (o : Outlet) (s : State), (s.nrg.live[outletNo o]).seq = 2 ∧ (s.nrg.live[outletNo o]).seqEpisode = false ∧ (s.nrg.live[outletNo o]).seqSince + tbSecond ≤ s.clock.tb) ∧
    (∃ (o : Outlet) (s : State), (s.nrg.live[outletNo o]).seqEpisode = true ∧ (s.nrg.live[outletNo o]).seq = 1 ∧ (s.nrg.live[outletNo o]).seqSince + 10 * tbSecond ≤ s.clock.tb) ∧
    (∃ (o : Outlet) (s : State), (s.nrg.live[outletNo o]).neutral = true ∧ (s.nrg.live[outletNo o]).neutralEpisode = false ∧ (s.nrg.live[outletNo o]).neutralSince + tbSecond ≤ s.clock.tb) ∧
    (∃ (o : Outlet) (s : State), (s.nrg.live[outletNo o]).neutralEpisode = true ∧ (s.nrg.live[outletNo o]).neutral = false ∧ (s.nrg.live[outletNo o]).neutralSince + 10 * tbSecond ≤ s.clock.tb) :=
  ⟨⟨(planned.onGrate (fun g => { g with tickFrame := 480 })), plan, by decide +kernel⟩,
    ⟨0, (live.onNrg (fun n => { n with pulses := n.pulses.set 0 { PulseOut.reset with queued := 1, gap := 48 } })), by decide +kernel⟩,
    ⟨0, (live.onNrg (fun n => { n with pulses := n.pulses.set 0 { PulseOut.reset with active := true } })), by decide +kernel⟩,
    ⟨(planned.onNrg (fun n => { n with tick := 100 })), by decide +kernel⟩,
    ⟨0, (live.onNrg (fun n => { n with live := n.live.set 4 { LiveState.reset with seq := 2, seqSince := 99975000000 } })), by decide +kernel⟩,
    ⟨0, (live.onNrg (fun n => { n with live := n.live.set 4 { LiveState.reset with seq := 1, seqEpisode := true, seqSince := 99750000000 } })), by decide +kernel⟩,
    ⟨1, (live.onNrg (fun n => { n with live := n.live.set 5 { LiveState.reset with neutral := true, neutralSince := 99975000000 } })), by decide +kernel⟩,
    ⟨1, (live.onNrg (fun n => { n with live := n.live.set 5 { LiveState.reset with neutralEpisode := true, neutralSince := 99750000000 } })), by decide +kernel⟩⟩

/-- States and operands that meet the hypotheses of `TicksIntervalsAndPeriods`, clause by clause. -/
theorem test_wit_TicksIntervalsAndPeriods :
    (∃ (s : State) (h : HandedTick) (b x : Nat), s.nrg.waiting = [h] ∧ h.short = false ∧ s.bil.mode ≠ .unknown ∧ s.bil.lastB = some x ∧ (bookTick s h).billAt h.endTb = some b ∧ (∀ k ∈ s.bil.ticks, k.short = true → k.committed = false → k.startTb ≠ h.startTb)) ∧
    (∃ (s : State) (b : Nat), s.nrg.waiting = [] ∧ s.grate.plan = none ∧ s.bil.mode ≠ .unknown ∧ s.billAt s.clock.tb = some b) ∧
    (∃ (s : State) (k : Tick) (rest : List Tick), s.bil.open_ = k :: rest ∧ k.endTb + 200 * tbTick ≤ s.clock.tb ∧ (∀ (o : Fin 6), ∀ h ∈ s.bil.holds[o], h.outcome = none)) ∧
    (∃ (s : State) (k : Tick) (rest : List Tick), s.bil.open_ = k :: rest ∧ k.endTb + 200 * tbTick ≤ s.clock.tb ∧ (∀ (o : Fin 6), ∀ h ∈ s.bil.holds[o], h.outcome = none)) ∧
    (∃ (o : Output) (s : State) (h : Hold), s.bil.holds[o] = [h] ∧ h.outcome = none ∧ h.startTb + 300 * tbSecond ≤ s.clock.tb) ∧
    (∃ (s : State), 0 < s.bil.boundaries ∧ s.bil.boundaries % 100 = 0) ∧
    (∃ (s : State) (f stop : Nat), s.bil.mode ≠ .unknown ∧ s.front = some f ∧ s.bil.cuts = [] ∧ stop = gridEnd s.bil.demcfg s.bil.phase s.bil.running.start ∧ stop ≤ f ∧ f < gridEnd s.bil.demcfg s.bil.phase stop) ∧
    (∃ (s : State) (b lo f p : Nat), s.bil.mode ≠ .unknown ∧ s.billNow = some b ∧ s.bil.lastB = some lo ∧ s.front = some f ∧ (s.bil.periodEnds s.calendar s.calcfg lo b).cuts = [{ at_ := p, periodEnd := true, newPhase := none }] ∧ s.bil.running.start < p ∧ p ≤ gridEnd s.bil.demcfg s.bil.phase s.bil.running.start ∧ p ≤ f ∧ f < gridEnd (s.reg R.BIL_DEMCFG []) (alignPhase (s.reg R.BIL_DEMCFG [])) p) ∧
    (∃ (s : State) (b lo f p : Nat), s.bil.mode ≠ .unknown ∧ s.billNow = some b ∧ s.bil.lastB = some lo ∧ s.front = some f ∧ (s.bil.periodEnds s.calendar s.calcfg lo b).cuts = [{ at_ := p, periodEnd := true, newPhase := none }] ∧ s.bil.running.start < p ∧ p ≤ gridEnd s.bil.demcfg s.bil.phase s.bil.running.start ∧ p ≤ f ∧ f < gridEnd (s.reg R.BIL_DEMCFG []) (alignPhase (s.reg R.BIL_DEMCFG [])) p) ∧
    (∃ (s : State) (b : Nat), s.bil.lastB = some b ∧ F.BIL_CALCFG_NEXT_AT.get s.calcfg ≠ 0 ∧ F.BIL_CALCFG_NEXT_AT.get s.calcfg * 60000 ≤ b) ∧
    (∃ (s : State) (b : Nat), s.billNow = some b) ∧
    (∃ (s : State) (b : Nat) (c : TCmd), s.billNow = some b ∧ c ∈ s.bil.queue ∧ c.applied = false ∧ c.effective ≤ b) :=
  ⟨⟨((billed 2).onBil (fun b => { b with lastB := some 1000399760 }) |>.onNrg (fun n => { n with waiting := [{ startTb := 99994000000, endTb := 99999000000, inc := Vector.replicate 6 (Vector.replicate 2 5), short := false }], tickTb := 99999000000 })), { startTb := 99994000000, endTb := 99999000000, inc := Vector.replicate 6 (Vector.replicate 2 5), short := false }, 1000399960, 1000399760, by decide +kernel⟩,
    ⟨((billed 2).onGrate (fun g => { g with plan := none })), 1000400000, by decide +kernel⟩,
    ⟨((billed 2).onBil (fun b => { b with ticks := [tick 1 98750000000 1000350000, tick 2 98760000000 1000350200] })), (tick 1 98750000000 1000350000), [tick 2 98760000000 1000350200], by decide +kernel⟩,
    ⟨((billed 2).onBil (fun b => { b with ticks := [tick 1 98750000000 1000350000] })), (tick 1 98750000000 1000350000), [], by decide +kernel⟩,
    ⟨0, ((billed 2).onBil (fun b => { b with holds := b.holds.set 0 [Hold.zero 5 92500000000] })), (Hold.zero 5 92500000000), by decide +kernel⟩,
    ⟨((billed 2).onBil (fun b => { b with boundaries := 100 })), by decide +kernel⟩,
    ⟨((billed 2).onBil (fun b => { b with running := Interval.zero 999000000 999900000 })), 1000399999, 999900000, by decide +kernel⟩,
    ⟨((billed 2).onBil (fun b => { b with cuts := [{ at_ := 1000380000, periodEnd := true, newPhase := none }] })), 1000400000, 1000399999, 1000399999, 1000380000, by decide +kernel⟩,
    ⟨((billed 2).onBil (fun b => { b with ticks := [tick 1 99999000000 1000390000], cuts := [{ at_ := 1000380000, periodEnd := true, newPhase := none }] })), 1000400000, 1000399999, 1000390000, 1000380000, by decide +kernel⟩,
    ⟨((billed 2).using_ R.BIL_CALCFG [] F.BIL_CALCFG_NEXT_AT 16000), 1000399999, by decide +kernel⟩,
    ⟨(billed 2), 1000400000, by decide +kernel⟩,
    ⟨((billed 2).onBil (fun b => { b with queue := [{ tariff := 3, outputs := 1, site := true, effective := 1000400000, order := 1, applied := false }] })), 1000400000, { tariff := 3, outputs := 1, site := true, effective := 1000400000, order := 1, applied := false }, by decide +kernel⟩⟩

/-- States and operands that meet the hypotheses of `BillTimeAndTariffCommands`, clause by clause. -/
theorem test_wit_BillTimeAndTariffCommands :
    (∃ (sid : Sid) (v : W64) (h : Session) (s : State), s.Granted sid h R.BIL_TIMESET [] v ∧ s.bil.mode = .unknown ∧ s.bil.timeAt < 1000) ∧
    (∃ (sid : Sid) (v : W64) (h : Session) (s : State) (wall w b first instant : Nat), s.Granted sid h R.BIL_TIMESET [] v ∧ wall = F.BIL_TIMESET_WALL.get v.toNat ∧ ((s.bil.mode = .unknown ∧ b = s.bil.timeAt / 1000 ∧ b ≠ 0 ∧ first ≤ s.clock.tb ∧ instant = s.clock.tb ∧ w = wall) ∨ (s.bil.mode ≠ .unknown ∧ first = (s.bil.oldest.map (·.startTb)).getD s.boundTb ∧ instant = max first (s.clock.tb - 25000 * min 2000 (F.BIL_TIMESET_BACK.get v.toNat)) ∧ w = wall + (first - (s.clock.tb - 25000 * min 2000 (F.BIL_TIMESET_BACK.get v.toNat))) / 25000 ∧ s.billAt instant = some b))) ∧
    (∃ (sid : Sid) (v : W64) (h : Session) (s : State) (wall w b first instant : Nat), s.Granted sid h R.BIL_TIMESET [] v ∧ wall = F.BIL_TIMESET_WALL.get v.toNat ∧ ((s.bil.mode = .unknown ∧ b = s.bil.timeAt / 1000 ∧ b ≠ 0 ∧ first ≤ s.clock.tb ∧ instant = s.clock.tb ∧ w = wall) ∨ (s.bil.mode ≠ .unknown ∧ first = (s.bil.oldest.map (·.startTb)).getD s.boundTb ∧ instant = max first (s.clock.tb - 25000 * min 2000 (F.BIL_TIMESET_BACK.get v.toNat)) ∧ w = wall + (first - (s.clock.tb - 25000 * min 2000 (F.BIL_TIMESET_BACK.get v.toNat))) / 25000 ∧ s.billAt instant = some b))) ∧
    (∃ (sid : Sid) (v : W64) (h : Session) (s : State) (wall w b first instant : Nat), s.Granted sid h R.BIL_TIMESET [] v ∧ wall = F.BIL_TIMESET_WALL.get v.toNat ∧ ((s.bil.mode = .unknown ∧ b = s.bil.timeAt / 1000 ∧ b ≠ 0 ∧ first ≤ s.clock.tb ∧ instant = s.clock.tb ∧ w = wall) ∨ (s.bil.mode ≠ .unknown ∧ first = (s.bil.oldest.map (·.startTb)).getD s.boundTb ∧ instant = max first (s.clock.tb - 25000 * min 2000 (F.BIL_TIMESET_BACK.get v.toNat)) ∧ w = wall + (first - (s.clock.tb - 25000 * min 2000 (F.BIL_TIMESET_BACK.get v.toNat))) / 25000 ∧ s.billAt instant = some b))) ∧
    (∃ (s : State) (w : Nat), s.wallMicro s.clock.tb = some w ∧ s.bil.mode = .slew ∧ s.bil.timeAt + (s.clock.tb - s.bil.timeTb) * 999 / 25000 ≤ w) ∧
    (∃ (s : State) (w : Nat), s.wallMicro s.clock.tb = some w ∧ s.bil.mode = .hold ∧ s.bil.timeAt ≤ w) ∧
    (∃ (sid : Sid) (v : W64) (h : Session) (s : State) (now f eff tariff : Nat), s.Granted sid h R.BIL_TCMD [] v ∧ s.billNow = some now ∧ s.front = some f ∧ eff = F.BIL_TCMD_EFFECTIVE.get v.toNat ∧ tariff = F.BIL_TCMD_TARIFF.get v.toNat ∧ (tariff < 8 ∨ tariff = 15) ∧ eff ≤ now + 86400000 ∧ (s.bil.queue.filter (fun c => !c.applied)).length < 8) ∧
    (∃ (sid : Sid) (v : W64) (h : Session) (s : State) (now f eff tariff : Nat), s.Granted sid h R.BIL_TCMD [] v ∧ s.billNow = some now ∧ s.front = some f ∧ eff = F.BIL_TCMD_EFFECTIVE.get v.toNat ∧ tariff = F.BIL_TCMD_TARIFF.get v.toNat ∧ (tariff < 8 ∨ tariff = 15) ∧ eff ≤ now + 86400000 ∧ (s.bil.queue.filter (fun c => !c.applied)).length < 8) ∧
    (∃ (sid : Sid) (v : W64) (h : Session) (s : State) (now f : Nat), s.Granted sid h R.BIL_TCMD [] v ∧ s.billNow = some now ∧ s.front = some f ∧ (8 ≤ F.BIL_TCMD_TARIFF.get v.toNat ∧ F.BIL_TCMD_TARIFF.get v.toNat < 15 ∨ now + 86400000 < F.BIL_TCMD_EFFECTIVE.get v.toNat)) ∧
    (∃ (sid : Sid) (v : W64) (h : Session) (s : State) (now f : Nat), s.Granted sid h R.BIL_TCMD [] v ∧ s.billNow = some now ∧ s.front = some f ∧ (8 ≤ F.BIL_TCMD_TARIFF.get v.toNat ∧ F.BIL_TCMD_TARIFF.get v.toNat < 15 ∨ now + 86400000 < F.BIL_TCMD_EFFECTIVE.get v.toNat)) ∧
    (∃ (sid : Sid) (v : W64) (h : Session) (s : State) (now f : Nat), s.Granted sid h R.BIL_TCMD [] v ∧ s.billNow = some now ∧ s.front = some f ∧ (F.BIL_TCMD_TARIFF.get v.toNat < 8 ∨ F.BIL_TCMD_TARIFF.get v.toNat = 15) ∧ F.BIL_TCMD_EFFECTIVE.get v.toNat ≤ now + 86400000 ∧ 8 ≤ (s.bil.queue.filter (fun c => !c.applied)).length) ∧
    (∃ (sid : Sid) (v : W64) (h : Session) (s : State) (now f x : Nat), s.Granted sid h R.BIL_DSYNC [] v ∧ s.billNow = some now ∧ s.front = some f ∧ x = F.BIL_DSYNC_END.get v.toNat ∧ f ≤ x ∧ x ≤ now + demLen s.bil.demcfg) ∧
    (∃ (sid : Sid) (v : W64) (h : Session) (s : State) (now f x : Nat), s.Granted sid h R.BIL_DSYNC [] v ∧ s.billNow = some now ∧ s.front = some f ∧ x = F.BIL_DSYNC_END.get v.toNat ∧ f ≤ x ∧ x ≤ now + demLen s.bil.demcfg) ∧
    (∃ (sid : Sid) (v : W64) (h : Session) (s : State) (now f x : Nat), s.Granted sid h R.BIL_DSYNC [] v ∧ s.billNow = some now ∧ s.front = some f ∧ x = F.BIL_DSYNC_END.get v.toNat ∧ (x < f ∨ now + demLen s.bil.demcfg < x)) ∧
    (∃ (sid : Sid) (v : W64) (h : Session) (s : State) (now f x : Nat), s.Granted sid h R.BIL_DSYNC [] v ∧ s.billNow = some now ∧ s.front = some f ∧ x = F.BIL_DSYNC_END.get v.toNat ∧ (x < f ∨ now + demLen s.bil.demcfg < x)) ∧
    (∃ (sid : Sid) (v : W64) (h : Session) (s : State), s.bil.mode = .unknown) :=
  ⟨⟨1, (w64 (F.BIL_TIMESET_WALL.set 0 1000000000)), (ses 2), (host 2), granted_of (by decide +kernel), by decide +kernel⟩,
    ⟨1, (w64 (F.BIL_TIMESET_WALL.set 0 1000400000)), (ses 2), (billed 2), 1000400000, 1000400000, 1000400000, (billed 2).boundTb, 100000000000, granted_of (by decide +kernel), by decide +kernel⟩,
    ⟨1, (w64 (F.BIL_TIMESET_WALL.set 0 1000398000)), (ses 2), (billed 2), 1000398000, 1000398000, 1000400000, (billed 2).boundTb, 100000000000, granted_of (by decide +kernel), by decide +kernel⟩,
    ⟨1, (w64 (F.BIL_TIMESET_WALL.set 0 1000397999)), (ses 2), (billed 2), 1000397999, 1000397999, 1000400000, (billed 2).boundTb, 100000000000, granted_of (by decide +kernel), by decide +kernel⟩,
    ⟨((billed 2).onBil (fun b => { b with mode := .slew, timeAt := 1000000000000, timeTb := 90000000000 })), 1000400000000, by decide +kernel⟩,
    ⟨((billed 2).onBil (fun b => { b with mode := .hold, timeAt := 1000400000000 })), 1000400000000, by decide +kernel⟩,
    ⟨1, (w64 (F.BIL_TCMD_TARIFF.set 0 3)), (ses 2), (billed 2), 1000400000, 1000399999, 0, 3, granted_of (by decide +kernel), by decide +kernel⟩,
    ⟨1, (w64 (F.BIL_TCMD_EFFECTIVE.set (F.BIL_TCMD_TARIFF.set 0 15) 1086800000)), (ses 2), (billed 2), 1000400000, 1000399999, 1086800000, 15, granted_of (by decide +kernel), by decide +kernel⟩,
    ⟨1, (w64 (F.BIL_TCMD_TARIFF.set 0 8)), (ses 2), (billed 2), 1000400000, 1000399999, granted_of (by decide +kernel), by decide +kernel⟩,
    ⟨1, (w64 (F.BIL_TCMD_EFFECTIVE.set 0 1086800001)), (ses 2), (billed 2), 1000400000, 1000399999, granted_of (by decide +kernel), by decide +kernel⟩,
    ⟨1, (w64 (F.BIL_TCMD_TARIFF.set 0 3)), (ses 2), ((billed 2).onBil (fun b => { b with queue := List.replicate 8 { tariff := 3, outputs := 1, site := true, effective := 1000500000, order := 1, applied := false } })), 1000400000, 1000399999, granted_of (by decide +kernel), by decide +kernel⟩,
    ⟨1, (w64 (F.BIL_DSYNC_END.set 0 1000399999)), (ses 2), (billed 2), 1000400000, 1000399999, 1000399999, granted_of (by decide +kernel), by decide +kernel⟩,
    ⟨1, (w64 (F.BIL_DSYNC_END.set 0 1001300000)), (ses 2), (billed 2), 1000400000, 1000399999, 1001300000, granted_of (by decide +kernel), by decide +kernel⟩,
    ⟨1, (w64 (F.BIL_DSYNC_END.set 0 1001300001)), (ses 2), (billed 2), 1000400000, 1000399999, 1001300001, granted_of (by decide +kernel), by decide +kernel⟩,
    ⟨1, (w64 (F.BIL_DSYNC_END.set 0 1000399998)), (ses 2), (billed 2), 1000400000, 1000399999, 1000399998, granted_of (by decide +kernel), by decide +kernel⟩,
    ⟨1, 0, (ses 2), (host 2), by decide +kernel⟩⟩

/-- States and operands that meet the hypotheses of `SealRecordsAndTamper`, clause by clause. -/
theorem test_wit_SealRecordsAndTamper :
    (∃ (j : Slot) (s : State) (dl : Nat), s.jobTurn j 0x40 = true ∧ (s.job j).records = [] ∧ bitsOf ((s.job j).param 1) 0 9 ≤ 480 ∧ s.doorOpen = true ∧ s.mseal.record.open_ = false ∧ dl = s.wall0 + (if bitsOf ((s.job j).param 1) 0 9 = 0 then 60 else bitsOf ((s.job j).param 1) 0 9) * 60000) ∧
    (∃ (j : Slot) (s : State) (dl : Nat), s.jobTurn j 0x40 = true ∧ (s.job j).records = [] ∧ bitsOf ((s.job j).param 1) 0 9 ≤ 480 ∧ s.doorOpen = true ∧ s.mseal.record.open_ = false ∧ dl = s.wall0 + (if bitsOf ((s.job j).param 1) 0 9 = 0 then 60 else bitsOf ((s.job j).param 1) 0 9) * 60000) ∧
    (∃ (j : Slot) (s : State) (dl : Nat), s.jobTurn j 0x40 = true ∧ (s.job j).records = [] ∧ bitsOf ((s.job j).param 1) 0 9 ≤ 480 ∧ s.doorOpen = true ∧ s.mseal.record.open_ = true ∧ dl = s.wall0 + (if bitsOf ((s.job j).param 1) 0 9 = 0 then 60 else bitsOf ((s.job j).param 1) 0 9) * 60000) ∧
    (∃ (j : Slot) (s : State), s.jobTurn j 0x40 = true ∧ (480 < bitsOf ((s.job j).param 1) 0 9 ∨ s.doorOpen = false)) ∧
    (∃ (j : Slot) (s : State), s.jobTurn j 0x40 = true ∧ (480 < bitsOf ((s.job j).param 1) 0 9 ∨ s.doorOpen = false)) ∧
    (∃ (j : Slot) (s : State), s.jobTurn j 0x41 = true ∧ s.mseal.record.open_ = true) ∧
    (∃ (j : Slot) (s : State), s.jobTurn j 0x41 = true ∧ s.mseal.record.open_ = true) ∧
    (∃ (j : Slot) (s : State), s.jobTurn j 0x41 = true ∧ s.mseal.record.open_ = true) ∧
    (∃ (j : Slot) (s : State), s.jobTurn j 0x41 = true ∧ s.mseal.record.open_ = false) ∧
    (∃ (s : State), s.mseal.record.open_ = true ∧ (∀ w, s.wallNow = some w → s.mseal.record.deadline ≤ w)) ∧
    (∃ (s : State), s.mseal.record.open_ = true ∧ (∀ w, s.wallNow = some w → s.mseal.record.deadline ≤ w)) ∧
    (∃ (s : State), s.flueReady = true ∧ (s.slot 3).refusal engFLUE s.clock.tb = none ∧ (s.slot 3).limit = 0) ∧
    (∃ (n : TamperNo) (s : State), s.pwr.mode ≠ .off ∧ (∀ b, (s.mseal.inputs[n]).lastTb = some b → s.clock.run = true → b + tbSecond ≤ s.clock.tb) ∧ bitOf (s.fld R.SEAL_TAMPCFG F.SEAL_TAMPCFG_EN []) n.1 = true) ∧
    (∃ (n : TamperNo) (s : State) (b : Nat), (s.mseal.inputs[n]).lastTb = some b ∧ s.clock.run = true ∧ s.clock.tb < b + tbSecond) ∧
    (∃ (s : State), s.hearth.running = true) ∧
    (∃ (s : State), s.hearth.running = true) :=
  ⟨⟨0, ({ door with clock := { live.clock with wall := some (1000000000, 90000000000) } }.withJob (queued 0x40 1 [480])), 1029200000, by decide +kernel⟩,
    ⟨0, ({ door with clock := { live.clock with wall := some (1000000000, 90000000000) } }.withJob (queued 0x40 1 [])), 1004000000, by decide +kernel⟩,
    ⟨0, (({ door with clock := { live.clock with wall := some (1000000000, 90000000000) } }.withJob (queued 0x40 1 [480])).onMseal (fun m => { m with record := { m.record with open_ := true, deadline := 5, epoch := 7 } })), 1029200000, by decide +kernel⟩,
    ⟨0, (live.withJob (queued 0x40 1 [480])), by decide +kernel⟩,
    ⟨0, (live.withJob (queued 0x40 1 [481])), by decide +kernel⟩,
    ⟨0, ((live.withJob (queued 0x41 1 [])).onMseal (fun m => { m with changed := true, record := { m.record with open_ := true, deadline := 5, epoch := 7 } })), by decide +kernel⟩,
    ⟨0, ((live.withJob (queued 0x41 1 [])).onMseal (fun m => { m with changed := false, record := { m.record with open_ := true, deadline := 5, epoch := 7 } })), by decide +kernel⟩,
    ⟨0, ((((billed 2).withSlot 3 { vslot 0 with kind := 4, key := List.replicate 48 7#8 }).withJob (queued 0x41 1 [])).onMseal (fun m => { m with changed := true, record := { m.record with open_ := true, deadline := 5, epoch := 7 } })), by decide +kernel⟩,
    ⟨0, (live.withJob (queued 0x41 1 [])), by decide +kernel⟩,
    ⟨(live.onMseal (fun m => { m with changed := true, record := { m.record with open_ := true, deadline := 5, epoch := 7 } })), by decide +kernel⟩,
    ⟨((billed 2).onMseal (fun m => { m with changed := true, record := { m.record with open_ := true, deadline := 1000400000, epoch := 7 } })), by decide +kernel⟩,
    ⟨((billed 2).withSlot 3 { vslot 0 with kind := 4, key := List.replicate 48 7#8 }), by decide +kernel⟩,
    ⟨1, (live.using_ R.SEAL_TAMPCFG [] F.SEAL_TAMPCFG_EN 2), by decide +kernel⟩,
    ⟨1, ((live.using_ R.SEAL_TAMPCFG [] F.SEAL_TAMPCFG_EN 2).onMseal (fun m => { m with inputs := m.inputs.set 1 { m.inputs[1] with lastTb := some 99975000001 } })), 99975000001, by decide +kernel⟩,
    ⟨live, by decide +kernel⟩,
    ⟨((billed 2).onMseal (fun m => { m with ledger := m.ledger.set 2 { LedgerEntry.reset with count := 4294967295, dCount := 3, dLastArg := 7 } })), by decide +kernel⟩⟩

/-- States and operands that meet the hypotheses of `CalibrationAndFlueJobs`, clause by clause. -/
theorem test_wit_CalibrationAndFlueJobs :
    (∃ (j : Slot) (s : State) (n : Fin 64), s.jobTurn j 0x48 = true ∧ (s.job j).records = [] ∧ (s.job j).param 1 = n.1 ∧ s.mseal.record.open_ = true ∧ calInRange ((s.job j).param 3) ((s.job j).param 5) = true) ∧
    (∃ (j : Slot) (s : State), s.jobTurn j 0x48 = true ∧ (s.job j).param 1 < 64 ∧ s.mseal.record.open_ = false) ∧
    (∃ (j : Slot) (s : State) (p : Plan) (n : Nat), s.jobTurn j 0x49 = true ∧ n = bitsOf ((s.job j).param 1) 32 32 ∧ 48 ≤ n ∧ n ≤ 4800000 ∧ s.grate.plan = some p ∧ p.mas.any (fun m => m.op == 5 && m.calSlot == bitsOf ((s.job j).param 1) 0 6) = true) ∧
    (∃ (x : FrameIn) (s : State) (m : Measure) (p : Plan), s.sens.measure = some m ∧ s.grate.plan = some p ∧ s.grate.tickFrame < 480 ∧ p.mas.any (fun r => r.op == 5 && r.calSlot == m.slot) = true ∧ (s.job m.job).code = 0x49 ∧ (s.job m.job).state = .running ∧ (s.job m.job).records = [] ∧ m.want < 48000 ∧ m.n + 1 = m.want ∧ m.skipped = m.want) ∧
    (∃ (x : FrameIn) (s : State) (m : Measure), s.sens.measure = some m ∧ s.grate.plan = none ∧ (s.job m.job).code = 0x49 ∧ (s.job m.job).state = .running) ∧
    (∃ (j : Slot) (s : State) (n : Fin 7), s.jobTurn j 0x42 = true ∧ (s.job j).records = [] ∧ bitsOf ((s.job j).param 1) 0 7 = 2 ^ n.1 ∧ s.flueRefusal (s.job j).polder (2 ^ n.1) = 0 ∧ (s.slot 3).refusal engFLUE s.clock.tb = none) ∧
    (∃ (j : Slot) (s : State) (n : Fin 7), s.jobTurn j 0x42 = true ∧ (s.job j).records = [] ∧ bitsOf ((s.job j).param 1) 0 7 = 2 ^ n.1 ∧ s.flueRefusal (s.job j).polder (2 ^ n.1) = 0 ∧ (s.slot 3).refusal engFLUE s.clock.tb = none) ∧
    (∃ (j : Slot) (s : State), s.jobTurn j 0x42 = true ∧ s.flueRefusal (s.job j).polder (bitsOf ((s.job j).param 1) 0 7) ≠ 0) ∧
    (∃ (j : Slot) (s : State) (l : List FlueRecord), s.jobTurn j 0x43 = true ∧ (s.job j).records = [] ∧ 1 ≤ bitsOf ((s.job j).param 2) 0 11 ∧ bitsOf ((s.job j).param 2) 0 11 ≤ 1024 ∧ (s.job j).polder ≠ 3 ∧ l = (s.mseal.store.filter (fun r => decide ((s.job j).param 1 ≤ r.body.counter) && (bitsOf ((s.job j).param 2) 16 7 == 0 || bitOf (bitsOf ((s.job j).param 2) 16 7) r.body.output))).take (bitsOf ((s.job j).param 2) 0 11) ∧ (l.map (fun r => (bytesWords r.bytes).length + 1)).sum * 8 ≤ 2 ^ 20) ∧
    (∃ (j : Slot) (s : State) (e : Nat) (c : Bytes), s.jobTurn j 0x44 = true ∧ (s.job j).records = [] ∧ e = (if bitsOf ((s.job j).param 1) 0 32 = 0 then s.mseal.record.epoch else bitsOf ((s.job j).param 1) 0 32) ∧ s.mseal.certs.find? (fun c => c.1 == e) = some (e, c) ∧ ((bytesWords c).length + 1) * 8 ≤ 2 ^ 20) :=
  ⟨⟨0, ((live.withJob (queued 0x48 1 [3, 9, 50, 4, 5])).onMseal (fun m => { m with record := { m.record with open_ := true } })), 3, by decide +kernel⟩,
    ⟨0, (live.withJob (queued 0x48 1 [63, 9, 50, 4, 5])), by decide +kernel⟩,
    ⟨0, (planned.withJob (queued 0x49 1 [w64 (48 * 2 ^ 32 + 3)])), plan, 48, by decide +kernel⟩,
    ⟨quiet, ((planned.withJob { queued 0x49 1 [w64 (48 * 2 ^ 32 + 3)] with state := .running }).onSens (fun x => { x with measure := some ⟨0, 3, 48, 47, 48, 329, 2303, 7, 7⟩ })), ⟨0, 3, 48, 47, 48, 329, 2303, 7, 7⟩, plan, by decide +kernel⟩,
    ⟨quiet, ((live.withJob { queued 0x49 1 [w64 (48 * 2 ^ 32 + 3)] with state := .running }).onSens (fun x => { x with measure := some ⟨0, 3, 48, 47, 48, 329, 2303, 7, 7⟩ })), ⟨0, 3, 48, 47, 48, 329, 2303, 7, 7⟩, by decide +kernel⟩,
    ⟨0, (((billed 2).withSlot 3 { vslot 0 with kind := 4, key := List.replicate 48 7#8 }).withJob (queued 0x42 1 [64, 99]) |>.onMseal (fun m => { m with record := { m.record with epoch := 1 } })), 6, by decide +kernel⟩,
    ⟨0, (((billed 2).withSlot 3 { vslot 0 with kind := 4, key := List.replicate 48 7#8 }).withJob (queued 0x42 1 [1, 99]) |>.onMseal (fun m => { m with record := { m.record with epoch := 1 } })), 0, by decide +kernel⟩,
    ⟨0, (live.withJob (queued 0x42 1 [1, 99])), by decide +kernel⟩,
    ⟨0, (live.withJob (queued 0x43 1 [0, 1024])), [], by decide +kernel⟩,
    ⟨0, ((live.withJob (queued 0x44 1 [])).onMseal (fun m => { m with certs := [(0, [1#8, 2#8])] })), 0, [1#8, 2#8], by decide +kernel⟩⟩

/-- States and operands that meet the hypotheses of `PilotsModemsAndSlac`, clause by clause. -/
theorem test_wit_PilotsModemsAndSlac :
    (∃ (o : Output) (i : PilotIn) (s : State), bitOf s.veh.watched o.1 = false) ∧
    (∃ (o : Output) (i : PilotIn) (s : State), bitOf s.veh.watched o.1 = true) ∧
    (∃ (o : Output) (i : PilotIn) (s : State), bitOf s.veh.watched o.1 = true) ∧
    (∃ (o : Output) (i : PilotIn) (s : State), bitOf s.veh.watched o.1 = true) ∧
    (∃ (o : Output) (ohms c : Nat) (s : State), c = ppCode (s.useFld R.VEH_PINCFGn F.VEH_PINCFGn_PP_TABLE [o.1]) ohms) ∧
    (∃ (o : Output) (ohms c : Nat) (s : State), c = ppCode (s.useFld R.VEH_PINCFGn F.VEH_PINCFGn_PP_TABLE [o.1]) ohms) ∧
    (∃ (o : Output) (ohms c : Nat) (s : State), c = ppCode (s.useFld R.VEH_PINCFGn F.VEH_PINCFGn_PP_TABLE [o.1]) ohms) ∧
    (∃ (m : ModemNo) (w : ModemFault) (us : Nat) (s : State), (s.veh.modems[m]).failed = false ∧ m.1 < 6 ∧ (s.veh.modems[(6 : Fin 7)]).failed = false ∧ s.veh.serving = 7) ∧
    (∃ (m : ModemNo) (w : ModemFault) (us : Nat) (c : Output) (s : State), (s.veh.modems[m]).failed = false ∧ (m.1 = 6 ∨ (s.veh.modems[(6 : Fin 7)]).failed = true ∨ s.veh.serving ≠ 7) ∧ (s.veh.modems[m]).coupler = c.1 ∧ s.plcOn c = true ∧ (s.so c).state ≠ .lock) ∧
    (∃ (run : Bytes) (s : State), s.findRun run = none ∧ bitmap 6 s.slacCandidate ≠ 0 ∧ (∀ o, (s.so o).state ≠ .waitUnplug)) ∧
    (∃ (run : Bytes) (atten : SampleList) (s : State) (r : SlacRun) (x : Nat), s.veh.slac = [r] ∧ r.runId = run ∧ r.closed = false ∧ r.startTb = some x ∧ s.clock.tb ≤ x + slacWindow) ∧
    (∃ (run : Bytes) (atten : SampleList) (s : State) (r : SlacRun) (x : Nat), s.veh.slac = [r] ∧ r.runId = run ∧ r.closed = false ∧ r.startTb = some x ∧ s.clock.tb ≤ x + slacWindow) ∧
    (∃ (s : State) (r : SlacRun) (x : Nat), s.veh.slac = [r] ∧ r.closed = false ∧ r.startTb = some x ∧ x + slacWindow ≤ s.clock.tb) ∧
    (∃ (o : Output) (run : Bytes) (m : Fin 7) (s : State) (r : SlacRun), s.findRun run = some r ∧ r.closed = true ∧ r.winner = some o ∧ r.wins o = true ∧ s.modemFor o = some m ∧ (s.plcSend o true).1 = true) ∧
    (∃ (o : Output) (run : Bytes) (n : Nat) (s : State) (r : SlacRun), s.veh.slac = [r] ∧ r.runId = run ∧ r.closed = true ∧ r.winner = none ∧ F.VEH_SLACCFG_VALIDATE.get r.cfg = 1 ∧ r.within o = true) ∧
    (∃ (o : Output) (s : State), s.plcOn o = true ∧ s.linkUp o = false ∧ (s.so o).state ≠ .lock) ∧
    (∃ (o : Output) (s : State), s.plcOn o = true ∧ s.linkUp o = false ∧ (s.so o).state ≠ .lock) :=
  ⟨⟨0, { high := 8900, low := -12000 }, live, by decide +kernel⟩,
    ⟨0, { high := 8900, low := -12000 }, (planned.onPilot 0 (fun p => { p with drive := .pwm 50, state := 1 })), by decide +kernel⟩,
    ⟨0, { high := 12000, low := -12000 }, ((veh .charging).onPilot 0 (fun p => { p with drive := .pwm 50, was := .pwm 50, state := 2 })), by decide +kernel⟩,
    ⟨0, { high := 12000, low := -12000 }, (((veh .charging).onPilot 0 (fun p => { p with drive := .pwm 50, was := .pwm 50, state := 2 })).onSeqr (fun q => { q with suspended := true })), by decide +kernel⟩,
    ⟨0, 100000, 0, (veh .charging), by decide +kernel⟩,
    ⟨0, 1500, (ppCode ((veh .charging).useFld R.VEH_PINCFGn F.VEH_PINCFGn_PP_TABLE [0]) 1500), (veh .charging), by decide +kernel⟩,
    ⟨0, 100000, 0, ((veh .charging).onSeqr (fun q => { q with suspended := true })), by decide +kernel⟩,
    ⟨2, .heartbeat, 20000, planned, by decide +kernel⟩,
    ⟨0, .afe, 20000, 0, ((veh .charging).onModem 6 (fun m => { m with failed := true })), by decide +kernel⟩,
    ⟨(List.replicate 8 1#8), (planned.onPilot 0 (fun p => { p with drive := .pwm 50, state := 1 })), by decide +kernel⟩,
    ⟨[1#8], [some 20, some 1, none, some 3, some 4, some 5], (planned.onVeh (fun v => { v with slac := [⟨[1#8], 1, some 99990000000, 9, Vector.replicate 6 (0, 0), 40, [], false, none, none⟩] })), ⟨[1#8], 1, some 99990000000, 9, Vector.replicate 6 (0, 0), 40, [], false, none, none⟩, 99990000000, by decide +kernel⟩,
    ⟨[1#8], [some 20], (planned.onVeh (fun v => { v with slac := [⟨[1#8], 1, some 99985000000, 8, Vector.replicate 6 (0, 0), 40, [], false, none, none⟩] })), ⟨[1#8], 1, some 99985000000, 8, Vector.replicate 6 (0, 0), 40, [], false, none, none⟩, 99985000000, by decide +kernel⟩,
    ⟨(planned.onVeh (fun v => { v with slac := [⟨[1#8], 1, some 99985000000, 8, Vector.replicate 6 (0, 0), 40, [], false, none, none⟩] })), ⟨[1#8], 1, some 99985000000, 8, Vector.replicate 6 (0, 0), 40, [], false, none, none⟩, 99985000000, by decide +kernel⟩,
    ⟨0, [1#8], 0, ((veh .link).onVeh (fun v => { v with slac := [⟨[1#8], 1, some 99985000000, 8, Vector.replicate 6 (20, 1), F.VEH_SLACCFG_ATTEN_MAX.set 0 40, [], true, some 0, none⟩] })), ⟨[1#8], 1, some 99985000000, 8, Vector.replicate 6 (20, 1), F.VEH_SLACCFG_ATTEN_MAX.set 0 40, [], true, some 0, none⟩, by decide +kernel⟩,
    ⟨0, [1#8], 3, (planned.onVeh (fun v => { v with slac := [⟨[1#8], 1, some 99985000000, 8, Vector.replicate 6 (20, 1), F.VEH_SLACCFG_VALIDATE.set 255 1, [], true, none, none⟩] })), ⟨[1#8], 1, some 99985000000, 8, Vector.replicate 6 (20, 1), F.VEH_SLACCFG_VALIDATE.set 255 1, [], true, none, none⟩, by decide +kernel⟩,
    ⟨0, ((veh .link).onModem 0 (fun m => { m with matched := false })), by decide +kernel⟩,
    ⟨0, ((veh .charging).onModem 0 (fun m => { m with matched := false })), by decide +kernel⟩⟩

/-- States and operands that meet the hypotheses of `NetworkAndTls`, clause by clause. -/
theorem test_wit_NetworkAndTls :
    (∃ (n : DcNo) (s : State), (s.veh.t1s[n]).enabled = true ∧ (s.veh.pilots[n.1]'(by omega)).state = 0 ∧ (s.veh.pilots[n.1]'(by omega)).tb + tbSecond ≤ s.clock.tb) ∧
    (∃ (n : DcNo) (s : State), (s.veh.t1s[n]).enabled = true ∧ (s.so ⟨n.1, by omega⟩).state ≠ .lock) ∧
    (∃ (o : Output) (tls : Bool) (s : State), s.Linked o ∧ (s.plcSend o true).1 = true) ∧
    (∃ (o : Output) (offers : WordList) (c : Nat) (s : State), s.Linked o ∧ c = chooseProtocol (s.chainOk 3) ((s.takeUp .s (fun a => a == R.VEH_PROTOCFG.addr [])).useFld R.VEH_PROTOCFG F.VEH_PROTOCFG_ORDER []) (offers.map BitVec.toNat) (s.veh.proto[o])) ∧
    (∃ (o : Output) (h : TlsHello) (s : State), s.linkUp o = true ∧ (s.so o).sid.isSome = true ∧ (s.veh.proto[o]).tls = false ∧ h.suiteOk = true ∧ (if h.version13 then s.chain20 && (!h.client || h.clientOk) else s.chainOk 3) = true ∧ (s.slot (Fin.ofNat 256 (s.fw.stores[s.tlsChain h.version13]).slot)).refusal engECDSA s.clock.tb = none) ∧
    (∃ (o : Output) (h : TlsHello) (s : State), s.linkUp o = true ∧ (s.so o).sid.isSome = true ∧ (s.veh.proto[o]).tls = false ∧ ((h.suiteOk && (if h.version13 then s.chain20 && (!h.client || h.clientOk) else s.chainOk 3)) = false ∨ (s.slot (Fin.ofNat 256 (s.fw.stores[s.tlsChain h.version13]).slot)).refusal engECDSA s.clock.tb ≠ none) ∧ (s.so o).state ≠ .lock) :=
  ⟨⟨0, (planned.onVeh (fun v => { v with t1s := Vector.replicate 4 { enabled := true, link := true, lost := false, drops := 0, errors := 0 } })), by decide +kernel⟩,
    ⟨0, ((veh .charging).onVeh (fun v => { v with t1s := Vector.replicate 4 { enabled := true, link := true, lost := false, drops := 0, errors := 0 } })), by decide +kernel⟩,
    ⟨0, true, (veh .link), linked_of (by decide +kernel), by decide +kernel⟩,
    ⟨0, [1, 2, 3], (chooseProtocol ((veh .link).chainOk 3) ((veh .link).useFld R.VEH_PROTOCFG F.VEH_PROTOCFG_ORDER []) [1, 2, 3] Proto.reset), (veh .link), linked_of (by decide +kernel), by decide +kernel⟩,
    ⟨0, { version13 := false, suiteOk := true, client := false, clientOk := false }, ((veh .link).onFw (fun u => { u with stores := u.stores.set 3 { certs := [[1#8]], slot := 3, expires := 100000 } })), by decide +kernel⟩,
    ⟨0, { version13 := true, suiteOk := true, client := false, clientOk := false }, (veh .link), by decide +kernel⟩⟩

/-- States and operands that meet the hypotheses of `VehicleMessages`, clause by clause. -/
theorem test_wit_VehicleMessages :
    (∃ (o : Output) (id : Bytes) (s : State), s.Linked o) ∧
    (∃ (o : Output) (service : Nat) (s : State), s.Linked o) ∧
    (∃ (o : Output) (service : Nat) (s : State), s.Linked o) ∧
    (∃ (o : Output) (service : Nat) (s : State), s.Linked o) ∧
    (∃ (o : Output) (update : Bool) (exi : Bytes) (s : State), s.Linked o ∧ exi.length ≤ exiMax ∧ ((s.veh.proto[o]).protocol = 2 ∨ ((s.veh.proto[o]).protocol = 3 ∧ update = false))) ∧
    (∃ (o : Output) (update : Bool) (exi : Bytes) (s : State), s.Linked o ∧ exi.length ≤ exiMax ∧ ((s.veh.proto[o]).protocol = 2 ∨ ((s.veh.proto[o]).protocol = 3 ∧ update = false))) ∧
    (∃ (o : Output) (vMax : Nat) (pMax : Int) (schedule : Bool) (s : State), s.Linked o) ∧
    (∃ (o : Output) (vMax : Nat) (pMax : Int) (schedule : Bool) (s : State), s.Linked o) ∧
    (∃ (o : Output) (s : State), s.Linked o) ∧
    (∃ (o : Output) (mv : Nat) (s : State), s.Linked o) ∧
    (∃ (o : Output) (start : Bool) (s : State), s.Linked o) ∧
    (∃ (o : Output) (start : Bool) (s : State), s.Linked o) ∧
    (∃ (o : Output) (target : Int) (volts : Nat) (power : Int) (s : State), s.Linked o) ∧
    (∃ (o : Output) (target : Int) (volts : Nat) (power : Int) (s : State), s.Linked o) ∧
    (∃ (o : Output) (signed : Bytes) (s : State), s.Linked o) ∧
    (∃ (o : Output) (signed : Bytes) (s : State), s.Linked o) ∧
    (∃ (o : Output) (s : State), s.Linked o) ∧
    (∃ (o : Output) (pause : Bool) (s : State), s.Linked o) ∧
    (∃ (o : Output) (pause : Bool) (s : State), s.Linked o) ∧
    (∃ (o : Output) (s : State), s.linkUp o = true ∧ (s.so o).sid.isSome = true) :=
  ⟨⟨0, [1#8], (veh .link), linked_of (by decide +kernel)⟩,
    ⟨0, 0, (veh .link), linked_of (by decide +kernel)⟩,
    ⟨0, 1, (veh .link), linked_of (by decide +kernel)⟩,
    ⟨0, 2, ((veh .link).onProto 0 (fun p => { p with protocol := 3 })), linked_of (by decide +kernel)⟩,
    ⟨0, false, [1#8], ((veh .link).onProto 0 (fun p => { p with protocol := 3 })), linked_of (by decide +kernel), by decide +kernel⟩,
    ⟨0, true, [1#8], ((veh .link).onProto 0 (fun p => { p with protocol := 2 })), linked_of (by decide +kernel), by decide +kernel⟩,
    ⟨0, 900000, 50000, false, (veh .link), linked_of (by decide +kernel)⟩,
    ⟨0, 0, 50000, true, ((veh .link).onProto 0 (fun p => { p with protocol := 2 })), linked_of (by decide +kernel)⟩,
    ⟨0, (veh .link), linked_of (by decide +kernel)⟩,
    ⟨0, 400000, (veh .precharge), linked_of (by decide +kernel)⟩,
    ⟨0, true, (veh .ready), linked_of (by decide +kernel)⟩,
    ⟨0, false, (veh .charging), linked_of (by decide +kernel)⟩,
    ⟨0, 100, 400000, 5000, (veh .charging), linked_of (by decide +kernel)⟩,
    ⟨0, 100, 400000, 5000, ((veh .charging).onProto 0 (fun p => { p with protocol := 3, service := 3 })), linked_of (by decide +kernel)⟩,
    ⟨0, [1#8], (veh .charging), linked_of (by decide +kernel)⟩,
    ⟨0, [1#8], ((veh .charging).onProto 0 (fun p => { p with protocol := 2 })), linked_of (by decide +kernel)⟩,
    ⟨0, (veh .weldcheck), linked_of (by decide +kernel)⟩,
    ⟨0, true, (veh .charging), linked_of (by decide +kernel)⟩,
    ⟨0, false, (veh .waitUnplug), linked_of (by decide +kernel)⟩,
    ⟨0, (veh .precharge), by decide +kernel⟩⟩

/-- States and operands that meet the hypotheses of `AuthorisationAndLocalList`, clause by clause. -/
theorem test_wit_AuthorisationAndLocalList :
    (∃ (o : Output) (id : Ident) (s : State), s.Linked o ∧ (s.so o).ended = false ∧ (s.so o).auth ≤ 1 ∧ (s.veh.relay[o]).kind ≠ 1 ∧ (if id.contract then s.fld R.VEH_AUTHCFG F.VEH_AUTHCFG_PNC [] == 1 && (s.veh.proto[o]).tls && decide (2 ≤ (s.veh.proto[o]).protocol) else s.fld R.VEH_AUTHCFG F.VEH_AUTHCFG_EIM [] == 1) = true) ∧
    (∃ (o : Output) (id : Ident) (s : State), s.Linked o ∧ (s.so o).ended = false ∧ (s.so o).auth ≤ 1 ∧ (s.veh.relay[o]).kind ≠ 1 ∧ (if id.contract then s.fld R.VEH_AUTHCFG F.VEH_AUTHCFG_PNC [] == 1 && (s.veh.proto[o]).tls && decide (2 ≤ (s.veh.proto[o]).protocol) else s.fld R.VEH_AUTHCFG F.VEH_AUTHCFG_EIM [] == 1) = true) ∧
    (∃ (o : Output) (id : Ident) (s : State), s.Linked o ∧ (s.so o).ended = false ∧ (s.so o).auth ≤ 1 ∧ (s.veh.relay[o]).kind ≠ 1 ∧ (if id.contract then s.fld R.VEH_AUTHCFG F.VEH_AUTHCFG_PNC [] == 1 && (s.veh.proto[o]).tls && decide (2 ≤ (s.veh.proto[o]).protocol) else s.fld R.VEH_AUTHCFG F.VEH_AUTHCFG_EIM [] == 1) = true) ∧
    (∃ (o : Output) (x : Nat) (s : State), (s.veh.relay[o]).kind = 1 ∧ (s.veh.relay[o]).deadline = some x ∧ x ≤ s.clock.tb ∧ (s.so o).sid.isSome = true ∧ (s.so o).ended = false ∧ (s.so o).stopped = false) ∧
    (∃ (o : Output) (x : Nat) (s : State), (s.veh.relay[o]).kind = 1 ∧ (s.veh.relay[o]).deadline = some x ∧ x ≤ s.clock.tb ∧ (s.so o).sid.isSome = true ∧ (s.so o).ended = false ∧ (s.so o).stopped = false) ∧
    (∃ (sid : Sid) (o : Output) (v : W64) (h : Session) (s : State), s.Granted sid h R.VEH_DECIDEn [o.1] v ∧ s.decisionMatches o v.toNat = true ∧ F.VEH_DECIDEn_KIND.get v.toNat = 1 ∧ (s.veh.relay[o]).kind = 1 ∧ (s.so o).sid.isSome = true ∧ (s.so o).ended = false ∧ (s.so o).stopped = false ∧ F.VEH_DECIDEn_OUTCOME.get v.toNat ≤ 1) ∧
    (∃ (sid : Sid) (o : Output) (v : W64) (h : Session) (s : State), s.Granted sid h R.VEH_DECIDEn [o.1] v ∧ s.decisionMatches o v.toNat = true ∧ F.VEH_DECIDEn_KIND.get v.toNat = 1 ∧ (s.veh.relay[o]).kind = 1 ∧ (s.so o).sid.isSome = true ∧ (s.so o).ended = false ∧ (s.so o).stopped = false ∧ F.VEH_DECIDEn_OUTCOME.get v.toNat ≤ 1) ∧
    (∃ (sid : Sid) (o : Output) (v : W64) (h : Session) (s : State), s.Granted sid h R.VEH_DECIDEn [o.1] v ∧ F.VEH_DECIDEn_KIND.get v.toNat = 1 ∧ F.VEH_DECIDEn_OUTCOME.get v.toNat = 2 ∧ (s.so o).sid.isSome = true ∧ F.VEH_DECIDEn_SID.get v.toNat = (s.so o).sidNat ∧ (s.so o).ended = false ∧ (s.so o).auth = 2 ∧ (s.so o).stopped = false) ∧
    (∃ (sid : Sid) (o : Output) (v : W64) (h : Session) (s : State), s.Granted sid h R.VEH_DECIDEn [o.1] v ∧ s.decisionMatches o v.toNat = true ∧ F.VEH_DECIDEn_KIND.get v.toNat = 2 ∧ 2 ≤ (s.veh.relay[o]).kind) ∧
    (∃ (sid : Sid) (o : Output) (v : W64) (h : Session) (s : State), s.Granted sid h R.VEH_DECIDEn [o.1] v ∧ s.decisionMatches o v.toNat = true ∧ F.VEH_DECIDEn_KIND.get v.toNat = 2 ∧ 2 ≤ (s.veh.relay[o]).kind) ∧
    (∃ (c : Instr) (sid : Sid) (o : Output) (v : W64) (h : Session) (s : State), s.Granted sid h R.VEH_DECIDEn [o.1] v ∧ c ∈ [.vehDecideAuthorisation sid o v, .vehDecideWithdraw sid o v, .vehDecideRelayResponse sid o v] ∧ ((s.decisionMatches o v.toNat = false ∧ ¬(F.VEH_DECIDEn_KIND.get v.toNat = 1 ∧ F.VEH_DECIDEn_OUTCOME.get v.toNat = 2)) ∨ (F.VEH_DECIDEn_KIND.get v.toNat = 1 ∧ F.VEH_DECIDEn_OUTCOME.get v.toNat = 2 ∧ ((s.so o).sid = none ∨ F.VEH_DECIDEn_SID.get v.toNat ≠ (s.so o).sidNat)))) ∧
    (∃ (c : Instr) (sid : Sid) (o : Output) (v : W64) (h : Session) (s : State), s.Granted sid h R.VEH_DECIDEn [o.1] v ∧ c ∈ [.vehDecideAuthorisation sid o v, .vehDecideWithdraw sid o v, .vehDecideRelayResponse sid o v] ∧ ((s.decisionMatches o v.toNat = false ∧ ¬(F.VEH_DECIDEn_KIND.get v.toNat = 1 ∧ F.VEH_DECIDEn_OUTCOME.get v.toNat = 2)) ∨ (F.VEH_DECIDEn_KIND.get v.toNat = 1 ∧ F.VEH_DECIDEn_OUTCOME.get v.toNat = 2 ∧ ((s.so o).sid = none ∨ F.VEH_DECIDEn_SID.get v.toNat ≠ (s.so o).sidNat)))) ∧
    (∃ (c : Instr) (sid : Sid) (o : Output) (v : W64) (h : Session) (s : State), s.Granted sid h R.VEH_DECIDEn [o.1] v ∧ c ∈ [.vehDecideAuthorisation sid o v, .vehDecideWithdraw sid o v, .vehDecideRelayResponse sid o v] ∧ ((s.decisionMatches o v.toNat = false ∧ ¬(F.VEH_DECIDEn_KIND.get v.toNat = 1 ∧ F.VEH_DECIDEn_OUTCOME.get v.toNat = 2)) ∨ (F.VEH_DECIDEn_KIND.get v.toNat = 1 ∧ F.VEH_DECIDEn_OUTCOME.get v.toNat = 2 ∧ ((s.so o).sid = none ∨ F.VEH_DECIDEn_SID.get v.toNat ≠ (s.so o).sidNat)))) ∧
    (∃ (sid : Sid) (w0 w1 v : W64) (h : Session) (s : State) (k : Nat), s.Granted sid h R.VEH_LISTWk [2] v ∧ s.mayWriteAt sid h R.VEH_LISTWk [0] w0.toNat = true ∧ s.mayWriteAt sid h R.VEH_LISTWk [1] w1.toNat = true ∧ F.VEH_LISTWk_OP.get v.toNat = 1 ∧ k = w0.toNat + w1.toNat * 2 ^ 64 ∧ (s.veh.list.filter (fun e => e.hash != k)).length < 4096) ∧
    (∃ (sid : Sid) (w0 w1 v : W64) (h : Session) (s : State) (k : Nat), s.Granted sid h R.VEH_LISTWk [2] v ∧ s.mayWriteAt sid h R.VEH_LISTWk [0] w0.toNat = true ∧ s.mayWriteAt sid h R.VEH_LISTWk [1] w1.toNat = true ∧ F.VEH_LISTWk_OP.get v.toNat = 1 ∧ k = w0.toNat + w1.toNat * 2 ^ 64 ∧ (s.veh.list.filter (fun e => e.hash != k)).length < 4096) ∧
    (∃ (sid : Sid) (w0 w1 v : W64) (h : Session) (s : State), s.Granted sid h R.VEH_LISTWk [2] v ∧ s.mayWriteAt sid h R.VEH_LISTWk [0] w0.toNat = true ∧ s.mayWriteAt sid h R.VEH_LISTWk [1] w1.toNat = true ∧ F.VEH_LISTWk_OP.get v.toNat = 1 ∧ 4096 ≤ (s.veh.list.filter (fun e => e.hash != w0.toNat + w1.toNat * 2 ^ 64)).length) ∧
    (∃ (sid : Sid) (w0 w1 v : W64) (h : Session) (s : State), s.Granted sid h R.VEH_LISTWk [2] v ∧ s.mayWriteAt sid h R.VEH_LISTWk [0] w0.toNat = true ∧ s.mayWriteAt sid h R.VEH_LISTWk [1] w1.toNat = true ∧ F.VEH_LISTWk_OP.get v.toNat = 2) ∧
    (∃ (sid : Sid) (v : W64) (h : Session) (s : State), s.Granted sid h R.VEH_LISTWk [2] v ∧ F.VEH_LISTWk_OP.get v.toNat = 3) ∧
    (∃ (sid : Sid) (hi : Bool) (v : W64) (h : Session) (s : State), s.Granted sid h R.VEH_LIST_SALTk [b2n hi] v) :=
  ⟨⟨0, { type := 1, identity := [1#8], contract := false, chainOk := true }, ((vhost 2 .link).using_ R.VEH_AUTHCFG [] F.VEH_AUTHCFG_EIM 1), linked_of (by decide +kernel), by decide +kernel⟩,
    ⟨0, { type := 1, identity := [1#8], contract := false, chainOk := true }, ((veh .link).using_ R.VEH_AUTHCFG [] F.VEH_AUTHCFG_EIM 1), linked_of (by decide +kernel), by decide +kernel⟩,
    ⟨0, { type := 1, identity := [1#8], contract := false, chainOk := true }, (((vhost 2 .link).using_ R.VEH_AUTHCFG [] F.VEH_AUTHCFG_EIM 1).using_ R.VEH_AUTHCFG [] F.VEH_AUTHCFG_LIST_FIRST 1), linked_of (by decide +kernel), by decide +kernel⟩,
    ⟨0, 100000000000, ((veh .link).onVeh (fun v => { v with relay := upd v.relay 0 (fun r => { r with kind := 1, deadline := some 100000000000 }) })), by decide +kernel⟩,
    ⟨0, 100000000000, ((veh .specReady).onVeh (fun v => { v with relay := upd v.relay 0 (fun r => { r with kind := 1, deadline := some 100000000000 }) })), by decide +kernel⟩,
    ⟨1, 0, (w64 (2 + 64 + 256 + 9 * 65536)), (ses 2), ((vhost 2 .link).asking 1), granted_of (by decide +kernel), by decide +kernel⟩,
    ⟨1, 0, (w64 (2 + 64 + 0 + 9 * 65536)), (ses 2), ((vhost 2 .specReady).asking 1), granted_of (by decide +kernel), by decide +kernel⟩,
    ⟨1, 0, (w64 (2 + 64 + 512)), (ses 2), ((vhost 2 .charging).onSo 0 (fun q => { q with auth := 2 })), granted_of (by decide +kernel), by decide +kernel⟩,
    ⟨1, 0, (w64 (2 + 128 + 9 * 65536)), (ses 2), ((vhost 2 .charging).asking 4), granted_of (by decide +kernel), by decide +kernel⟩,
    ⟨1, 0, (w64 (2 + 128 + 9 * 65536)), (ses 2), ((vhost 2 .charging).asking 2), granted_of (by decide +kernel), by decide +kernel⟩,
    ⟨(.vehDecideAuthorisation 1 0 (w64 (2 + 64 + 8 * 65536))), 1, 0, (w64 (2 + 64 + 8 * 65536)), (ses 2), ((vhost 2 .link).asking 1), granted_of (by decide +kernel), by decide +kernel⟩,
    ⟨(.vehDecideRelayResponse 1 0 (w64 (2 + 128 + 8 * 65536))), 1, 0, (w64 (2 + 128 + 8 * 65536)), (ses 2), ((vhost 2 .link).asking 1), granted_of (by decide +kernel), by decide +kernel⟩,
    ⟨(.vehDecideWithdraw 1 0 (w64 (2 + 64 + 8 * 65536))), 1, 0, (w64 (2 + 64 + 8 * 65536)), (ses 2), ((vhost 2 .link).asking 1), granted_of (by decide +kernel), by decide +kernel⟩,
    ⟨1, 5, 0, (w64 (F.VEH_LISTWk_OP.set 0 1)), (ses 2), (host 2), 5, granted_of (by decide +kernel), by decide +kernel⟩,
    ⟨1, 5, 0, (w64 (F.VEH_LISTWk_OP.set 0 1)), (ses 2), ((host 2).onVeh (fun v => { v with list := (List.range 4096).map (fun k => ⟨k, false, 0⟩) })), 5, granted_of (by decide +kernel), by decide +kernel⟩,
    ⟨1, 5000, 0, (w64 (F.VEH_LISTWk_OP.set 0 1)), (ses 2), ((host 2).onVeh (fun v => { v with list := (List.range 4096).map (fun k => ⟨k, false, 0⟩) })), granted_of (by decide +kernel), by decide +kernel⟩,
    ⟨1, 5, 0, (w64 (F.VEH_LISTWk_OP.set 0 2)), (ses 2), ((host 2).onVeh (fun v => { v with list := (List.range 6).map (fun k => ⟨k, false, 0⟩) })), granted_of (by decide +kernel), by decide +kernel⟩,
    ⟨1, (w64 (F.VEH_LISTWk_OP.set 0 3)), (ses 2), ((host 2).onVeh (fun v => { v with list := (List.range 6).map (fun k => ⟨k, false, 0⟩) })), granted_of (by decide +kernel), by decide +kernel⟩,
    ⟨1, true, 77, (ses 2), ((host 2).onVeh (fun v => { v with list := (List.range 6).map (fun k => ⟨k, false, 0⟩) })), granted_of (by decide +kernel)⟩⟩

/-- States and operands that meet the hypotheses of `SequencerTimersAndCommands`, clause by clause. -/
theorem test_wit_SequencerTimersAndCommands :
    (∃ (o : Output) (s : State), (s.so o).state = .lock ∧ s.inStateUs o 2000000 = true) ∧
    (∃ (o : Output) (s : State), (s.so o).state = .rollback ∧ s.inStateUs o 1000000 = true) ∧
    (∃ (o : Output) (s : State), (s.so o).state = .specReady ∧ s.inStateUs o 60000000 = true) ∧
    (∃ (o : Output) (x : Nat) (s : State), (s.so o).startTb = some x ∧ x + 240 * tbSecond ≤ s.clock.tb ∧ (s.so o).auth ≤ 1 ∧ (s.so o).stopped = false ∧ (s.so o).ended = false ∧ (s.so o).sid.isSome = true) ∧
    (∃ (o : Output) (x : Nat) (s : State), (s.so o).startTb = some x ∧ x + 240 * tbSecond ≤ s.clock.tb ∧ (s.so o).auth ≤ 1 ∧ (s.so o).stopped = false ∧ (s.so o).ended = false ∧ (s.so o).sid.isSome = true) ∧
    (∃ (o : Output) (s : State), isDc o = true ∧ (s.so o).state = .charging ∧ (∃ x, (s.so o).zeroAllocTb = some x ∧ x + tbSecond ≤ s.clock.tb)) ∧
    (∃ (o : Output) (s : State), isDc o = false ∧ (s.so o).state = .paused ∧ (s.veh.pilots[o]).state = 1 ∧ max (s.veh.pilots[o]).tb (s.so o).enterTb + 60 * tbSecond ≤ s.clock.tb) ∧
    (∃ (c : Instr) (o : Output) (s : State), (s.so o).state = .stopping ∧ ((c = .stoppingTimeout o ∧ isDc o = true ∧ s.inStateUs o 1000000 = true) ∨ (c = .acStopTimeout o ∧ isDc o = false ∧ s.inStateUs o 3000000 = true) ∨ (∃ ma : Int, c = .stopCurrentLow o ma ∧ isDc o = true ∧ ma.natAbs < 5000))) ∧
    (∃ (c : Instr) (o : Output) (s : State), (s.so o).state = .stopping ∧ ((c = .stoppingTimeout o ∧ isDc o = true ∧ s.inStateUs o 1000000 = true) ∨ (c = .acStopTimeout o ∧ isDc o = false ∧ s.inStateUs o 3000000 = true) ∨ (∃ ma : Int, c = .stopCurrentLow o ma ∧ isDc o = true ∧ ma.natAbs < 5000))) ∧
    (∃ (c : Instr) (o : Output) (s : State), (s.so o).state = .stopping ∧ ((c = .stoppingTimeout o ∧ isDc o = true ∧ s.inStateUs o 1000000 = true) ∨ (c = .acStopTimeout o ∧ isDc o = false ∧ s.inStateUs o 3000000 = true) ∨ (∃ ma : Int, c = .stopCurrentLow o ma ∧ isDc o = true ∧ ma.natAbs < 5000))) ∧
    (∃ (o : Output) (x : Nat) (s : State), (s.so o).fiveUntil = some x ∧ x ≤ s.clock.tb) ∧
    (∃ (o : Output) (x : Nat) (s : State), (s.so o).zeroCapTb = some x ∧ x + 30 * tbSecond ≤ s.clock.tb ∧ s.sharing o = true) ∧
    (∃ (o : Output) (x : Nat) (s : State), (s.so o).postRun = some x ∧ x ≤ s.clock.tb ∧ (s.so o).state.energised = false) ∧
    (∃ (x : Nat) (s : State), s.guard.degraded = some x ∧ x + 5280 * tbSecond ≤ s.clock.tb) ∧
    (∃ (s : State), s.seqr.suspended = true) ∧
    (∃ (sid : Sid) (v w : W64) (h : Session) (s : State), w = F.SEQ_CMD_OP.put v 1 ∧ s.Granted sid h R.SEQ_CMD [] w) ∧
    (∃ (sid : Sid) (v w : W64) (h : Session) (s : State), w = F.SEQ_CMD_OP.put v 1 ∧ s.Granted sid h R.SEQ_CMD [] w) ∧
    (∃ (sid : Sid) (v w : W64) (h : Session) (s : State), w = F.SEQ_CMD_OP.put v 2 ∧ s.Granted sid h R.SEQ_CMD [] w) ∧
    (∃ (sid : Sid) (v w : W64) (h : Session) (s : State), w = F.SEQ_CMD_OP.put v 2 ∧ s.Granted sid h R.SEQ_CMD [] w) ∧
    (∃ (sid : Sid) (v w : W64) (h : Session) (o : Fin 6) (s : State), w = F.SEQ_CMD_OP.put v 3 ∧ s.Granted sid h R.SEQ_CMD [] w ∧ F.SEQ_CMD_OUTPUTS.get w.toNat = 2 ^ o.1) ∧
    (∃ (sid : Sid) (v w : W64) (h : Session) (o : Fin 6) (s : State), w = F.SEQ_CMD_OP.put v 3 ∧ s.Granted sid h R.SEQ_CMD [] w ∧ F.SEQ_CMD_OUTPUTS.get w.toNat = 2 ^ o.1) ∧
    (∃ (sid : Sid) (v w : W64) (h : Session) (o : Fin 6) (s : State), w = F.SEQ_CMD_OP.put v 3 ∧ s.Granted sid h R.SEQ_CMD [] w ∧ F.SEQ_CMD_OUTPUTS.get w.toNat = 2 ^ o.1) ∧
    (∃ (sid : Sid) (v w : W64) (h : Session) (s : State), w = F.SEQ_CMD_OP.put v 4 ∧ s.Granted sid h R.SEQ_CMD [] w) ∧
    (∃ (sid : Sid) (v w : W64) (h : Session) (s : State), w = F.SEQ_CMD_OP.put v 4 ∧ s.Granted sid h R.SEQ_CMD [] w) ∧
    (∃ (sid : Sid) (v w : W64) (h : Session) (s : State), w = F.SEQ_CMD_OP.put v 5 ∧ s.Granted sid h R.SEQ_CMD [] w) ∧
    (∃ (s : State) (x : Int) (w : Nat) (r : List (Int × Nat)), s.seqr.raise = (x, w) :: r ∧ w ≤ s.clock.tb) ∧
    (∃ (s : State), s.fld R.SEQ_GUARD_CFG F.SEQ_GUARD_CFG_SHARE [] = 1 ∧ s.claimers = []) :=
  ⟨⟨0, (veh .lock), by decide +kernel⟩,
    ⟨0, (veh .rollback), by decide +kernel⟩,
    ⟨0, ((veh .specReady).onSo 0 (fun q => { q with enterTb := 98500000000 })), by decide +kernel⟩,
    ⟨0, 94000000000, ((veh .link).onSo 0 (fun q => { q with startTb := some 94000000000 })), by decide +kernel⟩,
    ⟨0, 94000000000, ((veh .waitUnplug).onSo 0 (fun q => { q with startTb := some 94000000000 })), by decide +kernel⟩,
    ⟨0, ((veh .charging).onSo 0 (fun q => { q with zeroAllocTb := some 99975000000 })), by decide +kernel⟩,
    ⟨4, (((veh .charging).onSo 4 (fun q => { q with state := .paused, enterTb := 98500000000 })).onPilot 4 (fun p => { p with state := 1 })), by decide +kernel⟩,
    ⟨(.stoppingTimeout 0), 0, (veh .stopping), by decide +kernel, Or.inl ⟨rfl, by decide +kernel⟩⟩,
    ⟨(.acStopTimeout 4), 4, ((veh .charging).onSo 4 (fun q => { q with state := .stopping })), by decide +kernel, Or.inr (Or.inl ⟨rfl, by decide +kernel⟩)⟩,
    ⟨(.stopCurrentLow 0 (-4999)), 0, (veh .stopping), by decide +kernel, Or.inr (Or.inr ⟨-4999, rfl, by decide +kernel⟩)⟩,
    ⟨0, 99000000000, ((veh .link).onSo 0 (fun q => { q with fiveUntil := some 99000000000 })), by decide +kernel⟩,
    ⟨0, 99000000000, ((veh .paused).onSo 0 (fun q => { q with zeroCapTb := some 99000000000 })), by decide +kernel⟩,
    ⟨0, 99000000000, ((veh .idle).onSo 0 (fun q => { q with postRun := some 99000000000 })), by decide +kernel⟩,
    ⟨0, (((veh .charging).onGuard (fun g => { g with degraded := some 0 })).onClock (fun c => { c with tb := 132000000000 })), by decide +kernel⟩,
    ⟨((veh .charging).onSeqr (fun q => { q with suspended := true })), by decide +kernel⟩,
    ⟨1, 63, (F.SEQ_CMD_OP.put 63 1), (ses 2), (vhost 2 .charging), rfl, granted_of (by decide +kernel)⟩,
    ⟨1, 62, (F.SEQ_CMD_OP.put 62 1), (ses 2), (vhost 2 .charging), rfl, granted_of (by decide +kernel)⟩,
    ⟨1, 1, (F.SEQ_CMD_OP.put 1 2), (ses 2), (vhost 2 .waitUnplug), by decide +kernel, granted_of (by decide +kernel)⟩,
    ⟨1, 1, (F.SEQ_CMD_OP.put 1 2), (ses 2), ((((vhost 2 .waitUnplug).using_ R.SEQ_CFGn [0] F.SEQ_CFGn_LOCK_LS 4).using_ R.LSW_CFGn [4] F.LSW_CFGn_MODE 5).using_ R.LSW_CFGn [5] F.LSW_CFGn_MODE 5), by decide +kernel, granted_of (by decide +kernel)⟩,
    ⟨1, 1, (F.SEQ_CMD_OP.put 1 3), (ses 2), 0, ((vhost 2 .waitUnplug).onGo 0 (fun g => { g with latch := some 5 })), by decide +kernel, granted_of (by decide +kernel), by decide +kernel⟩,
    ⟨1, 1, (F.SEQ_CMD_OP.put 1 3), (ses 2), 0, ((vhost 2 .waitUnplug).onGo 0 (fun g => { g with latch := some 2 })), by decide +kernel, granted_of (by decide +kernel), by decide +kernel⟩,
    ⟨1, 1, (F.SEQ_CMD_OP.put 1 3), (ses 2), 0, ((vhost 2 .fault).onGo 0 (fun g => { g with latch := some 1 })), by decide +kernel, granted_of (by decide +kernel), by decide +kernel⟩,
    ⟨1, 1, (F.SEQ_CMD_OP.put 1 4), (ses 2), (vhost 2 .idle), by decide +kernel, granted_of (by decide +kernel)⟩,
    ⟨1, 1, (F.SEQ_CMD_OP.put 1 4), (ses 2), (vhost 2 .charging), by decide +kernel, granted_of (by decide +kernel)⟩,
    ⟨1, 1, (F.SEQ_CMD_OP.put 1 5), (ses 2), ((vhost 2 .unavailable).onSo 0 (fun q => { q with blocked := true })), by decide +kernel, granted_of (by decide +kernel)⟩,
    ⟨(live.onSeqr (fun q => { q with raise := [(5, 100000000000)] })), 5, 100000000000, [], by decide +kernel⟩,
    ⟨((veh .charging).using_ R.SEQ_GUARD_CFG [] F.SEQ_GUARD_CFG_SHARE 1), by decide +kernel⟩⟩

/-- States and operands that meet the hypotheses of `VoltageUnpluggingAndCabinets`, clause by clause. -/
theorem test_wit_VoltageUnpluggingAndCabinets :
    (∃ (o : Output) (mv x : Nat) (s : State), (s.so o).state = .precharge ∧ (s.so o).target = some x ∧ (diffInt mv x).natAbs ≤ 10000) ∧
    (∃ (o : Output) (mv x : Nat) (s : State), (s.so o).state = .precharge ∧ (s.so o).target = some x ∧ (diffInt mv x).natAbs ≤ 10000) ∧
    (∃ (o : Output) (mv : Nat) (s : State), (s.so o).state = .specPrecharge ∧ (diffInt mv (1000 * s.useFld R.SEQ_CFGn F.SEQ_CFGn_PRECHARGE_HINT [o.1])).natAbs ≤ 10000) ∧
    (∃ (o : Output) (mv : Nat) (s : State), mv < 60000 ∧ ((s.so o).state = .fault ∨ ((s.so o).state = .rollback ∧ (s.so o).toLink = false))) ∧
    (∃ (o : Output) (mv : Nat) (s : State), mv < 60000 ∧ ((s.so o).state = .fault ∨ ((s.so o).state = .rollback ∧ (s.so o).toLink = false))) ∧
    (∃ (o : Output) (mv : Nat) (s : State), mv < 60000 ∧ (s.so o).state = .rollback ∧ (s.so o).toLink = true ∧ (s.so o).auth ≤ 1 ∧ (s.so o).holdUsed = true) ∧
    (∃ (o : Output) (mv : Nat) (s : State), mv < 60000 ∧ (s.so o).state ≠ .rollback ∧ (s.so o).state ≠ .fault ∧ (s.veh.pilots[o]).drive = .minus12) ∧
    (∃ (o : Output) (i : Fin 64) (s : State), (s.so o).state = .waitUnplug ∧ s.pilotALong o = true ∧ (s.so o).sid = some i ∧ s.sidUse i ≠ .free) ∧
    (∃ (k : CabNo) (netB : Bool) (fr : Bytes) (s : State) (f : Nat → Nat → Nat), (f = fun off n => ofLE ((fr.drop off).take n)) ∧ fr.length = 32 ∧ f 28 4 = crc32c (fr.take 28) ∧ ((s.seqr.cabs[k]).seq = none ∨ ∃ l, (s.seqr.cabs[k]).seq = some l ∧ 1 ≤ (f 0 4 + 2 ^ 32 - l) % 2 ^ 32 ∧ (f 0 4 + 2 ^ 32 - l) % 2 ^ 32 ≤ 2 ^ 31)) ∧
    (∃ (k : CabNo) (netB : Bool) (fr : Bytes) (s : State) (f : Nat → Nat → Nat), (f = fun off n => ofLE ((fr.drop off).take n)) ∧ fr.length = 32 ∧ f 28 4 = crc32c (fr.take 28) ∧ ((s.seqr.cabs[k]).seq = none ∨ ∃ l, (s.seqr.cabs[k]).seq = some l ∧ 1 ≤ (f 0 4 + 2 ^ 32 - l) % 2 ^ 32 ∧ (f 0 4 + 2 ^ 32 - l) % 2 ^ 32 ≤ 2 ^ 31)) ∧
    (∃ (k : CabNo) (netB : Bool) (fr : Bytes) (s : State), ofLE ((fr.drop 28).take 4) ≠ crc32c (fr.take 28)) ∧
    (∃ (c : Instr) (k : CabNo) (s : State), (s.seqr.cabs[k]).lost = false ∧ ((c = .cabinetLost k ∧ ((onWithin (s.seqr.cabs[k]).aTb s.clock.tb = false ∧ onWithin (s.seqr.cabs[k]).bTb s.clock.tb = false) ∨ (s.seqr.cabs[k]).state = 5)) ∨ (c = .cabinetStartTimeout k ∧ ∃ x, (s.seqr.cabs[k]).activeTb = some x ∧ x + 5 * tbSecond ≤ s.clock.tb))) ∧
    (∃ (c : Instr) (k : CabNo) (s : State), (s.seqr.cabs[k]).lost = false ∧ ((c = .cabinetLost k ∧ ((onWithin (s.seqr.cabs[k]).aTb s.clock.tb = false ∧ onWithin (s.seqr.cabs[k]).bTb s.clock.tb = false) ∨ (s.seqr.cabs[k]).state = 5)) ∨ (c = .cabinetStartTimeout k ∧ ∃ x, (s.seqr.cabs[k]).activeTb = some x ∧ x + 5 * tbSecond ≤ s.clock.tb))) :=
  ⟨⟨0, 410000, 400000, ((veh .precharge).onSo 0 (fun q => { q with target := some 400000 })), by decide +kernel⟩,
    ⟨0, 390000, 400000, ((veh .precharge).onSo 0 (fun q => { q with target := some 400000 })), by decide +kernel⟩,
    ⟨0, 410000, (((veh .specPrecharge)).using_ R.SEQ_CFGn [0] F.SEQ_CFGn_PRECHARGE_HINT 400), by decide +kernel⟩,
    ⟨0, 59999, (veh .fault), by decide +kernel⟩,
    ⟨0, 59999, (veh .rollback), by decide +kernel⟩,
    ⟨0, 59999, ((veh .rollback).onSo 0 (fun q => { q with toLink := true, holdUsed := true })), by decide +kernel⟩,
    ⟨0, 2, ((veh .waitUnplug).onPilot 0 (fun p => { p with drive := .minus12 })), by decide +kernel⟩,
    ⟨0, 2, ((veh .waitUnplug).onPilot 0 (fun p => { p with state := 0, tb := 99960000000 })), by decide +kernel⟩,
    ⟨1, false, (cabFrame 7), (veh .charging), (fun off n => ofLE (((cabFrame 7).drop off).take n)), rfl, by decide +kernel, by decide +kernel, by decide +kernel⟩,
    ⟨1, true, (cabFrame 7), ((veh .charging).onSeqr (fun q => { q with cabs := upd q.cabs 1 (fun c => { c with seq := some 6 }) })), (fun off n => ofLE (((cabFrame 7).drop off).take n)), rfl, by decide +kernel, by decide +kernel, Or.inr ⟨6, by decide +kernel⟩⟩,
    ⟨1, true, (List.replicate 32 1#8), (veh .charging), by decide +kernel⟩,
    ⟨(.cabinetLost 1), 1, (veh .charging), by decide +kernel⟩,
    ⟨(.cabinetStartTimeout 1), 1, ((veh .charging).onSeqr (fun q => { q with cabs := upd q.cabs 1 (fun c => { c with activeTb := some 99875000000 }) })), by decide +kernel⟩⟩

/-- States and operands that meet the hypotheses of `DivisionStaysInTheBudget`, clause by clause. -/
theorem test_wit_DivisionStaysInTheBudget :
    (∃ (l : List Claimant) (b : Int), 0 ≤ b ∧ (∀ c ∈ l, 0 ≤ c.d ∧ 0 ≤ c.floor ∧ c.a = 0)) ∧
    (∃ (l : List Claimant) (b : Int), 0 ≤ b ∧ (∀ c ∈ l, 0 ≤ c.d ∧ 0 ≤ c.floor ∧ c.a = 0)) ∧
    (∃ (l : List Claimant) (b : Int), 0 ≤ b ∧ (∀ c ∈ l, 0 ≤ c.d ∧ 0 ≤ c.floor ∧ c.a = 0)) :=
  ⟨⟨[⟨1, 0, 10, 3, 0⟩, ⟨2, 0, 20, 3, 0⟩, ⟨3, 1, 7, 9, 0⟩], 17, by decide +kernel⟩,
    ⟨[⟨1, 0, 10, 3, 0⟩, ⟨2, 0, 20, 3, 0⟩, ⟨3, 1, 7, 9, 0⟩], 1700, by decide +kernel⟩,
    ⟨[⟨1, 0, 10, 3, 0⟩, ⟨2, 0, 20, 3, 0⟩, ⟨3, 1, 7, 9, 0⟩], 2, by decide +kernel⟩⟩

/-- States and operands that meet the hypotheses of `FireguardFaults`, clause by clause. -/
theorem test_wit_FireguardFaults :
    (∃ (s : State), s.guard.laneOk = true ∧ s.guard.laneTb + 25000 ≤ s.clock.tb) ∧
    (∃ (s : State), s.guard.laneOk = true ∧ s.guard.laneTb + 25000 ≤ s.clock.tb) ∧
    (∃ (s : State), s.guard.laneOk = false ∧ 48000 ≤ s.guard.laneRun) ∧
    (∃ (s : State), s.guard.clockOk = true ∧ (s.anyHv = true ∨ s.guard.safe = none)) ∧
    (∃ (s : State), s.guard.clockOk = true ∧ (s.anyHv = true ∨ s.guard.safe = none)) ∧
    (∃ (s : State), s.guard.hold = none) ∧
    (∃ (s : State), s.guard.hold.isSome = true ∧ s.guard.holdExpired = false) ∧
    (∃ (x : Nat) (s : State), s.guard.hold = some x ∧ x + 7500000 ≤ s.clock.tb ∧ s.guard.holdExpired = false ∧ (s.anyHv = true ∨ s.guard.safe = none)) ∧
    (∃ (x : Nat) (s : State), s.guard.hold = some x ∧ x + 7500000 ≤ s.clock.tb ∧ s.guard.holdExpired = false ∧ (s.anyHv = true ∨ s.guard.safe = none)) ∧
    (∃ (c : FgCause) (s : State), s.guard.safe = none) ∧
    (∃ (c : FgCause) (s : State), s.guard.safe = none) :=
  ⟨⟨(hot .charging), by decide +kernel⟩,
    ⟨(veh .idle), by decide +kernel⟩,
    ⟨(live.onGuard (fun g => { g with laneOk := false, laneRun := 48000 })), by decide +kernel⟩,
    ⟨(hot .charging), by decide +kernel⟩,
    ⟨(veh .idle), by decide +kernel⟩,
    ⟨live, by decide +kernel⟩,
    ⟨(live.onGuard (fun g => { g with hold := some 5 })), by decide +kernel⟩,
    ⟨99992500000, ((hot .charging).onGuard (fun g => { g with hold := some 99992500000 })), by decide +kernel⟩,
    ⟨99992500000, ((veh .idle).onGuard (fun g => { g with hold := some 99992500000 })), by decide +kernel⟩,
    ⟨.watchdog, (hot .charging), by decide +kernel⟩,
    ⟨.lockstep, (veh .idle), by decide +kernel⟩⟩

/-- States and operands that meet the hypotheses of `HvEnRisesOnlyWhenAllHolds`, clause by clause. -/
theorem test_wit_HvEnRisesOnlyWhenAllHolds :
    (∃ (o : Output) (s : State), (s.go o).hv = false ∧ s.has o = true) ∧
    (∃ (o : Output) (s : State), (s.go o).hv = false ∧ s.has o = true) ∧
    (∃ (o : Output) (s : State), (s.go o).hv = false ∧ s.has o = true) :=
  ⟨⟨0, (veh .charging), by decide +kernel⟩,
    ⟨4, (veh .charging), by decide +kernel⟩,
    ⟨4, (ready4), by decide +kernel⟩⟩

/-- States and operands that meet the hypotheses of `SafeOffAndTheGuardInput`, clause by clause. -/
theorem test_wit_SafeOffAndTheGuardInput :
    (∃ (o : Output) (ma : Int) (s : State) (x : SafeOff), s.currentLow o ma = true ∧ s.guard.safe = some x ∧ bitOf x.left o.1 = true) ∧
    (∃ (o : Output) (ma : Int) (s : State) (x : SafeOff), s.currentLow o ma = true ∧ s.guard.safe = some x ∧ bitOf x.left o.1 = true) ∧
    (∃ (s : State) (x : SafeOff), s.guard.safe = some x ∧ (x.startTb + 1250000 ≤ s.clock.tb ∨ s.clock.run = false) ∧ 0 < x.left ∧ x.left < 64) ∧
    (∃ (a b : Bool) (s : State), ¬(a = s.guard.levelA ∧ b = s.guard.levelB)) ∧
    (∃ (a b : Bool) (s : State), ¬(a = s.guard.levelA ∧ b = s.guard.levelB)) ∧
    (∃ (s : State), s.guard.levelA = s.guard.levelB ∧ s.guard.levelTb + 1250000 < s.clock.tb ∧ s.guard.fault = false) ∧
    (∃ (s : State), s.guard.tested = false ∧ s.guard.seenOpen = true ∧ s.doorClosed = true ∧ s.guard.fault = false ∧ s.guard.levelTb + 2500000 ≤ s.clock.tb) :=
  ⟨⟨0, (-4999), ((hot .charging).onGuard (fun g => { g with laneTb := 99999999000, safe := some ⟨5, 1, 1, 99999000000, none⟩ })), ⟨5, 1, 1, 99999000000, none⟩, by decide +kernel⟩,
    ⟨0, (-4999), (((hot .charging).onGo 1 (fun g => { g with hv := true })).onGuard (fun g => { g with laneTb := 99999999000, safe := some ⟨5, 3, 3, 99999000000, none⟩ })), ⟨5, 3, 3, 99999000000, none⟩, by decide +kernel⟩,
    ⟨((hot .charging).onGuard (fun g => { g with safe := some ⟨5, 1, 1, 99998750000, none⟩ })), ⟨5, 1, 1, 99998750000, none⟩, by decide +kernel⟩,
    ⟨false, true, (hot .charging), by decide +kernel⟩,
    ⟨true, false, door, by decide +kernel⟩,
    ⟨((hot .charging).onGuard (fun g => { g with levelB := true })), by decide +kernel⟩,
    ⟨(live.onGuard (fun g => { g with tested := false, seenOpen := true })), by decide +kernel⟩⟩

/-- States and operands that meet the hypotheses of `InsulationLeakageAndWelding`, clause by clause. -/
theorem test_wit_InsulationLeakageAndWelding :
    (∃ (n : DcNo) (s : State), s.isoRuns n = true ∧ (s.guard.iso[n]).halfTb + s.halfTicks n.1 ≤ s.clock.tb ∧ (s.guard.iso[n]).halfB = false) ∧
    (∃ (n : DcNo) (a : Int × Int × Bool) (s : State) (r : Option (Nat × Nat)) (v lvl : Nat), s.isoRuns n = true ∧ (s.guard.iso[n]).halfTb + s.halfTicks n.1 ≤ s.clock.tb ∧ (s.guard.iso[n]).halfB = true ∧ a = (s.guard.iso[n]).average ∧ (s.guard.iso[n]).okA = true ∧ a.2.2 = true ∧ r = isoResist (s.guard.iso[n]).upA (s.guard.iso[n]).umA a.1 a.2.1 (s.fld R.FG_ISOCFGn F.FG_ISOCFGn_RB_KOHM [n.1]) (s.fld R.FG_ISOLIMn F.FG_ISOLIMn_RDIV_KOHM [n.1]) ∧ v = (s.outRec (dcOut n)).volt ∧ lvl = isoLevel r (s.fld R.FG_ISOLIMn F.FG_ISOLIMn_WARN [n.1] * v) (s.fld R.FG_ISOLIMn F.FG_ISOLIMn_FAULT [n.1] * v)) ∧
    (∃ (n : DcNo) (s : State), s.isoRuns n = true ∧ (s.guard.iso[n]).halfTb + s.halfTicks n.1 ≤ s.clock.tb ∧ (s.guard.iso[n]).halfB = true ∧ ((s.guard.iso[n]).okA = false ∨ (s.guard.iso[n]).average.2.2 = false)) ∧
    (∃ (n : DcNo) (s : State), s.isoRuns n = true ∧ (s.guard.iso[n]).halfTb + s.halfTicks n.1 ≤ s.clock.tb ∧ (s.guard.iso[n]).halfB = true ∧ ((s.guard.iso[n]).okA = false ∨ (s.guard.iso[n]).average.2.2 = false)) ∧
    (∃ (n : DcNo) (mv : Nat) (s : State), (s.guard.iso[n]).check = 1 ∧ (s.guard.iso[n]).dwell = none ∧ (diffInt mv (1000 * (s.guard.iso[n]).checkV)).natAbs ≤ 10000) ∧
    (∃ (n : DcNo) (x : Nat) (s : State), (s.guard.iso[n]).check = 1 ∧ (s.guard.iso[n]).dwell = none ∧ (s.guard.iso[n]).firstCheckTb = some x ∧ x + 2 * tbSecond ≤ s.clock.tb) ∧
    (∃ (n : DcNo) (x : Nat) (s : State), (s.guard.iso[n]).check = 1 ∧ (s.guard.iso[n]).dwell = none ∧ (s.guard.iso[n]).firstCheckTb = some x ∧ x + 2 * tbSecond ≤ s.clock.tb) ∧
    (∃ (k : Outlet) (xs : List Int) (s : State), s.rcdConfigured k = true ∧ xs ≠ [] ∧ (s.guard.rcd[k]).window s.clock.tb (s.mainsTicks k) = xs.map some) ∧
    (∃ (k : Outlet) (xs : List Int) (s : State), s.rcdConfigured k = true ∧ xs ≠ [] ∧ (s.guard.rcd[k]).window s.clock.tb (s.mainsTicks k) = xs.map some) ∧
    (∃ (k : Outlet) (x : List (Option Int)) (s : State), s.rcdConfigured k = true ∧ x = (s.guard.rcd[k]).window s.clock.tb (s.mainsTicks k) ∧ (x = [] ∨ none ∈ x)) ∧
    (∃ (k : Outlet) (x : List (Option Int)) (s : State), s.rcdConfigured k = true ∧ x = (s.guard.rcd[k]).window s.clock.tb (s.mainsTicks k) ∧ (x = [] ∨ none ∈ x)) ∧
    (∃ (k : Outlet) (s : State), s.rcdConfigured k = true ∧ (s.guard.rcd[k]).testing = none ∧ (s.so (acOut k)).state.code ≤ 1 ∧ ((s.guard.rcd[k]).due = true ∨ ∀ b, (s.guard.rcd[k]).passTb = some b → b + 3600 * tbSecond ≤ s.clock.tb)) ∧
    (∃ (k : Outlet) (y : Nat) (x : List (Option Int)) (s : State), (s.guard.rcd[k]).testing = some y ∧ y + 2500000 ≤ s.clock.tb ∧ x = (s.guard.rcd[k]).window s.clock.tb 1250000) ∧
    (∃ (k : Outlet) (y : Nat) (x : List (Option Int)) (s : State), (s.guard.rcd[k]).testing = some y ∧ y + 2500000 ≤ s.clock.tb ∧ x = (s.guard.rcd[k]).window s.clock.tb 1250000) ∧
    (∃ (o : Output) (volts : WordList) (x : Nat) (s : State), (s.go o).gate = false ∧ (s.go o).openTb = some x ∧ x + 5000000 ≤ s.clock.tb) ∧
    (∃ (o : Output) (volts : WordList) (x : Nat) (s : State), (s.go o).gate = false ∧ (s.go o).openTb = some x ∧ x + 5000000 ≤ s.clock.tb) ∧
    (∃ (o : Output) (volts : WordList) (x : Nat) (s : State), (s.go o).gate = false ∧ (s.go o).openTb = some x ∧ x + 5000000 ≤ s.clock.tb) ∧
    (∃ (sid : Sid) (addr n : Nat) (v : W64) (h : Session) (r : RegSpec) (o : Fin 6) (s : State) (new : Nat), fgConfigOf addr = some (r, n, o) ∧ addr = r.addr [n] ∧ s.Granted sid h r [n] v ∧ new = fgClamp r (mergeMask (s.reg r [n]) v.toNat r.rwMask)) ∧
    (∃ (sid : Sid) (addr n : Nat) (v : W64) (h : Session) (r : RegSpec) (o : Fin 6) (s : State) (new : Nat), fgConfigOf addr = some (r, n, o) ∧ addr = r.addr [n] ∧ s.Granted sid h r [n] v ∧ new = fgClamp r (mergeMask (s.reg r [n]) v.toNat r.rwMask)) :=
  ⟨⟨0, ((iso .charging).onIso 0 (fun x => { x with sumUp := 4000000, sumUm := 3000000, frames := 10 })), by decide +kernel⟩,
    ⟨0, (300000, 400000, true), isoHalf, (isoResist 400000 300000 300000 400000 (isoHalf.fld R.FG_ISOCFGn F.FG_ISOCFGn_RB_KOHM [0]) (isoHalf.fld R.FG_ISOLIMn F.FG_ISOLIMn_RDIV_KOHM [0])), 1000, (isoLevel (isoResist 400000 300000 300000 400000 (isoHalf.fld R.FG_ISOCFGn F.FG_ISOCFGn_RB_KOHM [0]) (isoHalf.fld R.FG_ISOLIMn F.FG_ISOLIMn_RDIV_KOHM [0])) (isoHalf.fld R.FG_ISOLIMn F.FG_ISOLIMn_WARN [0] * 1000) (isoHalf.fld R.FG_ISOLIMn F.FG_ISOLIMn_FAULT [0] * 1000)), by decide +kernel⟩,
    ⟨0, (isoHalf.onIso 0 (fun x => { x with lapse := true })), by decide +kernel⟩,
    ⟨0, (isoHalf.onIso 0 (fun x => { x with okA := false, invalids := 2 })), by decide +kernel⟩,
    ⟨0, 1010000, ((iso .check).onIso 0 (fun x => { x with check := 1, checkV := 1000 })), by decide +kernel⟩,
    ⟨0, 99950000000, ((iso .check).onIso 0 (fun x => { x with check := 1, firstCheckTb := some 99950000000 })), by decide +kernel⟩,
    ⟨0, 99950000000, ((iso .specCheck).onIso 0 (fun x => { x with check := 1, firstCheckTb := some 99950000000 })), by decide +kernel⟩,
    ⟨0, [5, 60000], (ready4.onRcd 0 (fun r => { r with win := [(99999999999, some 5), (99999999000, some 60000)] })), by decide +kernel⟩,
    ⟨0, [0], (ready4.onRcd 0 (fun r => { r with win := [(99999999999, some 0)] })), by decide +kernel⟩,
    ⟨0, [], ready4, by decide +kernel⟩,
    ⟨0, [some 5, none], ((ready4.onSo 4 (fun q => { q with state := .charging })).onRcd 0 (fun r => { r with bad := 2, win := [(99999999999, some 5), (99999999998, none)] })), by decide +kernel⟩,
    ⟨0, (ready4.onRcd 0 (fun r => { r with due := true })), by decide +kernel⟩,
    ⟨0, 97500000000, [some 60000, some 60000], (ready4.onRcd 0 (fun r => { r with testing := some 97500000000, win := [(99999999999, some 60000), (99999999000, some 60000)] })), by decide +kernel⟩,
    ⟨0, 97500000000, [], (ready4.onRcd 0 (fun r => { r with testing := some 97500000000 })), by decide +kernel⟩,
    ⟨0, [1000, 2000], 99995000000, ((veh .weldcheck).onGo 0 (fun g => { g with openTb := some 99995000000 })), by decide +kernel⟩,
    ⟨4, [50000, 2000], 99995000000, (ready4.onGo 4 (fun g => { g with openTb := some 99995000000 })), by decide +kernel⟩,
    ⟨4, [49999, 2000], 99995000000, (ready4.onGo 4 (fun g => { g with openTb := some 99995000000 })), by decide +kernel⟩,
    ⟨1, (R.FG_ISOCFGn.addr [0]), 0, 5, (ses 2), R.FG_ISOCFGn, 0, (host 2), (fgClamp R.FG_ISOCFGn (mergeMask ((host 2).reg R.FG_ISOCFGn [0]) 5 R.FG_ISOCFGn.rwMask)), by decide +kernel, by decide +kernel, granted_of (by decide +kernel), by decide +kernel⟩,
    ⟨1, (R.FG_ISOCFGn.addr [0]), 0, 5, (ses 2), R.FG_ISOCFGn, 0, ((host 2).onGo 0 (fun g => { g with hv := true })), (fgClamp R.FG_ISOCFGn (mergeMask ((host 2).reg R.FG_ISOCFGn [0]) 5 R.FG_ISOCFGn.rwMask)), by decide +kernel, by decide +kernel, granted_of (by decide +kernel), by decide +kernel⟩⟩

/-- States and operands that meet the hypotheses of `SafetyNetworks`, clause by clause. -/
theorem test_wit_SafetyNetworks :
    (∃ (a b : Option Bytes) (s : State), s.guard.started = true) ∧
    (∃ (a b : Option Bytes) (s : State), s.guard.started = true) ∧
    (∃ (k : CabNo) (netB : Bool) (fr : Bytes) (s : State), s.guard.started = true ∧ s.namedCabs.contains k = true ∧ (copyValid fr (s.guard.last ⟨k.1, by omega⟩ netB) = true → s.ownOcLost k fr = [])) ∧
    (∃ (k : CabNo) (netB : Bool) (fr : Bytes) (s : State), s.guard.started = true ∧ s.namedCabs.contains k = true ∧ (copyValid fr (s.guard.last ⟨k.1, by omega⟩ netB) = true → s.ownOcLost k fr = [])) ∧
    (∃ (k : CabNo) (netB : Bool) (fr : Bytes) (s : State), (s.guard.started = false ∨ s.namedCabs.contains k = false)) ∧
    (∃ (k : CabNo) (netB : Bool) (fr : Bytes) (s : State), s.guard.started = true ∧ s.namedCabs.contains k = true ∧ copyValid fr (s.guard.last ⟨k.1, by omega⟩ netB) = true ∧ s.ownOcLost k fr ≠ []) ∧
    (∃ (c : Instr) (cause : Nat) (s : State), s.guard.degraded = none ∧ ((c = .networkMissing true ∧ cause = 2 ∧ 10 ≤ s.guard.missB) ∨ (c = .networkMissing false ∧ cause = 1 ∧ 10 ≤ s.guard.missA) ∨ (c = .networkDisagreement ∧ cause = 3 ∧ 3 ≤ (s.guard.disTbs.filter (fun x => decide (s.clock.tb < x + tbSecond))).length))) ∧
    (∃ (c : Instr) (cause : Nat) (s : State), s.guard.degraded = none ∧ ((c = .networkMissing true ∧ cause = 2 ∧ 10 ≤ s.guard.missB) ∨ (c = .networkMissing false ∧ cause = 1 ∧ 10 ≤ s.guard.missA) ∨ (c = .networkDisagreement ∧ cause = 3 ∧ 3 ≤ (s.guard.disTbs.filter (fun x => decide (s.clock.tb < x + tbSecond))).length))) ∧
    (∃ (c : Instr) (cause : Nat) (s : State), s.guard.degraded = none ∧ ((c = .networkMissing true ∧ cause = 2 ∧ 10 ≤ s.guard.missB) ∨ (c = .networkMissing false ∧ cause = 1 ∧ 10 ≤ s.guard.missA) ∨ (c = .networkDisagreement ∧ cause = 3 ∧ 3 ≤ (s.guard.disTbs.filter (fun x => decide (s.clock.tb < x + tbSecond))).length))) ∧
    (∃ (s : State), (10 ≤ s.guard.missOwn ∨ s.guard.degraded.isSome = true ∧ ((s.guard.degCause = 1 ∧ 10 ≤ s.guard.missB) ∨ (s.guard.degCause = 2 ∧ 10 ≤ s.guard.missA))) ∧ s.guard.netsLost = false ∧ (s.anyHv = true ∨ s.guard.safe = none)) ∧
    (∃ (s : State), (10 ≤ s.guard.missOwn ∨ s.guard.degraded.isSome = true ∧ ((s.guard.degCause = 1 ∧ 10 ≤ s.guard.missB) ∨ (s.guard.degCause = 2 ∧ 10 ≤ s.guard.missA))) ∧ s.guard.netsLost = false ∧ (s.anyHv = true ∨ s.guard.safe = none)) ∧
    (∃ (k : CabNo) (s : State), s.namedCabs.contains k = true ∧ (s.guard.cabs[k]).down = false ∧ (10 ≤ (s.guard.cabs[k]).missing ∨ 2 ≤ (s.guard.cabs[k]).badRun)) ∧
    (∃ (k : CabNo) (x : Nat) (s : State), (s.guard.cabs[k]).down = true ∧ (s.guard.cabs[k]).goodTb = some x ∧ x + tbSecond ≤ s.clock.tb) ∧
    (∃ (x : Nat) (s : State), s.guard.goodTb = some x) ∧
    (∃ (x : Nat) (s : State), s.guard.degraded = some x ∧ x + 5400 * tbSecond ≤ s.clock.tb ∧ s.anyHv = true) :=
  ⟨⟨none, none, (hot .charging), by decide +kernel⟩,
    ⟨(some (deviceFrame 1 100000000000 0 0 0)), (some (deviceFrame 1 100000000000 0 0 0)), (veh .charging), by decide +kernel⟩,
    ⟨1, true, (safeFrame 4), (veh .charging), by decide +kernel⟩,
    ⟨1, false, (safeFrame 4), ((veh .charging).onGuard (fun g => { g with lastSeq := g.lastSeq.set 1 (some 4, none) })), by decide +kernel⟩,
    ⟨1, true, (safeFrame 4), live, by decide +kernel⟩,
    ⟨1, false, (safeFrame 4), ((hot .charging).onGrate (fun g => { g with plan := some { plan with sections := plan.sections ++ [{ sealed := true, id := 8, digest := [], body := .trip [.pair 0 1 true] }] } })), by decide +kernel⟩,
    ⟨(.networkMissing true), 2, ((veh .charging).onGuard (fun g => { g with missB := 10 })), by decide +kernel⟩,
    ⟨(.networkMissing false), 1, ((hot .check).onGuard (fun g => { g with missA := 10 })), by decide +kernel⟩,
    ⟨(.networkDisagreement), 3, ((hot .specReady).onGuard (fun g => { g with disTbs := [99999000000, 99999000000, 99975000001] })), by decide +kernel⟩,
    ⟨((hot .charging).onGuard (fun g => { g with missOwn := 10 })), by decide +kernel⟩,
    ⟨((veh .idle).onGuard (fun g => { g with missOwn := 10 })), by decide +kernel⟩,
    ⟨1, ((hot .charging).onGuard (fun g => { g with cabs := upd g.cabs 1 (fun c => { c with missing := 10 }) })), by decide +kernel⟩,
    ⟨1, 99975000000, ((hot .charging).onGuard (fun g => { g with cabs := upd g.cabs 1 (fun c => { c with down := true, goodTb := some 99975000000 }) })), by decide +kernel⟩,
    ⟨98500000000, ((hot .charging).onGuard (fun g => { g with goodTb := some 98500000000, netsLost := true, degraded := some 90000000000 })), by decide +kernel⟩,
    ⟨0, (((hot .charging).onGuard (fun g => { g with degraded := some 0 })).onClock (fun c => { c with tb := 135000000000 })), by decide +kernel⟩⟩

/-- States and operands that meet the hypotheses of `LoadSwitchesLocksAndVaux`, clause by clause. -/
theorem test_wit_LoadSwitchesLocksAndVaux :
    (∃ (n : ChanNo) (s : State), (s.chan n).isOn = true ∧ 0 < (s.chan n).retryLeft ∧ s.lsMode n.1 ∉ [3, 4, 6, 7]) ∧
    (∃ (c : Instr) (n : ChanNo) (s : State) (x : Nat), ((c = .currentLimitTurnoff n ∧ x = 4 ∧ (s.chan n).isOn = true ∧ ((s.chan n).retryLeft = 0 ∨ s.lsMode n.1 ∈ [3, 4, 6, 7])) ∨ (c = .thermalLatch n ∧ x = 5 ∧ (s.chan n).state ≠ 5))) ∧
    (∃ (c : Instr) (n : ChanNo) (s : State) (x : Nat), ((c = .currentLimitTurnoff n ∧ x = 4 ∧ (s.chan n).isOn = true ∧ ((s.chan n).retryLeft = 0 ∨ s.lsMode n.1 ∈ [3, 4, 6, 7])) ∨ (c = .thermalLatch n ∧ x = 5 ∧ (s.chan n).state ≠ 5))) ∧
    (∃ (c : Instr) (n : ChanNo) (s : State) (x : Nat), ((c = .currentLimitTurnoff n ∧ x = 4 ∧ (s.chan n).isOn = true ∧ ((s.chan n).retryLeft = 0 ∨ s.lsMode n.1 ∈ [3, 4, 6, 7])) ∨ (c = .thermalLatch n ∧ x = 5 ∧ (s.chan n).state ≠ 5))) ∧
    (∃ (n : ChanNo) (s : State), (s.chan n).state = 3 ∧ (s.chan n).waitUntil ≤ s.clock.tb) ∧
    (∃ (n : ChanNo) (s : State), (s.chan n).state = 3 ∧ (s.chan n).waitUntil ≤ s.clock.tb) ∧
    (∃ (n : ChanNo) (ma : Nat) (s : State), (s.chan n).isOn = true ∧ 0 < ma) ∧
    (∃ (n : ChanNo) (s : State), (s.chan n).isOn = true ∧ (s.lsMode n.1 = 2 → 80 ≤ s.onTicks n)) ∧
    (∃ (n : ChanNo) (sees : Bool) (s : State), (s.chan n).isOn = false ∧ s.mirrorWelds n sees = []) ∧
    (∃ (n : ChanNo) (sees : Bool) (s : State), (s.chan n).isOn = false ∧ s.mirrorWelds n sees = []) ∧
    (∃ (n : ChanNo) (sees : Bool) (s : State), (s.chan n).isOn = false ∧ s.mirrorWelds n sees ≠ []) ∧
    (∃ (n : ChanNo) (s : State), (s.chan n).state = 2 ∧ s.inPullin n = false) ∧
    (∃ (n : ChanNo) (s : State), s.lsMode n.1 = 5 ∧ (s.chan n).lock = 1 ∧ (s.chan n).isOn = true ∧ (s.chan n).lockTb + 1750000 ≤ s.clock.tb ∧ (∀ o ∈ s.lockOutputs n, (s.so o).state ≠ .unavailable)) ∧
    (∃ (n : ChanNo) (s : State), (s.chan n).lock = 1 ∧ (s.chan n).lockTb + 2 * tbSecond ≤ s.clock.tb ∧ (∀ o ∈ s.lockOutputs n, (s.so o).state ≠ .unavailable)) ∧
    (∃ (s : State), s.lsw.uv = true) ∧
    (∃ (sid : Sid) (v : W64) (h : Session) (s : State), s.Granted sid h R.LSW_ON [] v) ∧
    (∃ (sid : Sid) (v : W64) (h : Session) (s : State), s.Granted sid h R.LSW_ON [] v) ∧
    (∃ (sid : Sid) (v : W64) (h : Session) (s : State), s.Granted sid h R.LSW_CLEAR [] v) :=
  ⟨⟨4, (live.onChan 4 (fun c => { c with state := 1, retryLeft := 1 })), by decide +kernel⟩,
    ⟨(.currentLimitTurnoff 4), 4, (live.onChan 4 (fun c => { c with state := 1, retryLeft := 0 })), 4, by decide +kernel⟩,
    ⟨(.thermalLatch 4), 4, (live.onChan 4 (fun c => { c with state := 1, retryLeft := 0 })), 5, by decide +kernel⟩,
    ⟨(.thermalLatch 4), 4, (((veh .charging).onChan 4 (fun c => { c with state := 1, retryLeft := 0 })).using_ R.LSW_CFGn [4] F.LSW_CFGn_MODE 3), 5, by decide +kernel⟩,
    ⟨4, (live.onChan 4 (fun c => { c with state := 3, waitUntil := 100000000000 })), by decide +kernel⟩,
    ⟨4, (((live.using_ R.LSW_CFGn [4] F.LSW_CFGn_MODE 1).using_ R.LSW_ON [] F.LSW_ON_ON 16).onChan 4 (fun c => { c with state := 3, waitUntil := 100000000000 })), by decide +kernel⟩,
    ⟨4, 1, (live.onChan 4 (fun c => { c with state := 1, openNow := true })), by decide +kernel⟩,
    ⟨4, (live.onChan 4 (fun c => { c with state := 1 })), by decide +kernel⟩,
    ⟨4, true, live, by decide +kernel⟩,
    ⟨4, true, ((live.using_ R.LSW_CFGn [4] F.LSW_CFGn_MODE 6).onChan 4 (fun c => { c with lastTest := true, testRun := 2 })), by decide +kernel⟩,
    ⟨4, false, ((((hot .charging).using_ R.FG_WELDCFGn [0] F.FG_WELDCFGn_MIRROR_POS 4).using_ R.LSW_CFGn [4] F.LSW_CFGn_MODE 6).onChan 4 (fun c => { c with testRun := 2 })), by decide +kernel⟩,
    ⟨4, (live.onChan 4 (fun c => { c with state := 2 })), by decide +kernel⟩,
    ⟨5, (((((veh .unlock).using_ R.SEQ_CFGn [0] F.SEQ_CFGn_LOCK_LS 4).using_ R.LSW_CFGn [4] F.LSW_CFGn_MODE 5).using_ R.LSW_CFGn [5] F.LSW_CFGn_MODE 5).onChan 5 (fun c => { c with state := 1, driven := true, lock := 1, lockTb := 99998250000 })), by decide +kernel⟩,
    ⟨5, (((((veh .unlock).using_ R.SEQ_CFGn [0] F.SEQ_CFGn_LOCK_LS 4).using_ R.LSW_CFGn [4] F.LSW_CFGn_MODE 5).using_ R.LSW_CFGn [5] F.LSW_CFGn_MODE 5).onChan 5 (fun c => { c with state := 1, driven := true, lock := 1, lockTb := 99950000000 })), by decide +kernel⟩,
    ⟨((((live.onLsw (fun l => { l with uv := true })).using_ R.LSW_CFGn [4] F.LSW_CFGn_MODE 1).using_ R.LSW_ON [] F.LSW_ON_ON 16).onChan 4 (fun c => { c with state := 6 })), by decide +kernel⟩,
    ⟨1, 16, (ses 2), ((host 2).using_ R.LSW_CFGn [4] F.LSW_CFGn_MODE 1), granted_of (by decide +kernel)⟩,
    ⟨1, 0, (ses 2), (((host 2).using_ R.LSW_CFGn [4] F.LSW_CFGn_MODE 1).onChan 4 (fun c => { c with state := 1 })), granted_of (by decide +kernel)⟩,
    ⟨1, 16, (ses 2), ((host 2).onChan 4 (fun c => { c with state := 5 })), granted_of (by decide +kernel)⟩⟩

/-- States and operands that meet the hypotheses of `PulseGeneratorsTakeUpChanges`, clause by clause. -/
theorem test_wit_PulseGeneratorsTakeUpChanges :
    (∃ (k : Fin 8) (r : PgRun) (s : State), ((pgKeep (pgTick s.clock.tb) s.lsw.pgs[k]).filter (fun x => decide (x.start ≤ pgTick s.clock.tb))).getLast? = some r ∧ 0 < r.period) ∧
    (∃ (k : Fin 8) (r : PgRun) (s : State), ((pgKeep (pgTick s.clock.tb) s.lsw.pgs[k]).filter (fun x => decide (x.start ≤ pgTick s.clock.tb))).getLast? = some r ∧ 0 < r.period) :=
  ⟨⟨0, { start := 0, period := 4000, duty := 0 }, live, by decide +kernel⟩,
    ⟨0, { start := 0, period := 4000, duty := 0 }, (live.using_ R.LSW_PGk [0] F.LSW_PGk_DUTY 128), by decide +kernel⟩⟩

/-- States and operands that meet the hypotheses of `CardReader`, clause by clause. -/
theorem test_wit_CardReader :
    (∃ (sid : Sid) (v : W64) (h : Session) (s : State) (new : Nat), s.Granted sid h R.NFC_RDCFG [] v ∧ (∀ (k : Fin 4) (c : Card), s.rdr.cards[k] = some c → c.sid ≠ sid) ∧ new = clampRdcfg (mergeMask (s.reg R.NFC_RDCFG []) v.toNat R.NFC_RDCFG.rwMask)) ∧
    (∃ (sid : Sid) (v : W64) (h : Session) (s : State) (new : Nat), s.Granted sid h R.NFC_RDCFG [] v ∧ (∀ (k : Fin 4) (c : Card), s.rdr.cards[k] = some c → c.sid ≠ sid) ∧ new = clampRdcfg (mergeMask (s.reg R.NFC_RDCFG []) v.toNat R.NFC_RDCFG.rwMask)) ∧
    (∃ (pings : List Ping) (s : State), s.heldCards = 0 ∧ (s.rdr.state = .hold ∨ ((s.rdr.state = .start ∨ s.rdr.state = .recovery) ∧ s.passed s.rdr.lastTb 1 = true))) ∧
    (∃ (pings : List Ping) (s : State), s.heldCards = 0 ∧ (s.rdr.state = .hold ∨ ((s.rdr.state = .start ∨ s.rdr.state = .recovery) ∧ s.passed s.rdr.lastTb 1 = true))) ∧
    (∃ (p : Ping) (s : State), s.rdr.state = .lpcd) ∧
    (∃ (p : Ping) (s : State), s.rdr.state = .lpcd) ∧
    (∃ (p : Ping) (s : State), s.rdr.state = .lpcd ∧ s.rdr.confirm = true) ∧
    (∃ (p : Ping) (s : State), s.rdr.state = .lpcd ∧ s.rdr.confirm = true) ∧
    (∃ (cards : List CardIn) (s : State), s.rdr.state = .poll ∧ s.resolve cards = []) ∧
    (∃ (cards : List CardIn) (s : State), s.rdr.state = .poll ∧ s.resolve cards = []) ∧
    (∃ (cards : List CardIn) (s : State), s.rdr.state = .poll ∧ s.resolve cards = []) ∧
    (∃ (cards : List CardIn) (s : State), (s.rdr.state = .poll ∨ s.rdr.state = .start ∨ s.rdr.state = .recovery) ∧ s.resolve cards ≠ []) ∧
    (∃ (s : State), s.rdr.state ∈ [.start, .lpcd, .poll, .hold, .recovery]) ∧
    (∃ (s : State), s.rdr.state = .fault ∧ s.passed s.rdr.stateTb 5 = true) ∧
    (∃ (s : State), s.rdr.held = true ∧ s.pwr.pfw = false) ∧
    (∃ (sid : Sid) (v : W64) (h : Session) (s : State), s.Granted sid h R.NFC_TEST [] v) ∧
    (∃ (sid : Sid) (v : W64) (h : Session) (s : State), s.Granted sid h R.NFC_TEST [] v) ∧
    (∃ (s : State), s.rdr.state = .test ∧ s.passed s.rdr.stateTb 600 = true) ∧
    (∃ (cards : List CardIn) (s : State) (k : Fin 4) (h : Card), s.rdr.state = .hold ∧ s.resolve cards = [] ∧ s.rdr.cards[k] = some h) ∧
    (∃ (cards : List CardIn) (s : State) (k : Fin 4) (h : Card), s.rdr.state = .hold ∧ s.resolve cards = [] ∧ s.rdr.cards[k] = some h) ∧
    (∃ (cards : List CardIn) (c : CardIn) (s : State) (h : Card), s.rdr.state = .hold ∧ s.resolve cards = [c] ∧ s.rdr.cards[(0 : Fin 4)] = some h ∧ h.uid = c.uid ∧ h.typeB = c.typeB) ∧
    (∃ (pings : List Ping) (s : State), s.rdr.state = .hold ∧ s.heldCards ≠ 0 ∧ s.passed s.rdr.lastTb (s.fld R.NFC_RDCFG F.NFC_RDCFG_HOLD_MAX []) = true ∧ s.rdr.xState ≠ 1) ∧
    (∃ (sid : Sid) (v : W64) (x : Session) (s : State) (k : Fin 4) (o : Fin 6) (h : Card), s.Granted sid x R.NFC_BIND [] v ∧ k = Fin.ofNat 4 (F.NFC_BIND_CARD.get v.toNat) ∧ o.1 = F.NFC_BIND_OUTPUT.get v.toNat ∧ s.rdr.cards[k] = some h ∧ h.waiting = true ∧ (s.so o).sid ≠ some sid) ∧
    (∃ (sid : Sid) (v : W64) (x : Session) (s : State), s.Granted sid x R.NFC_BIND [] v ∧ (6 ≤ F.NFC_BIND_OUTPUT.get v.toNat ∨ (∀ h, s.rdr.cards[(Fin.ofNat 4 (F.NFC_BIND_CARD.get v.toNat) : Fin 4)] = some h → h.waiting = false))) ∧
    (∃ (k : CardNo) (h : Card) (s : State), s.rdr.cards[k] = some h ∧ h.waiting = true ∧ s.passed h.tb 10 = true) ∧
    (∃ (sid : Sid) (v : W64) (x : Session) (s : State), s.Granted sid x R.NFC_XCHG [] v ∧ F.NFC_XCHG_GO.get v.toNat = 1) ∧
    (∃ (sid : Sid) (v : W64) (x : Session) (s : State), s.Granted sid x R.NFC_XCHG [] v ∧ F.NFC_XCHG_GO.get v.toNat = 1) ∧
    (∃ (sid : Sid) (v : W64) (x : Session) (s : State), s.Granted sid x R.NFC_XCHG [] v ∧ F.NFC_XCHG_GO.get v.toNat = 1) ∧
    (∃ (answer : Option Bytes) (removed : Bool) (s : State), s.rdr.xState = 1) ∧
    (∃ (answer : Option Bytes) (removed : Bool) (s : State), s.rdr.xState = 1) :=
  ⟨⟨1, 1, (ses 2), (host 2), (clampRdcfg (mergeMask ((host 2).reg R.NFC_RDCFG []) 1 R.NFC_RDCFG.rwMask)), granted_of (by decide +kernel), by decide +kernel⟩,
    ⟨1, 0, (ses 2), (reader .lpcd), (clampRdcfg (mergeMask ((host 2).reg R.NFC_RDCFG []) 0 R.NFC_RDCFG.rwMask)), granted_of (by decide +kernel), by decide +kernel⟩,
    ⟨[⟨100, 5⟩, ⟨102, 5⟩], (reader .hold), by decide +kernel⟩,
    ⟨[⟨100, 5⟩, ⟨102, 5⟩], ((reader .start).onRdr (fun r => { r with lastTb := 99975000000 })), by decide +kernel⟩,
    ⟨⟨100, 5⟩, (reader .lpcd), by decide +kernel⟩,
    ⟨⟨100, 5⟩, ((reader .lpcd).onRdr (fun r => { r with baseAmp := 100 * 65536, basePh := 5 * 65536 })), by decide +kernel⟩,
    ⟨⟨100, 5⟩, ((reader .lpcd).onRdr (fun r => { r with confirm := true, baseAmp := 100 * 65536, basePh := 5 * 65536 })), by decide +kernel⟩,
    ⟨⟨200, 5⟩, ((reader .lpcd).onRdr (fun r => { r with confirm := true, baseAmp := 100 * 65536, basePh := 5 * 65536 })), by decide +kernel⟩,
    ⟨[], (reader .poll), by decide +kernel⟩,
    ⟨[], ((reader .poll).onRdr (fun r => { r with polls := 2, consecFalse := 7 })), by decide +kernel⟩,
    ⟨[], ((reader .poll).onRdr (fun r => { r with polls := 2, consecFalse := 6 })), by decide +kernel⟩,
    ⟨[cardB], ((reader .poll).using_ R.NFC_RDCFG [] F.NFC_RDCFG_TYPE_B 1), by decide +kernel⟩,
    ⟨(reader .hold), by decide +kernel⟩,
    ⟨((reader .fault).onRdr (fun r => { r with stateTb := 99875000000 })), by decide +kernel⟩,
    ⟨((reader .hold).onRdr (fun r => { r with held := true })), by decide +kernel⟩,
    ⟨1, 1, (ses 4), ((reader .hold).withSession (ses 4) |>.onGuard (fun g => { g with levelA := false, levelB := true })), granted_of (by decide +kernel)⟩,
    ⟨1, 0, (ses 4), ((reader .test).withSession (ses 4) |>.onGuard (fun g => { g with levelA := false, levelB := true })), granted_of (by decide +kernel)⟩,
    ⟨((reader .test).onRdr (fun r => { r with stateTb := 85000000000 })), by decide +kernel⟩,
    ⟨[], (holding .hold), 0, held, by decide +kernel⟩,
    ⟨[], ((holding .hold).onRdr (fun r => { r with cards := r.cards.set 0 (some { held with misses := 1 }) })), 0, { held with misses := 1 }, by decide +kernel⟩,
    ⟨[cardB], cardB, (((holding .hold).onRdr (fun r => { r with cards := r.cards.set 0 (some { held with typeB := true }) })).using_ R.NFC_RDCFG [] F.NFC_RDCFG_TYPE_B 1), { held with typeB := true }, by decide +kernel⟩,
    ⟨[⟨100, 5⟩], ((holding .hold).using_ R.NFC_RDCFG [] F.NFC_RDCFG_HOLD_MAX 5), by decide +kernel⟩,
    ⟨1, (w64 (F.NFC_BIND_OUTPUT.set 0 5)), (ses 2), (holding .hold), 0, 5, held, granted_of (by decide +kernel), by decide +kernel⟩,
    ⟨1, (w64 (F.NFC_BIND_OUTPUT.set 0 6)), (ses 2), (holding .hold), granted_of (by decide +kernel), by decide +kernel⟩,
    ⟨0, held, (holding .hold), by decide +kernel⟩,
    ⟨1, (w64 (F.NFC_XCHG_GO.set 0 1)), (ses 2), (holding .hold), granted_of (by decide +kernel), by decide +kernel⟩,
    ⟨1, (w64 (F.NFC_XCHG_GO.set 0 1)), (ses 2), (reader .hold), granted_of (by decide +kernel), by decide +kernel⟩,
    ⟨1, (w64 (F.NFC_XCHG_GO.set 0 1)), (ses 2), ((holding .hold).onRdr (fun r => { r with xState := 1 })), granted_of (by decide +kernel), by decide +kernel⟩,
    ⟨(some [1#8, 2#8]), false, ((holding .hold).onRdr (fun r => { r with xState := 1 })), by decide +kernel⟩,
    ⟨none, true, ((holding .hold).onRdr (fun r => { r with xState := 1 })), by decide +kernel⟩⟩

/-- States and operands that meet the hypotheses of `TagFilesAndWire`, clause by clause. -/
theorem test_wit_TagFilesAndWire :
    (∃ (s : State), s.tag.field = 0 ∧ Memory.wf s.tag.mem = true) ∧
    (∃ (s : State), s.tag.field = 0 ∧ Memory.wf s.tag.mem = true) ∧
    (∃ (aid : Bytes) (s : State), 1 ≤ s.tag.field) ∧
    (∃ (aid : Bytes) (s : State), 1 ≤ s.tag.field) ∧
    (∃ (fid : BitVec 16) (s : State), 1 ≤ s.tag.field) ∧
    (∃ (fid : BitVec 16) (s : State), 1 ≤ s.tag.field) ∧
    (∃ (offset le : Nat) (s : State), 1 ≤ s.tag.field) ∧
    (∃ (offset le : Nat) (s : State), 1 ≤ s.tag.field) ∧
    (∃ (offset le : Nat) (s : State), 1 ≤ s.tag.field) ∧
    (∃ (s : State), 1 ≤ s.tag.field) ∧
    (∃ (s : State) (t0 : Nat), s.tag.field = 0 ∧ s.tag.lostTb = some t0) ∧
    (∃ (s : State) (t0 : Nat), s.tag.field = 0 ∧ s.tag.lostTb = some t0) ∧
    (∃ (sid : Sid) (offset : Nat) (words : WordList) (h : Session) (s : State), s.Ready sid h ∧ s.mayWriteTag h.polder = true ∧ h.commissioning = false ∧ s.pwr.recovery = false ∧ s.isDark 0x2000 = false ∧ offset % 8 = 0 ∧ offset < 0x4000 ∧ 1 ≤ words.length ∧ words.length ≤ 128) ∧
    (∃ (sid : Sid) (offset : Nat) (words : WordList) (h : Session) (s : State), s.Ready sid h ∧ s.mayWriteTag h.polder = true ∧ h.commissioning = false ∧ s.pwr.recovery = false ∧ s.isDark 0x2000 = false ∧ offset % 8 = 0 ∧ offset < 0x4000 ∧ 1 ≤ words.length ∧ words.length ≤ 128) ∧
    (∃ (sid : Sid) (offset : Nat) (words : WordList) (h : Session) (s : State), s.Ready sid h ∧ s.mayWriteTag h.polder = true ∧ h.commissioning = false ∧ s.pwr.recovery = false ∧ s.isDark 0x2000 = false ∧ offset % 8 = 0 ∧ offset < 0x4000 ∧ 1 ≤ words.length ∧ words.length ≤ 128) ∧
    (∃ (sid : Sid) (offset : Nat) (words : WordList) (h : Session) (s : State), s.Ready sid h ∧ offset % 8 = 0 ∧ offset + 8 * words.length ≤ 0x4000 ∧ 1 ≤ words.length ∧ words.length ≤ 128 ∧ (s.mayWriteTag h.polder = false ∨ h.commissioning = true ∨ s.pwr.recovery = true)) ∧
    (∃ (s : State) (text : String) (c : Instr), s.tag.statusOff ≠ 0 ∧ ((c = .statusLineWrite ∧ s.pwr.recovery = true ∧ text = "recovery mode") ∨ (c = .statusLineWrite ∧ s.pwr.recovery = false ∧ s.hearth.running = true ∧ s.faultN = true ∧ (∃ t0, s.tag.faultSince = some t0 ∧ t0 + 250000000 ≤ s.clock.tb) ∧ text = "out of service: fault") ∨ (c = .statusLineWrite ∧ s.pwr.recovery = false ∧ s.hearth.running = true ∧ (s.faultN = false ∨ ∀ t0, s.tag.faultSince = some t0 → s.clock.tb < t0 + 250000000) ∧ text = "in service: " ++ toString s.readyCount.1 ++ " of " ++ toString s.readyCount.2 ++ " outputs ready") ∨ (c = .statusLineNrst ∧ s.pwr.nrst = true ∧ s.pwr.vin = true ∧ text = "controller held in reset") ∨ (c = .statusLineNotRunning ∧ s.hearth.running = false ∧ s.pwr.vin = true ∧ s.pwr.nrst = false ∧ text = "controller not running"))) ∧
    (∃ (s : State) (c : Instr), s.tag.statusOff = 0 ∧ (c = .statusLineWrite ∨ c = .statusLineNrst ∨ c = .statusLineNotRunning)) :=
  ⟨⟨live, by decide +kernel⟩,
    ⟨(live.onTag (fun t => { t with commit := some 5, shadow := List.replicate 64 9#8 })), by decide +kernel⟩,
    ⟨[0xD2#8, 0x76#8, 0x00#8, 0x00#8, 0x85#8, 0x01#8, 0x01#8], (tagged 1 .cc), by decide +kernel⟩,
    ⟨[0xD2#8], (tagged 1 .cc), by decide +kernel⟩,
    ⟨0xE104, (tagged 1 .cc), by decide +kernel⟩,
    ⟨0x1234, (tagged 1 .cc), by decide +kernel⟩,
    ⟨0, 255, (tagged 1 .cc), by decide +kernel⟩,
    ⟨15, 255, (tagged 1 .cc), by decide +kernel⟩,
    ⟨0, 8, (tagged 1 .svcLog), by decide +kernel⟩,
    ⟨(tagged 3 .svcLog), by decide +kernel⟩,
    ⟨(live.onTag (fun t => { t with fdet := true, lostTb := some 99999750000 })), 99999750000, by decide +kernel⟩,
    ⟨(live.onTag (fun t => { t with fdet := true, lostTb := some 99999750001 })), 99999750001, by decide +kernel⟩,
    ⟨1, 0x100, [7, 8], (ses 2), (host 2), ready_of (by decide +kernel), by decide +kernel⟩,
    ⟨1, 0xF8, [7, 8], (ses 2), (host 2), ready_of (by decide +kernel), by decide +kernel⟩,
    ⟨1, 0x3FF8, [7], (ses 2), (host 2), ready_of (by decide +kernel), by decide +kernel⟩,
    ⟨1, 0x3FF0, [7], (ses 1), (host 1), ready_of (by decide +kernel), by decide +kernel⟩,
    ⟨(live.onTag (fun t => { t with statusOff := 100 })), ("in service: 0 of 0 outputs ready"), .statusLineWrite, by decide +kernel⟩,
    ⟨live, .statusLineNrst, by decide +kernel⟩⟩

/-- States and operands that meet the hypotheses of `PageWritesAreAtomic`, clause by clause. -/
theorem test_wit_PageWritesAreAtomic :
    (∃ (w : TagWrite) (s : State) (f : TagFile), 1 ≤ s.tag.field ∧ s.tag.file = some f) ∧
    (∃ (w : TagWrite) (s : State) (f : TagFile), 1 ≤ s.tag.field ∧ s.tag.file = some f) ∧
    (∃ (w : TagWrite) (s : State) (f : TagFile), 1 ≤ s.tag.field ∧ s.tag.file = some f) ∧
    (∃ (w : TagWrite) (s : State) (f : TagFile) (k : Nat) (torn : Bool), s.tag.field = 3 ∧ s.tag.file = some f ∧ (f = .ndef ∨ f = .svcLog ∨ f = .svcMsg) ∧ 1 ≤ w.data.length ∧ w.offset + w.data.length ≤ f.place.2 ∧ w.collapse = some (k, torn) ∧ (f.place.1 + w.offset) % 64 + w.data.length ≤ 64 ∧ 1 ≤ k ∧ k ≤ 6 ∧ s.tagHold.tag.wire = [] ∧ s.tagHold.tag.commit = none ∧ Memory.wf s.tagHold.tag.mem = true) ∧
    (∃ (w : TagWrite) (s : State) (f : TagFile) (k : Nat) (torn : Bool), s.tag.field = 3 ∧ s.tag.file = some f ∧ (f = .ndef ∨ f = .svcLog ∨ f = .svcMsg) ∧ 1 ≤ w.data.length ∧ w.offset + w.data.length ≤ f.place.2 ∧ w.collapse = some (k, torn) ∧ (f.place.1 + w.offset) % 64 + w.data.length ≤ 64 ∧ 1 ≤ k ∧ k ≤ 6 ∧ s.tagHold.tag.wire = [] ∧ s.tagHold.tag.commit = none ∧ Memory.wf s.tagHold.tag.mem = true) ∧
    (∃ (w : TagWrite) (s : State) (f : TagFile) (k : Nat) (torn : Bool), s.tag.field = 3 ∧ s.tag.file = some f ∧ (f = .ndef ∨ f = .svcLog ∨ f = .svcMsg) ∧ 1 ≤ w.data.length ∧ w.offset + w.data.length ≤ f.place.2 ∧ w.collapse = some (k, torn) ∧ (f.place.1 + w.offset) % 64 + w.data.length ≤ 64 ∧ 1 ≤ k ∧ k ≤ 6 ∧ s.tagHold.tag.wire = [] ∧ s.tagHold.tag.commit = none ∧ Memory.wf s.tagHold.tag.mem = true) ∧
    (∃ (w : TagWrite) (s : State) (f : TagFile) (torn : Bool) (n : Nat), s.tag.field = 3 ∧ s.tag.file = some f ∧ (f = .ndef ∨ f = .svcLog ∨ f = .svcMsg) ∧ w.data.length ≤ 64 ∧ w.offset + w.data.length ≤ f.place.2 ∧ w.collapse = some (6, torn) ∧ n = 64 - (f.place.1 + w.offset) % 64 ∧ n < w.data.length ∧ s.tagHold.tag.wire = [] ∧ s.tagHold.tag.commit = none ∧ Memory.wf s.tagHold.tag.mem = true) :=
  ⟨⟨{ offset := 3, data := [1#8, 2#8], collapse := none }, (tagged 3 .ndef), .ndef, by decide +kernel⟩,
    ⟨{ offset := 3, data := [1#8, 2#8], collapse := none }, (tagged 2 .ndef), .ndef, by decide +kernel⟩,
    ⟨{ offset := 4095, data := [1#8, 2#8], collapse := none }, (tagged 3 .ndef), .ndef, by decide +kernel⟩,
    ⟨{ offset := 3, data := [1#8, 2#8], collapse := some (4, true) }, (tagged 3 .ndef), .ndef, 4, true, by decide +kernel⟩,
    ⟨{ offset := 3, data := [1#8, 2#8], collapse := some (4, false) }, (tagged 3 .ndef), .ndef, 4, false, by decide +kernel⟩,
    ⟨{ offset := 3, data := [1#8, 2#8], collapse := some (6, true) }, (tagged 3 .ndef), .ndef, 6, true, by decide +kernel⟩,
    ⟨{ offset := 60, data := [1#8, 2#8, 3#8, 4#8, 5#8], collapse := some (6, true) }, (tagged 3 .ndef), .ndef, true, 4, by decide +kernel⟩⟩

/-- States and operands that meet the hypotheses of `TagSecrets`, clause by clause. -/
theorem test_wit_TagSecrets :
    (∃ (pw : BitVec 32) (s : State), 1 ≤ s.tag.field) ∧
    (∃ (pw : BitVec 32) (s : State), 1 ≤ s.tag.field) ∧
    (∃ (pw : BitVec 32) (s : State), 1 ≤ s.tag.field) ∧
    (∃ (data : Bytes) (s : State), 1 ≤ s.tag.field ∧ 10 ≤ s.tag.fails) ∧
    (∃ (sid : Sid) (v : W64) (h : Session) (s : State), s.Granted sid h R.NFC_TAGCFG [] v) ∧
    (∃ (sid : Sid) (v : W64) (h : Session) (s : State), s.Granted sid h R.NFC_TAGCFG [] v) ∧
    (∃ (sid : Sid) (v : W64) (h : Session) (s : State), s.Granted sid h R.NFC_TAGPWD [] v) :=
  ⟨⟨0x12345678, ((tagged 1 .ndef).onTag (fun t => { t with pwd := 0x12345678, pwdEn := true })), by decide +kernel⟩,
    ⟨0x12345679, ((tagged 1 .ndef).onTag (fun t => { t with pwd := 0x12345678, pwdEn := true, fails := 9 })), by decide +kernel⟩,
    ⟨0x12345678, ((tagged 1 .ndef).onTag (fun t => { t with pwd := 0x12345678, pwdEn := true, fails := 10 })), by decide +kernel⟩,
    ⟨[], ((tagged 1 .ndef).onTag (fun t => { t with fails := 10 })), by decide +kernel⟩,
    ⟨1, (w64 (F.NFC_TAGCFG_UNLOCK.set 0 1)), (ses 2), ((host 2).onTag (fun t => { t with fails := 10 })), granted_of (by decide +kernel)⟩,
    ⟨1, 0, (ses 2), ((host 2).onTag (fun t => { t with fails := 10 })), granted_of (by decide +kernel)⟩,
    ⟨1, 5, (ses 2), ((host 2).onTag (fun t => { t with fails := 10 })), granted_of (by decide +kernel)⟩⟩

/-- States and operands that meet the hypotheses of `AesAuthentication`, clause by clause. -/
theorem test_wit_AesAuthentication :
    (∃ (s : State), 1 ≤ s.tag.field) ∧
    (∃ (s : State), 1 ≤ s.tag.field) ∧
    (∃ (data : Bytes) (s : State) (k b : Bytes), 1 ≤ s.tag.field ∧ s.tag.key = some k ∧ s.tag.rndB = some b) ∧
    (∃ (data : Bytes) (s : State) (k b : Bytes), 1 ≤ s.tag.field ∧ s.tag.key = some k ∧ s.tag.rndB = some b) ∧
    (∃ (data : Bytes) (s : State), 1 ≤ s.tag.field ∧ s.tag.rndB = none) :=
  ⟨⟨((tagged 2 .ndef)), by decide +kernel⟩,
    ⟨((tagged 2 .ndef).onTag (fun t => { t with key := some (List.replicate 16 1#8) })), by decide +kernel⟩,
    ⟨(List.replicate 32 5#8), ((tagged 2 .ndef).onTag (fun t => { t with key := some (List.replicate 16 1#8), rndB := some (List.replicate 16 1#8) })), (List.replicate 16 1#8), (List.replicate 16 1#8), by decide +kernel⟩,
    ⟨(xorBytes (aesDec (List.replicate 16 1#8) (List.replicate 16 5#8)) (List.replicate 16 1#8) ++ List.replicate 16 5#8), ((tagged 2 .ndef).onTag (fun t => { t with key := some (List.replicate 16 1#8), rndB := some (List.replicate 16 1#8) })), (List.replicate 16 1#8), (List.replicate 16 1#8), by decide +kernel⟩,
    ⟨[], (tagged 2 .ndef), by decide +kernel⟩⟩

/-- States and operands that meet the hypotheses of `MeshSends`, clause by clause. -/
theorem test_wit_MeshSends :
    (∃ (s : State), s.meshTalks = true ∧ s.due s.mesh.claimTb 20 = true) ∧
    (∃ (s : State), s.meshTalks = true ∧ s.due s.mesh.claimTb 20 = true) ∧
    (∃ (s : State), s.meshTalks = true ∧ s.due s.mesh.claimTb 20 = true) ∧
    (∃ (s : State), (s.meshTalks = false ∨ s.due s.mesh.claimTb 20 = false)) ∧
    (∃ (s : State), (s.meshTalks = false ∨ s.due s.mesh.claimTb 20 = false)) ∧
    (∃ (s : State) (w : Nat), s.wallNow = some w ∧ s.meshTalks = true ∧ s.fld R.MSH_CFG F.MSH_CFG_TIME_SRC [] = 1 ∧ s.due s.mesh.timeDueTb 600 = true ∧ 1500000000 ≤ (s.mesh.refill s.clock.tb (s.reg R.MSH_DAMPER [])).orig) ∧
    (∃ (s : State), s.wallNow = none) ∧
    (∃ (s : State) (x : MeshTx) (rest : List MeshTx), s.mesh.queue = x :: rest) ∧
    (∃ (s : State) (x : MeshTx) (rest : List MeshTx), s.mesh.queue = x :: rest) ∧
    (∃ (s : State) (x : MeshTx), s.mesh.sending = some x) ∧
    (∃ (s : State) (x : MeshTx), s.mesh.sending = some x) ∧
    (∃ (s : State) (x : MeshTx), s.mesh.sending = some x) ∧
    (∃ (s : State) (w : MeshTx) (rest : List MeshTx), s.mesh.waits = w :: rest ∧ s.meshTalks = true ∧ 1500000000 ≤ (s.mesh.refill s.clock.tb (s.reg R.MSH_DAMPER [])).relays) :=
  ⟨⟨meshClock, by decide +kernel⟩,
    ⟨(meshClock.onMesh (fun m => { m with orig := 0 })), by decide +kernel⟩,
    ⟨(meshClock.using_ R.SEQ_GUARD_CFG [] F.SEQ_GUARD_CFG_SHARE 1), by decide +kernel⟩,
    ⟨live, by decide +kernel⟩,
    ⟨(meshClock.onMesh (fun m => { m with claimTb := some 99500000001 })), by decide +kernel⟩,
    ⟨meshClock, 1000000000, by decide +kernel⟩,
    ⟨meshed, by decide +kernel⟩,
    ⟨(meshed.onMesh (fun m => { m with queue := [meshTx] })), meshTx, [], by decide +kernel⟩,
    ⟨(meshed.onMesh (fun m => { m with queue := [meshTx], phases := Vector.replicate 3 { locked := true, spacing := 8000, jumps := 0 } })), meshTx, [], by decide +kernel⟩,
    ⟨(meshed.onMesh (fun m => { m with sending := some meshTx, cost := 14 })), meshTx, by decide +kernel⟩,
    ⟨(meshed.onMesh (fun m => { m with sending := some { meshTx with attempts := 3 } })), { meshTx with attempts := 3 }, by decide +kernel⟩,
    ⟨(meshed.onMesh (fun m => { m with sending := some meshTx, cost := 14 })), meshTx, by decide +kernel⟩,
    ⟨(meshClock.onMesh (fun m => { m with waits := [meshTx] })), meshTx, [], by decide +kernel⟩⟩

/-- States and operands that meet the hypotheses of `MeshReceives`, clause by clause. -/
theorem test_wit_MeshReceives :
    (∃ (x : MeshIn) (c : Instr) (sharing : Bool) (s : State), ((c = .meshClaimRx x ∧ x.type = 1 ∧ sharing = true) ∨ (c = .meshBeaconRx x ∧ x.type = 2 ∧ sharing = false)) ∧ s.meshOn = true ∧ x.hops.1 ≠ 0 ∧ x.orig.1 ≠ s.nodeId ∧ x.orig.1 ≠ 0 ∧ (s.mesh.nodes[x.orig]).isNew x.seq.1 s.clock.tb = true ∧ (s.nodeContext x.orig).isSome = true) ∧
    (∃ (x : MeshIn) (c : Instr) (sharing : Bool) (s : State), ((c = .meshClaimRx x ∧ x.type = 1 ∧ sharing = true) ∨ (c = .meshBeaconRx x ∧ x.type = 2 ∧ sharing = false)) ∧ s.meshOn = true ∧ x.hops.1 ≠ 0 ∧ x.orig.1 ≠ s.nodeId ∧ x.orig.1 ≠ 0 ∧ (s.mesh.nodes[x.orig]).isNew x.seq.1 s.clock.tb = true ∧ (s.nodeContext x.orig).isSome = true) ∧
    (∃ (x : MeshIn) (c : Instr) (s : State), ((c = .meshClaimRx x ∧ x.type = 1) ∨ (c = .meshBeaconRx x ∧ x.type = 2) ∨ (∃ tb, c = .meshTimeRx x tb ∧ x.type = 3)) ∧ s.meshOn = true ∧ x.hops.1 ≠ 0 ∧ x.orig.1 ≠ s.nodeId ∧ x.orig.1 ≠ 0) ∧
    (∃ (x : MeshIn) (c : Instr) (s : State), ((c = .meshClaimRx x ∧ x.type = 1) ∨ (c = .meshBeaconRx x ∧ x.type = 2) ∨ (∃ tb, c = .meshTimeRx x tb ∧ x.type = 3)) ∧ s.meshOn = true ∧ x.hops.1 ≠ 0 ∧ x.orig.1 ≠ s.nodeId ∧ x.orig.1 ≠ 0) ∧
    (∃ (x : MeshIn) (c : Instr) (s : State), ((c = .meshClaimRx x ∧ x.type = 1) ∨ (c = .meshBeaconRx x ∧ x.type = 2) ∨ (∃ tb, c = .meshTimeRx x tb ∧ x.type = 3)) ∧ s.meshOn = true ∧ x.hops.1 ≠ 0 ∧ x.orig.1 ≠ s.nodeId ∧ x.orig.1 ≠ 0) ∧
    (∃ (x : MeshIn) (c : Instr) (s : State), ((c = .meshClaimRx x ∧ x.type = 1) ∨ (c = .meshBeaconRx x ∧ x.type = 2) ∨ (∃ tb, c = .meshTimeRx x tb ∧ x.type = 3))) ∧
    (∃ (x : MeshIn) (c : Instr) (s : State), ((c = .meshClaimRx x ∧ x.type = 1) ∨ (c = .meshBeaconRx x ∧ x.type = 2) ∨ (∃ tb, c = .meshTimeRx x tb ∧ x.type = 3))) ∧
    (∃ (x : MeshIn) (c : Instr) (s : State), ((c = .meshClaimRx x ∧ x.type = 1) ∨ (c = .meshBeaconRx x ∧ x.type = 2) ∨ (∃ tb, c = .meshTimeRx x tb ∧ x.type = 3))) ∧
    (∃ (x : MeshIn) (tb : Nat) (s : State), x.type = 3 ∧ s.meshOn = true ∧ x.hops.1 ≠ 0 ∧ x.orig.1 ≠ s.nodeId ∧ x.orig.1 ≠ 0 ∧ (s.mesh.nodes[x.orig]).isNew x.seq.1 s.clock.tb = true ∧ (s.nodeContext x.orig).isSome = true) ∧
    (∃ (n i : Fin 64) (s : State), (s.mesh.nodes[n]).sid = some i) ∧
    (∃ (n i : Fin 64) (s : State), (s.mesh.nodes[n]).sid = some i) :=
  ⟨⟨(meshIn 1), (.meshClaimRx (meshIn 1)), true, (meshClock.onMesh (fun m => { m with nodes := upd m.nodes 3 (fun n => { n with sid := some 7 }) })), by decide +kernel⟩,
    ⟨(meshIn 2), (.meshBeaconRx (meshIn 2)), false, (meshClock.onMesh (fun m => { m with nodes := upd m.nodes 3 (fun n => { n with sid := some 7, sharing := true }) })), by decide +kernel⟩,
    ⟨(meshIn 1), (.meshClaimRx (meshIn 1)), (meshClock.onMesh (fun m => { m with nodes := upd m.nodes 3 (fun n => { n with sid := some 7 }) })), Or.inl ⟨rfl, by decide +kernel⟩, by decide +kernel⟩,
    ⟨(meshIn 1), (.meshClaimRx (meshIn 1)), (meshClock.onHost (fun h => { h with freeSids := [] })), Or.inl ⟨rfl, by decide +kernel⟩, by decide +kernel⟩,
    ⟨(meshIn 1), (.meshClaimRx (meshIn 1)), (meshClock.onMesh (fun m => { m with nodes := upd m.nodes 3 (fun n => { n with sid := some 7, seqs := [(9, 99999999999)] }) })), Or.inl ⟨rfl, by decide +kernel⟩, by decide +kernel⟩,
    ⟨(meshIn 1), (.meshClaimRx (meshIn 1)), live, Or.inl ⟨rfl, by decide +kernel⟩⟩,
    ⟨{ meshIn 1 with hops := 0 }, (.meshClaimRx { meshIn 1 with hops := 0 }), meshClock, Or.inl ⟨rfl, by decide +kernel⟩⟩,
    ⟨{ meshIn 1 with orig := 5 }, (.meshClaimRx { meshIn 1 with orig := 5 }), meshClock, Or.inl ⟨rfl, by decide +kernel⟩⟩,
    ⟨(meshIn 3), 99999999999, (meshClock.onMesh (fun m => { m with nodes := upd m.nodes 3 (fun n => { n with sid := some 7, sharing := true }) })), by decide +kernel⟩,
    ⟨3, 7, ((meshClock.onMesh (fun m => { m with nodes := upd m.nodes 3 (fun n => { n with sid := some 7, tb := 97000000000 }) })).onHost (fun h => { h with table := h.table.set 7 (.mesh 3) })), by decide +kernel⟩,
    ⟨3, 7, ((meshClock.onMesh (fun m => { m with nodes := upd m.nodes 3 (fun n => { n with sid := some 7, tb := 97000000001 }) })).onHost (fun h => { h with table := h.table.set 7 (.mesh 3) })), by decide +kernel⟩⟩

/-- States and operands that meet the hypotheses of `SupplyPinAndThermalResets`, clause by clause. -/
theorem test_wit_SupplyPinAndThermalResets :
    (∃ (s : State), s.pwr.pfw = false ∧ s.pwr.vin = true ∧ s.pwr.mode = .run) ∧
    (∃ (s : State), s.pwr.pfw = true ∧ s.pwr.vin = true) ∧
    (∃ (s : State), s.pwr.vin = true ∧ s.pwr.mode = .run ∧ s.pwr.inReset = false) ∧
    (∃ (s : State), s.pwr.vin = true ∧ s.pwr.mode = .run ∧ s.pwr.inReset = false) ∧
    (∃ (s : State), s.pwr.mode = .ember ∧ s.pwr.vin = true) ∧
    (∃ (s : State), s.pwr.vin = false) ∧
    (∃ (s : State), s.pwr.mode ≠ .off ∧ s.pwr.vin = true ∧ s.pwr.nrst = false ∧ s.pwr.inReset = false) ∧
    (∃ (s : State), s.pwr.mode ≠ .off ∧ s.pwr.vin = true ∧ s.pwr.nrst = false ∧ s.pwr.inReset = false) ∧
    (∃ (s : State), s.pwr.mode ≠ .off ∧ s.pwr.vin = false ∧ s.pwr.nrst = false) ∧
    (∃ (held : Nat) (s : State), s.pwr.mode ≠ .off ∧ s.pwr.nrst = true ∧ s.pwr.nrstCounted = false ∧ 30 ≤ held) ∧
    (∃ (held : Nat) (s : State), s.pwr.nrst = true) ∧
    (∃ (held : Nat) (s : State), s.pwr.nrst = true) ∧
    (∃ (s : State), s.pwr.vin = true ∧ s.pwr.mode = .run ∧ s.pwr.inReset = false) ∧
    (∃ (s : State), s.pwr.mode = .ember ∧ s.pwr.inReset = false) :=
  ⟨⟨(hot .charging), by decide +kernel⟩,
    ⟨(live.onPwr (fun p => { p with pfw := true })), by decide +kernel⟩,
    ⟨(hot .charging), by decide +kernel⟩,
    ⟨(host 2), by decide +kernel⟩,
    ⟨ember, by decide +kernel⟩,
    ⟨(live.onPwr (fun p => { p with vin := false, mode := .vault, inReset := true })), by decide +kernel⟩,
    ⟨(hot .charging), by decide +kernel⟩,
    ⟨(host 2), by decide +kernel⟩,
    ⟨(live.onPwr (fun p => { p with vin := false, mode := .vault, inReset := true })), by decide +kernel⟩,
    ⟨30, (live.onPwr (fun p => { p with nrst := true })), by decide +kernel⟩,
    ⟨99, ((live.onPwr (fun p => { p with nrst := true, nrstCounted := true })).onMseal (fun m => { m with ledger := m.ledger.set T_NRST { LedgerEntry.reset with dCount := 3, dLastArg := 30 } })), by decide +kernel⟩,
    ⟨9, (live.onPwr (fun p => { p with nrst := true })), by decide +kernel⟩,
    ⟨(hot .charging), by decide +kernel⟩,
    ⟨ember, by decide +kernel⟩⟩

/-- States and operands that meet the hypotheses of `WarmResetsAndFailovers`, clause by clause. -/
theorem test_wit_WarmResetsAndFailovers :
    (∃ (s : State), s.up ∧ s.shadowReady = false ∧ (s.pwr.warmTbs.filter (fun x => decide (s.clock.tb < x + 60 * tbSecond))).length < 3) ∧
    (∃ (sid : Sid) (v : W64) (h : Session) (s : State), s.up ∧ s.Granted sid h R.SYS_RESET [] (F.SYS_RESET_KIND.put v 1) ∧ (s.pwr.warmTbs.filter (fun x => decide (s.clock.tb < x + 60 * tbSecond))).length < 3) ∧
    (∃ (sid : Sid) (v : W64) (h : Session) (s : State), s.up ∧ s.Granted sid h R.SYS_RESET [] (F.SYS_RESET_KIND.put v 2) ∧ s.anyHv = false) ∧
    (∃ (sid : Sid) (v : W64) (h : Session) (s : State), s.Granted sid h R.SYS_RESET [] (F.SYS_RESET_KIND.put v 2) ∧ s.anyHv = true) ∧
    (∃ (c : Instr) (s : State), (c = .hearthFailover ∨ c = .eccUncorrectable ∨ c = .watchdog) ∧ s.up ∧ s.shadowReady = true ∧ s.hearth.pairA = .primary) ∧
    (∃ (c : Instr) (s : State), (c = .hearthFailover ∨ c = .eccUncorrectable ∨ c = .watchdog) ∧ s.up ∧ s.shadowReady = true ∧ s.hearth.pairA = .primary) ∧
    (∃ (s : State), s.up ∧ s.shadowReady = false) ∧
    (∃ (s : State), s.up) ∧
    (∃ (pass : Bool) (s : State) (x : Nat), s.hearth.pairA = .selfTest x ∧ x ≤ s.clock.tb ∧ (∀ y, s.hearth.pairB ≠ .selfTest y)) ∧
    (∃ (pass : Bool) (s : State) (x : Nat), s.hearth.pairA = .selfTest x ∧ x ≤ s.clock.tb ∧ (∀ y, s.hearth.pairB ≠ .selfTest y)) ∧
    (∃ (pass : Bool) (s : State) (x : Nat), s.hearth.pairB = .selfTest x ∧ x ≤ s.clock.tb ∧ (∀ y, s.hearth.pairA ≠ .selfTest y)) ∧
    (∃ (pass : Bool) (s : State) (x : Nat), s.hearth.pairB = .selfTest x ∧ x ≤ s.clock.tb ∧ (∀ y, s.hearth.pairA ≠ .selfTest y)) ∧
    (∃ (s : State), s.hearth.running = true) :=
  ⟨⟨((host 2).withJob { queued 0x22 2 [] with state := .running }), up_of (by decide +kernel), by decide +kernel⟩,
    ⟨1, (w64 2), (ses 2), (host 2), up_of (by decide +kernel), granted_of (by decide +kernel), by decide +kernel⟩,
    ⟨1, (w64 1), (ses 2), (host 2), up_of (by decide +kernel), granted_of (by decide +kernel), by decide +kernel⟩,
    ⟨1, (w64 1), (ses 2), ((host 2).onGo 0 (fun g => { g with hv := true })), granted_of (by decide +kernel), by decide +kernel⟩,
    ⟨.hearthFailover, ((host 2).onHearth (fun h => { h with pairB := .shadow, checkpointTb := some 5 })), by decide +kernel, up_of (by decide +kernel), by decide +kernel⟩,
    ⟨.watchdog, ((host 2).onHearth (fun h => { h with pairB := .shadow, checkpointTb := some 5 })), by decide +kernel, up_of (by decide +kernel), by decide +kernel⟩,
    ⟨(host 2), up_of (by decide +kernel), by decide +kernel⟩,
    ⟨(host 2), up_of (by decide +kernel)⟩,
    ⟨true, (live.onHearth (fun h => { h with pairA := .selfTest 100000000000, pairB := .primary })), 100000000000, by decide +kernel, by decide +kernel, by intro y h; exact absurd h (by simp [live, State.onHearth])⟩,
    ⟨false, (live.onHearth (fun h => { h with pairA := .selfTest 100000000000, pairB := .primary })), 100000000000, by decide +kernel, by decide +kernel, by intro y h; exact absurd h (by simp [live, State.onHearth])⟩,
    ⟨true, (live.onHearth (fun h => { h with pairB := .selfTest 100000000000 })), 100000000000, by decide +kernel, by decide +kernel, by intro y h; exact absurd h (by simp [live, State.onHearth])⟩,
    ⟨false, (live.onHearth (fun h => { h with pairB := .selfTest 100000000000 })), 100000000000, by decide +kernel, by decide +kernel, by intro y h; exact absurd h (by simp [live, State.onHearth])⟩,
    ⟨live, by decide +kernel⟩⟩

/-- States and operands that meet the hypotheses of `FourthWarmResetIsCold`, clause by clause. -/
theorem test_wit_FourthWarmResetIsCold :
    (∃ (s : State), s.up ∧ s.shadowReady = false ∧ 3 ≤ (s.pwr.warmTbs.filter (fun x => decide (s.clock.tb < x + 60 * tbSecond))).length) ∧
    (∃ (sid : Sid) (v : W64) (h : Session) (s : State), s.up ∧ s.Granted sid h R.SYS_RESET [] (F.SYS_RESET_KIND.put v 1) ∧ 3 ≤ (s.pwr.warmTbs.filter (fun x => decide (s.clock.tb < x + 60 * tbSecond))).length) :=
  ⟨⟨((host 2).onPwr (fun p => { p with warmTbs := [99000000000, 99000000000, 98500000001] })), up_of (by decide +kernel), by decide +kernel⟩,
    ⟨1, (w64 2), (ses 2), ((host 2).onPwr (fun p => { p with warmTbs := [99000000000, 99000000000, 98500000001] })), up_of (by decide +kernel), granted_of (by decide +kernel), by decide +kernel⟩⟩

/-- States and operands that meet the hypotheses of `ClocksAndTime`, clause by clause. -/
theorem test_wit_ClocksAndTime :
    (∃ (s : State), s.up ∧ s.pwr.pll = true ∧ s.guard.safe = none ∧ s.anyHv = true) ∧
    (∃ (s : State), s.up ∧ s.pwr.pll = true ∧ s.guard.safe = none ∧ s.anyHv = false) ∧
    (∃ (s : State) (strap ticks : Nat) (c : Bool), s.pwr.bootWait = some (strap, ticks, c) ∧ s.hearth.running = true ∧ s.pwr.xtal = false ∧ s.pwr.inReset = false) ∧
    (∃ (s : State), s.pwr.mode ≠ .off ∧ s.pwr.lprc = false) ∧
    (∃ (s : State), s.pwr.mode ≠ .off ∧ s.pwr.lprc = true) ∧
    (∃ (s : State), s.clock.run = true) ∧
    (∃ (w : Nat) (s : State), s.clock.run = true ∧ s.wallNow = some w) ∧
    (∃ (w : Nat) (s : State), s.clock.run = true ∧ s.wallNow = some w ∧ s.pwr.mode ≠ .off ∧ s.fld R.PWR_ALARM F.PWR_ALARM_WALL [] ≠ 0 ∧ s.fld R.PWR_ALARM F.PWR_ALARM_WALL [] ≤ w) ∧
    (∃ (c : Instr) (s : State), (c = .pilotSupplyUp ∨ c = .pilotSupplyLoss)) ∧
    (∃ (c : Instr) (s : State), (c = .pilotSupplyUp ∨ c = .pilotSupplyLoss)) :=
  ⟨⟨(hot .charging), up_of (by decide +kernel), by decide +kernel⟩,
    ⟨(veh .charging), up_of (by decide +kernel), by decide +kernel⟩,
    ⟨(live.onPwr (fun p => { p with xtal := false, pll := false, level := 1, bootWait := some (0, 5, false) })), 0, 5, false, by decide +kernel⟩,
    ⟨live, by decide +kernel⟩,
    ⟨(live.onPwr (fun p => { p with lprc := true })), by decide +kernel⟩,
    ⟨(billed 2), by decide +kernel⟩,
    ⟨1000400000, (billed 2), by decide +kernel⟩,
    ⟨1000400000, ((billed 2).using_ R.PWR_ALARM [] F.PWR_ALARM_WALL 1000400000), by decide +kernel⟩,
    ⟨.pilotSupplyLoss, (veh .charging), by decide +kernel⟩,
    ⟨.pilotSupplyUp, (live.onPwr (fun p => { p with pilotSupply := false })), by decide +kernel⟩⟩

/-- States and operands that meet the hypotheses of `BootAndEmber`, clause by clause. -/
theorem test_wit_BootAndEmber :
    (∃ (strap : Fin 4) (ticks : Nat) (s : State), s.releaseDue = true ∧ s.pwr.flashDead = false ∧ s.life.inTransit = none ∧ s.life.state ≠ .scrapped ∧ strap.1 ≠ 1 ∧ (s.fw.readRecord.comps[(0 : Fin 5)]).bootable = true ∧ ((s.fw.readRecord.comps[(0 : Fin 5)]).judged = true → (s.fw.readRecord.comps[(0 : Fin 5)]).starts < 3 ∧ (s.fw.readRecord.comps[(0 : Fin 5)]).secondsNow s.clock.tb < 1800)) ∧
    (∃ (strap : Fin 4) (ticks : Nat) (s : State), s.releaseDue = true ∧ s.pwr.flashDead = false ∧ s.life.inTransit = none ∧ s.life.state ≠ .scrapped ∧ strap.1 ≠ 1 ∧ (s.fw.readRecord.comps[(0 : Fin 5)]).bootable = true ∧ ((s.fw.readRecord.comps[(0 : Fin 5)]).judged = true → (s.fw.readRecord.comps[(0 : Fin 5)]).starts < 3 ∧ (s.fw.readRecord.comps[(0 : Fin 5)]).secondsNow s.clock.tb < 1800)) ∧
    (∃ (ticks : Nat) (crystal : Bool) (s : State), s.releaseDue = true ∧ s.pwr.flashDead = false ∧ s.life.inTransit = none ∧ s.life.state ≠ .scrapped) ∧
    (∃ (strap : Fin 4) (ticks : Nat) (crystal : Bool) (s : State), s.releaseDue = true ∧ s.pwr.flashDead = false ∧ s.life.inTransit = none ∧ s.life.state ≠ .scrapped ∧ (s.fw.readRecord.comps[(0 : Fin 5)]).judged = false ∧ (s.fw.readRecord.comps[(0 : Fin 5)]).bootable = false) ∧
    (∃ (strap : Fin 4) (ticks : Nat) (crystal : Bool) (s : State), s.releaseDue = true ∧ s.pwr.flashDead = true) ∧
    (∃ (strap ticks : Nat) (crystal : Bool) (s : State), s.pwr.bootWait = some (strap, ticks, crystal) ∧ s.pwr.flashDead = true ∧ s.pwr.inReset = true) ∧
    (∃ (strap ticks : Nat) (crystal : Bool) (s : State), s.pwr.bootWait = some (strap, ticks, crystal) ∧ s.pwr.flashDead = true ∧ s.pwr.inReset = true) ∧
    (∃ (s : State), s.fld R.PWR_SLEEPCFG F.PWR_SLEEPCFG_AUTO [] = 1 ∧ s.hearth.running = true ∧ s.clock.run = true ∧ s.maySleep = true ∧ s.pwr.idleTb + s.fld R.PWR_SLEEPCFG F.PWR_SLEEPCFG_IDLE_S [] * tbSecond ≤ s.clock.tb) ∧
    (∃ (sid : Sid) (v : W64) (h : Session) (s : State), s.Granted sid h R.PWR_SLEEPCFG [] (F.PWR_SLEEPCFG_SLEEP.put v 1) ∧ s.maySleep = true) ∧
    (∃ (sid : Sid) (v : W64) (h : Session) (s : State), s.Granted sid h R.PWR_SLEEPCFG [] (F.PWR_SLEEPCFG_SLEEP.put v 1) ∧ s.maySleep = false) ∧
    (∃ (src : WakeSource) (strap : Fin 4) (ticks : Nat) (bad : BitVec 8) (s : State), s.pwr.mode = .ember ∧ s.wakeOn src = true ∧ bitOf bad.toNat 0 = false ∧ strap.1 ≠ 1) ∧
    (∃ (src : WakeSource) (strap : Fin 4) (ticks : Nat) (bad : BitVec 8) (s : State), s.pwr.mode = .ember ∧ s.wakeOn src = true ∧ bitOf bad.toNat 0 = false ∧ strap.1 ≠ 1) ∧
    (∃ (src : WakeSource) (ticks : Nat) (bad : BitVec 8) (s : State), s.pwr.mode = .ember ∧ s.wakeOn src = true ∧ bitOf bad.toNat 0 = false) ∧
    (∃ (src : WakeSource) (strap : Fin 4) (ticks : Nat) (bad : BitVec 8) (s : State), s.pwr.mode = .ember ∧ s.wakeOn src = true ∧ bitOf bad.toNat 0 = true ∧ s.pwr.inReset = false) :=
  ⟨⟨0, 77, State.reset, by decide +kernel⟩,
    ⟨3, 77, (State.reset.onPwr (fun p => { p with vin := false, mode := .off })), by decide +kernel⟩,
    ⟨77, true, State.reset, by decide +kernel⟩,
    ⟨0, 77, true, (State.reset.onFw (fun x => { x with comps := upd x.comps 0 (fun c => { c with running := false }) })), by decide +kernel⟩,
    ⟨0, 77, true, (State.reset.onPwr (fun p => { p with flashDead := true })), by decide +kernel⟩,
    ⟨1, 77, true, (State.reset.onPwr (fun p => { p with flashDead := true, bootWait := some (1, 77, true) })), by decide +kernel⟩,
    ⟨0, 77, true, (State.reset.onPwr (fun p => { p with flashDead := true, bootWait := some (0, 77, true) })), by decide +kernel⟩,
    ⟨(live.using_ R.PWR_SLEEPCFG [] F.PWR_SLEEPCFG_AUTO 1), by decide +kernel⟩,
    ⟨1, 1, (ses 2), (host 2), granted_of (by decide +kernel), by decide +kernel⟩,
    ⟨1, 1, (ses 2), (vhost 2 .charging), granted_of (by decide +kernel), by decide +kernel⟩,
    ⟨.hp0, 0, 100, 0x80, ember, by decide +kernel⟩,
    ⟨.hp0, 3, 100, 0, ember, by decide +kernel⟩,
    ⟨.hp0, 100, 0x80, ember, by decide +kernel⟩,
    ⟨.hp0, 0, 100, 1, ember, by decide +kernel⟩⟩

/-- States and operands that meet the hypotheses of `UpdateBlocks`, clause by clause. -/
theorem test_wit_UpdateBlocks :
    (∃ (j : Slot) (s : State) (u : UpdateJob), (s.job j).code = 0x30 ∧ (s.job j).state = .queued ∧ s.fw.job = some u ∧ u.job = j) ∧
    (∃ (j : Slot) (s : State) (u : UpdateJob), (s.job j).code = 0x30 ∧ (s.job j).state = .queued ∧ s.fw.job = some u ∧ u.job = j) ∧
    (∃ (j : Slot) (s : State), (s.job j).code = 0x30 ∧ ((s.job j).state = .queued ∨ (s.job j).state = .running) ∧ (∀ u, s.fw.job = some u → u.job ≠ j)) ∧
    (∃ (j : Slot) (s : State) (u : UpdateJob) (w0 : W64) (rest : List W64), (s.job j).code = 0x30 ∧ (s.job j).state = .running ∧ s.fw.job = some u ∧ u.job = j ∧ u.stage = 1 ∧ (s.job j).input = w0 :: rest) ∧
    (∃ (j : Slot) (s : State) (u : UpdateJob) (w0 : W64) (rest : List W64), (s.job j).code = 0x30 ∧ (s.job j).state = .running ∧ s.fw.job = some u ∧ u.job = j ∧ u.stage = 1 ∧ (s.job j).input = w0 :: rest) ∧
    (∃ (s : State) (u : UpdateJob), s.fw.job = some u) ∧
    (∃ (s : State) (u : UpdateJob), s.fw.job = some u) ∧
    (∃ (s : State) (c : Checkpoint) (t0 : Nat), s.fw.checkpoint = some c ∧ s.fw.job = none ∧ c.dropTb = some t0) ∧
    (∃ (s : State) (c : Checkpoint) (t0 : Nat), s.fw.checkpoint = some c ∧ s.fw.job = none ∧ c.dropTb = some t0) :=
  ⟨⟨0, (((host 2).withJob (queued 0x30 2 [])).onFw (fun x => { x with job := some (upd1 1 0 2) })), (upd1 1 0 2), by decide +kernel⟩,
    ⟨0, (((host 2).withJob (queued 0x30 2 [])).onFw (fun x => { x with job := some (upd1 1 5 2) })), (upd1 1 5 2), by decide +kernel⟩,
    ⟨0, ((host 2).withJob (queued 0x30 2 [])), by decide +kernel⟩,
    ⟨0, ((updating (upd1 1 0 2)).onJob 0 (fun b => { b with input := [5, 6] })), (upd1 1 0 2), 5, [6], by decide +kernel⟩,
    ⟨0, ((updating (upd1 1 0 2)).onJob 0 (fun b => { b with input := [0x0008000100000000#64, 0#64, 77#64, w64 (crc32c (wordBytes [0x0008000100000000#64, 0#64, 77#64]))] })), (upd1 1 0 2), 0x0008000100000000#64, [0#64, 77#64, w64 (crc32c (wordBytes [0x0008000100000000#64, 0#64, 77#64]))], by decide +kernel⟩,
    ⟨(updating (upd1 3 0 2)), (upd1 3 0 2), by decide +kernel⟩,
    ⟨(updating { upd1 3 0 2 with tokenTb := 97000000001 }), { upd1 3 0 2 with tokenTb := 97000000001 }, by decide +kernel⟩,
    ⟨(live.onFw (fun x => { x with checkpoint := some ⟨3, 0, 2, 2, 5, [], 80, 0, some 100000000000, true⟩ })), ⟨3, 0, 2, 2, 5, [], 80, 0, some 100000000000, true⟩, 100000000000, by decide +kernel⟩,
    ⟨(live.onFw (fun x => { x with checkpoint := some ⟨3, 0, 2, 2, 5, [], 80, 0, some 100000000001, false⟩ })), ⟨3, 0, 2, 2, 5, [], 80, 0, some 100000000001, false⟩, 100000000001, by decide +kernel⟩⟩

/-- States and operands that meet the hypotheses of `UpdatesAreVerified`, clause by clause. -/
theorem test_wit_UpdatesAreVerified :
    ∃ (s : State) (u : UpdateJob), s.fw.job = some u ∧ u.stage = 2 ∧ (s.job u.job).state = .running ∧ (s.job u.job).fits ⟨0x30, [0, 0]⟩ = true :=
  ⟨(updating (upd1 2 0 2)), (upd1 2 0 2), by decide +kernel⟩

/-- States and operands that meet the hypotheses of `AnchorScopes`, clause by clause. -/
theorem test_wit_AnchorScopes :
    (∃ (s : State) (u : UpdateJob) (a : Anchor) (isSealed : Bool) (l : List Anchor), s.fw.job = some u ∧ u.stage = 2 ∧ (s.job u.job).state = .running ∧ (s.job u.job).fits ⟨0x30, [0, 0]⟩ = true ∧ u.kind = 2 ∧ anchorOf u.data = some (a, isSealed) ∧ l = (if isSealed then s.mseal.record.anchors else s.fw.unsealedAnchors)) ∧
    (∃ (s : State) (u : UpdateJob) (a : Anchor) (isSealed : Bool) (l : List Anchor), s.fw.job = some u ∧ u.stage = 2 ∧ (s.job u.job).state = .running ∧ (s.job u.job).fits ⟨0x30, [0, 0]⟩ = true ∧ u.kind = 2 ∧ anchorOf u.data = some (a, isSealed) ∧ l = (if isSealed then s.mseal.record.anchors else s.fw.unsealedAnchors)) ∧
    (∃ (s : State) (u : UpdateJob) (a : Anchor) (isSealed : Bool) (l : List Anchor), s.fw.job = some u ∧ u.stage = 2 ∧ (s.job u.job).state = .running ∧ (s.job u.job).fits ⟨0x30, [0, 0]⟩ = true ∧ u.kind = 2 ∧ anchorOf u.data = some (a, isSealed) ∧ l = (if isSealed then s.mseal.record.anchors else s.fw.unsealedAnchors)) ∧
    (∃ (s : State) (u : UpdateJob) (n : Nat), s.fw.job = some u ∧ u.stage = 2 ∧ (s.job u.job).state = .running ∧ (s.job u.job).fits ⟨0x30, [0, 0]⟩ = true ∧ u.kind = 3 ∧ anchorId u.data = some n) ∧
    (∃ (s : State) (u : UpdateJob) (n : Nat), s.fw.job = some u ∧ u.stage = 2 ∧ (s.job u.job).state = .running ∧ (s.job u.job).fits ⟨0x30, [0, 0]⟩ = true ∧ u.kind = 3 ∧ anchorId u.data = some n) ∧
    (∃ (s : State) (u : UpdateJob) (n : Nat), s.fw.job = some u ∧ u.stage = 2 ∧ (s.job u.job).state = .running ∧ (s.job u.job).fits ⟨0x30, [0, 0]⟩ = true ∧ u.kind = 3 ∧ anchorId u.data = some n) :=
  ⟨⟨(updating { upd1 2 2 0 with data := anchorData true }), { upd1 2 2 0 with data := anchorData true }, anchor, true, [], by decide +kernel⟩,
    ⟨(updating { upd1 2 2 0 with data := anchorData false }), { upd1 2 2 0 with data := anchorData false }, anchor, false, [], by decide +kernel⟩,
    ⟨((updating { upd1 2 2 0 with data := anchorData true, polder := 1 }).onMseal (fun m => { m with record := { m.record with open_ := true } })), { upd1 2 2 0 with data := anchorData true, polder := 1 }, anchor, true, [], by decide +kernel⟩,
    ⟨((updating { upd1 2 3 0 with data := removeData 5 }).onFw (fun x => { x with unsealedAnchors := [{ anchor with id := 5 }] })), { upd1 2 3 0 with data := removeData 5 }, 5, by decide +kernel⟩,
    ⟨((updating { upd1 2 3 0 with data := removeData 5 }).onMseal (fun m => { m with record := { m.record with anchors := [{ anchor with id := 5 }] } })), { upd1 2 3 0 with data := removeData 5 }, 5, by decide +kernel⟩,
    ⟨((updating { upd1 2 3 0 with data := removeData 0 }).onGrate (fun g => { g with plan := some plan })), { upd1 2 3 0 with data := removeData 0 }, 0, by decide +kernel⟩⟩

/-- States and operands that meet the hypotheses of `ActivationTrialAndRevert`, clause by clause. -/
theorem test_wit_ActivationTrialAndRevert :
    (∃ (sid : Sid) (v w : W64) (h : Session) (s : State) (u : UpdateJob), w = F.UPD_CTRL_ACTIVATE.put v 1 ∧ s.Granted sid h R.UPD_CTRL [] w ∧ s.fw.job = some u ∧ F.UPD_CTRL_CONFIRM.get w.toNat = 0 ∧ F.UPD_CTRL_REVERT.get w.toNat = 0) ∧
    (∃ (sid : Sid) (v w : W64) (h : Session) (s : State) (u : UpdateJob), w = F.UPD_CTRL_ACTIVATE.put v 1 ∧ s.Granted sid h R.UPD_CTRL [] w ∧ s.fw.job = some u ∧ F.UPD_CTRL_CONFIRM.get w.toNat = 0 ∧ F.UPD_CTRL_REVERT.get w.toNat = 0) ∧
    (∃ (sid : Sid) (v w : W64) (h : Session) (s : State) (u : UpdateJob), w = F.UPD_CTRL_ACTIVATE.put v 1 ∧ s.Granted sid h R.UPD_CTRL [] w ∧ s.fw.job = some u ∧ F.UPD_CTRL_CONFIRM.get w.toNat = 0 ∧ F.UPD_CTRL_REVERT.get w.toNat = 0) ∧
    (∃ (sid : Sid) (v : W64) (h : Session) (s : State), s.Ready sid h ∧ s.holds sid.1 = false) ∧
    (∃ (sid : Sid) (v w : W64) (h : Session) (s : State), w = F.UPD_CTRL_CONFIRM.put v 1 ∧ s.Granted sid h R.UPD_CTRL [] w ∧ F.UPD_CTRL_ACTIVATE.get w.toNat = 0 ∧ F.UPD_CTRL_REVERT.get w.toNat = 0) ∧
    (∃ (sid : Sid) (v w : W64) (h : Session) (s : State), w = F.UPD_CTRL_CONFIRM.put v 1 ∧ s.Granted sid h R.UPD_CTRL [] w ∧ F.UPD_CTRL_ACTIVATE.get w.toNat = 0 ∧ F.UPD_CTRL_REVERT.get w.toNat = 0) ∧
    (∃ (sid : Sid) (v w : W64) (h : Session) (s : State), w = F.UPD_CTRL_CONFIRM.put v 1 ∧ s.Granted sid h R.UPD_CTRL [] w ∧ F.UPD_CTRL_ACTIVATE.get w.toNat = 0 ∧ F.UPD_CTRL_REVERT.get w.toNat = 0) ∧
    (∃ (sid : Sid) (v w : W64) (h : Session) (s : State), w = F.UPD_CTRL_REVERT.put v 1 ∧ s.Granted sid h R.UPD_CTRL [] w ∧ F.UPD_CTRL_ACTIVATE.get w.toNat = 0 ∧ F.UPD_CTRL_CONFIRM.get w.toNat = 0) ∧
    (∃ (sid : Sid) (v w : W64) (h : Session) (s : State), w = F.UPD_CTRL_REVERT.put v 1 ∧ s.Granted sid h R.UPD_CTRL [] w ∧ F.UPD_CTRL_ACTIVATE.get w.toNat = 0 ∧ F.UPD_CTRL_CONFIRM.get w.toNat = 0) ∧
    (∃ (k : CompNo) (s : State), ((s.fw.comps[k]).trial = true ∨ (s.fw.comps[k]).recheck = true)) ∧
    (∃ (k : CompNo) (s : State), ((s.fw.comps[k]).trial = true ∨ (s.fw.comps[k]).recheck = true)) ∧
    (∃ (k : CompNo) (s : State), ((s.fw.comps[k]).trial = true ∨ (s.fw.comps[k]).recheck = true)) ∧
    (∃ (k : CompNo) (s : State), ((s.fw.comps[k]).trial = true ∨ (s.fw.comps[k]).recheck = true)) :=
  ⟨⟨1, 1, (F.UPD_CTRL_ACTIVATE.put 1 1), (ses 2), (updating (upd1 3 0 2)), (upd1 3 0 2), by decide +kernel, granted_of (by decide +kernel), by decide +kernel⟩,
    ⟨1, 1, (F.UPD_CTRL_ACTIVATE.put 1 1), (ses 2), (updating (upd1 3 0 0)), (upd1 3 0 0), by decide +kernel, granted_of (by decide +kernel), by decide +kernel⟩,
    ⟨1, 1, (F.UPD_CTRL_ACTIVATE.put 1 1), (ses 2), ((updating (upd1 3 0 2)).onGo 0 (fun g => { g with hv := true })), (upd1 3 0 2), by decide +kernel, granted_of (by decide +kernel), by decide +kernel⟩,
    ⟨1, 1, (ses 2), (updating { upd1 3 0 2 with holder := none }), ready_of (by decide +kernel), by decide +kernel⟩,
    ⟨1, 0, (F.UPD_CTRL_CONFIRM.put 0 1), (ses 2), (host 2), by decide +kernel, granted_of (by decide +kernel), by decide +kernel⟩,
    ⟨1, 0, (F.UPD_CTRL_CONFIRM.put 0 1), (ses 2), (trial 0), by decide +kernel, granted_of (by decide +kernel), by decide +kernel⟩,
    ⟨1, 0, (F.UPD_CTRL_CONFIRM.put 0 1), (ses 2), (trial 1), by decide +kernel, granted_of (by decide +kernel), by decide +kernel⟩,
    ⟨1, 0, (F.UPD_CTRL_REVERT.put 0 1), (ses 2), (host 2), by decide +kernel, granted_of (by decide +kernel), by decide +kernel⟩,
    ⟨1, 0, (F.UPD_CTRL_REVERT.put 0 1), (ses 2), (trial 2), by decide +kernel, granted_of (by decide +kernel), by decide +kernel⟩,
    ⟨2, (trial 2), by decide +kernel⟩,
    ⟨2, ((trial 2).onComp 2 (fun c => { c with seconds := 1740 })), by decide +kernel⟩,
    ⟨2, (trial 2), by decide +kernel⟩,
    ⟨2, ((trial 2).onComp 2 (fun c => { c with secTb := 98500000001 })), by decide +kernel⟩⟩

/-- States and operands that meet the hypotheses of `LogAndBandwidth`, clause by clause. -/
theorem test_wit_LogAndBandwidth :
    (∃ (j : Slot) (s : State) (l : List LogEntry), s.jobTurn j 0x50 = true ∧ (s.job j).records = [] ∧ l = (s.log.held.filter (fun e => decide ((s.job j).param 1 ≤ e.index) && (bitsOf ((s.job j).param 2) 16 8 == 0 || bitOf (bitsOf ((s.job j).param 2) 16 8) e.ev.cls) && bitOf (classPolders e.ev.cls) (s.job j).polder)).take (bitsOf ((s.job j).param 2) 0 15)) ∧
    (∃ (j : Slot) (s : State) (l : List LogEntry), s.jobTurn j 0x50 = true ∧ (s.job j).records = [] ∧ l = (s.log.held.filter (fun e => decide ((s.job j).param 1 ≤ e.index) && (bitsOf ((s.job j).param 2) 16 8 == 0 || bitOf (bitsOf ((s.job j).param 2) 16 8) e.ev.cls) && bitOf (classPolders e.ev.cls) (s.job j).polder)).take (bitsOf ((s.job j).param 2) 0 15)) ∧
    (∃ (j : Slot) (s : State) (l : List LogEntry), s.jobTurn j 0x50 = true ∧ (s.job j).records = [] ∧ l = (s.log.held.filter (fun e => decide ((s.job j).param 1 ≤ e.index) && (bitsOf ((s.job j).param 2) 16 8 == 0 || bitOf (bitsOf ((s.job j).param 2) 16 8) e.ev.cls) && bitOf (classPolders e.ev.cls) (s.job j).polder)).take (bitsOf ((s.job j).param 2) 0 15)) ∧
    (∃ (sid : Sid) (v : W64) (h : Session) (s : State), s.Granted sid h R.CNT_BWCFG [] v) ∧
    (∃ (sid : Sid) (v : W64) (h : Session) (s : State), s.Granted sid h R.CNT_BWCFG [] v) :=
  ⟨⟨0, (live.withJob (queued 0x50 2 [0, 16384])), [], by decide +kernel⟩,
    ⟨0, (live.withJob (queued 0x50 2 [0, 0])), [], by decide +kernel⟩,
    ⟨0, ((live.onLog (fun l => { l with ring := [⟨5, 6, .reset, 0, 7, 0, 0, 0, 1⟩] })).withJob (queued 0x50 2 [0, 9])), [⟨5, 6, .reset, 0, 7, 0, 0, 0, 1⟩], by decide +kernel⟩,
    ⟨1, (w64 0), (ses 2), (host 2), granted_of (by decide +kernel)⟩,
    ⟨1, (w64 0x1E1E1E1E1E1E1E1E), (ses 2), (host 2), granted_of (by decide +kernel)⟩⟩


/-! Three clauses rest on a function of `Sys2Proof.Config` that has no body: their witnesses assume the value it would have to give. -/

/-- The job of an import. -/
def importing : State := keyed.withJob (queued 0x21 2 [])

/-- A blob of the right length that unwraps to a key of the right length meets the other hypotheses of `KeySlotsFillEmptyAndExpire` 2 and of
`DescendantsBecomeOrphan` 3. -/
theorem test_wit_key_import (blob : Bytes) (hl : blob.length = Config.blobLength 3)
    (hk : Config.unwrapBlob (importing.slot 1).key blob = some (List.replicate 48 1#8)) :
    ∃ (j : Slot) (p : ImportParams) (s : State) (key : Bytes), s.jobTurn j 0x21 = true ∧ (s.job j).records = [] ∧ importOk p = true ∧
      ((s.job j).commissioning = true → p.target.1 = 7 + (s.job j).polder) ∧ s.targetRefusal (s.job j).polder p.target true = none ∧
      s.remasking p.target = false ∧ (s.slot 1).refusal engECDH s.clock.tb = none ∧ Config.unwrapBlob (s.slot 1).key p.blob = some key ∧
      key.length = importBytes p.kind :=
  ⟨0, { target := 103, blob, kind := 3, engines := 1, legacy := 0 }, importing, List.replicate 48 1#8, by decide +kernel, by decide +kernel,
    by simp [importOk, hl], (by decide +kernel : (importing.job 0).commissioning = true → (103 : KeySlotNo).1 = 7 + (importing.job 0).polder),
    (by decide +kernel : importing.targetRefusal (importing.job 0).polder 103 true = none),
    (by decide +kernel : importing.remasking 103 = false), by decide +kernel, hk,
    (by decide +kernel : (List.replicate 48 1#8).length = importBytes 3)⟩

/-- The job of an attestation with the last index of a tree. -/
def attesting : State :=
  (keyed.withJob (queued 0x23 2 [])).onKeys (fun k => { k with hss := { k.hss with next := 1024, boundary := 1088, nextReady := true } })

/-- A record that is not too long meets the other hypotheses of `AttestationAndLifeCycle` 1. -/
theorem test_wit_attest (nonce : Bytes) (hn : nonce.length = 64)
    (hl : Config.identityCert.length + (attesting.report nonce).length +
      (ecdsaSign (attesting.slot 1).key (sha384 (attesting.report nonce))).length +
      (Config.hssSign (attesting.slot 2).key attesting.keys.hss.next (sha384 (attesting.report nonce))).length ≤ 1000000) :
    ∃ (j : Slot) (nonce : Bytes) (s : State), s.jobTurn j 0x23 = true ∧ (s.job j).records = [] ∧ nonce.length = 64 ∧ s.log.flashOk = true ∧
      s.keys.hss.left = true ∧ (s.keys.hss.newTree = true → s.keys.hss.nextReady = true) ∧
      (s.slot 1).refusal engECDSA s.clock.tb = none ∧ (s.slot 2).refusal engLMS s.clock.tb = none ∧
      Config.identityCert.length + (s.report nonce).length + (ecdsaSign (s.slot 1).key (sha384 (s.report nonce))).length +
        (Config.hssSign (s.slot 2).key s.keys.hss.next (sha384 (s.report nonce))).length ≤ 1000000 :=
  ⟨0, nonce, attesting, by decide +kernel, by decide +kernel, hn, by decide +kernel, by decide +kernel, by decide +kernel, by decide +kernel,
    by decide +kernel, hl⟩

/-- A device in service with the door open and the job of a return. -/
def returning : State := State.withJob { door with life := { live.life with state := .field, nonce := some (5, 99999999999) } } (queued 0x24 4 [])

/-- An authorisation that holds meets the hypotheses of `ReturnNeedsAuthorisation` 1. -/
theorem test_wit_return (auth : ReturnAuth) (ha : returning.returnOk auth = true) :
    ∃ (c : Instr) (s t : State), exec c s = .next t ∧ s.life.state = .field ∧ s.life.inTransit = none ∧ t.life.state = .returned := by
  refine ⟨.lifecycle 0 3 auth, returning, lifecycle 0 3 auth returning, rfl, by decide +kernel, by decide +kernel, ?_⟩
  have h : lifecycle 0 3 auth returning =
      State.transition { returning with life := { returning.life with nonce := none } } .returned := by
    have ht : lifeTarget returning.life.state 3 = some .returned := by decide +kernel
    unfold lifecycle
    rw [if_pos (by decide +kernel), if_neg (by decide +kernel), if_neg (by decide), ht]
    simp only [ha]
    rw [if_neg (by decide +kernel), if_neg (by decide)]
  rw [h]
  decide +kernel


end Sys2Proof.Tests
end

section
/-!
What the shared operations do to key slots, sessions and the response: the uses of a key, the closing of a session, and the way of a frame
that passes R100 from its intake to its answer.
-/

namespace Sys2Proof.Machine

/-! ### Key slots (R61, R64, R65, R73) -/

/-- Slot `m` after a change of slot `n`. -/
theorem State.onSlot_slot (s : State) (n m : Fin 256) (g : KeySlot → KeySlot) :
    (s.onSlot n g).slot m = if n = m then g (s.slot m) else s.slot m := by
  split
  case isTrue hnm => subst hnm; exact upd_same ..
  case isFalse hnm => exact upd_other _ _ _ _ hnm

/-- The slots are a part of the Key Register. -/
theorem State.slot_of_keys {s t : State} (hk : t.keys = s.keys) (m : Fin 256) : t.slot m = s.slot m := by
  unfold State.slot; rw [hk]

@[simp] theorem State.bump_slot (s : State) (k : Fin 24) (d : Nat) (m : Fin 256) : (s.bump k d).slot m = s.slot m :=
  State.slot_of_keys (by simp) m

@[simp] theorem State.logEv_slot (s : State) (ev : Ev) (inst polder origin x y : Nat) (m : Fin 256) :
    (s.logEv ev inst polder origin x y).slot m = s.slot m := State.slot_of_keys (by simp) m

@[simp] theorem State.refuse_slot (s : State) (status slot engine polder : Nat) (keyReg : Bool) (m : Fin 256) :
    (s.refuse status slot engine polder keyReg).slot m = s.slot m := State.bump_slot ..

/-- Slot `m` after a use of slot `n`: a use that starts is counted, a refusal changes no slot. -/
theorem State.keyUse_slot (s : State) (n m : Fin 256) (engine polder : Nat) :
    (s.keyUse n engine polder).2.slot m =
      if n = m ∧ (s.slot n).refusal engine s.clock.tb = none then (s.slot m).used else s.slot m := by
  unfold State.keyUse
  split
  case h_1 st hst => simp [hst]
  case h_2 hst => simp [hst, State.onSlot_slot]

/-- A use leaves every other slot as it was. -/
theorem State.keyUse_slot_other (s : State) {n m : Fin 256} (hnm : m ≠ n) (engine polder : Nat) :
    (s.keyUse n engine polder).2.slot m = s.slot m := by
  simp [State.keyUse_slot, hnm.symm]

/-- A use keeps the generation of every slot. -/
@[simp] theorem State.keyUse_gen (s : State) (n m : Fin 256) (engine polder : Nat) :
    ((s.keyUse n engine polder).2.slot m).gen = (s.slot m).gen := by
  rw [State.keyUse_slot]
  split <;> simp [KeySlot.used]

/-- Orphaning keeps the generation of every slot. -/
@[simp] theorem State.orphanFrom_gen (s : State) (n m : Fin 256) : ((s.orphanFrom n).2.slot m).gen = (s.slot m).gen := by
  have fold : ∀ (l : List (Fin 256)) (v : Vector KeySlot 256),
      ((l.foldl (fun v c => upd v c (fun x => { x with state := .orphan })) v)[m]).gen = v[m].gen := by
    intro l
    induction l with
    | nil => intro v; rfl
    | cons c l ih =>
      intro v
      rw [List.foldl_cons, ih]
      by_cases hcm : c = m
      · subst hcm; rw [upd_same]
      · rw [upd_other _ _ _ _ hcm]
  exact fold _ _

/-- An emptied slot is EMPTY and keeps its generation. -/
theorem State.emptySlot_slot (s : State) (n : Fin 256) : (s.emptySlot n).2.slot n = { KeySlot.reset with gen := (s.slot n).gen } := by
  have h := (s.orphanFrom n).2.onSlot_slot n n (fun k => { KeySlot.reset with gen := k.gen })
  rwa [if_pos rfl, State.orphanFrom_gen] at h

/-! ### The closing of a session (R103, R114) -/

/-- From `s` to `t` session `h` of ID `i` has closed: its ID is at the back of the free list, its key slot, if it has one, is EMPTY and keeps its
generation, and nothing else of the host ports has changed but the time at which its port fell idle. Outside the host ports at most the Key
Register and the update have changed: descendants of the emptied slot are ORPHAN (R73), and an update that the session held waits (R498). -/
structure State.Closed (s t : State) (i : Fin 64) (h : Session) : Prop where
  host : t.host = { s.host with table := s.host.table.set i .free, freeSids := s.host.freeSids ++ [i], ports := t.host.ports }
  key : ∀ n, h.keySlot = some n → t.slot n = { KeySlot.reset with gen := (s.slot n).gen }
  rest : t = { s with host := t.host, keys := t.keys, fw := t.fw }

/-- An ID in use goes to the back of the free list. -/
theorem State.freeSid_host {s : State} {i : Fin 64} (hi : s.sidUse i ≠ .free) :
    (s.freeSid i).host = { s.host with table := s.host.table.set i .free, freeSids := s.host.freeSids ++ [i] } := by
  unfold State.freeSid
  split
  case h_1 hf => exact absurd hf hi
  case h_2 => rfl

/-- An ID that a host session has is in use. -/
theorem State.sidUse_of_anySession {s : State} {i : Fin 64} {h : Session} (hs : s.anySession i = some h) : s.sidUse i = .host h := by
  unfold State.anySession at hs
  split at hs
  case h_1 x hx => rw [hx, Option.some.inj hs]
  case h_2 => cases hs

/-- A host session that is not opening is an open session. -/
theorem State.session_of_sidUse {s : State} {i : Fin 64} {h : Session} (hs : s.sidUse i = .host h) (ho : h.opening = false) :
    s.session i = some h := by
  simp [State.session, hs, ho]

/-- An open session is a session. -/
theorem State.anySession_of_session {s : State} {i : Fin 64} {h : Session} (hs : s.session i = some h) : s.anySession i = some h := by
  unfold State.session at hs
  split at hs
  case h_1 x hx =>
    split at hs
    · cases hs
    · simpa [State.anySession, hx] using hs
  case h_2 => cases hs

/-- A session that exists closes. -/
theorem State.closeSession_closed {s : State} {i : Fin 64} {h : Session} (hs : s.anySession i = some h) :
    s.Closed (s.closeSession i) i h where
  host := by
    have hi : ∀ x : State, x.host = s.host → x.sidUse i ≠ .free := by
      intro x hx
      rw [State.sidUse, hx, ← State.sidUse, State.sidUse_of_anySession hs]
      simp
    unfold State.closeSession
    rw [hs]
    simp only
    split
    case h_1 n hn =>
      have he : (s.emptySlot n).2.host = s.host := by simp
      split <;> simp [State.freeSid_host (hi _ he)]
    case h_2 => split <;> simp [State.freeSid_host (hi s rfl)]
  key n hn := by
    have hkeys : (s.closeSession i).keys = (s.emptySlot n).2.keys := by
      unfold State.closeSession
      simp only [hs, hn]
      split <;> simp
    rw [State.slot_of_keys hkeys, State.emptySlot_slot]
  rest := by apply State.parts <;> simp

section
variable {s t : State} {i : Fin 64} {h : Session}

/-- The ID of a closed session is free. -/
theorem State.Closed.sidUse_self (c : s.Closed t i h) : t.sidUse i = .free := by
  rw [State.sidUse, c.host]; simp

/-- The closing of a session leaves every other ID as it was. -/
theorem State.Closed.sidUse_other (c : s.Closed t i h) {j : Fin 64} (hji : j ≠ i) : t.sidUse j = s.sidUse j := by
  have : i.1 ≠ j.1 := fun e => hji (Fin.ext e.symm)
  rw [State.sidUse, c.host]
  exact Vector.getElem_set_ne i.2 j.2 this

theorem State.Closed.freeSids (c : s.Closed t i h) : t.host.freeSids = s.host.freeSids ++ [i] := by rw [c.host]

theorem State.Closed.sluices (c : s.Closed t i h) : t.host.sluices = s.host.sluices := by rw [c.host]

theorem State.Closed.resp (c : s.Closed t i h) : t.host.resp = s.host.resp := by rw [c.host]

end

/-! ### The answer to a request (R95, R98, R124) -/

/-- ATTN depends on the jobs and the sluices alone (R124). -/
theorem State.attn_of {s t : State} (hj : t.jobs = s.jobs) (hq : t.host.sluices = s.host.sluices) (polder : Nat) :
    t.attn polder = s.attn polder := by
  unfold State.attn; rw [hj, hq]

/-- An ID's entry is a part of the session table. -/
theorem State.sidUse_of_table {s t : State} (ht : t.host.table = s.host.table) (i : Fin 64) : t.sidUse i = s.sidUse i := by
  unfold State.sidUse; rw [ht]

/-- An answer keeps the Key Register, or it is sealed with one use of its key (R112). -/
theorem State.respond_keys (s : State) (f : Frame) (sid status count : Nat) (payload : List W64) (attn : Bool)
    (wrap : Option (Fin 256 × Bytes × Nat)) :
    (s.respond f sid status count payload attn wrap).keys = s.keys ∨
      ∃ w ∈ wrap, (s.respond f sid status count payload attn wrap).keys = (s.keyUse w.1 engAESX 0).2.keys := by
  unfold State.respond
  cases wrap with
  | none => left; simp only [State.onHost_keys]; (repeat' split) <;> simp
  | some w => simp only [State.onHost_keys]; (repeat' split) <;> simp

section
variable (s : State) (f : Frame) (sid status count : Nat) (payload : List W64) (attn : Bool) {wrap : Option (Fin 256 × Bytes × Nat)}

/-- An answer leaves every slot as it was but that of the key which seals it. -/
theorem State.respond_slot_other {m : Fin 256} (hw : ∀ w ∈ wrap, w.1 ≠ m) :
    (s.respond f sid status count payload attn wrap).slot m = s.slot m := by
  rcases s.respond_keys f sid status count payload attn wrap with hk | ⟨w, hmem, hk⟩
  · exact State.slot_of_keys hk m
  · rw [State.slot_of_keys hk, s.keyUse_slot_other (hw w hmem).symm]

/-- An answer keeps the generation of every slot. -/
theorem State.respond_gen (m : Fin 256) :
    ((s.respond f sid status count payload attn wrap).slot m).gen = (s.slot m).gen := by
  rcases s.respond_keys f sid status count payload attn wrap with hk | ⟨w, -, hk⟩
  · rw [State.slot_of_keys hk]
  · rw [State.slot_of_keys hk, State.keyUse_gen]

/-- An answer leaves every ID as it was. -/
theorem State.respond_sidUse (j : Fin 64) : (s.respond f sid status count payload attn wrap).sidUse j = s.sidUse j :=
  State.sidUse_of_table (by rw [State.respond_host]) j

/-- An answer leaves ATTN as it was. -/
theorem State.respond_attn (polder : Nat) : (s.respond f sid status count payload attn wrap).attn polder = s.attn polder :=
  State.attn_of (by simp) (by rw [State.respond_host]) polder

end

/-! ### The state in which an operation runs (R100, R101) -/

/-- A request keeps the Key Register until its operation runs, or a sealed one uses its session key once (R112). -/
theorem State.consumed_keys (s : State) (i : Fin 64) (h : Session) (e : Nat) :
    (s.consumed i h e).keys = s.keys ∨ (s.consumed i h e).keys = (s.keyUse (h.keySlot.getD 0) engAESX h.polder).2.keys := by
  unfold State.consumed
  simp only
  split <;> simp

/-- Before its operation runs, a request leaves every slot but its session key's as it was. -/
theorem State.consumed_slot_other (s : State) (i : Fin 64) {h : Session} (e : Nat) {m : Fin 256} (hm : m ≠ h.keySlot.getD 0) :
    (s.consumed i h e).slot m = s.slot m := by
  rcases s.consumed_keys i h e with hk | hk
  · exact State.slot_of_keys hk m
  · rw [State.slot_of_keys hk, s.keyUse_slot_other hm]

/-- Before its operation runs, a request keeps the generation of every slot. -/
theorem State.consumed_gen (s : State) (i : Fin 64) (h : Session) (e : Nat) (m : Fin 256) :
    ((s.consumed i h e).slot m).gen = (s.slot m).gen := by
  rcases s.consumed_keys i h e with hk | hk
  · rw [State.slot_of_keys hk]
  · rw [State.slot_of_keys hk, State.keyUse_gen]

/-- Before its operation runs, a request changes nothing of the host ports but the session table. -/
theorem State.consumed_host (s : State) (i : Fin 64) (h : Session) (e : Nat) :
    (s.consumed i h e).host = { s.host with table := (s.consumed i h e).host.table } := by
  unfold State.consumed
  simp only [State.onPwr_host, State.bump_same, State.onSession, State.onHost_host]
  split <;> simp

/-- Before its operation runs, a request leaves every other ID as it was. -/
theorem State.consumed_sidUse_other (s : State) {i j : Fin 64} (h : Session) (e : Nat) (hji : j ≠ i) :
    (s.consumed i h e).sidUse j = s.sidUse j := by
  obtain ⟨hs, ks, cn, lg, heq, -, -, -, -, -, b, ht⟩ := s.consumed_frame i h e
  rw [State.sidUse, heq]
  simp only [ht]
  exact upd_other _ _ _ _ hji.symm

/-- A port that takes a frame clears the response and counts the frame. -/
theorem State.taken_host (s : State) (f : Frame) : (s.taken f).host = { s.host with resp := none } := by
  simp [State.taken]

section
variable {s u : State} {f : Frame} {i : Fin 64} {h : Session} {e : Nat}

/-- A frame that passes came on the port of its session (R111). -/
theorem State.Passes.port (p : s.Passes f i h e) : h.port = f.port := by
  have hn := p.names
  unfold State.sessionOf at hn
  simp only at hn
  split at hn
  case isTrue => cases hn
  case isFalse =>
    split at hn
    case h_1 x _ =>
      split at hn
      case isTrue bound =>
        simp only [Option.some.injEq, Prod.mk.injEq] at hn
        obtain ⟨-, rfl⟩ := hn
        exact bound.1
      case isFalse => cases hn
    case h_2 => cases hn

/-- When the operation of a request runs, nothing else has happened. -/
theorem State.consumed_pathOnly (s : State) (f : Frame) (i : Fin 64) (h : Session) (e : Nat) :
    s.PathOnly ((s.taken f).consumed i h e) i h where
  kept := {
    host := by
      rw [State.consumed_host, State.taken_host]
    others := by
      intro j hj
      rw [State.consumed_sidUse_other _ _ _ hj]
      exact State.sidUse_of_table (by rw [State.taken_host]) j
    slots := by
      intro n hn
      rw [State.consumed_slot_other _ _ _ hn]
      exact State.slot_of_keys (by simp [State.taken]) n }
  rest := by
    obtain ⟨hs, ks, cn, lg, heq, -⟩ := (s.taken f).consumed_frame i h e
    rw [heq]
    apply State.parts <;> simp [State.taken]

/-- Where nothing but the path of a request has happened, its answer adds nothing else. -/
theorem State.PathOnly.respond (po : s.PathOnly u i h) {wrap : Option (Fin 256 × Bytes × Nat)}
    (hw : ∀ w ∈ wrap, w.1 = h.keySlot.getD 0) (sid status count : Nat) (payload : List W64) (attn : Bool) :
    s.PathOnly (u.respond f sid status count payload attn wrap) i h where
  kept := {
    host := by rw [State.respond_host, po.kept.host]
    others := fun j hj => (u.respond_sidUse ..).trans (po.kept.others j hj)
    slots := fun n hn =>
      (u.respond_slot_other _ _ _ _ _ _ (fun w hmem hwn => hn (hwn.symm.trans (hw w hmem)))).trans (po.kept.slots n hn) }
  rest := by
    have hr := po.rest
    apply State.parts <;> simp <;> rw [hr]

/-- From `s` to `u` a request of session `h` under ID `i`, with extended SEQ `e`, has been consumed (R101, R113). -/
def State.Consumes (s u : State) (i : Fin 64) (h : Session) (e : Nat) : Prop :=
  ∃ x, u.session i = some x ∧ x.ext = max h.ext e ∧ e ∈ x.consumed ∧ x.lastTb = s.clock.tb ∧ x.keySlot = h.keySlot

/-- When the operation of a request that passes runs, the request has been consumed. -/
theorem State.Passes.consumes (p : s.Passes f i h e) : s.Consumes ((s.taken f).consumed i h e) i h e := by
  have ht : (s.taken f).host.table[i] = .host h := by rw [State.taken_host]; exact p.inTable
  have htb : (s.taken f).clock.tb = s.clock.tb := by simp [State.taken]
  obtain ⟨b, hb⟩ := State.consumed_session e ht
  exact ⟨_, State.session_of_sidUse hb p.isOpen, rfl, h.consume_mem _ e (s.taken f).clock.tb p.seq, htb, rfl⟩

/-- The answer keeps what the session has consumed. -/
theorem State.Consumes.respond (c : s.Consumes u i h e) (sid status count : Nat) (payload : List W64) (attn : Bool)
    (wrap : Option (Fin 256 × Bytes × Nat)) : s.Consumes (u.respond f sid status count payload attn wrap) i h e := by
  obtain ⟨x, hx, rest⟩ := c
  refine ⟨x, ?_, rest⟩
  rw [State.session, State.respond_sidUse]
  exact hx

/-- A state that keeps a response, the jobs and the sluices has the same answer on its port. -/
theorem State.Answers.of {t : State} {seq status count : Nat} {payload : List W64} (a : u.Answers i h seq status count payload)
    (hr : t.host.resp = u.host.resp) (hj : t.jobs = u.jobs) (hq : t.host.sluices = u.host.sluices) :
    t.Answers i h seq status count payload := by
  obtain ⟨r, h1, h2, h3, h4, h5, h6, h7, h8, h9⟩ := a
  exact ⟨r, hr.trans h1, h2, h3, h4, h5, h6, h7, h8, h9.trans (State.attn_of hj hq _).symm⟩

/-- The key with which a sealed session's answer is sealed is the session's own. -/
theorem State.wrapOf_slot (s : State) (f : Frame) (h : Session) : ∀ w ∈ s.wrapOf f h, w.1 = h.keySlot.getD 0 := by
  intro w hw
  unfold State.wrapOf at hw
  split at hw
  · simp only [Option.mem_some] at hw; rw [← hw]
  · cases hw

/-- An answer is sealed where its session is. -/
theorem State.wrapOf_isSome (s : State) (f : Frame) (h : Session) : (s.wrapOf f h).isSome = h.sealed := by
  unfold State.wrapOf
  split <;> simp_all

/-- The response to a request of a session, with ATTN as the state has it. -/
theorem State.Passes.respond_answers (p : s.Passes f i h e) (v : State) (status count : Nat) (payload : List W64) :
    (u.respond f i.1 status count payload (u.attn h.polder) (v.wrapOf f h)).Answers i h f.seq.toNat status count payload := by
  obtain ⟨r, hr, hst, hsid, hcount, hpay, hattn, hseq, -, hseal, hport⟩ :=
    u.respond_resp f i.1 status count payload (u.attn h.polder) (v.wrapOf f h)
  refine ⟨r, hr, ?_, hport.trans p.port.symm, hst, hseq, hcount, hpay, hseal.trans (State.wrapOf_isSome ..), ?_⟩
  · rw [hsid, sidOf, p.port]
  · rw [hattn, State.respond_attn]

end

/-! ### A request with nothing to do (R97, R114) -/

/-- The state once a request that passes R100 and whose operation changes nothing is answered OK without payload. -/
def State.acked (s : State) (f : Frame) (i : Fin 64) (h : Session) (e : Nat) : State :=
  let u := (s.taken f).consumed i h e
  u.respond f i.1 OK 0 [] (u.attn h.polder) ((s.taken f).wrapOf f h)

section
variable {s : State} {f : Frame} {i : Fin 64} {h : Session} {e : Nat}

theorem exec_nop_passes (k : s.Takes 8 f) (p : s.Passes f i h e) : exec (.nop f) s = .next (s.acked f i h e) := by
  have hn : hostNop f s = s.acked f i h e := by
    rw [hostNop, State.intake_takes k, State.inOrder_passes p]; rfl
  exact congrArg Host.Outcome.next hn

theorem exec_close_passes (k : s.Takes 5 f) (p : s.Passes f i h e) :
    exec (.close f) s = .next ((s.acked f i h e).closeSession i) := by
  have hc : hostClose f s = (s.acked f i h e).closeSession i := by
    rw [hostClose, State.intake_takes k, State.inOrder_passes p]; rfl
  exact congrArg Host.Outcome.next hc

/-- Nothing but the path of the request has happened. -/
theorem State.acked_pathOnly (s : State) (f : Frame) (i : Fin 64) (h : Session) (e : Nat) : s.PathOnly (s.acked f i h e) i h :=
  (s.consumed_pathOnly f i h e).respond ((s.taken f).wrapOf_slot f h) ..

theorem State.Passes.acked_answers (p : s.Passes f i h e) : (s.acked f i h e).Answers i h f.seq.toNat OK 0 [] :=
  p.respond_answers ..

theorem State.Passes.acked_consumes (p : s.Passes f i h e) : s.Consumes (s.acked f i h e) i h e :=
  p.consumes.respond ..

theorem State.Passes.acked_served (p : s.Passes f i h e) : s.Served (s.acked f i h e) i h f.seq.toNat e OK 0 [] where
  answer := p.acked_answers
  session := by
    obtain ⟨x, hx, hext, hmem, htb, -⟩ := p.acked_consumes
    exact ⟨x, hx, hext, hmem, htb⟩

/-- The generations of the key slots stay. -/
theorem State.acked_gen (s : State) (f : Frame) (i : Fin 64) (h : Session) (e : Nat) (n : Fin 256) :
    ((s.acked f i h e).slot n).gen = (s.slot n).gen := by
  rw [State.acked, State.respond_gen, State.consumed_gen, State.slot_of_keys (s := s) (by simp [State.taken])]

end

/-! ### Sessions that time closes (R105, R114) -/

theorem exec_openingTimeout {s : State} {i : Sid} {h : Session} (hs : s.anySession i = some h) (ho : h.opening = true)
    (htb : h.lastTb + 2 * tbSecond ≤ s.clock.tb) : exec (.openingTimeout i) s = .next (s.closeSession i) := by
  have hc : openingOut i s = s.closeSession i := by
    unfold openingOut; rw [hs]; exact if_pos ⟨ho, htb⟩
  exact congrArg Host.Outcome.next hc

/-- The session closes if IDLE seconds have passed since its last consumed frame, and else nothing happens. -/
theorem exec_idleTimeout {s : State} {i : Sid} {h : Session} (hs : s.session i = some h) :
    exec (.idleTimeout i) s = .next (if h.lastTb + h.idle * tbSecond ≤ s.clock.tb then s.closeSession i else s) := by
  have hc : idleOut i s = if h.lastTb + h.idle * tbSecond ≤ s.clock.tb then s.closeSession i else s := by
    unfold idleOut; rw [hs]
  exact congrArg Host.Outcome.next hc

/-! ### Ports (R12, R88, R90) -/

/-- What a frame dropped by a port leaves (R88, R90): its DROPPED has counted it, no response stands, and nothing else has changed. -/
structure State.Dropped (s t : State) (p : Fin 4) : Prop where
  rest : t = { s with host := t.host }
  resp : t.host.resp = none
  count : (t.host.ports[p]).dropped = min 65535 ((s.host.ports[p]).dropped + 1)
  table : t.host.table = s.host.table
  others : ∀ q, q ≠ p → t.host.ports[q] = s.host.ports[q]

/-- A port that drops a frame before it is taken. -/
theorem State.dropFrame_dropped (s : State) (p : Fin 4) : s.Dropped ((s.onHost (fun h => { h with resp := none })).dropFrame p) p where
  rest := rfl
  resp := rfl
  count := by
    simp only [State.dropFrame, State.onHost_host, upd_same]
    rfl
  table := rfl
  others q hq := upd_other _ _ _ _ hq.symm

theorem exec_requestAborted {s : State} {p : Port} (hp : p.1 < 2) (hl : s.listens p = true) :
    exec (.requestAborted p) s = .next ((s.onHost (fun h => { h with resp := none })).dropFrame p) :=
  congrArg Host.Outcome.next (if_pos ⟨hp, hl⟩)

theorem exec_partialFrameDiscard {s : State} (hl : s.listens 2 = true) :
    exec .partialFrameDiscard s = .next ((s.onHost (fun h => { h with resp := none })).dropFrame 2) :=
  congrArg Host.Outcome.next (if_pos hl)

theorem exec_portRestart {s : State} {p : Port} (hd : s.portDue p = true) : exec (.portRestart p) s = .next (s.restartPort p) :=
  congrArg Host.Outcome.next (if_pos hd)

/-- A port that has restarted runs with the word written, so nothing is pending on it (R12). -/
theorem State.restartPort_portPending (s : State) (p : Fin 4) : (s.restartPort p).portPending p = false := by
  have huse : (s.restartPort p).portInUse p = s.portWord p := by simp [State.portInUse, State.restartPort]
  have hword : (s.restartPort p).portWord p = s.portWord p := rfl
  simp [State.portPending, huse, hword]

end Sys2Proof.Machine
end

section
/-!
The statements about the reset state (R15, R16, R419) and about frames, sessions and ports (R12, R88, R90, R97, R105, R114).
-/

namespace Sys2Proof.Machine

/-- The invariant holds at reset: every list is empty and every counter zero. -/
theorem State.reset_inv : State.reset.Inv where
  tagMem := rfl
  regs := List.Pairwise.nil
  use := List.Pairwise.nil
  sticky := List.Pairwise.nil
  backup _ hb := by cases hb
  sluices n := by simp [State.reset, HostState.reset]
  counters k := by simp [State.reset, Counters.reset]
  staged := Nat.zero_le _
  transit _ ht := by cases ht

/-- Settles O4: reset leaves the tag memory unlisted, so it reads as delivered; the rest is the reset values of the blocks. -/
theorem resetStateMeetsInv : Obligations.ResetStateMeetsInv := by
  unfold Obligations.ResetStateMeetsInv
  refine ⟨rfl, rfl, rfl, fun i => ?_, fun j => ?_, fun o => ?_, rfl, fun a => rfl, State.reset_inv⟩
  · simp [State.sidUse, State.reset, HostState.reset]
  · simp [State.job, State.reset, Jobs.reset, Job.reset]
  · simp [State.raised, State.reset, Guard.reset, GuardOut.reset]

/-- Settles O11: NOP and CLOSE are a request with nothing to do, a CLOSE then closing its session; a frame cut short is dropped by its port; a
session whose time has passed closes; a due port takes up the word written. -/
theorem framesAnswerAndCloseAndPorts : Obligations.FramesAnswerAndCloseAndPorts := by
  unfold Obligations.FramesAnswerAndCloseAndPorts
  refine ⟨?nop, ?close, ?aborted, ?partialFrame, ?opening, ?idle, ?early, ?port⟩
  case nop =>
    intro f s i h e k p
    exact ⟨_, exec_nop_passes k p, p.acked_served, s.acked_pathOnly f i h e⟩
  case close =>
    intro f s i h e k p
    have po := s.acked_pathOnly f i h e
    obtain ⟨x, hx, -, -, -, hslot⟩ := p.acked_consumes
    have c := State.closeSession_closed (State.anySession_of_session hx)
    have hsluices : (s.acked f i h e).host.sluices = s.host.sluices := by rw [po.kept.host]
    have hfree : (s.acked f i h e).host.freeSids = s.host.freeSids := by rw [po.kept.host]
    have hjobs : (s.acked f i h e).jobs = s.jobs := by rw [po.rest]
    have hregs : (s.acked f i h e).regs = s.regs := by rw [po.rest]
    refine ⟨_, exec_close_passes k p, p.acked_answers.of c.resp (by simp) c.sluices, c.sidUse_self, ?_, ?_, ?_, ?_, ?_, ?_⟩
    · rw [c.freeSids, hfree]
    · exact fun j hj => (c.sidUse_other hj).trans (po.kept.others j hj)
    · simp [hjobs]
    · exact c.sluices.trans hsluices
    · simp [hregs]
    · intro n hn
      rw [c.key n (hslot.trans hn)]
      exact ⟨rfl, s.acked_gen f i h e n⟩
  case aborted =>
    intro p s hp hl
    have d := s.dropFrame_dropped p
    exact ⟨_, exec_requestAborted hp hl, d.rest, d.resp, d.count, d.table, d.others⟩
  case partialFrame =>
    intro s hl
    have d := s.dropFrame_dropped 2
    exact ⟨_, exec_partialFrameDiscard hl, d.rest, d.resp, d.count, d.table⟩
  case opening =>
    intro i s h hs ho htb
    have c := State.closeSession_closed hs
    exact ⟨_, exec_openingTimeout hs ho htb, c.sidUse_self, c.freeSids, fun _ => c.sidUse_other, c.rest, c.sluices⟩
  case idle =>
    intro i s h hs htb
    have c := State.closeSession_closed (State.anySession_of_session hs)
    have hx : exec (.idleTimeout i) s = .next (s.closeSession i) := by rw [exec_idleTimeout hs, if_pos htb]
    refine ⟨_, hx, c.sidUse_self, c.freeSids, fun n hn => ?_, fun _ => c.sidUse_other, c.rest, c.sluices⟩
    rw [c.key n hn]; rfl
  case early =>
    intro i s h hs htb
    rw [exec_idleTimeout hs, if_neg (Nat.not_le.mpr htb)]
  case port =>
    intro p s hd
    exact ⟨_, exec_portRestart hd, s.restartPort_portPending p, rfl, fun a ha => getKey_putKey_other _ _ _ _ ha⟩

end Sys2Proof.Machine
end
section
/-!
The HV_EN of an output as a part of the Fireguard's table, and what changes of a state, of the Fireguard and of that table do to it. The lemmas
that follow say of each operation of the model the strongest of three things that holds: it leaves the Fireguard as it was (`_guard`), it leaves
each HV_EN as it was (`_hv`), or it raises none (`_hv_le`: an HV_EN at most `top` before is at most `top` after).
-/

namespace Sys2Proof.Machine

/-- The HV_EN of an output in the Fireguard's table of outputs. -/
def hvOf (v : Vector GuardOut 6) (o : Fin 6) : Bool := (v[o]).hv

theorem State.raised_eq (s : State) (o : Fin 6) : s.raised o = hvOf s.guard.outs o := rfl

/-! ### The table of outputs -/

section
variable (v : Vector GuardOut 6) (o : Fin 6)

@[simp] theorem hvOf_upd (k : Fin 6) {f : GuardOut → GuardOut} (hf : ∀ x, (f x).hv = x.hv) : hvOf (upd v k f) o = hvOf v o := by
  unfold hvOf
  by_cases hk : k = o
  · subst hk; rw [upd_same, hf]
  · rw [upd_other _ _ _ _ hk]

@[simp] theorem hvOf_updAll (f : Fin 6 → GuardOut → GuardOut) : hvOf (updAll v f) o = (f o v[o]).hv := by
  simp [hvOf, updAll]

@[simp] theorem hvOf_map (f : GuardOut → GuardOut) : hvOf (v.map f) o = (f v[o]).hv := by
  simp [hvOf]

@[simp] theorem getElem_hv : (v[o.1]).hv = hvOf v o := rfl

end

/-! ### One of two things -/

section
variable (c : Prop) [Decidable c]

@[simp] theorem State.guard_ite (a b : State) : (if c then a else b).guard = if c then a.guard else b.guard := apply_ite State.guard c a b

@[simp] theorem State.guard_dite (a : c → State) (b : ¬c → State) :
    (if h : c then a h else b h).guard = if h : c then (a h).guard else (b h).guard := apply_dite State.guard c a b

@[simp] theorem Guard.outs_ite (a b : Guard) : (if c then a else b).outs = if c then a.outs else b.outs := apply_ite Guard.outs c a b

@[simp] theorem hvOf_ite (v w : Vector GuardOut 6) (o : Fin 6) : hvOf (if c then v else w) o = if c then hvOf v o else hvOf w o :=
  apply_ite (hvOf · o) c v w

@[simp] theorem ite_le_bool (x y top : Bool) : (if c then x else y) ≤ top ↔ (c → x ≤ top) ∧ (¬c → y ≤ top) := by
  split <;> simp [*]

end

/-! ### One thing for each member of a list -/

section
variable {β γ : Type}

@[simp] theorem foldl_guard {f : State → β → State} (hf : ∀ s x, (f s x).guard = s.guard) (l : List β) (s : State) : (l.foldl f s).guard = s.guard := by
  induction l generalizing s with
  | nil => rfl
  | cons x xs ih => exact (ih _).trans (hf s x)

@[simp] theorem foldl_fst_guard {f : State × γ → β → State × γ} (hf : ∀ p x, (f p x).1.guard = p.1.guard) (l : List β) (p : State × γ) :
    (l.foldl f p).1.guard = p.1.guard := by
  induction l generalizing p with
  | nil => rfl
  | cons x xs ih => exact (ih _).trans (hf p x)

@[simp] theorem foldl_snd_guard {f : γ × State → β → γ × State} (hf : ∀ p x, (f p x).2.guard = p.2.guard) (l : List β) (p : γ × State) :
    (l.foldl f p).2.guard = p.2.guard := by
  induction l generalizing p with
  | nil => rfl
  | cons x xs ih => exact (ih _).trans (hf p x)

@[simp] theorem foldl_hv {f : State → β → State} {out : Fin 6} (hf : ∀ s x, hvOf (f s x).guard.outs out = hvOf s.guard.outs out) (l : List β) (s : State) :
    hvOf (l.foldl f s).guard.outs out = hvOf s.guard.outs out := by
  induction l generalizing s with
  | nil => rfl
  | cons x xs ih => exact (ih _).trans (hf s x)

@[simp] theorem foldl_hv_le {f : State → β → State} {out : Fin 6} (hf : ∀ s x, hvOf (f s x).guard.outs out ≤ hvOf s.guard.outs out)
    (l : List β) {s : State} {top : Bool} (hle : hvOf s.guard.outs out ≤ top) : hvOf (l.foldl f s).guard.outs out ≤ top := by
  induction l generalizing s with
  | nil => exact hle
  | cons x xs ih => exact ih ((hf s x).trans hle)

end

/-! ### Changes of the Fireguard -/

@[simp] theorem Guard.watch_outs (g : Guard) (tb : Nat) : (g.watch tb).outs = g.outs := rfl

@[simp] theorem State.onGo_hv (s : State) (k o : Fin 6) {f : GuardOut → GuardOut} (hf : ∀ x, (f x).hv = x.hv) :
    hvOf (s.onGo k f).guard.outs o = hvOf s.guard.outs o := by
  simp only [State.onGo, State.onGuard_guard, Guard.watch_outs, hvOf_upd _ _ _ hf]

end Sys2Proof.Machine
end

section
/-!
What the sequencer, the Fireguard and the vehicle link leave of the HV_EN, operation by operation.
-/

namespace Sys2Proof.Machine

variable (s : State) {out : Fin 6} {top : Bool}

/-! ### Registers and the session table (R9, R103) -/

@[simp] theorem State.takeUp_guard (c q) : (s.takeUp c q).guard = s.guard :=
  foldl_guard (fun s e => by split <;> simp) ..

theorem State.allocSid_guard {s : State} {u i t} (h : s.allocSid u = some (i, t)) : t.guard = s.guard := by
  unfold State.allocSid at h
  split at h
  · split at h
    · cases h
    · cases h; rfl
  · cases h

@[simp] theorem State.closeWhere_guard (q) : (s.closeWhere q).guard = s.guard :=
  foldl_guard (fun s i => by split <;> simp) ..

/-! ### Notices (R305) -/

@[simp] theorem State.notice_guard (kind sid pilot cause seq idType ident p) :
    (s.notice kind sid pilot cause seq idType ident p).guard = s.guard := by
  simp [State.notice]

/-! ### What the sequencer reports to billing (R225) -/

@[simp] theorem State.storeUse_guard : s.storeUse.guard = s.guard := by simp [State.storeUse]
@[simp] theorem State.sealWrite_guard (f) : (s.sealWrite f).guard = s.guard := by simp [State.sealWrite]
@[simp] theorem State.onJournal_guard (f) : (s.onJournal f).guard = s.guard := by simp [State.onJournal]
@[simp] theorem State.billStart_guard (o sid tb) : (s.billStart o sid tb).guard = s.guard := by simp [State.billStart]
@[simp] theorem State.billOutcome_guard (o sid tb accepted) : (s.billOutcome o sid tb accepted).guard = s.guard := by simp [State.billOutcome]
@[simp] theorem State.billEnd_guard (o tb) : (s.billEnd o tb).guard = s.guard := by simp [State.billEnd]

/-! ### The Grate frame (R129) -/

@[simp] theorem State.startSensing_guard (locked) : (s.startSensing locked).guard = s.guard := by simp [State.startSensing]
@[simp] theorem State.icLoss_guard (p n) : (s.icLoss p n).guard = s.guard := by simp [State.icLoss]
@[simp] theorem State.loseIc_guard (n) : (s.loseIc n).guard = s.guard := by unfold State.loseIc; split <;> simp
@[simp] theorem State.keepSteady_guard (n l) : (s.keepSteady n l).guard = s.guard := by simp [State.keepSteady]
@[simp] theorem icLost_guard (n steady) : (icLost n steady s).guard = s.guard := by unfold icLost; split <;> simp
@[simp] theorem icBack_guard (n) : (icBack n s).guard = s.guard := by unfold icBack; split <;> simp
@[simp] theorem State.icBits_guard (p n format bits) : (s.icBits p n format bits).guard = s.guard := by simp [State.icBits]
@[simp] theorem frameIcs_guard (p bits) : (frameIcs p bits s).guard = s.guard := by simp [frameIcs]
@[simp] theorem frameVotes_guard (p) : (frameVotes p s).guard = s.guard := by simp [frameVotes]
@[simp] theorem State.endRun_guard (index i) : (s.endRun index i).guard = s.guard := by simp [State.endRun]
@[simp] theorem frameInteg_guard (p) : (frameInteg p s).guard = s.guard := by simp [frameInteg]

@[simp] theorem frameLive_guard (p) : (frameLive p s).guard = s.guard := by
  refine (foldl_guard (fun s o => ?_) ..).trans (foldl_guard (fun s q => ?_) ..)
  · simp only
    split <;> simp
  · split <;> simp

@[simp] theorem blankLatch_guard (p) : (blankLatch p s).guard = s.guard := by simp [blankLatch]
@[simp] theorem countLosses_guard (p) : (countLosses p s).guard = s.guard := by simp [countLosses]
@[simp] theorem trackFrames_guard (p) : (trackFrames p s).guard = s.guard := by simp [trackFrames]

@[simp] theorem laneFrame_hv (p) : hvOf (laneFrame p s).guard.outs out = hvOf s.guard.outs out := by
  simp only [laneFrame, State.onGuard_guard, Guard.watch_outs, hvOf_updAll]
  (repeat' split) <;> rfl

@[simp] theorem State.magKeep_guard : s.magKeep.guard = s.guard := by simp [State.magKeep]
@[simp] theorem fgFrame_guard (i) : (fgFrame i s).guard = s.guard := by simp [fgFrame]
@[simp] theorem rcdFrame_hv (i) : hvOf (rcdFrame i s).guard.outs out = hvOf s.guard.outs out := by simp [rcdFrame]
@[simp] theorem State.dropTracks_guard (o) : (s.dropTracks o).guard = s.guard := by unfold State.dropTracks; split <;> simp
@[simp] theorem State.measureOff_guard : s.measureOff.guard = s.guard := by simp [State.measureOff]
@[simp] theorem measureFrame_guard : (measureFrame s).guard = s.guard := by unfold measureFrame; (repeat' split) <;> simp
@[simp] theorem frameStep_hv (p i) : hvOf (frameStep p i s).guard.outs out = hvOf s.guard.outs out := by simp [frameStep]
@[simp] theorem grateFrame_hv (i) : hvOf (grateFrame i s).guard.outs out = hvOf s.guard.outs out := by unfold grateFrame; split <;> simp
@[simp] theorem voteBad_guard (g) : (voteBad g s).guard = s.guard := by unfold voteBad; split <;> simp
@[simp] theorem voteGood_guard (g) : (voteGood g s).guard = s.guard := by simp [voteGood]

/-! ### Shared operations of the sequencer (chapter 10) -/

@[simp] theorem State.onChan_guard (n f) : (s.onChan n f).guard = s.guard := by simp [State.onChan]
@[simp] theorem State.gateChans_guard (o closed) : (s.gateChans o closed).guard = s.guard := by simp [State.gateChans]
@[simp] theorem State.setGate_hv (o v) : hvOf (s.setGate o v).guard.outs out = hvOf s.guard.outs out := by simp [State.setGate]
@[simp] theorem State.regate_hv (o) : hvOf (s.regate o).guard.outs out = hvOf s.guard.outs out := by simp [State.regate]
@[simp] theorem State.request_hv (o v) : hvOf (s.request o v).guard.outs out = hvOf s.guard.outs out := by simp [State.request]

theorem State.setHv_hv (o v) : hvOf (s.setHv o v).guard.outs out = if o = out then v else hvOf s.guard.outs out := by
  simp only [State.setHv, State.regate_hv, State.onGo, State.onGuard_guard, Guard.watch_outs]
  by_cases ho : o = out
  · subst ho; rw [if_pos rfl, hvOf, upd_same]
  · rw [if_neg ho, hvOf, upd_other _ _ _ _ ho]; rfl

@[simp] theorem State.setHv_false_hv_le (o) (hle : hvOf s.guard.outs out ≤ top) :
    hvOf (s.setHv o false).guard.outs out ≤ top := by
  rw [State.setHv_hv]
  split
  · exact Bool.false_le _
  · exact hle

@[simp] theorem State.drivePilot_guard (o d) : (s.drivePilot o d).guard = s.guard := by simp [State.drivePilot]
@[simp] theorem State.isoDrive_guard (n halfB on) : (s.isoDrive n halfB on).guard = s.guard := by simp [State.isoDrive]

@[simp] theorem State.monitorOf_hv (o was now) : hvOf (s.monitorOf o was now).guard.outs out = hvOf s.guard.outs out := by
  unfold State.monitorOf; split <;> simp

@[simp] theorem State.enter_hv (o x) : hvOf (s.enter o x).guard.outs out = hvOf s.guard.outs out := by simp [State.enter]
@[simp] theorem State.newMask_guard (sid) : (s.newMask sid).2.guard = s.guard := by simp [State.newMask]
@[simp] theorem State.driveLock_guard (o release) : (s.driveLock o release).guard = s.guard := by unfold State.driveLock; split <;> simp
@[simp] theorem State.reportStart_guard (o) : (s.reportStart o).guard = s.guard := by unfold State.reportStart; simp only; (repeat' split) <;> simp
@[simp] theorem State.endSession_guard (o) : (s.endSession o).guard = s.guard := by simp [State.endSession]
@[simp] theorem State.stopCause_guard (o cause) : (s.stopCause o cause).guard = s.guard := by simp [State.stopCause]
@[simp] theorem State.withdraw_hv (o) : hvOf (s.withdraw o).guard.outs out = hvOf s.guard.outs out := by simp [State.withdraw]
@[simp] theorem State.toFault_hv (o cause) : hvOf (s.toFault o cause).guard.outs out = hvOf s.guard.outs out := by simp [State.toFault]
@[simp] theorem State.toRollback_hv (o toLink) : hvOf (s.toRollback o toLink).guard.outs out = hvOf s.guard.outs out := by simp [State.toRollback]
@[simp] theorem State.startFive_guard (o) : (s.startFive o).guard = s.guard := by simp [State.startFive]

@[simp] theorem State.stopOut_hv (o cause) : hvOf (s.stopOut o cause).guard.outs out = hvOf s.guard.outs out := by
  unfold State.stopOut; split <;> simp

@[simp] theorem State.hvFell_hv (o cause) : hvOf (s.hvFell o cause).guard.outs out = hvOf s.guard.outs out := by simp [State.hvFell]
@[simp] theorem State.seeFall_hv (o) : hvOf (s.seeFall o).guard.outs out = hvOf s.guard.outs out := by unfold State.seeFall; split <;> simp
@[simp] theorem State.toUnlock_hv (o) : hvOf (s.toUnlock o).guard.outs out = hvOf s.guard.outs out := by unfold State.toUnlock; split <;> simp

@[simp] theorem State.startCheck_hv (o v) : hvOf (s.startCheck o v).guard.outs out = hvOf s.guard.outs out := by
  unfold State.startCheck; split <;> simp

@[simp] theorem State.trySpec_hv (o) : hvOf (s.trySpec o).guard.outs out = hvOf s.guard.outs out := by simp [State.trySpec]
@[simp] theorem State.linkAccepted_hv (o) : hvOf (s.linkAccepted o).guard.outs out = hvOf s.guard.outs out := by simp [State.linkAccepted]
@[simp] theorem State.toLink_hv (o) : hvOf (s.toLink o).guard.outs out = hvOf s.guard.outs out := by simp [State.toLink]
@[simp] theorem State.tryLink_hv (o) : hvOf (s.tryLink o).guard.outs out = hvOf s.guard.outs out := by simp [State.tryLink]

@[simp] theorem State.toLock_hv (o) : hvOf (s.toLock o).guard.outs out = hvOf s.guard.outs out := by
  unfold State.toLock
  split
  case h_1 => rfl
  case h_2 ha => simp [State.allocSid_guard ha]

@[simp] theorem State.judgeCheck_hv (o) : hvOf (s.judgeCheck o).guard.outs out = hvOf s.guard.outs out := by unfold State.judgeCheck; split <;> simp
@[simp] theorem State.checkGood_hv (o v) : hvOf (s.checkGood o v).guard.outs out = hvOf s.guard.outs out := by unfold State.checkGood; split <;> simp
@[simp] theorem State.checkBad_hv (o) : hvOf (s.checkBad o).guard.outs out = hvOf s.guard.outs out := by unfold State.checkBad; split <;> simp

@[simp] theorem State.tellOutcome_guard (o outcome idType ident) : (s.tellOutcome o outcome idType ident).guard = s.guard := by
  simp [State.tellOutcome]

@[simp] theorem State.reportOutcome_guard (o accepted) : (s.reportOutcome o accepted).guard = s.guard := by simp [State.reportOutcome]
@[simp] theorem State.outcomeTooLate_guard (o) : (s.outcomeTooLate o).guard = s.guard := by simp [State.outcomeTooLate]

@[simp] theorem State.accept_hv (o) : hvOf (s.accept o).guard.outs out = hvOf s.guard.outs out := by
  unfold State.accept; simp only; (repeat' split) <;> simp

@[simp] theorem State.deny_hv (o cause) : hvOf (s.deny o cause).guard.outs out = hvOf s.guard.outs out := by simp [State.deny]
@[simp] theorem State.withdrawAuth_hv (o cause) : hvOf (s.withdrawAuth o cause).guard.outs out = hvOf s.guard.outs out := by simp [State.withdrawAuth]

/-! ### Firmware slots (R508, R509) -/

@[simp] theorem State.dropUpdate_guard : s.dropUpdate.guard = s.guard := by simp [State.dropUpdate]
@[simp] theorem State.dropUpdateOf_guard (j) : (s.dropUpdateOf j).guard = s.guard := by simp [State.dropUpdateOf]
@[simp] theorem State.restoreSettings_guard : s.restoreSettings.guard = s.guard := by unfold State.restoreSettings; split <;> simp
@[simp] theorem State.revertSlots_guard (k cause) : (s.revertSlots k cause).guard = s.guard := by simp [State.revertSlots]
@[simp] theorem State.countStart_guard (k) : (s.countStart k).guard = s.guard := by simp [State.countStart]

/-! ### The Fireguard: drops, resets, safe-off, degraded mode (R349, R351, R371, R379) -/

@[simp] theorem State.settleA_hv (o) : hvOf (s.settleA o).guard.outs out = hvOf s.guard.outs out := by simp [State.settleA]

@[simp] theorem State.drop_hv_le (o r) (hle : hvOf s.guard.outs out ≤ top) : hvOf (s.drop o r).guard.outs out ≤ top := by
  simp only [State.drop]
  (repeat' split) <;> simp [hle]

@[simp] theorem State.dropAll_hv_le (os r) (hle : hvOf s.guard.outs out ≤ top) : hvOf (s.dropAll os r).guard.outs out ≤ top := by
  simp [State.dropAll, hle]

@[simp] theorem State.declareWelded_hv_le (o) (hle : hvOf s.guard.outs out ≤ top) : hvOf (s.declareWelded o).guard.outs out ≤ top := by
  simp [State.declareWelded, hle]

@[simp] theorem State.demandTest_hv (d) : hvOf (s.demandTest d).guard.outs out = hvOf s.guard.outs out := by simp [State.demandTest]

@[simp] theorem Guard.restart_hv (g : Guard) (cause running) : hvOf (g.restart cause running).outs out = false := by
  simp only [Guard.restart]
  split <;> simp [GuardOut.reset]

@[simp] theorem State.guardRestart_hv (cause) : hvOf (s.guardRestart cause).guard.outs out = false := by
  simp [State.guardRestart]

@[simp] theorem State.safeEnd_hv_le (hle : hvOf s.guard.outs out ≤ top) : hvOf s.safeEnd.guard.outs out ≤ top := by
  unfold State.safeEnd; (repeat' split) <;> simp [hle]

@[simp] theorem State.safeOff_hv_le (trigger outs thenReset) (hle : hvOf s.guard.outs out ≤ top) :
    hvOf (s.safeOff trigger outs thenReset).guard.outs out ≤ top := by
  simp [State.safeOff, hle]

@[simp] theorem State.safeDrop_hv_le (o) (hle : hvOf s.guard.outs out ≤ top) : hvOf (s.safeDrop o).guard.outs out ≤ top := by
  unfold State.safeDrop; split <;> simp [hle]

@[simp] theorem State.monitorDrop_hv_le (o r) (hle : hvOf s.guard.outs out ≤ top) : hvOf (s.monitorDrop o r).guard.outs out ≤ top := by
  simp [State.monitorDrop, hle]

@[simp] theorem State.enterDegraded_hv (cause) : hvOf (s.enterDegraded cause).guard.outs out = hvOf s.guard.outs out := by simp [State.enterDegraded]

/-! ### Pulse generators (R389) -/

@[simp] theorem State.pgSync_guard (k) : (s.pgSync k).guard = s.guard := by unfold State.pgSync; simp only; (repeat' split) <;> simp
@[simp] theorem State.phaseSync_guard (n) : (s.phaseSync n).guard = s.guard := by simp [State.phaseSync]
@[simp] theorem State.pgStart_guard : s.pgStart.guard = s.guard := by simp [State.pgStart]

/-! ### Power allocation (R333 to R337) -/

@[simp] theorem State.newShare_guard : s.newShare.guard = s.guard := by simp [State.newShare]
@[simp] theorem State.setPumps_guard : s.setPumps.guard = s.guard := by simp [State.setPumps]

/-! ### The sequencer's timers, cabinets and setpoints (chapter 10) -/

@[simp] theorem State.pollOut_hv (o) : hvOf (s.pollOut o).guard.outs out = hvOf s.guard.outs out := by unfold State.pollOut; split <;> simp
@[simp] theorem State.pollAll_hv : hvOf s.pollAll.guard.outs out = hvOf s.guard.outs out := by simp [State.pollAll]
@[simp] theorem seqLockTimeout_hv (o) : hvOf (seqLockTimeout o s).guard.outs out = hvOf s.guard.outs out := by simp [seqLockTimeout]
@[simp] theorem seqSpecHold_hv (o) : hvOf (seqSpecHold o s).guard.outs out = hvOf s.guard.outs out := by simp [seqSpecHold]
@[simp] theorem seqNoOutcome_hv (o) : hvOf (seqNoOutcome o s).guard.outs out = hvOf s.guard.outs out := by simp [seqNoOutcome]
@[simp] theorem seqRollbackTimeout_hv (o) : hvOf (seqRollbackTimeout o s).guard.outs out = hvOf s.guard.outs out := by simp [seqRollbackTimeout]

@[simp] theorem seqUnplugged_hv (o) : hvOf (seqUnplugged o s).guard.outs out = hvOf s.guard.outs out := by
  unfold seqUnplugged; (repeat' split) <;> simp

@[simp] theorem seqZeroPause_hv (o) : hvOf (seqZeroPause o s).guard.outs out = hvOf s.guard.outs out := by simp [seqZeroPause]
@[simp] theorem seqPauseLimit_hv (o) : hvOf (seqPauseLimit o s).guard.outs out = hvOf s.guard.outs out := by simp [seqPauseLimit]
@[simp] theorem State.toWeldcheck_hv (o) : hvOf (s.toWeldcheck o).guard.outs out = hvOf s.guard.outs out := by simp [State.toWeldcheck]

@[simp] theorem State.pilotSeen_hv (o) : hvOf (s.pilotSeen o).guard.outs out = hvOf s.guard.outs out := by
  unfold State.pilotSeen; simp only; (repeat' split) <;> simp

@[simp] theorem State.ppSeen_hv (o) : hvOf (s.ppSeen o).guard.outs out = hvOf s.guard.outs out := by simp [State.ppSeen]
@[simp] theorem seqStopTimeout_hv (o) : hvOf (seqStopTimeout o s).guard.outs out = hvOf s.guard.outs out := by simp [seqStopTimeout]
@[simp] theorem seqAcStop_hv (o) : hvOf (seqAcStop o s).guard.outs out = hvOf s.guard.outs out := by simp [seqAcStop]
@[simp] theorem seqFiveEnd_guard (o) : (seqFiveEnd o s).guard = s.guard := by simp [seqFiveEnd]

@[simp] theorem seqVoltage_hv (o mv) : hvOf (seqVoltage o mv s).guard.outs out = hvOf s.guard.outs out := by
  unfold seqVoltage; (repeat' split) <;> simp

@[simp] theorem seqBelow60_hv (o mv) : hvOf (seqBelow60 o mv s).guard.outs out = hvOf s.guard.outs out := by
  unfold seqBelow60; (repeat' split) <;> simp

@[simp] theorem seqStopLow_hv (o ma) : hvOf (seqStopLow o ma s).guard.outs out = hvOf s.guard.outs out := by simp [seqStopLow]
@[simp] theorem State.firstCheck_hv (o) : hvOf (s.firstCheck o).guard.outs out = hvOf s.guard.outs out := by unfold State.firstCheck; split <;> simp
@[simp] theorem State.sendSetpoints_hv : hvOf s.sendSetpoints.guard.outs out = hvOf s.guard.outs out := by simp [State.sendSetpoints]
@[simp] theorem State.repeatSetpoints_guard : s.repeatSetpoints.guard = s.guard := by simp [State.repeatSetpoints]
@[simp] theorem seqStatus_guard (k netB fr) : (seqStatus k netB fr s).guard = s.guard := by simp [seqStatus]
@[simp] theorem State.loseCab_hv (k) : hvOf (s.loseCab k).guard.outs out = hvOf s.guard.outs out := by simp [State.loseCab]
@[simp] theorem seqCabLost_hv (k) : hvOf (seqCabLost k s).guard.outs out = hvOf s.guard.outs out := by simp [seqCabLost]
@[simp] theorem seqCabStart_hv (k) : hvOf (seqCabStart k s).guard.outs out = hvOf s.guard.outs out := by simp [seqCabStart]

@[simp] theorem State.afterAlloc_hv (o) : hvOf (s.afterAlloc o).guard.outs out = hvOf s.guard.outs out := by
  unfold State.afterAlloc; simp only; (repeat' split) <;> simp

@[simp] theorem seqPeriod_hv : hvOf (seqPeriod s).guard.outs out = hvOf s.guard.outs out := by simp [seqPeriod]
@[simp] theorem seqThermal_hv (o) : hvOf (seqThermal o s).guard.outs out = hvOf s.guard.outs out := by simp [seqThermal]
@[simp] theorem seqPumpEnd_guard (o) : (seqPumpEnd o s).guard = s.guard := by simp [seqPumpEnd]
@[simp] theorem seqDegStop_hv : hvOf (seqDegStop s).guard.outs out = hvOf s.guard.outs out := by simp [seqDegStop]
@[simp] theorem State.applyOn_guard : s.applyOn.guard = s.guard := by simp [State.applyOn]
@[simp] theorem State.seeMissed_hv (o) : hvOf (s.seeMissed o).guard.outs out = hvOf s.guard.outs out := by simp [State.seeMissed]
@[simp] theorem seqResume_hv : hvOf (seqResume s).guard.outs out = hvOf s.guard.outs out := by simp [seqResume]
@[simp] theorem State.clearOut_hv (o) : hvOf (s.clearOut o).guard.outs out = hvOf s.guard.outs out := by simp [State.clearOut]
@[simp] theorem State.blockOut_hv (o) : hvOf (s.blockOut o).guard.outs out = hvOf s.guard.outs out := by simp [State.blockOut]
@[simp] theorem State.seqOp_hv (op o) : hvOf (s.seqOp op o).guard.outs out = hvOf s.guard.outs out := by unfold State.seqOp; split <;> simp
@[simp] theorem State.writeSeqCmd_hv (v) : hvOf (s.writeSeqCmd v).2.guard.outs out = hvOf s.guard.outs out := by simp [State.writeSeqCmd]
@[simp] theorem seqShareRaise_guard : (seqShareRaise s).guard = s.guard := by unfold seqShareRaise; split <;> simp
@[simp] theorem seqFallback_guard : (seqFallback s).guard = s.guard := by simp [seqFallback]

/-! ### Shared operations of the vehicle link (chapter 09) -/

@[simp] theorem State.onModem_guard (m f) : (s.onModem m f).guard = s.guard := by simp [State.onModem]
@[simp] theorem State.plcSend_guard (o mgmt) : (s.plcSend o mgmt).2.guard = s.guard := by unfold State.plcSend; simp only; (repeat' split) <;> simp
@[simp] theorem State.plcRecv_guard (o) : (s.plcRecv o).guard = s.guard := by unfold State.plcRecv; split <;> simp
@[simp] theorem State.commLost_hv (o) : hvOf (s.commLost o).guard.outs out = hvOf s.guard.outs out := by unfold State.commLost; split <;> simp
@[simp] theorem State.unmatch_guard (o) : (s.unmatch o).guard = s.guard := by unfold State.unmatch; split <;> simp
@[simp] theorem State.onRun_guard (run f) : (s.onRun run f).guard = s.guard := by simp [State.onRun]
@[simp] theorem State.closeRun_guard (r) : (s.closeRun r).guard = s.guard := by unfold State.closeRun; simp only; (repeat' split) <;> simp
@[simp] theorem State.tlsClose_hv (o) : hvOf (s.tlsClose o).guard.outs out = hvOf s.guard.outs out := by simp [State.tlsClose]

@[simp] theorem State.answer_hv (o msg failed ongoing args body) :
    hvOf (s.answer o msg failed ongoing args body).guard.outs out = hvOf s.guard.outs out := by
  unfold State.answer; simp only; (repeat' split) <;> simp

@[simp] theorem State.vehMsg_hv_le (o) {f : State → State} (hf : ∀ u, hvOf (f u).guard.outs out ≤ hvOf u.guard.outs out)
    (hle : hvOf s.guard.outs out ≤ top) : hvOf (s.vehMsg o f).guard.outs out ≤ top := by
  simp only [State.vehMsg]
  (repeat' split)
  · simp [hle]
  · exact (hf _).trans (by simpa using hle)
  · exact (hf _).trans (by simpa using hle)
  · exact hle

@[simp] theorem State.onProto_guard (o f) : (s.onProto o f).guard = s.guard := by simp [State.onProto]

@[simp] theorem State.relayRequest_guard (o kind idType ident body) : (s.relayRequest o kind idType ident body).guard = s.guard := by
  simp [State.relayRequest]

@[simp] theorem State.relayIdle_guard (o) : (s.relayIdle o).guard = s.guard := by simp [State.relayIdle]

/-! ### Authorisation (R304 to R310) -/

@[simp] theorem State.applyList_guard (v) : (s.applyList v).2.guard = s.guard := by unfold State.applyList; simp only; (repeat' split) <;> simp

@[simp] theorem State.settle_hv (o accepted idType ident) : hvOf (s.settle o accepted idType ident).guard.outs out = hvOf s.guard.outs out := by
  simp [State.settle]

@[simp] theorem State.identify_hv (o idType ident checks) : hvOf (s.identify o idType ident checks).guard.outs out = hvOf s.guard.outs out := by
  unfold State.identify; simp only; (repeat' split) <;> simp

@[simp] theorem authIdentify_hv_le (o id) (hle : hvOf s.guard.outs out ≤ top) : hvOf (authIdentify o id s).guard.outs out ≤ top := by
  simp [authIdentify, hle]

@[simp] theorem authDeadline_hv (o) : hvOf (authDeadline o s).guard.outs out = hvOf s.guard.outs out := by simp [authDeadline]
@[simp] theorem State.stale_guard (o) : (s.stale o).guard = s.guard := by simp [State.stale]
@[simp] theorem State.takeDecision_hv (o v) : hvOf (s.takeDecision o v).guard.outs out = hvOf s.guard.outs out := by simp [State.takeDecision]
@[simp] theorem State.writeSalt_guard (k v) : (s.writeSalt k v).2.guard = s.guard := by simp [State.writeSalt]

end Sys2Proof.Machine
end

section
/-!
What billing, the seal, the Key Register, the log, host frames, energy and the resets leave of the HV_EN, operation by operation.
-/

namespace Sys2Proof.Machine

variable (s : State) {out : Fin 6} {top : Bool}

/-! ### Flue records (R270 to R276) -/

@[simp] theorem State.signFlue_guard (b polder) : (s.signFlue b polder).guard = s.guard := by
  have hk := congrArg State.guard (congrArg Prod.snd (Eq.refl (s.keyUse 3 engFLUE polder)))
  unfold State.signFlue
  split
  case h_1 heq => rw [heq] at hk; simpa using (congrArg (fun p => p.2.guard) heq).symm
  case h_2 heq => simpa using (congrArg (fun p => p.2.guard) heq).symm

@[simp] theorem State.spanStart_guard (b) : (s.spanStart b).guard = s.guard := by simp [State.spanStart]
@[simp] theorem State.makeFlue_guard (b) : (s.makeFlue b).guard = s.guard := by simp [State.makeFlue]

/-! ### Booking and committing ticks (chapter 07) -/

@[simp] theorem bookTick_guard (h) : (bookTick s h).guard = s.guard := by simp [bookTick]
@[simp] theorem State.closeInterval_guard : s.closeInterval.2.guard = s.guard := by unfold State.closeInterval; simp only; (repeat' split) <;> simp

@[simp] theorem State.closeUntil_guard (t n) : (State.closeUntil t n s).2.guard = s.guard := by
  induction n generalizing s with
  | zero => rfl
  | succ n ih => unfold State.closeUntil; split <;> simp [ih]

@[simp] theorem State.closeDue_guard : s.closeDue.2.guard = s.guard := by unfold State.closeDue; split <;> simp
@[simp] theorem State.periodRecords_guard (l) : (s.periodRecords l).guard = s.guard := by simp [State.periodRecords]
@[simp] theorem State.toService_guard (o i e) : (s.toService o i e).guard = s.guard := by simp [State.toService]
@[simp] theorem State.toTariff_guard (o sid t i e) : (s.toTariff o sid t i e).guard = s.guard := by simp [State.toTariff]

@[simp] theorem State.moveHolds_guard : s.moveHolds.guard = s.guard :=
  foldl_guard (fun _ _ => foldl_guard (fun _ _ => by split <;> simp) ..) ..

@[simp] theorem State.commitOut_guard (t o) : (s.commitOut t o).guard = s.guard := by unfold State.commitOut; simp only; (repeat' split) <;> simp
@[simp] theorem State.endRecords_guard : s.endRecords.guard = s.guard := by simp [State.endRecords]
@[simp] theorem State.startRecords_guard : s.startRecords.guard = s.guard := by simp [State.startRecords]
@[simp] theorem State.foldCmds_guard : s.foldCmds.guard = s.guard := by unfold State.foldCmds; split <;> simp
@[simp] theorem State.commitTick_guard (t) : (s.commitTick t).2.guard = s.guard := by unfold State.commitTick; split <;> simp
@[simp] theorem State.commitStep_guard (t) : (s.commitStep t).guard = s.guard := by simp [State.commitStep]
@[simp] theorem State.mark_guard (kind lo hi) : (s.mark kind lo hi).guard = s.guard := by simp [State.mark]
@[simp] theorem State.meetWall_guard (b wall instant) : (s.meetWall b wall instant).guard = s.guard := by simp [State.meetWall]
@[simp] theorem State.startBill_guard (wall instant) : (s.startBill wall instant).guard = s.guard := by simp [State.startBill]
@[simp] theorem State.retime_guard (instant) : (s.retime instant).guard = s.guard := by simp [State.retime]
@[simp] theorem State.applyTariffs_guard (t) : (s.applyTariffs t).guard = s.guard := by simp [State.applyTariffs]
@[simp] theorem State.atBoundary_guard (b) : (s.atBoundary b).guard = s.guard := by simp [State.atBoundary]
@[simp] theorem State.passBoundary_guard (tb) : (s.passBoundary tb).guard = s.guard := by unfold State.passBoundary; split <;> simp
@[simp] theorem bookNext_guard (h) : (bookNext s h).guard = s.guard := by simp [bookNext]
@[simp] theorem State.bookAll_guard : s.bookAll.guard = s.guard := by simp [State.bookAll]

/-! ### Billing commands (chapter 07) -/

@[simp] theorem billingBoundary_guard : (billingBoundary s).guard = s.guard := by simp [billingBoundary]
@[simp] theorem tickCommit_guard : (tickCommit s).guard = s.guard := by unfold tickCommit; split <;> simp
@[simp] theorem demandIntervalEnd_guard : (demandIntervalEnd s).guard = s.guard := by simp [demandIntervalEnd]
@[simp] theorem periodEnd_guard : (periodEnd s).guard = s.guard := by unfold periodEnd; split <;> simp
@[simp] theorem offsetChange_guard : (offsetChange s).guard = s.guard := by unfold offsetChange; split <;> simp
@[simp] theorem calendarSwitch_guard : (calendarSwitch s).guard = s.guard := by unfold calendarSwitch; split <;> simp
@[simp] theorem tariffEffective_guard : (tariffEffective s).guard = s.guard := by unfold tariffEffective; split <;> simp
@[simp] theorem attrTimeout_guard (o) : (attrTimeout o s).guard = s.guard := by simp [attrTimeout]
@[simp] theorem slewEnd_guard : (slewEnd s).guard = s.guard := by unfold slewEnd; split <;> simp
@[simp] theorem holdEnd_guard : (holdEnd s).guard = s.guard := by unfold holdEnd; split <;> simp
@[simp] theorem State.writeBilling_guard : s.writeBilling.guard = s.guard := by simp [State.writeBilling]
@[simp] theorem billingStateWrite_guard : (billingStateWrite s).guard = s.guard := by simp [billingStateWrite]
@[simp] theorem State.firstTime_guard (wall) : (s.firstTime wall).guard = s.guard := by simp [State.firstTime]

@[simp] theorem State.correctTime_guard (wall back) : (s.correctTime wall back).guard = s.guard := by
  unfold State.correctTime; simp only; (repeat' split) <;> simp

@[simp] theorem State.writeTimeset_guard (v) : (s.writeTimeset v).2.guard = s.guard := by simp [State.writeTimeset]
@[simp] theorem State.ignoreCmd_guard : s.ignoreCmd.guard = s.guard := by simp [State.ignoreCmd]
@[simp] theorem State.writeTcmd_guard (w) : (s.writeTcmd w).2.guard = s.guard := by unfold State.writeTcmd; simp only; (repeat' split) <;> simp
@[simp] theorem State.writeDsync_guard (v) : (s.writeDsync v).2.guard = s.guard := by unfold State.writeDsync; simp only; (repeat' split) <;> simp

/-! ### Key derivation and the HSS index (R60, R69, R80) -/

@[simp] theorem State.bootSlot_guard (n kind engines grant) : (s.bootSlot n kind engines grant).guard = s.guard := by simp [State.bootSlot]
@[simp] theorem State.bootDerive_guard : s.bootDerive.guard = s.guard := by simp [State.bootDerive]
@[simp] theorem State.deriveFlue_guard : s.deriveFlue.guard = s.guard := by simp [State.deriveFlue]
@[simp] theorem State.bootFlue_guard : s.bootFlue.guard = s.guard := by simp [State.bootFlue]

@[simp] theorem State.hssSignature_guard (digest) : (s.hssSignature digest).2.guard = s.guard := by
  unfold State.hssSignature
  split
  · split
    · next heq => simpa using (congrArg (fun p => p.2.guard) heq).symm
    · next heq => simpa using (congrArg (fun p => p.2.guard) heq).symm
  · rfl

@[simp] theorem State.identitySign_guard (digest) : (s.identitySign digest).2.guard = s.guard := by simp [State.identitySign]
@[simp] theorem State.certify_guard : s.certify.guard = s.guard := by simp [State.certify]

/-! ### The event log and bandwidth windows (R523 to R532) -/

@[simp] theorem logExport_guard (j) : (logExport j s).guard = s.guard := by simp [logExport]
@[simp] theorem logFlush_guard : (logFlush s).guard = s.guard := by simp [logFlush]
@[simp] theorem logFold_guard : (logFold s).guard = s.guard := by simp [logFold]
@[simp] theorem flashFault_guard : (flashFault s).guard = s.guard := by simp [flashFault]
@[simp] theorem bwEnd_guard (p) : (bwEnd p s).guard = s.guard := by simp [bwEnd]
@[simp] theorem State.writeBw_guard (v) : (s.writeBw v).2.guard = s.guard := by simp [State.writeBw]

/-! ### Host frames on their way in and out (R95 to R115) -/

@[simp] theorem State.restartPort_guard (p) : (s.restartPort p).guard = s.guard := by simp [State.restartPort]
@[simp] theorem State.writePort_guard (p v) : (s.writePort p v).2.guard = s.guard := by simp [State.writePort]
@[simp] theorem State.dropTag_guard (p) : (s.dropTag p).guard = s.guard := by simp [State.dropTag]

theorem State.intake_hv_le (op f) {nx : State → State} (hn : ∀ u, hvOf (nx u).guard.outs out ≤ hvOf u.guard.outs out) :
    hvOf (s.intake op f nx).guard.outs out ≤ hvOf s.guard.outs out := by
  have hc := hn ((s.onHost (fun h => { h with resp := none })).countIn f)
  simp only [State.countIn_same, State.onHost_guard] at hc
  simp only [State.intake]
  (repeat' split) <;> simp [hc]

@[simp] theorem State.act_guard (status count) : (s.act status count).state.guard = s.guard := by simp [State.act]

theorem State.served_hv_le {run : Fin 64 → Session → State → Act} {after : Fin 64 → State → State}
    (hr : ∀ i h u, hvOf (run i h u).state.guard.outs out ≤ hvOf u.guard.outs out) (ha : ∀ i u, hvOf (after i u).guard.outs out ≤ hvOf u.guard.outs out)
    (s : State) (f i h) : hvOf (s.served f i h run after).guard.outs out ≤ hvOf s.guard.outs out := by
  obtain ⟨used, hused⟩ : ∃ u, u = if h.sealed = true ∧ (s.slot (h.keySlot.getD 0)).state = .valid then
      (s.keyUse (h.keySlot.getD 0) engAESX h.polder).2 else s := ⟨_, rfl⟩
  have hg : used.guard = s.guard := by rw [hused]; simp
  simp only [State.served, ← hused]
  split
  · simp [hg]
  · split
    · simp [hg]
    · simp [hg]
    · split
      · simp [hg]
      · split
        · simp [hg]
        · refine (ha _ _).trans ?_
          simp only [State.respond_same]
          exact (hr _ _ _).trans (by simp [hg])

theorem State.inOrder_hv_le {run : Fin 64 → Session → State → Act} {after : Fin 64 → State → State}
    (hr : ∀ i h u, hvOf (run i h u).state.guard.outs out ≤ hvOf u.guard.outs out) (ha : ∀ i u, hvOf (after i u).guard.outs out ≤ hvOf u.guard.outs out)
    (s : State) (f) : hvOf (s.inOrder f run after).guard.outs out ≤ hvOf s.guard.outs out := by
  simp only [State.inOrder]
  (repeat' split) <;> simp [State.served_hv_le hr ha, State.dropTag]

theorem State.ask_hv_le {run : Fin 64 → Session → State → Act} (hr : ∀ i h u, hvOf (run i h u).state.guard.outs out ≤ hvOf u.guard.outs out)
    (s : State) (i op addr count payload) : hvOf (s.ask i op addr count payload run).guard.outs out ≤ hvOf s.guard.outs out := by
  have hs := fun u f i h => State.served_hv_le hr (fun _ _ => le_rfl) u f i h
  simp only [State.ask]
  (repeat' split)
  · simp
  · simp
  · simp
  · exact (hs _ _ _ _).trans (by simp)

@[simp] theorem State.takeIn_guard (f g) : (s.takeIn f g).guard = s.guard := by
  simp only [State.takeIn]
  split
  case h_1 => simp
  case h_2 ha => simp [State.allocSid_guard ha]

@[simp] theorem State.helloNow_guard (f) : (s.helloNow f).guard = s.guard := by simp [State.helloNow]
@[simp] theorem State.failOpen_guard (i h) : (s.failOpen i h).guard = s.guard := by simp [State.failOpen]

@[simp] theorem State.sessionKey_guard (i h k) : (s.sessionKey i h k).2.2.guard = s.guard := by
  unfold State.sessionKey; simp only; (repeat' split) <;> simp

@[simp] theorem State.proveNow_guard (f i h) : (s.proveNow f i h).guard = s.guard := by unfold State.proveNow; (repeat' split) <;> simp

/-! ### Energy (chapter 06) -/

@[simp] theorem State.handOff_guard (p) : (State.handOff p s).guard = s.guard := by simp [State.handOff]
@[simp] theorem State.handTick_guard (p short) : (State.handTick p short s).guard = s.guard := by simp [State.handTick]
@[simp] theorem publishAll_guard (p) : (publishAll p s).guard = s.guard := by simp [publishAll]
@[simp] theorem tickHandoff_guard : (tickHandoff s).guard = s.guard := by unfold tickHandoff; split <;> simp
@[simp] theorem pulseStart_guard (o) : (pulseStart o s).guard = s.guard := by simp [pulseStart]
@[simp] theorem pulseEnd_guard (o) : (pulseEnd o s).guard = s.guard := by simp [pulseEnd]
@[simp] theorem State.metroSave_guard (reason lastTb us) : (s.metroSave reason lastTb us).guard = s.guard := by simp [State.metroSave]
@[simp] theorem periodicSave_guard : (periodicSave s).guard = s.guard := by simp [periodicSave]
@[simp] theorem State.onLive_guard (o f) : (s.onLive o f).guard = s.guard := by simp [State.onLive]
@[simp] theorem phaseseqReversed_guard (o) : (phaseseqReversed o s).guard = s.guard := by simp [phaseseqReversed]
@[simp] theorem phaseseqEnd_guard (o) : (phaseseqEnd o s).guard = s.guard := by simp [phaseseqEnd]
@[simp] theorem neutralMissing_hv (o) : hvOf (neutralMissing o s).guard.outs out = hvOf s.guard.outs out := by simp [neutralMissing]
@[simp] theorem neutralEnd_guard (o) : (neutralEnd o s).guard = s.guard := by simp [neutralEnd]

/-! ### Seal, calibration, Flue jobs and the ledger (chapters 05 and 08) -/

@[simp] theorem sealOpen_guard (j) : (sealOpen j s).guard = s.guard := by simp [sealOpen]
@[simp] theorem State.closeRecords_guard (type) : (s.closeRecords type).guard = s.guard := by simp [State.closeRecords]
@[simp] theorem State.closeStart_guard : s.closeStart.guard = s.guard := by simp [State.closeStart]
@[simp] theorem State.closeSeal_guard (cause polder) : (s.closeSeal cause polder).guard = s.guard := by simp [State.closeSeal]
@[simp] theorem sealClose_guard (j) : (sealClose j s).guard = s.guard := by simp [sealClose]
@[simp] theorem sealAutoClose_guard : (sealAutoClose s).guard = s.guard := by simp [sealAutoClose]
@[simp] theorem calWrite_guard (j) : (calWrite j s).guard = s.guard := by simp [calWrite]
@[simp] theorem calMeasure_guard (j) : (calMeasure j s).guard = s.guard := by simp [calMeasure]

@[simp] theorem flueRead_guard (j) : (flueRead j s).guard = s.guard := by
  simp only [flueRead]
  split
  · split
    · simp
    · simp only [State.finishJob_same]
      exact foldl_guard (fun s n => by split <;> simp) _ _
  · rfl

@[simp] theorem flueFetch_guard (j) : (flueFetch j s).guard = s.guard := by simp [flueFetch]
@[simp] theorem flueCert_guard (j) : (flueCert j s).guard = s.guard := by unfold flueCert; simp only; (repeat' split) <;> simp
@[simp] theorem flueDeferredSign_guard : (flueDeferredSign s).guard = s.guard := by simp [flueDeferredSign]
@[simp] theorem tamperInput_guard (n) : (tamperInput n s).guard = s.guard := by simp [tamperInput]
@[simp] theorem State.mergeLedger_guard : s.mergeLedger.guard = s.guard := by simp [State.mergeLedger]
@[simp] theorem ledgerMerge_guard : (ledgerMerge s).guard = s.guard := by simp [ledgerMerge]

/-! ### Cold and warm resets (R479 to R482) -/

@[simp] theorem State.takeAnchor_guard : s.takeAnchor.guard = s.guard := by simp [State.takeAnchor]
@[simp] theorem State.stopTb_guard : s.stopTb.guard = s.guard := by simp [State.stopTb]
@[simp] theorem State.portsUp_guard : s.portsUp.guard = s.guard := by simp [State.portsUp]
@[simp] theorem State.lswCold_guard : s.lswCold.guard = s.guard := by simp [State.lswCold]
@[simp] theorem State.mainOff_guard : s.mainOff.guard = s.guard := by simp [State.mainOff]
@[simp] theorem State.orderlySave_guard : s.orderlySave.guard = s.guard := by simp [State.orderlySave]
@[simp] theorem State.clearCold_guard (code) : (s.clearCold code).guard = s.guard := by simp [State.clearCold]

@[simp] theorem State.guardCold_hv_le (code) (hle : hvOf s.guard.outs out ≤ top) : hvOf (s.guardCold code).guard.outs out ≤ top := by
  simp [State.guardCold, hle]

@[simp] theorem State.coldReset_hv_le (code) (hle : hvOf s.guard.outs out ≤ top) : hvOf (s.coldReset code).guard.outs out ≤ top := by
  simp [State.coldReset, hle]

@[simp] theorem State.coldWhenSafe_hv_le (hle : hvOf s.guard.outs out ≤ top) : hvOf s.coldWhenSafe.guard.outs out ≤ top := by
  unfold State.coldWhenSafe; split <;> simp [hle]

@[simp] theorem State.failover_guard : s.failover.guard = s.guard := by simp [State.failover]
@[simp] theorem State.lswWarm_guard : s.lswWarm.guard = s.guard := by simp [State.lswWarm]

@[simp] theorem State.warmReset_hv_le (code) (hle : hvOf s.guard.outs out ≤ top) : hvOf (s.warmReset code).guard.outs out ≤ top := by
  simp [State.warmReset, hle]

/-! ### Jobs of the Key Register and the life cycle (R53 to R82) -/

@[simp] theorem State.denyKeyJob_guard (j n) : (s.denyKeyJob j n).guard = s.guard := by simp [State.denyKeyJob]
@[simp] theorem State.keyFilled_guard (j n orphans) : (s.keyFilled j n orphans).guard = s.guard := by simp [State.keyFilled]
@[simp] theorem State.tagKeyOf_guard (k) : (s.tagKeyOf k).guard = s.guard := by simp [State.tagKeyOf]
@[simp] theorem keyDerive_guard (j p) : (keyDerive j p s).guard = s.guard := by unfold keyDerive; simp only; (repeat' split) <;> simp
@[simp] theorem keyImport_guard (j p) : (keyImport j p s).guard = s.guard := by unfold keyImport; simp only; (repeat' split) <;> simp
@[simp] theorem keyInvalidate_guard (j n) : (keyInvalidate j n s).guard = s.guard := by simp [keyInvalidate]

@[simp] theorem State.attestNow_guard (j nonce) : (s.attestNow j nonce).guard = s.guard := by
  unfold State.attestNow; simp only; (repeat' split) <;> simp

@[simp] theorem attest_guard (j nonce) : (attest j nonce s).guard = s.guard := by simp [attest]
@[simp] theorem hssReady_guard : (hssReady s).guard = s.guard := by simp [hssReady]
@[simp] theorem State.forget_guard : s.forget.guard = s.guard := by simp [State.forget]

@[simp] theorem State.transition_hv_le (t) (hle : hvOf s.guard.outs out ≤ top) : hvOf (s.transition t).guard.outs out ≤ top := by
  simp [State.transition, hle]

@[simp] theorem lifecycle_hv_le (j target auth) (hle : hvOf s.guard.outs out ≤ top) : hvOf (lifecycle j target auth s).guard.outs out ≤ top := by
  unfold lifecycle; (repeat' split) <;> simp [hle]

@[simp] theorem lifeNonce_guard (j) : (lifeNonce j s).guard = s.guard := by simp [lifeNonce]
@[simp] theorem nonceLapse_guard : (nonceLapse s).guard = s.guard := by unfold nonceLapse; split <;> simp
@[simp] theorem remask_guard : (remask s).guard = s.guard := by simp [remask]
@[simp] theorem slotExpire_guard (n) : (slotExpire n s).guard = s.guard := by simp [slotExpire]

end Sys2Proof.Machine
end

section
/-!
What mesh, reader, supplies, plan and tag leave of the HV_EN, operation by operation.
-/

namespace Sys2Proof.Machine

variable (s : State) {out : Fin 6} {top : Bool}

/-! ### The mains mesh (chapter 14) -/

@[simp] theorem meshLock_guard (p spacing) : (meshLock p spacing s).guard = s.guard := by simp [meshLock]
@[simp] theorem meshUnlock_guard (p) : (meshUnlock p s).guard = s.guard := by simp [meshUnlock]
@[simp] theorem meshJump_guard (p) : (meshJump p s).guard = s.guard := by simp [meshJump]
@[simp] theorem State.meshQueue_guard (f relay) : (s.meshQueue f relay).guard = s.guard := by simp [State.meshQueue]
@[simp] theorem State.originate_guard (type payload) : (s.originate type payload).guard = s.guard := by simp [State.originate]
@[simp] theorem meshClaim_guard : (meshClaim s).guard = s.guard := by simp [meshClaim]
@[simp] theorem meshTime_guard : (meshTime s).guard = s.guard := by unfold meshTime; split <;> simp
@[simp] theorem meshStart_guard : (meshStart s).guard = s.guard := by unfold meshStart; split <;> simp
@[simp] theorem meshFail_guard : (meshFail s).guard = s.guard := by unfold meshFail; split <;> simp
@[simp] theorem meshSent_guard : (meshSent s).guard = s.guard := by unfold meshSent; split <;> simp
@[simp] theorem meshBad_guard : (meshBad s).guard = s.guard := by simp [meshBad]
@[simp] theorem State.onNode_guard (n f) : (s.onNode n f).guard = s.guard := by simp [State.onNode]

theorem State.nodeContext_guard {s t : State} {n} (h : s.nodeContext n = some t) : t.guard = s.guard := by
  unfold State.nodeContext at h
  split at h
  · cases h; rfl
  · split at h
    case h_1 ha => cases h; simpa using State.allocSid_guard ha
    case h_2 => cases h

@[simp] theorem State.standDown_guard (f) : (s.standDown f).guard = s.guard := by simp [State.standDown]

@[simp] theorem State.meshTake_guard (x) {f : Nat → State → State} (hf : ∀ n u, (f n u).guard = u.guard) : (s.meshTake x f).guard = s.guard := by
  simp only [State.meshTake]
  repeat' split
  all_goals try simp [hf]
  all_goals simp [State.nodeContext_guard (by assumption)]

@[simp] theorem State.meshRelay_guard (x path) : (s.meshRelay x path).guard = s.guard := by simp [State.meshRelay]
@[simp] theorem State.meshClaimed_guard (x sharing path) : (s.meshClaimed x sharing path).guard = s.guard := by simp [State.meshClaimed]
@[simp] theorem meshClaimIn_guard (x) : (meshClaimIn x s).guard = s.guard := by simp [meshClaimIn]
@[simp] theorem meshBeaconIn_guard (x) : (meshBeaconIn x s).guard = s.guard := by simp [meshBeaconIn]
@[simp] theorem meshTimeIn_guard (x tb) : (meshTimeIn x tb s).guard = s.guard := by simp [meshTimeIn]
@[simp] theorem meshRelayOut_guard : (meshRelayOut s).guard = s.guard := by unfold meshRelayOut; split <;> simp
@[simp] theorem meshExpire_guard (n) : (meshExpire n s).guard = s.guard := by unfold meshExpire; simp only; (repeat' split) <;> simp

/-! ### The card reader (chapter 13) -/

@[simp] theorem State.rdEnter_guard (x) : (s.rdEnter x).guard = s.guard := by simp [State.rdEnter]
@[simp] theorem State.dropCard_guard (k) : (s.dropCard k).guard = s.guard := by unfold State.dropCard; split <;> simp
@[simp] theorem State.dropCards_guard : s.dropCards.guard = s.guard := by simp [State.dropCards]
@[simp] theorem State.baseline_guard (pings) : (s.baseline pings).guard = s.guard := by simp [State.baseline]
@[simp] theorem State.follow_guard (p) : (s.follow p).guard = s.guard := by simp [State.follow]
@[simp] theorem State.lastPing_guard (p) : (s.lastPing p).guard = s.guard := by simp [State.lastPing]
@[simp] theorem rdBaseline_guard (pings) : (rdBaseline pings s).guard = s.guard := by simp [rdBaseline]
@[simp] theorem rdPing_guard (p) : (rdPing p s).guard = s.guard := by unfold rdPing; split <;> simp
@[simp] theorem rdConfirm_guard (p) : (rdConfirm p s).guard = s.guard := by simp [rdConfirm]
@[simp] theorem State.onCard_guard (k f) : (s.onCard k f).guard = s.guard := by simp [State.onCard]

@[simp] theorem State.applyCard_hv (k o) : hvOf (s.applyCard k o).guard.outs out = hvOf s.guard.outs out := by
  unfold State.applyCard; (repeat' split) <;> simp

@[simp] theorem State.applyNone_guard (k) : (s.applyNone k).guard = s.guard := by unfold State.applyNone; split <;> simp

@[simp] theorem State.holdCard_hv (c) : hvOf (s.holdCard c).guard.outs out = hvOf s.guard.outs out := by
  simp only [State.holdCard]
  split
  case h_1 => simp
  case h_2 =>
    split
    case h_1 => simp
    case h_2 ha =>
      have hg := State.allocSid_guard ha
      split
      · simp [hg]
      · split <;> simp [hg]

@[simp] theorem State.takeCards_hv (cards) : hvOf (s.takeCards cards).guard.outs out = hvOf s.guard.outs out := by
  refine (foldl_hv (fun s c => ?_) _ _).trans (by simp)
  split <;> simp

@[simp] theorem State.dropParked_guard : s.dropParked.guard = s.guard := by simp [State.dropParked]
@[simp] theorem rdPoll_hv (cards) : hvOf (rdPoll cards s).guard.outs out = hvOf s.guard.outs out := by unfold rdPoll; split <;> simp

@[simp] theorem rdInventory_hv (cards) : hvOf (rdInventory cards s).guard.outs out = hvOf s.guard.outs out := by
  unfold rdInventory
  extract_lets l s1
  have h1 : hvOf s1.guard.outs out = hvOf s.guard.outs out := foldl_hv (fun s k => by (repeat' split) <;> simp) _ _
  split <;> simp [h1]

@[simp] theorem rdHoldMax_guard (pings) : (rdHoldMax pings s).guard = s.guard := by simp [rdHoldMax]
@[simp] theorem rdFault_guard : (rdFault s).guard = s.guard := by unfold rdFault; split <;> simp
@[simp] theorem rdRecover_guard : (rdRecover s).guard = s.guard := by simp [rdRecover]
@[simp] theorem rdRestart_guard : (rdRestart s).guard = s.guard := by simp [rdRestart]
@[simp] theorem State.writeRdcfg_guard (v) : (s.writeRdcfg v).2.guard = s.guard := by simp [State.writeRdcfg]
@[simp] theorem State.writeTest_guard (v) : (s.writeTest v).2.guard = s.guard := by simp [State.writeTest]
@[simp] theorem rdTestLimit_guard : (rdTestLimit s).guard = s.guard := by simp [rdTestLimit]

@[simp] theorem State.writeBind_hv (v) : hvOf (s.writeBind v).guard.outs out = hvOf s.guard.outs out := by
  unfold State.writeBind; simp only; (repeat' split) <;> simp

@[simp] theorem rdBindTimeout_guard (k) : (rdBindTimeout k s).guard = s.guard := by simp [rdBindTimeout]
@[simp] theorem State.writeXchg_guard (v) : (s.writeXchg v).2.guard = s.guard := by unfold State.writeXchg; simp only; (repeat' split) <;> simp
@[simp] theorem rdXchgDone_guard (answer removed) : (rdXchgDone answer removed s).guard = s.guard := by unfold rdXchgDone; (repeat' split) <;> simp

/-! ### Supplies, clocks, resets and EMBER (chapter 15) -/

@[simp] theorem State.shortTick_guard : s.shortTick.guard = s.guard := by unfold State.shortTick; simp only; (repeat' split) <;> simp
@[simp] theorem powerFail_guard : (powerFail s).guard = s.guard := by simp [powerFail]
@[simp] theorem warningClear_guard : (warningClear s).guard = s.guard := by simp [warningClear]
@[simp] theorem State.supplyLost_guard (w) : (s.supplyLost w).guard = s.guard := by simp [State.supplyLost]
@[simp] theorem brownOut_hv_le (hle : hvOf s.guard.outs out ≤ top) : hvOf (brownOut s).guard.outs out ≤ top := by simp [brownOut, hle]
@[simp] theorem nrstAssert_hv_le (hle : hvOf s.guard.outs out ≤ top) : hvOf (nrstAssert s).guard.outs out ≤ top := by simp [nrstAssert, hle]
@[simp] theorem nrstHeld_guard (held) : (nrstHeld held s).guard = s.guard := by simp [nrstHeld]
@[simp] theorem nrstRelease_guard (held) : (nrstRelease held s).guard = s.guard := by simp [nrstRelease]
@[simp] theorem thermalReset_hv_le (hle : hvOf s.guard.outs out ≤ top) : hvOf (thermalReset s).guard.outs out ≤ top := by simp [thermalReset, hle]
@[simp] theorem watchdog_hv_le (hle : hvOf s.guard.outs out ≤ top) : hvOf (watchdog s).guard.outs out ≤ top := by simp [watchdog, hle]
@[simp] theorem State.pairFault_guard : s.pairFault.guard = s.guard := by simp [State.pairFault]
@[simp] theorem hearthFail_guard : (hearthFail s).guard = s.guard := by simp [hearthFail]
@[simp] theorem eccBad_guard : (eccBad s).guard = s.guard := by simp [eccBad]
@[simp] theorem eccFixed_guard : (eccFixed s).guard = s.guard := by simp [eccFixed]
@[simp] theorem selftestDone_guard (pass) : (selftestDone pass s).guard = s.guard := by simp [selftestDone]
@[simp] theorem checkpoint_guard : (checkpoint s).guard = s.guard := by simp [checkpoint]

@[simp] theorem clockLoss_hv_le (hle : hvOf s.guard.outs out ≤ top) : hvOf (clockLoss s).guard.outs out ≤ top := by
  unfold clockLoss
  split <;> simp [State.stopTb, hle]

@[simp] theorem lpLimit_hv_le (hle : hvOf s.guard.outs out ≤ top) : hvOf (lpLimit s).guard.outs out ≤ top := by simp [lpLimit, hle]
@[simp] theorem xtalFail_guard : (xtalFail s).guard = s.guard := by simp [xtalFail]
@[simp] theorem xtalBack_guard : (xtalBack s).guard = s.guard := by simp [xtalBack]
@[simp] theorem backupAnchor_guard : (backupAnchor s).guard = s.guard := by simp [backupAnchor]
@[simp] theorem rtcReload_guard : (rtcReload s).guard = s.guard := by unfold rtcReload; split <;> simp
@[simp] theorem rtcAlarm_guard : (rtcAlarm s).guard = s.guard := by simp [rtcAlarm]
@[simp] theorem vbatLost_hv : hvOf (vbatLost s).guard.outs out = hvOf s.guard.outs out := by simp [vbatLost]
@[simp] theorem pilotUp_hv : hvOf (pilotUp s).guard.outs out = hvOf s.guard.outs out := by simp [pilotUp]
@[simp] theorem pilotDown_hv : hvOf (pilotDown s).guard.outs out = hvOf s.guard.outs out := by simp [pilotDown]

@[simp] theorem State.writeReset_hv_le (v) (hle : hvOf s.guard.outs out ≤ top) : hvOf (s.writeReset v).2.guard.outs out ≤ top := by
  unfold State.writeReset; (repeat' split) <;> simp [hle]

@[simp] theorem Guard.asleep_hv (g : Guard) : hvOf g.asleep.outs out = hvOf g.outs out := by simp [Guard.asleep]

@[simp] theorem State.enterEmber_hv : hvOf s.enterEmber.guard.outs out = hvOf s.guard.outs out := by
  simp [State.enterEmber]

@[simp] theorem emberAuto_hv : hvOf (emberAuto s).guard.outs out = hvOf s.guard.outs out := by simp [emberAuto]
@[simp] theorem State.writeSleep_hv (v) : hvOf (s.writeSleep v).2.guard.outs out = hvOf s.guard.outs out := by unfold State.writeSleep; split <;> simp

@[simp] theorem emberBrownOut_hv_le (hle : hvOf s.guard.outs out ≤ top) : hvOf (emberBrownOut s).guard.outs out ≤ top := by
  unfold emberBrownOut; split <;> simp [hle]

/-! ### Plan start and plan swap (R148 to R157) -/

@[simp] theorem State.watchPilots_guard : s.watchPilots.guard = s.guard := by simp [State.watchPilots]
@[simp] theorem State.startPlan_guard (p) : (s.startPlan p).guard = s.guard := by simp [State.startPlan]
@[simp] theorem State.armSwap_guard (polder v) : (s.armSwap polder v).2.guard = s.guard := by unfold State.armSwap; (repeat' split) <;> simp
@[simp] theorem State.abandonSwap_guard : s.abandonSwap.guard = s.guard := by simp [State.abandonSwap]
@[simp] theorem State.writeSwap_guard (polder v) : (s.writeSwap polder v).2.guard = s.guard := by unfold State.writeSwap; (repeat' split) <;> simp
@[simp] theorem State.endRuns_guard (a b) : (s.endRuns a b).guard = s.guard := by simp [State.endRuns]
@[simp] theorem State.replacePlan_guard (b) : (s.replacePlan b).guard = s.guard := by unfold State.replacePlan; split <;> simp
@[simp] theorem planSwap_hv : hvOf (planSwap s).guard.outs out = hvOf s.guard.outs out := by unfold planSwap; split <;> simp
@[simp] theorem swapExpire_guard : (swapExpire s).guard = s.guard := by simp [swapExpire]

/-! ### The service tag (chapter 13) -/

@[simp] theorem State.wireWrite_guard (a data) : (s.wireWrite a data).guard = s.guard := by simp [State.wireWrite]
@[simp] theorem State.tagAnswer_guard (data sw1 sw2) : (s.tagAnswer data sw1 sw2).guard = s.guard := by simp [State.tagAnswer]

@[simp] theorem State.tagField_guard {f : State → State} (hf : ∀ u, (f u).guard = u.guard) : (s.tagField f).guard = s.guard := by
  unfold State.tagField
  split <;> simp [hf]

@[simp] theorem State.tagHold_guard : s.tagHold.guard = s.guard := by simp [State.tagHold]

@[simp] theorem State.tagCommand_guard {f : State → State} (hf : ∀ u, (f u).guard = u.guard) : (s.tagCommand f).guard = s.guard :=
  s.tagField_guard (fun u => (hf _).trans (by simp))

@[simp] theorem tagOn_guard : (tagOn s).guard = s.guard := by simp [tagOn]
@[simp] theorem State.loseField_guard : s.loseField.guard = s.guard := by simp [State.loseField]
@[simp] theorem tagLost_guard : (tagLost s).guard = s.guard := by simp [tagLost]
@[simp] theorem tagFdet_guard : (tagFdet s).guard = s.guard := by simp [tagFdet]
@[simp] theorem tagSelectApp_guard (aid) : (tagSelectApp aid s).guard = s.guard := by simp [tagSelectApp]

@[simp] theorem tagSelectFileId_guard (fid) : (tagSelectFileId fid s).guard = s.guard :=
  s.tagCommand_guard (fun u => by (repeat' split) <;> simp)

@[simp] theorem tagRead_guard (offset le) : (tagRead offset le s).guard = s.guard :=
  s.tagCommand_guard (fun u => by simp only; (repeat' split) <;> simp)

@[simp] theorem tagUpdate_guard (w) : (tagUpdate w s).guard = s.guard :=
  s.tagCommand_guard (fun u => by simp only; (repeat' split) <;> simp)

@[simp] theorem State.tagCheck_guard (good answer) : (s.tagCheck good answer).guard = s.guard := by simp [State.tagCheck]
@[simp] theorem tagVerifyPw_guard (pw) : (tagVerifyPw pw s).guard = s.guard := by simp [tagVerifyPw]
@[simp] theorem State.tagUse_guard : s.tagUse.guard = s.guard := by simp [State.tagUse]

@[simp] theorem tagBegin_guard : (tagBegin s).guard = s.guard :=
  s.tagCommand_guard (fun u => by (repeat' split) <;> simp)

@[simp] theorem tagFinish_guard (data) : (tagFinish data s).guard = s.guard :=
  s.tagCommand_guard (fun u => by simp only; (repeat' split) <;> simp)

@[simp] theorem tagEnd_guard : (tagEnd s).guard = s.guard := by simp [tagEnd]
@[simp] theorem State.writeTagcfg_guard (v) : (s.writeTagcfg v).2.guard = s.guard := by simp [State.writeTagcfg]
@[simp] theorem State.writeTagpwd_guard (v) : (s.writeTagpwd v).2.guard = s.guard := by simp [State.writeTagpwd]

@[simp] theorem State.tagWindow_guard (offset words) : (s.tagWindow offset words).2.guard = s.guard := by
  unfold State.tagWindow; (repeat' split) <;> simp

@[simp] theorem tagServe_guard : (tagServe s).guard = s.guard := by simp [tagServe]
@[simp] theorem State.statusLine_guard (text) : (s.statusLine text).guard = s.guard := by simp [State.statusLine]
@[simp] theorem statusHearth_guard : (statusHearth s).guard = s.guard := by simp [statusHearth]
@[simp] theorem statusReset_guard : (statusReset s).guard = s.guard := by simp [statusReset]
@[simp] theorem statusStopped_guard : (statusStopped s).guard = s.guard := by simp [statusStopped]

end Sys2Proof.Machine
end

section
/-!
What the Fireguard's events, load switches, networks, the vehicle link's commands, updates, boot and jobs leave of the HV_EN, operation by operation.
-/

namespace Sys2Proof.Machine

variable (s : State) {out : Fin 6} {top : Bool}

/-! ### The Fireguard's events (chapter 11) -/

@[simp] theorem fgLaneLost_hv_le (hle : hvOf s.guard.outs out ≤ top) : hvOf (fgLaneLost s).guard.outs out ≤ top := by simp [fgLaneLost, hle]
@[simp] theorem fgLaneGood_hv : hvOf (fgLaneGood s).guard.outs out = hvOf s.guard.outs out := by simp [fgLaneGood]
@[simp] theorem fgClockFault_hv_le (hle : hvOf s.guard.outs out ≤ top) : hvOf (fgClockFault s).guard.outs out ≤ top := by simp [fgClockFault, hle]
@[simp] theorem fgHold_hv : hvOf (fgHold s).guard.outs out = hvOf s.guard.outs out := by simp [fgHold]
@[simp] theorem fgHoldEnd_hv : hvOf (fgHoldEnd s).guard.outs out = hvOf s.guard.outs out := by simp [fgHoldEnd]
@[simp] theorem fgHoldExpire_hv_le (hle : hvOf s.guard.outs out ≤ top) : hvOf (fgHoldExpire s).guard.outs out ≤ top := by simp [fgHoldExpire, hle]
@[simp] theorem fgReset_hv_le (c) (hle : hvOf s.guard.outs out ≤ top) : hvOf (fgReset c s).guard.outs out ≤ top := by simp [fgReset, hle]

theorem fgRaise_hv_other (o) (ho : o ≠ out) : hvOf (fgRaise o s).guard.outs out = hvOf s.guard.outs out := by
  unfold fgRaise
  (repeat' split) <;> simp [ho, State.setHv_hv]

@[simp] theorem State.onIso_hv (n f) : hvOf (s.onIso n f).guard.outs out = hvOf s.guard.outs out := by simp [State.onIso]
@[simp] theorem isoVerdict_hv (n worst) : hvOf (isoVerdict n worst s).guard.outs out = hvOf s.guard.outs out := by simp [isoVerdict]

@[simp] theorem isoCycle_hv_le (n up um ok) (hle : hvOf s.guard.outs out ≤ top) : hvOf (isoCycle n up um ok s).guard.outs out ≤ top := by
  simp [isoCycle]; (repeat' split) <;> simp [hle]

@[simp] theorem isoHalf_hv_le (n) (hle : hvOf s.guard.outs out ≤ top) : hvOf (isoHalf n s).guard.outs out ≤ top := by simp [isoHalf, hle]
@[simp] theorem isoDwell_hv (n mv) : hvOf (isoDwell n mv s).guard.outs out = hvOf s.guard.outs out := by simp [isoDwell]
@[simp] theorem isoRampFail_hv (n) : hvOf (isoRampFail n s).guard.outs out = hvOf s.guard.outs out := by simp [isoRampFail]
@[simp] theorem State.onRcd_hv (k f) : hvOf (s.onRcd k f).guard.outs out = hvOf s.guard.outs out := by simp [State.onRcd]

@[simp] theorem rcdEval_hv_le (k) (hle : hvOf s.guard.outs out ≤ top) : hvOf (rcdEval k s).guard.outs out ≤ top := by
  unfold rcdEval; simp only; (repeat' split) <;> simp [hle]

@[simp] theorem State.testChan_guard (k on) : (s.testChan k on).guard = s.guard := by simp [State.testChan]

@[simp] theorem rcdTestStart_hv_le (k) (hle : hvOf s.guard.outs out ≤ top) : hvOf (rcdTestStart k s).guard.outs out ≤ top := by
  simp only [rcdTestStart]
  split <;> simp [hle]

@[simp] theorem rcdTestEnd_hv (k) : hvOf (rcdTestEnd k s).guard.outs out = hvOf s.guard.outs out := by simp [rcdTestEnd]

@[simp] theorem weldVerdict_hv_le (o volts) (hle : hvOf s.guard.outs out ≤ top) : hvOf (weldVerdict o volts s).guard.outs out ≤ top := by
  simp [weldVerdict, hle]

@[simp] theorem guardChange_hv_le (a b) (hle : hvOf s.guard.outs out ≤ top) : hvOf (guardChange a b s).guard.outs out ≤ top := by
  simp [guardChange, hle]

@[simp] theorem guardFaulted_hv_le (hle : hvOf s.guard.outs out ≤ top) : hvOf (guardFaulted s).guard.outs out ≤ top := by simp [guardFaulted, hle]
@[simp] theorem guardPass_hv : hvOf (guardPass s).guard.outs out = hvOf s.guard.outs out := by simp [guardPass]
@[simp] theorem safeLow_hv_le (o ma) (hle : hvOf s.guard.outs out ≤ top) : hvOf (safeLow o ma s).guard.outs out ≤ top := by simp [safeLow, hle]

@[simp] theorem safeForce_hv_le (hle : hvOf s.guard.outs out ≤ top) : hvOf (safeForce s).guard.outs out ≤ top := by
  simp only [safeForce]
  split
  · split
    · exact State.coldWhenSafe_hv_le _ (foldl_hv_le (fun s o => by simp) _ (by simpa using hle))
    · exact hle
  · exact hle

@[simp] theorem State.writeFg_hv (r n o v) : hvOf (s.writeFg r n o v).2.guard.outs out = hvOf s.guard.outs out := by
  unfold State.writeFg; simp only; (repeat' split) <;> simp

/-! ### Load switches (chapter 12) -/

@[simp] theorem State.applyChan_guard (n) : (s.applyChan n).guard = s.guard := by simp [State.applyChan]
@[simp] theorem State.reloadRetry_guard (n) : (s.reloadRetry n).guard = s.guard := by simp [State.reloadRetry]
@[simp] theorem State.latchChan_hv (n state) : hvOf (s.latchChan n state).guard.outs out = hvOf s.guard.outs out := by simp [State.latchChan]
@[simp] theorem lswLimit_hv (n) : hvOf (lswLimit n s).guard.outs out = hvOf s.guard.outs out := by simp [lswLimit]
@[simp] theorem lswRetry_guard (n) : (lswRetry n s).guard = s.guard := by simp [lswRetry]
@[simp] theorem lswReload_guard (n ma) : (lswReload n ma s).guard = s.guard := by simp [lswReload]
@[simp] theorem lswThermal_hv (n) : hvOf (lswThermal n s).guard.outs out = hvOf s.guard.outs out := by simp [lswThermal]
@[simp] theorem lswOpen_guard (n) : (lswOpen n s).guard = s.guard := by simp [lswOpen]

@[simp] theorem lswOffTest_hv_le (n sees) (hle : hvOf s.guard.outs out ≤ top) : hvOf (lswOffTest n sees s).guard.outs out ≤ top := by
  simp [lswOffTest, hle]

@[simp] theorem lswNeg_guard (n) : (lswNeg n s).guard = s.guard := by simp [lswNeg]
@[simp] theorem lswPullin_guard (n) : (lswPullin n s).guard = s.guard := by simp [lswPullin]
@[simp] theorem State.lockReport_hv (n ok) : hvOf (s.lockReport n ok).guard.outs out = hvOf s.guard.outs out := by simp [State.lockReport]
@[simp] theorem lswTravel_hv (n) : hvOf (lswTravel n s).guard.outs out = hvOf s.guard.outs out := by simp [lswTravel]
@[simp] theorem lswLockTimeout_hv (n) : hvOf (lswLockTimeout n s).guard.outs out = hvOf s.guard.outs out := by simp [lswLockTimeout]
@[simp] theorem lswUnder_hv : hvOf (lswUnder s).guard.outs out = hvOf s.guard.outs out := by simp [lswUnder]
@[simp] theorem lswRecover_hv : hvOf (lswRecover s).guard.outs out = hvOf s.guard.outs out := by simp [lswRecover]
@[simp] theorem State.writeOn_guard (v) : (s.writeOn v).guard = s.guard := by simp [State.writeOn]
@[simp] theorem State.clearChan_guard (n) : (s.clearChan n).guard = s.guard := by simp [State.clearChan]
@[simp] theorem State.writeClear_guard (v) : (s.writeClear v).guard = s.guard := by simp [State.writeClear]

/-! ### Safety networks (R368 to R373) -/

@[simp] theorem State.disagree_hv : hvOf s.disagree.guard.outs out = hvOf s.guard.outs out := by simp [State.disagree]
@[simp] theorem State.slotEnd_hv : hvOf s.slotEnd.guard.outs out = hvOf s.guard.outs out := by simp [State.slotEnd]

@[simp] theorem Guard.heard_outs (g : Guard) (k netB seq) : (g.heard k netB seq).outs = g.outs := by unfold Guard.heard; split <;> rfl

@[simp] theorem netSlot_hv_le (a b) (hle : hvOf s.guard.outs out ≤ top) : hvOf (netSlot a b s).guard.outs out ≤ top := by
  simp only [netSlot]
  (repeat' split) <;> simp [hle]

@[simp] theorem netCabinet_hv_le (k netB fr) (s0 : State) (hle : hvOf s0.guard.outs out ≤ top) :
    hvOf (netCabinet k netB fr s0).guard.outs out ≤ top := by
  simp [netCabinet, hle]

@[simp] theorem netMissing_hv (netB) : hvOf (netMissing netB s).guard.outs out = hvOf s.guard.outs out := by simp [netMissing]
@[simp] theorem netDisagree_hv : hvOf (netDisagree s).guard.outs out = hvOf s.guard.outs out := by simp [netDisagree]
@[simp] theorem netBoth_hv_le (hle : hvOf s.guard.outs out ≤ top) : hvOf (netBoth s).guard.outs out ≤ top := by simp [netBoth, hle]
@[simp] theorem cabMissing_hv_le (k) (hle : hvOf s.guard.outs out ≤ top) : hvOf (cabMissing k s).guard.outs out ≤ top := by simp [cabMissing, hle]
@[simp] theorem cabRestored_hv (k) : hvOf (cabRestored k s).guard.outs out = hvOf s.guard.outs out := by simp [cabRestored]
@[simp] theorem netsRestored_hv : hvOf (netsRestored s).guard.outs out = hvOf s.guard.outs out := by simp [netsRestored]
@[simp] theorem degClear_hv : hvOf (degClear s).guard.outs out = hvOf s.guard.outs out := by simp [degClear]
@[simp] theorem degLimit_hv_le (hle : hvOf s.guard.outs out ≤ top) : hvOf (degLimit s).guard.outs out ≤ top := by simp [degLimit, hle]

/-! ### The vehicle link's commands (chapter 09) -/

@[simp] theorem State.pilotEvent_hv (o) : hvOf (s.pilotEvent o).guard.outs out = hvOf s.guard.outs out := by simp [State.pilotEvent]
@[simp] theorem State.pilotA_guard (o was now) : (s.pilotA o was now).guard = s.guard := by simp [State.pilotA]
@[simp] theorem vehPilot_hv (o i) (s0 : State) : hvOf (vehPilot o i s0).guard.outs out = hvOf s0.guard.outs out := by simp [vehPilot]
@[simp] theorem vehPp_hv (o ohms) : hvOf (vehPp o ohms s).guard.outs out = hvOf s.guard.outs out := by simp [vehPp]
@[simp] theorem State.restartSlac_guard (o) : (s.restartSlac o).guard = s.guard := by simp [State.restartSlac]
@[simp] theorem State.resendUnacked_guard (o) : (s.resendUnacked o).guard = s.guard := by simp [State.resendUnacked]

@[simp] theorem vehModemFailed_hv (m us) : hvOf (vehModemFailed m us s).guard.outs out = hvOf s.guard.outs out := by
  unfold vehModemFailed; simp only; (repeat' split) <;> simp

@[simp] theorem slacParm_hv (run) : hvOf (slacParm run s).guard.outs out = hvOf s.guard.outs out := by
  unfold slacParm
  extract_lets known s0 cand s1
  have h0 : hvOf s0.guard.outs out = hvOf s.guard.outs out := by
    simp only [s0]
    split
    · rfl
    · exact foldl_hv (fun s o => by (repeat' split) <;> simp) _ _
  split
  · exact h0
  · refine (foldl_hv (fun s o => by simp only; (repeat' split) <;> simp) _ _).trans ?_
    simp only [s1]
    split <;> exact h0

@[simp] theorem slacStart_guard (run) : (slacStart run s).guard = s.guard := by simp [slacStart]
@[simp] theorem slacAddSound_guard (run atten) : (slacAddSound run atten s).guard = s.guard := by unfold slacAddSound; split <;> simp
@[simp] theorem slacNeighbour_guard (run atten) : (slacNeighbour run atten s).guard = s.guard := by simp [slacNeighbour]
@[simp] theorem slacClose_guard : (slacClose s).guard = s.guard := by simp [slacClose]

@[simp] theorem slacMatch_guard (o run) : (slacMatch o run s).guard = s.guard := by
  unfold slacMatch
  split
  · rfl
  · split
    · simp only
      split <;> simp only [State.logEv_same, State.onProto_guard, State.onVeh_guard, State.onModem_guard, State.drawBytes_same, State.plcSend_guard, State.plcRecv_guard]
    · rfl

@[simp] theorem slacValidate_guard (o run toggles) : (slacValidate o run toggles s).guard = s.guard := by unfold slacValidate; split <;> simp

@[simp] theorem slacFail_hv (o) : hvOf (slacFail o s).guard.outs out = hvOf s.guard.outs out := by
  unfold slacFail; simp only; (repeat' split) <;> simp

@[simp] theorem t1sOff_guard (n) : (t1sOff n s).guard = s.guard := by simp [t1sOff]
@[simp] theorem t1sDrop_hv (n) : hvOf (t1sDrop n s).guard.outs out = hvOf s.guard.outs out := by simp [t1sDrop]
@[simp] theorem vehSdp_hv_le (o tls) (hle : hvOf s.guard.outs out ≤ top) : hvOf (vehSdp o tls s).guard.outs out ≤ top := by simp [vehSdp, hle]
@[simp] theorem vehTls_hv (o h) : hvOf (vehTls o h s).guard.outs out = hvOf s.guard.outs out := by unfold vehTls; simp only; (repeat' split) <;> simp

@[simp] theorem vehProtocol_hv_le (o offers) (hle : hvOf s.guard.outs out ≤ top) : hvOf (vehProtocol o offers s).guard.outs out ≤ top := by
  simp [vehProtocol, hle]

@[simp] theorem vehSetup_hv_le (o evccid) (hle : hvOf s.guard.outs out ≤ top) : hvOf (vehSetup o evccid s).guard.outs out ≤ top := by
  simp [vehSetup, hle]

@[simp] theorem vehService_hv_le (o service) (hle : hvOf s.guard.outs out ≤ top) : hvOf (vehService o service s).guard.outs out ≤ top := by
  simp [vehService, hle]

@[simp] theorem vehCertificate_hv_le (o update exi) (hle : hvOf s.guard.outs out ≤ top) :
    hvOf (vehCertificate o update exi s).guard.outs out ≤ top := by
  simp [vehCertificate, hle]

@[simp] theorem vehParameters_hv_le (o vMax pMax schedule) (hle : hvOf s.guard.outs out ≤ top) :
    hvOf (vehParameters o vMax pMax schedule s).guard.outs out ≤ top := by
  simp [vehParameters, hle]

@[simp] theorem vehCableCheck_hv_le (o) (hle : hvOf s.guard.outs out ≤ top) : hvOf (vehCableCheck o s).guard.outs out ≤ top :=
  s.vehMsg_hv_le o (fun u => by simp only; (repeat' split) <;> simp) hle

@[simp] theorem vehPrecharge_hv_le (o target) (hle : hvOf s.guard.outs out ≤ top) : hvOf (vehPrecharge o target s).guard.outs out ≤ top := by
  simp [vehPrecharge, hle]

@[simp] theorem vehDelivery_hv_le (o start) (hle : hvOf s.guard.outs out ≤ top) : hvOf (vehDelivery o start s).guard.outs out ≤ top := by
  simp [vehDelivery, hle]

@[simp] theorem vehLoop_hv_le (o target volts power) (hle : hvOf s.guard.outs out ≤ top) :
    hvOf (vehLoop o target volts power s).guard.outs out ≤ top := by
  simp [vehLoop, hle]

@[simp] theorem vehReceipt_hv_le (o signed) (hle : hvOf s.guard.outs out ≤ top) : hvOf (vehReceipt o signed s).guard.outs out ≤ top := by
  simp [vehReceipt, hle]

@[simp] theorem vehWelding_hv_le (o) (hle : hvOf s.guard.outs out ≤ top) : hvOf (vehWelding o s).guard.outs out ≤ top := by simp [vehWelding, hle]
@[simp] theorem vehStop_hv_le (o) (hle : hvOf s.guard.outs out ≤ top) : hvOf (vehStop o s).guard.outs out ≤ top := by simp [vehStop, hle]
@[simp] theorem vehTimeout_hv (o) : hvOf (vehTimeout o s).guard.outs out = hvOf s.guard.outs out := by simp [vehTimeout]

/-! ### Firmware update (chapter 16) -/

@[simp] theorem State.beginUpdate_guard (j sid) : (s.beginUpdate j sid).guard = s.guard := by unfold State.beginUpdate; split <;> simp
@[simp] theorem State.stageRecord_guard (u stage detail word1) : (s.stageRecord u stage detail word1).guard = s.guard := by simp [State.stageRecord]
@[simp] theorem State.failUpdate_guard (u err) : (s.failUpdate u err).guard = s.guard := by simp [State.failUpdate]
@[simp] theorem State.doneUpdate_guard (u) : (s.doneUpdate u).guard = s.guard := by simp [State.doneUpdate]
@[simp] theorem State.acceptBlock_guard (u d ended) : (s.acceptBlock u d ended).guard = s.guard := by simp [State.acceptBlock]
@[simp] theorem State.takeBlock_guard (u) : (s.takeBlock u).guard = s.guard := by unfold State.takeBlock; simp only; (repeat' split) <;> simp
@[simp] theorem updateRun_guard (j) : (updateRun j s).guard = s.guard := by unfold updateRun; split <;> simp
@[simp] theorem State.placeImage_guard (u) : (s.placeImage u).guard = s.guard := by unfold State.placeImage; split <;> simp
@[simp] theorem State.placeShadow_guard (p file) : (s.placeShadow p file).guard = s.guard := by simp [State.placeShadow]
@[simp] theorem State.verifyPlan_guard (u) : (s.verifyPlan u).guard = s.guard := by unfold State.verifyPlan; split <;> simp
@[simp] theorem State.setSealed_guard (l) : (s.setSealed l).guard = s.guard := by simp [State.setSealed]
@[simp] theorem State.installAnchor_guard (u) : (s.installAnchor u).guard = s.guard := by unfold State.installAnchor; split <;> simp
@[simp] theorem State.removeAnchor_guard (u) : (s.removeAnchor u).guard = s.guard := by unfold State.removeAnchor; split <;> simp
@[simp] theorem State.loadStore_guard (u) : (s.loadStore u).guard = s.guard := by unfold State.loadStore; split <;> simp
@[simp] theorem updateCheck_guard : (updateCheck s).guard = s.guard := by unfold updateCheck; (repeat' split) <;> simp
@[simp] theorem updateTokenOut_guard : (updateTokenOut s).guard = s.guard := by unfold updateTokenOut; split <;> simp
@[simp] theorem checkpointOut_guard : (checkpointOut s).guard = s.guard := by unfold checkpointOut; split <;> simp
@[simp] theorem State.reloadModems_hv : hvOf s.reloadModems.guard.outs out = hvOf s.guard.outs out := by simp [State.reloadModems]
@[simp] theorem State.restartReader_guard : s.restartReader.guard = s.guard := by simp [State.restartReader]
@[simp] theorem State.restartGrate_guard : s.restartGrate.guard = s.guard := by unfold State.restartGrate; simp only; (repeat' split) <;> simp

@[simp] theorem State.restartComp_hv_le (k) (hle : hvOf s.guard.outs out ≤ top) : hvOf (s.restartComp k).guard.outs out ≤ top := by
  unfold State.restartComp; split <;> simp [hle]

@[simp] theorem State.activate_hv_le (u) (hle : hvOf s.guard.outs out ≤ top) : hvOf (s.activate u).guard.outs out ≤ top := by
  simp [State.activate, hle]

@[simp] theorem State.writeActivate_hv_le (u) (hle : hvOf s.guard.outs out ≤ top) : hvOf (s.writeActivate u).2.guard.outs out ≤ top := by
  unfold State.writeActivate; simp only; (repeat' split) <;> simp [hle]

@[simp] theorem State.confirmComp_guard (k) : (s.confirmComp k).guard = s.guard := by simp [State.confirmComp]
@[simp] theorem State.writeConfirm_guard : s.writeConfirm.2.guard = s.guard := by unfold State.writeConfirm; (repeat' split) <;> simp

@[simp] theorem State.revertComp_hv_le (k cause) (hle : hvOf s.guard.outs out ≤ top) : hvOf (s.revertComp k cause).guard.outs out ≤ top := by
  simp [State.revertComp, hle]

@[simp] theorem State.writeRevert_hv_le (hle : hvOf s.guard.outs out ≤ top) : hvOf s.writeRevert.2.guard.outs out ≤ top := by
  unfold State.writeRevert; split <;> simp [hle]

@[simp] theorem State.writeCtrl_hv_le (v) (hle : hvOf s.guard.outs out ≤ top) : hvOf (s.writeCtrl v).2.guard.outs out ≤ top := by
  unfold State.writeCtrl; simp only; (repeat' split) <;> simp [hle]

@[simp] theorem trialOut_hv_le (k) (hle : hvOf s.guard.outs out ≤ top) : hvOf (trialOut k s).guard.outs out ≤ top := by simp [trialOut, hle]
@[simp] theorem trialSave_guard (k) : (trialSave k s).guard = s.guard := by simp [trialSave]

/-! ### Boot and wake (R464 to R469, R487 to R489) -/

@[simp] theorem State.spliceAt_guard (a ticks kind) : (s.spliceAt a ticks kind).guard = s.guard := by simp [State.spliceAt]
@[simp] theorem State.tbFromZero_hv (ticks) : hvOf (s.tbFromZero ticks).guard.outs out = hvOf s.guard.outs out := by simp [State.tbFromZero]

@[simp] theorem State.lockPll_hv (ticks kind) : hvOf (s.lockPll ticks kind).guard.outs out = hvOf s.guard.outs out := by
  unfold State.lockPll; split <;> simp

@[simp] theorem State.keysUp_guard (timeLost) : (s.keysUp timeLost).guard = s.guard := by simp [State.keysUp]
@[simp] theorem State.restoreRecord_guard (r journal) : (s.restoreRecord r journal).guard = s.guard := by simp [State.restoreRecord]
@[simp] theorem State.restoreJournal_guard : s.restoreJournal.guard = s.guard := by unfold State.restoreJournal; simp only; (repeat' split) <;> simp
@[simp] theorem State.restoreCells_guard (r) : (s.restoreCells r).guard = s.guard := by unfold State.restoreCells; split <;> simp
@[simp] theorem State.boundUnbooked_guard (r cut) : (s.boundUnbooked r cut).guard = s.guard := by simp [State.boundUnbooked]
@[simp] theorem State.loadBilling_guard (b cold) : (s.loadBilling b cold).guard = s.guard := by unfold State.loadBilling; split <;> simp
@[simp] theorem State.loadSvc_guard : s.loadSvc.guard = s.guard := by simp [State.loadSvc]
@[simp] theorem State.replayTo_guard (tb) : (s.replayTo tb).2.guard = s.guard := by simp [State.replayTo]
@[simp] theorem State.checkSvc_guard (v) : (s.checkSvc v).guard = s.guard := by simp [State.checkSvc]
@[simp] theorem State.withdrawAll_guard (last) : (s.withdrawAll last).guard = s.guard := by simp [State.withdrawAll]
@[simp] theorem State.replayBilling_guard (r cold) : (s.replayBilling r cold).2.guard = s.guard := by simp [State.replayBilling]

@[simp] theorem State.resumeTime_guard (b wide outage) : (s.resumeTime b wide outage).2.guard = s.guard := by
  unfold State.resumeTime; (repeat' split) <;> simp

@[simp] theorem State.loadPlan_guard : s.loadPlan.guard = s.guard := by unfold State.loadPlan; (repeat' split) <;> simp
@[simp] theorem State.meterUp_guard (cut cold) : (s.meterUp cut cold).guard = s.guard := by unfold State.meterUp; simp only; (repeat' split) <;> simp
@[simp] theorem State.linkUp2_hv : hvOf s.linkUp2.guard.outs out = hvOf s.guard.outs out := by simp [State.linkUp2]

@[simp] theorem State.guardUp_hv_le (hle : hvOf s.guard.outs out ≤ top) : hvOf s.guardUp.guard.outs out ≤ top := by
  unfold State.guardUp; split <;> simp [hle]

@[simp] theorem State.afterBackupLoss_hv : hvOf s.afterBackupLoss.guard.outs out = hvOf s.guard.outs out := by simp [State.afterBackupLoss]
@[simp] theorem State.keepGap_guard (gone) : (s.keepGap gone).guard = s.guard := by simp [State.keepGap]
@[simp] theorem State.sealUp_guard : s.sealUp.guard = s.guard := by simp [State.sealUp]
@[simp] theorem State.meshSeed_guard : s.meshSeed.guard = s.guard := by simp [State.meshSeed]

@[simp] theorem State.bootRun_hv_le (ticks) (hle : hvOf s.guard.outs out ≤ top) : hvOf (s.bootRun ticks).guard.outs out ≤ top := by
  simp [State.bootRun, hle]

@[simp] theorem State.finishTransit_guard : s.finishTransit.guard = s.guard := by unfold State.finishTransit; split <;> simp
@[simp] theorem State.logUp_guard : s.logUp.guard = s.guard := by simp [State.logUp]
@[simp] theorem State.recover_guard (crystal) : (s.recover crystal).guard = s.guard := by simp [State.recover]
@[simp] theorem State.checkSchema_hv : hvOf s.checkSchema.guard.outs out = hvOf s.guard.outs out := by simp [State.checkSchema]
@[simp] theorem State.requestsOff_hv : hvOf s.requestsOff.guard.outs out = hvOf s.guard.outs out := by simp [State.requestsOff]
@[simp] theorem State.startHearth_hv : hvOf s.startHearth.guard.outs out = hvOf s.guard.outs out := by simp [State.startHearth]

@[simp] theorem State.bootRom_hv_le (strap ticks crystal) (hle : hvOf s.guard.outs out ≤ top) :
    hvOf (s.bootRom strap ticks crystal).guard.outs out ≤ top := by
  simp [State.bootRom, hle]

@[simp] theorem State.vinUp_guard : s.vinUp.guard = s.guard := by simp [State.vinUp]

@[simp] theorem bootNow_hv_le (strap ticks crystal) (hle : hvOf s.guard.outs out ≤ top) :
    hvOf (bootNow strap ticks crystal s).guard.outs out ≤ top := by
  simp [bootNow, hle]

@[simp] theorem flashTry_hv_le (answers) (hle : hvOf s.guard.outs out ≤ top) : hvOf (flashTry answers s).guard.outs out ≤ top := by
  unfold flashTry; split <;> simp [hle]

@[simp] theorem crystalTry_hv_le (starts) (hle : hvOf s.guard.outs out ≤ top) : hvOf (crystalTry starts s).guard.outs out ≤ top := by
  unfold crystalTry; split <;> simp [hle]

@[simp] theorem State.logBanks_guard (lost) : (s.logBanks lost).guard = s.guard := by simp [State.logBanks]
@[simp] theorem State.banksBack_guard (intact) : (s.banksBack intact).guard = s.guard := by simp [State.banksBack]
@[simp] theorem State.wakeUp_hv (code ticks bad) : hvOf (s.wakeUp code ticks bad).guard.outs out = hvOf s.guard.outs out := by simp [State.wakeUp]

@[simp] theorem wakeNow_hv_le (src strap ticks bad) (hle : hvOf s.guard.outs out ≤ top) :
    hvOf (wakeNow src strap ticks bad s).guard.outs out ≤ top := by
  simp [wakeNow, hle]

/-! ### Jobs as their owners end them (R121, R122) -/

@[simp] theorem State.jobStop_guard (j) : (s.jobStop j).2.guard = s.guard := by unfold State.jobStop; split <;> simp
@[simp] theorem State.jobFree_guard (j) : (s.jobFree j).2.guard = s.guard := by unfold State.jobFree; split <;> simp
@[simp] theorem State.writeJobCtrl_guard (j v) : (s.writeJobCtrl j v).2.guard = s.guard := by unfold State.writeJobCtrl; (repeat' split) <;> simp
@[simp] theorem jobExpire_guard (j) : (jobExpire j s).guard = s.guard := by simp [jobExpire]
@[simp] theorem State.setPasswordOf_guard (polder k) : (s.setPasswordOf polder k).guard = s.guard := by simp [State.setPasswordOf]
@[simp] theorem setPassword_guard (j polder len pw) : (setPassword j polder len pw s).guard = s.guard := by simp [setPassword]

end Sys2Proof.Machine
end

section
/-!
What writes of registers, host frames and the rows that stand for them leave of the HV_EN.
-/

namespace Sys2Proof.Machine

variable (s : State) {out : Fin 6} {top : Bool}

/-! ### Writes of registers -/

@[simp] theorem plainWriter_guard (r clamp x2 x3 x4 x5) : (plainWriter r clamp x2 x3 x4 x5 s).2.guard = s.guard := by simp [plainWriter]
@[simp] theorem State.clearStatus_guard (v) : (s.clearStatus v).guard = s.guard := by simp [State.clearStatus]
@[simp] theorem State.clearOverflows_guard (n v) : (s.clearOverflows n v).guard = s.guard := by simp [State.clearOverflows]
@[simp] theorem State.writeDamper_guard (v) : (s.writeDamper v).2.guard = s.guard := by simp [State.writeDamper]
@[simp] theorem State.selectSlot_guard (i v) : (s.selectSlot i v).guard = s.guard := by simp [State.selectSlot]
@[simp] theorem State.selectCal_guard (i v) : (s.selectCal i v).guard = s.guard := by simp [State.selectCal]
@[simp] theorem State.selectProbe_guard (i v) : (s.selectProbe i v).guard = s.guard := by simp [State.selectProbe]
@[simp] theorem sealedWriter_guard (r clamp x2 x3 x4 x5) : (sealedWriter r clamp x2 x3 x4 x5 s).2.guard = s.guard := by simp [sealedWriter]
@[simp] theorem State.writePin_guard (o v) : (s.writePin o v).2.guard = s.guard := by simp [State.writePin]
@[simp] theorem State.writeVehDamper_guard (v) : (s.writeVehDamper v).2.guard = s.guard := by simp [State.writeVehDamper]
@[simp] theorem State.writeListWord_guard (k v) : (s.writeListWord k v).2.guard = s.guard := by unfold State.writeListWord; split <;> simp
@[simp] theorem State.writeSeqCfg_guard (o v) : (s.writeSeqCfg o v).2.guard = s.guard := by simp [State.writeSeqCfg]
@[simp] theorem State.writePg_guard (k v) : (s.writePg k v).2.guard = s.guard := by unfold State.writePg; simp only; (repeat' split) <;> simp
@[simp] theorem State.writeChan_guard (n v) : (s.writeChan n v).2.guard = s.guard := by unfold State.writeChan; simp only; (repeat' split) <;> simp
@[simp] theorem State.writeMesh_guard (v) : (s.writeMesh v).2.guard = s.guard := by unfold State.writeMesh; simp only; (repeat' split) <;> simp
@[simp] theorem State.writeMeshDamper_guard (v) : (s.writeMeshDamper v).2.guard = s.guard := by simp [State.writeMeshDamper]
@[simp] theorem State.writeMask_guard (i v) : (s.writeMask i v).2.guard = s.guard := by unfold State.writeMask; split <;> simp
@[simp] theorem okWith_guard : (okWith s).2.guard = s.guard := by simp [okWith]

theorem writers_hv_le : ∀ w ∈ writers, ∀ i p ix v (out : Fin 6), hvOf (w.2 i p ix v s).2.guard.outs out ≤ hvOf s.guard.outs out := by
  simp only [writers, List.forall_mem_cons, List.not_mem_nil, false_imp_iff, implies_true, and_true]
  and_intros <;> intros <;> simp [okWith, plainWriter, sealedWriter]

@[simp] theorem writeReg_hv_le (r i p ix v) (hle : hvOf s.guard.outs out ≤ top) :
    hvOf (writeReg r i p ix v s).2.guard.outs out ≤ top := by
  unfold writeReg
  cases hw : writers.find? (fun w => w.1 == r.base) with
  | none => simpa [plainWriter] using hle
  | some w => exact le_trans (writers_hv_le s w (List.mem_of_find?_eq_some hw) i p ix v out) hle

/-! ### Runs of registers and windows (R84, R102) -/

@[simp] theorem State.darkAccess_guard (b) : (s.darkAccess b).guard = s.guard := by simp [State.darkAccess]
@[simp] theorem State.rearm_guard (i r ix) : (s.rearm i r ix).guard = s.guard := by simp [State.rearm]
@[simp] theorem State.clearRead_guard (i r ix) : (s.clearRead i r ix).guard = s.guard := by unfold State.clearRead; (repeat' split) <;> simp
@[simp] theorem State.seeJob_guard (r ix) : (s.seeJob r ix).guard = s.guard := by simp [State.seeJob]

theorem State.readRun_guard (i h n a) : (s.readRun i h n a).state.guard = s.guard := by
  induction n generalizing a s with
  | zero => rfl
  | succ n ih =>
    unfold State.readRun
    (repeat' split) <;> simp [Run.stop, Run.after, ih]

@[simp] theorem State.writeRun_hv_le (i h vs a) (hle : hvOf s.guard.outs out ≤ top) :
    hvOf (s.writeRun i h vs a).state.guard.outs out ≤ top := by
  induction vs generalizing a s with
  | nil => exact hle
  | cons v vs ih =>
    simp only [State.writeRun]
    (repeat' split) <;> simp [Run.stop, Run.after, hle, ih]

@[simp] theorem State.readRegs_guard (i h a n) : (s.readRegs i h a n).state.guard = s.guard := by
  simp only [State.readRegs]
  split <;> simp [State.readRun_guard]

@[simp] theorem State.writeRegs_hv_le (i h a v) (hle : hvOf s.guard.outs out ≤ top) :
    hvOf (s.writeRegs i h a v).state.guard.outs out ≤ top :=
  State.writeRun_hv_le _ _ _ _ _ hle

@[simp] theorem State.sluicePut_guard (n msg) : (s.sluicePut n msg).2.guard = s.guard := by unfold State.sluicePut; split <;> simp
@[simp] theorem State.sluiceTake_guard (n want) : (s.sluiceTake n want).2.guard = s.guard := by simp [State.sluiceTake]
@[simp] theorem State.stream_guard (l off n) : (s.stream l off n).state.guard = s.guard := by simp [State.stream]
@[simp] theorem State.buffer_guard (b off n) : (s.buffer b off n).state.guard = s.guard := by simp [State.buffer]

@[simp] theorem State.readWindow_guard (h w off n) : (s.readWindow h w off n).state.guard = s.guard := by
  unfold State.readWindow; (repeat' split) <;> simp

@[simp] theorem State.writeWindow_guard (w off v) : (s.writeWindow w off v).state.guard = s.guard := by unfold State.writeWindow; split <;> simp

theorem State.windowAccess_hv_le (h w a off n allowed zeros) {go : State → Act} (hg : hvOf (go s).state.guard.outs out ≤ hvOf s.guard.outs out) :
    hvOf (s.windowAccess h w a off n allowed zeros go).state.guard.outs out ≤ hvOf s.guard.outs out := by
  unfold State.windowAccess
  (repeat' split) <;> simp [hg, State.act]

theorem State.readAccess_hv_le (i h a n) : hvOf (s.readAccess i h a n).state.guard.outs out ≤ hvOf s.guard.outs out := by
  unfold State.readAccess
  split
  · exact le_rfl
  · split
    · exact s.windowAccess_hv_le _ _ _ _ _ _ _ (by simp)
    · simp

theorem State.writeAccess_hv_le (i h a v) : hvOf (s.writeAccess i h a v).state.guard.outs out ≤ hvOf s.guard.outs out := by
  unfold State.writeAccess
  split
  · exact le_rfl
  · split
    · exact s.windowAccess_hv_le _ _ _ _ _ _ _ (by simp)
    · simp

/-! ### The operations of a host frame (R97) -/

theorem hostRead_hv_le (f) : hvOf (hostRead f s).guard.outs out ≤ hvOf s.guard.outs out :=
  s.intake_hv_le 1 f (fun u => u.inOrder_hv_le (fun _ _ _ => State.readAccess_hv_le _ _ _ _ _) (fun _ _ => le_rfl) f)

theorem hostWriteFrame_hv_le (f) : hvOf (hostWriteFrame f s).guard.outs out ≤ hvOf s.guard.outs out :=
  s.intake_hv_le 2 f (fun u => u.inOrder_hv_le (fun _ _ _ => State.writeAccess_hv_le _ _ _ _ _) (fun _ _ => le_rfl) f)

theorem hostHello_hv_le (f) : hvOf (hostHello f s).guard.outs out ≤ hvOf s.guard.outs out :=
  s.intake_hv_le 3 f (fun u => by simp)

theorem hostProve_hv_le (f) : hvOf (hostProve f s).guard.outs out ≤ hvOf s.guard.outs out :=
  s.intake_hv_le 4 f (fun u => by (repeat' split) <;> simp)

theorem hostClose_hv_le (f) : hvOf (hostClose f s).guard.outs out ≤ hvOf s.guard.outs out :=
  s.intake_hv_le 5 f (fun u => u.inOrder_hv_le (fun _ _ _ => le_rfl) (fun _ _ => by simp) f)

theorem hostNop_hv_le (f) : hvOf (hostNop f s).guard.outs out ≤ hvOf s.guard.outs out :=
  s.intake_hv_le 8 f (fun u => u.inOrder_hv_le (fun _ _ _ => le_rfl) (fun _ _ => le_rfl) f)

@[simp] theorem State.placeJob_guard (j b) : (s.placeJob j b).guard = s.guard := by simp [State.placeJob]
@[simp] theorem State.statusAct_guard (j) : (s.statusAct j).state.guard = s.guard := by simp [State.statusAct]
@[simp] theorem State.busyAct_guard (polder) : (s.busyAct polder).state.guard = s.guard := by simp [State.busyAct]
@[simp] theorem State.updateStart_guard (j sid) : (s.updateStart j sid).guard = s.guard := by simp [State.updateStart]
@[simp] theorem State.submitTo_guard (i addr b) : (s.submitTo i addr b).state.guard = s.guard := by unfold State.submitTo; split <;> simp

@[simp] theorem State.submitUpdate_guard (i addr b) : (s.submitUpdate i addr b).state.guard = s.guard := by
  unfold State.submitUpdate; (repeat' split) <;> simp

@[simp] theorem State.submitLife_guard (i addr b) : (s.submitLife i addr b).state.guard = s.guard := by
  unfold State.submitLife; (repeat' split) <;> simp

@[simp] theorem State.submitKey_guard (i addr b) : (s.submitKey i addr b).state.guard = s.guard := by
  unfold State.submitKey; simp only; (repeat' split) <;> simp

@[simp] theorem State.submitNow_guard (i h addr words) : (s.submitNow i h addr words).state.guard = s.guard := by
  unfold State.submitNow; simp only; (repeat' split) <;> simp

theorem hostSubmit_hv_le (f) : hvOf (hostSubmit f s).guard.outs out ≤ hvOf s.guard.outs out :=
  s.intake_hv_le 6 f (fun u => u.inOrder_hv_le (fun _ _ _ => by simp) (fun _ _ => le_rfl) f)

@[simp] theorem State.feedNow_guard (i h j words) : (s.feedNow i h j words).state.guard = s.guard := by
  unfold State.feedNow; simp only; (repeat' split) <;> simp

theorem hostFeed_hv_le (f) : hvOf (hostFeed f s).guard.outs out ≤ hvOf s.guard.outs out :=
  s.intake_hv_le 7 f (fun u => u.inOrder_hv_le (fun _ _ _ => by simp) (fun _ _ => le_rfl) f)

/-! ### Rows that stand for one access of a session -/

@[simp] theorem State.askWrite_hv_le (sid addr words) (hle : hvOf s.guard.outs out ≤ top) :
    hvOf (s.askWrite sid addr words).guard.outs out ≤ top :=
  le_trans (State.ask_hv_le (fun _ _ _ => State.writeAccess_hv_le _ _ _ _ _) _ _ _ _ _ _) hle

@[simp] theorem State.askRead_hv_le (sid addr n) (hle : hvOf s.guard.outs out ≤ top) :
    hvOf (s.askRead sid addr n).guard.outs out ≤ top :=
  le_trans (State.ask_hv_le (fun _ _ _ => State.readAccess_hv_le _ _ _ _ _) _ _ _ _ _ _) hle

@[simp] theorem State.askReg_hv_le (sid r ix v) (hle : hvOf s.guard.outs out ≤ top) :
    hvOf (s.askReg sid r ix v).guard.outs out ≤ top :=
  s.askWrite_hv_le _ _ _ hle

@[simp] theorem sluiceSend_hv_le (sid n msg) (hle : hvOf s.guard.outs out ≤ top) : hvOf (sluiceSend sid n msg s).guard.outs out ≤ top := by
  simp [sluiceSend, hle]

@[simp] theorem sluiceReceive_hv_le (sid n want) (hle : hvOf s.guard.outs out ≤ top) : hvOf (sluiceReceive sid n want s).guard.outs out ≤ top := by
  simp [sluiceReceive, hle]

@[simp] theorem jobCancel_hv_le (sid j) (hle : hvOf s.guard.outs out ≤ top) : hvOf (jobCancel sid j s).guard.outs out ≤ top := by
  simp [jobCancel, hle]

@[simp] theorem jobRelease_hv_le (sid j) (hle : hvOf s.guard.outs out ≤ top) : hvOf (jobRelease sid j s).guard.outs out ≤ top := by
  simp [jobRelease, hle]

@[simp] theorem swapArm_hv_le (sid v) (hle : hvOf s.guard.outs out ≤ top) : hvOf (swapArm sid v s).guard.outs out ≤ top := by simp [swapArm, hle]

@[simp] theorem swapAbandon_hv_le (sid v) (hle : hvOf s.guard.outs out ≤ top) : hvOf (swapAbandon sid v s).guard.outs out ≤ top := by
  simp [swapAbandon, hle]

@[simp] theorem setTime_hv_le (sid v) (hle : hvOf s.guard.outs out ≤ top) : hvOf (setTime sid v s).guard.outs out ≤ top := by simp [setTime, hle]

@[simp] theorem tariffCommand_hv_le (sid v) (hle : hvOf s.guard.outs out ≤ top) : hvOf (tariffCommand sid v s).guard.outs out ≤ top := by
  simp [tariffCommand, hle]

@[simp] theorem demandSync_hv_le (sid v) (hle : hvOf s.guard.outs out ≤ top) : hvOf (demandSync sid v s).guard.outs out ≤ top := by
  simp [demandSync, hle]

@[simp] theorem vehDecideAuth_hv_le (sid o v) (hle : hvOf s.guard.outs out ≤ top) : hvOf (vehDecideAuth sid o v s).guard.outs out ≤ top := by
  simp [vehDecideAuth, hle]

@[simp] theorem vehDecideEnd_hv_le (sid o v) (hle : hvOf s.guard.outs out ≤ top) : hvOf (vehDecideEnd sid o v s).guard.outs out ≤ top := by
  simp [vehDecideEnd, hle]

@[simp] theorem vehDecideRelay_hv_le (sid o v) (hle : hvOf s.guard.outs out ≤ top) : hvOf (vehDecideRelay sid o v s).guard.outs out ≤ top := by
  simp [vehDecideRelay, hle]

@[simp] theorem vehListAdd_hv_le (sid w0 w1 v) (hle : hvOf s.guard.outs out ≤ top) : hvOf (vehListAdd sid w0 w1 v s).guard.outs out ≤ top := by
  simp [vehListAdd, hle]

@[simp] theorem vehListRemove_hv_le (sid w0 w1 v) (hle : hvOf s.guard.outs out ≤ top) : hvOf (vehListRemove sid w0 w1 v s).guard.outs out ≤ top := by
  simp [vehListRemove, hle]

@[simp] theorem vehListClear_hv_le (sid v) (hle : hvOf s.guard.outs out ≤ top) : hvOf (vehListClear sid v s).guard.outs out ≤ top := by
  simp [vehListClear, hle]

@[simp] theorem vehSalt_hv_le (sid hi v) (hle : hvOf s.guard.outs out ≤ top) : hvOf (vehSalt sid hi v s).guard.outs out ≤ top := by
  simp [vehSalt, hle]

@[simp] theorem seqHostStop_hv_le (sid v) (hle : hvOf s.guard.outs out ≤ top) : hvOf (seqHostStop sid v s).guard.outs out ≤ top := by
  simp [seqHostStop, hle]

@[simp] theorem seqHostUnlock_hv_le (sid v) (hle : hvOf s.guard.outs out ≤ top) : hvOf (seqHostUnlock sid v s).guard.outs out ≤ top := by
  simp [seqHostUnlock, hle]

@[simp] theorem seqHostClear_hv_le (sid v) (hle : hvOf s.guard.outs out ≤ top) : hvOf (seqHostClear sid v s).guard.outs out ≤ top := by
  simp [seqHostClear, hle]

@[simp] theorem seqHostBlock_hv_le (sid v) (hle : hvOf s.guard.outs out ≤ top) : hvOf (seqHostBlock sid v s).guard.outs out ≤ top := by
  simp [seqHostBlock, hle]

@[simp] theorem seqHostUnblock_hv_le (sid v) (hle : hvOf s.guard.outs out ≤ top) : hvOf (seqHostUnblock sid v s).guard.outs out ≤ top := by
  simp [seqHostUnblock, hle]

@[simp] theorem fgConfig_hv_le (sid addr v) (hle : hvOf s.guard.outs out ≤ top) : hvOf (fgConfig sid addr v s).guard.outs out ≤ top := by
  unfold fgConfig; split <;> simp [hle]

@[simp] theorem lswHostOn_hv_le (sid v) (hle : hvOf s.guard.outs out ≤ top) : hvOf (lswHostOn sid v s).guard.outs out ≤ top := by
  simp [lswHostOn, hle]

@[simp] theorem lswHostClear_hv_le (sid v) (hle : hvOf s.guard.outs out ≤ top) : hvOf (lswHostClear sid v s).guard.outs out ≤ top := by
  simp [lswHostClear, hle]

@[simp] theorem rdEnable_hv_le (sid v) (hle : hvOf s.guard.outs out ≤ top) : hvOf (rdEnable sid v s).guard.outs out ≤ top := by simp [rdEnable, hle]

@[simp] theorem rdTestMode_hv_le (sid v) (hle : hvOf s.guard.outs out ≤ top) : hvOf (rdTestMode sid v s).guard.outs out ≤ top := by
  simp [rdTestMode, hle]

@[simp] theorem rdBind_hv_le (sid v) (hle : hvOf s.guard.outs out ≤ top) : hvOf (rdBind sid v s).guard.outs out ≤ top := by simp [rdBind, hle]
@[simp] theorem rdXchg_hv_le (sid v) (hle : hvOf s.guard.outs out ≤ top) : hvOf (rdXchg sid v s).guard.outs out ≤ top := by simp [rdXchg, hle]

@[simp] theorem tagHostCfg_hv_le (sid v) (hle : hvOf s.guard.outs out ≤ top) : hvOf (tagHostCfg sid v s).guard.outs out ≤ top := by
  simp [tagHostCfg, hle]

@[simp] theorem tagHostPwd_hv_le (sid v) (hle : hvOf s.guard.outs out ≤ top) : hvOf (tagHostPwd sid v s).guard.outs out ≤ top := by
  simp [tagHostPwd, hle]

@[simp] theorem tagHostWindow_hv_le (sid offset words) (hle : hvOf s.guard.outs out ≤ top) :
    hvOf (tagHostWindow sid offset words s).guard.outs out ≤ top := by
  simp [tagHostWindow, hle]

@[simp] theorem commandWarm_hv_le (sid v) (hle : hvOf s.guard.outs out ≤ top) : hvOf (commandWarm sid v s).guard.outs out ≤ top := by
  simp [commandWarm, hle]

@[simp] theorem commandCold_hv_le (sid v) (hle : hvOf s.guard.outs out ≤ top) : hvOf (commandCold sid v s).guard.outs out ≤ top := by
  simp [commandCold, hle]

@[simp] theorem sleepNow_hv_le (sid v) (hle : hvOf s.guard.outs out ≤ top) : hvOf (sleepNow sid v s).guard.outs out ≤ top := by simp [sleepNow, hle]

@[simp] theorem updActivate_hv_le (sid v) (hle : hvOf s.guard.outs out ≤ top) : hvOf (updActivate sid v s).guard.outs out ≤ top := by
  simp [updActivate, hle]

@[simp] theorem updConfirm_hv_le (sid v) (hle : hvOf s.guard.outs out ≤ top) : hvOf (updConfirm sid v s).guard.outs out ≤ top := by
  simp [updConfirm, hle]

@[simp] theorem updRevert_hv_le (sid v) (hle : hvOf s.guard.outs out ≤ top) : hvOf (updRevert sid v s).guard.outs out ≤ top := by
  simp [updRevert, hle]

@[simp] theorem bwcfgWrite_hv_le (sid v) (hle : hvOf s.guard.outs out ≤ top) : hvOf (bwcfgWrite sid v s).guard.outs out ≤ top := by
  simp [bwcfgWrite, hle]

/-! ### Events of the sensing chapter (chapter 05) -/

@[simp] theorem mclkPadFault_guard (m) : (mclkPadFault m s).guard = s.guard := by unfold mclkPadFault; (repeat' split) <;> simp
@[simp] theorem countLoss_guard (ch) : (countLoss s ch).guard = s.guard := by simp [countLoss]
@[simp] theorem longLoss_guard (ch) : (longLoss ch s).guard = s.guard := by unfold longLoss; split <;> simp
@[simp] theorem State.onFg_guard (n f) : (s.onFg n f).guard = s.guard := by simp [State.onFg]
@[simp] theorem fgFault_guard (n kind) : (fgFault n kind s).guard = s.guard := by unfold fgFault; split <;> simp
@[simp] theorem fgRetry_guard (n) : (fgRetry n s).guard = s.guard := by unfold fgRetry; split <;> simp
@[simp] theorem fgBack_guard (n) : (fgBack n s).guard = s.guard := by simp [fgBack]
@[simp] theorem State.magTrigger_guard (src) : (s.magTrigger src).guard = s.guard := by simp [State.magTrigger]
@[simp] theorem magField_guard (n) : (magField n s).guard = s.guard := by simp [magField]
@[simp] theorem magSat_guard (n) : (magSat n s).guard = s.guard := by simp [magSat]
@[simp] theorem magEnd_guard : (magEnd s).guard = s.guard := by simp [magEnd]
@[simp] theorem trackOpen_guard (c) : (trackOpen c s).guard = s.guard := by unfold trackOpen; split <;> simp
@[simp] theorem trackEnd_guard (c) : (trackEnd c s).guard = s.guard := by unfold trackEnd; split <;> simp
@[simp] theorem tempStale_guard (m) : (tempStale m s).guard = s.guard := by unfold tempStale; split <;> simp

/-! ### Sessions and sluices without a frame (R49, R105) -/

@[simp] theorem reqAborted_guard (p) : (reqAborted p s).guard = s.guard := by simp [reqAborted]
@[simp] theorem partialDrop_guard : (partialDrop s).guard = s.guard := by simp [partialDrop]
@[simp] theorem openingOut_guard (sid) : (openingOut sid s).guard = s.guard := by unfold openingOut; split <;> simp
@[simp] theorem idleOut_guard (sid) : (idleOut sid s).guard = s.guard := by unfold idleOut; split <;> simp
@[simp] theorem portRestart_guard (p) : (portRestart p s).guard = s.guard := by simp [portRestart]

/-! ### TRIP lines (R351, R353) -/

@[simp] theorem tripAssert_hv_le (n) (hle : hvOf s.guard.outs out ≤ top) : hvOf (tripAssert n s).guard.outs out ≤ top := by
  unfold tripAssert; (repeat' split) <;> simp [hle]

@[simp] theorem tripClear_guard (n) : (tripClear n s).guard = s.guard := by simp [tripClear]

end Sys2Proof.Machine
end
section
/-! O6: every command but HV_EN_RAISE of an output leaves its HV_EN as it was or lower, whatever the state. -/

namespace Sys2Proof.Machine

/-- R24, R350: only HV_EN_RAISE of an output raises its HV_EN. Each command goes to the lemma of its own operation. -/
theorem exec_hv_le (c : Instr) {s t : State} {out : Fin 6} (hc : c ≠ .hvEnRaise out) (h : exec c s = .next t) :
    hvOf t.guard.outs out ≤ hvOf s.guard.outs out := by
  cases c
  case hvEnRaise k =>
    obtain rfl := Host.Outcome.next.inj h
    exact le_of_eq (fgRaise_hv_other s k fun e => hc (e ▸ rfl))
  case read f => obtain rfl := Host.Outcome.next.inj h; exact hostRead_hv_le s f
  case write f => obtain rfl := Host.Outcome.next.inj h; exact hostWriteFrame_hv_le s f
  case hello f => obtain rfl := Host.Outcome.next.inj h; exact hostHello_hv_le s f
  case prove f => obtain rfl := Host.Outcome.next.inj h; exact hostProve_hv_le s f
  case close f => obtain rfl := Host.Outcome.next.inj h; exact hostClose_hv_le s f
  case submit f => obtain rfl := Host.Outcome.next.inj h; exact hostSubmit_hv_le s f
  case feed f => obtain rfl := Host.Outcome.next.inj h; exact hostFeed_hv_le s f
  case nop f => obtain rfl := Host.Outcome.next.inj h; exact hostNop_hv_le s f
  all_goals
    obtain rfl := Host.Outcome.next.inj h
    simp

/-- Settles O6: an HV_EN that is raised after a command other than its own HV_EN_RAISE was raised before it. -/
theorem onlyRaiseRaises : Obligations.OnlyRaiseRaises := by
  unfold Obligations.OnlyRaiseRaises
  intro c s t o h ht
  rw [State.raised_eq] at ht ⊢
  by_cases hc : c = .hvEnRaise o
  · exact .inr hc
  · exact .inl (Bool.eq_true_of_true_le (ht ▸ exec_hv_le c hc h))

end Sys2Proof.Machine
end

section
/-!
The way of a row that stands for one access of a session: from the session's next frame (log entry 7) to its answer, and a WRITE of one register.
-/

namespace Sys2Proof.Machine

/-! ### The next frame of a session (R113, log entry 7) -/

section
variable (s : State) (i : Fin 64) (h : Session) (op addr count : Nat) (payload : List W64)

/-- The next frame of a session comes on the session's port. -/
@[simp] theorem State.frameOf_port : (s.frameOf i h op addr count payload).port = h.port := rfl

/-- The next frame of a session carries the next SEQ. -/
@[simp] theorem State.frameOf_seq : (s.frameOf i h op addr count payload).seq.toNat = (h.ext + 1) % 65536 := by
  simp [State.frameOf]

end

/-- The next SEQ is accepted. -/
theorem Session.fate_next (h : Session) : h.fate ((h.ext + 1) % 65536) = .accept (h.ext + 1) := by
  have ahead : ((h.ext + 1) % 65536 + 65536 - h.ext % 65536) % 65536 = 1 := by omega
  simp [Session.fate, ahead]

/-- The state in which the operation of a session's next access runs. -/
def State.nextRuns (s : State) (f : Frame) (i : Fin 64) (h : Session) : State := (s.taken f).consumed i h (h.ext + 1)

/-- The answer of an operation to a request of session `h`, which came to state `s` as frame `f`. -/
def Act.answer (a : Act) (s : State) (f : Frame) (i : Fin 64) (h : Session) : State :=
  a.state.respond f i.1 a.status a.count a.payload (a.state.attn h.polder) ((s.taken f).wrapOf f h)

section
variable {s : State} {i : Fin 64} {h : Session}

/-- An access of a ready session that R97 allows runs its operation and is answered. -/
theorem State.Ready.ask (rd : s.Ready i h) {op addr count : Nat} (payload : List W64) (run : Fin 64 → Session → State → Act)
    (hc : (countOk op count).1 = true) (ha : addrOk op addr = true) :
    s.ask i op addr count payload run =
      let f := s.frameOf i h op addr count payload
      (run i h (s.nextRuns f i h)).answer s f i h := by
  obtain ⟨names, port, key, bucket, idle⟩ := rd
  have hl : (s.onHost (fun x => { x with resp := none })).listens h.port = true := port
  unfold State.ask
  rw [names]
  simp only [hl, hc, ha, Bool.true_eq_false, or_self, if_false]
  rw [← State.taken]
  have hslot : ∀ f n, (s.taken f).slot n = s.slot n := fun f n => State.slot_of_keys (by simp [State.taken]) n
  have hbucket : ∀ f, (s.taken f).bucketNow h = s.bucketNow h := by
    intro f; simp [State.bucketNow, State.damperOf, State.fld, State.reg, State.taken]
  have hidle : ∀ f, (s.taken f).hearthBusy = s.hearthBusy := by intro f; simp [State.hearthBusy, State.taken]
  exact State.served_runs (by rwa [hslot]) (by rw [State.frameOf_seq]; exact h.fate_next) (by rwa [hbucket]) (by rwa [hidle]) ..

/-- When the operation of the next access runs, nothing else has happened. -/
theorem State.nextRuns_pathOnly (s : State) (f : Frame) (i : Fin 64) (h : Session) : s.PathOnly (s.nextRuns f i h) i h :=
  s.consumed_pathOnly f i h (h.ext + 1)

/-- An open session is the table's entry. -/
theorem State.table_of_session (hs : s.session i = some h) : s.host.table[i] = .host h ∧ h.opening = false := by
  unfold State.session at hs
  split at hs
  case h_1 x hx =>
    split at hs
    case isTrue => cases hs
    case isFalse ho =>
      obtain rfl := Option.some.inj hs
      exact ⟨hx, by simpa using ho⟩
  case h_2 => cases hs

/-- When the operation of the next access of an open session runs, the request has been consumed. -/
theorem State.nextRuns_consumes (hs : s.session i = some h) (f : Frame) : s.Consumes (s.nextRuns f i h) i h (h.ext + 1) := by
  obtain ⟨ht, ho⟩ := State.table_of_session hs
  have ht' : (s.taken f).host.table[i] = .host h := by rw [State.taken_host]; exact ht
  have htb : (s.taken f).clock.tb = s.clock.tb := by simp [State.taken]
  obtain ⟨b, hb⟩ := State.consumed_session (h.ext + 1) ht'
  exact ⟨_, State.session_of_sidUse hb ho, rfl, h.consume_mem _ _ (s.taken f).clock.tb h.fate_next, htb, rfl⟩

/-- What a session has consumed stands in the session table. -/
theorem State.Consumes.of_table {u t : State} {e : Nat} (c : s.Consumes u i h e) (ht : t.host.table = u.host.table) : s.Consumes t i h e := by
  obtain ⟨x, hx, rest⟩ := c
  refine ⟨x, ?_, rest⟩
  rw [State.session, State.sidUse_of_table ht]
  exact hx

/-- An answer changes the host ports, and of the rest at most a key's use count, counters and the log. -/
@[simp] theorem Act.answer_same (a : Act) (s : State) (f : Frame) (i : Fin 64) (h : Session) :
    (a.answer s f i h).hearth = a.state.hearth ∧ (a.answer s f i h).clock = a.state.clock ∧ (a.answer s f i h).life = a.state.life ∧
    (a.answer s f i h).jobs = a.state.jobs ∧ (a.answer s f i h).grate = a.state.grate ∧ (a.answer s f i h).nrg = a.state.nrg ∧
    (a.answer s f i h).guard = a.state.guard ∧ (a.answer s f i h).pwr = a.state.pwr := by
  simp [Act.answer]

section
variable {f : Frame} (hp : f.port = h.port) (hq : f.seq.toNat = (h.ext + 1) % 65536) (a : Act)
include hp hq

/-- The response carries what the operation answers. -/
theorem Act.answer_answers : (a.answer s f i h).Answers i h ((h.ext + 1) % 65536) a.status a.count a.payload := by
  obtain ⟨r, hr, hst, hsid, hcount, hpay, hattn, hseq, -, hseal, hport⟩ :=
    a.state.respond_resp f i.1 a.status a.count a.payload (a.state.attn h.polder) ((s.taken f).wrapOf f h)
  refine ⟨r, hr, ?_, hport.trans hp, hst, hseq.trans hq, hcount, hpay, hseal.trans (State.wrapOf_isSome ..), ?_⟩
  · rw [hsid, sidOf, hp]
  · rw [hattn, Act.answer, State.respond_attn]

/-- An operation that leaves the session table alone has answered the next access of its session. -/
theorem Act.answer_replies (hs : s.session i = some h) (ht : a.state.host.table = (s.nextRuns f i h).host.table) :
    s.Replies (a.answer s f i h) i h a.status a.count a.payload where
  answer := a.answer_answers hp hq
  session := by
    obtain ⟨x, hx, hext, hmem, htb, -⟩ := ((State.nextRuns_consumes hs f).of_table ht).respond (f := f) i.1 a.status a.count a.payload
      (a.state.attn h.polder) ((s.taken f).wrapOf f h)
    exact ⟨x, hx, hext, hmem, htb⟩

end

/-- An operation that changes nothing leaves the path of its request alone. -/
theorem Act.answer_pathOnly {a : Act} {f : Frame} (ha : a.state = s.nextRuns f i h) : s.PathOnly (a.answer s f i h) i h := by
  unfold Act.answer
  rw [ha]
  exact (s.nextRuns_pathOnly f i h).respond ((s.taken f).wrapOf_slot f h) ..

/-- An operation that stores records but leaves the host ports and all other key slots alone. -/
theorem Act.answer_hostStored {a : Act} {f : Frame} (hh : a.state.host = (s.nextRuns f i h).host)
    (hk : ∀ n : Fin 256, n ≠ 4 → a.state.slot n = (s.nextRuns f i h).slot n) : s.HostStored (a.answer s f i h) i h := by
  have kept := (s.nextRuns_pathOnly f i h).kept
  unfold Act.answer
  exact {
    host := by rw [State.respond_host, hh, kept.host]
    others := fun j hj => by rw [State.respond_sidUse, State.sidUse_of_table (congrArg HostState.table hh), kept.others j hj]
    slots := fun n h4 hn => by
      have hw : ∀ w ∈ (s.taken f).wrapOf f h, w.1 ≠ n := fun w hmem e => hn (e.symm.trans ((s.taken f).wrapOf_slot f h w hmem))
      rw [State.respond_slot_other _ _ _ _ _ _ _ hw, hk n h4, kept.slots n hn] }

/-! ### A WRITE of one register (R42, R83, R102) -/

/-- The dike's word on a register is the same where nothing but the path of a request has happened. -/
theorem State.PathOnly.mayWriteAt {u : State} (po : s.PathOnly u i h) (r : RegSpec) (ix : List Nat) (v : Nat) :
    u.mayWriteAt i h r ix v = s.mayWriteAt i h r ix v := by
  rw [po.rest]; rfl

/-- A block is dark or not the same where nothing but the path of a request has happened. -/
theorem State.PathOnly.isDark {u : State} (po : s.PathOnly u i h) (b : Nat) : u.isDark b = s.isDark b := by
  rw [po.rest]; rfl

/-- What a WRITE of one word answers after the register's writer. -/
def wrote (w : Nat × State) : Act :=
  { status := w.1, count := if w.1 = OK then 1 else 0, payload := if w.1 = BUSY then [busyWord 0 7] else [], state := w.2 }

/-- The address of a register is decoded as the register and is an address that a WRITE may name. -/
structure RegSpec.Decoded (r : RegSpec) (ix : List Nat) : Prop where
  aligned : addrOk 2 (r.addr ix) = true
  inside : inRegion (r.addr ix) 1 = true
  plain : windowAt (r.addr ix) = none
  here : regAt (r.addr ix) = some (r, ix)

/-- A WRITE of one word to a register that the dike lets through and that is not dark goes to the register's writer. -/
theorem State.writeAccess_one {r : RegSpec} {ix : List Nat} {v : W64} (d : r.Decoded ix) (may : s.mayWriteAt i h r ix v.toNat = true)
    (lit : s.isDark (r.addr ix / 0x10000) = false) :
    s.writeAccess i h (r.addr ix) [v] = wrote (writeReg r i h.polder ix v s) := by
  obtain ⟨-, inside, plain, here⟩ := d
  simp only [State.writeAccess, List.length_singleton, inside, Bool.true_eq_false, if_false, plain, State.writeRegs, State.writeRun, here, may, lit,
    Bool.false_eq_true]
  by_cases hw : (writeReg r i h.polder ix v s).1 = OK
  · simp [hw, wrote, Run.after, Run.stop, OK, BUSY]
  · simp [hw, wrote, Run.stop]

/-- A write of a register that its session is granted is answered as its writer has it. -/
theorem State.Granted.askReg {r : RegSpec} {ix : List Nat} {v : W64} (g : s.Granted i h r ix v) (d : r.Decoded ix) :
    s.askReg i r ix v =
      let f := s.frameOf i h 2 (r.addr ix) 1 [v]
      (wrote (writeReg r i h.polder ix v (s.nextRuns f i h))).answer s f i h := by
  have po := s.nextRuns_pathOnly (s.frameOf i h 2 (r.addr ix) 1 [v]) i h
  unfold State.askReg State.askWrite
  rw [List.length_singleton, g.ready.ask [v] _ (by decide) d.aligned]
  simp only
  rw [State.writeAccess_one d (by rw [po.mayWriteAt, g.may]) (by rw [po.isDark, g.lit])]

end

end Sys2Proof.Machine
end

section
/-!
What power operations change of a state (chapter 15): the orderly save, the warm reset, the failover and the cold reset. A lemma `_frame` says which
parts an operation may change, and what it makes of those that a statement speaks of.
-/

namespace Sys2Proof.Machine

/-! ### Counters and the log (R518, R525) -/

/-- Counter `m` after counter `k` advances. -/
theorem State.bump_count (s : State) (k m : Fin 24) (d : Nat) :
    (s.bump k d).cnt.count[m] = if k = m then (s.cnt.count[m] + d) % 2 ^ 48 else s.cnt.count[m] := by
  simp only [State.bump, State.onCnt_cnt, Fin.getElem_fin, Vector.getElem_set, Fin.ext_iff]
  split
  case isTrue hkm => simp [hkm]
  case isFalse => rfl

/-- An event that is logged changes the log and counter 22. -/
theorem State.logEv_frame (s : State) (ev : Ev) (inst polder origin x y : Nat) :
    ∃ cn lg, s.logEv ev inst polder origin x y = { s with cnt := cn, log := lg } ∧ ∀ k : Fin 24, k ≠ 22 → cn.count[k] = s.cnt.count[k] := by
  unfold State.logEv
  simp only
  split
  case isTrue =>
    refine ⟨_, _, rfl, fun k hk => ?_⟩
    exact (State.bump_count _ 22 k 1).trans (if_neg hk.symm)
  case isFalse => exact ⟨_, _, rfl, fun _ _ => rfl⟩

/-! ### The orderly save (R214, R254) -/

/-- A message of the storage key changes slot 4 of the Key Register, counters and the log. -/
theorem State.storeUse_frame (s : State) : ∃ ks cn lg, s.storeUse = { s with keys := ks, cnt := cn, log := lg } := by
  unfold State.storeUse
  split
  case isTrue =>
    unfold State.keyUse
    split
    case h_1 => obtain ⟨cn, lg, hl, -⟩ := State.logEv_frame (s.refuse _ _ _ _ _) _ _ _ _ _ _; exact ⟨_, _, _, hl⟩
    case h_2 => exact ⟨_, _, _, rfl⟩
  case isFalse => exact ⟨_, _, _, rfl⟩

/-- A message of the storage key leaves every other slot as it was. -/
theorem State.storeUse_slot_other (s : State) {n : Fin 256} (hn : n ≠ 4) : s.storeUse.slot n = s.slot n := by
  unfold State.storeUse
  split
  · exact s.keyUse_slot_other hn ..
  · rfl

/-- The orderly save writes one save record and uses the storage key once: the energy registers and every other key slot stay. -/
theorem State.orderlySave_frame (s : State) :
    ∃ ks cn lg en, s.orderlySave = { s with keys := ks, cnt := cn, log := lg, nrg := en } ∧ en.saveSeq = s.nrg.saveSeq + 1 ∧ en.e = s.nrg.e ∧
      ∀ n : Fin 256, n ≠ 4 → ks.slots[n] = s.slot n := by
  obtain ⟨ks, cn, lg, hu⟩ := s.storeUse_frame
  have hs : s.orderlySave = { s with keys := ks, cnt := cn, log := lg, nrg := s.orderlySave.nrg } := by
    unfold State.orderlySave State.metroSave
    rw [hu]; rfl
  refine ⟨ks, cn, lg, _, hs, ?_, ?_, fun n hn => ?_⟩
  · rfl
  · unfold State.orderlySave State.metroSave
    simp only [State.onNrg_nrg]
    split <;> simp [hu]
  · rw [← s.storeUse_slot_other hn, State.slot, hu]

/-! ### Jobs that a warm reset ends (R123, R480) -/

/-- A job after a warm reset at `tb`: one that ran has failed with BUSY. -/
def Job.afterWarm (b : Job) (tb : Nat) : Job :=
  if b.state = .running then
    { b with state := .failed, error := BUSY, cancellable := false, finishTb := tb, seen := false, input := [] }
  else b

/-- A job that a warm reset has ended once stays as it is. -/
theorem Job.afterWarm_afterWarm (b : Job) (tb : Nat) : (b.afterWarm tb).afterWarm tb = b.afterWarm tb := by
  unfold Job.afterWarm
  split <;> simp_all

/-- The job in slot `j` fails with BUSY if it runs, and takes its update with it. -/
def State.failRunning (s : State) (j : Fin 16) : State :=
  if (s.job j).state = .running then (s.finishJob j BUSY).dropUpdateOf j else s

/-- An update that ends with its job changes nothing but the update. -/
theorem State.dropUpdateOf_frame (s : State) (j : Fin 16) : ∃ fw, s.dropUpdateOf j = { s with fw := fw } := by
  unfold State.dropUpdateOf State.dropUpdate
  split <;> exact ⟨_, rfl⟩

/-- The end of a running job changes jobs and the update, and of the jobs its own alone. -/
theorem State.failRunning_frame (s : State) (j : Fin 16) :
    ∃ js fw, s.failRunning j = { s with jobs := js, fw := fw } ∧
      ∀ k : Fin 16, js.slots[k] = if j = k then (s.job k).afterWarm s.clock.tb else s.job k := by
  unfold State.failRunning
  split
  case isTrue hr =>
    obtain ⟨fw, hfw⟩ := (s.finishJob j BUSY).dropUpdateOf_frame j
    rw [hfw, State.finishJob, if_neg (by simp [hr])]
    refine ⟨_, _, rfl, fun k => ?_⟩
    by_cases hjk : j = k
    · subst hjk
      rw [if_pos rfl, Job.afterWarm, if_pos hr]
      exact upd_same ..
    · rw [if_neg hjk]
      exact upd_other _ _ _ _ hjk
  case isFalse hr =>
    refine ⟨_, _, rfl, fun k => ?_⟩
    split
    case isTrue hjk => subst hjk; rw [Job.afterWarm, if_neg hr]; rfl
    case isFalse => rfl

/-- After the jobs of a list of slots have ended, those slots alone have changed. -/
theorem State.foldl_failRunning_frame (l : List (Fin 16)) (s : State) :
    ∃ js fw, l.foldl State.failRunning s = { s with jobs := js, fw := fw } ∧
      ∀ k : Fin 16, js.slots[k] = if k ∈ l then (s.job k).afterWarm s.clock.tb else s.job k := by
  induction l generalizing s with
  | nil => exact ⟨_, _, rfl, fun _ => rfl⟩
  | cons j l ih =>
    obtain ⟨js, fw, hone, hj⟩ := s.failRunning_frame j
    obtain ⟨js', fw', hrest, hk⟩ := ih (s.failRunning j)
    have hjob : ∀ k, (s.failRunning j).job k = if j = k then (s.job k).afterWarm s.clock.tb else s.job k := by
      intro k; rw [← hj, hone]; rfl
    have htb : (s.failRunning j).clock.tb = s.clock.tb := by rw [hone]
    refine ⟨js', fw', ?_, fun k => ?_⟩
    · rw [List.foldl_cons, hrest, hone]
    · rw [hk, hjob, htb]
      by_cases hjk : j = k
      · simp [hjk, Job.afterWarm_afterWarm]
      · simp [hjk, Ne.symm hjk]

/-! ### The warm reset (R123, R381, R402, R480) -/

/-- Channels that a warm reset turns off change the load switches alone. -/
theorem State.lswWarm_frame (s : State) : ∃ lw, s.lswWarm = { s with lsw := lw } := by
  refine List.foldlRecOn (motive := fun t => ∃ lw, t = { s with lsw := lw }) _ _ ⟨s.lsw, rfl⟩ ?_
  rintro _ ⟨lw, rfl⟩ n -
  simp only
  split
  · exact ⟨lw, rfl⟩
  · exact ⟨_, rfl⟩

/-- The warm resets of the last 60 s (R481). -/
def State.recentWarm (s : State) : List Nat := s.pwr.warmTbs.filter (fun t => decide (s.clock.tb < t + 60 * tbSecond))

/-- The first part of a warm reset: the nonce goes, the reset is counted, dated and latched, and the Hearth stops. -/
def State.warmBegun (s : State) (code : Nat) : State :=
  (({ s with life := { s.life with nonce := none },
             pwr := { s.pwr with warm := satAdd 16 s.pwr.warm 1, last := code, warmTbs := s.recentWarm ++ [s.clock.tb] } }).latch
    R.SYS_STATUS [] F.SYS_STATUS_WARM_SEEN.mask).onHearth
      (fun h => { h with running := false, checkpointTb := none, busyUntil := s.clock.tb + 200 * 25000 })

/-- The sequencer waits, and the Fireguard's hold begins unless it runs already. -/
def State.warmHeld (s : State) (tb : Nat) : State :=
  (s.onSeqr (fun q => { q with suspended := true })).onGuard
    (fun g => { g with hold := match g.hold with | some t => some t | none => some tb })

/-- A warm reset with fewer than three in the 60 s before it. -/
theorem State.warmReset_few (s : State) (code : Nat) (few : s.recentWarm.length < 3) :
    s.warmReset code =
      ((((idx 16).foldl State.failRunning (s.warmBegun code)).warmHeld s.clock.tb).lswWarm).logEv .reset 0 7 0 code 0 := by
  unfold State.warmReset
  exact if_neg (Nat.not_le.mpr few)

/-- What a warm reset changes, where fewer than three came in the 60 s before it. -/
theorem State.warmReset_frame (s : State) (code : Nat) (few : s.recentWarm.length < 3) :
    ∃ js fw lw cn lg, s.warmReset code = { (s.warmBegun code).warmHeld s.clock.tb with jobs := js, fw := fw, lsw := lw, cnt := cn, log := lg } ∧
      ∀ k : Fin 16, js.slots[k] = (s.job k).afterWarm s.clock.tb := by
  obtain ⟨js, fw, hf, hj⟩ := State.foldl_failRunning_frame (idx 16) (s.warmBegun code)
  rw [s.warmReset_few code few, hf]
  obtain ⟨lw, hw⟩ := ({ s.warmBegun code with jobs := js, fw := fw }.warmHeld s.clock.tb).lswWarm_frame
  rw [hw]
  obtain ⟨cn, lg, hl, -⟩ := State.logEv_frame { { s.warmBegun code with jobs := js, fw := fw }.warmHeld s.clock.tb with lsw := lw } .reset 0 7 0 code 0
  rw [hl]
  exact ⟨js, fw, lw, cn, lg, rfl, fun k => (hj k).trans (if_pos (List.mem_finRange k))⟩

/-! ### The failover (R27, R28, R480) -/

/-- What a failover changes while pair A leads: the pairs change roles, pair A runs its self-test, the failover is counted, latched and logged, and
the sequencer waits. -/
theorem State.failover_frame (s : State) (lead : s.hearth.pairA = .primary) :
    ∃ st cn lg, s.failover = { s with
        sticky := st,
        hearth := { s.hearth with pairA := .selfTest (s.clock.tb + 25000 + 3750000), pairB := .primary, busyUntil := s.clock.tb + 25000 },
        cnt := cn, log := lg,
        seqr := { s.seqr with suspended := true },
        pwr := { s.pwr with failovers := satAdd 16 s.pwr.failovers 1 } } ∧
      ∀ k : Fin 24, k ≠ 22 → cn.count[k] = s.cnt.count[k] := by
  unfold State.failover
  simp only [lead, BEq.rfl, if_true]
  obtain ⟨cn, lg, hl, hk⟩ := State.logEv_frame _ .reset 1 7 0 16 0
  rw [hl]
  exact ⟨_, cn, lg, rfl, hk⟩

/-! ### The cold reset (R28, R479, R482) -/

/-- Channels that a cold reset turns off change the load switches alone. -/
theorem State.lswCold_frame (s : State) : ∃ lw, s.lswCold = { s with lsw := lw } := by
  refine List.foldlRecOn (motive := fun t => ∃ lw, t = { s with lsw := lw }) _ _ ⟨s.lsw, rfl⟩ ?_
  rintro _ ⟨lw, rfl⟩ n -
  simp only
  split
  · exact ⟨_, rfl⟩
  · exact ⟨_, rfl⟩

/-- The Fireguard runs on through a cold reset whose code is neither 1 nor 2 (R349, R380). -/
theorem State.guardCold_frame (s : State) {code : Nat} (h1 : code ≠ 1) (h2 : code ≠ 2) : ∃ g, s.guardCold code = { s with guard := g } := by
  unfold State.guardCold
  rw [if_neg h2, if_neg h1]
  exact ⟨_, rfl⟩

/-- A cold reset that comes while none is in force. -/
theorem State.coldReset_up {s : State} (h : s.pwr.inReset = false) (code : Nat) :
    s.coldReset code = ((s.guardCold code).clearCold code).onHearth (fun h => { h with failedA := false, failedB := false }) :=
  if_neg (by simp [h])

/-- No session outlives the clearing of the host ports. -/
theorem State.clearCold_anySession (s : State) (code : Nat) (i : Fin 64) : (s.clearCold code).anySession i = none := by
  have hi : (s.clearCold code).sidUse i = .free := by
    simp [State.sidUse, State.clearCold, HostState.cleared, HostState.reset]
  rw [State.anySession, hi]

/-- What the clearing by a cold reset leaves. -/
theorem State.clearCold_down (s : State) (code : Nat) : s.Down (s.clearCold code) code := by
  obtain ⟨lw, hw⟩ := (s.onNrg (fun n => n.tear s.clock.tb)).lswCold_frame
  exact {
    inReset := rfl
    last := rfl
    level := rfl
    hearth := rfl
    clock := by simp only [State.clearCold, hw]; rfl
    jobs := rfl
    sessions := s.clearCold_anySession code
    regs := fun e he => (List.mem_filter.mp he).2
    life := by simp only [State.clearCold, hw]; rfl }

/-- Save numbers go on through a cold reset. -/
theorem State.clearCold_saveSeq (s : State) (code : Nat) : (s.clearCold code).nrg.saveSeq = s.nrg.saveSeq := by
  obtain ⟨lw, hw⟩ := (s.onNrg (fun n => n.tear s.clock.tb)).lswCold_frame
  simp only [State.clearCold, hw]; rfl

section
variable {s t u : State} {code : Nat}

/-- What a cold reset leaves depends on the clock and the life cycle before it alone. -/
theorem State.Down.of (d : u.Down t code) (hc : u.clock = s.clock) (hl : u.life = s.life) : s.Down t code where
  inReset := d.inReset
  last := d.last
  level := d.level
  hearth := d.hearth
  clock := hc ▸ d.clock
  jobs := d.jobs
  sessions := d.sessions
  regs := d.regs
  life := hl ▸ d.life

/-- The answer to the access that caused a cold reset changes nothing of what the reset leaves. -/
theorem State.Down.respond (d : s.Down t code) (f : Frame) (sid status count : Nat) (payload : List W64) (attn : Bool)
    (wrap : Option (Fin 256 × Bytes × Nat)) : s.Down (t.respond f sid status count payload attn wrap) code where
  inReset := by simp [d.inReset]
  last := by simp [d.last]
  level := by simp [d.level]
  hearth := by simp [d.hearth]
  clock := by simp [d.clock]
  jobs := by simp [d.jobs]
  sessions i := by rw [State.anySession, State.respond_sidUse]; exact d.sessions i
  regs := by rw [(t.respond_same ..).1]; exact d.regs
  life := by simp [d.life]

/-- A change of the Hearth that does not start it changes nothing of what the reset leaves. -/
theorem State.Down.onHearth (d : s.Down t code) {f : Hearth → Hearth} (hf : (f t.hearth).running = t.hearth.running) :
    s.Down (t.onHearth f) code where
  inReset := d.inReset
  last := d.last
  level := d.level
  hearth := hf.trans d.hearth
  clock := d.clock
  jobs := d.jobs
  sessions := d.sessions
  regs := d.regs
  life := d.life

/-- A cold reset that comes while none is in force is in force after it. -/
theorem State.coldReset_down (h : s.pwr.inReset = false) (h1 : code ≠ 1) (h2 : code ≠ 2) : s.Down (s.coldReset code) code := by
  obtain ⟨g, hg⟩ := s.guardCold_frame h1 h2
  rw [State.coldReset_up h, hg]
  have d : s.Down ({ s with guard := g }.clearCold code) code := (State.clearCold_down _ code).of rfl rfl
  exact State.Down.onHearth (f := fun h => { h with failedA := false, failedB := false }) d rfl

/-- Save numbers go on through a cold reset. -/
theorem State.coldReset_saveSeq (h : s.pwr.inReset = false) (h1 : code ≠ 1) (h2 : code ≠ 2) :
    (s.coldReset code).nrg.saveSeq = s.nrg.saveSeq := by
  obtain ⟨g, hg⟩ := s.guardCold_frame h1 h2
  rw [State.coldReset_up h, hg]
  exact State.clearCold_saveSeq { s with guard := g } code

end

end Sys2Proof.Machine
end

section
/-! O52: warm and commanded resets, failovers and memory errors (R27, R28, R479, R480). -/

namespace Sys2Proof.Machine

/-! ### SYS_RESET (R479) -/

/-- KIND reads back what was put into it. -/
theorem sysResetKind_put (v : W64) {x : Nat} (hx : x < 4) : F.SYS_RESET_KIND.get (F.SYS_RESET_KIND.put v x).toNat = x := by
  have hv : (v.toNat - v.toNat % 4 + x) % 2 ^ 64 % 4 = x := by omega
  simpa [Field.get, Field.put, Field.set, w64, F.SYS_RESET_KIND, Nat.mod_eq_of_lt hx] using hv

theorem sysReset_decoded : R.SYS_RESET.Decoded [] where
  aligned := by decide
  inside := by decide
  plain := by decide
  here := by rfl

section
variable {s : State} (v : W64)

theorem State.writeReset_warm : s.writeReset (F.SYS_RESET_KIND.put v 1).toNat = (OK, s.orderlySave.warmReset 17) := by
  simp [State.writeReset, sysResetKind_put]

theorem State.writeReset_cold (h : s.anyHv = false) : s.writeReset (F.SYS_RESET_KIND.put v 2).toNat = (OK, s.orderlySave.coldReset 6) := by
  simp [State.writeReset, sysResetKind_put, h]

theorem State.writeReset_busy (h : s.anyHv = true) : s.writeReset (F.SYS_RESET_KIND.put v 2).toNat = (BUSY, s) := by
  simp [State.writeReset, sysResetKind_put, h]

/-- A write that its writer takes is answered OK with COUNT 1. -/
theorem wrote_ok (t : State) : wrote (OK, t) = { status := OK, count := 1, payload := [], state := t } := rfl

/-- A write that finds its register busy is answered with the time after which to come again. -/
theorem wrote_busy (t : State) : wrote (BUSY, t) = { status := BUSY, count := 0, payload := [busyWord 0 7], state := t } := rfl

end

section
variable {s : State} {i : Fin 64} {h : Session} {v : W64}

/-- The frame with which a session writes SYS_RESET. -/
def State.resetFrame (s : State) (i : Fin 64) (h : Session) (v : W64) : Frame := s.frameOf i h 2 (R.SYS_RESET.addr []) 1 [v]

/-- The state in which the write of SYS_RESET reaches its writer. -/
def State.resetRuns (s : State) (i : Fin 64) (h : Session) (v : W64) : State := s.nextRuns (s.resetFrame i h v) i h

/-- The answer to a write of SYS_RESET after its writer. -/
def State.resetAnswer (s : State) (i : Fin 64) (h : Session) (v : W64) (w : Nat × State) : State := (wrote w).answer s (s.resetFrame i h v) i h

/-- A granted write of SYS_RESET is answered as its writer has it. -/
theorem State.Granted.sysReset (g : s.Granted i h R.SYS_RESET [] v) :
    s.askReg i R.SYS_RESET [] v = s.resetAnswer i h v ((s.resetRuns i h v).writeReset v.toNat) :=
  g.askReg sysReset_decoded

theorem exec_commandWarm_granted (g : s.Granted i h R.SYS_RESET [] (F.SYS_RESET_KIND.put v 1)) :
    exec (.commandWarm i v) s =
      .next (s.resetAnswer i h (F.SYS_RESET_KIND.put v 1) (OK, (s.resetRuns i h (F.SYS_RESET_KIND.put v 1)).orderlySave.warmReset 17)) :=
  congrArg Host.Outcome.next (g.sysReset.trans (by rw [State.writeReset_warm]))

/-- When a write of SYS_RESET reaches its writer, nothing else has happened. -/
theorem State.resetRuns_pathOnly (s : State) (i : Fin 64) (h : Session) (v : W64) : s.PathOnly (s.resetRuns i h v) i h :=
  s.nextRuns_pathOnly (s.resetFrame i h v) i h

/-- Until a write of SYS_RESET reaches its writer, no HV_EN moves. -/
theorem State.resetRuns_anyHv (s : State) (i : Fin 64) (h : Session) (v : W64) : (s.resetRuns i h v).anyHv = s.anyHv := by
  rw [(s.resetRuns_pathOnly i h v).rest]; rfl

theorem exec_commandCold_of_off (g : s.Granted i h R.SYS_RESET [] (F.SYS_RESET_KIND.put v 2)) (hv : s.anyHv = false) :
    exec (.commandCold i v) s =
      .next (s.resetAnswer i h (F.SYS_RESET_KIND.put v 2) (OK, (s.resetRuns i h (F.SYS_RESET_KIND.put v 2)).orderlySave.coldReset 6)) :=
  congrArg Host.Outcome.next (g.sysReset.trans (by rw [State.writeReset_cold v ((s.resetRuns_anyHv ..).trans hv)]))

theorem exec_commandCold_of_raised (g : s.Granted i h R.SYS_RESET [] (F.SYS_RESET_KIND.put v 2)) (hv : s.anyHv = true) :
    exec (.commandCold i v) s =
      .next (s.resetAnswer i h (F.SYS_RESET_KIND.put v 2) (BUSY, s.resetRuns i h (F.SYS_RESET_KIND.put v 2))) :=
  congrArg Host.Outcome.next (g.sysReset.trans (by rw [State.writeReset_busy v ((s.resetRuns_anyHv ..).trans hv)]))

/-- An answer to a write of SYS_RESET carries the next SEQ of its session. -/
theorem State.resetAnswer_answers (s : State) (i : Fin 64) (h : Session) (v : W64) (w : Nat × State) :
    (s.resetAnswer i h v w).Answers i h ((h.ext + 1) % 65536) (wrote w).status (wrote w).count (wrote w).payload :=
  Act.answer_answers rfl (State.frameOf_seq ..) _

/-- A write of SYS_RESET that leaves the session table alone answers the next access of its session. -/
theorem State.resetAnswer_replies (hs : s.session i = some h) {w : Nat × State} (ht : w.2.host.table = (s.resetRuns i h v).host.table) :
    s.Replies (s.resetAnswer i h v w) i h (wrote w).status (wrote w).count (wrote w).payload :=
  Act.answer_replies rfl (State.frameOf_seq ..) _ hs ht

end

/-! ### The orderly save and the reset after it (R214, R479, R480) -/

section
variable {s : State} {code : Nat}

/-- What an orderly save and a warm reset change, where fewer than three came in the 60 s before it. -/
structure State.SavedWarm (s t : State) (code : Nat) : Prop where
  hearth : t.hearth.running = false
  last : t.pwr.last = code
  warm : t.pwr.warm = satAdd 16 s.pwr.warm 1
  inReset : t.pwr.inReset = s.pwr.inReset
  jobs : ∀ j, t.job j = (s.job j).afterWarm s.clock.tb
  hold : t.guard.hold.isSome = true
  outs : t.guard.outs = s.guard.outs
  saveSeq : t.nrg.saveSeq = s.nrg.saveSeq + 1
  energy : t.nrg.e = s.nrg.e
  slots : ∀ n : Fin 256, n ≠ 4 → t.slot n = s.slot n
  rest : t = { s with life := t.life, pwr := t.pwr, sticky := t.sticky, hearth := t.hearth, jobs := t.jobs, fw := t.fw, seqr := t.seqr,
                      guard := t.guard, lsw := t.lsw, log := t.log, cnt := t.cnt, nrg := t.nrg, keys := t.keys }

theorem State.orderlySave_warmReset (few : s.recentWarm.length < 3) (code : Nat) : s.SavedWarm (s.orderlySave.warmReset code) code := by
  obtain ⟨ks, cn, lg, en, hs, hseq, he, hk⟩ := s.orderlySave_frame
  have few' : s.orderlySave.recentWarm.length < 3 := by rw [hs]; exact few
  obtain ⟨js, fw, lw, cn', lg', hw, hj⟩ := s.orderlySave.warmReset_frame code few'
  rw [hw, hs]
  rw [hs] at hj
  exact {
    hearth := rfl
    last := rfl
    warm := rfl
    inReset := rfl
    jobs := hj
    hold := by simp [State.warmHeld, Guard.watch]; split <;> rfl
    outs := rfl
    saveSeq := hseq
    energy := he
    slots := hk
    rest := rfl }

/-- An orderly save and a cold reset that comes while none is in force. -/
theorem State.orderlySave_coldReset (h : s.pwr.inReset = false) (h1 : code ≠ 1) (h2 : code ≠ 2) :
    s.Down (s.orderlySave.coldReset code) code ∧ (s.orderlySave.coldReset code).nrg.saveSeq = s.nrg.saveSeq + 1 := by
  obtain ⟨ks, cn, lg, en, hs, hseq, -⟩ := s.orderlySave_frame
  have hr : s.orderlySave.pwr.inReset = false := by rw [hs]; exact h
  refine ⟨(State.coldReset_down hr h1 h2).of (by rw [hs]) (by rw [hs]), ?_⟩
  rw [State.coldReset_saveSeq hr h1 h2, hs]
  exact hseq

end

/-! ### Faults of the pair in control and its watchdog (R27, R28, R480) -/

/-- The Hearth is in control outside reset, in mode RUN. -/
theorem State.hearthUp_of_up {s : State} (hu : s.up) : s.hearthUp = true := by
  obtain ⟨hr, hm⟩ := hu
  simp [State.hearthUp, hr, hm]

section
variable {s : State}

theorem exec_watchdog_of_no_shadow (hu : s.up) (h : s.shadowReady = false) : exec .watchdog s = .next (s.orderlySave.warmReset 16) :=
  congrArg Host.Outcome.next ((if_pos (State.hearthUp_of_up hu)).trans (if_neg (by simp [h])))

theorem exec_watchdog_of_shadow (hu : s.up) (h : s.shadowReady = true) : exec .watchdog s = .next s.failover :=
  congrArg Host.Outcome.next ((if_pos (State.hearthUp_of_up hu)).trans (if_pos h))

theorem exec_hearthFailover_of_shadow (h : s.shadowReady = true) : exec .hearthFailover s = .next s.failover :=
  congrArg Host.Outcome.next (if_pos h)

theorem exec_hearthFailover_of_no_shadow (hu : s.up) (h : s.shadowReady = false) :
    exec .hearthFailover s = .next { s with hearth := { s.hearth with running := false }, seqr := { s.seqr with suspended := true } } :=
  congrArg Host.Outcome.next ((if_neg (by simp [h])).trans (if_pos (State.hearthUp_of_up hu)))

theorem exec_eccUncorrectable_of_shadow (hu : s.up) (h : s.shadowReady = true) : exec .eccUncorrectable s = .next (s.bump 9 1).failover :=
  congrArg Host.Outcome.next ((if_pos (State.hearthUp_of_up hu)).trans (if_pos h))

theorem exec_eccCorrectable_of_up (hu : s.up) : exec .eccCorrectable s = .next (s.bump 8 1) :=
  congrArg Host.Outcome.next (if_pos (State.hearthUp_of_up hu))

theorem exec_hearthCheckpoint_of_running (h : s.hearth.running = true) :
    exec .hearthCheckpoint s = .next { s with hearth := { s.hearth with checkpointTb := some s.clock.tb } } :=
  congrArg Host.Outcome.next (if_pos h)

/-- What a failover with pair A in control changes, beyond the counter with which its cause was counted. -/
structure State.FailedOver (s t : State) : Prop where
  pairA : t.hearth.pairA = .selfTest (s.clock.tb + 25000 + 3750000)
  pairB : t.hearth.pairB = .primary
  running : t.hearth.running = s.hearth.running
  failovers : t.pwr.failovers = satAdd 16 s.pwr.failovers 1
  warm : t.pwr.warm = s.pwr.warm
  waits : t.seqr = { s.seqr with suspended := true }
  rest : t = { s with sticky := t.sticky, hearth := t.hearth, cnt := t.cnt, log := t.log, seqr := t.seqr, pwr := t.pwr }

theorem State.failover_failedOver (lead : s.hearth.pairA = .primary) : s.FailedOver s.failover := by
  obtain ⟨st, cn, lg, hf, -⟩ := s.failover_frame lead
  rw [hf]
  exact ⟨rfl, rfl, rfl, rfl, rfl, rfl, rfl⟩

/-- An error that is counted before its failover adds its count alone. -/
theorem State.bump_failover_failedOver (lead : s.hearth.pairA = .primary) (k : Fin 24) : s.FailedOver (s.bump k 1).failover := by
  obtain ⟨st, cn, lg, hf, -⟩ := (s.bump k 1).failover_frame lead
  rw [hf]
  exact ⟨rfl, rfl, rfl, rfl, rfl, rfl, rfl⟩

/-- The failover keeps every counter but that of log entries. -/
theorem State.failover_count (lead : s.hearth.pairA = .primary) {k : Fin 24} (hk : k ≠ 22) : s.failover.cnt.count[k] = s.cnt.count[k] := by
  obtain ⟨st, cn, lg, hf, hc⟩ := s.failover_frame lead
  rw [hf]
  exact hc k hk

end

/-! ### The self-test of a pair (R28) -/

/-- A self-test that is over makes the pair the shadow, or turns it off. -/
theorem PairRole.tested_over {x tb : Nat} (h : x ≤ tb) (pass : Bool) :
    (PairRole.selfTest x).tested tb pass = if pass then .shadow else .off := if_pos h

/-- A pair that runs no self-test keeps its role. -/
theorem PairRole.tested_idle {r : PairRole} (h : ∀ y, r ≠ .selfTest y) (tb : Nat) (pass : Bool) : r.tested tb pass = r := by
  cases r with
  | selfTest y => exact absurd rfl (h y)
  | primary | shadow | off => rfl

theorem exec_selftestDone_pairA {s : State} {x : Nat} (ha : s.hearth.pairA = .selfTest x) (hx : x ≤ s.clock.tb)
    (hb : ∀ y, s.hearth.pairB ≠ .selfTest y) (pass : Bool) :
    exec (.pairASelftestDone pass) s = .next { s with hearth :=
      { s.hearth with pairA := if pass then .shadow else .off, failedA := s.hearth.failedA || !pass } } := by
  have hd : selftestDone pass s = { s with hearth :=
      { s.hearth with pairA := if pass then .shadow else .off, failedA := s.hearth.failedA || !pass } } := by
    cases pass <;> simp [selftestDone, State.onHearth, ha, PairRole.tested_over hx, PairRole.tested_idle hb]
  exact congrArg Host.Outcome.next hd

theorem exec_selftestDone_pairB {s : State} {x : Nat} (hb : s.hearth.pairB = .selfTest x) (hx : x ≤ s.clock.tb)
    (ha : ∀ y, s.hearth.pairA ≠ .selfTest y) (pass : Bool) :
    exec (.pairASelftestDone pass) s = .next { s with hearth :=
      { s.hearth with pairB := if pass then .shadow else .off, failedB := s.hearth.failedB || !pass } } := by
  have hd : selftestDone pass s = { s with hearth :=
      { s.hearth with pairB := if pass then .shadow else .off, failedB := s.hearth.failedB || !pass } } := by
    cases pass <;> simp [selftestDone, State.onHearth, hb, PairRole.tested_over hx, PairRole.tested_idle ha]
  exact congrArg Host.Outcome.next hd

/-! ### The statement -/

/-- Settles O52: the watchdog's reset and the commanded ones are an orderly save and what `warmReset_frame` and `coldReset_down` say, answered
where a session asked for them; with a shadow ready each cause is the failover of `failover_frame`. -/
theorem warmResetsAndFailovers : Obligations.WarmResetsAndFailovers := by
  unfold Obligations.WarmResetsAndFailovers
  refine ⟨?watchdog, ?warm, ?cold, ?busy, ?failover, ?noShadow, ?corrected, ?testedA, ?testedB, ?checkpoint⟩
  case watchdog =>
    intro s hu hn few
    have w : s.SavedWarm (s.orderlySave.warmReset 16) 16 := State.orderlySave_warmReset few 16
    refine ⟨_, exec_watchdog_of_no_shadow hu hn, w.hearth, w.last, w.warm, w.inReset.trans hu.1, fun j hj => ?_, fun j hj => ?_, w.hold, w.outs,
      w.saveSeq, w.energy, w.slots, w.rest⟩
    · simp [w.jobs j, Job.afterWarm, hj]
    · rw [w.jobs j, Job.afterWarm, if_neg hj]
  case warm =>
    intro sid v h s _ g few
    have po := s.resetRuns_pathOnly sid h (F.SYS_RESET_KIND.put v 1)
    have w : (s.resetRuns sid h (F.SYS_RESET_KIND.put v 1)).SavedWarm _ 17 := State.orderlySave_warmReset (by rw [po.rest]; exact few) 17
    have hhost := congrArg State.host w.rest
    refine ⟨_, exec_commandWarm_granted g, State.resetAnswer_replies g.ready.names (congrArg HostState.table hhost), ?_, ?_, ?_, ?_,
      Act.answer_hostStored hhost w.slots, ?_, ?_, ?_⟩ <;> simp only [State.resetAnswer, wrote_ok, Act.answer_same]
    · exact w.hearth
    · exact w.last
    · rw [w.saveSeq, po.rest]
    · rw [w.energy, po.rest]
    · exact (congrArg State.grate w.rest).trans (by rw [po.rest])
    · exact (congrArg State.clock w.rest).trans (by rw [po.rest])
    · rw [w.outs, po.rest]
  case cold =>
    intro sid v h s hu g hv
    have po := s.resetRuns_pathOnly sid h (F.SYS_RESET_KIND.put v 2)
    have hr : (s.resetRuns sid h (F.SYS_RESET_KIND.put v 2)).pwr.inReset = false := by rw [po.rest]; exact hu.1
    obtain ⟨down, hseq⟩ := State.orderlySave_coldReset (code := 6) hr (by decide) (by decide)
    have down' : s.Down _ 6 := down.of (by rw [po.rest]) (by rw [po.rest])
    refine ⟨_, exec_commandCold_of_off g hv, State.resetAnswer_answers .., down'.respond .., ?_⟩
    simp only [State.resetAnswer, wrote_ok, Act.answer_same]
    rw [hseq, po.rest]
  case busy =>
    intro sid v h s g hv
    exact ⟨_, exec_commandCold_of_raised g hv, State.resetAnswer_replies g.ready.names rfl, Act.answer_pathOnly rfl⟩
  case failover =>
    rintro c s (rfl | rfl | rfl) hu hr lead
    · have fo := State.failover_failedOver lead
      exact ⟨_, exec_hearthFailover_of_shadow hr, fo.pairA, fo.pairB, fo.running, fo.failovers, fo.warm, fun hc => absurd hc (by simp), fo.waits, fo.rest⟩
    · have fo := State.bump_failover_failedOver lead 9
      have hc : (s.bump 9 1).failover.cnt.count[(9 : Fin 24)] = (s.cnt.count[(9 : Fin 24)] + 1) % 2 ^ 48 :=
        (State.failover_count (s := s.bump 9 1) lead (by decide)).trans ((s.bump_count 9 9 1).trans (if_pos rfl))
      exact ⟨_, exec_eccUncorrectable_of_shadow hu hr, fo.pairA, fo.pairB, fo.running, fo.failovers, fo.warm, fun _ => hc, fo.waits, fo.rest⟩
    · have fo := State.failover_failedOver lead
      exact ⟨_, exec_watchdog_of_shadow hu hr, fo.pairA, fo.pairB, fo.running, fo.failovers, fo.warm, fun hc => absurd hc (by simp), fo.waits, fo.rest⟩
  case noShadow => exact fun s hu hn => exec_hearthFailover_of_no_shadow hu hn
  case corrected =>
    intro s hu
    exact ⟨_, exec_eccCorrectable_of_up hu, (s.bump_count 8 8 1).trans (if_pos rfl), fun k hk => (s.bump_count 8 k 1).trans (if_neg hk.symm), rfl⟩
  case testedA => exact fun pass s x ha hx hb => exec_selftestDone_pairA ha hx hb pass
  case testedB => exact fun pass s x hb hx ha => exec_selftestDone_pairB hb hx ha pass
  case checkpoint => exact fun s hr => exec_hearthCheckpoint_of_running hr

end Sys2Proof.Machine
end

section
/-!
What every command but LIFECYCLE upholds, between a state before it and the state after it: the invariant, the absence of sessions of P0 (R37), and a
life cycle that goes on only to the target of a transition under way (R53, R56). One lemma for each modifier of the state. The sections of these
lemmas are elaborated in order (`Elab.async`): hundreds of short proofs at a time would ask for more threads than the memory holds stacks for.
-/

namespace Sys2Proof.Machine

/-! ### What is upheld -/

/-- No host session in a session table is P0's (R37). -/
def NoP0 (v : Vector SidUse 64) : Prop := ∀ (i : Fin 64) (x : Session), v[i] = .host x → x.polder ≠ 0

/-- From one life cycle to another no new transition has begun: the state is as it was or the target of the transition under way, which is still
under way or over (R53, R56). -/
structure LifeStep (x y : LifeCycle) : Prop where
  state : y.state = x.state ∨ x.inTransit = some y.state
  inTransit : y.inTransit = x.inTransit ∨ y.inTransit = none

/-- What holds from `a` to `t`. -/
structure Upholds (a t : State) : Prop where
  inv : a.Inv → t.Inv
  noP0 : NoP0 a.host.table → NoP0 t.host.table
  life : LifeStep a.life t.life

/-- Nothing happens. -/
theorem LifeStep.refl (x : LifeCycle) : LifeStep x x := ⟨.inl rfl, .inl rfl⟩

/-- One thing after another. -/
theorem LifeStep.trans {x y z : LifeCycle} (h : LifeStep x y) (k : LifeStep y z) : LifeStep x z where
  state := by
    rcases k.state with e | e
    · rw [e]; exact h.state
    · rcases h.inTransit with f | f
      · exact .inr (f ▸ e)
      · rw [f] at e; cases e
  inTransit := by
    rcases k.inTransit with e | e
    · rw [e]; exact h.inTransit
    · exact .inr e

/-- A transition under way still leads forward. -/
theorem LifeStep.transit {x y : LifeCycle} (h : LifeStep x y) (i : ∀ t, x.inTransit = some t → x.state.rank ≤ t.rank) :
    ∀ t, y.inTransit = some t → y.state.rank ≤ t.rank := by
  intro t ht
  have hx : x.inTransit = some t := by
    rcases h.inTransit with e | e
    · rw [← e, ht]
    · rw [e] at ht; cases ht
  rcases h.state with e | e
  · rw [e]; exact i t hx
  · rw [hx] at e; cases e; exact Nat.le_refl _

/-- The state goes forward. -/
theorem LifeStep.rank_le {x y : LifeCycle} (h : LifeStep x y) (i : ∀ t, x.inTransit = some t → x.state.rank ≤ t.rank) :
    x.state.rank ≤ y.state.rank := by
  rcases h.state with e | e
  · rw [e]
  · exact i _ e

/-- Nothing happens. -/
@[simp] theorem Upholds.refl (a : State) : Upholds a a := ⟨id, id, LifeStep.refl _⟩

section
variable {a s t : State}

/-- One thing after another. -/
theorem Upholds.trans (h : Upholds a s) (k : Upholds s t) : Upholds a t :=
  ⟨k.inv ∘ h.inv, k.noP0 ∘ h.noP0, h.life.trans k.life⟩

/-- A change of the state, part by part of the invariant; a part that is not named is as it was. -/
theorem Upholds.step (h : Upholds a s)
    (tagMem : s.Inv → Memory.wf t.tag.mem = true := by intro i; exact i.tagMem)
    (regs : s.Inv → Rising t.regs := by intro i; exact i.regs)
    (use : s.Inv → Rising t.use := by intro i; exact i.use)
    (sticky : s.Inv → Rising t.sticky := by intro i; exact i.sticky)
    (backup : s.Inv → ∀ b, t.fw.backup = some b → Rising b.1 := by intro i; exact i.backup)
    (sluices : s.Inv → ∀ n : Fin 8, (t.host.sluices[n]).msgs.length ≤ 8 := by intro i; exact i.sluices)
    (counters : s.Inv → ∀ k : Fin 24, t.cnt.count[k] < 2 ^ 48 := by intro i; exact i.counters)
    (staged : s.Inv → t.log.staged.length ≤ 256 := by intro i; exact i.staged)
    (noP0 : NoP0 s.host.table → NoP0 t.host.table := by exact id)
    (life : LifeStep s.life t.life := by exact ⟨.inl rfl, .inl rfl⟩) : Upholds a t :=
  h.trans ⟨fun i => ⟨tagMem i, regs i, use i, sticky i, backup i, sluices i, counters i, staged i, life.transit i.transit⟩, noP0, life⟩

end

/-! ### Tables, the update record and the tag's pages -/

/-- What holds of every entry holds of every entry once one is updated, if the update keeps it. -/
theorem forall_upd {α : Type} {n : Nat} {P : α → Prop} {v : Vector α n} {i : Fin n} {f : α → α} (h : ∀ j : Fin n, P v[j]) (hf : P (f v[i])) :
    ∀ j : Fin n, P (upd v i f)[j] := by
  intro j
  by_cases e : i = j
  · subst e; rw [upd_same]; exact hf
  · rw [upd_other _ _ _ _ e]; exact h j

/-- No session is P0's once an entry is updated to one that is not P0's. -/
theorem NoP0.upd {v : Vector SidUse 64} {i : Fin 64} {f : SidUse → SidUse} (h : NoP0 v)
    (hf : ∀ u, (∀ x, u = .host x → x.polder ≠ 0) → ∀ x, f u = .host x → x.polder ≠ 0) : NoP0 (upd v i f) :=
  forall_upd (P := fun u => ∀ x, u = SidUse.host x → x.polder ≠ 0) h (hf _ (h i))

/-- An entry is replaced by one that is not a session of P0. -/
theorem NoP0.set {v : Vector SidUse 64} {i : Fin 64} {u : SidUse} (h : NoP0 v) (hu : ∀ x, u = .host x → x.polder ≠ 0) : NoP0 (v.set i u) :=
  forall_upd (P := fun u => ∀ x, u = SidUse.host x → x.polder ≠ 0) (f := fun _ => u) h hu

/-- An empty table has no session. -/
theorem NoP0.reset : NoP0 HostState.reset.table := by
  intro i x e
  simp [HostState.reset] at e

/-- Emptied sluices hold at most 8 messages. -/
theorem HostState.reset_sluices_le (n : Fin 8) : (HostState.reset.sluices[n]).msgs.length ≤ 8 := by
  simp [HostState.reset]

/-- Cleared counters fit their 48 bits. -/
theorem Counters.reset_count_lt (k : Fin 24) : Counters.reset.count[k] < 2 ^ 48 := by
  simp [Counters.reset]

/-- Writing the boot record leaves the settings set aside. -/
@[simp] theorem Update.write_backup (u : Update) : u.write.backup = u.backup := by
  unfold Update.write
  dsimp only
  split <;> rfl

/-- Erasing a slot leaves the settings set aside. -/
@[simp] theorem Update.wipe_backup (u : Update) (kind comp : Nat) (slotB : Bool) : (u.wipe kind comp slotB).backup = u.backup := by
  unfold Update.wipe
  split
  · exact Update.write_backup _
  · rfl

/-- Reading the boot record leaves the settings set aside. -/
@[simp] theorem Update.readRecord_backup (u : Update) : u.readRecord.backup = u.backup := by
  unfold Update.readRecord
  split
  · rfl
  · exact Update.write_backup _

/-- A page write, whole or cut short, leaves the tag memory in canonical form (R428). -/
theorem Tag.wf_writePage {x : Tag} (h : Memory.wf x.mem = true) (p off : Nat) (data : Bytes) (stop : Option (Nat × Bool)) :
    Memory.wf (x.writePage p off data stop).mem = true := by
  have k : Memory.wf (Memory.writeBytes (64 * p) (patch (x.page p) off data) x.mem) = true := Memory.wf_writeBytes _ _ _ h
  unfold Tag.writePage
  split
  · exact k
  · split
    · exact h
    · split
      · exact h
      · split
        · split <;> exact h
        · split
          · exact h
          · exact k

/-- So does a write of one page or two. -/
theorem Tag.wf_writeBytes {x : Tag} (h : Memory.wf x.mem = true) (off : Nat) (data : Bytes) (stop : Option (Nat × Bool)) :
    Memory.wf (x.writeBytes off data stop).mem = true := by
  have k := Tag.wf_writePage h
  unfold Tag.writeBytes
  dsimp only
  split
  · exact Tag.wf_writePage (k ..) ..
  · exact k ..

/-- So does the replay of a commit record (R429). -/
theorem Tag.wf_replay {x : Tag} (h : Memory.wf x.mem = true) : Memory.wf x.replay.mem = true := by
  unfold Tag.replay
  split
  · exact Memory.wf_writeBytes _ _ _ h
  · exact h

/-- So does the erasure of the service files at RETURNED. -/
theorem Tag.wf_returned {x : Tag} (h : Memory.wf x.mem = true) : Memory.wf x.returned.mem = true := by
  simp only [Tag.returned]
  exact Memory.wf_writeBytes _ _ _ h

/-- So do the waiting wired pages. -/
theorem Tag.wf_serve {x : Tag} (h : Memory.wf x.mem = true) : Memory.wf x.serve.mem = true := by
  have k : ∀ (l : List (Nat × Bytes)) (y : Tag), Memory.wf y.mem = true →
      Memory.wf (l.foldl (fun (x : Tag) w => x.writeBytes w.1 w.2 none) y).mem = true := by
    intro l
    induction l with
    | nil => exact fun _ hy => hy
    | cons w ws ih => exact fun y hy => ih _ (Tag.wf_writeBytes hy ..)
  exact k _ _ h

/-! ### One of two things -/

section
variable {a s t : State} {α β : Type} {c : Prop}

/-- A state that stands second in a pair. -/
theorem Upholds.snd {r : α} (x : Upholds a s) : Upholds a (r, s).2 := x

theorem Upholds.ite {d : Decidable c} (x : Upholds a s) (y : Upholds a t) : Upholds a (if c then s else t) := by
  split
  · exact x
  · exact y

/-- What may be done then. -/
theorem Upholds.maybe {d : Decidable c} (x : Upholds a s) (y : Upholds a s → Upholds a t) : Upholds a (if c then t else s) := .ite (y x) x

/-- What is done unless. -/
theorem Upholds.unless {d : Decidable c} (x : Upholds a s) (y : Upholds a s → Upholds a t) : Upholds a (if c then s else t) := .ite x (y x)

theorem Upholds.dite {d : Decidable c} {s : c → State} {t : ¬ c → State} (x : ∀ h, Upholds a (s h)) (y : ∀ h, Upholds a (t h)) :
    Upholds a (if h : c then s h else t h) := by
  split
  · exact x _
  · exact y _

theorem Upholds.ite_snd {d : Decidable c} {p q : α × State} (x : Upholds a p.2) (y : Upholds a q.2) : Upholds a (if c then p else q).2 := by
  split
  · exact x
  · exact y

theorem Upholds.ite_fst {d : Decidable c} {p q : State × α} (x : Upholds a p.1) (y : Upholds a q.1) : Upholds a (if c then p else q).1 := by
  split
  · exact x
  · exact y

theorem Upholds.ite_snd_snd {d : Decidable c} {p q : α × β × State} (x : Upholds a p.2.2) (y : Upholds a q.2.2) :
    Upholds a (if c then p else q).2.2 := by
  split
  · exact x
  · exact y

theorem Upholds.ite_state {d : Decidable c} {p q : Act} (x : Upholds a p.state) (y : Upholds a q.state) : Upholds a (if c then p else q).state := by
  split
  · exact x
  · exact y

theorem Upholds.dite_snd {d : Decidable c} {p : c → α × State} {q : ¬ c → α × State} (x : ∀ h, Upholds a (p h).2) (y : ∀ h, Upholds a (q h).2) :
    Upholds a (if h : c then p h else q h).2 := by
  split
  · exact x _
  · exact y _

/-- What may be done then, with the reason for it. -/
theorem Upholds.dmaybe {d : Decidable c} {t : c → State} (x : Upholds a s) (y : ∀ h, Upholds a s → Upholds a (t h)) :
    Upholds a (if h : c then t h else s) := .dite (fun h => y h x) fun _ => x

/-- What may be done then, where the state stands second in a pair. -/
theorem Upholds.maybe_snd {d : Decidable c} {p q : α × State} (x : Upholds a q.2) (y : Upholds a q.2 → Upholds a p.2) :
    Upholds a (if c then p else q).2 := .ite_snd (y x) x

/-! ### One thing for each member of a list -/

theorem Upholds.fold {f : State → β → State} {l : List β} (h : Upholds a s) (hf : ∀ u x, Upholds a u → Upholds a (f u x)) :
    Upholds a (l.foldl f s) := by
  induction l generalizing s with
  | nil => exact h
  | cons x xs ih => exact ih (hf _ _ h)

/-- A fold that also carries something else, the state first. -/
theorem Upholds.fold_fst {f : State × α → β → State × α} {l : List β} {p : State × α} (h : Upholds a p.1)
    (hf : ∀ q x, Upholds a q.1 → Upholds a (f q x).1) : Upholds a (l.foldl f p).1 := by
  induction l generalizing p with
  | nil => exact h
  | cons x xs ih => exact ih (hf _ _ h)

/-- A fold that also carries something else, the state second. -/
theorem Upholds.fold_snd {f : α × State → β → α × State} {l : List β} {p : α × State} (h : Upholds a p.2)
    (hf : ∀ q x, Upholds a q.2 → Upholds a (f q x).2) : Upholds a (l.foldl f p).2 := by
  induction l generalizing p with
  | nil => exact h
  | cons x xs ih => exact ih (hf _ _ h)

end

end Sys2Proof.Machine
end

section
/-! What modifiers of one part, and the operations that the families share, uphold. -/

namespace Sys2Proof.Machine

set_option Elab.async false

variable {a s : State} (h : Upholds a s)
include h

/-! ### The parts of the state -/

theorem Upholds.onHearth {f} : Upholds a (s.onHearth f) := h.step
theorem Upholds.onClock {f} : Upholds a (s.onClock f) := h.step
theorem Upholds.onKeys {f} : Upholds a (s.onKeys f) := h.step

theorem Upholds.onHost {f} (sluices : ∀ x, (f x).sluices = x.sluices := by intro _; rfl) (table : ∀ x, (f x).table = x.table := by intro _; rfl) :
    Upholds a (s.onHost f) :=
  h.step (sluices := fun i => by rw [State.onHost_host, sluices]; exact i.sluices) (noP0 := fun p => by rw [State.onHost_host, table]; exact p)

theorem Upholds.onJobs {f} : Upholds a (s.onJobs f) := h.step

theorem Upholds.onCnt {f} (count : ∀ x, (f x).count = x.count := by intro _; rfl) : Upholds a (s.onCnt f) :=
  h.step (counters := fun i => by rw [State.onCnt_cnt, count]; exact i.counters)

theorem Upholds.onLog {f} (staged : ∀ x, x.staged.length ≤ 256 → (f x).staged.length ≤ 256 := by intro _ h; exact h) : Upholds a (s.onLog f) :=
  h.step (staged := fun i => staged _ i.staged)

theorem Upholds.onGrate {f} : Upholds a (s.onGrate f) := h.step
theorem Upholds.onSens {f} : Upholds a (s.onSens f) := h.step
theorem Upholds.onNrg {f} : Upholds a (s.onNrg f) := h.step
theorem Upholds.onBil {f} : Upholds a (s.onBil f) := h.step
theorem Upholds.onMseal {f} : Upholds a (s.onMseal f) := h.step

theorem Upholds.onFw {f} (backup : ∀ x b, (f x).backup = some b → x.backup = some b := by intro _ _ h; exact h) : Upholds a (s.onFw f) :=
  h.step (backup := fun i b e => i.backup b (backup _ b e))

theorem Upholds.onGuard {f} : Upholds a (s.onGuard f) := h.step
theorem Upholds.onSeqr {f} : Upholds a (s.onSeqr f) := h.step
theorem Upholds.onVeh {f} : Upholds a (s.onVeh f) := h.step
theorem Upholds.onLsw {f} : Upholds a (s.onLsw f) := h.step
theorem Upholds.onRdr {f} : Upholds a (s.onRdr f) := h.step

theorem Upholds.onTag {f} (mem : ∀ x, Memory.wf x.mem = true → Memory.wf (f x).mem = true := by intro _ h; exact h) : Upholds a (s.onTag f) :=
  h.step (tagMem := fun i => mem _ i.tagMem)

theorem Upholds.onMesh {f} : Upholds a (s.onMesh f) := h.step
theorem Upholds.onPwr {f} : Upholds a (s.onPwr f) := h.step

/-! ### Operations that the families share -/

theorem Upholds.setReg {r ix v} : Upholds a (s.setReg r ix v) := h.step (regs := fun i => rising_putKey _ _ _ i.regs)
theorem Upholds.setFld {r f ix x} : Upholds a (s.setFld r f ix x) := h.setReg

theorem Upholds.takeUp {c q} : Upholds a (s.takeUp c q) :=
  h.fold fun _ _ h' => by
    split
    · exact .ite (h'.step (use := fun i => rising_putKey _ _ _ i.use)) h'
    · exact h'

theorem Upholds.takeField {r f ix} : Upholds a (s.takeField r f ix) := h.step (use := fun i => rising_putKey _ _ _ i.use)
theorem Upholds.latch {r ix bits} : Upholds a (s.latch r ix bits) := h.step (sticky := fun i => rising_putKey _ _ _ i.sticky)

theorem Upholds.draw : Upholds a s.draw.2 := by
  unfold State.draw
  exact h.step

theorem Upholds.drawBytes {n} : Upholds a (s.drawBytes n).2 := by
  unfold State.drawBytes
  exact h.step

/-- A performance counter stays below 2^48 (R518). -/
theorem Upholds.bump {k n} : Upholds a (s.bump k n) :=
  h.step (counters := fun i => ((Keeps.same s).bump k n |>.inv i).counters)

/-- At most 256 entries wait (R528). -/
theorem Upholds.logRaw {ev inst polder origin a0 a1} : Upholds a (s.logRaw ev inst polder origin a0 a1) :=
  (h.onLog fun _ hl => EventLog.stage_length _ _ hl).bump

theorem Upholds.logEv {ev inst polder origin a0 a1} : Upholds a (s.logEv ev inst polder origin a0 a1) := by
  unfold State.logEv
  exact .ite h.onLog.logRaw h.onLog

theorem Upholds.span {outs bit} : Upholds a (s.span outs bit) := h.onMseal

theorem Upholds.tamperWall {digital} : Upholds a (s.tamperWall digital).2 := by
  unfold State.tamperWall
  exact .ite_snd h (.ite_snd h h.draw)

theorem Upholds.tamper {k arg digital} : Upholds a (s.tamper k arg digital) := by
  unfold State.tamper
  exact h.tamperWall.onMseal.span.logEv

theorem Upholds.onJob {j f} : Upholds a (s.onJob j f) := h.onJobs
theorem Upholds.finishJob {j err} : Upholds a (s.finishJob j err) := .ite h h.onJob
theorem Upholds.cancelJob {j} : Upholds a (s.cancelJob j) := h.onJob

theorem Upholds.addRecord {j type words} : Upholds a (s.addRecord j type words) := by
  unfold State.addRecord
  exact .ite h (.ite h.onJob h.finishJob)

theorem Upholds.startJob {j cancellable} : Upholds a (s.startJob j cancellable) := h.onJob
theorem Upholds.onSlot {n f} : Upholds a (s.onSlot n f) := h.onKeys
theorem Upholds.refuse {status slot engine polder keyReg} : Upholds a (s.refuse status slot engine polder keyReg) := h.onKeys.bump

theorem Upholds.keyUse {n engine polder} : Upholds a (s.keyUse n engine polder).2 := by
  unfold State.keyUse
  split
  · exact h.refuse.logEv
  · exact h.onSlot.bump

theorem Upholds.orphanFrom {n} : Upholds a (s.orphanFrom n).2 := by
  unfold State.orphanFrom
  dsimp only
  exact h.onKeys

theorem Upholds.emptySlot {n} : Upholds a (s.emptySlot n).2 := by
  unfold State.emptySlot
  dsimp only
  exact h.orphanFrom.onSlot

theorem Upholds.fillSlot {n k} : Upholds a (s.fillSlot n k).2 := by
  unfold State.fillSlot
  dsimp only
  exact h.orphanFrom.drawBytes.onSlot

theorem Upholds.onSession {i f} (polder : ∀ x, (f x).polder = x.polder := by intro _; rfl) : Upholds a (s.onSession i f) :=
  h.step (noP0 := fun p => p.upd fun u hu x e => by
    cases u with
    | host y => obtain rfl := SidUse.host.inj e; rw [polder]; exact hu y rfl
    | free => cases e
    | vehicle o => cases e
    | card c => cases e
    | mesh n => cases e)

theorem Upholds.allocSid {u i t} (hu : ∀ x, u = .host x → x.polder ≠ 0) (e : s.allocSid u = some (i, t)) : Upholds a t := by
  unfold State.allocSid at e
  split at e
  · split at e
    · cases e
    · cases e
      exact h.step (noP0 := fun p => p.set hu)
  · cases e

theorem Upholds.freeSid {i} : Upholds a (s.freeSid i) := by
  unfold State.freeSid
  split
  · exact h
  · exact h.step (noP0 := fun p => p.set fun _ e => by cases e)

theorem Upholds.closeSession {i} : Upholds a (s.closeSession i) := by
  unfold State.closeSession
  split
  · exact h
  · refine .unless (Upholds.onFw (Upholds.freeSid ?_)) fun k => k.onHost
    split
    · exact h.emptySlot
    · exact h

theorem Upholds.closeWhere {q} : Upholds a (s.closeWhere q) := h.fold fun _ _ h' => by
  split
  · exact .ite h'.closeSession h'
  · exact h'

theorem Upholds.post {n msg} : Upholds a (s.post n msg) :=
  h.step (sluices := fun i => ((Keeps.same s).post n msg |>.inv i).sluices)

/-! ### The dike and notices (R36 to R48) -/

theorem Upholds.dikeRefuse {polder port addr} : Upholds a (s.dikeRefuse polder port addr) := h.refuse.logEv
theorem Upholds.replyTo {port src sid status payload} : Upholds a (s.replyTo port src sid status payload) := h.onHost

theorem Upholds.reply {sid status payload} : Upholds a (s.reply sid status payload) := by
  unfold State.reply
  split
  · exact h.replyTo
  · exact h.replyTo

theorem Upholds.putFields {r ix v clamp running} : Upholds a (s.putFields r ix v clamp running).2 := by
  unfold State.putFields
  dsimp only
  exact .ite_snd h h.setReg

theorem Upholds.notice {kind sid pilot cause seq idType ident p} : Upholds a (s.notice kind sid pilot cause seq idType ident p) := by
  unfold State.notice
  exact .ite h.post h.post.post

/-! ### What the sequencer tells billing (R225 to R228) -/

theorem Upholds.storeUse : Upholds a s.storeUse := .ite h.keyUse h
theorem Upholds.sealWrite {f} : Upholds a (s.sealWrite f) := h.storeUse.onMseal

theorem Upholds.onJournal {f} : Upholds a (s.onJournal f) := by
  unfold State.onJournal
  exact h.onBil.fold fun _ _ h' => h'.storeUse

theorem Upholds.billStart {o sid tb} : Upholds a (s.billStart o sid tb) := h.onJournal
theorem Upholds.billOutcome {o sid tb accepted} : Upholds a (s.billOutcome o sid tb accepted) := h.onJournal
theorem Upholds.billEnd {o tb} : Upholds a (s.billEnd o tb) := h.onJournal

end Sys2Proof.Machine
end

section
/-! What the Grate, the sequencer, the Fireguard and the allocation uphold. -/

namespace Sys2Proof.Machine

set_option Elab.async false

variable {a s : State} (h : Upholds a s)
include h

/-! ### The frame of the Grate, its conditioners and votes (chapter 04) -/

theorem Upholds.startSensing {locked} : Upholds a (s.startSensing locked) := by
  unfold State.startSensing
  exact h.takeUp.onSens

theorem Upholds.icLoss {p n} : Upholds a (s.icLoss p n) := by
  unfold State.icLoss
  exact .ite h.latch.logEv h.latch

theorem Upholds.loseIc {n} : Upholds a (s.loseIc n) := by
  unfold State.loseIc
  split
  · exact h
  · exact .ite h.onGrate.icLoss h

theorem Upholds.keepSteady {n l} : Upholds a (s.keepSteady n l) := h.latch

@[simp] theorem Upholds.icLost {n steady} : Upholds a (icLost n steady s) := by
  unfold Machine.icLost
  split
  · exact h
  · exact .ite (.ite h.onGrate.keepSteady.loseIc h) (.ite h h.loseIc)

@[simp] theorem Upholds.icBack {n} : Upholds a (icBack n s) := by
  unfold Machine.icBack
  split
  · exact .ite h.onGrate h
  · exact h

theorem Upholds.icBits {p n format bits} : Upholds a (s.icBits p n format bits) :=
  .maybe (.maybe h.onGrate.keepSteady fun k => k.icLoss) fun k => .maybe k.latch fun k => k.span

theorem Upholds.frameIcs {p bits} : Upholds a (frameIcs p bits s) := h.fold fun _ _ h' => .dite (fun _ => h'.icBits) fun _ => h'
theorem Upholds.frameVotes {p} : Upholds a (frameVotes p s) := h.fold fun _ _ h' => .dite (fun _ => .ite h'.onGrate.latch h'.onGrate) fun _ => h'
theorem Upholds.endRun {index i} : Upholds a (s.endRun index i) := .ite h.logEv h

theorem Upholds.frameInteg {p} : Upholds a (frameInteg p s) :=
  h.fold fun _ _ h' => .dmaybe h' fun _ h' =>
    .dmaybe (Upholds.onGrate (.maybe (.maybe h' fun k => k.span) fun k => k.endRun)) fun _ k => .maybe k.onNrg fun k => k.latch

theorem Upholds.frameLive {p} : Upholds a (frameLive p s) := by
  unfold Machine.frameLive
  refine Upholds.fold (h.fold fun u q h' => ?_) fun u o h' => ?_
  · split
    · exact .dite (fun _ => h'.onNrg) fun _ => h'
    · exact h'
  · dsimp only
    split
    · exact .ite h'.onNrg.latch.span h'.onNrg
    · exact h'

theorem Upholds.blankLatch {p} : Upholds a (blankLatch p s) := h.latch
theorem Upholds.countLosses {p} : Upholds a (countLosses p s) := h.onGrate.onSens
theorem Upholds.trackFrames {p} : Upholds a (trackFrames p s) := h.onSens
theorem Upholds.laneFrame {p} : Upholds a (laneFrame p s) := h.onGuard
theorem Upholds.magKeep : Upholds a s.magKeep := h.onSens
theorem Upholds.fgFrame {i} : Upholds a (fgFrame i s) := h.onSens.magKeep
theorem Upholds.rcdFrame {i} : Upholds a (rcdFrame i s) := h.onGuard

theorem Upholds.dropTracks {o} : Upholds a (s.dropTracks o) := by
  unfold State.dropTracks
  split
  · exact h
  · exact h.onSens

theorem Upholds.measureOff : Upholds a s.measureOff := h.onSens

theorem Upholds.measureFrame : Upholds a (measureFrame s) := by
  unfold Machine.measureFrame
  split
  · exact h
  · refine .ite h.measureOff ?_
    split
    · exact h.finishJob.measureOff
    · refine .ite (Upholds.measureOff (Upholds.finishJob (Upholds.addRecord ?_)))
        (.ite (Upholds.measureOff (Upholds.finishJob ?_)) (Upholds.onSens ?_))
      all_goals exact .maybe h fun k => k.addRecord

theorem Upholds.frameStep {p i} : Upholds a (frameStep p i s) := by
  unfold Machine.frameStep
  exact h.takeUp.fgFrame.rcdFrame.frameIcs.onGrate.frameInteg.frameVotes.frameLive.onNrg.onGrate.blankLatch
    |>.countLosses.trackFrames.measureFrame.laneFrame.onGrate.bump.bump

@[simp] theorem Upholds.grateFrame {i} : Upholds a (grateFrame i s) := by
  unfold Machine.grateFrame
  split
  · exact h.takeUp.measureFrame
  · exact .ite h.frameStep h

@[simp] theorem Upholds.voteBad {g} : Upholds a (voteBad g s) := by
  unfold Machine.voteBad
  split
  · exact .ite h.onGrate.logEv h
  · exact h

@[simp] theorem Upholds.voteGood {g} : Upholds a (voteGood g s) := by
  unfold Machine.voteGood
  exact .ite h.onGrate h

/-! ### Shared operations of the sequencer (chapter 10) -/

theorem Upholds.onSo {o f} : Upholds a (s.onSo o f) := h.onSeqr
theorem Upholds.onGo {o f} : Upholds a (s.onGo o f) := h.onGuard
theorem Upholds.onChan {n f} : Upholds a (s.onChan n f) := h.onLsw
theorem Upholds.gateChans {o closed} : Upholds a (s.gateChans o closed) := h.fold fun _ _ h' => .ite ((Upholds.ite h'.takeField h').onChan) h'
theorem Upholds.setGate {o v} : Upholds a (s.setGate o v) := .ite h ((Upholds.ite h.dropTracks h).onGo.gateChans)

theorem Upholds.regate {o} : Upholds a (s.regate o) := by
  unfold State.regate
  exact h.setGate

theorem Upholds.request {o v} : Upholds a (s.request o v) := h.onGo.regate
theorem Upholds.setHv {o v} : Upholds a (s.setHv o v) := h.onGo.regate
theorem Upholds.onPilot {o f} : Upholds a (s.onPilot o f) := h.onVeh
theorem Upholds.drivePilot {o d} : Upholds a (s.drivePilot o d) := h.onPilot

theorem Upholds.isoDrive {n halfB on} : Upholds a (s.isoDrive n halfB on) := by
  unfold State.isoDrive
  exact h.fold fun _ _ h' => .ite h'.onChan h'

theorem Upholds.monitorOf {o was now} : Upholds a (s.monitorOf o was now) := .dite (fun _ => .ite h (.ite h.onGuard.isoDrive h.isoDrive)) fun _ => h

theorem Upholds.enter {o x} : Upholds a (s.enter o x) := by
  unfold State.enter
  exact h.onSo.monitorOf.drivePilot

theorem Upholds.newMask {sid} : Upholds a (s.newMask sid).2 := by
  unfold State.newMask
  dsimp only
  exact h.keyUse.drawBytes

theorem Upholds.driveLock {o release} : Upholds a (s.driveLock o release) := by
  unfold State.driveLock
  split
  · exact h
  · exact h.onChan.onChan

theorem Upholds.reportStart {o} : Upholds a (s.reportStart o) := by
  unfold State.reportStart
  dsimp only
  split
  · exact h
  · exact h.onSo.billStart

theorem Upholds.endSession {o} : Upholds a (s.endSession o) := by
  unfold State.endSession
  exact .ite h ((Upholds.ite h.billEnd h).onSo.notice)

theorem Upholds.stopCause {o cause} : Upholds a (s.stopCause o cause) := h.onSo
theorem Upholds.withdraw {o} : Upholds a (s.withdraw o) := h.request.endSession

theorem Upholds.toFault {o cause} : Upholds a (s.toFault o cause) := by
  unfold State.toFault
  exact h.stopCause.withdraw.onSo.enter.logEv

theorem Upholds.toRollback {o toLink} : Upholds a (s.toRollback o toLink) := h.onSo.enter

theorem Upholds.startFive {o} : Upholds a (s.startFive o) := by
  unfold State.startFive
  exact h.onSo

theorem Upholds.stopOut {o cause} : Upholds a (s.stopOut o cause) := by
  unfold State.stopOut
  dsimp only
  split
  · exact h.stopCause.endSession.startFive.enter
  · exact h.stopCause.endSession.startFive.enter
  · exact h.stopCause.toRollback
  · exact h.stopCause.toRollback
  · exact h.stopCause.toRollback
  · exact h.stopCause.enter
  · exact h.stopCause.enter
  · exact h.stopCause.enter
  · exact h.stopCause.enter
  · exact h.stopCause.enter
  · exact .ite h.stopCause.onSo h
  · exact h

theorem Upholds.hvFell {o cause} : Upholds a (s.hvFell o cause) := .ite (.ite h.onSo h.toFault) h

theorem Upholds.seeFall {o} : Upholds a (s.seeFall o) := by
  unfold State.seeFall
  split
  · exact h.onSo.hvFell
  · exact h

theorem Upholds.toUnlock {o} : Upholds a (s.toUnlock o) := by
  unfold State.toUnlock
  dsimp only
  split
  · exact h.startFive.driveLock.enter
  · exact h.startFive.enter

theorem Upholds.startCheck {o v} : Upholds a (s.startCheck o v) := .dite (fun _ => h.onGuard) fun _ => h
theorem Upholds.trySpec {o} : Upholds a (s.trySpec o) := .ite h.reportStart.enter.startCheck.request h
theorem Upholds.linkAccepted {o} : Upholds a (s.linkAccepted o) := .ite h.onSo.enter.startCheck.request h.enter

theorem Upholds.toLink {o} : Upholds a (s.toLink o) := by
  unfold State.toLink
  exact .ite ((Upholds.ite h.enter.onSo h.enter).linkAccepted) ((Upholds.ite h.enter.onSo h.enter).trySpec)

theorem Upholds.tryLink {o} : Upholds a (s.tryLink o) := by
  unfold State.tryLink
  exact .ite h.toLink h

theorem Upholds.toLock {o} : Upholds a (s.toLock o) := by
  unfold State.toLock
  split
  · exact h
  next e => exact (h.allocSid (fun _ k => by cases k) e).takeUp.newMask.onSo.enter.driveLock.notice.tryLink

theorem Upholds.judgeCheck {o} : Upholds a (s.judgeCheck o) := by
  unfold State.judgeCheck
  split
  · exact h
  · exact .ite (.ite h.enter (.ite h.onSo.enter.startCheck h)) h

theorem Upholds.checkGood {o v} : Upholds a (s.checkGood o v) := by
  unfold State.checkGood
  dsimp only
  split
  · exact h.onSo.enter
  · exact h.onSo.judgeCheck
  · exact h

theorem Upholds.checkBad {o} : Upholds a (s.checkBad o) := by
  unfold State.checkBad
  dsimp only
  split
  · exact h.stopCause.toRollback
  · exact h.stopCause.toRollback
  · exact h.stopCause.toRollback
  · exact h.stopCause.enter
  · exact h

theorem Upholds.tellOutcome {o outcome idType ident} : Upholds a (s.tellOutcome o outcome idType ident) := h.notice

theorem Upholds.reportOutcome {o accepted} : Upholds a (s.reportOutcome o accepted) := by
  unfold State.reportOutcome
  exact h.reportStart.billOutcome

theorem Upholds.outcomeTooLate {o} : Upholds a (s.outcomeTooLate o) := h.logEv

theorem Upholds.accept {o} : Upholds a (s.accept o) := by
  unfold State.accept
  refine .ite h.outcomeTooLate (.ite h.onSo.reportOutcome ?_)
  dsimp only
  split
  · exact h.onSo.reportOutcome.linkAccepted
  · exact h.onSo.reportOutcome.enter.judgeCheck
  · exact h.onSo.reportOutcome.enter
  · exact h.onSo.reportOutcome.enter
  · exact h.onSo.reportOutcome

theorem Upholds.deny {o cause} : Upholds a (s.deny o cause) := by
  unfold State.deny
  exact .ite h.outcomeTooLate (.ite h.onSo.reportOutcome h.onSo.reportOutcome.stopOut)

theorem Upholds.withdrawAuth {o cause} : Upholds a (s.withdrawAuth o cause) := h.deny

/-! ### Firmware slots and the boot record (R491 to R509) -/

theorem Upholds.onComp {k f} : Upholds a (s.onComp k f) := h.onFw fun x b e => by rw [Update.write_backup] at e; exact e

theorem Upholds.dropUpdate : Upholds a s.dropUpdate := h.onFw fun x b e => by
  split at e
  · dsimp only at e
    split at e
    · exact e
    · rw [Update.wipe_backup] at e; exact e
  · exact e

theorem Upholds.dropUpdateOf {j} : Upholds a (s.dropUpdateOf j) := .ite h.dropUpdate h

theorem Upholds.restoreSettings : Upholds a s.restoreSettings := by
  unfold State.restoreSettings
  split
  next e => exact h.step (regs := fun i => i.backup _ e) (backup := fun _ _ k => by cases k)
  · exact h

theorem Upholds.revertSlots {k cause} : Upholds a (s.revertSlots k cause) := by
  unfold State.revertSlots
  exact (Upholds.ite ((Upholds.ite h.tamper h).onComp.onFw.restoreSettings) ((Upholds.ite h.tamper h).onComp.onFw)).logEv

theorem Upholds.countStart {k} : Upholds a (s.countStart k) := by
  unfold State.countStart
  exact .ite h (.ite h.revertSlots (.ite h.revertSlots h.onComp))

/-! ### Shared operations of the Fireguard (chapter 11) -/

theorem Upholds.settleA {o} : Upholds a (s.settleA o) := by
  unfold State.settleA
  exact .ite ((Upholds.ite h.onGo h).onSo) (.ite h.onGo h)

theorem Upholds.drop {o r} : Upholds a (s.drop o r) := by
  unfold State.drop
  exact .ite ((Upholds.ite h.onGo h).setHv.onGo.logEv.hvFell) ((Upholds.ite h.onGo h).onGo)

theorem Upholds.dropAll {os r} : Upholds a (s.dropAll os r) := h.fold fun _ _ h' => h'.drop

theorem Upholds.declareWelded {o} : Upholds a (s.declareWelded o) := by
  unfold State.declareWelded
  exact .ite h.onGo.drop.toFault h.onGo.drop

theorem Upholds.demandTest {d} : Upholds a (s.demandTest d) := h.onGuard

theorem Upholds.guardRestart {cause} : Upholds a (s.guardRestart cause) := by
  unfold State.guardRestart
  exact (Upholds.ite h.dropAll h.dropAll.countStart).onGuard

theorem Upholds.safeEnd : Upholds a s.safeEnd := by
  unfold State.safeEnd
  split
  · refine .ite ?_ h
    split
    · exact h.onGuard.guardRestart
    · exact h.onGuard
  · exact h

theorem Upholds.safeOff {trigger outs thenReset} : Upholds a (s.safeOff trigger outs thenReset) := by
  unfold State.safeOff
  exact (h.onGuard.fold fun _ _ h' => .ite h'.drivePilot h').safeEnd

theorem Upholds.safeDrop {o} : Upholds a (s.safeDrop o) := by
  unfold State.safeDrop
  split
  · exact .ite h.drop.onGuard.safeEnd h
  · exact h

theorem Upholds.monitorDrop {o r} : Upholds a (s.monitorDrop o r) := h.drop.safeOff
theorem Upholds.enterDegraded {cause} : Upholds a (s.enterDegraded cause) := .ite h (h.onGuard.logEv.fold fun _ _ h' => .ite h'.stopOut h')

/-! ### Pulse generators (R388 to R391) -/

theorem Upholds.pgSync {k} : Upholds a (s.pgSync k) := by
  unfold State.pgSync
  dsimp only
  split
  · exact h.onLsw
  · exact h.onLsw

theorem Upholds.phaseSync {n} : Upholds a (s.phaseSync n) := by
  unfold State.phaseSync
  exact h.onLsw

theorem Upholds.pgStart : Upholds a s.pgStart := by
  unfold State.pgStart
  exact h.onLsw

/-! ### Power allocation (R330 to R337) -/

theorem Upholds.newShare : Upholds a s.newShare := .ite h.onSeqr h
theorem Upholds.setPumps : Upholds a s.setPumps := h.fold fun _ _ h' => .ite h'.setFld.pgSync h'

/-! ### Timers, cabinets and host commands of the sequencer (chapter 10) -/

theorem Upholds.pollOut {o} : Upholds a (s.pollOut o) := by
  unfold State.pollOut
  dsimp only
  split
  · exact .ite (.ite h.toLock h) h.enter
  · exact .ite (.ite h.enter (.ite h.toLock h)) h
  · exact h.tryLink
  · exact h.trySpec
  · exact h

theorem Upholds.pollAll : Upholds a s.pollAll := h.fold fun _ _ h' => h'.pollOut

@[simp] theorem Upholds.seqLockTimeout {o} : Upholds a (seqLockTimeout o s) := by
  unfold Machine.seqLockTimeout
  exact .ite h.toFault h

@[simp] theorem Upholds.seqSpecHold {o} : Upholds a (seqSpecHold o s) := .ite h.onSo.toRollback h

@[simp] theorem Upholds.seqNoOutcome {o} : Upholds a (seqNoOutcome o s) := by
  unfold Machine.seqNoOutcome
  exact .ite h.withdrawAuth h

@[simp] theorem Upholds.seqRollbackTimeout {o} : Upholds a (seqRollbackTimeout o s) := .ite h.toFault h

@[simp] theorem Upholds.seqUnplugged {o} : Upholds a (seqUnplugged o s) := by
  refine .ite ((Upholds.onSo ?_).onVeh.enter.pollOut) h
  split
  · exact h.settleA.freeSid
  · exact h.settleA

@[simp] theorem Upholds.seqZeroPause {o} : Upholds a (seqZeroPause o s) := .ite h.enter h

@[simp] theorem Upholds.seqPauseLimit {o} : Upholds a (seqPauseLimit o s) := by
  unfold Machine.seqPauseLimit
  exact .ite h.stopOut h

theorem Upholds.toWeldcheck {o} : Upholds a (s.toWeldcheck o) := h.withdraw.enter

theorem Upholds.pilotSeen {o} : Upholds a (s.pilotSeen o) := by
  unfold State.pilotSeen
  dsimp only
  split
  · exact h.pollOut
  · exact h.pollOut
  · exact .ite h.stopCause.endSession.startFive.enter h.pollOut
  · exact .ite h.stopCause.endSession.startFive.enter h.pollOut
  · refine .ite h.toFault (.ite h ?_)
    split
    · exact h.request.enter
    · exact h.request.enter
    · exact h.request.enter
    · exact h.request
    · exact h.toWeldcheck
    · exact h

theorem Upholds.ppSeen {o} : Upholds a (s.ppSeen o) := by
  unfold State.ppSeen
  exact .ite (.ite h.toFault (.ite h.stopCause.endSession.startFive.enter h)) h.pollOut

@[simp] theorem Upholds.seqStopTimeout {o} : Upholds a (seqStopTimeout o s) := .ite h.logEv.toWeldcheck h
@[simp] theorem Upholds.seqAcStop {o} : Upholds a (seqAcStop o s) := .ite h.toWeldcheck h
@[simp] theorem Upholds.seqFiveEnd {o} : Upholds a (seqFiveEnd o s) := .ite h.onSo.drivePilot h

@[simp] theorem Upholds.seqVoltage {o mv} : Upholds a (seqVoltage o mv s) := by
  unfold Machine.seqVoltage
  dsimp only
  split
  · exact .ite h.enter h
  · split
    · exact .ite h.enter h
    · exact h
  · exact h

@[simp] theorem Upholds.seqBelow60 {o mv} : Upholds a (seqBelow60 o mv s) := by
  refine .ite ?_ h
  split
  · exact .ite h.request.onSo.toLink h.withdraw.toUnlock
  · exact h.toUnlock
  · exact .ite h.drivePilot h

@[simp] theorem Upholds.seqStopLow {o ma} : Upholds a (seqStopLow o ma s) := .ite h.toWeldcheck h
theorem Upholds.firstCheck {o} : Upholds a (s.firstCheck o) := .dite (fun _ => h.onGuard) fun _ => h
theorem Upholds.sendSetpoints : Upholds a s.sendSetpoints := h.onSeqr.fold fun _ _ h' => .ite ((Upholds.ite h'.onSeqr.firstCheck h'.onSeqr).bump) h'
theorem Upholds.repeatSetpoints : Upholds a s.repeatSetpoints := h.onSeqr.fold fun _ _ h' => h'.onSeqr.bump

@[simp] theorem Upholds.seqStatus {k netB fr} : Upholds a (seqStatus k netB fr s) := by
  unfold Machine.seqStatus
  exact .ite h.bump.onSeqr h.bump

theorem Upholds.loseCab {k} : Upholds a (s.loseCab k) := by
  unfold State.loseCab
  exact h.onSeqr.fold fun _ _ h' => .ite h'.toFault h'.pollOut

@[simp] theorem Upholds.seqCabLost {k} : Upholds a (seqCabLost k s) := by
  unfold Machine.seqCabLost
  exact .ite h.loseCab h

@[simp] theorem Upholds.seqCabStart {k} : Upholds a (seqCabStart k s) := by
  unfold Machine.seqCabStart
  exact .ite h.loseCab h

theorem Upholds.afterAlloc {o} : Upholds a (s.afterAlloc o) := by
  have duty {d} : Upholds a (if (s.so o).state ≠ .charging ∧ (s.veh.pilots[o]).state = 2 then
      ((s.drivePilot o (.pwm d)).request o true).enter o .charging else s.drivePilot o (.pwm d)) :=
    .maybe h.drivePilot fun k => k.request.enter
  have off : Upholds a ((if (s.so o).state = .charging then s.enter o .paused else s).drivePilot o .steady) :=
    Upholds.drivePilot (.maybe h fun k => k.enter)
  unfold State.afterAlloc
  dsimp only
  split
  · split
    · exact .maybe h fun k => k.enter
    · exact h
  · split
    · split
      · exact duty
      · exact off
    · split
      · exact duty
      · exact off
    · split
      · exact duty
      · exact off
    · exact .maybe h fun k => k.toWeldcheck
    · exact h

@[simp] theorem Upholds.seqPeriod : Upholds a (seqPeriod s) :=
  .ite h.repeatSetpoints ((h.pollAll.onSeqr.newShare.onSeqr.fold fun _ _ h' => h'.afterAlloc).setPumps.sendSetpoints)

@[simp] theorem Upholds.seqThermal {o} : Upholds a (seqThermal o s) := .ite h.stopOut h
@[simp] theorem Upholds.seqPumpEnd {o} : Upholds a (seqPumpEnd o s) := .ite h.onSo.setPumps h
@[simp] theorem Upholds.seqDegStop : Upholds a (seqDegStop s) := .ite (h.fold fun _ _ h' => .ite h'.stopOut h') h

theorem Upholds.applyOn : Upholds a s.applyOn := by
  unfold State.applyOn
  exact h.fold fun _ _ h' => .ite h'.onChan h'

theorem Upholds.seeMissed {o} : Upholds a (s.seeMissed o) := by
  unfold State.seeMissed
  exact .ite h.seeFall.onSo.pilotSeen.ppSeen h.seeFall

@[simp] theorem Upholds.seqResume : Upholds a (seqResume s) := .ite (h.onSeqr.onHearth.applyOn.fold fun _ _ h' => h'.seeMissed) h

theorem Upholds.clearOut {o} : Upholds a (s.clearOut o) := by
  unfold State.clearOut
  exact .ite ((Upholds.ite h.onGo h).onSo.pollOut) (.ite h.onGo h)

theorem Upholds.blockOut {o} : Upholds a (s.blockOut o) := by
  unfold State.blockOut
  exact h.onSo.pollOut

theorem Upholds.seqOp {op o} : Upholds a (s.seqOp op o) := by
  unfold State.seqOp
  split
  · exact h.stopOut
  · exact .ite h.driveLock h
  · exact h.clearOut
  · exact h.blockOut
  · exact h.onSo.pollOut
  · exact h

@[simp] theorem Upholds.writeSeqCmd {v} : Upholds a (s.writeSeqCmd v).2 := by
  unfold State.writeSeqCmd
  exact h.fold fun _ _ h' => .ite h'.seqOp h'

@[simp] theorem Upholds.seqShareRaise : Upholds a (seqShareRaise s) := by
  unfold Machine.seqShareRaise
  split
  · exact .ite h.onSeqr h
  · exact h

@[simp] theorem Upholds.seqFallback : Upholds a (seqFallback s) := .ite h.onSeqr h

end Sys2Proof.Machine
end

section
/-! What the vehicle link, authorisation, Flue records and billing uphold. -/

namespace Sys2Proof.Machine

set_option Elab.async false

variable {a s : State} (h : Upholds a s)
include h

/-! ### Shared operations of the vehicle link (chapter 09) -/

theorem Upholds.onModem {m f} : Upholds a (s.onModem m f) := h.onVeh

theorem Upholds.plcSend {o mgmt} : Upholds a (s.plcSend o mgmt).2 := by
  unfold State.plcSend
  refine .ite_snd (.dite_snd (fun _ => .ite_snd h.bump h) fun _ => h) ?_
  split
  · exact h
  · exact .ite_snd h.onModem.bump h.onModem

theorem Upholds.plcRecv {o} : Upholds a (s.plcRecv o) := by
  unfold State.plcRecv
  refine Upholds.bump ?_
  split
  · exact h.onModem
  · exact h

theorem Upholds.commLost {o} : Upholds a (s.commLost o) := by
  unfold State.commLost
  split
  · exact h
  · exact h.stopOut

theorem Upholds.unmatch {o} : Upholds a (s.unmatch o) := by
  unfold State.unmatch
  split
  · exact h.onModem
  · exact h

theorem Upholds.onRun {run f} : Upholds a (s.onRun run f) := h.onVeh

theorem Upholds.closeRun {r} : Upholds a (s.closeRun r) := by
  unfold State.closeRun
  dsimp only
  split
  · exact h.onRun.onVeh.plcSend
  · exact h.onRun.onVeh

theorem Upholds.tlsClose {o} : Upholds a (s.tlsClose o) := by
  unfold State.tlsClose
  exact h.emptySlot.emptySlot.onVeh.commLost

theorem Upholds.answer {o msg failed ongoing args body} : Upholds a (s.answer o msg failed ongoing args body) := by
  unfold State.answer
  dsimp only
  split
  · exact (Upholds.ite_snd h.keyUse h).tlsClose
  · exact (Upholds.ite_snd h.keyUse h).onVeh.plcSend

theorem Upholds.vehMsg {o f} (hf : ∀ {u}, Upholds a u → Upholds a (f u)) : Upholds a (s.vehMsg o f) := by
  unfold State.vehMsg
  refine .ite (.ite ?_ (hf h.plcRecv.onVeh)) h
  dsimp only
  split
  · exact h.plcRecv.onVeh.keyUse.tlsClose
  · exact hf h.plcRecv.onVeh.keyUse

theorem Upholds.onProto {o f} : Upholds a (s.onProto o f) := h.onVeh

theorem Upholds.relayRequest {o kind idType ident body} : Upholds a (s.relayRequest o kind idType ident body) := by
  unfold State.relayRequest
  exact h.onVeh.notice

theorem Upholds.relayIdle {o} : Upholds a (s.relayIdle o) := h.onVeh

/-! ### Authorisation (R304 to R310) -/

theorem Upholds.applyList {v} : Upholds a (s.applyList v).2 := by
  unfold State.applyList
  dsimp only
  split
  · exact .ite_snd h h.storeUse.onVeh.snd
  · exact h.storeUse.onVeh.snd
  · exact h.storeUse.onVeh.snd
  · exact h

theorem Upholds.settle {o accepted idType ident} : Upholds a (s.settle o accepted idType ident) := by
  unfold State.settle
  exact .ite h.relayIdle.tellOutcome.accept h.relayIdle.tellOutcome.deny

theorem Upholds.identify {o idType ident checks} : Upholds a (s.identify o idType ident checks) := by
  unfold State.identify
  refine .ite h.outcomeTooLate (.ite h.logEv (.ite h (.ite h.settle ?_)))
  dsimp only
  split
  · exact h.settle
  · exact .ite h.onSo.relayRequest h.settle

@[simp] theorem Upholds.authIdentify {o id} : Upholds a (authIdentify o id s) := h.vehMsg fun h' => .ite h'.onProto.identify.answer h'.answer

@[simp] theorem Upholds.authDeadline {o} : Upholds a (authDeadline o s) := by
  unfold Machine.authDeadline
  exact .ite h.settle h

theorem Upholds.stale {o} : Upholds a (s.stale o) := h.latch

@[simp] theorem Upholds.takeDecision {o v} : Upholds a (s.takeDecision o v) := by
  unfold State.takeDecision
  refine .ite (.ite (.ite h.outcomeTooLate (.ite h.tellOutcome.withdrawAuth h.stale)) h.stale) (.ite h.settle (.ite ?_ h.stale))
  exact .unless h.relayIdle fun k => k.answer

@[simp] theorem Upholds.writeSalt {k v} : Upholds a (s.writeSalt k v).2 := h.storeUse.setReg.onVeh.snd

/-! ### Flue records (R270 to R276) -/

theorem Upholds.signFlue {b polder} : Upholds a (s.signFlue b polder) := by
  have k : Upholds a (s.keyUse 3 engFLUE polder).2 := h.keyUse
  unfold State.signFlue
  split
  next e => rw [e] at k; exact k
  next e => rw [e] at k; exact k.storeUse.bump.onMseal

theorem Upholds.spanStart {b} : Upholds a (s.spanStart b) := h.onMseal
theorem Upholds.makeFlue {b} : Upholds a (s.makeFlue b) := .ite h.signFlue.spanStart (.ite h.onMseal.spanStart h.onMseal)

/-! ### Booking, re-booking and committing ticks (R220 to R255) -/

theorem Upholds.bookTick {x} : Upholds a (bookTick s x) := .ite h.onMseal.onJournal h.onMseal.onJournal
theorem Upholds.closeInterval : Upholds a s.closeInterval.2 := .ite_snd h.onBil.snd h.onBil.snd

theorem Upholds.closeUntil {t fuel} : Upholds a (State.closeUntil t fuel s).2 := by
  induction fuel generalizing s with
  | zero => exact h
  | succ fuel ih => exact .ite_snd (ih h.closeInterval) h

theorem Upholds.closeDue : Upholds a s.closeDue.2 := by
  unfold State.closeDue
  split
  · exact h
  · exact h
  · exact h.closeUntil

theorem Upholds.periodRecords {l} : Upholds a (s.periodRecords l) := h.fold fun _ _ h' => h'.fold fun _ _ h'' => h''.makeFlue

theorem Upholds.toService {o i e} : Upholds a (s.toService o i e) := by
  unfold State.toService
  exact h.onNrg

theorem Upholds.toTariff {o sid t i e} : Upholds a (s.toTariff o sid t i e) := by
  unfold State.toTariff
  exact h.onBil

theorem Upholds.moveHolds : Upholds a s.moveHolds :=
  h.fold fun _ _ h => h.fold fun _ _ h => by
    split
    · exact h
    · exact (h.fold fun _ _ h => .ite h.toTariff h.toService).onBil.logEv

theorem Upholds.commitOut {t o} : Upholds a (s.commitOut t o) := by
  unfold State.commitOut
  dsimp only
  split
  · exact h.toTariff
  · exact h.onBil
  · exact h.toService

theorem Upholds.endRecords : Upholds a s.endRecords := h.fold fun _ _ h' => h'.fold fun _ _ h'' => .ite h''.makeFlue.onBil h''
theorem Upholds.startRecords : Upholds a s.startRecords := h.fold fun _ _ h' => h'.fold fun _ _ h'' => .ite h''.makeFlue.onBil h''

theorem Upholds.foldCmds : Upholds a s.foldCmds := by
  unfold State.foldCmds
  split
  · exact h
  · exact h.onBil

theorem Upholds.commitTick {t} : Upholds a (s.commitTick t).2 := by
  unfold State.commitTick
  dsimp only
  refine (Upholds.fold ?_ fun _ _ h' => h'.commitOut).onBil.onMseal
  split
  · exact h
  · exact h.closeUntil

theorem Upholds.commitStep {t} : Upholds a (s.commitStep t) := by
  unfold State.commitStep
  exact h.commitTick.moveHolds.closeDue.endRecords.periodRecords.startRecords.foldCmds

theorem Upholds.mark {kind lo hi} : Upholds a (s.mark kind lo hi) := h.onBil
theorem Upholds.meetWall {b wall instant} : Upholds a (s.meetWall b wall instant) := .ite h.mark.onBil (.ite h.onBil h.onBil.tamper)
theorem Upholds.startBill {wall instant} : Upholds a (s.startBill wall instant) := h.onBil

theorem Upholds.retime {instant} : Upholds a (s.retime instant) := by
  unfold State.retime
  exact h.onJournal

theorem Upholds.applyTariffs {t} : Upholds a (s.applyTariffs t) := h.onBil

theorem Upholds.atBoundary {b} : Upholds a (s.atBoundary b) := by
  unfold State.atBoundary
  exact h.takeUp.onBil.applyTariffs

theorem Upholds.passBoundary {tb} : Upholds a (s.passBoundary tb) := by
  unfold State.passBoundary
  refine Upholds.onBil ?_
  split
  · exact h.takeUp
  · exact h.atBoundary

theorem Upholds.bookNext {x} : Upholds a (bookNext s x) := .ite h.bookTick h.bookTick.passBoundary
theorem Upholds.bookAll : Upholds a s.bookAll := (h.fold fun _ _ h' => h'.bookNext).onNrg

/-! ### The billing commands (chapter 07) -/

@[simp] theorem Upholds.billingBoundary : Upholds a (billingBoundary s) := .ite h.bookAll (.ite h h.passBoundary.closeDue.periodRecords)

@[simp] theorem Upholds.tickCommit : Upholds a (tickCommit s) := by
  unfold Machine.tickCommit
  split
  · exact h
  · exact .ite h.commitStep h

@[simp] theorem Upholds.demandIntervalEnd : Upholds a (demandIntervalEnd s) := by
  unfold Machine.demandIntervalEnd
  exact h.closeDue.periodRecords

@[simp] theorem Upholds.periodEnd : Upholds a (periodEnd s) := by
  unfold Machine.periodEnd
  split
  · exact h.onBil.closeDue.periodRecords
  · exact h

@[simp] theorem Upholds.offsetChange : Upholds a (offsetChange s) := by
  unfold Machine.offsetChange
  dsimp only
  split
  · refine .ite ?_ h
    exact h.setReg.onBil.step (use := fun i => rising_putKey _ _ _ i.use)
  · exact h

@[simp] theorem Upholds.calendarSwitch : Upholds a (calendarSwitch s) := by
  unfold Machine.calendarSwitch
  split
  · exact h.onBil
  · exact h

@[simp] theorem Upholds.tariffEffective : Upholds a (tariffEffective s) := by
  unfold Machine.tariffEffective
  split
  · exact .ite h.applyTariffs h
  · exact h

@[simp] theorem Upholds.attrTimeout {o} : Upholds a (attrTimeout o s) := h.fold fun _ _ h' => .ite h'.onBil.billOutcome h'

@[simp] theorem Upholds.slewEnd : Upholds a (slewEnd s) := by
  unfold Machine.slewEnd
  split
  · exact .ite h.onBil h
  · exact h

@[simp] theorem Upholds.holdEnd : Upholds a (holdEnd s) := by
  unfold Machine.holdEnd
  split
  · exact .ite h.onBil h
  · exact h

theorem Upholds.writeBilling : Upholds a s.writeBilling := by
  unfold State.writeBilling
  exact h.storeUse.onBil

@[simp] theorem Upholds.billingStateWrite : Upholds a (billingStateWrite s) := .ite h.writeBilling h

theorem Upholds.firstTime {wall} : Upholds a (s.firstTime wall) := by
  unfold State.firstTime
  exact (Upholds.ite h.step.startBill h.step.meetWall).mark

theorem Upholds.correctTime {wall back} : Upholds a (s.correctTime wall back) := by
  unfold State.correctTime
  dsimp only
  split
  · exact h
  · refine .maybe (Upholds.logEv ?_) fun k => k.latch
    split
    · exact h.step.meetWall.onBil.retime.onBil
    · exact h.step.meetWall.onBil.retime

@[simp] theorem Upholds.writeTimeset {v} : Upholds a (s.writeTimeset v).2 := by
  unfold State.writeTimeset
  dsimp only
  exact (Upholds.ite h.firstTime h.correctTime).onBil

theorem Upholds.ignoreCmd : Upholds a s.ignoreCmd := h.latch

@[simp] theorem Upholds.writeTcmd {w} : Upholds a (s.writeTcmd w).2 := by
  unfold State.writeTcmd
  split
  · refine .ite_snd h.ignoreCmd.snd (.ite_snd h (.ite_snd (Upholds.logEv (Upholds.latch ?_)).snd (Upholds.snd ?_))) <;> split
    · exact h.onJournal.onBil
    · exact h.onJournal
    · exact h.onJournal.onBil
    · exact h.onJournal
  · exact h

@[simp] theorem Upholds.writeDsync {v} : Upholds a (s.writeDsync v).2 := by
  unfold State.writeDsync
  split
  · exact .ite_snd h.ignoreCmd.snd h.onBil.snd
  · exact h

end Sys2Proof.Machine
end

section
/-! What keys, the log, host frames, energy and the seal uphold. -/

namespace Sys2Proof.Machine

set_option Elab.async false

variable {a s : State} (h : Upholds a s)
include h

/-! ### Key derivation, the HSS index and the Flue key (R60, R69, R80, R262) -/

theorem Upholds.bootSlot {n kind engines grant} : Upholds a (s.bootSlot n kind engines grant) := by
  unfold State.bootSlot
  exact h.drawBytes.onSlot

theorem Upholds.bootDerive : Upholds a s.bootDerive := by
  unfold State.bootDerive
  exact .ite ((h.fold fun _ _ h' => h'.bootSlot).bootSlot) (h.fold fun _ _ h' => h'.bootSlot)

theorem Upholds.deriveFlue : Upholds a s.deriveFlue := by
  unfold State.deriveFlue
  exact h.keyUse.fillSlot

theorem Upholds.bootFlue : Upholds a s.bootFlue := .ite h h.drawBytes.onSlot

theorem Upholds.hssSignature {digest} : Upholds a (s.hssSignature digest).2 := by
  have k : Upholds a (s.keyUse 2 engLMS 0).2 := h.keyUse
  unfold State.hssSignature
  refine .ite_snd ?_ h
  split
  next e => rw [e] at k; exact k
  next e => rw [e] at k; exact k.onKeys.snd

theorem Upholds.identitySign {digest} : Upholds a (s.identitySign digest).2 := by
  unfold State.identitySign
  dsimp only
  exact h.keyUse

theorem Upholds.certify : Upholds a s.certify := by
  unfold State.certify
  exact h.identitySign.hssSignature.onMseal.sealWrite

/-! ### Bandwidth windows and the event log (R523 to R532) -/

@[simp] theorem Upholds.logExport {j} : Upholds a (logExport j s) :=
  .ite (.ite h.finishJob ((Upholds.ite h.onJob.addRecord.identitySign.addRecord h.onJob.addRecord).finishJob)) h

@[simp] theorem Upholds.logFlush : Upholds a (logFlush s) := h.onLog fun _ hl => EventLog.flush_length _ hl

@[simp] theorem Upholds.logFold : Upholds a (logFold s) := by
  unfold Machine.logFold
  exact h.onLog.fold fun _ _ h' => h'.logRaw

@[simp] theorem Upholds.flashFault : Upholds a (flashFault s) := h.onLog.onPwr

@[simp] theorem Upholds.bwEnd {p} : Upholds a (bwEnd p s) := by
  unfold Machine.bwEnd
  exact .ite h.onCnt h

@[simp] theorem Upholds.writeBw {v} : Upholds a (s.writeBw v).2 := by
  unfold State.writeBw
  dsimp only
  exact h.putFields.onCnt

theorem Upholds.countBytes {p inn out} : Upholds a (s.countBytes p inn out) := by
  unfold State.countBytes
  exact h.bump.bump.onCnt

/-! ### Host frames in and out (R83 to R115) -/

theorem Upholds.restartPort {p} : Upholds a (s.restartPort p) := h.step (use := fun i => rising_putKey _ _ _ i.use)

@[simp] theorem Upholds.writePort {p v} : Upholds a (s.writePort p v).2 := by
  have k {w x : Nat} : Upholds a { s with regs := putKey (R.SES_PORTCFGn.addr [p.1]) w s.regs, use := putKey (R.SES_PORTCFGn.addr [p.1]) x s.use } :=
    h.step (regs := fun i => rising_putKey _ _ _ i.regs) (use := fun i => rising_putKey _ _ _ i.use)
  exact .maybe k fun k => k.restartPort

theorem Upholds.dropFrame {p} : Upholds a (s.dropFrame p) := h.onHost
theorem Upholds.dropTag {p} : Upholds a (s.dropTag p) := h.onHost
theorem Upholds.countIn {f} : Upholds a (s.countIn f) := h.countBytes

theorem Upholds.respond {f sidIn status count payload attn wrap} : Upholds a (s.respond f sidIn status count payload attn wrap) := by
  unfold State.respond
  refine Upholds.onHost (.ite h (.ite (Upholds.bump ?_) (.ite (Upholds.bump ?_) (.maybe ?_ fun k => k.bump))))
  all_goals
    refine Upholds.countBytes (Upholds.bump ?_)
    split
    · exact .maybe h fun k => k.keyUse
    · exact h

theorem Upholds.plain {f sid status payload} : Upholds a (s.plain f sid status payload) := h.respond

theorem Upholds.intake {op f next} (hf : ∀ {u}, Upholds a u → Upholds a (next u)) : Upholds a (s.intake op f next) := by
  unfold State.intake
  have k : Upholds a (s.onHost (fun h => { h with resp := none })) := h.onHost
  exact .ite k (.ite k.dropFrame (.ite (.ite k.countIn.plain k.dropFrame) (.ite k.countIn.plain
    (.ite (.ite k.countIn.plain k.countIn.plain) (hf k.countIn)))))

theorem Upholds.act {status count} : Upholds a (s.act status count).state := by
  unfold State.act
  exact h

theorem Upholds.served {f i x run after} (hf1 : ∀ {i x u}, Upholds a u → Upholds a (run i x u).state)
    (hf2 : ∀ {i u}, Upholds a u → Upholds a (after i u)) : Upholds a (s.served f i x run after) := by
  have used : Upholds a (if x.sealed = true ∧ (s.slot (x.keySlot.getD 0)).state = .valid then
      (s.keyUse (x.keySlot.getD 0) engAESX x.polder).2 else s) := .maybe h fun k => k.keyUse
  unfold State.served
  refine .ite used.refuse.logEv.respond.closeSession ?_
  dsimp only
  split
  · exact used.respond
  · exact used.respond
  · exact .ite used.respond (.ite used.respond (hf2 (hf1 used.onSession.bump.onPwr).respond))

theorem Upholds.inOrder {f run after} (hf1 : ∀ {i x u}, Upholds a u → Upholds a (run i x u).state)
    (hf2 : ∀ {i u}, Upholds a u → Upholds a (after i u)) : Upholds a (s.inOrder f run after) := by
  unfold State.inOrder
  split
  · exact h.plain
  · exact .ite h.plain (.ite (Upholds.dropTag (.maybe h fun k => k.keyUse)) (.ite h.respond (h.served (fun k => hf1 k) fun k => hf2 k)))

theorem Upholds.ask {i op addr count payload run} (hf : ∀ {i x u}, Upholds a u → Upholds a (run i x u).state) :
    Upholds a (s.ask i op addr count payload run) := by
  unfold State.ask
  split
  · exact h.reply
  · exact .ite h.onHost (.ite h.onHost.countIn.plain (h.onHost.countIn.served (fun k => hf k) fun k => k))

theorem Upholds.onBackoff {p polder f} : Upholds a (s.onBackoff p polder f) := h.onHost

theorem Upholds.takeIn {f g} (hg : (g (newSession f (s.drawBytes 32).1 s.clock.tb)).polder ≠ 0) : Upholds a (s.takeIn f g) := by
  unfold State.takeIn
  dsimp only
  split
  · exact h.plain
  next e => exact (h.drawBytes.allocSid (fun x k => by obtain rfl := SidUse.host.inj k; exact hg) e).bump.plain

theorem Upholds.helloNow {f} : Upholds a (s.helloNow f) := by
  unfold State.helloNow
  refine .ite (.ite h.plain (.ite h.logEv.plain (h.takeIn (Nat.succ_ne_zero 3))))
    (.ite h.plain (.ite h.plain (.ite h.plain (.ite h.plain ?_))))
  split
  · exact h.logEv.plain
  next pol => exact .ite h.dikeRefuse.plain (h.takeIn pol)

theorem Upholds.failOpen {i x} : Upholds a (s.failOpen i x) := by
  unfold State.failOpen
  exact h.logEv.onBackoff.closeSession

theorem Upholds.sessionKey {i x k} : Upholds a (s.sessionKey i x k).2.2 := by
  unfold State.sessionKey
  dsimp only
  split
  · exact .ite_snd h h.keyUse
  · exact h
  · exact (Upholds.ite_snd h h.keyUse).fillSlot

theorem Upholds.proveNow {f i x} : Upholds a (s.proveNow f i x) := by
  have use {u} (k : Upholds a u) : Upholds a (if x.password = true ∨ s.mayCommission x = true then u
      else (u.keyUse (hostKeySlot x.polder) engHMAC x.polder).2) := .unless k fun k => k.keyUse
  unfold State.proveNow
  dsimp only
  split
  · exact (Upholds.failOpen (.maybe h fun k => k.keyUse)).plain
  · refine .ite (use h).failOpen.plain (.ite (Upholds.closeSession ?_).plain ?_)
    · exact .ite_snd_snd (use h) (use h).sessionKey
    · refine Upholds.respond (Upholds.onPwr (Upholds.bump (Upholds.onBackoff (Upholds.onSession (use ?_)))))
      exact .ite_snd_snd (use h) (use h).sessionKey

/-! ### Energy (chapter 06) -/

theorem Upholds.handOff {p} : Upholds a (s.handOff p) := h.fold fun _ _ h' => .dite (fun _ => h'.onGrate.onNrg) fun _ => h'

theorem Upholds.handTick {p short} : Upholds a (s.handTick p short) := by
  unfold State.handTick
  exact h.handOff.onNrg

theorem Upholds.publishAll {p} : Upholds a (publishAll p s) := by
  unfold Machine.publishAll
  exact (h.fold fun _ _ h' => .ite h'.onNrg.span h'.onNrg).onNrg

@[simp] theorem Upholds.tickHandoff : Upholds a (tickHandoff s) := by
  unfold Machine.tickHandoff
  split
  · exact h
  · exact .ite h ((Upholds.ite h.handTick.onNrg.publishAll.onGrate.onSens.span h.handTick.onNrg.publishAll.onGrate.onSens).bump)

@[simp] theorem Upholds.pulseStart {o} : Upholds a (pulseStart o s) := by
  unfold Machine.pulseStart
  exact .ite h.onNrg h

@[simp] theorem Upholds.pulseEnd {o} : Upholds a (pulseEnd o s) := by
  unfold Machine.pulseEnd
  exact .ite h.onNrg h

theorem Upholds.metroSave {reason lastTb us} : Upholds a (s.metroSave reason lastTb us) := by
  unfold State.metroSave
  exact h.storeUse.onNrg

@[simp] theorem Upholds.periodicSave : Upholds a (periodicSave s) := .ite h.metroSave h
theorem Upholds.onLive {o f} : Upholds a (s.onLive o f) := h.onNrg

@[simp] theorem Upholds.phaseseqReversed {o} : Upholds a (phaseseqReversed o s) := by
  unfold Machine.phaseseqReversed
  exact .ite h.onLive.tamper h

@[simp] theorem Upholds.phaseseqEnd {o} : Upholds a (phaseseqEnd o s) := by
  unfold Machine.phaseseqEnd
  exact .ite h.onLive h

@[simp] theorem Upholds.neutralMissing {o} : Upholds a (neutralMissing o s) := by
  unfold Machine.neutralMissing
  exact .ite (.ite h.onLive.tamper.stopOut h.onLive.tamper) h

@[simp] theorem Upholds.neutralEnd {o} : Upholds a (neutralEnd o s) := by
  unfold Machine.neutralEnd
  exact .ite h.onLive h

/-! ### The metrology seal, calibration and the tamper ledger (chapter 08) -/

@[simp] theorem Upholds.sealOpen {j} : Upholds a (sealOpen j s) :=
  .ite (.ite h.finishJob (.ite h.finishJob ((Upholds.ite h.sealWrite h.tamper.sealWrite.onMseal.logEv).addRecord.finishJob))) h

theorem Upholds.closeRecords {type} : Upholds a (s.closeRecords type) := h.fold fun _ _ h' => h'.makeFlue

theorem Upholds.closeStart : Upholds a s.closeStart := by
  unfold State.closeStart
  exact .ite ((h.fold fun _ _ h' => .ite h'.finishJob h').onGrate) (h.fold fun _ _ h' => .ite h'.finishJob h')

theorem Upholds.closeSeal {cause polder} : Upholds a (s.closeSeal cause polder) := by
  unfold State.closeSeal
  refine Upholds.logEv (Upholds.onNrg (Upholds.onMseal (.ite ?_ h.closeStart.sealWrite)))
  exact (Upholds.sealWrite (.unless h.closeStart fun k => k.closeRecords)).onMseal.deriveFlue.certify.closeRecords

@[simp] theorem Upholds.sealClose {j} : Upholds a (sealClose j s) := .ite ((Upholds.ite h.closeSeal h).finishJob) h
@[simp] theorem Upholds.sealAutoClose : Upholds a (sealAutoClose s) := .ite h.closeSeal h

@[simp] theorem Upholds.calWrite {j} : Upholds a (calWrite j s) :=
  .ite (.ite h.finishJob (.ite h.finishJob (.ite h.finishJob h.tamper.sealWrite.onSens.span.addRecord.finishJob))) h

@[simp] theorem Upholds.calMeasure {j} : Upholds a (calMeasure j s) := .ite (.ite h.finishJob (.ite h.finishJob h.startJob.onSens)) h

@[simp] theorem Upholds.flueRead {j} : Upholds a (flueRead j s) := by
  refine .ite (.ite h.finishJob (Upholds.finishJob (h.fold fun u n h' => ?_))) h
  dsimp only
  split
  · exact h'.makeFlue.addRecord
  · exact h'.makeFlue

@[simp] theorem Upholds.flueFetch {j} : Upholds a (flueFetch j s) :=
  .ite (.ite h.finishJob (.ite h.finishJob ((h.fold fun _ _ h' => h'.addRecord).finishJob))) h

@[simp] theorem Upholds.flueCert {j} : Upholds a (flueCert j s) := by
  refine .ite ?_ h
  dsimp only
  split
  · exact h.addRecord.finishJob
  · exact h.finishJob

@[simp] theorem Upholds.flueDeferredSign : Upholds a (flueDeferredSign s) := .ite (h.onMseal.fold fun _ _ h' => h'.signFlue) h

@[simp] theorem Upholds.tamperInput {n} : Upholds a (tamperInput n s) := by
  unfold Machine.tamperInput
  exact .ite h.draw.onMseal.latch.tamper h

theorem Upholds.mergeLedger : Upholds a s.mergeLedger := .ite h.onMseal h
@[simp] theorem Upholds.ledgerMerge : Upholds a (ledgerMerge s) := .ite h.mergeLedger h

end Sys2Proof.Machine
end

section
/-! What power, the key jobs, the mesh and the card reader uphold. -/

namespace Sys2Proof.Machine

set_option Elab.async false

variable {a s : State} (h : Upholds a s)
include h

/-! ### Shared operations of power, clocks and reset (chapter 15) -/

theorem Upholds.takeAnchor : Upholds a s.takeAnchor := h.onPwr
theorem Upholds.stopTb : Upholds a s.stopTb := h.step
theorem Upholds.portsUp : Upholds a s.portsUp := h.onHost
theorem Upholds.lswCold : Upholds a s.lswCold := h.fold fun _ _ h' => .ite h'.onChan h'.onChan
theorem Upholds.mainOff : Upholds a s.mainOff := h.step (life := ⟨.inl rfl, .inl rfl⟩)
theorem Upholds.orderlySave : Upholds a s.orderlySave := h.metroSave

theorem Upholds.clearCold {code} : Upholds a (s.clearCold code) := by
  have k : Upholds a ((s.onNrg (fun n => n.tear s.clock.tb)).lswCold.stopTb.mainOff) := h.onNrg.lswCold.stopTb.mainOff
  exact
    { inv := fun i =>
        { k.inv i with
          tagMem := (h.inv i).tagMem, regs := (h.inv i).regs.filter _, sticky := (h.inv i).sticky.filter _,
          sluices := HostState.reset_sluices_le, counters := Counters.reset_count_lt, staged := Nat.zero_le _ }
      noP0 := fun _ => NoP0.reset
      life := k.life }

theorem Upholds.guardCold {code} : Upholds a (s.guardCold code) := .ite h.safeOff (.ite h.safeOff h.onGuard)
theorem Upholds.coldReset {code} : Upholds a (s.coldReset code) := .ite h.onPwr h.guardCold.clearCold.onHearth

theorem Upholds.coldWhenSafe : Upholds a s.coldWhenSafe := by
  unfold State.coldWhenSafe
  split
  · exact .ite h.orderlySave.coldReset h
  · exact h

theorem Upholds.failover : Upholds a s.failover := by
  unfold State.failover
  exact h.onHearth.onPwr.latch.onSeqr.logEv

theorem Upholds.lswWarm : Upholds a s.lswWarm := h.fold fun _ _ h' => .ite h' h'.onChan

theorem Upholds.warmReset {code} : Upholds a (s.warmReset code) := by
  have k : Upholds a { s with life := { s.life with nonce := none } } := h.step
  unfold State.warmReset
  refine .ite k.orderlySave.coldReset (Upholds.logEv (Upholds.lswWarm (Upholds.onGuard (Upholds.onSeqr (Upholds.fold ?_ fun u j h' => ?_)))))
  · exact k.onPwr.latch.onHearth
  · exact .ite h'.finishJob.dropUpdateOf h'

/-! ### Key jobs, attestation and the life cycle (R53 to R82) -/

theorem Upholds.denyKeyJob {j n} : Upholds a (s.denyKeyJob j n) := h.dikeRefuse.finishJob

theorem Upholds.keyFilled {j n orphans} : Upholds a (s.keyFilled j n orphans) := by
  unfold State.keyFilled
  exact h.logEv.addRecord.finishJob

theorem Upholds.tagKeyOf {k} : Upholds a (s.tagKeyOf k) := h.onTag

@[simp] theorem Upholds.keyDerive {j p} : Upholds a (keyDerive j p s) := by
  refine .ite (.ite h.finishJob (.ite h.denyKeyJob ?_)) h
  split
  · exact h.denyKeyJob
  · refine .ite h.finishJob ?_
    dsimp only
    split
    · exact h.keyUse.finishJob
    · exact h.keyUse.fillSlot.keyFilled

@[simp] theorem Upholds.keyImport {j p} : Upholds a (keyImport j p s) := by
  refine .ite (.ite h.finishJob (.ite h.denyKeyJob ?_)) h
  split
  · exact h.denyKeyJob
  · refine .ite h.finishJob ?_
    dsimp only
    split
    · exact h.keyUse.finishJob
    · split
      · exact h.keyUse.finishJob
      · refine .ite h.keyUse.finishJob (Upholds.keyFilled (.ite h.keyUse.fillSlot.tagKeyOf h.keyUse.fillSlot))

@[simp] theorem Upholds.keyInvalidate {j n} : Upholds a (keyInvalidate j n s) :=
  .ite (.ite h.denyKeyJob ((Upholds.ite h.emptySlot.tagKeyOf h.emptySlot).logEv.addRecord.finishJob)) h

theorem Upholds.attestNow {j nonce} : Upholds a (s.attestNow j nonce) := by
  unfold State.attestNow
  dsimp only
  split
  · exact h.identitySign.hssSignature.finishJob
  · exact (h.identitySign.hssSignature.fold fun _ _ h' => h'.addRecord).finishJob

@[simp] theorem Upholds.attest {j nonce} : Upholds a (attest j nonce s) :=
  .ite (.ite h.finishJob (.ite h.finishJob (.ite h.finishJob (.ite h.startJob.onJob.onKeys h.attestNow)))) h

@[simp] theorem Upholds.hssReady : Upholds a (hssReady s) := .ite (h.onKeys.fold fun _ _ h' => .ite h'.attestNow h') h
theorem Upholds.forget : Upholds a s.forget := h.step (regs := fun i => i.regs.filter _)

@[simp] theorem Upholds.lifeNonce {j} : Upholds a (lifeNonce j s) := by
  have k : Upholds a { s.draw.2 with life := { s.draw.2.life with nonce := some (w64 s.draw.1, s.clock.tb) } } :=
    h.draw.step
  exact .ite (.ite h.finishJob k.addRecord.finishJob) h

@[simp] theorem Upholds.nonceLapse : Upholds a (nonceLapse s) := by
  unfold Machine.nonceLapse
  split
  · exact .ite (h.step (life := ⟨.inl rfl, .inl rfl⟩)) h
  · exact h

@[simp] theorem Upholds.remask : Upholds a (remask s) := .ite ((h.fold fun _ _ h' => h'.drawBytes.onSlot).onKeys) h

@[simp] theorem Upholds.slotExpire {n} : Upholds a (slotExpire n s) := by
  unfold Machine.slotExpire
  exact .ite (.ite h.onSlot.tagKeyOf h.onSlot) h

/-! ### The mains mesh (chapter 14) -/

@[simp] theorem Upholds.meshLock {p spacing} : Upholds a (meshLock p spacing s) := .ite h.onMesh h
@[simp] theorem Upholds.meshUnlock {p} : Upholds a (meshUnlock p s) := h.onMesh
@[simp] theorem Upholds.meshJump {p} : Upholds a (meshJump p s) := h.onMesh
theorem Upholds.meshQueue {f relay} : Upholds a (s.meshQueue f relay) := h.onMesh

theorem Upholds.originate {type payload} : Upholds a (s.originate type payload) := by
  unfold State.originate
  exact h.onMesh.meshQueue

@[simp] theorem Upholds.meshClaim : Upholds a (meshClaim s) := .ite h.originate.onMesh h

@[simp] theorem Upholds.meshTime : Upholds a (meshTime s) := by
  unfold Machine.meshTime
  split
  · exact .ite h.originate.onMesh h
  · exact h

@[simp] theorem Upholds.meshStart : Upholds a (meshStart s) := by
  unfold Machine.meshStart
  split
  · exact h
  · exact .ite h.onMesh h

@[simp] theorem Upholds.meshFail : Upholds a (meshFail s) := by
  unfold Machine.meshFail
  split
  · exact h
  · exact h.onMesh

@[simp] theorem Upholds.meshSent : Upholds a (meshSent s) := by
  unfold Machine.meshSent
  split
  · exact h
  · exact h.onMesh

@[simp] theorem Upholds.meshBad : Upholds a (meshBad s) := h.onMesh
theorem Upholds.onNode {n f} : Upholds a (s.onNode n f) := h.onMesh

theorem Upholds.nodeContext {n t} (e : s.nodeContext n = some t) : Upholds a t := by
  unfold State.nodeContext at e
  split at e
  · cases e; exact h
  · split at e
    next k => cases e; exact (h.allocSid (fun _ l => by cases l) k).onNode
    · cases e

theorem Upholds.standDown {f} : Upholds a (s.standDown f) := h.onMesh

theorem Upholds.meshTake {x f} (hf : ∀ {y u}, Upholds a u → Upholds a (f y u)) : Upholds a (s.meshTake x f) := by
  unfold State.meshTake
  refine .ite h (.ite h.meshBad (.ite h.standDown (.ite (.ite h.standDown h.standDown.onMesh.logEv) (.ite ?_ (.ite h.standDown.onNode h.standDown)))))
  dsimp only
  split
  · exact h.standDown.onMesh
  next e => exact hf (Upholds.onNode (.ite (h.standDown.nodeContext e).onNode (h.standDown.nodeContext e)))

theorem Upholds.meshRelay {x path} : Upholds a (s.meshRelay x path) := .ite h.onMesh h
theorem Upholds.meshClaimed {x sharing path} : Upholds a (s.meshClaimed x sharing path) := h.onNode.meshRelay
@[simp] theorem Upholds.meshClaimIn {x} : Upholds a (meshClaimIn x s) := .ite (h.meshTake (fun h' => h'.meshClaimed)) h
@[simp] theorem Upholds.meshBeaconIn {x} : Upholds a (meshBeaconIn x s) := .ite (h.meshTake (fun h' => h'.meshClaimed)) h
@[simp] theorem Upholds.meshTimeIn {x tb} : Upholds a (meshTimeIn x tb s) := .ite (h.meshTake (fun h' => h'.onMesh)) h

@[simp] theorem Upholds.meshRelayOut : Upholds a (meshRelayOut s) := by
  unfold Machine.meshRelayOut
  split
  · exact h
  · exact .ite h.onMesh.meshQueue h.onMesh

@[simp] theorem Upholds.meshExpire {n} : Upholds a (meshExpire n s) := by
  unfold Machine.meshExpire
  dsimp only
  split
  · exact .ite h.freeSid.onNode h
  · exact h

/-! ### The card reader (chapter 13) -/

theorem Upholds.rdEnter {x} : Upholds a (s.rdEnter x) := h.onRdr

theorem Upholds.dropCard {k} : Upholds a (s.dropCard k) := by
  unfold State.dropCard
  split
  · exact h
  · exact h.freeSid.onRdr

theorem Upholds.dropCards : Upholds a s.dropCards := h.fold fun _ _ h' => h'.dropCard

theorem Upholds.baseline {pings} : Upholds a (s.baseline pings) := by
  unfold State.baseline
  exact h.onRdr

theorem Upholds.follow {p} : Upholds a (s.follow p) := h.onRdr
theorem Upholds.lastPing {p} : Upholds a (s.lastPing p) := h.onRdr

@[simp] theorem Upholds.rdBaseline {pings} : Upholds a (rdBaseline pings s) := by
  unfold Machine.rdBaseline
  exact .ite h.baseline.rdEnter h

@[simp] theorem Upholds.rdPing {p} : Upholds a (rdPing p s) := by
  unfold Machine.rdPing
  split
  · exact .ite h.lastPing.onRdr h.lastPing.follow
  · exact .ite h.lastPing h
  · exact h

@[simp] theorem Upholds.rdConfirm {p} : Upholds a (rdConfirm p s) := .ite (.ite h.lastPing.onRdr.rdEnter h.lastPing.follow.onRdr) h
theorem Upholds.onCard {k f} : Upholds a (s.onCard k f) := h.onRdr

theorem Upholds.applyCard {k o} : Upholds a (s.applyCard k o) := by
  unfold State.applyCard
  split
  · exact h
  · refine (Upholds.ite (Upholds.toLock ?_) h).onCard.post.identify
    split
    · exact h.freeSid
    · exact h

theorem Upholds.applyNone {k} : Upholds a (s.applyNone k) := by
  unfold State.applyNone
  split
  · exact h
  · exact h.newMask.onCard.post

theorem Upholds.holdCard {c} : Upholds a (s.holdCard c) := by
  unfold State.holdCard
  split
  · exact h.onRdr
  · split
    · exact h.onRdr
    next e =>
      have k := h.allocSid (fun _ l => by cases l) e
      dsimp only
      split
      · exact k.onRdr.post.applyCard
      · exact .ite k.onRdr.post.applyNone k.onRdr.post

theorem Upholds.takeCards {cards} : Upholds a (s.takeCards cards) := h.onRdr.fold fun _ _ h' => by
  split
  · exact h'.onCard
  · exact h'.holdCard

theorem Upholds.dropParked : Upholds a s.dropParked := h.fold fun _ _ h' => .ite h'.dropCard h'

@[simp] theorem Upholds.rdPoll {cards} : Upholds a (rdPoll cards s) := by
  unfold Machine.rdPoll
  dsimp only
  split
  · exact .ite h h.takeCards.rdEnter
  · exact .ite h h.takeCards.rdEnter
  · exact .ite (.ite h.dropParked.onRdr.rdEnter h.onRdr) h.takeCards.onRdr.rdEnter
  · exact .ite h.takeCards h
  · exact h

@[simp] theorem Upholds.rdInventory {cards} : Upholds a (rdInventory cards s) :=
  .ite ((h.fold fun _ _ h' => by split <;> [exact .ite h' (.ite h'.dropCard h'.onCard); exact h']).takeCards) h

@[simp] theorem Upholds.rdHoldMax {pings} : Upholds a (rdHoldMax pings s) := by
  unfold Machine.rdHoldMax
  exact .ite h.baseline.onRdr.rdEnter h

@[simp] theorem Upholds.rdFault : Upholds a (rdFault s) := by
  unfold Machine.rdFault
  split
  · exact h.rdEnter.latch.logEv
  · exact h.rdEnter.latch.logEv
  · exact h.rdEnter.latch.logEv
  · exact h.rdEnter.latch.logEv
  · exact h.rdEnter.latch.logEv
  · exact h

@[simp] theorem Upholds.rdRecover : Upholds a (rdRecover s) := .ite h.rdEnter h
@[simp] theorem Upholds.rdRestart : Upholds a (rdRestart s) := .ite (.ite h.onRdr h.onRdr.rdEnter) h

@[simp] theorem Upholds.writeRdcfg {v} : Upholds a (s.writeRdcfg v).2 := by
  unfold State.writeRdcfg
  dsimp only
  exact .ite (.ite h.putFields.rdEnter h.putFields) (.ite h.putFields h.putFields.dropCards.rdEnter)

@[simp] theorem Upholds.writeTest {v} : Upholds a (s.writeTest v).2 := by
  unfold State.writeTest
  dsimp only
  exact .ite (.ite h.putFields h.putFields.rdEnter) (.ite h.putFields.rdEnter h.putFields)

@[simp] theorem Upholds.rdTestLimit : Upholds a (rdTestLimit s) := .ite h.setFld.rdEnter h

@[simp] theorem Upholds.writeBind {v} : Upholds a (s.writeBind v) := by
  unfold State.writeBind
  exact .dite (fun _ => .ite h.applyCard h) fun _ => h

@[simp] theorem Upholds.rdBindTimeout {k} : Upholds a (rdBindTimeout k s) := .ite h.applyNone h

@[simp] theorem Upholds.writeXchg {v} : Upholds a (s.writeXchg v).2 :=
  .ite_snd h (.ite_snd (.ite_snd h.putFields.onRdr.snd h.putFields.onRdr.snd) h.putFields)

@[simp] theorem Upholds.rdXchgDone {answer removed} : Upholds a (rdXchgDone answer removed s) := .ite (by split <;> exact h.onRdr) h

end Sys2Proof.Machine
end

section
/-! What supplies and resets, plans, the service tag, the Fireguard and the load switches uphold. -/

namespace Sys2Proof.Machine

set_option Elab.async false

variable {a s : State} (h : Upholds a s)
include h

/-! ### Supplies, clocks, resets and the way into EMBER (chapter 15) -/

theorem Upholds.shortTick : Upholds a s.shortTick := by
  unfold State.shortTick
  dsimp only
  split
  · refine (Upholds.onBil ?_).applyTariffs
    split
    · exact h.handTick.onNrg.bookAll
    · exact h.bookAll
  · split
    · exact h.handTick.onNrg.bookAll
    · exact h.bookAll

@[simp] theorem Upholds.powerFail : Upholds a (powerFail s) := by
  have k {f g m} : Upholds a ((((s.onPwr f).latch R.PWR_FLAGS [] F.PWR_FLAGS_PFW_SEEN.mask).onRdr g).onMesh m) := h.onPwr.latch.onRdr.onMesh
  exact .ite h (.ite (k.takeAnchor.shortTick.draw.metroSave.onNrg.onLog fun _ hl => EventLog.flush_length _ hl) k)

@[simp] theorem Upholds.warningClear : Upholds a (warningClear s) := .ite h.onPwr h

theorem Upholds.supplyLost {w} : Upholds a (s.supplyLost w) := by
  unfold State.supplyLost
  exact h.onMseal.span.logEv

@[simp] theorem Upholds.brownOut : Upholds a (brownOut s) := .ite h.coldReset.supplyLost.onPwr h
@[simp] theorem Upholds.nrstAssert : Upholds a (nrstAssert s) := .ite h ((Upholds.ite h.coldReset h).onPwr)
@[simp] theorem Upholds.nrstHeld {held} : Upholds a (nrstHeld held s) := .ite h.onMseal.span.logEv.onPwr h
@[simp] theorem Upholds.nrstRelease {held} : Upholds a (nrstRelease held s) := .ite ((Upholds.ite h.onMseal h).onPwr) h
@[simp] theorem Upholds.thermalReset : Upholds a (thermalReset s) := .ite ((Upholds.ite h.orderlySave h).coldReset) h
@[simp] theorem Upholds.watchdog : Upholds a (watchdog s) := .ite (.ite h.failover h.orderlySave.warmReset) h
theorem Upholds.pairFault : Upholds a s.pairFault := .ite h.failover (.ite h.onHearth.onSeqr h)
@[simp] theorem Upholds.hearthFail : Upholds a (hearthFail s) := h.pairFault
@[simp] theorem Upholds.eccBad : Upholds a (eccBad s) := .ite h.bump.pairFault h
@[simp] theorem Upholds.eccFixed : Upholds a (eccFixed s) := .ite h.bump h
@[simp] theorem Upholds.selftestDone {pass} : Upholds a (selftestDone pass s) := h.onHearth
@[simp] theorem Upholds.checkpoint : Upholds a (checkpoint s) := .ite h.onHearth h

@[simp] theorem Upholds.clockLoss : Upholds a (clockLoss s) :=
  .ite ((h.onPwr.onSens.fold fun _ _ h' => h'.loseIc).logEv.stopTb.onGuard.safeOff.coldWhenSafe) h

@[simp] theorem Upholds.lpLimit : Upholds a (lpLimit s) := .ite h.coldReset h
@[simp] theorem Upholds.xtalFail : Upholds a (xtalFail s) := .ite h h.onPwr.latch.logEv
@[simp] theorem Upholds.xtalBack : Upholds a (xtalBack s) := .ite h.onPwr.logEv h
@[simp] theorem Upholds.backupAnchor : Upholds a (backupAnchor s) := .ite h.takeAnchor h

@[simp] theorem Upholds.rtcReload : Upholds a (rtcReload s) := by
  unfold Machine.rtcReload
  split
  · exact .ite h.onPwr h
  · exact h

@[simp] theorem Upholds.rtcAlarm : Upholds a (rtcAlarm s) := by
  unfold Machine.rtcAlarm
  exact .ite h.setFld.latch h

@[simp] theorem Upholds.vbatLost : Upholds a (vbatLost s) := by
  have k : Upholds a { s with regs := s.regs.filter (fun e => e.1 != R.PWR_ALARM.base && e.1 != R.SEAL_TAMPCFG.base),
                              sticky := s.sticky.filter (fun e => !keptSticky e.1) } :=
    h.step (regs := fun i => i.regs.filter _) (sticky := fun i => i.sticky.filter _)
  exact .ite k.onPwr.onMseal.onHost.onGuard h

@[simp] theorem Upholds.pilotUp : Upholds a (pilotUp s) := h.onPwr.pollAll
@[simp] theorem Upholds.pilotDown : Upholds a (pilotDown s) := h.onPwr.pollAll

@[simp] theorem Upholds.writeReset {v} : Upholds a (s.writeReset v).2 := by
  unfold State.writeReset
  split
  · exact h.orderlySave.warmReset
  · exact .ite_snd h h.orderlySave.coldReset
  · exact h

theorem Upholds.enterEmber : Upholds a s.enterEmber := by
  have k : Upholds a ((idx 24).foldl (fun (s : State) (n : Fin 24) => s.onChan n (fun c =>
      { LswChan.reset with state := if c.latched then c.state else 0, retryLeft := c.retryLeft, trips := c.trips }))
      ((s.orderlySave.writeBilling.onLog EventLog.flush).closeWhere (fun _ => true)).takeAnchor).stopTb.mainOff :=
    ((h.orderlySave.writeBilling.onLog fun _ hl => EventLog.flush_length _ hl).closeWhere.takeAnchor.fold fun _ _ h' => h'.onChan).stopTb.mainOff
  unfold State.enterEmber
  dsimp only
  generalize State.mainOff _ = u at k ⊢
  exact k.step (noP0 := fun _ => NoP0.reset)

@[simp] theorem Upholds.emberAuto : Upholds a (emberAuto s) := .ite h.enterEmber h

@[simp] theorem Upholds.writeSleep {v} : Upholds a (s.writeSleep v).2 := by
  unfold State.writeSleep
  exact .ite_snd h (.ite h.putFields.enterEmber h.putFields)

@[simp] theorem Upholds.emberBrownOut : Upholds a (emberBrownOut s) := .ite h.onGuard.clearCold.supplyLost.onPwr h

/-! ### Plan start and plan swap (R148 to R157) -/

theorem Upholds.watchPilots : Upholds a s.watchPilots := h.onVeh

theorem Upholds.startPlan {p} : Upholds a (s.startPlan p) := by
  unfold State.startPlan
  exact h.onGrate.watchPilots.startSensing.onNrg.onSens

theorem Upholds.armSwap {polder v} : Upholds a (s.armSwap polder v).2 := .ite_snd h (.ite_snd h (.ite_snd h h.onGrate.snd))
theorem Upholds.abandonSwap : Upholds a s.abandonSwap := .ite h.onGrate h

@[simp] theorem Upholds.writeSwap {polder v} : Upholds a (s.writeSwap polder v).2 := by
  unfold State.writeSwap
  exact .ite_snd h.abandonSwap (.ite_snd h.armSwap h)

theorem Upholds.endRuns {x b} : Upholds a (s.endRuns x b) := h.fold fun _ _ h' => .ite h' h'.endRun

theorem Upholds.replacePlan {b} : Upholds a (s.replacePlan b) := by
  unfold State.replacePlan
  split
  · exact h.startPlan
  · exact .unless (h.endRuns.fold fun _ _ h' => h'.logEv).onGrate.watchPilots.onNrg.onSens fun k => k.startSensing

@[simp] theorem Upholds.planSwap : Upholds a (planSwap s) := by
  unfold Machine.planSwap
  split
  · exact h
  · refine .ite h (.ite h.onGrate (Upholds.onGrate (Upholds.replacePlan ?_)))
    exact .maybe (.maybe h fun k => k.tamper.sealWrite.span) fun k => k.demandTest

@[simp] theorem Upholds.swapExpire : Upholds a (swapExpire s) := .ite h.onGrate h

/-! ### The service tag (R419 to R431) -/

theorem Upholds.wireWrite {off data} : Upholds a (s.wireWrite off data) := .ite (h.onTag fun _ hx => Tag.wf_serve hx) h.onTag
theorem Upholds.tagAnswer {data sw1 sw2} : Upholds a (s.tagAnswer data sw1 sw2) := h.onTag
theorem Upholds.tagField {f} (hf : ∀ {u}, Upholds a u → Upholds a (f u)) : Upholds a (s.tagField f) := .ite (hf h) h
theorem Upholds.tagHold : Upholds a s.tagHold := .ite (h.onTag fun _ hx => Tag.wf_serve hx) h
theorem Upholds.tagCommand {f} (hf : ∀ {u}, Upholds a u → Upholds a (f u)) : Upholds a (s.tagCommand f) := h.tagField fun h' => hf h'.tagHold
@[simp] theorem Upholds.tagOn : Upholds a (tagOn s) := .ite (h.onTag fun _ hx => Tag.wf_replay hx) h
theorem Upholds.loseField : Upholds a s.loseField := h.onTag fun _ hx => Tag.wf_serve hx
@[simp] theorem Upholds.tagLost : Upholds a (tagLost s) := h.tagField fun h' => h'.loseField
@[simp] theorem Upholds.tagFdet : Upholds a (tagFdet s) := .ite h.onTag h
@[simp] theorem Upholds.tagSelectApp {aid} : Upholds a (tagSelectApp aid s) := h.tagCommand fun h' => .ite h'.onTag.onTag.tagAnswer h'.onTag.tagAnswer

@[simp] theorem Upholds.tagSelectFileId {fid} : Upholds a (tagSelectFileId fid s) := h.tagCommand fun h' => by
  split
  · exact h'.onTag.tagAnswer
  · exact h'.tagAnswer

@[simp] theorem Upholds.tagRead {offset le} : Upholds a (tagRead offset le s) := h.tagCommand fun h' => by
  split
  · exact h'.tagAnswer
  · exact .ite (.ite h'.tagAnswer h'.tagAnswer) h'.tagAnswer

@[simp] theorem Upholds.tagUpdate {w} : Upholds a (tagUpdate w s) := h.tagCommand fun {u} h' => by
  show Upholds a (match u.tag.file with | none => _ | some f => _)
  split
  · exact h'.tagAnswer
  next f _ =>
    have k : Upholds a (u.onTag (fun t => t.writeBytes (f.place.1 + w.offset) w.data w.collapse)) := h'.onTag fun _ hx => Tag.wf_writeBytes hx ..
    exact .ite (.ite h'.tagAnswer (.ite h'.tagAnswer (.ite k.onTag.loseField k.tagAnswer))) h'.tagAnswer

theorem Upholds.tagCheck {good answer} : Upholds a (s.tagCheck good answer) := .ite h.tagAnswer (.ite h.onTag.tagAnswer h.onTag.tagAnswer)
@[simp] theorem Upholds.tagVerifyPw {pw} : Upholds a (tagVerifyPw pw s) := h.tagCommand fun h' => .ite h'.tagCheck h'.tagAnswer
theorem Upholds.tagUse : Upholds a s.tagUse := .ite (.ite h.keyUse h.keyUse.onTag) h

@[simp] theorem Upholds.tagBegin : Upholds a (tagBegin s) := h.tagCommand fun h' => by
  split
  · exact h'.tagAnswer
  · exact h'.tagUse.drawBytes.onTag.tagAnswer

@[simp] theorem Upholds.tagFinish {data} : Upholds a (tagFinish data s) := h.tagCommand fun h' => by
  split
  · exact h'.tagCheck
  · exact .ite h'.tagAnswer h'.tagAnswer

@[simp] theorem Upholds.tagEnd : Upholds a (tagEnd s) := h.tagField fun h' => h'.onTag fun _ hx => Tag.wf_serve hx

@[simp] theorem Upholds.writeTagcfg {v} : Upholds a (s.writeTagcfg v).2 := by
  unfold State.writeTagcfg
  dsimp only
  exact h.onTag

@[simp] theorem Upholds.writeTagpwd {v} : Upholds a (s.writeTagpwd v).2 := h.onTag.snd
theorem Upholds.tagWindow {offset words} : Upholds a (s.tagWindow offset words).2 := .ite_snd h (.ite_snd h.onTag.snd h.wireWrite.snd)
@[simp] theorem Upholds.tagServe : Upholds a (tagServe s) := .ite (h.onTag fun _ hx => Tag.wf_serve hx) h
theorem Upholds.statusLine {text} : Upholds a (s.statusLine text) := .ite h h.wireWrite
@[simp] theorem Upholds.statusHearth : Upholds a (statusHearth s) := .ite h (.ite h.onTag.statusLine (.ite h.onTag.statusLine h.onTag.statusLine))
@[simp] theorem Upholds.statusReset : Upholds a (statusReset s) := .ite h.statusLine h
@[simp] theorem Upholds.statusStopped : Upholds a (statusStopped s) := .ite h.statusLine h

/-! ### The events of the Fireguard (chapter 11) -/

@[simp] theorem Upholds.fgLaneLost : Upholds a (fgLaneLost s) := .ite (.ite h.onGuard.safeOff h.onGuard) h
@[simp] theorem Upholds.fgLaneGood : Upholds a (fgLaneGood s) := .ite h.onGuard h
@[simp] theorem Upholds.fgClockFault : Upholds a (fgClockFault s) := .ite h.onGuard.safeOff h
@[simp] theorem Upholds.fgHold : Upholds a (fgHold s) := .ite h.onGuard h
@[simp] theorem Upholds.fgHoldEnd : Upholds a (fgHoldEnd s) := .ite h.onGuard h
@[simp] theorem Upholds.fgHoldExpire : Upholds a (fgHoldExpire s) := .ite h.onGuard.safeOff h

@[simp] theorem Upholds.fgReset {c} : Upholds a (fgReset c s) := by
  unfold Machine.fgReset
  exact (Upholds.ite h.demandTest h).safeOff

@[simp] theorem Upholds.fgRaise {o} : Upholds a (fgRaise o s) := by
  refine .ite h ?_
  split
  · exact h.onGo
  · exact h.onGo.setHv

theorem Upholds.onIso {n f} : Upholds a (s.onIso n f) := h.onGuard

theorem Upholds.isoVerdict {n worst} : Upholds a (isoVerdict n worst s) := by
  unfold Machine.isoVerdict
  exact .ite h.onIso.checkGood h.onIso.checkBad

theorem Upholds.isoCycle {n up um ok} : Upholds a (isoCycle n up um ok s) := by
  have s1 {c : Prop} [Decidable c] {f g r ix b} : Upholds a (if c then s.onIso n f else (s.onIso n g).latch r ix b) := .ite h.onIso h.onIso.latch
  unfold Machine.isoCycle
  refine .maybe ?_ fun k => .ite k.monitorDrop (.maybe k fun k => k.onGo.monitorDrop)
  dsimp only
  split
  · exact .maybe s1 fun k => .ite k.onIso.isoVerdict k.onIso
  · exact s1

@[simp] theorem Upholds.isoHalf {n} : Upholds a (isoHalf n s) := by
  unfold Machine.isoHalf
  exact .ite (.ite h.isoCycle.onIso.isoDrive h.onIso.isoDrive) h

@[simp] theorem Upholds.isoDwell {n mv} : Upholds a (isoDwell n mv s) := by
  unfold Machine.isoDwell
  exact .ite h.onIso.isoDrive h

@[simp] theorem Upholds.isoRampFail {n} : Upholds a (isoRampFail n s) := by
  unfold Machine.isoRampFail
  exact .ite h.onIso.checkBad h

theorem Upholds.onRcd {k f} : Upholds a (s.onRcd k f) := h.onGuard

@[simp] theorem Upholds.rcdEval {k} : Upholds a (rcdEval k s) := by
  unfold Machine.rcdEval
  refine .ite h (.ite (.ite h.onRcd.latch.onGo.drop h.onRcd.latch.onGo) ?_)
  dsimp only
  split
  · exact .ite h.onRcd.onGo h.onRcd.onGo.onRcd.monitorDrop
  · exact h.onRcd.onGo

theorem Upholds.testChan {k on} : Upholds a (s.testChan k on) := by
  unfold State.testChan
  exact .dite (fun _ => .ite h.onChan h) fun _ => h

@[simp] theorem Upholds.rcdTestStart {k} : Upholds a (rcdTestStart k s) := by
  unfold Machine.rcdTestStart
  exact .ite h.setHv.onRcd.testChan h

@[simp] theorem Upholds.rcdTestEnd {k} : Upholds a (rcdTestEnd k s) := by
  unfold Machine.rcdTestEnd
  exact .ite (.ite h.onRcd.testChan.onGo.settleA h.onRcd.testChan.onGo) h

@[simp] theorem Upholds.weldVerdict {o volts} : Upholds a (weldVerdict o volts s) := .ite (.ite h.onGo.declareWelded (.ite h.onGo.toUnlock h.onGo)) h

@[simp] theorem Upholds.guardChange {x b} : Upholds a (guardChange x b s) :=
  .ite h (.ite ((Upholds.ite h.onGuard.safeOff h.onGuard).closeWhere) (.ite h.onGuard.safeOff h.onGuard))

@[simp] theorem Upholds.guardFaulted : Upholds a (guardFaulted s) := .ite h.onGuard.demandTest.dropAll h
@[simp] theorem Upholds.guardPass : Upholds a (guardPass s) := .ite h.onGuard h
@[simp] theorem Upholds.safeLow {o ma} : Upholds a (safeLow o ma s) := .ite h.safeDrop.coldWhenSafe h

@[simp] theorem Upholds.safeForce : Upholds a (safeForce s) := by
  unfold Machine.safeForce
  split
  · exact .ite ((h.onGuard.logEv.fold fun _ _ h' => h'.safeDrop).coldWhenSafe) h
  · exact h

@[simp] theorem Upholds.writeFg {r n o v} : Upholds a (s.writeFg r n o v).2 := by
  unfold State.writeFg
  dsimp only
  exact .ite h.putFields.demandTest h.putFields

/-! ### Load-switch channels (chapter 12) -/

theorem Upholds.applyChan {n} : Upholds a (s.applyChan n) := h.onChan

theorem Upholds.reloadRetry {n} : Upholds a (s.reloadRetry n) := by
  unfold State.reloadRetry
  exact h.takeField.onChan

theorem Upholds.latchChan {n state} : Upholds a (s.latchChan n state) := by
  unfold State.latchChan
  exact .ite h.onChan.logEv.hvFell h.onChan.logEv

@[simp] theorem Upholds.lswLimit {n} : Upholds a (lswLimit n s) := .ite (.ite h.latch.onChan h.latch.latchChan) h
@[simp] theorem Upholds.lswRetry {n} : Upholds a (lswRetry n s) := .ite h.onChan.applyChan h
@[simp] theorem Upholds.lswReload {n ma} : Upholds a (lswReload n ma s) := .ite h.reloadRetry.onChan h
@[simp] theorem Upholds.lswThermal {n} : Upholds a (lswThermal n s) := .ite h h.latchChan
@[simp] theorem Upholds.lswOpen {n} : Upholds a (lswOpen n s) := .ite h.onChan.latch h

@[simp] theorem Upholds.lswOffTest {n sees} : Upholds a (lswOffTest n sees s) := by
  unfold Machine.lswOffTest
  exact .ite h (.ite (h.onChan.fold fun _ _ h' => h'.declareWelded) (.ite h.onChan h.onChan.latch))

@[simp] theorem Upholds.lswNeg {n} : Upholds a (lswNeg n s) := h.latch
@[simp] theorem Upholds.lswPullin {n} : Upholds a (lswPullin n s) := .ite h.onChan h
theorem Upholds.lockReport {n ok} : Upholds a (s.lockReport n ok) := h.fold fun _ _ h' => .ite (.ite h'.enter h'.toFault) h'.pollOut

@[simp] theorem Upholds.lswTravel {n} : Upholds a (lswTravel n s) := by
  unfold Machine.lswTravel
  exact .ite h.onChan.lockReport h

@[simp] theorem Upholds.lswLockTimeout {n} : Upholds a (lswLockTimeout n s) := by
  unfold Machine.lswLockTimeout
  exact .ite h.onChan.lockReport h

@[simp] theorem Upholds.lswUnder : Upholds a (lswUnder s) := by
  unfold Machine.lswUnder
  exact (h.onLsw.latch.fold fun _ _ h' => .ite h'.hvFell h').pollAll

@[simp] theorem Upholds.lswRecover : Upholds a (lswRecover s) := .ite ((h.onLsw.fold fun _ _ h' => .ite h'.applyChan h').pollAll) h
@[simp] theorem Upholds.writeOn {v} : Upholds a (s.writeOn v) := h.setReg.applyOn

theorem Upholds.clearChan {n} : Upholds a (s.clearChan n) := by
  unfold State.clearChan
  exact .ite h.latch (.ite h.reloadRetry.onChan.applyChan.logEv h.reloadRetry)

@[simp] theorem Upholds.writeClear {v} : Upholds a (s.writeClear v) := h.fold fun _ _ h' => .ite h'.clearChan h'

/-! ### The safety networks (R368 to R373) -/

theorem Upholds.disagree : Upholds a s.disagree := h.onGuard.latch

theorem Upholds.slotEnd : Upholds a s.slotEnd := by
  unfold State.slotEnd
  exact h.onGuard

@[simp] theorem Upholds.netSlot {x b} : Upholds a (netSlot x b s) :=
  .ite (.maybe (.maybe (.maybe h.slotEnd.onGuard.bump fun k => k.onGuard) fun k => k.onGuard) fun k => k.disagree) h

@[simp] theorem Upholds.netCabinet {k netB fr} : Upholds a (netCabinet k netB fr s) := by
  unfold Machine.netCabinet
  exact .ite ((Upholds.ite h.bump.onGuard.disagree h.bump.onGuard).dropAll) h.bump

@[simp] theorem Upholds.netMissing {netB} : Upholds a (netMissing netB s) := .ite h.enterDegraded h
@[simp] theorem Upholds.netDisagree : Upholds a (netDisagree s) := .ite h.enterDegraded h

@[simp] theorem Upholds.netBoth : Upholds a (netBoth s) := by
  unfold Machine.netBoth
  exact .ite h.onGuard.safeOff h

@[simp] theorem Upholds.cabMissing {k} : Upholds a (cabMissing k s) := by
  unfold Machine.cabMissing
  exact .ite h.onGuard.dropAll h

@[simp] theorem Upholds.cabRestored {k} : Upholds a (cabRestored k s) := by
  unfold Machine.cabRestored
  exact .ite h.onGuard h

@[simp] theorem Upholds.netsRestored : Upholds a (netsRestored s) := .ite h.onGuard h
@[simp] theorem Upholds.degClear : Upholds a (degClear s) := .ite h.onGuard.logEv h
@[simp] theorem Upholds.degLimit : Upholds a (degLimit s) := .ite h.safeOff h

end Sys2Proof.Machine
end

section
/-! What the vehicle commands, updates, boot and wake uphold. -/

namespace Sys2Proof.Machine

set_option Elab.async false

variable {a s : State} (h : Upholds a s)
include h

/-! ### The commands of the vehicle link (chapter 09) -/

theorem Upholds.pilotEvent {o} : Upholds a (s.pilotEvent o) := .ite h.onSo h.pilotSeen
theorem Upholds.pilotA {o was now} : Upholds a (s.pilotA o was now) := .ite h.unmatch.takeUp.onVeh (.ite (.dite (fun _ => h.onVeh) (fun _ => h)) h)

@[simp] theorem Upholds.vehPilot {o i} : Upholds a (vehPilot o i s) :=
  .ite h (.unless (.maybe h.settleA.onPilot fun k => k.latch) fun k => k.onPilot.pilotA.pilotEvent)

@[simp] theorem Upholds.vehPp {o ohms} : Upholds a (vehPp o ohms s) := by
  unfold Machine.vehPp
  exact .ite h.onVeh.onSo h.onVeh.ppSeen

theorem Upholds.restartSlac {o} : Upholds a (s.restartSlac o) := h.onVeh
theorem Upholds.resendUnacked {o} : Upholds a (s.resendUnacked o) := .ite h.plcSend h

@[simp] theorem Upholds.vehModemFailed {m us} : Upholds a (vehModemFailed m us s) := by
  unfold Machine.vehModemFailed
  refine .ite h (.ite ?_ ?_)
  · exact .dmaybe h.onModem.logEv.onModem.onVeh fun _ k => .ite k.restartSlac k.resendUnacked
  · exact .dmaybe (.maybe h.onModem.logEv fun k => k.onVeh) fun _ k => .maybe k fun k => k.commLost

@[simp] theorem Upholds.slacParm {run} : Upholds a (slacParm run s) := by
  unfold Machine.slacParm
  refine .unless (.ite h (h.fold fun u o h' => .maybe h' fun _ => Upholds.toLock (Upholds.unmatch ?_)))
    fun k => Upholds.fold (.unless k fun k => k.onVeh) fun u o h' => .maybe h' fun _ => Upholds.plcSend ?_
  · split
    · exact h'.freeSid
    · exact h'
  · split
    · exact h'.plcRecv.onModem
    · exact h'.plcRecv

@[simp] theorem Upholds.slacStart {run} : Upholds a (slacStart run s) := h.onRun

@[simp] theorem Upholds.slacAddSound {run atten} : Upholds a (slacAddSound run atten s) := by
  unfold Machine.slacAddSound
  split
  · exact h
  · exact .ite (.ite h.onRun.closeRun h.onRun) h

@[simp] theorem Upholds.slacNeighbour {run atten} : Upholds a (slacNeighbour run atten s) := h.onRun
@[simp] theorem Upholds.slacClose : Upholds a (slacClose s) := h.fold fun _ _ h' => h'.closeRun

@[simp] theorem Upholds.slacMatch {o run} : Upholds a (slacMatch o run s) := by
  unfold Machine.slacMatch
  split
  · exact h
  · refine .ite ?_ h
    dsimp only
    split
    · exact h.plcRecv.plcSend.drawBytes.onModem.onVeh.onProto.logEv
    · exact h.plcRecv.plcSend

@[simp] theorem Upholds.slacValidate {o run toggles} : Upholds a (slacValidate o run toggles s) := by
  unfold Machine.slacValidate
  split
  · exact h
  · exact .ite h.onRun.plcRecv.plcSend h

@[simp] theorem Upholds.slacFail {o} : Upholds a (slacFail o s) := by
  refine .ite ?_ h
  dsimp only
  split
  · exact h.onVeh.onModem.commLost
  · exact h.onVeh.commLost

@[simp] theorem Upholds.t1sOff {n} : Upholds a (t1sOff n s) := by
  unfold Machine.t1sOff
  exact .ite h.onVeh h

@[simp] theorem Upholds.t1sDrop {n} : Upholds a (t1sDrop n s) := .ite h.onVeh.logEv.commLost h
@[simp] theorem Upholds.vehSdp {o tls} : Upholds a (vehSdp o tls s) := h.vehMsg fun h' => .ite h'.plcSend.onProto.onVeh h'.plcSend

@[simp] theorem Upholds.vehTls {o x} : Upholds a (vehTls o x s) := by
  have offer {c : Prop} [Decidable c] {n e p r} : Upholds a (if c then ((s.plcRecv o).onProto o (fun p => { p with stage := 3 })).keyUse n e p
      else (r, (s.plcRecv o).onProto o (fun p => { p with stage := 3 }))).2 := .ite_snd h.plcRecv.onProto.keyUse h.plcRecv.onProto.snd
  exact .ite (.ite offer.drawBytes.drawBytes.fillSlot.fillSlot.onProto.answer offer.answer.commLost) h

@[simp] theorem Upholds.vehProtocol {o offers} : Upholds a (vehProtocol o offers s) := by
  unfold Machine.vehProtocol
  exact h.vehMsg fun h' => h'.takeUp.onProto.answer

@[simp] theorem Upholds.vehSetup {o evccid} : Upholds a (vehSetup o evccid s) := h.vehMsg fun h' => h'.onProto.notice.answer

@[simp] theorem Upholds.vehService {o service} : Upholds a (vehService o service s) :=
  h.vehMsg (fun h' => .ite h'.answer (.ite h'.onProto.answer h'.answer))

@[simp] theorem Upholds.vehCertificate {o update exi} : Upholds a (vehCertificate o update exi s) := h.vehMsg fun h' => .ite h'.relayRequest h'.answer

@[simp] theorem Upholds.vehParameters {o vMax pMax schedule} : Upholds a (vehParameters o vMax pMax schedule s) :=
  h.vehMsg (fun h' => (Upholds.ite h'.onProto.onSo.relayRequest h'.onProto.onSo).answer.judgeCheck)

@[simp] theorem Upholds.vehCableCheck {o} : Upholds a (vehCableCheck o s) := h.vehMsg fun h' => by
  refine Upholds.answer ?_
  split
  · exact .maybe h'.onProto.onSo fun k => k.onSo.enter.startCheck
  · exact h'.onProto.onSo.judgeCheck

@[simp] theorem Upholds.vehPrecharge {o target} : Upholds a (vehPrecharge o target s) := h.vehMsg fun h' => h'.onProto.onSo.answer

@[simp] theorem Upholds.vehDelivery {o start} : Upholds a (vehDelivery o start s) :=
  h.vehMsg (fun h' => (Upholds.ite h'.onProto.enter h'.onProto).answer)

@[simp] theorem Upholds.vehLoop {o target volts power} : Upholds a (vehLoop o target volts power s) := h.vehMsg fun h' => h'.onProto.onSo.answer
@[simp] theorem Upholds.vehReceipt {o signed} : Upholds a (vehReceipt o signed s) := h.vehMsg fun h' => .ite h'.relayRequest.answer h'.answer
@[simp] theorem Upholds.vehWelding {o} : Upholds a (vehWelding o s) := h.vehMsg fun h' => h'.onProto.answer

@[simp] theorem Upholds.vehStop {o} : Upholds a (vehStop o s) :=
  h.vehMsg (fun h' => (Upholds.ite h'.onProto.answer.onSo.drivePilot h'.onProto.answer).stopOut)

@[simp] theorem Upholds.vehTimeout {o} : Upholds a (vehTimeout o s) := .ite h.stopOut h

/-! ### The update job (chapter 16) -/

theorem Upholds.beginUpdate {j sid} : Upholds a (s.beginUpdate j sid) := by
  unfold State.beginUpdate
  refine .ite ?_ h.onFw
  split
  · exact .ite h.onFw h
  · exact h

theorem Upholds.stageRecord {u stage detail word1} : Upholds a (s.stageRecord u stage detail word1) := h.addRecord
theorem Upholds.failUpdate {u err} : Upholds a (s.failUpdate u err) := h.finishJob.dropUpdate.logEv
theorem Upholds.doneUpdate {u} : Upholds a (s.doneUpdate u) := h.finishJob.onFw.logEv

theorem Upholds.acceptBlock {u d ended} : Upholds a (s.acceptBlock u d ended) := by
  have k : Upholds a (if u.next = 0 then s.onFw (fun f => f.wipe u.kind u.comp u.slotB) else s) :=
    .ite (h.onFw fun _ _ e => by rw [Update.wipe_backup] at e; exact e) h
  exact .ite k.onFw.onJob.stageRecord k.onFw.onJob

theorem Upholds.takeBlock {u} : Upholds a (s.takeBlock u) := by
  unfold State.takeBlock
  refine .ite h (.ite ?_ h.onFw.onJob)
  split
  · exact h.failUpdate
  · exact h.acceptBlock

@[simp] theorem Upholds.updateRun {j} : Upholds a (updateRun j s) := by
  unfold Machine.updateRun
  refine .ite ?_ h
  split
  · exact h.finishJob
  · exact .ite h.finishJob (.ite (.ite h.failUpdate h.startJob.takeBlock) h.takeBlock)

theorem Upholds.placeImage {u} : Upholds a (s.placeImage u) := by
  unfold State.placeImage
  split
  · exact h
  · exact h.onComp.onFw.stageRecord

theorem Upholds.placeShadow {p file} : Upholds a (s.placeShadow p file) := h.onGrate

theorem Upholds.verifyPlan {u} : Upholds a (s.verifyPlan u) := by
  unfold State.verifyPlan
  split
  · exact h.onGrate.stageRecord.failUpdate
  · exact h.placeShadow.stageRecord.doneUpdate

theorem Upholds.setSealed {l} : Upholds a (s.setSealed l) := h.tamper.sealWrite

theorem Upholds.installAnchor {u} : Upholds a (s.installAnchor u) := by
  unfold State.installAnchor
  split
  · exact h.failUpdate
  · refine .ite h.failUpdate (.ite h.stageRecord.doneUpdate (.ite h.failUpdate ?_))
    exact (Upholds.ite h.setSealed h.onFw).stageRecord.doneUpdate

theorem Upholds.removeAnchor {u} : Upholds a (s.removeAnchor u) := by
  unfold State.removeAnchor
  split
  · exact h.failUpdate
  · exact .ite h.failUpdate (.ite h.failUpdate ((Upholds.ite h.setSealed h.onFw).stageRecord.doneUpdate))

theorem Upholds.loadStore {u} : Upholds a (s.loadStore u) := by
  unfold State.loadStore
  split
  · exact h.failUpdate
  · exact h.onFw.stageRecord.doneUpdate

@[simp] theorem Upholds.updateCheck : Upholds a (updateCheck s) := by
  unfold Machine.updateCheck
  split
  · refine .ite ?_ h
    split
    · exact .ite h.placeImage h.stageRecord.failUpdate
    · exact h.verifyPlan
    · exact h.installAnchor
    · exact h.removeAnchor
    · exact h.loadStore
  · exact h

@[simp] theorem Upholds.updateTokenOut : Upholds a (updateTokenOut s) := by
  unfold Machine.updateTokenOut
  split
  · exact .ite h.failUpdate h
  · exact h

@[simp] theorem Upholds.checkpointOut : Upholds a (checkpointOut s) := by
  unfold Machine.checkpointOut
  split
  · exact .ite (h.onFw fun _ _ e => by rw [← Update.wipe_backup]; exact e) h
  · exact h

theorem Upholds.reloadModems : Upholds a s.reloadModems := by
  unfold State.reloadModems
  exact (h.fold fun _ _ h' => .ite h'.commLost h').onVeh

theorem Upholds.restartReader : Upholds a s.restartReader := by
  unfold State.restartReader
  exact .ite ((Upholds.ite h h.dropCards.rdEnter).rdEnter) (.ite h h.dropCards.rdEnter)

theorem Upholds.restartGrate : Upholds a s.restartGrate := by
  unfold State.restartGrate
  dsimp only
  split
  · exact .ite h.onGrate h
  · exact .ite ((Upholds.ite h.onGrate h).draw.logEv.startPlan) ((Upholds.ite h.onGrate h).draw.logEv.onGrate)

theorem Upholds.restartComp {k} : Upholds a (s.restartComp k) := by
  unfold State.restartComp
  split
  · exact (Upholds.ite h h.orderlySave).coldReset
  · exact h.orderlySave.fgReset
  · exact h.orderlySave.countStart.reloadModems
  · exact h.orderlySave.countStart.restartReader
  · exact h.orderlySave.countStart.restartGrate

theorem Upholds.activate {u} : Upholds a (s.activate u) := by
  unfold State.activate
  refine .ite (Upholds.restartComp ?_) (Upholds.onFw (Upholds.finishJob (Upholds.stageRecord (Upholds.restartComp ?_))))
  all_goals exact Upholds.logEv (Upholds.stageRecord (Upholds.onJob (Upholds.onFw (Upholds.onComp (.maybe h fun k => k.tamper)))))

theorem Upholds.writeActivate {u} : Upholds a (s.writeActivate u).2 := .ite_snd h (.ite_snd h.onFw.snd h.activate.snd)

theorem Upholds.confirmComp {k} : Upholds a (s.confirmComp k) := by
  refine Upholds.logEv (Upholds.onFw (Upholds.onComp (.ite ?_ h)))
  exact h.onFw fun _ _ e => by cases e

theorem Upholds.writeConfirm : Upholds a s.writeConfirm.2 := by
  unfold State.writeConfirm
  split
  · exact .ite_snd h.confirmComp h
  · exact h

theorem Upholds.revertComp {k cause} : Upholds a (s.revertComp k cause) := h.revertSlots.restartComp

theorem Upholds.writeRevert : Upholds a s.writeRevert.2 := by
  unfold State.writeRevert
  split
  · exact h.revertComp
  · exact h

@[simp] theorem Upholds.writeCtrl {v} : Upholds a (s.writeCtrl v).2 := by
  unfold State.writeCtrl
  refine .maybe_snd (.maybe_snd (.ite_snd ?_ h) fun k => k.writeConfirm) fun k => k.writeRevert
  split
  · exact h.writeActivate
  · exact h

@[simp] theorem Upholds.trialOut {k} : Upholds a (trialOut k s) := .ite h.revertComp h

@[simp] theorem Upholds.trialSave {k} : Upholds a (trialSave k s) := by
  unfold Machine.trialSave
  exact .ite h.onComp h

/-! ### Boot and wake (chapter 15) -/

theorem Upholds.spliceAt {x ticks kind} : Upholds a (s.spliceAt x ticks kind) := by
  unfold State.spliceAt
  exact h.step.onPwr.latch.onMseal

theorem Upholds.tbFromZero {ticks} : Upholds a (s.tbFromZero ticks) := by
  unfold State.tbFromZero
  exact h.step.onGuard.onPwr

theorem Upholds.lockPll {ticks kind} : Upholds a (s.lockPll ticks kind) := by
  unfold State.lockPll
  refine (Upholds.onPwr ?_).onHearth.pgStart
  split
  · exact .ite h.tbFromZero h.spliceAt
  · exact h.tbFromZero

theorem Upholds.keysUp {timeLost} : Upholds a (s.keysUp timeLost) := by
  unfold State.keysUp
  exact h.onSlot.bootDerive.onKeys.bootFlue

theorem Upholds.restoreRecord {r journal} : Upholds a (s.restoreRecord r journal) := by
  unfold State.restoreRecord
  exact h.onNrg.onSens

theorem Upholds.restoreJournal : Upholds a s.restoreJournal := by
  unfold State.restoreJournal
  dsimp only
  split
  · exact h.restoreRecord
  · exact .ite h.tamper.onNrg h.onNrg

theorem Upholds.restoreCells {r} : Upholds a (s.restoreCells r) := by
  unfold State.restoreCells
  split
  · exact h
  · exact .ite h h.onGrate

theorem Upholds.boundUnbooked {r cut} : Upholds a (s.boundUnbooked r cut) := .ite h.onNrg (h.onNrg.fold fun _ _ h' => .ite h'.logEv h')

theorem Upholds.loadBilling {b cold} : Upholds a (s.loadBilling b cold) := by
  unfold State.loadBilling
  dsimp only
  split
  · exact h.onBil
  · exact h.onBil

theorem Upholds.loadSvc : Upholds a s.loadSvc := by
  unfold State.loadSvc
  exact h.onNrg

theorem Upholds.replayTo {tb} : Upholds a (s.replayTo tb).2 := by
  unfold State.replayTo
  exact h.fold_snd fun _ _ h' => h'.commitTick

theorem Upholds.checkSvc {v} : Upholds a (s.checkSvc v) := .ite h h.logEv.onNrg

theorem Upholds.withdrawAll {last} : Upholds a (s.withdrawAll last) :=
  h.fold fun _ _ h' => (Upholds.ite h'.onBil h'.onBil.billOutcome.billEnd).onJournal

theorem Upholds.replayBilling {r cold} : Upholds a (s.replayBilling r cold).2 := by
  unfold State.replayBilling
  dsimp only
  exact h.loadBilling.loadSvc.onBil.replayTo.moveHolds.checkSvc.withdrawAll.replayTo.moveHolds

theorem Upholds.resumeTime {b wide outage} : Upholds a (s.resumeTime b wide outage).2 := by
  have ite {c : Prop} [Decidable c] {x y : State} : Upholds a x → Upholds a y → Upholds a (if c then x else y) := .ite
  unfold State.resumeTime
  dsimp only
  split
  · exact (ite h.onBil.mark h.onBil).onBil.snd
  · refine Upholds.closeDue (Upholds.onBil (ite (Upholds.onBil (Upholds.mark ?_)) ?_)) <;>
      exact ite (ite h.onBil.mark h.onBil).startBill (ite h.onBil.mark h.onBil).meetWall

theorem Upholds.loadPlan : Upholds a s.loadPlan := by
  refine .ite h.startSensing ?_
  split
  · exact h.onGrate.startPlan
  · exact h.onGrate.startSensing

theorem Upholds.meterUp {cut cold} : Upholds a (s.meterUp cut cold) := by
  have k {r b x w y} : Upholds a (((s.restoreJournal.replayBilling r cold).2.resumeTime b x w).2.endRecords.periodRecords y).startRecords.loadPlan :=
    h.restoreJournal.replayBilling.resumeTime.endRecords.periodRecords.startRecords.loadPlan
  unfold State.meterUp
  refine .maybe ?_ fun k => k.closeSeal.onNrg
  split
  · exact k.restoreCells.boundUnbooked
  · exact k

theorem Upholds.linkUp2 : Upholds a s.linkUp2 := by
  unfold State.linkUp2
  exact h.portsUp.countStart.countStart.countStart.reloadModems.restartReader.onFw.onPwr

theorem Upholds.guardUp : Upholds a s.guardUp := by
  unfold State.guardUp
  exact (Upholds.ite h.dropAll.countStart.onGuard h).onGuard

theorem Upholds.afterBackupLoss : Upholds a s.afterBackupLoss := h.onGuard.demandTest.tamper.sealWrite
theorem Upholds.keepGap {gone} : Upholds a (s.keepGap gone) := .ite h.sealWrite h
theorem Upholds.sealUp : Upholds a s.sealUp := h.onMseal
theorem Upholds.meshSeed : Upholds a s.meshSeed := h.draw.onMesh

theorem Upholds.bootRun {ticks} : Upholds a (s.bootRun ticks) := by
  unfold State.bootRun
  refine Upholds.onPwr (Upholds.keepGap (Upholds.meterUp (Upholds.mergeLedger (Upholds.span (.maybe ?_ fun k => k.afterBackupLoss)))))
  exact h.lockPll.sealUp.meshSeed.onPwr.keysUp.linkUp2.guardUp

theorem Upholds.finishTransit : Upholds a s.finishTransit := by
  unfold State.finishTransit
  split
  · exact h
  next t e =>
    have k {n m : Nat} : Upholds a { s.forget with life := { s.forget.life with
        state := t, inTransit := none, transitions := n, rootFused := m, nonce := none } } :=
      h.step (regs := fun i => i.regs.filter _) (life := ⟨.inr e, .inr rfl⟩)
    exact .ite (k.onTag (f := Tag.returned) fun _ hx => Tag.wf_returned hx) k

theorem Upholds.logUp : Upholds a s.logUp := by
  unfold State.logUp
  exact (Upholds.ite h.onLog h.onLog.logEv).logEv

theorem Upholds.recover {crystal} : Upholds a (s.recover crystal) := h.onPwr

theorem Upholds.checkSchema : Upholds a s.checkSchema := by
  refine .ite h (Upholds.demandTest ?_)
  exact h.step (regs := fun i => i.regs.filter _) (backup := fun i b e => by cases e; exact i.regs)

theorem Upholds.requestsOff : Upholds a s.requestsOff := h.fold fun _ _ h' => h'.request

theorem Upholds.startHearth : Upholds a s.startHearth := by
  refine Upholds.requestsOff (Upholds.onPwr ?_)
  exact (Upholds.checkSchema (h.onFw)).step (use := fun i => i.regs)

theorem Upholds.bootRom {strap ticks crystal} : Upholds a (s.bootRom strap ticks crystal) := by
  have k := (h.onPwr (f := fun p => { p with strap, flashDead := false, bootWait := none })).finishTransit
  have l := ((k.logUp).onFw (f := Update.readRecord) fun _ _ e => by rw [Update.readRecord_backup] at e; exact e).countStart (k := 0)
  exact .ite k.onPwr (.ite k.logUp.recover (.ite l.recover (.ite l.startHearth.bootRun l.startHearth.onPwr)))

theorem Upholds.vinUp : Upholds a s.vinUp := .ite (h.onPwr.onTag fun _ hx => Tag.wf_replay hx) h.onPwr
@[simp] theorem Upholds.bootNow {strap ticks crystal} : Upholds a (bootNow strap ticks crystal s) := .ite (.ite h.vinUp.onPwr h.vinUp.bootRom) h

@[simp] theorem Upholds.flashTry {answers} : Upholds a (flashTry answers s) := by
  unfold Machine.flashTry
  split
  · exact .ite (.ite h.bootRom h.onPwr) h
  · exact h

@[simp] theorem Upholds.crystalTry {starts} : Upholds a (crystalTry starts s) := by
  unfold Machine.crystalTry
  split
  · exact .ite (.ite h.bootRun h.onPwr) h
  · exact h

theorem Upholds.logBanks {lost} : Upholds a (s.logBanks lost) := h.fold fun _ _ h' => .ite h'.logEv h'

theorem Upholds.banksBack {intact} : Upholds a (s.banksBack intact) := by
  have k : Upholds a { s with cnt := Counters.reset } := h.step (counters := fun _ => Counters.reset_count_lt)
  unfold State.banksBack
  exact .unless (.unless h fun _ => k.onRdr.logEv) fun k => k.logEv

theorem Upholds.wakeUp {code ticks bad} : Upholds a (s.wakeUp code ticks bad) := by
  have k {f : Nat × Nat → Bool} : Upholds a { s with regs := s.regs.filter f, sticky := s.sticky.filter (fun e => keptSticky e.1) } :=
    h.step (regs := fun i => i.regs.filter _) (sticky := fun i => i.sticky.filter _)
  unfold State.wakeUp
  dsimp only
  exact k.startHearth.lockPll.sealUp.onPwr.logBanks.banksBack.countStart.onGuard.keysUp.linkUp2.applyOn.mergeLedger.meterUp.onPwr

@[simp] theorem Upholds.wakeNow {src strap ticks bad} : Upholds a (wakeNow src strap ticks bad s) :=
  .ite (.ite h.coldReset.onPwr (.ite h.onPwr.onPwr.recover h.onPwr.wakeUp)) h

end Sys2Proof.Machine
end

section
/-! What jobs, register writes and accesses of the host uphold. -/

namespace Sys2Proof.Machine

set_option Elab.async false

variable {a s : State} (h : Upholds a s)
include h

/-! ### Jobs as their owners end them (R108, R121, R122) -/

theorem Upholds.jobStop {j} : Upholds a (s.jobStop j).2 := by
  unfold State.jobStop
  exact .ite_snd h.cancelJob.dropUpdateOf h

theorem Upholds.jobFree {j} : Upholds a (s.jobFree j).2 := by
  unfold State.jobFree
  exact .ite_snd h.onJob h

@[simp] theorem Upholds.writeJobCtrl {j v} : Upholds a (s.writeJobCtrl j v).2 := by
  unfold State.writeJobCtrl
  exact .ite_snd h (.ite_snd h.jobStop (.ite_snd h.jobFree h))

@[simp] theorem Upholds.jobExpire {j} : Upholds a (jobExpire j s) := .ite h.onJob h

theorem Upholds.setPasswordOf {polder k} : Upholds a (s.setPasswordOf polder k) :=
  h.onHost (fun _ => by split <;> rfl) fun _ => by split <;> rfl

@[simp] theorem Upholds.setPassword {j polder len pw} : Upholds a (setPassword j polder len pw s) :=
  .ite (.ite h.finishJob h.setPasswordOf.closeWhere.finishJob) h

/-! ### Register writes -/

@[simp] theorem Upholds.plainWriter {r clamp i p ix v} : Upholds a (plainWriter r clamp i p ix v s).2 := h.putFields
@[simp] theorem Upholds.clearStatus {v} : Upholds a (s.clearStatus v) := h.step (sticky := fun i => rising_putKey _ _ _ i.sticky)

@[simp] theorem Upholds.clearOverflows {n v} : Upholds a (s.clearOverflows n v) :=
  h.step (sluices := fun i => forall_upd (P := fun q : Sluice => q.msgs.length ≤ 8) i.sluices (i.sluices n))

@[simp] theorem Upholds.writeDamper {v} : Upholds a (s.writeDamper v).2 := by
  have k : ∀ u, Upholds a u → Upholds a (u.onHost (fun h => { h with table := h.table.map (fun w => match w with
      | .host x => .host { x with bucket := u.bucketNow x, refillTb := u.clock.tb }
      | w => w) })) := by
    intro u hu
    refine hu.step (noP0 := fun p i x e => ?_)
    simp only [State.onHost_host, Fin.getElem_fin, Vector.getElem_map] at e
    split at e
    next y ey => obtain rfl := SidUse.host.inj e; exact p i y ey
    next ey => exact (ey _ e).elim
  exact k _ (Upholds.putFields (k _ h))

@[simp] theorem Upholds.selectSlot {i v} : Upholds a (s.selectSlot i v) := h.onSession
@[simp] theorem Upholds.selectCal {i v} : Upholds a (s.selectCal i v) := h.onSession
@[simp] theorem Upholds.selectProbe {i v} : Upholds a (s.selectProbe i v) := h.onSession

@[simp] theorem Upholds.sealedWriter {r clamp x y z w} : Upholds a (sealedWriter r clamp x y z w s).2 := by
  unfold Machine.sealedWriter
  dsimp only
  exact h.putFields.sealWrite

@[simp] theorem Upholds.writePin {o v} : Upholds a (s.writePin o v).2 := by
  unfold State.writePin
  exact h.putFields

@[simp] theorem Upholds.writeVehDamper {v} : Upholds a (s.writeVehDamper v).2 := by
  unfold State.writeVehDamper
  dsimp only
  exact h.onVeh.putFields.onVeh

@[simp] theorem Upholds.writeListWord {k v} : Upholds a (s.writeListWord k v).2 := by
  unfold State.writeListWord
  exact .ite_snd h.applyList h.setReg

@[simp] theorem Upholds.writeSeqCfg {o v} : Upholds a (s.writeSeqCfg o v).2 := by
  unfold State.writeSeqCfg
  exact h.putFields

@[simp] theorem Upholds.writePg {k v} : Upholds a (s.writePg k v).2 := by
  unfold State.writePg
  dsimp only
  exact .ite_snd h.putFields.pgSync h.putFields

@[simp] theorem Upholds.writeChan {n v} : Upholds a (s.writeChan n v).2 := by
  unfold State.writeChan
  dsimp only
  exact .ite_snd h.putFields.setReg.applyChan.phaseSync h.putFields

@[simp] theorem Upholds.writeMesh {v} : Upholds a (s.writeMesh v).2 := .ite_snd h.putFields.onMesh.snd h.putFields

@[simp] theorem Upholds.writeMeshDamper {v} : Upholds a (s.writeMeshDamper v).2 := by
  unfold State.writeMeshDamper
  dsimp only
  exact h.onMesh.putFields.onMesh

@[simp] theorem Upholds.writeMask {i v} : Upholds a (s.writeMask i v).2 := by
  unfold State.writeMask
  exact .ite_snd h.setReg h

theorem Upholds.okWith : Upholds a (okWith s).2 := by
  unfold Machine.okWith
  exact h

theorem Upholds.writers : ∀ w ∈ writers, ∀ i p ix v, Upholds a (w.2 i p ix v s).2 := by
  simp only [Machine.writers, List.forall_mem_cons, List.not_mem_nil, false_imp_iff, implies_true, and_true]
  and_intros <;> intros <;> simp [okWith, plainWriter, sealedWriter, h]

theorem Upholds.writeReg {r i p ix v} : Upholds a (writeReg r i p ix v s).2 := by
  unfold Machine.writeReg
  cases hw : Machine.writers.find? (fun w => w.1 == r.base) with
  | none => exact h.plainWriter (i := i) (p := p)
  | some w => exact h.writers w (List.mem_of_find?_eq_some hw) i p ix v

/-! ### READ and WRITE of registers and windows (R83, R84, R102, R125) -/

theorem Upholds.darkAccess {b} : Upholds a (s.darkAccess b) := h.onHost.latch

theorem Upholds.rearm {i r ix} : Upholds a (s.rearm i r ix) := by
  unfold State.rearm
  exact .ite h h.latch

theorem Upholds.clearRead {i r ix} : Upholds a (s.clearRead i r ix) := by
  have k : Upholds a (if s.kept r ix &&& r.clearMask = 0 then s
      else { s with sticky := putKey (r.addr ix) (mergeMask (s.kept r ix) 0 r.clearMask) s.sticky }) :=
    .ite h (h.step (sticky := fun i => rising_putKey _ _ _ i.sticky))
  refine .ite ?_ (.ite k.onSens (.ite k.onCnt (.ite k.onCnt k)))
  split
  · exact k.onGrate
  · exact k

theorem Upholds.seeJob {r ix} : Upholds a (s.seeJob r ix) := .ite h.onJob h
theorem Upholds.stop {status extra} : Upholds a (Run.stop s status extra).state := h

theorem Upholds.readRun {i x n ad} : Upholds a (s.readRun i x n ad).state := by
  induction n generalizing s ad with
  | zero => exact h
  | succ n ih =>
    unfold State.readRun
    split
    · exact h
    · split
      · exact h.dikeRefuse
      · split
        · exact ih h.darkAccess
        · split
          · exact h
          · exact ih h.seeJob

theorem Upholds.writeRun {i x vs ad} : Upholds a (s.writeRun i x vs ad).state := by
  induction vs generalizing s ad with
  | nil => exact h
  | cons v vs ih =>
    unfold State.writeRun
    split
    · exact h
    · split
      · exact h.dikeRefuse
      · split
        · exact ih h.darkAccess
        · dsimp only
          split
          · exact ih h.writeReg
          · exact h.writeReg

theorem Upholds.readRegs {i x y n} : Upholds a (s.readRegs i x y n).state := by
  unfold State.readRegs
  dsimp only
  exact .ite (h.readRun.fold fun _ _ h' => h'.clearRead.rearm) h.readRun

theorem Upholds.writeRegs {i x y v} : Upholds a (s.writeRegs i x y v).state := by
  unfold State.writeRegs
  dsimp only
  exact h.writeRun

theorem Upholds.sluicePut {n msg} : Upholds a (s.sluicePut n msg).2 := by
  unfold State.sluicePut
  split
  · exact h.step (sluices := fun i => forall_upd (P := fun q : Sluice => q.msgs.length ≤ 8) i.sluices (i.sluices n))
  next room =>
    refine h.step (sluices := fun i => forall_upd (P := fun q : Sluice => q.msgs.length ≤ 8) i.sluices ?_)
    simp only [List.length_append, List.length_singleton]
    omega

theorem Upholds.sluiceTake {n want} : Upholds a (s.sluiceTake n want).2 :=
  h.step (sluices := fun i => forall_upd (P := fun q : Sluice => q.msgs.length ≤ 8) i.sluices (Nat.le_trans (by simp) (i.sluices n)))

theorem Upholds.stream {l off n} : Upholds a (s.stream l off n).state := by
  unfold State.stream
  dsimp only
  exact h

theorem Upholds.buffer {b off n} : Upholds a (s.buffer b off n).state := by
  unfold State.buffer
  dsimp only
  exact h

theorem Upholds.readWindow {x w off n} : Upholds a (s.readWindow x w off n).state := by
  unfold State.readWindow
  split
  · exact h.sluiceTake (want := n)
  · exact h.buffer
  · exact h.buffer
  · exact h.stream
  · refine .ite_state ?_ h
    dsimp only
    exact h.onTag
  · exact h.stream
  · exact h.act
  · exact h.act
  · exact h.act

theorem Upholds.writeWindow {w off v} : Upholds a (s.writeWindow w off v).state := by
  unfold State.writeWindow
  split
  · exact h.sluicePut.act
  · exact h.onRdr.act
  · exact h.onVeh.act
  · exact h.tagWindow
  · exact h.act
  · exact h.act
  · exact h.act
  · exact h.act
  · exact h.act

theorem Upholds.windowAccess {x w ad off n allowed zeros go} (hf : ∀ {u}, Upholds a u → Upholds a (go u).state) :
    Upholds a (s.windowAccess x w ad off n allowed zeros go).state := by
  unfold State.windowAccess
  exact .ite_state h.act (.ite_state h.dikeRefuse.act (.ite_state h.darkAccess (hf h)))

theorem Upholds.readAccess {i x y n} : Upholds a (s.readAccess i x y n).state := by
  unfold State.readAccess
  refine .ite_state h.act ?_
  split
  · exact h.windowAccess fun h' => h'.readWindow
  · exact h.readRegs

theorem Upholds.writeAccess {i x y v} : Upholds a (s.writeAccess i x y v).state := by
  unfold State.writeAccess
  refine .ite_state h.act ?_
  split
  · exact h.windowAccess fun h' => h'.writeWindow
  · exact h.writeRegs

end Sys2Proof.Machine
end

section
/-! What host frames, the rows that stand for one, sensing and the clock uphold. -/

namespace Sys2Proof.Machine

set_option Elab.async false

variable {a s : State} (h : Upholds a s)
include h

/-! ### The operations of a host frame (R97) -/

@[simp] theorem Upholds.hostRead {f} : Upholds a (hostRead f s) := h.intake (fun h' => h'.inOrder (fun h'' => h''.readAccess) (fun h'' => h''))

@[simp] theorem Upholds.hostWriteFrame {f} : Upholds a (hostWriteFrame f s) :=
  h.intake (fun h' => h'.inOrder (fun h'' => h''.writeAccess) (fun h'' => h''))

@[simp] theorem Upholds.hostHello {f} : Upholds a (hostHello f s) := h.intake fun h' => h'.helloNow

@[simp] theorem Upholds.hostProve {f} : Upholds a (hostProve f s) := h.intake fun h' => by
  split
  · exact .ite h'.plain (.ite h'.plain h'.proveNow)
  · exact h'.plain

@[simp] theorem Upholds.hostClose {f} : Upholds a (hostClose f s) :=
  h.intake (fun h' => h'.inOrder (fun h'' => h''.act) (fun h'' => h''.closeSession))

@[simp] theorem Upholds.hostNop {f} : Upholds a (hostNop f s) := h.intake (fun h' => h'.inOrder (fun h'' => h''.act) (fun h'' => h''))
theorem Upholds.placeJob {j b} : Upholds a (s.placeJob j b) := h.onJobs

theorem Upholds.statusAct {j} : Upholds a (s.statusAct j).state := by
  unfold State.statusAct
  exact h

theorem Upholds.busyAct {polder} : Upholds a (s.busyAct polder).state := by
  unfold State.busyAct
  exact h

theorem Upholds.updateStart {j sid} : Upholds a (s.updateStart j sid) := .ite h.beginUpdate h

theorem Upholds.submitTo {i addr b} : Upholds a (s.submitTo i addr b).state := by
  unfold State.submitTo
  split
  · exact h.act
  · exact h.placeJob.updateStart.statusAct

theorem Upholds.submitUpdate {i addr b} : Upholds a (s.submitUpdate i addr b).state := by
  unfold State.submitUpdate
  refine .ite_state h.submitTo ?_
  split
  · exact h.onFw.statusAct
  · exact .ite_state h.submitTo h.busyAct

theorem Upholds.submitLife {i addr b} : Upholds a (s.submitLife i addr b).state := by
  unfold State.submitLife
  exact .ite_state h.busyAct (.ite_state h.busyAct h.submitTo)

theorem Upholds.submitKey {i addr b} : Upholds a (s.submitKey i addr b).state := by
  unfold State.submitKey
  dsimp only
  split
  · exact h.busyAct
  · exact h.submitTo

theorem Upholds.submitNow {i x addr words} : Upholds a (s.submitNow i x addr words).state := by
  unfold State.submitNow
  dsimp only
  exact .ite_state h.act (.ite_state h.dikeRefuse.act (.ite_state h.submitUpdate (.ite_state h.submitLife (.ite_state h.submitKey h.submitTo))))

@[simp] theorem Upholds.hostSubmit {f} : Upholds a (hostSubmit f s) := h.intake (fun h' => h'.inOrder (fun h'' => h''.submitNow) (fun h'' => h''))

theorem Upholds.feedNow {i x j words} : Upholds a (s.feedNow i x j words).state := by
  unfold State.feedNow
  dsimp only
  exact .ite_state h.dikeRefuse.act (.ite_state h.act (.ite_state h.dikeRefuse.act (.ite_state h.act h.onJob.act)))

@[simp] theorem Upholds.hostFeed {f} : Upholds a (hostFeed f s) := h.intake (fun h' => h'.inOrder (fun h'' => h''.feedNow) (fun h'' => h''))

/-! ### The rows that stand for one access of a session (log entry 7) -/

theorem Upholds.askWrite {sid addr words} : Upholds a (s.askWrite sid addr words) := h.ask fun h' => h'.writeAccess
theorem Upholds.askRead {sid addr n} : Upholds a (s.askRead sid addr n) := h.ask fun h' => h'.readAccess
theorem Upholds.askReg {sid r ix v} : Upholds a (s.askReg sid r ix v) := h.askWrite
@[simp] theorem Upholds.sluiceSend {sid n msg} : Upholds a (sluiceSend sid n msg s) := h.askWrite
@[simp] theorem Upholds.sluiceReceive {sid n want} : Upholds a (sluiceReceive sid n want s) := h.askRead
@[simp] theorem Upholds.jobCancel {sid j} : Upholds a (jobCancel sid j s) := h.askReg
@[simp] theorem Upholds.jobRelease {sid j} : Upholds a (jobRelease sid j s) := h.askReg
@[simp] theorem Upholds.swapArm {sid v} : Upholds a (swapArm sid v s) := h.askReg
@[simp] theorem Upholds.swapAbandon {sid v} : Upholds a (swapAbandon sid v s) := h.askReg
@[simp] theorem Upholds.setTime {sid v} : Upholds a (setTime sid v s) := h.askReg
@[simp] theorem Upholds.tariffCommand {sid v} : Upholds a (tariffCommand sid v s) := h.askReg
@[simp] theorem Upholds.demandSync {sid v} : Upholds a (demandSync sid v s) := h.askReg
@[simp] theorem Upholds.vehDecideAuth {sid o v} : Upholds a (vehDecideAuth sid o v s) := h.askReg
@[simp] theorem Upholds.vehDecideEnd {sid o v} : Upholds a (vehDecideEnd sid o v s) := h.askReg
@[simp] theorem Upholds.vehDecideRelay {sid o v} : Upholds a (vehDecideRelay sid o v s) := h.askReg
@[simp] theorem Upholds.vehListAdd {sid w0 w1 v} : Upholds a (vehListAdd sid w0 w1 v s) := h.askWrite
@[simp] theorem Upholds.vehListRemove {sid w0 w1 v} : Upholds a (vehListRemove sid w0 w1 v s) := h.askWrite
@[simp] theorem Upholds.vehListClear {sid v} : Upholds a (vehListClear sid v s) := h.askReg
@[simp] theorem Upholds.vehSalt {sid hi v} : Upholds a (vehSalt sid hi v s) := h.askReg
@[simp] theorem Upholds.seqHostStop {sid v} : Upholds a (seqHostStop sid v s) := h.askReg
@[simp] theorem Upholds.seqHostUnlock {sid v} : Upholds a (seqHostUnlock sid v s) := h.askReg
@[simp] theorem Upholds.seqHostClear {sid v} : Upholds a (seqHostClear sid v s) := h.askReg
@[simp] theorem Upholds.seqHostBlock {sid v} : Upholds a (seqHostBlock sid v s) := h.askReg
@[simp] theorem Upholds.seqHostUnblock {sid v} : Upholds a (seqHostUnblock sid v s) := h.askReg

@[simp] theorem Upholds.fgConfig {sid addr v} : Upholds a (fgConfig sid addr v s) := by
  unfold Machine.fgConfig
  split
  · exact h.reply
  · exact h.askWrite

@[simp] theorem Upholds.lswHostOn {sid v} : Upholds a (lswHostOn sid v s) := h.askReg
@[simp] theorem Upholds.lswHostClear {sid v} : Upholds a (lswHostClear sid v s) := h.askReg
@[simp] theorem Upholds.rdEnable {sid v} : Upholds a (rdEnable sid v s) := h.askReg
@[simp] theorem Upholds.rdTestMode {sid v} : Upholds a (rdTestMode sid v s) := h.askReg
@[simp] theorem Upholds.rdBind {sid v} : Upholds a (rdBind sid v s) := h.askReg
@[simp] theorem Upholds.rdXchg {sid v} : Upholds a (rdXchg sid v s) := h.askReg
@[simp] theorem Upholds.tagHostCfg {sid v} : Upholds a (tagHostCfg sid v s) := h.askReg
@[simp] theorem Upholds.tagHostPwd {sid v} : Upholds a (tagHostPwd sid v s) := h.askReg
@[simp] theorem Upholds.tagHostWindow {sid offset words} : Upholds a (tagHostWindow sid offset words s) := h.askWrite
@[simp] theorem Upholds.commandWarm {sid v} : Upholds a (commandWarm sid v s) := h.askReg
@[simp] theorem Upholds.commandCold {sid v} : Upholds a (commandCold sid v s) := h.askReg
@[simp] theorem Upholds.sleepNow {sid v} : Upholds a (sleepNow sid v s) := h.askReg
@[simp] theorem Upholds.updActivate {sid v} : Upholds a (updActivate sid v s) := h.askReg
@[simp] theorem Upholds.updConfirm {sid v} : Upholds a (updConfirm sid v s) := h.askReg
@[simp] theorem Upholds.updRevert {sid v} : Upholds a (updRevert sid v s) := h.askReg
@[simp] theorem Upholds.bwcfgWrite {sid v} : Upholds a (bwcfgWrite sid v s) := h.askReg

/-! ### Events of the sensing chapter (chapter 05) -/

@[simp] theorem Upholds.mclkPadFault {m} : Upholds a (mclkPadFault m s) := by
  refine .ite ?_ h
  split
  · exact h.onSens.latch
  · exact h.onSens.latch.fold fun _ _ h' => .dite (fun _ => h'.loseIc) fun _ => h'

theorem Upholds.countLoss {ch} : Upholds a (countLoss s ch) := .dite (fun _ => h.onGrate) fun _ => h.onSens

@[simp] theorem Upholds.longLoss {ch} : Upholds a (longLoss ch s) := by
  unfold Machine.longLoss
  split
  · exact h
  · exact .ite h.countLoss.tamper h

theorem Upholds.onFg {n f} : Upholds a (s.onFg n f) := h.onSens

@[simp] theorem Upholds.fgFault {n kind} : Upholds a (fgFault n kind s) := by
  unfold Machine.fgFault
  exact .ite (by split <;> exact (Upholds.ite h.latch.logEv h.latch).onFg.latch) h

@[simp] theorem Upholds.fgRetry {n} : Upholds a (fgRetry n s) := by
  unfold Machine.fgRetry
  split
  · exact .ite h.onFg h
  · exact h

@[simp] theorem Upholds.fgBack {n} : Upholds a (fgBack n s) := .ite h.magKeep.onFg h

theorem Upholds.magTrigger {src} : Upholds a (s.magTrigger src) := by
  unfold State.magTrigger
  exact (Upholds.ite h.logEv h.logEv.tamper).onSens

@[simp] theorem Upholds.magField {n} : Upholds a (magField n s) := .ite h.magTrigger h
@[simp] theorem Upholds.magSat {n} : Upholds a (magSat n s) := .ite h.magTrigger h
@[simp] theorem Upholds.magEnd : Upholds a (magEnd s) := .ite h.onSens h

@[simp] theorem Upholds.trackOpen {c} : Upholds a (trackOpen c s) := by
  unfold Machine.trackOpen
  split
  · exact h
  · exact .ite h.onSens h

@[simp] theorem Upholds.trackEnd {c} : Upholds a (trackEnd c s) := by
  unfold Machine.trackEnd
  split
  · exact .ite (.ite ((Upholds.ite h.onSens.logEv h.onSens).magTrigger) (.ite h.onSens.logEv h.onSens)) h
  · exact h

@[simp] theorem Upholds.tempStale {m} : Upholds a (tempStale m s) := by
  unfold Machine.tempStale
  split
  · exact h
  · exact .ite h.onGrate h

/-! ### Ports, sessions and sluices without a frame (R12, R49, R105) -/

@[simp] theorem Upholds.reqAborted {p} : Upholds a (reqAborted p s) := by
  unfold Machine.reqAborted
  exact .ite h.onHost.dropFrame h.onHost

@[simp] theorem Upholds.partialDrop : Upholds a (partialDrop s) := by
  unfold Machine.partialDrop
  exact .ite h.onHost.dropFrame h.onHost

@[simp] theorem Upholds.openingOut {sid} : Upholds a (openingOut sid s) := by
  unfold Machine.openingOut
  split
  · exact .ite h.closeSession h
  · exact h

@[simp] theorem Upholds.idleOut {sid} : Upholds a (idleOut sid s) := by
  unfold Machine.idleOut
  split
  · exact .ite h.closeSession h
  · exact h

@[simp] theorem Upholds.portRestart {p} : Upholds a (portRestart p s) := .ite h.restartPort h

/-! ### TRIP lines (R133, R351, R353) -/

@[simp] theorem Upholds.tripAssert {n} : Upholds a (tripAssert n s) := by
  refine .ite ?_ h
  split
  · exact h.onGrate.latch
  · exact .ite h.onGrate.latch.bump.dropAll.safeOff h.onGrate.latch.bump.dropAll

@[simp] theorem Upholds.tripClear {n} : Upholds a (tripClear n s) := .ite h.onGrate h

/-! ### A tick of the clock (log entry 1) -/

theorem Upholds.tick : Upholds a s.tick := by
  refine .maybe h fun h => Upholds.bump (.unless (.unless (.unless h.onClock fun k => k.onPwr) fun k => ?_) fun k => k.bump)
  exact k.draw.bump.bump

end Sys2Proof.Machine
end

section
/-!
O5, O7, the first part of O8 and the first part of O21: the walk over the operations taken together. LIFECYCLE alone begins a transition; it has
its own case.
-/

namespace Sys2Proof.Machine

/-! ### LIFECYCLE (R53, R54, R56) -/

/-- A transition of R53 leads forward. -/
theorem lifeTarget_forward {x y : LifeState} {target : Nat} (h : lifeTarget x target = some y) : x.rank < y.rank := by
  unfold lifeTarget at h
  split at h <;> cases h <;> decide

/-- The state that a transition writes before its reset (R56, R57). -/
def State.changed (s : State) (x : LifeState) : State :=
  let s1 := (s.orderlySave).forget
  let s2 : State := { s1 with life := { s1.life with state := x, inTransit := none, transitions := s1.life.transitions + 1,
                                                     rootFused := if x = .scrapped then 0 else x.num, nonce := none } }
  if x = .returned then s2.onTag Tag.returned else s2

theorem State.transition_eq (s : State) (x : LifeState) : s.transition x = (s.changed x).coldReset 6 := rfl

/-- Before its reset a transition has written its target state, and none is under way. -/
theorem State.changed_life (s : State) (x : LifeState) : (s.changed x).life.state = x ∧ (s.changed x).life.inTransit = none := by
  unfold State.changed
  dsimp only
  split <;> exact ⟨rfl, rfl⟩

/-- What a transition writes keeps the invariant, and makes no session. -/
theorem State.changed_inv {s : State} (x : LifeState) (i : s.Inv) : (s.changed x).Inv := by
  have j : s.orderlySave.forget.Inv := (Upholds.refl s).orderlySave.forget.inv i
  unfold State.changed
  dsimp only
  split
  · exact { j with tagMem := Tag.wf_returned j.tagMem, transit := fun _ e => by cases e }
  · exact { j with transit := fun _ e => by cases e }

theorem State.changed_noP0 {s : State} (x : LifeState) (p : NoP0 s.host.table) : NoP0 (s.changed x).host.table := by
  have q : NoP0 s.orderlySave.forget.host.table := (Upholds.refl s).orderlySave.forget.noP0 p
  unfold State.changed
  dsimp only
  split <;> exact q

/-- A transition ends in its target state. -/
theorem State.transition_state (s : State) (x : LifeState) : (s.transition x).life.state = x := by
  obtain ⟨state, inTransit⟩ := s.changed_life x
  have k : LifeStep (s.changed x).life (s.transition x).life := (Upholds.refl (s.changed x)).coldReset.life
  rcases k.state with e | e
  · rw [e, state]
  · rw [inTransit] at e; cases e

/-- The nonce is gone, whatever else LIFECYCLE does. -/
def State.spent (s : State) : State := { s with life := { s.life with nonce := none } }

theorem Upholds.spent (s : State) : Upholds s s.spent := (Upholds.refl s).step

/-- LIFECYCLE begins no transition, or makes one that the table of R53 allows, to RETURNED only with an authorisation (R54). -/
theorem lifecycle_cases (j : Slot) (target : Nat) (auth : ReturnAuth) (s : State) :
    Upholds s (lifecycle j target auth s) ∨
    ∃ x, lifeTarget s.life.state target = some x ∧ (x = .returned → s.returnOk auth = true) ∧ lifecycle j target auth s = s.spent.transition x := by
  have fin {e : Nat} : Upholds s (s.spent.finishJob j e) := (Upholds.spent s).finishJob
  unfold lifecycle
  split
  · dsimp only
    split
    · exact .inl fin
    · split
      · exact .inl fin
      · split
        · exact .inl fin
        next x hx =>
          split
          · exact .inl fin
          · split
            · exact .inl fin
            next ok => exact .inr ⟨x, hx, fun e => by simpa [e] using ok, rfl⟩
  · exact .inl (Upholds.refl s)

/-- No output has a session. -/
theorem State.any_veh_session {s : State} (h : ∀ o : Output, (s.seqr.outs[o]).sid = none) :
    ((idx 6).any fun o => (s.seqr.outs[o]).sid.isSome) = false :=
  List.any_eq_false.mpr fun o _ => by rw [h o]; simp

/-- LIFECYCLE makes a transition that the table allows, where nothing is in the way. -/
theorem lifecycle_makes {j : Slot} {target : Nat} {auth : ReturnAuth} {s : State} {x : LifeState} (turn : s.jobTurn j 0x24 = true)
    (grant : s.lifeGrant (s.job j).polder false = true) (hx : lifeTarget s.life.state target = some x)
    (sessions : ∀ o : Output, (s.seqr.outs[o]).sid = none) (update : s.updateExists = false) (auth' : x = .returned → s.returnOk auth = true) :
    lifecycle j target auth s = s.spent.transition x := by
  have code : ¬(target ≠ 3 ∧ target ≠ 4) := by
    unfold lifeTarget at hx
    split at hx
    · omega
    · omega
    · omega
    · cases hx
  have ok : ¬(x = .returned ∧ s.returnOk auth = false) := fun ⟨e, f⟩ => by rw [auth' e] at f; cases f
  simp only [lifecycle, turn, grant, hx, State.any_veh_session sessions, update, if_neg code, if_neg ok]
  rfl

/-! ### Every command, and the step -/

/-- Every command but LIFECYCLE upholds: each goes to the lemma of its own operation. -/
theorem exec_upholds (c : Instr) {s t : State} (hc : ∀ j target auth, c ≠ .lifecycle j target auth) (h : exec c s = .next t) : Upholds s t := by
  cases c
  case lifecycle j target auth => exact (hc j target auth rfl).elim
  all_goals
    obtain rfl := Host.Outcome.next.inj h
    simp

/-- Every command upholds, or is a LIFECYCLE that makes a transition. -/
theorem exec_cases (c : Instr) {s t : State} (h : exec c s = .next t) :
    Upholds s t ∨
    ∃ j target auth x, c = .lifecycle j target auth ∧ lifeTarget s.life.state target = some x ∧ (x = .returned → s.returnOk auth = true) ∧
      t = s.spent.transition x := by
  cases c
  case lifecycle j target auth =>
    obtain rfl := Host.Outcome.next.inj h
    exact (lifecycle_cases j target auth s).imp_right fun ⟨x, hx, ok, e⟩ => ⟨j, target, auth, x, rfl, hx, ok, e⟩
  all_goals exact .inl (exec_upholds _ (by intros; simp) h)

/-- Every command keeps the invariant. -/
theorem exec_inv (c : Instr) {s t : State} (h : exec c s = .next t) (i : s.Inv) : t.Inv := by
  rcases exec_cases c h with k | ⟨j, target, auth, x, -, -, -, rfl⟩
  · exact k.inv i
  · exact (Upholds.refl _).coldReset.inv (State.changed_inv x ((Upholds.spent s).inv i))

/-- No command runs the life cycle backward. -/
theorem exec_rank_le (c : Instr) {s t : State} (h : exec c s = .next t) (i : s.Inv) : s.life.state.rank ≤ t.life.state.rank := by
  rcases exec_cases c h with k | ⟨j, target, auth, x, -, hx, -, rfl⟩
  · exact k.life.rank_le i.transit
  · rw [State.transition_state]
    exact Nat.le_of_lt (lifeTarget_forward hx)

/-- No command makes a session of P0. -/
theorem exec_noP0 (c : Instr) {s t : State} (h : exec c s = .next t) (p : NoP0 s.host.table) : NoP0 t.host.table := by
  rcases exec_cases c h with k | ⟨j, target, auth, x, -, -, -, rfl⟩
  · exact k.noP0 p
  · exact (Upholds.refl _).coldReset.noP0 (State.changed_noP0 x ((Upholds.spent s).noP0 p))

/-- The step is a tick of the clock, which upholds, or the command at the front of the queue, in a state that has its parts. -/
theorem step_cases {s t : State} (h : step s = .next t) :
    Upholds s t ∨ ∃ c u, exec c u = .next t ∧ Upholds s u := by
  unfold step at h
  split at h
  · obtain rfl := Host.Outcome.next.inj h
    exact .inl (Upholds.refl s).tick
  next c rest _ => exact .inr ⟨c, _, h, (Upholds.refl s).step⟩

/-- Settles O5: each operation of the model keeps the invariant. -/
theorem stepKeepsInv : Obligations.StepKeepsInv := by
  unfold Obligations.StepKeepsInv
  intro s t i h
  rcases step_cases h with k | ⟨c, u, hu, k⟩
  · exact k.inv i
  · exact exec_inv c hu (k.inv i)

/-- Settles O7: a life cycle goes on to the target of a transition under way, which the invariant has forward, or by LIFECYCLE, whose table does. -/
theorem lifeNeverBackward : Obligations.LifeNeverBackward := by
  unfold Obligations.LifeNeverBackward
  intro s t i h
  rcases step_cases h with k | ⟨c, u, hu, k⟩
  · exact k.life.rank_le i.transit
  · exact Nat.le_trans (k.life.rank_le i.transit) (exec_rank_le c hu (k.inv i))

end Sys2Proof.Machine
end

section
/-! O8: a HELLO that names P0. -/

namespace Sys2Proof.Machine

/-- A session of the table is a host session of the ID. -/
theorem State.noP0_iff (s : State) : NoP0 s.host.table ↔ ∀ i h, s.anySession i = some h → h.polder ≠ 0 := by
  constructor
  · intro p i h e
    refine p i h ?_
    unfold State.anySession at e
    split at e
    next x hx => cases e; exact hx
    · cases e
  · intro p i h e
    refine p i h ?_
    unfold State.anySession State.sidUse
    rw [e]

/-- A flush takes no index. -/
@[simp] theorem EventLog.flush_next (l : EventLog) : l.flush.next = l.next := by
  unfold EventLog.flush
  split <;> rfl

/-- A staged entry takes one index. -/
@[simp] theorem EventLog.stage_next (l : EventLog) (e : LogEntry) : (l.stage e).next = l.next + 1 := by
  simp [EventLog.stage, apply_ite EventLog.next]

/-- An event is written at the next index, or folded (R529). -/
theorem State.logEv_next_or_folded (s : State) (ev : Ev) (inst polder origin x y : Nat) :
    (s.logEv ev inst polder origin x y).log.next = s.log.next + 1 ∨
    (s.logEv ev inst polder origin x y).log.folded = min 65535 (s.log.folded + 1) := by
  unfold State.logEv
  dsimp only
  split
  · exact .inl (by simp [State.logRaw])
  · exact .inr (by simp [satAdd])

/-- A response outside a session's seal leaves the log alone. -/
@[simp] theorem State.plain_log (s : State) (f : Frame) (sid status : Nat) (payload : List W64) : (s.plain f sid status payload).log = s.log := by
  unfold State.plain State.respond
  dsimp only
  (repeat' split) <;> simp

/-- A HELLO that names P0, with room and in no back-off, is logged and answered DENIED (R37). -/
theorem State.helloNow_p0 (s : State) (f : Frame) (recovery : s.pwr.recovery = false) (idle : s.hearthBusy = false)
    (room : s.sidCount SidUse.isHost < 32) (opening : s.openingOn f.port < 4) (p0 : helloPolder (f.payload.headD 0).toNat = 0)
    (back : ∀ t, (s.backoffOf f.port 0).until_ = some t → t ≤ s.clock.tb) :
    s.helloNow f = (s.logEv .openP0 0 0 0 f.port.1 0).plain f 0 DENIED [] := by
  have q : SidUse.quota (.host (newSession f [] 0)) = 32 := rfl
  have b : ((s.backoffOf f.port 0).until_.any fun t => decide (s.clock.tb < t)) = false := by
    cases e : (s.backoffOf f.port 0).until_ with
    | none => rfl
    | some t => simpa using back t e
  simp only [State.helloNow, p0]
  simp [recovery, idle, b, q, Nat.not_le.mpr room, Nat.not_le.mpr opening]

/-- Settles O8: the walk over the operations shows that no command makes a session of P0; the open request is followed through its answer. -/
theorem noSessionIsP0 : Obligations.NoSessionIsP0 := by
  unfold Obligations.NoSessionIsP0
  constructor
  · intro c s t h p
    rw [← State.noP0_iff] at p ⊢
    exact exec_noP0 c h p
  · intro f s _ takes recovery idle room opening p0 back
    have e : hostHello f s = ((s.taken f).logEv .openP0 0 0 0 f.port.1 0).plain f 0 DENIED [] := by
      unfold hostHello
      rw [State.intake_takes takes]
      refine State.helloNow_p0 _ f ?_ ?_ ?_ ?_ p0 ?_
      · simpa [State.taken] using recovery
      · simpa [State.taken, State.hearthBusy] using idle
      · simpa [State.taken, State.sidCount] using room
      · simpa [State.taken, State.openingOn, State.sidCount] using opening
      · simpa [State.taken, State.backoffOf] using back
    obtain ⟨r, resp, status, -⟩ := State.respond_resp ((s.taken f).logEv .openP0 0 0 0 f.port.1 0) f 0 DENIED 0 [] false none
    refine ⟨hostHello f s, r, rfl, ?_, status, ?_, ?_⟩
    · rw [e]; exact resp
    · rw [e]; unfold State.plain; rw [State.respond_host]; simp [State.taken]
    · rw [e, State.plain_log]
      simpa [State.taken] using (s.taken f).logEv_next_or_folded .openP0 0 0 0 f.port.1 0

end Sys2Proof.Machine
end

section
/-! O21: the authorisation of a return. -/

namespace Sys2Proof.Machine

/-- What an authorisation that holds says (R54): it names the nonce issued within the last 600 s, and both signatures verify. -/
theorem State.returnOk_elim {s : State} {auth : ReturnAuth} (h : s.returnOk auth = true) :
    ∃ n b, s.life.nonce = some (n, b) ∧ auth.nonce = n ∧ s.clock.tb < b + 600 * tbSecond ∧
      ecdsaVerify (Config.jodituKey 0) (returnDigest s.life.serial n) auth.ecdsa = true ∧
      hssVerify (Config.jodituLms 0) (returnDigest s.life.serial n) auth.lms = true := by
  unfold State.returnOk at h
  split at h
  next n b e =>
    simp only [Bool.and_eq_true, beq_iff_eq, decide_eq_true_eq] at h
    obtain ⟨⟨⟨nonce, time⟩, ecdsa⟩, lms⟩ := h
    exact ⟨n, b, e, nonce, time, ecdsa, lms⟩
  · cases h

/-- Only code 3 leads to RETURNED, from FIELD. -/
theorem lifeTarget_returned {x : LifeState} {target : Nat} (h : lifeTarget x target = some .returned) : target = 3 := by
  unfold lifeTarget at h
  split at h
  · rfl
  · cases h
  · cases h
  · cases h

/-- Settles O21: with no transition under way the life cycle changes by LIFECYCLE alone, and to RETURNED only past `returnOk`. -/
theorem returnNeedsAuthorisation : Obligations.ReturnNeedsAuthorisation := by
  unfold Obligations.ReturnNeedsAuthorisation
  constructor
  · intro c s t h field quiet returned
    rcases exec_cases c h with k | ⟨j, target, auth, x, rfl, hx, ok, rfl⟩
    · rcases k.life.state with e | e
      · rw [e, field] at returned; cases returned
      · rw [quiet] at e; cases e
    · rw [State.transition_state] at returned
      subst returned
      obtain ⟨n, b, nonce, names, time, ecdsa, lms⟩ := State.returnOk_elim (ok rfl)
      exact ⟨j, auth, n, b, by rw [lifeTarget_returned hx], nonce, names, time, ecdsa, lms⟩
  · intro j auth s turn grant life sessions update
    refine ⟨_, rfl, ?_⟩
    have e : lifeTarget s.life.state 4 = some .scrapped := by
      rcases life with e | e <;> rw [e] <;> rfl
    show (lifecycle j 4 auth s).life.state = .scrapped
    rw [lifecycle_makes turn grant e sessions update (fun k => by cases k), State.transition_state]

end Sys2Proof.Machine
end

section
/-!
The chains of parents in the Key Register (R73): the fuel of `reaches` covers every chain, since a slot that a chain reaches is reached within as
many links as there are slots; and what orphaning, filling and using do to each slot.
-/

namespace Sys2Proof.Machine

/-! ### Chains of parents -/

section
variable {v w : Vector KeySlot 256} {n c : Fin 256}

/-- One link: the parent of a slot. -/
def parentOf (v : Vector KeySlot 256) (c : Fin 256) : Fin 256 := Fin.ofNat 256 v[c].parent

/-- A slot has a parent, recorded with the generation that the parent has now. -/
def linked (v : Vector KeySlot 256) (c : Fin 256) : Prop := v[c].hasParent = true ∧ v[parentOf v c].gen = v[c].parentGen

/-- A slot reaches another in some links where its parent is that slot or reaches it in one link less. -/
theorem reaches_succ (f : Nat) :
    reaches v n (f + 1) c = true ↔ linked v c ∧ (parentOf v c = n ∨ reaches v n f (parentOf v c) = true) := by
  rw [reaches]
  unfold linked parentOf
  dsimp only
  split
  next p => simp only [Bool.and_eq_true, beq_iff_eq, Bool.or_eq_true, p, true_and]; exact Iff.rfl
  next p => simp only [Bool.false_eq_true, p, false_and]

/-- A slot reached in some links is reached within one more. -/
theorem reaches_mono {f : Nat} (h : reaches v n f c = true) : reaches v n (f + 1) c = true := by
  induction f generalizing c with
  | zero => cases h
  | succ f ih =>
    rw [reaches_succ] at h ⊢
    exact ⟨h.1, h.2.imp_right ih⟩

/-- The slots that reach a slot within some links. -/
def reached (v : Vector KeySlot 256) (n : Fin 256) (f : Nat) : Finset (Fin 256) := Finset.univ.filter fun c => reaches v n f c = true

theorem mem_reached {f : Nat} : c ∈ reached v n f ↔ reaches v n f c = true := by simp [reached]

theorem reached_subset (f : Nat) : reached v n f ⊆ reached v n (f + 1) := fun _ h => mem_reached.mpr (reaches_mono (mem_reached.mp h))

/-- Where one more link reaches no more slots, none further does. -/
theorem reached_stable {f : Nat} (h : reached v n f = reached v n (f + 1)) : reached v n (f + 1) = reached v n (f + 2) := by
  have k (c : Fin 256) : reaches v n f c = true ↔ reaches v n (f + 1) c = true := by rw [← mem_reached, h, mem_reached]
  ext c
  rw [mem_reached, mem_reached, reaches_succ, reaches_succ, k]

/-- As many links as there are slots reach every slot that any number reaches. -/
theorem reaches_256 {f : Nat} (h : reaches v n f c = true) : reaches v n 256 c = true := by
  have mono : Monotone (reached v n) := monotone_nat_of_le_succ reached_subset
  rcases Nat.le_total f 256 with le | le
  · exact mem_reached.mp (mono le (mem_reached.mpr h))
  · have card : (reached v n f).card = (reached v n 256).card :=
      Nat.stabilises_of_monotone (f := fun f => (reached v n f).card) (b := 256) (fun _ _ k => Finset.card_le_card (mono k))
        (fun f => by simpa using Finset.card_le_univ (reached v n f))
        (fun f k => congrArg _ (reached_stable (Finset.eq_of_subset_of_card_le (reached_subset f) (Nat.le_of_eq k.symm)))) le
    rw [← mem_reached, Finset.eq_of_subset_of_card_le (mono le) (Nat.le_of_eq card), mem_reached]
    exact h

/-- The model's `reaches` is descent (R73). -/
theorem reaches_iff_descends : reaches v n 256 c = true ↔ Descends v n c := by
  constructor
  · generalize 256 = f
    intro h
    induction f generalizing c with
    | zero => cases h
    | succ f ih =>
      rw [reaches_succ] at h
      obtain ⟨⟨parent, gen⟩, h⟩ := h
      rcases h with e | h
      · exact .child c parent e (by rw [← e]; exact gen)
      · exact .deeper c _ parent rfl gen (ih h)
  · intro h
    suffices k : ∃ f, reaches v n f c = true from k.elim fun f => reaches_256
    induction h with
    | child c parent e gen => exact ⟨1, (reaches_succ 0).mpr ⟨⟨parent, by subst e; exact gen⟩, .inl e⟩⟩
    | deeper c p parent e gen _ ih =>
      obtain ⟨f, ih⟩ := ih
      have e : parentOf v c = p := e
      exact ⟨f + 1, (reaches_succ f).mpr ⟨⟨parent, by subst e; exact gen⟩, .inr (by subst e; exact ih)⟩⟩

/-- The descendants of a slot are the other slots in use that descend from it. -/
theorem mem_descendants : c ∈ descendants v n ↔ v[c].state ≠ .empty ∧ c ≠ n ∧ Descends v n c := by
  simp [descendants, idx, reaches_iff_descends, and_assoc]

/-- Descent asks only for the links and the generations of the slots. -/
theorem reaches_congr (links : ∀ c : Fin 256, v[c].hasParent = w[c].hasParent ∧ v[c].parent = w[c].parent ∧ v[c].gen = w[c].gen ∧
    v[c].parentGen = w[c].parentGen) (f : Nat) : reaches v n f c = reaches w n f c := by
  induction f generalizing c with
  | zero => rfl
  | succ f ih =>
    have ⟨hasParent, parent, _, parentGen⟩ := links c
    have ⟨_, _, gen, _⟩ := links (Fin.ofNat 256 w[c].parent)
    simp only [reaches, hasParent, parent, parentGen, gen, ih]

theorem descendants_congr (links : ∀ c : Fin 256, v[c].hasParent = w[c].hasParent ∧ v[c].parent = w[c].parent ∧ v[c].gen = w[c].gen ∧
    v[c].parentGen = w[c].parentGen) (empty : ∀ c : Fin 256, v[c].state = .empty ↔ w[c].state = .empty) :
    descendants v n = descendants w n := by
  have state (c : Fin 256) : (v[c].state != .empty) = (w[c].state != .empty) := by
    rw [Bool.eq_iff_iff, bne_iff_ne, bne_iff_ne, Ne, Ne, empty]
  unfold descendants
  simp only [reaches_congr links, state]

end

/-! ### Orphaning, filling and using, slot by slot -/

/-- Only a VALID key may be used. -/
theorem KeySlot.valid_of_refusal {k : KeySlot} {engine tb : Nat} (h : k.refusal engine tb = none) : k.state = .valid := by
  unfold KeySlot.refusal at h
  split at h
  · cases h
  · split at h
    · cases h
    · split at h
      · cases h
      next valid => exact not_not.mp valid

section
variable (s : State) (n c : Fin 256)

/-- Every descendant of a slot becomes ORPHAN; every other slot stays. -/
theorem State.orphanFrom_slot :
    (s.orphanFrom n).2.slot c = if c ∈ descendants s.keys.slots n then { s.slot c with state := .orphan } else s.slot c := by
  have fold : ∀ (l : List (Fin 256)) (v : Vector KeySlot 256),
      (l.foldl (fun v c => upd v c (fun x => { x with state := .orphan })) v)[c] = if c ∈ l then { v[c] with state := .orphan } else v[c] := by
    intro l
    induction l with
    | nil => intro v; simp
    | cons d l ih =>
      intro v
      rw [List.foldl_cons, ih]
      by_cases hd : d = c
      · subst hd
        rw [upd_same, if_pos List.mem_cons_self]
        split <;> rfl
      · rw [upd_other _ _ _ _ hd]
        simp only [List.mem_cons, Ne.symm hd, false_or]
  exact fold _ _

/-- An emptied slot takes its descendants with it. -/
theorem State.emptySlot_slot_other {n c : Fin 256} (hc : c ≠ n) : (s.emptySlot n).2.slot c = (s.orphanFrom n).2.slot c := by
  unfold State.emptySlot
  rw [State.onSlot_slot, if_neg (Ne.symm hc)]

/-- A slot is filled one generation on, VALID and not yet used. -/
theorem State.fillSlot_slot (k : KeySlot) : ∃ share,
    (s.fillSlot n k).2.slot n = { k with gen := (s.slot n).gen + 1, state := .valid, count := 0, share := share, useBoundary := 64 } := by
  unfold State.fillSlot
  exact ⟨_, by rw [State.onSlot_slot, if_pos rfl]⟩

/-- A filled slot takes its old descendants with it. -/
theorem State.fillSlot_slot_other {n c : Fin 256} (hc : c ≠ n) (k : KeySlot) : (s.fillSlot n k).2.slot c = (s.orphanFrom n).2.slot c := by
  unfold State.fillSlot
  rw [State.onSlot_slot, if_neg (Ne.symm hc)]
  exact State.slot_of_keys (by simp) c

/-- How many slots filling a slot orphans. -/
theorem State.fillSlot_orphans (k : KeySlot) : (s.fillSlot n k).1 = (descendants s.keys.slots n).length := rfl

/-- A use changes no descendants: it changes no link, and a slot that it uses is VALID before and not EMPTY after. -/
theorem State.keyUse_descendants (m : Fin 256) (engine polder : Nat) :
    descendants (s.keyUse m engine polder).2.keys.slots n = descendants s.keys.slots n := by
  have k (c : Fin 256) := s.keyUse_slot m c engine polder
  unfold State.slot at k
  apply descendants_congr
  · intro c
    rw [k]
    split <;> simp [KeySlot.used]
  · intro c
    rw [k]
    split
    next u =>
      obtain ⟨rfl, u⟩ := u
      have valid : (s.keys.slots[m]).state = .valid := KeySlot.valid_of_refusal u
      simp only [KeySlot.used, valid]
      split <;> simp
    · rfl

end

end Sys2Proof.Machine
end
section
/-! What the ends of a job do to the job slots, job by job. -/

namespace Sys2Proof.Machine

section
variable {s : State} {j : Fin 16}

/-- Job `k` after a change of job `j`. -/
theorem State.onJob_job (s : State) (j k : Fin 16) (f : Job → Job) : (s.onJob j f).job k = if j = k then f (s.job k) else s.job k := by
  split
  case isTrue h => subst h; exact upd_same ..
  case isFalse h => exact upd_other _ _ _ _ h

@[simp] theorem State.onJob_job_self (s : State) (j : Fin 16) (f : Job → Job) : (s.onJob j f).job j = f (s.job j) := by simp [State.onJob_job]

theorem State.onJob_job_other {j k : Fin 16} (h : k ≠ j) (s : State) (f : Job → Job) : (s.onJob j f).job k = s.job k := by
  simp [State.onJob_job, h.symm]

/-- The jobs are a part of the state. -/
theorem State.job_of_jobs {s t : State} (h : t.jobs = s.jobs) (k : Fin 16) : t.job k = s.job k := by
  unfold State.job
  rw [h]

/-- A job that waits or runs. -/
def Job.live (b : Job) : Prop := b.state = .queued ∨ b.state = .running

/-- A job that has ended, with an error or done. -/
def Job.ended (b : Job) (err tb : Nat) : Job :=
  { b with state := if err = 0 then .done else .failed, error := err, progress := if err = 0 then 1000 else b.progress,
           cancellable := false, finishTb := tb, seen := false, input := [] }

/-- A job with one partial record more. -/
def Job.recorded (b : Job) (type : Nat) (words : List W64) : Job := { b with records := b.records ++ [{ type, words }] }

theorem Job.not_over {b : Job} (l : b.live) : ¬(b.state ≠ .queued ∧ b.state ≠ .running) := fun ⟨q, r⟩ => l.elim q r

/-- A job whose turn has come waits, and has the code of its command. -/
theorem State.queued_of_jobTurn {code : Nat} (h : s.jobTurn j code = true) : (s.job j).state = .queued ∧ (s.job j).code = code := by
  unfold State.jobTurn State.queuedJob at h
  simp only [Bool.and_eq_true, beq_iff_eq] at h
  exact h.1

/-- A live job ends. -/
theorem State.finishJob_eq (l : (s.job j).live) (err : Nat) : s.finishJob j err = s.onJob j (·.ended err s.clock.tb) := by
  unfold State.finishJob
  rw [if_neg (Job.not_over l)]
  rfl

/-- A live job gets a record that fits. -/
theorem State.addRecord_eq {type : Nat} {words : List W64} (l : (s.job j).live) (fits : (s.job j).fits { type, words } = true) :
    s.addRecord j type words = s.onJob j (·.recorded type words) := by
  unfold State.addRecord
  dsimp only
  rw [if_neg (Job.not_over l), if_pos fits]
  rfl

/-- A first record of a few words fits. -/
theorem Job.fits_first {b : Job} {type : Nat} {words : List W64} (e : b.records = []) (w : words.length ≤ 2) : b.fits { type, words } = true := by
  simp [Job.fits, Job.resultWords, JobRecord.size, e]
  omega

/-- A live job without records ends done with one. -/
theorem State.addRecord_finishJob {type : Nat} {words : List W64} (l : (s.job j).live) (e : (s.job j).records = []) (w : words.length ≤ 2) :
    (s.addRecord j type words).finishJob j 0 = (s.onJob j (·.recorded type words)).onJob j (·.ended 0 s.clock.tb) := by
  rw [State.addRecord_eq l (Job.fits_first e w), State.finishJob_eq (by rw [State.onJob_job_self]; exact l)]
  rfl

end

end Sys2Proof.Machine
end

section
/-! O16, O18: the jobs that fill and empty key slots. -/

namespace Sys2Proof.Machine

/-! ### A key is used and a slot filled -/

/-- A key that may be used is used. -/
theorem State.keyUse_none {s : State} {n : Fin 256} {engine : Nat} (h : (s.slot n).refusal engine s.clock.tb = none) (polder : Nat) :
    (s.keyUse n engine polder).1 = none := by
  unfold State.keyUse
  rw [h]

/-- From `s` to `t` key `m` was used, and slot `n` was filled with the parts of `k`, one generation on: its descendants are ORPHAN, every other slot
but the one whose key was used is as it was. -/
structure State.Fills (s t : State) (m n : Fin 256) (k : KeySlot) : Prop where
  filled : ∃ share, t.slot n = { k with gen := (s.slot n).gen + 1, state := .valid, count := 0, share := share, useBoundary := 64 }
  orphans : ∀ c, c ∈ descendants s.keys.slots n → (t.slot c).state = .orphan
  others : ∀ c, c ≠ n → c ≠ m → c ∉ descendants s.keys.slots n → t.slot c = s.slot c

theorem State.Fills.of_slots {s t u : State} {m n : Fin 256} {k : KeySlot} (f : s.Fills t m n k) (e : ∀ c, u.slot c = t.slot c) : s.Fills u m n k := by
  constructor
  · simpa only [e] using f.filled
  · simpa only [e] using f.orphans
  · simpa only [e] using f.others

theorem State.Fills.gen {s t : State} {m n : Fin 256} {k : KeySlot} (f : s.Fills t m n k) : (t.slot n).gen = (s.slot n).gen + 1 := by
  obtain ⟨_, h⟩ := f.filled
  exact congrArg KeySlot.gen h

/-- A use of a key and the filling of a slot. -/
theorem State.fills (s : State) (m n : Fin 256) (engine polder : Nat) (k : KeySlot) : s.Fills ((s.keyUse m engine polder).2.fillSlot n k).2 m n k := by
  have d : ∀ c, c ∈ descendants (s.keyUse m engine polder).2.keys.slots n ↔ c ∈ descendants s.keys.slots n := fun c => by
    rw [State.keyUse_descendants]
  constructor
  · obtain ⟨share, h⟩ := (s.keyUse m engine polder).2.fillSlot_slot n k
    rw [State.keyUse_gen] at h
    exact ⟨share, h⟩
  · intro c hc
    obtain ⟨-, other, -⟩ := mem_descendants.mp hc
    rw [State.fillSlot_slot_other _ other, State.orphanFrom_slot, if_pos ((d c).mpr hc)]
  · intro c other used hc
    rw [State.fillSlot_slot_other _ other, State.orphanFrom_slot, if_neg fun h => hc ((d c).mp h), State.keyUse_slot_other s used]

/-- A slot with a new key is reported by an entry and a record; no slot changes by that. -/
theorem State.keyFilled_slot (s : State) (j : Slot) (n : Fin 256) (orphans : Nat) (c : Fin 256) : (s.keyFilled j n orphans).slot c = s.slot c :=
  State.slot_of_keys (by simp [State.keyFilled]) c

@[simp] theorem State.keyFilled_tag (s : State) (j : Slot) (n : Fin 256) (orphans : Nat) : (s.keyFilled j n orphans).tag = s.tag := by
  simp [State.keyFilled]

/-- The job of a new key ends done, with a record of the generation and of how many slots were orphaned; the other jobs stay. -/
theorem State.keyFilled_jobs {s t : State} {j : Slot} {n : Fin 256} {gen orphans : Nat} (jobs : ∀ k, t.job k = s.job k)
    (queued : (s.job j).state = .queued) (empty : (s.job j).records = []) (hg : (t.slot n).gen = gen) :
    ((t.keyFilled j n orphans).job j).state = .done ∧ ((t.keyFilled j n orphans).job j).error = 0 ∧
    ((t.keyFilled j n orphans).job j).records = [⟨(s.job j).code, [w64 (gen % 2 ^ 32 + orphans * 2 ^ 32)]⟩] ∧
    ∀ k, k ≠ j → (t.keyFilled j n orphans).job k = s.job k := by
  have same (k : Slot) {p c x : Nat} : (t.logEv .keyChange n.1 p 0 c x).job k = s.job k := by
    rw [← jobs k]
    exact State.job_of_jobs (by simp) k
  unfold State.keyFilled
  dsimp only
  rw [State.addRecord_finishJob (by rw [same]; exact .inl queued) (by rw [same]; exact empty) (by simp)]
  simp only [State.onJob_job_self, same, jobs, hg]
  refine ⟨rfl, rfl, by simp [Job.ended, Job.recorded, empty], fun k hk => ?_⟩
  rw [State.onJob_job_other hk, State.onJob_job_other hk, same]

/-! ### KEY_DERIVE (R69) -/

/-- What KEY_DERIVE puts into its slot. -/
def State.derivedKey (s : State) (j : Slot) (p : DeriveParams) : KeySlot :=
  { KeySlot.reset with
      kind := p.kind, engines := p.engines.toNat, grant := (s.job j).polder, legacy := p.legacy.toNat, parent := p.parent.1,
      hasParent := true, parentGen := (s.slot p.parent).gen, limit := p.limit.toNat, expiry := clampExpiry (s.slot p.parent).expiry p.expiry.toNat,
      key := childKey (s.slot p.parent).key p.label (deriveContext p.child (s.slot p.parent).gen p.context) p.kind,
      kept := .params p.label p.context }

/-- KEY_DERIVE, where nothing is in the way, uses the parent's key and fills the slot of the child. -/
theorem keyDerive_eq {j : Slot} {p : DeriveParams} {s : State} (turn : s.jobTurn j 0x20 = true) (ok : deriveOk p = true)
    (full : (s.slot p.parent).state ≠ .empty) (grant : (s.slot p.parent).grant = (s.job j).polder)
    (target : s.targetRefusal (s.job j).polder p.child false = none) (still : s.remasking p.child = false)
    (use : (s.slot p.parent).refusal engKDF s.clock.tb = none) :
    keyDerive j p s = ((s.keyUse p.parent engKDF (s.job j).polder).2.fillSlot p.child (s.derivedKey j p)).2.keyFilled j p.child
      (descendants s.keys.slots p.child).length := by
  have mine : s.grantOf p.parent = (s.job j).polder := by rw [State.grantOf, if_neg full, grant]
  rw [← s.keyUse_descendants p.child p.parent engKDF (s.job j).polder]
  simp only [keyDerive, turn, ok, mine, target, still, State.keyUse_none use, if_true, if_false, ne_eq, not_true_eq_false, false_and,
    Bool.not_true, Bool.false_eq_true]
  rfl

/-! ### KEY_IMPORT (R70) -/

/-- What KEY_IMPORT puts into its slot. -/
def State.importedKey (s : State) (j : Slot) (p : ImportParams) (key : Bytes) : KeySlot :=
  { KeySlot.reset with
      kind := p.kind, engines := importEngines p, grant := (s.job j).polder, legacy := p.legacy.toNat, parent := 0, hasParent := true,
      parentGen := (s.slot 0).gen, key, kept := .record }

/-- The tag's key follows slot 5. -/
def State.tagFollows (s : State) (n : Fin 256) (key : Option Bytes) : State := if n.1 = 5 then s.tagKeyOf key else s

theorem State.tagFollows_slot (s : State) (n : Fin 256) (key : Option Bytes) (c : Fin 256) : (s.tagFollows n key).slot c = s.slot c := by
  unfold State.tagFollows
  split <;> rfl

theorem State.tagFollows_job (s : State) (n : Fin 256) (key : Option Bytes) (k : Slot) : (s.tagFollows n key).job k = s.job k := by
  unfold State.tagFollows
  split <;> rfl

/-- KEY_IMPORT, where nothing is in the way, uses the identity key and fills the target. -/
theorem keyImport_eq {j : Slot} {p : ImportParams} {s : State} {key : Bytes} (turn : s.jobTurn j 0x21 = true) (ok : importOk p = true)
    (own : (s.job j).commissioning = true → p.target.1 = 7 + (s.job j).polder)
    (target : s.targetRefusal (s.job j).polder p.target true = none) (still : s.remasking p.target = false)
    (use : (s.slot 1).refusal engECDH s.clock.tb = none) (blob : Config.unwrapBlob (s.slot 1).key p.blob = some key)
    (len : key.length = importBytes p.kind) :
    keyImport j p s = (((s.keyUse 1 engECDH (s.job j).polder).2.fillSlot p.target (s.importedKey j p key)).2.tagFollows p.target (some key)).keyFilled j
      p.target (descendants s.keys.slots p.target).length := by
  have own : ¬((s.job j).commissioning = true ∧ p.target.1 ≠ 7 + (s.job j).polder) := fun ⟨c, n⟩ => n (own c)
  rw [← s.keyUse_descendants p.target 1 engECDH (s.job j).polder]
  simp only [keyImport, turn, ok, if_neg own, target, still, State.keyUse_none use, blob, len, if_true, if_false, ne_eq,
    not_true_eq_false, Bool.not_true, Bool.false_eq_true]
  rfl

/-! ### KEY_INVALIDATE (R73) -/

/-- KEY_INVALIDATE by the polder that holds the grant empties the slot. -/
theorem keyInvalidate_eq {j : Slot} {n : KeySlotNo} {s : State} (turn : s.jobTurn j 0x22 = true) (full : (s.slot n).state ≠ .empty)
    (grant : (s.slot n).grant = (s.job j).polder) (polder : (s.job j).polder ≠ 0) (flue : n.1 ≠ 3) :
    keyInvalidate j n s = ((((s.emptySlot n).2.tagFollows n none).logEv .keyChange n.1 (s.job j).polder 0 (s.job j).code (s.slot n).gen).addRecord j
      0x0022 [w64 (s.emptySlot n).1]).finishJob j 0 := by
  simp only [keyInvalidate, turn, if_true, if_neg (show ¬((s.slot n).state = .empty ∨ (s.slot n).grant ≠ (s.job j).polder ∨
    (s.job j).polder = 0 ∨ n.1 = 3) from fun h => h.elim full fun h => h.elim (fun h => h grant) fun h => h.elim polder flue)]
  rfl

/-- Every slot after a KEY_INVALIDATE is as after the emptying. -/
theorem keyInvalidate_slot {j : Slot} {n : KeySlotNo} {s : State} (turn : s.jobTurn j 0x22 = true) (full : (s.slot n).state ≠ .empty)
    (grant : (s.slot n).grant = (s.job j).polder) (polder : (s.job j).polder ≠ 0) (flue : n.1 ≠ 3) (c : Fin 256) :
    (keyInvalidate j n s).slot c = (s.emptySlot n).2.slot c := by
  rw [keyInvalidate_eq turn full grant polder flue, ← (s.emptySlot n).2.tagFollows_slot n none c]
  exact State.slot_of_keys (by simp) c

/-- The job of an invalidation ends done. -/
theorem keyInvalidate_job {j : Slot} {n : KeySlotNo} {s : State} (turn : s.jobTurn j 0x22 = true) (empty : (s.job j).records = [])
    (full : (s.slot n).state ≠ .empty) (grant : (s.slot n).grant = (s.job j).polder) (polder : (s.job j).polder ≠ 0) (flue : n.1 ≠ 3) :
    ((keyInvalidate j n s).job j).state = .done ∧ ((keyInvalidate j n s).job j).error = 0 := by
  have jobs {x y z : Nat} : (((s.emptySlot n).2.tagFollows n none).logEv .keyChange x y 0 z (s.slot n).gen).job j = s.job j := by
    rw [State.job_of_jobs (s := (s.emptySlot n).2.tagFollows n none) (by simp), State.tagFollows_job, State.job_of_jobs (s := s) (by simp)]
  rw [keyInvalidate_eq turn full grant polder flue,
    State.addRecord_finishJob (by rw [jobs]; exact .inl (State.queued_of_jobTurn turn).1) (by rw [jobs]; exact empty) (by simp)]
  simp [Job.ended]

/-- Settles O16: the jobs of a key fill one slot (`State.fills`) or empty it, and end done. -/
theorem keySlotsFillEmptyAndExpire : Obligations.KeySlotsFillEmptyAndExpire := by
  unfold Obligations.KeySlotsFillEmptyAndExpire
  refine ⟨?derive, ?imports, ?invalidate, ?expire⟩
  case derive =>
    intro j p s turn empty ok full grant target still use
    obtain ⟨queued, code⟩ := State.queued_of_jobTurn turn
    have f := s.fills p.parent p.child engKDF (s.job j).polder (s.derivedKey j p)
    have e := keyDerive_eq turn ok full grant target still use
    have g := f.of_slots (u := keyDerive j p s) fun c => by rw [e, State.keyFilled_slot]
    obtain ⟨_, filled⟩ := g.filled
    have jobs := State.keyFilled_jobs (s := s) (t := ((s.keyUse p.parent engKDF (s.job j).polder).2.fillSlot p.child (s.derivedKey j p)).2)
      (orphans := (descendants s.keys.slots p.child).length) (fun k => State.job_of_jobs (by simp) k) queued empty f.gen
    rw [← e, code] at jobs
    obtain ⟨done, error, records, others⟩ := jobs
    exact ⟨keyDerive j p s, rfl, congrArg KeySlot.state filled, congrArg KeySlot.gen filled, congrArg KeySlot.grant filled,
      congrArg KeySlot.count filled, congrArg KeySlot.parent filled, congrArg KeySlot.key filled, congrArg KeySlot.expiry filled,
      congrArg KeySlot.engines filled, congrArg KeySlot.limit filled, g.orphans, g.others, done, error, records, others⟩
  case imports =>
    intro j p s key turn empty ok own target still use blob len
    obtain ⟨queued, code⟩ := State.queued_of_jobTurn turn
    have f := (s.fills 1 p.target engECDH (s.job j).polder (s.importedKey j p key)).of_slots fun c => State.tagFollows_slot _ p.target (some key) c
    have e := keyImport_eq turn ok own target still use blob len
    have g := f.of_slots (u := keyImport j p s) fun c => by rw [e, State.keyFilled_slot]
    obtain ⟨_, filled⟩ := g.filled
    have jobs := State.keyFilled_jobs (s := s)
      (t := ((s.keyUse 1 engECDH (s.job j).polder).2.fillSlot p.target (s.importedKey j p key)).2.tagFollows p.target (some key))
      (orphans := (descendants s.keys.slots p.target).length)
      (fun k => by rw [State.tagFollows_job]; exact State.job_of_jobs (by simp) k) queued empty f.gen
    rw [← e, code] at jobs
    obtain ⟨done, error, records, others⟩ := jobs
    refine ⟨keyImport j p s, rfl, congrArg KeySlot.state filled, congrArg KeySlot.gen filled, congrArg KeySlot.key filled,
      congrArg KeySlot.grant filled, congrArg KeySlot.kept filled, congrArg KeySlot.engines filled, congrArg KeySlot.count filled, g.orphans, g.others,
      fun five => ?_, fun five => ?_, done, error, records, others⟩
    · rw [e, State.keyFilled_tag, State.tagFollows, if_pos five]; rfl
    · rw [e, State.keyFilled_tag, State.tagFollows, if_neg five]; simp
  case invalidate =>
    intro j n s turn empty full grant polder flue
    have slot := keyInvalidate_slot turn full grant polder flue
    refine ⟨keyInvalidate j n s, rfl, ?_, ?_, ?_, fun c hc => ?_, fun c other hc => ?_, keyInvalidate_job turn empty full grant polder flue⟩
    · rw [slot, State.emptySlot_slot]; rfl
    · rw [slot, State.emptySlot_slot]
    · rw [slot, State.emptySlot_slot]; rfl
    · rw [slot, State.emptySlot_slot_other _ (mem_descendants.mp hc).2.1, State.orphanFrom_slot, if_pos hc]
    · rw [slot, State.emptySlot_slot_other _ other, State.orphanFrom_slot, if_neg hc]
  case expire =>
    intro n s valid expiry past
    have e : slotExpire n s = (s.onSlot n fun k => { k with state := .expired }).tagFollows n none := by
      simp only [slotExpire, if_pos (show (s.slot n).expiry ≠ 0 ∧ (s.slot n).expiry ≤ s.clock.tb ∧ (s.slot n).state = .valid from ⟨expiry, past, valid⟩)]
      rfl
    refine ⟨slotExpire n s, rfl, ?_, fun c hc => ?_, ?_, ?_⟩
    · rw [e, State.tagFollows_slot, State.onSlot_slot, if_pos rfl]
    · rw [e, State.tagFollows_slot, State.onSlot_slot, if_neg (Ne.symm hc)]
    · rw [e, State.tagFollows]
      split <;> rfl
    · rw [e, State.tagFollows]
      split <;> rfl

/-- Settles O18: the three jobs orphan what `orphanFrom` orphans, which is what descends (`mem_descendants`). -/
theorem descendantsBecomeOrphan : Obligations.DescendantsBecomeOrphan := by
  unfold Obligations.DescendantsBecomeOrphan
  refine ⟨?invalidate, ?derive, ?imports⟩
  case invalidate =>
    intro j n s turn full grant polder flue
    refine ⟨_, rfl, fun c other used => ?_⟩
    show (_ → (keyInvalidate j n s).slot c = _) ∧ (_ → (keyInvalidate j n s).slot c = _)
    rw [keyInvalidate_slot turn full grant polder flue, State.emptySlot_slot_other _ other, State.orphanFrom_slot]
    constructor
    · intro h
      rw [if_pos (mem_descendants.mpr ⟨used, other, h⟩)]
    · intro h
      rw [if_neg fun k => h (mem_descendants.mp k).2.2]
  case derive =>
    intro j p s turn ok full grant target still use
    have f := (s.fills p.parent p.child engKDF (s.job j).polder (s.derivedKey j p)).of_slots
      (u := keyDerive j p s) fun c => by rw [keyDerive_eq turn ok full grant target still use, State.keyFilled_slot]
    obtain ⟨share, filled⟩ := f.filled
    refine ⟨_, rfl, by show ((keyDerive j p s).slot p.child).state = .valid; rw [filled], fun c other used => ⟨fun h => ?_, fun h parent => ?_⟩⟩
    · exact f.orphans c (mem_descendants.mpr ⟨used, other, h⟩)
    · exact f.others c other parent fun k => h (mem_descendants.mp k).2.2
  case imports =>
    intro j p s key turn ok own target still use blob len
    have f := (s.fills 1 p.target engECDH (s.job j).polder (s.importedKey j p key)).of_slots
      (u := keyImport j p s) fun c => by rw [keyImport_eq turn ok own target still use blob len, State.keyFilled_slot, State.tagFollows_slot]
    exact ⟨_, rfl, fun c other used h => f.orphans c (mem_descendants.mpr ⟨used, other, h⟩)⟩

end Sys2Proof.Machine
end
section
/-! Bytes and words: eight bytes make a word, and a word gives them back. -/

namespace Sys2Proof.Machine

theorem ofLE_lt (bs : Bytes) : ofLE bs < 2 ^ (8 * bs.length) := by
  induction bs with
  | nil => simp [ofLE]
  | cons b bs ih =>
    have hb : b.toNat < 256 := b.isLt
    have e : 2 ^ (8 * (bs.length + 1)) = 256 * 2 ^ (8 * bs.length) := by rw [Nat.mul_add, Nat.pow_add, Nat.mul_comm]
    rw [ofLE, List.length_cons, e]
    omega

theorem leBytes_ofLE (bs : Bytes) : leBytes bs.length (ofLE bs) = bs := by
  induction bs with
  | nil => rfl
  | cons b bs ih =>
    have hb : b.toNat < 256 := b.isLt
    rw [List.length_cons, leBytes, ofLE]
    congr 1
    · apply BitVec.eq_of_toNat_eq
      rw [BitVec.toNat_ofNat]
      omega
    · rw [show (b.toNat + 256 * ofLE bs) / 256 = ofLE bs by omega, ih]

theorem leBytes_w64_ofLE {bs : Bytes} (h : bs.length = 8) : leBytes 8 (w64 (ofLE bs)).toNat = bs := by
  have lt := ofLE_lt bs
  rw [h] at lt
  rw [w64, BitVec.toNat_ofNat, Nat.mod_eq_of_lt lt, ← h, leBytes_ofLE]

/-- Bytes that fill words are the bytes of their words. -/
theorem wordBytes_bytesWords {k : Nat} {bs : Bytes} (h : bs.length = 8 * k) : wordBytes (bytesWords bs) = bs := by
  have e : (bs.length + 7) / 8 = k := by omega
  unfold bytesWords
  rw [e]
  clear e
  induction k generalizing bs with
  | zero => rw [List.length_eq_zero_iff.mp h]; rfl
  | succ k ih =>
    have rest := ih (bs := bs.drop 8) (by rw [List.length_drop]; omega)
    simp only [List.drop_drop] at rest
    rw [List.range_succ_eq_map, List.map_cons, wordBytes, List.map_cons, List.flatten_cons, leBytes_w64_ofLE (by simp; omega), List.map_map]
    conv_rhs => rw [← List.take_append_drop 8 bs, ← rest]
    simp only [wordBytes, Nat.mul_zero, List.drop_zero, List.map_map, Function.comp_def, Nat.mul_succ, Nat.add_comm]

@[simp] theorem bytesWords_length (bs : Bytes) : (bytesWords bs).length = (bs.length + 7) / 8 := by simp [bytesWords]

end Sys2Proof.Machine
end
section
/-! O17, O20: re-masking, and ATTEST without an index. -/

namespace Sys2Proof.Machine

/-! ### Re-masking (R71, R72) -/

/-- From `s` to `t` at most the shares of the slots have changed, none in its length, and values were drawn for them. -/
structure State.Reshared (s t : State) : Prop where
  slots : ∀ n, t.slot n = { s.slot n with share := (t.slot n).share } ∧ (t.slot n).share.length = (s.slot n).share.length
  rest : t = { s with keys := { s.keys with slots := t.keys.slots }, draws := t.draws }

/-- One slot gets a share of the same length. -/
def State.reshare (s : State) (n : Fin 256) : State :=
  let d := s.drawBytes (s.slot n).share.length
  d.2.onSlot n (fun k => { k with share := d.1 })

theorem State.Reshared.reshare {s t : State} (h : s.Reshared t) (n : Fin 256) : s.Reshared (t.reshare n) where
  slots m := by
    obtain ⟨same, length⟩ := h.slots m
    have k : (t.drawBytes (t.slot n).share.length).2.slot m = t.slot m := State.slot_of_keys (by simp) m
    unfold State.reshare
    rw [State.onSlot_slot, k]
    split
    next e =>
      subst e
      exact ⟨by rw [same], by rw [← length]; simp [State.drawBytes]⟩
    · exact ⟨same, length⟩
  rest := by rw [h.rest]; rfl

/-- A pass of re-masking over all slots. -/
def State.resharePass (s : State) : State := (idx 256).foldl State.reshare s

theorem State.reshared_pass (s : State) : s.Reshared s.resharePass := by
  have same : s.Reshared s := ⟨fun n => ⟨rfl, rfl⟩, rfl⟩
  unfold State.resharePass
  exact List.foldlRecOn (motive := s.Reshared) _ _ same fun t h n _ => h.reshare n

/-- A pass begins 131,072 ticks after the last one, while TB runs. -/
theorem remask_due {s : State} (due : s.clock.run ∧ s.keys.remaskTb.all (fun t => decide (t + 131072 ≤ s.clock.tb))) :
    remask s = s.resharePass.onKeys (fun k => { k with remaskTb := some s.clock.tb }) := by
  unfold remask State.resharePass State.reshare
  rw [if_pos due]

theorem remask_early {s : State} (early : ¬(s.clock.run ∧ s.keys.remaskTb.all (fun t => decide (t + 131072 ≤ s.clock.tb)))) : remask s = s := by
  unfold remask
  rw [if_neg early]

/-- Noting the time of a pass leaves the slots as the pass left them. -/
theorem State.Reshared.noted {s u t : State} {tb : Nat} (h : s.Reshared u) (e : t = u.onKeys (fun k => { k with remaskTb := some tb })) :
    (∀ n, t.slot n = { s.slot n with share := (t.slot n).share } ∧ (t.slot n).share.length = (s.slot n).share.length) ∧
    t.keys.remaskTb = some tb ∧ t = { s with keys := { s.keys with slots := t.keys.slots, remaskTb := t.keys.remaskTb }, draws := t.draws } := by
  subst e
  exact ⟨h.slots, rfl, by rw [h.rest]; rfl⟩

/-- Settles O17: a pass gives each slot a share (`State.reshare`), or is none. -/
theorem remaskingIsNoUse : Obligations.RemaskingIsNoUse := by
  unfold Obligations.RemaskingIsNoUse
  intro s
  refine ⟨remask s, rfl, ?_⟩
  by_cases due : s.clock.run ∧ s.keys.remaskTb.all (fun t => decide (t + 131072 ≤ s.clock.tb))
  · obtain ⟨slots, time, rest⟩ := s.reshared_pass.noted (remask_due due)
    exact ⟨slots, fun _ _ => time, rest⟩
  · rw [remask_early due]
    exact ⟨fun n => ⟨rfl, rfl⟩, fun run old => (due ⟨run, by simpa [Option.all_eq_true] using old⟩).elim, rfl⟩

/-! ### ATTEST (R79 to R82) -/

/-- A live job that ends changes the jobs alone. -/
theorem State.finishJob_rest (s : State) (j : Slot) (err : Nat) : s.finishJob j err = { s with jobs := (s.finishJob j err).jobs } := by
  unfold State.finishJob
  split <;> rfl

/-- Settles O20: with no index left ATTEST ends with FULL. -/
theorem noAttestationWithoutAnIndex : Obligations.NoAttestationWithoutAnIndex := by
  unfold Obligations.NoAttestationWithoutAnIndex
  intro j nonce s turn length flash left
  have e : attest j nonce s = s.finishJob j FULL := by simp [attest, turn, length, flash, left]
  have job : (s.finishJob j FULL).job j = (s.job j).ended FULL s.clock.tb := by
    rw [State.finishJob_eq (.inl (State.queued_of_jobTurn turn).1), State.onJob_job_self]
  refine ⟨s.finishJob j FULL, congrArg Host.Outcome.next e, ?_⟩
  rw [job]
  exact ⟨rfl, rfl, rfl, State.finishJob_rest ..⟩

end Sys2Proof.Machine
end

section
/-! Several records of a job. -/

namespace Sys2Proof.Machine

/-- The records of a list of byte strings. -/
def recordsOf (type : Nat) (l : List Bytes) : List JobRecord := l.map fun x => { type, words := bytesWords x }

/-- A change of a job that leaves it as it is. -/
theorem State.onJob_self {s : State} {j : Slot} {f : Job → Job} (h : f (s.job j) = s.job j) : s.onJob j f = s := by
  have e : upd s.jobs.slots j f = s.jobs.slots := by
    unfold upd
    rw [show f (s.jobs.slots[j.1]) = s.jobs.slots[j.1] from h, Vector.set_getElem_self]
  unfold State.onJob State.onJobs
  dsimp only
  rw [e]

/-- Two changes of a job are one. -/
theorem State.onJob_onJob (s : State) (j : Slot) (f g : Job → Job) : (s.onJob j f).onJob j g = s.onJob j (fun b => g (f b)) := by
  simp [State.onJob, State.onJobs, upd]

/-- A live job gets a list of records that fit. -/
theorem State.addRecords_eq {j : Slot} {type : Nat} (l : List Bytes) {s : State} (live : (s.job j).live)
    (room : 8 * ((s.job j).resultWords + ((recordsOf type l).map JobRecord.size).sum) ≤ 2 ^ 20) (few : (s.job j).records.length + l.length ≤ 65535) :
    l.foldl (fun s x => s.addRecord j type (bytesWords x)) s = s.onJob j (fun b => { b with records := b.records ++ recordsOf type l }) := by
  induction l generalizing s with
  | nil => exact (State.onJob_self (by simp [recordsOf])).symm
  | cons x l ih =>
    simp only [recordsOf, List.map_cons, List.sum_cons, List.length_cons] at room few
    have fits : (s.job j).fits { type, words := bytesWords x } = true := by
      simp only [Job.fits, Bool.and_eq_true, decide_eq_true_eq]
      omega
    rw [List.foldl_cons, State.addRecord_eq live fits, ih]
    · rw [State.onJob_onJob]
      simp [Job.recorded, recordsOf]
    · rw [State.onJob_job_self]; exact live
    · rw [State.onJob_job_self]
      simp only [Job.recorded, Job.resultWords, List.map_append, List.sum_append, List.map_cons, List.map_nil, List.sum_singleton, recordsOf] at room ⊢
      omega
    · rw [State.onJob_job_self]
      simp only [Job.recorded, List.length_append, List.length_singleton]
      omega

end Sys2Proof.Machine
end
section
/-! O19: ATTEST, the next tree, and the life-cycle jobs. -/

namespace Sys2Proof.Machine

/-! ### The signatures of a report (R79, R80) -/

/-- A use of a key leaves the HSS index alone. -/
@[simp] theorem State.keyUse_hss (s : State) (n : Fin 256) (engine polder : Nat) : (s.keyUse n engine polder).2.keys.hss = s.keys.hss := by
  unfold State.keyUse
  split
  · simp [State.refuse]
  · simp [State.onSlot]

/-- With an index left and its key usable the HSS signs and takes one index. -/
theorem State.hssSignature_eq {s : State} (left : s.keys.hss.left = true) (use : (s.slot 2).refusal engLMS s.clock.tb = none) (digest : Bytes) :
    s.hssSignature digest = (some (Config.hssSign (s.slot 2).key s.keys.hss.next digest),
      (s.keyUse 2 engLMS 0).2.onKeys (fun k => { k with hss := k.hss.take })) := by
  unfold State.hssSignature
  rw [if_pos left]
  have none := State.keyUse_none use 0
  split
  next e => rw [e] at none; cases none
  next e => rw [e]

/-- What an ATTEST returns: the certificate, the report and its two signatures. -/
def State.attestation (s : State) (nonce : Bytes) : List Bytes :=
  [Config.identityCert, s.report nonce, ecdsaSign (s.slot 1).key (sha384 (s.report nonce)),
   Config.hssSign (s.slot 2).key s.keys.hss.next (sha384 (s.report nonce))]

/-- An ATTEST with both keys usable takes one index, returns its attestation, and ends. -/
theorem State.attestNow_eq {s : State} (j : Slot) (nonce : Bytes) (left : s.keys.hss.left = true)
    (identity : (s.slot 1).refusal engECDSA s.clock.tb = none) (lms : (s.slot 2).refusal engLMS s.clock.tb = none) :
    s.attestNow j nonce = ((s.attestation nonce).foldl (fun s x => s.addRecord j 0x0023 (bytesWords x))
      (((s.keyUse 1 engECDSA 0).2.keyUse 2 engLMS 0).2.onKeys (fun k => { k with hss := k.hss.take }))).finishJob j 0 := by
  have two : (s.keyUse 1 engECDSA 0).2.slot 2 = s.slot 2 := s.keyUse_slot_other (by decide) engECDSA 0
  have h := State.hssSignature_eq (s := (s.keyUse 1 engECDSA 0).2) (by rw [State.keyUse_hss]; exact left) (by rw [two]; simpa using lms)
    (sha384 (s.report nonce))
  rw [two, State.keyUse_hss] at h
  simp only [State.attestNow, State.identitySign, h, State.keyUse_none identity, Option.isNone_none, if_true]
  rfl

/-- An ATTEST whose results fit ends done with them and takes one index. -/
theorem State.attestNow_done {s : State} {j : Slot} {nonce : Bytes} (live : (s.job j).live) (empty : (s.job j).records = [])
    (left : s.keys.hss.left = true) (identity : (s.slot 1).refusal engECDSA s.clock.tb = none) (lms : (s.slot 2).refusal engLMS s.clock.tb = none)
    (room : ((s.attestation nonce).map List.length).sum ≤ 1000000) :
    (s.attestNow j nonce).keys.hss.next = s.keys.hss.next + 1 ∧
    (s.attestNow j nonce).job j = { s.job j with records := recordsOf 0x0023 (s.attestation nonce) }.ended 0 s.clock.tb ∧
    ∀ k, k ≠ j → (s.attestNow j nonce).job k = s.job k := by
  have fits : ((recordsOf 0x0023 (s.attestation nonce)).map JobRecord.size).sum ≤ 131072 := by
    simp only [State.attestation, recordsOf, JobRecord.size, bytesWords_length, List.map_cons, List.map_nil, List.sum_cons, List.sum_nil] at room ⊢
    omega
  rw [State.attestNow_eq j nonce left identity lms]
  generalize hu : ((s.keyUse 1 engECDSA 0).2.keyUse 2 engLMS 0).2.onKeys (fun k => { k with hss := k.hss.take }) = u
  have jobs (k : Slot) : u.job k = s.job k := State.job_of_jobs (by simp [← hu]) k
  have clock : u.clock = s.clock := by simp [← hu]
  have next : u.keys.hss.next = s.keys.hss.next + 1 := by simp [← hu, Hss.take]
  rw [State.addRecords_eq _ (by rw [jobs]; exact live) (by rw [jobs]; simp only [Job.resultWords, empty, List.map_nil, List.sum_nil]; omega)
    (by rw [jobs, empty]; simp [State.attestation]), State.finishJob_eq (by rw [State.onJob_job_self, jobs]; exact live), State.onJob_onJob]
  refine ⟨by simpa using next, ?_, fun k hk => by rw [State.onJob_job_other hk, jobs]⟩
  rw [State.onJob_job_self, jobs, empty, List.nil_append]
  simp [clock]

/-! ### The next tree (R81) -/

/-- Ending a job leaves no live job, and the other jobs alone. -/
theorem State.finishJob_over (s : State) (j : Slot) (err : Nat) : ¬((s.finishJob j err).job j).live := by
  by_cases l : (s.job j).live
  · rw [State.finishJob_eq l, State.onJob_job_self]
    unfold Job.ended Job.live
    dsimp only
    split <;> simp
  · have e : s.finishJob j err = s := by
      unfold State.finishJob
      rw [if_pos (not_or.mp l)]
    rwa [e]

theorem State.finishJob_job_other {j k : Slot} (h : k ≠ j) (s : State) (err : Nat) : (s.finishJob j err).job k = s.job k := by
  unfold State.finishJob
  split
  · rfl
  · exact State.onJob_job_other h ..

theorem State.addRecord_job_other {j k : Slot} (h : k ≠ j) (s : State) (type : Nat) (words : List W64) : (s.addRecord j type words).job k = s.job k := by
  unfold State.addRecord
  dsimp only
  split
  · rfl
  · split
    · exact State.onJob_job_other h ..
    · exact State.finishJob_job_other h ..

theorem State.foldl_addRecord_job_other {j k : Slot} (h : k ≠ j) (type : Nat) (l : List Bytes) (s : State) :
    (l.foldl (fun s x => s.addRecord j type (bytesWords x)) s).job k = s.job k := by
  induction l generalizing s with
  | nil => rfl
  | cons x l ih => rw [List.foldl_cons, ih, State.addRecord_job_other h]

/-- An ATTEST that signs is over. -/
theorem State.attestNow_over (s : State) (j : Slot) (nonce : Bytes) : ¬((s.attestNow j nonce).job j).live := by
  unfold State.attestNow
  dsimp only
  split <;> exact State.finishJob_over _ _ _

theorem State.attestNow_job_other {j k : Slot} (h : k ≠ j) (s : State) (nonce : Bytes) : (s.attestNow j nonce).job k = s.job k := by
  have sign (digest : Bytes) : ((s.identitySign digest).2.hssSignature digest).2.job k = s.job k := by
    have one : (s.identitySign digest).2.job k = s.job k := State.job_of_jobs (by simp [State.identitySign]) k
    rw [← one]
    unfold State.hssSignature
    split
    · split
      next u e =>
        have used : (State.keyUse _ 2 engLMS 0).2 = u := congrArg Prod.snd e
        exact State.job_of_jobs (by simp [← used]) k
      next u e =>
        have used : (State.keyUse _ 2 engLMS 0).2 = u := congrArg Prod.snd e
        exact State.job_of_jobs (by simp [← used]) k
    · rfl
  unfold State.attestNow
  dsimp only
  split
  · rw [State.finishJob_job_other h, sign]
  · rw [State.finishJob_job_other h, ← sign (sha384 (s.report nonce))]
    exact State.foldl_addRecord_job_other h ..

/-- An ATTEST that waits for the next tree. -/
def State.attestWaits (s : State) (j : Slot) : Prop := (s.job j).code = 0x23 ∧ (s.job j).state = .running

/-- HSS_TREE_READY, job by job. -/
def State.attestResumes (s : State) (j : Slot) : State :=
  if (s.job j).code = 0x23 ∧ (s.job j).state = .running then s.attestNow j (s.job j).nonce else s

/-- An ATTEST that resumes waits no longer, and no other begins to. -/
theorem State.attestResumes_waits {s : State} {j k : Slot} (h : (s.attestResumes j).attestWaits k) : s.attestWaits k ∧ k ≠ j := by
  unfold State.attestResumes at h
  split at h
  next w =>
    have other : k ≠ j := by
      rintro rfl
      exact s.attestNow_over k _ (.inr h.2)
    unfold State.attestWaits at h
    rw [State.attestNow_job_other other] at h
    exact ⟨h, other⟩
  next w => exact ⟨h, fun e => w (e ▸ h)⟩

/-- Nothing resumes where nothing waits. -/
theorem State.attestResumes_none {s : State} {j : Slot} (h : ¬s.attestWaits j) : s.attestResumes j = s := if_neg h

theorem State.foldl_attestResumes_waits (l : List Slot) {s : State} {k : Slot} (h : (l.foldl State.attestResumes s).attestWaits k) :
    s.attestWaits k ∧ k ∉ l := by
  induction l generalizing s with
  | nil => exact ⟨h, List.not_mem_nil⟩
  | cons j l ih =>
    obtain ⟨waits, later⟩ := ih h
    obtain ⟨waits, other⟩ := State.attestResumes_waits waits
    exact ⟨waits, by simp [other, later]⟩

theorem State.foldl_attestResumes_none (l : List Slot) {s : State} (h : ∀ j, ¬s.attestWaits j) : l.foldl State.attestResumes s = s := by
  induction l with
  | nil => rfl
  | cons j l ih => rw [List.foldl_cons, State.attestResumes_none (h j), ih]

/-- The state with the computed tree ready. -/
def State.treeReady (s : State) : State := s.onKeys (fun k => { k with hss := { k.hss with nextReady := true, computing := false } })

theorem hssReady_eq {s : State} (h : s.keys.hss.computing = true) : hssReady s = (idx 16).foldl State.attestResumes s.treeReady := by
  unfold hssReady State.attestResumes State.treeReady
  rw [if_pos h]

/-! ### The life cycle (R53 to R56) -/

/-- What a transition writes of the life cycle. -/
theorem State.changed_life_eq (s : State) (x : LifeState) :
    (s.changed x).life.state = x ∧ (s.changed x).life.inTransit = none ∧ (s.changed x).life.transitions = s.life.transitions + 1 ∧
    (s.changed x).life.nonce = none := by
  obtain ⟨ks, cn, lg, en, hs, -⟩ := s.orderlySave_frame
  have life : s.orderlySave.forget.life = s.life := by rw [hs]; rfl
  unfold State.changed
  dsimp only
  rw [life]
  split <;> exact ⟨rfl, rfl, rfl, rfl⟩

/-- A transition ends in reset, with one transition more and no nonce. -/
theorem State.transition_reset (s : State) (x : LifeState) :
    (s.transition x).life.state = x ∧ (s.transition x).life.transitions = s.life.transitions + 1 ∧ (s.transition x).life.nonce = none ∧
    (s.transition x).life.inTransit = none ∧ (s.transition x).pwr.inReset = true ∧ (s.transition x).pwr.last = 6 := by
  obtain ⟨state, transit, transitions, nonce⟩ := s.changed_life_eq x
  rw [State.transition_eq]
  cases reset : (s.changed x).pwr.inReset with
  | true =>
    have e : (s.changed x).coldReset 6 = (s.changed x).onPwr (fun p => { p with last := 6, bootWait := none }) := if_pos reset
    rw [e]
    exact ⟨state, transitions, nonce, transit, reset, rfl⟩
  | false =>
    have down := State.coldReset_down reset (code := 6) (by decide) (by decide)
    rw [down.life]
    exact ⟨state, transitions, rfl, transit, down.inReset, down.last⟩

/-- A return whose authorisation does not verify is refused, and the nonce is spent. -/
theorem lifecycle_unauthorised {j : Slot} {auth : ReturnAuth} {s : State} (turn : s.jobTurn j 0x24 = true)
    (grant : s.lifeGrant (s.job j).polder false = true) (field : s.life.state = .field) (sessions : ∀ o : Output, (s.seqr.outs[o]).sid = none)
    (update : s.updateExists = false) (bad : s.returnOk auth = false) : lifecycle j 3 auth s = s.spent.finishJob j AUTHFAIL := by
  have hx : lifeTarget s.life.state 3 = some .returned := by rw [field]; rfl
  have code : ¬((3 : Nat) ≠ 3 ∧ (3 : Nat) ≠ 4) := by decide
  simp only [lifecycle, turn, grant, hx, State.any_veh_session sessions, update, if_neg code, bad]
  rfl

/-- The state with a fresh nonce issued. -/
def State.nonced (s : State) : State := { s.draw.2 with life := { s.draw.2.life with nonce := some (w64 s.draw.1, s.clock.tb) } }

/-- LIFECYCLE_NONCE by a polder that may have it draws a nonce and returns it. -/
theorem lifeNonce_eq {j : Slot} {s : State} (turn : s.jobTurn j 0x25 = true) (grant : s.lifeGrant (s.job j).polder true = true) :
    lifeNonce j s = (s.nonced.addRecord j 0x0025 [s.life.serial, w64 s.draw.1]).finishJob j 0 := by
  simp only [lifeNonce, turn, grant]
  rfl

/-- Settles O19: each job goes to the lemma that says what it does. -/
theorem attestationAndLifeCycle : Obligations.AttestationAndLifeCycle := by
  unfold Obligations.AttestationAndLifeCycle
  refine ⟨?signs, ?waits, ?ready, ?nonce, ?lapse, ?transition, ?refused⟩
  case signs =>
    intro j nonce s turn empty length flash left tree identity lms room
    have e : attest j nonce s = s.attestNow j nonce := by
      have tree : ¬(s.keys.hss.newTree = true ∧ s.keys.hss.nextReady = false) := fun ⟨n, r⟩ => by rw [tree n] at r; cases r
      simp only [attest, turn, length, flash, left, if_neg tree]
      rfl
    have done := State.attestNow_done (nonce := nonce) (.inl (State.queued_of_jobTurn turn).1) empty left identity lms
      (by simpa [State.attestation, Nat.add_assoc] using room)
    rw [← e] at done
    obtain ⟨next, job, others⟩ := done
    refine ⟨attest j nonce s, rfl, next, ?_, ?_, ?_, others⟩
    · rw [job]; rfl
    · rw [job]; rfl
    · rw [job]; simp [Job.ended, recordsOf, State.attestation]
  case waits =>
    intro j nonce s turn length flash left tree ready
    have e : attest j nonce s = ((s.startJob j true).onJob j (fun b => { b with params := bytesWords nonce })).onKeys
        (fun k => { k with hss := { k.hss with computing := true } }) := by
      simp only [attest, turn, length, flash, left, tree, ready]
      rfl
    have job (k : Slot) : (attest j nonce s).job k = if j = k then { s.job k with state := .running, cancellable := true, params := bytesWords nonce }
        else s.job k := by
      rw [e, State.job_of_jobs (State.onKeys_jobs ..), State.startJob, State.onJob_onJob, State.onJob_job]
    refine ⟨attest j nonce s, rfl, ?_, ?_, ?_, fun k hk => ?_, ?_⟩
    · rw [job, if_pos rfl]
    · rw [job, if_pos rfl, Job.nonce, List.take_of_length_le (by simp [length]), wordBytes_bytesWords (k := 8) length]
    · rw [e]; rfl
    · rw [job, if_neg hk.symm]
    · rw [e]; rfl
  case ready =>
    intro s computing
    have e := hssReady_eq computing
    refine ⟨hssReady s, rfl, fun j code state => ?_, fun none => ?_⟩
    · rw [e] at code state
      exact (State.foldl_attestResumes_waits (idx 16) ⟨code, state⟩).2 (List.mem_finRange j)
    · have quiet (j : Slot) : ¬s.treeReady.attestWaits j := fun w => none j w.1 w.2
      rw [e, State.foldl_attestResumes_none _ quiet]
      exact ⟨rfl, rfl⟩
  case nonce =>
    intro j s turn empty polder
    have queued := (State.queued_of_jobTurn turn).1
    have grant : s.lifeGrant (s.job j).polder true = true := by
      rcases polder with p | ⟨p, door⟩
      · simp [State.lifeGrant, p]
      · simp [State.lifeGrant, p, door]
    have e := lifeNonce_eq turn grant
    rw [State.addRecord_finishJob (s := s.nonced) (.inl queued) empty (by simp)] at e
    refine ⟨lifeNonce j s, w64 s.draw.1, rfl, ?_, ?_, ?_, ?_, ?_⟩
    · rw [e]; rfl
    · rw [e, State.onJob_job_self, State.onJob_job_self]
      show (s.job j).records ++ _ = _
      rw [empty]
      rfl
    · rw [e, State.onJob_job_self]; rfl
    · rw [e, State.onJob_job_self]; rfl
    · rw [e]; rfl
  case lapse =>
    intro s n b nonce past
    show Host.Outcome.next (nonceLapse s) = _
    unfold nonceLapse
    rw [nonce]
    exact congrArg Host.Outcome.next (if_pos past)
  case transition =>
    intro j target auth s x turn grant hx sessions update ok
    exact ⟨lifecycle j target auth s, rfl, by rw [lifecycle_makes turn grant hx sessions update ok]; exact s.spent.transition_reset x⟩
  case refused =>
    intro j auth s turn grant field sessions update bad
    have e := lifecycle_unauthorised turn grant field sessions update bad
    have job : (s.spent.finishJob j AUTHFAIL).job j = (s.job j).ended AUTHFAIL s.clock.tb := by
      rw [State.finishJob_eq (s := s.spent) (.inl (State.queued_of_jobTurn turn).1), State.onJob_job_self]
      rfl
    refine ⟨lifecycle j 3 auth s, rfl, ?_⟩
    rw [e, job, State.finishJob_rest]
    exact ⟨rfl, rfl, rfl, rfl⟩

end Sys2Proof.Machine
end

section
/-!
What writes leave in the tag memory (R426, R428 to R430): a run of bytes stored, one page rewritten, a write over two pages, the pieces of a wired
write. The operations of the tag write their bytes by these, and change besides the shadow page and the commit record alone.
-/

namespace Sys2Proof.Machine

/-! ### Bytes stored in a memory -/

/-- From `m` to `n` exactly the bytes `d` have been stored at `a`, in canonical form. -/
structure Stored (m n : List Host.Cell) (a : Nat) (d : Bytes) : Prop where
  inside : ∀ i (h : i < d.length), Memory.read n (a + i) = d[i]
  outside : ∀ b, b < a ∨ a + d.length ≤ b → Memory.read n b = Memory.read m b
  canon : Memory.wf n = true

@[simp] theorem Memory.readBytes_length (m : List Host.Cell) (a n : Nat) : (Memory.readBytes m a n).length = n := by simp [Memory.readBytes]

theorem Memory.getElem_readBytes {m : List Host.Cell} {a n i : Nat} (h : i < (Memory.readBytes m a n).length) :
    (Memory.readBytes m a n)[i] = Memory.read m (a + i) := by simp [Memory.readBytes]

section
variable {m n k : List Host.Cell} {a : Nat} {d e : Bytes}

/-- Bytes stored read back. -/
theorem Stored.readBytes (h : Stored m n a d) : Memory.readBytes n a d.length = d :=
  List.ext_getElem (by simp) fun i hi hd => by rw [Memory.getElem_readBytes, h.inside i hd]

/-- Nothing stored. -/
theorem Stored.nil (wf : Memory.wf m = true) (a : Nat) : Stored m m a [] where
  inside _ h := by cases h
  outside _ _ := rfl
  canon := wf

/-- Bytes stored behind bytes stored. -/
theorem Stored.append (h : Stored m n a d) (g : Stored n k (a + d.length) e) : Stored m k a (d ++ e) where
  inside i hi := by
    rw [List.length_append] at hi
    rw [List.getElem_append]
    split
    case isTrue hd => rw [g.outside _ (by omega), h.inside i hd]
    case isFalse hd =>
      have e := g.inside (i - d.length) (by omega)
      rwa [show a + d.length + (i - d.length) = a + i by omega] at e
  outside b hb := by
    rw [List.length_append] at hb
    rw [g.outside b (by omega), h.outside b (by omega)]
  canon := g.canon

/-- A write of bytes stores them. -/
theorem Memory.writeBytes_stored (wf : Memory.wf m = true) (a : Nat) (d : Bytes) : Stored m (Memory.writeBytes a d m) a d where
  inside i hi := Memory.read_writeBytes d a i m ((Memory.wf_iff m).mp wf).1 hi
  outside b hb := Memory.read_writeBytes_other d a b m hb
  canon := Memory.wf_writeBytes d a m wf

end

/-! ### A page, two pages, the pieces of a wired write -/

/-- The memory with bytes of page `p` replaced from an offset within it (R428). -/
def pageWritten (m : List Host.Cell) (p off : Nat) (d : Bytes) : List Host.Cell :=
  Memory.writeBytes (64 * p) (patch (Memory.readBytes m (64 * p) 64) off d) m

/-- The memory after a write of at most 64 bytes: one page, or two (R430). -/
def bytesWritten (m : List Host.Cell) (a : Nat) (d : Bytes) : List Host.Cell :=
  let n := min d.length (64 - a % 64)
  let one := pageWritten m (a / 64) (a % 64) (d.take n)
  if n < d.length then pageWritten one (a / 64 + 1) 0 (d.drop n) else one

/-- The memory after a list of pieces. -/
def piecesWritten (m : List Host.Cell) (l : List (Nat × Bytes)) : List Host.Cell := l.foldl (fun m w => bytesWritten m w.1 w.2) m

section
variable {m : List Host.Cell} (wf : Memory.wf m = true)
include wf

/-- A page rewritten with some of its bytes replaced has exactly those bytes stored. -/
theorem pageWritten_stored (p : Nat) {off : Nat} {d : Bytes} (fits : off + d.length ≤ 64) : Stored m (pageWritten m p off d) (64 * p + off) d := by
  have page := Memory.writeBytes_stored wf (64 * p) (patch (Memory.readBytes m (64 * p) 64) off d)
  have len : (patch (Memory.readBytes m (64 * p) 64) off d).length = 64 := by simp [patch]; omega
  refine ⟨fun i hi => ?_, fun b hb => ?_, page.canon⟩
  · have at_ := page.inside (off + i) (by omega)
    rw [← Nat.add_assoc] at at_
    rw [pageWritten, at_]
    simp [patch, show min off 64 = off by omega, hi]
  · by_cases inPage : 64 * p ≤ b ∧ b < 64 * p + 64
    · obtain ⟨j, rfl⟩ := Nat.exists_eq_add_of_le inPage.1
      rw [pageWritten, page.inside j (by omega)]
      simp only [patch, List.getElem_append, List.length_append, List.length_take, Memory.readBytes_length, List.getElem_take, List.getElem_drop,
        Memory.getElem_readBytes, show min off 64 = off by omega]
      split
      case isTrue h => rw [dif_pos (by omega)]
      case isFalse h => rw [show off + d.length + (j - (off + d.length)) = j by omega]
    · exact page.outside b (by omega)

/-- A write over at most two pages stores its bytes. -/
theorem bytesWritten_stored {a : Nat} {d : Bytes} (fits : a % 64 + d.length ≤ 128) : Stored m (bytesWritten m a d) a d := by
  have first := pageWritten_stored wf (a / 64) (off := a % 64) (d := d.take (min d.length (64 - a % 64))) (by simp; omega)
  rw [Nat.div_add_mod] at first
  unfold bytesWritten
  dsimp only
  split
  case isTrue more =>
    have second := pageWritten_stored first.canon (a / 64 + 1) (off := 0) (d := d.drop (min d.length (64 - a % 64))) (by simp; omega)
    have place : a + (d.take (min d.length (64 - a % 64))).length = 64 * (a / 64 + 1) + 0 := by simp; omega
    rw [← place] at second
    have both := first.append second
    rwa [List.take_append_drop] at both
  case isFalse all => rwa [List.take_of_length_le (by omega)] at first ⊢

/-- The pieces of a wired write, written in order, store its bytes; `f` pages from the first one on cover them. -/
theorem piecesWritten_pageSplit_stored {f a : Nat} {d : Bytes} (fits : d.length ≤ 64 * f - a % 64) :
    Stored m (piecesWritten m (pageSplit f a d)) a d := by
  induction f generalizing m a d with
  | zero =>
    obtain rfl : d = [] := List.eq_nil_of_length_eq_zero (by omega)
    exact .nil wf a
  | succ f ih =>
    unfold pageSplit
    split
    case isTrue empty => subst empty; exact .nil wf a
    case isFalse =>
      have one := bytesWritten_stored wf (a := a) (d := d.take (min d.length (64 - a % 64))) (by simp; omega)
      have rest := ih one.canon (a := a + min d.length (64 - a % 64)) (d := d.drop (min d.length (64 - a % 64)))
        (by rw [List.length_drop]; omega)
      have place : a + min d.length (64 - a % 64) = a + (d.take (min d.length (64 - a % 64))).length := by simp
      rw [place] at rest
      have both := one.append rest
      rw [List.take_append_drop] at both
      rwa [← place] at both

end

/-! ### The operations of the tag -/

/-- A write through R428 that no power failure stops: its bytes, a shadow page, and no commit record. -/
theorem Tag.writeBytes_mem (t : Tag) (a : Nat) (d : Bytes) : (t.writeBytes a d none).mem = bytesWritten t.mem a d := by
  unfold Tag.writeBytes bytesWritten
  simp only [Option.bind_none, Option.isNone_none, and_true, Option.map_none]
  split <;> rfl

theorem Tag.writePage_frame (t : Tag) (p off : Nat) (d : Bytes) (stop : Option (Nat × Bool)) :
    ∃ m sh c, t.writePage p off d stop = { t with mem := m, shadow := sh, commit := c } := by
  unfold Tag.writePage
  dsimp only
  (repeat' split) <;> exact ⟨_, _, _, rfl⟩

theorem Tag.writeBytes_frame (t : Tag) (a : Nat) (d : Bytes) (stop : Option (Nat × Bool)) :
    ∃ m sh c, t.writeBytes a d stop = { t with mem := m, shadow := sh, commit := c } := by
  unfold Tag.writeBytes
  dsimp only
  split
  · obtain ⟨_, _, _, one⟩ := t.writePage_frame (a / 64) (a % 64) (d.take (min d.length (64 - a % 64)))
      (stop.bind fun k => if k.1 ≤ 6 then some k else none)
    rw [one]
    exact Tag.writePage_frame { t with mem := _, shadow := _, commit := _ } ..
  · exact t.writePage_frame ..

/-- The waiting pieces are written in order. -/
theorem Tag.serve_mem (t : Tag) : t.serve.mem = piecesWritten t.mem t.wire := by
  have fold (l : List (Nat × Bytes)) : ∀ t : Tag, (l.foldl (fun (x : Tag) w => x.writeBytes w.1 w.2 none) t).mem = piecesWritten t.mem l := by
    induction l with
    | nil => exact fun _ => rfl
    | cons w l ih => exact fun t => by rw [List.foldl_cons, ih, Tag.writeBytes_mem]; rfl
  exact fold t.wire t

theorem Tag.serve_frame (t : Tag) : ∃ m sh c, t.serve = { t with mem := m, shadow := sh, commit := c, wire := [] } := by
  have fold : ∃ m sh c, t.wire.foldl (fun (x : Tag) w => x.writeBytes w.1 w.2 none) t = { t with mem := m, shadow := sh, commit := c } :=
    List.foldlRecOn (motive := fun u => ∃ m sh c, u = { t with mem := m, shadow := sh, commit := c }) _ _ ⟨_, _, _, rfl⟩
      fun u ⟨_, _, _, hu⟩ w _ => by
        obtain ⟨_, _, _, hw⟩ := u.writeBytes_frame w.1 w.2 none
        rw [hw, hu]
        exact ⟨_, _, _, rfl⟩
  obtain ⟨m, sh, c, h⟩ := fold
  exact ⟨m, sh, c, by unfold Tag.serve; rw [h]⟩

/-- With nothing waiting, nothing is written. -/
theorem Tag.serve_empty {t : Tag} (h : t.wire = []) : t.serve = t := by
  unfold Tag.serve
  rw [h]
  obtain ⟨⟩ := t
  subst h
  rfl

end Sys2Proof.Machine
end

section
/-!
O46: UPDATE BINARY and the field's collapse during it (R420, R428 to R430); what the tag's field commands have in common.
-/

namespace Sys2Proof.Machine

/-! ### Commands of the field (R420, R427) -/

/-- From `s` to `t` nothing but the tag has changed. -/
def State.TagOnly (s t : State) : Prop := t = { s with tag := t.tag }

section
variable {s t : State}

theorem State.TagOnly.same (s : State) : s.TagOnly s := rfl

theorem State.TagOnly.onTag (h : s.TagOnly t) (f : Tag → Tag) : s.TagOnly (t.onTag f) := by
  unfold State.TagOnly at h ⊢
  rw [h]
  rfl

theorem State.TagOnly.tagAnswer (h : s.TagOnly t) (data : Bytes) (sw1 sw2 : Byte) : s.TagOnly (t.tagAnswer data sw1 sw2) := h.onTag _

theorem State.TagOnly.loseField (h : s.TagOnly t) : s.TagOnly t.loseField := h.onTag _

theorem State.TagOnly.ite {u : State} {c : Prop} [Decidable c] (x : s.TagOnly t) (y : s.TagOnly u) : s.TagOnly (if c then t else u) := by
  split
  · exact x
  · exact y

end

/-- Holding a command for the waiting pages changes the bytes stored, the shadow page, the commit record, the queue of pages and the count. -/
theorem State.tagHold_frame (s : State) :
    ∃ m sh c w x, s.tagHold = { s with tag := { s.tag with mem := m, shadow := sh, commit := c, wire := w, wtx := x } } := by
  unfold State.tagHold
  split
  case isTrue =>
    obtain ⟨m, sh, c, h⟩ := s.tag.serve_frame
    exact ⟨m, sh, c, [], satAdd 16 s.tag.wtx 1, by simp only [State.onTag, h]⟩
  case isFalse => exact ⟨_, _, _, _, _, rfl⟩

theorem State.tagHold_tagOnly (s : State) : s.TagOnly s.tagHold := by
  obtain ⟨_, _, _, _, _, h⟩ := s.tagHold_frame
  unfold State.TagOnly
  rw [h]

@[simp] theorem State.tagHold_same (s : State) :
    s.tagHold.tag.field = s.tag.field ∧ s.tagHold.tag.app = s.tag.app ∧ s.tagHold.tag.file = s.tag.file ∧ s.tagHold.tag.txnTb = s.tag.txnTb ∧
    s.tagHold.clock = s.clock := by
  obtain ⟨_, _, _, _, _, h⟩ := s.tagHold_frame
  rw [h]
  exact ⟨rfl, rfl, rfl, rfl, rfl⟩

@[simp] theorem State.tagHold_secured (s : State) : s.tagHold.tag.secured = (s.tag.field == 3) := by simp [Tag.secured]

theorem State.TagOnly.command {s : State} {f : State → State} (h : ∀ u, s.TagOnly u → s.TagOnly (f u)) : s.TagOnly (s.tagCommand f) :=
  .ite (h _ s.tagHold_tagOnly) (.same s)

/-- A field command runs after the waiting pages. -/
theorem State.tagCommand_eq {s : State} (field : 1 ≤ s.tag.field) (f : State → State) : s.tagCommand f = f s.tagHold := if_pos field

/-- The files that a secured tag lets the field write (R420). -/
theorem TagFile.mayWrite_iff {f : TagFile} {secured : Bool} :
    f.mayWrite secured = true ↔ secured = true ∧ (f = .ndef ∨ f = .svcLog ∨ f = .svcMsg) := by
  simp [TagFile.mayWrite, or_assoc]

/-! ### UPDATE BINARY -/

section
variable {w : TagWrite} {s : State} {f : TagFile} (field : 1 ≤ s.tag.field) (file : s.tag.file = some f)
include field file

/-- UPDATE BINARY of a file that may not be written. -/
theorem tagUpdate_denied (no : f.mayWrite (s.tag.field == 3) = false) : tagUpdate w s = s.tagHold.tagAnswer [] 0x69#8 0x82#8 := by
  simp [tagUpdate, State.tagCommand_eq field, file, no]

/-- UPDATE BINARY past the end of its file. -/
theorem tagUpdate_past (may : f.mayWrite (s.tag.field == 3) = true) (some_ : 1 ≤ w.data.length) (few : w.data.length ≤ 64)
    (past : f.place.2 < w.offset + w.data.length) : tagUpdate w s = s.tagHold.tagAnswer [] 0x6B#8 0x00#8 := by
  simp [tagUpdate, State.tagCommand_eq field, file, may, List.ne_nil_of_length_pos some_, Nat.not_lt.mpr few, past]

/-- UPDATE BINARY within its file writes; a collapse of the field gives no answer. -/
theorem tagUpdate_within (may : f.mayWrite (s.tag.field == 3) = true) (some_ : 1 ≤ w.data.length) (few : w.data.length ≤ 64)
    (within : w.offset + w.data.length ≤ f.place.2) :
    tagUpdate w s =
      let u := s.tagHold.onTag (fun t => t.writeBytes (f.place.1 + w.offset) w.data w.collapse)
      if w.collapse.isSome then (u.onTag (fun t => { t with answer := [] })).loseField else u.tagAnswer [] 0x90#8 0x00#8 := by
  simp [tagUpdate, State.tagCommand_eq field, file, may, List.ne_nil_of_length_pos some_, Nat.not_lt.mpr few, Nat.not_lt.mpr within]

end

/-- UPDATE BINARY changes the tag alone. -/
theorem tagUpdate_tagOnly (w : TagWrite) (s : State) : s.TagOnly (tagUpdate w s) := by
  refine .command fun u h => ?_
  dsimp only
  split
  · exact h.tagAnswer ..
  · exact .ite (.ite (h.tagAnswer ..) (.ite (h.tagAnswer ..) (.ite ((h.onTag _).onTag _).loseField ((h.onTag _).tagAnswer ..)))) (h.tagAnswer ..)

/-! ### A write that the field's collapse stops (R429) -/

/-- A replay writes the shadow page where the commit record says. -/
theorem Tag.replay_mem (t : Tag) : t.replay.mem = t.commit.elim t.mem fun p => Memory.writeBytes (64 * p) t.shadow t.mem := by
  unfold Tag.replay
  cases t.commit <;> rfl

/-- The tag once its field transaction has ended, the waiting pages aside. -/
def Tag.opened (t : Tag) (field : Nat) : Tag := { t with field := field, txnTb := none, app := false, file := none, rndB := none }

/-- The tag's memory after the field is lost and comes back, where no page waits: what the commit record says is written. -/
theorem tagOn_loseField {s : State} (wire : s.tag.wire = []) : (tagOn s.loseField).tag.mem = s.tag.replay.mem := by
  have lost : s.loseField.tag = { s.tag.opened 0 with lostTb := some s.clock.tb } := by
    have served := Tag.serve_empty (t := s.tag.opened 0) wire
    unfold State.loseField Tag.open_
    rw [State.onTag_tag, ← Tag.opened, served]
  simp only [tagOn, lost, Tag.opened, if_true, State.onTag_tag, Tag.replay_mem]

/-- A write of `d` within one page that stops in step `k`, once the commit record has been replayed: the memory is as before the write up to the
commit record, and from then on has the page with the bytes. -/
theorem Tag.writePage_stopped {t : Tag} (p off : Nat) (d : Bytes) {k : Nat} (torn : Bool) (commit : t.commit = none) :
    (t.writePage p off d (some (k, torn))).replay.mem = if k ≤ 3 ∨ (k = 4 ∧ torn = true) then t.mem else pageWritten t.mem p off d := by
  unfold Tag.writePage
  dsimp only
  by_cases h2 : k ≤ 2
  · simp [h2, Tag.replay_mem, commit, show k ≤ 3 by omega]
  by_cases h3 : k = 3
  · simp [h3, Tag.replay_mem, commit]
  by_cases h4 : k = 4
  · cases torn <;> simp [h4, Tag.replay_mem, commit, pageWritten, Tag.page]
  by_cases h5 : k = 5
  · simp [h5, Tag.replay_mem, pageWritten, Tag.page]
  · simp [h2, h3, h4, h5, show ¬k ≤ 3 by omega, Tag.replay_mem, pageWritten, Tag.page]

/-- A write that stops within its first page has begun no second one. -/
theorem Tag.writeBytes_stopped (t : Tag) (a : Nat) (d : Bytes) {k : Nat} (torn : Bool) (first : k ≤ 6) :
    t.writeBytes a d (some (k, torn)) = t.writePage (a / 64) (a % 64) (d.take (min d.length (64 - a % 64))) (some (k, torn)) := by
  simp [Tag.writeBytes, first]

/-- The tag's memory after a write that the field's collapse stopped in step `k` of its first page, and the next field. -/
theorem tagOn_tagUpdate_stopped {w : TagWrite} {s : State} {f : TagFile} {k : Nat} {torn : Bool} (secured : s.tag.field = 3)
    (file : s.tag.file = some f) (may : f = .ndef ∨ f = .svcLog ∨ f = .svcMsg) (some_ : 1 ≤ w.data.length) (few : w.data.length ≤ 64)
    (within : w.offset + w.data.length ≤ f.place.2) (collapse : w.collapse = some (k, torn)) (first : k ≤ 6) (wire : s.tagHold.tag.wire = [])
    (commit : s.tagHold.tag.commit = none) :
    (tagUpdate w s).tag.field = 0 ∧ (tagUpdate w s).tag.answer = [] ∧
    (tagOn (tagUpdate w s)).tag.mem = if k ≤ 3 ∨ (k = 4 ∧ torn = true) then s.tagHold.tag.mem
      else pageWritten s.tagHold.tag.mem ((f.place.1 + w.offset) / 64) ((f.place.1 + w.offset) % 64)
        (w.data.take (min w.data.length (64 - (f.place.1 + w.offset) % 64))) := by
  have field : 1 ≤ s.tag.field := by omega
  have e := tagUpdate_within (w := w) field file (TagFile.mayWrite_iff.mpr ⟨by simp [secured], may⟩) some_ few within
  simp only [collapse, Option.isSome_some, if_true] at e
  obtain ⟨m, sh, c, frame⟩ := s.tagHold.tag.writeBytes_frame (f.place.1 + w.offset) w.data (some (k, torn))
  have lost : ∀ u : State, u.loseField.tag.field = 0 ∧ u.loseField.tag.answer = u.tag.answer := fun u => by
    obtain ⟨_, _, _, h⟩ := (u.tag.opened 0).serve_frame
    unfold State.loseField Tag.open_
    rw [State.onTag_tag, ← Tag.opened, h]
    exact ⟨rfl, rfl⟩
  refine ⟨by rw [e, (lost _).1], by rw [e, (lost _).2]; rfl, ?_⟩
  rw [e, tagOn_loseField (by simp [frame, wire]), ← Tag.writePage_stopped _ _ _ torn commit, ← Tag.writeBytes_stopped _ _ _ torn first,
    Tag.replay_mem, Tag.replay_mem]
  rfl

/-- Settles O46: a write leaves `bytesWritten`, whose bytes `bytesWritten_stored` gives; one that stops leaves the page old up to the commit record. -/
theorem pageWritesAreAtomic : Obligations.PageWritesAreAtomic := by
  unfold Obligations.PageWritesAreAtomic
  refine ⟨?update, ?onePage, ?twoPages⟩
  case update =>
    intro w s f field file
    refine ⟨tagUpdate w s, rfl, fun no => ?_, fun secured kind some_ few past => ?_, fun secured kind whole some_ few within canon => ?_,
      tagUpdate_tagOnly w s⟩
    · have e := tagUpdate_denied (w := w) field file (Bool.eq_false_iff.mpr fun may => ?_)
      · rw [e]; exact ⟨rfl, rfl⟩
      · obtain ⟨h, kind⟩ := TagFile.mayWrite_iff.mp may
        rcases no with no | rfl | rfl
        · exact no (by simpa using h)
        all_goals simp at kind
    · rw [tagUpdate_past field file (TagFile.mayWrite_iff.mpr ⟨by simp [secured], kind⟩) some_ few past]
      exact ⟨rfl, rfl⟩
    · have e := tagUpdate_within (w := w) field file (TagFile.mayWrite_iff.mpr ⟨by simp [secured], kind⟩) some_ few within
      simp only [whole, Option.isSome_none, Bool.false_eq_true, if_false] at e
      obtain ⟨m, sh, c, frame⟩ := s.tagHold.tag.writeBytes_frame (f.place.1 + w.offset) w.data none
      have mem : (tagUpdate w s).tag.mem = bytesWritten s.tagHold.tag.mem (f.place.1 + w.offset) w.data := by
        rw [e, ← Tag.writeBytes_mem]; rfl
      have stored := bytesWritten_stored canon (a := f.place.1 + w.offset) (d := w.data) (by omega)
      rw [← mem] at stored
      exact ⟨by rw [e]; rfl, by rw [e]; simp [State.tagAnswer, frame, secured], stored.readBytes, stored.outside⟩
  case onePage =>
    intro w s f k torn secured file kind some_ within collapse onePage _ last wire commit canon
    obtain ⟨field, answer, mem⟩ := tagOn_tagUpdate_stopped secured file kind some_ (by omega) within collapse last wire commit
    rw [List.take_of_length_le (by omega)] at mem
    refine ⟨tagUpdate w s, tagOn (tagUpdate w s), rfl, field, answer, rfl, fun old a => ?_, fun new => ?_⟩
    · rw [mem, if_pos old]
    · have stored := pageWritten_stored canon ((f.place.1 + w.offset) / 64) onePage
      have late : ¬(k ≤ 3 ∨ (k = 4 ∧ torn = true)) := by
        rcases new with h | ⟨rfl, rfl⟩
        · omega
        · simp
      rw [mem, if_neg late]
      rw [Nat.div_add_mod] at stored
      exact ⟨stored.readBytes, stored.outside⟩
  case twoPages =>
    intro w s f torn n secured file kind few within collapse at_ more wire commit canon
    obtain ⟨-, -, mem⟩ := tagOn_tagUpdate_stopped secured file kind (by omega) few within collapse (Nat.le_refl 6) wire commit
    have len : (w.data.take n).length = n := by simp; omega
    rw [show min w.data.length (64 - (f.place.1 + w.offset) % 64) = n by omega, if_neg (by omega)] at mem
    have stored := pageWritten_stored canon ((f.place.1 + w.offset) / 64) (off := (f.place.1 + w.offset) % 64) (d := w.data.take n) (by omega)
    rw [Nat.div_add_mod, ← mem] at stored
    have read := stored.readBytes
    have outside := stored.outside
    rw [len] at read outside
    exact ⟨tagUpdate w s, tagOn (tagUpdate w s), rfl, rfl, read, outside⟩

end Sys2Proof.Machine
end

section
/-!
The way of a request from the state in which its operation runs to its answer, whether the request is a frame or a row that stands for one (log
entry 7): what the operation has to leave alone for the request to be served, and for the path to be all that changed.
-/

namespace Sys2Proof.Machine

/-- The state in which the operation of frame `f` runs, once the frame has been taken and consumed (R100, R101). -/
def State.begun (s : State) (f : Frame) (i : Fin 64) (h : Session) (e : Nat) : State := (s.taken f).consumed i h e

/-- State `u` is one in which the operation of a request of session `h` runs, which came to `s` as frame `f` with SEQ `seq`, extended `e`. -/
structure State.Runs (s u : State) (f : Frame) (i : Fin 64) (h : Session) (seq e : Nat) : Prop where
  port : f.port = h.port
  number : f.seq.toNat = seq
  path : s.PathOnly u i h
  consumes : s.Consumes u i h e

section
variable {s u : State} {f : Frame} {i : Fin 64} {h : Session} {e seq : Nat}

theorem State.Passes.runs (p : s.Passes f i h e) : s.Runs (s.begun f i h e) f i h f.seq.toNat e where
  port := p.port.symm
  number := rfl
  path := s.consumed_pathOnly f i h e
  consumes := p.consumes

theorem State.Ready.runs (rd : s.Ready i h) (op addr count : Nat) (payload : List W64) :
    s.Runs (s.nextRuns (s.frameOf i h op addr count payload) i h) (s.frameOf i h op addr count payload) i h ((h.ext + 1) % 65536) (h.ext + 1) where
  port := State.frameOf_port ..
  number := State.frameOf_seq ..
  path := s.nextRuns_pathOnly ..
  consumes := State.nextRuns_consumes rd.names _

/-! ### What the path of a request leaves (R100, R101) -/

/-- The path of a request changes parts of the host ports, keys, counters and the log, and the time of the last frame. -/
theorem State.PathOnly.frame (po : s.PathOnly u i h) :
    ∃ hs ks cn lg, u = { s with host := hs, keys := ks, cnt := cn, log := lg, pwr := { s.pwr with idleTb := s.clock.tb } } :=
  ⟨_, _, _, _, po.rest⟩

theorem State.PathOnly.sluices (po : s.PathOnly u i h) : u.host.sluices = s.host.sluices := by rw [po.kept.host]

/-- A refusal of the dike changes no slot and nothing of the host ports. -/
theorem State.PathOnly.dikeRefuse (po : s.PathOnly u i h) (polder port addr : Nat) : s.PathOnly (u.dikeRefuse polder port addr) i h where
  kept := {
    host := by simpa using po.kept.host
    others := fun j hj => (State.sidUse_of_table (by simp) j).trans (po.kept.others j hj)
    slots := fun n hn => by
      rw [← po.kept.slots n hn]
      simp [State.dikeRefuse] }
  rest := by
    have hr := po.rest
    apply State.parts <;> simp <;> rw [hr]

/-! ### The answer of an operation (R95, R98) -/

/-- An answer changes the response, a key's use count, counters and the log. -/
theorem Act.answer_rest (a : Act) (s : State) (f : Frame) (i : Fin 64) (h : Session) :
    a.answer s f i h = { a.state with host := (a.answer s f i h).host, keys := (a.answer s f i h).keys, cnt := (a.answer s f i h).cnt,
                                      log := (a.answer s f i h).log } := by
  apply State.parts <;> simp [Act.answer]

theorem Act.answer_host (a : Act) (s : State) (f : Frame) (i : Fin 64) (h : Session) :
    (a.answer s f i h).host = { a.state.host with resp := (a.answer s f i h).host.resp } := State.respond_host ..

/-- An answer leaves every slot but its session key's as it was. -/
theorem Act.answer_slot_other (a : Act) (s : State) (f : Frame) (i : Fin 64) {h : Session} {n : Fin 256} (hn : n ≠ h.keySlot.getD 0) :
    (a.answer s f i h).slot n = a.state.slot n :=
  State.respond_slot_other _ _ _ _ _ _ _ fun w hmem e => hn (e.symm.trans ((s.taken f).wrapOf_slot f h w hmem))

section
variable (r : s.Runs u f i h seq e) (a : Act)
include r

/-- The response carries what the operation answers. -/
theorem State.Runs.answers : (a.answer s f i h).Answers i h seq a.status a.count a.payload := by
  obtain ⟨port, number, -, -⟩ := r
  obtain ⟨x, hx, hst, hsid, hcount, hpay, hattn, hseq, -, hseal, hport⟩ :=
    a.state.respond_resp f i.1 a.status a.count a.payload (a.state.attn h.polder) ((s.taken f).wrapOf f h)
  refine ⟨x, hx, ?_, hport.trans port, hst, hseq.trans number, hcount, hpay, hseal.trans (State.wrapOf_isSome ..), ?_⟩
  · rw [hsid, sidOf, port]
  · rw [hattn, Act.answer, State.respond_attn]

/-- An operation that leaves the session table alone has served its request. -/
theorem State.Runs.served (table : a.state.host.table = u.host.table) : s.Served (a.answer s f i h) i h seq e a.status a.count a.payload where
  answer := r.answers a
  session := by
    obtain ⟨x, hx, hext, hmem, htb, -⟩ := (r.consumes.of_table table).respond (f := f) i.1 a.status a.count a.payload
      (a.state.attn h.polder) ((s.taken f).wrapOf f h)
    exact ⟨x, hx, hext, hmem, htb⟩

/-- An operation that leaves the host ports and the key slots alone. -/
theorem State.Runs.hostKept (host : a.state.host = u.host) (slots : ∀ n, a.state.slot n = u.slot n) : s.HostKept (a.answer s f i h) i h where
  host := by rw [Act.answer_host, host, r.path.kept.host]
  others j hj := by rw [Act.answer, State.respond_sidUse, State.sidUse_of_table (congrArg HostState.table host), r.path.kept.others j hj]
  slots n hn := by rw [Act.answer_slot_other a s f i hn, slots, r.path.kept.slots n hn]

omit r in
/-- An operation in which no more than the path of its request has happened. -/
theorem Act.pathOnly {a : Act} (path : s.PathOnly a.state i h) : s.PathOnly (a.answer s f i h) i h :=
  path.respond ((s.taken f).wrapOf_slot f h) ..

/-- An operation that answers and changes nothing has served its request, and no more than its path has happened. -/
theorem State.Runs.noChange (same : a.state = u) :
    s.Served (a.answer s f i h) i h seq e a.status a.count a.payload ∧ s.PathOnly (a.answer s f i h) i h :=
  ⟨r.served a (by rw [same]), Act.pathOnly (by rw [same]; exact r.path)⟩

/-- An operation that the dike refuses has served its request, and no more than its path has happened. -/
theorem State.Runs.refused (polder port addr : Nat) (same : a.state = u.dikeRefuse polder port addr) :
    s.Served (a.answer s f i h) i h seq e a.status a.count a.payload ∧ s.PathOnly (a.answer s f i h) i h :=
  ⟨r.served a (by rw [same]; simp), Act.pathOnly (by rw [same]; exact r.path.dikeRefuse ..)⟩

end

/-! ### The operations of a frame -/

/-- A request whose frame passes R100 runs its operation and is answered. -/
theorem State.intake_inOrder {op : Nat} (k : s.Takes op f) (p : s.Passes f i h e) (run : Fin 64 → Session → State → Act) :
    s.intake op f (fun s => s.inOrder f run (fun _ s => s)) = (run i h (s.begun f i h e)).answer s f i h := by
  rw [State.intake_takes k, State.inOrder_passes p]
  rfl

theorem exec_read_passes (k : s.Takes 1 f) (p : s.Passes f i h e) :
    exec (.read f) s = .next (((s.begun f i h e).readAccess i h f.addr.toNat f.count.toNat).answer s f i h) :=
  congrArg Host.Outcome.next (State.intake_inOrder k p _)

theorem exec_write_passes (k : s.Takes 2 f) (p : s.Passes f i h e) :
    exec (.write f) s = .next (((s.begun f i h e).writeAccess i h f.addr.toNat f.payload).answer s f i h) :=
  congrArg Host.Outcome.next (State.intake_inOrder k p _)

theorem exec_submit_passes (k : s.Takes 6 f) (p : s.Passes f i h e) :
    exec (.submit f) s = .next (((s.begun f i h e).submitNow i h f.addr.toNat f.payload).answer s f i h) :=
  congrArg Host.Outcome.next (State.intake_inOrder k p _)

theorem exec_feed_passes (k : s.Takes 7 f) (p : s.Passes f i h e) :
    exec (.feed f) s = .next (((s.begun f i h e).feedNow i h (Fin.ofNat 16 f.addr.toNat) f.payload).answer s f i h) :=
  congrArg Host.Outcome.next (State.intake_inOrder k p _)

end

end Sys2Proof.Machine
end

section
/-!
O45: the tag's field, its files, the wired side and the status line (R420, R421, R425 to R427, R429, R431).
-/

namespace Sys2Proof.Machine

/-! ### The end of a field transaction, and the wire (R425 to R427) -/

/-- Which pages wait and what the memory holds say what a service of them leaves. -/
theorem Tag.serve_mem_congr {t u : Tag} (mem : t.mem = u.mem) (wire : t.wire = u.wire) : t.serve.mem = u.serve.mem := by
  rw [Tag.serve_mem, Tag.serve_mem, mem, wire]

/-- The tag is Open once the field transaction has ended, and nothing waits. -/
theorem Tag.open_eq (t : Tag) (field : Nat) :
    ∃ sh c, t.open_ field = { t.opened field with mem := t.serve.mem, shadow := sh, commit := c, wire := [] } := by
  obtain ⟨m, sh, c, frame⟩ := (t.opened field).serve_frame
  have mem : t.serve.mem = m := by rw [Tag.serve_mem_congr (t := t) (u := t.opened field) rfl rfl, frame]
  exact ⟨sh, c, by rw [mem]; exact frame⟩

/-- A field command finds pages waiting after the first 50 ms: they are written, and it counts as held. -/
theorem State.tagHold_serves {s : State} (txn : s.tag.txnTb ≠ none) (free : s.tagHeld = 0) (wire : s.tag.wire ≠ []) :
    s.tagHold = s.onTag (fun t => { t.serve with wtx := satAdd 16 t.wtx 1 }) := if_pos ⟨Option.isSome_iff_ne_none.mpr txn, free, wire⟩

/-- A field command finds nothing to wait for. -/
theorem State.tagHold_none {s : State} (h : s.tag.txnTb = none ∨ s.tagHeld ≠ 0 ∨ s.tag.wire = []) : s.tagHold = s := by
  refine if_neg fun ⟨txn, free, wire⟩ => ?_
  rcases h with h | h | h
  · simp [h] at txn
  · exact h free
  · exact wire h

/-- With no field transaction nothing is held. -/
theorem State.tagHeld_none {s : State} (txn : s.tag.txnTb = none) : s.tagHeld = 0 := by simp [State.tagHeld, txn]

/-- A wired write while a field transaction runs waits behind the pages that wait. -/
theorem State.wireWrite_waits {s : State} (txn : s.tag.txnTb ≠ none) (a : Nat) (d : Bytes) :
    s.wireWrite a d = s.onTag (fun t => { t with wire := t.wire ++ pageSplit 258 a d }) := by
  simp [State.wireWrite, txn]

/-- A wired write with no field transaction is written at once; 258 pages are more than the memory has. -/
theorem State.wireWrite_stores {s : State} {a : Nat} {d : Bytes} (txn : s.tag.txnTb = none) (wire : s.tag.wire = [])
    (wf : Memory.wf s.tag.mem = true) (few : d.length ≤ 0x4000) :
    Stored s.tag.mem (s.wireWrite a d).tag.mem a d ∧ (s.wireWrite a d).tag.wire = [] := by
  have e : s.wireWrite a d = s.onTag (fun t => ({ t with wire := t.wire ++ pageSplit 258 a d }).serve) := by simp [State.wireWrite, txn]
  obtain ⟨m, sh, c, frame⟩ := Tag.serve_frame { s.tag with wire := s.tag.wire ++ pageSplit 258 a d }
  have stored := piecesWritten_pageSplit_stored wf (f := 258) (a := a) (d := d) (by omega)
  constructor
  · rw [e, State.onTag_tag, Tag.serve_mem, wire]
    exact stored
  · rw [e, State.onTag_tag, frame]

theorem State.TagOnly.wireWrite {s t : State} (h : s.TagOnly t) (a : Nat) (d : Bytes) : s.TagOnly (t.wireWrite a d) := by
  unfold State.wireWrite
  exact .ite (h.onTag _) (h.onTag _)

/-! ### Field commands -/

section
variable {s : State} (field : 1 ≤ s.tag.field)
include field

theorem tagSelectApp_ndef : tagSelectApp ndefAid s = ((s.tagHold.onTag fun t =>
    { t with field := max 2 t.field, txnTb := some (t.txnTb.getD s.clock.tb) }).onTag fun t => { t with app := true, file := none }).tagAnswer
      [] 0x90#8 0x00#8 := by
  simp [tagSelectApp, State.tagCommand_eq field]

theorem tagSelectApp_other {aid : Bytes} (other : aid ≠ ndefAid) : tagSelectApp aid s = (s.tagHold.onTag fun t =>
    { t with field := max 2 t.field, txnTb := some (t.txnTb.getD s.clock.tb) }).tagAnswer [] 0x6A#8 0x82#8 := by
  simp [tagSelectApp, State.tagCommand_eq field, other]

theorem tagSelectFileId_found {fid : BitVec 16} {f : TagFile} (app : s.tag.app = true) (known : tagFileOf fid.toNat = some f) :
    tagSelectFileId fid s = (s.tagHold.onTag fun t => { t with file := some f }).tagAnswer [] 0x90#8 0x00#8 := by
  simp [tagSelectFileId, State.tagCommand_eq field, app, known]

theorem tagSelectFileId_none {fid : BitVec 16} (no : s.tag.app = false ∨ tagFileOf fid.toNat = none) :
    tagSelectFileId fid s = s.tagHold.tagAnswer [] 0x6A#8 0x82#8 := by
  rcases no with no | no <;> simp [tagSelectFileId, State.tagCommand_eq field, no]

/-- READ BINARY: what it answers, by the file selected (R420, R421). -/
theorem tagRead_none {offset le : Nat} (none : s.tag.file = none) : tagRead offset le s = s.tagHold.tagAnswer [] 0x69#8 0x82#8 := by
  simp [tagRead, State.tagCommand_eq field, none]

theorem tagRead_some {offset le : Nat} {f : TagFile} (file : s.tag.file = some f) :
    tagRead offset le s = if f.mayRead (s.tag.field == 3) then
        (if f.place.2 ≤ offset then s.tagHold.tagAnswer [] 0x6B#8 0x00#8
         else s.tagHold.tagAnswer (Memory.readBytes s.tagHold.tag.mem (f.place.1 + offset) (min (min le 255) (f.place.2 - offset))) 0x90#8 0x00#8)
      else s.tagHold.tagAnswer [] 0x69#8 0x82#8 := by
  simp [tagRead, State.tagCommand_eq field, file]

/-- READ BINARY leaves an answer and nothing else besides the waiting pages. -/
theorem tagRead_answer (offset le : Nat) : ∃ answer, tagRead offset le s = s.tagHold.onTag fun t => { t with answer := answer } := by
  cases file : s.tag.file with
  | none => exact ⟨_, tagRead_none field file⟩
  | some f =>
    rw [tagRead_some field file]
    split
    · split <;> exact ⟨_, rfl⟩
    · exact ⟨_, rfl⟩

end

/-- The files that the field may read (R420). -/
theorem TagFile.mayRead_iff {f : TagFile} {secured : Bool} : f.mayRead secured = true ↔ secured = true ∨ f = .cc ∨ f = .ndef := by
  simp [TagFile.mayRead, or_assoc]

/-! ### The window of the host (R426, R427) -/

/-- An address of the tag window. -/
theorem windowAt_tag {offset : Nat} (h : offset < 0x4000) : windowAt (0x20000000 + offset) = some (.tag, 0x20000000, 0x4000) := by
  simp only [windowAt]
  rw [if_neg (by omega), if_neg (by omega), if_neg (by omega), if_neg (by omega), if_neg (by omega), if_neg (by omega), if_pos (by omega)]

theorem inRegion_tag {offset n : Nat} (h : offset < 0x4000) : inRegion (0x20000000 + offset) n = decide (offset + 8 * n ≤ 0x4000) := by
  simp only [inRegion, regionEnd, windowAt_tag h, Option.any_some]
  exact decide_eq_decide.mpr (by omega)

section
variable {s u : State} {i : Fin 64} {h : Session} {offset : Nat} {words : List W64} (at_ : offset < 0x4000)
include at_

/-- A WRITE that runs past the end of the window. -/
theorem State.writeAccess_tag_past (past : 0x4000 < offset + 8 * words.length) :
    u.writeAccess i h (0x20000000 + offset) words = u.act NOADDR 0 := by
  unfold State.writeAccess
  rw [inRegion_tag at_, if_pos (by simpa using past)]

/-- A WRITE within the window meets the dike first. -/
theorem State.writeAccess_tag_denied (within : offset + 8 * words.length ≤ 0x4000)
    (no : h.commissioning = true ∨ u.pwr.recovery = true ∨ u.mayWriteTag h.polder = false ∨ offset < 0x100) :
    u.writeAccess i h (0x20000000 + offset) words = (u.dikeRefuse h.polder h.port.1 (0x20000000 + offset)).act DENIED 0 := by
  have denied : u.mayWriteWindow h .tag offset = false := by
    rcases no with no | no | no | no
    · simp [State.mayWriteWindow, no]
    · simp [State.mayWriteWindow, no]
    · simp [State.mayWriteWindow, no]
    · simp [State.mayWriteWindow, Nat.not_le.mpr no]
  unfold State.writeAccess
  rw [inRegion_tag at_, if_neg (by simpa using within), windowAt_tag at_]
  simp [State.windowAccess, Window.startOk, denied]

/-- A WRITE within the window that the dike lets through goes to the wire. -/
theorem State.writeAccess_tag (from_ : 0x100 ≤ offset) (within : offset + 8 * words.length ≤ 0x4000) (open_ : h.commissioning = false)
    (up : u.pwr.recovery = false) (may : u.mayWriteTag h.polder = true) (lit : u.isDark 0x2000 = false) :
    u.writeAccess i h (0x20000000 + offset) words = if u.tagHeld ≠ 0 then
        { status := BUSY, count := 0, payload := [busyWord (u.tagHeld / 25) 7],
          state := u.onTag (fun t => { t with wireBusy := satAdd 16 t.wireBusy 1 }) }
      else (u.wireWrite offset (wordBytes words)).act OK words.length := by
  unfold State.writeAccess
  rw [inRegion_tag at_, if_neg (by simpa using within), windowAt_tag at_]
  have inside : ¬(offset < 0x100 ∨ 0x4000 < offset + 8 * words.length) := by omega
  simp only [State.windowAccess, Window.startOk, State.mayWriteWindow, open_, up, may, Window.block, lit, Nat.add_sub_cancel_left, from_,
    State.writeWindow, State.tagWindow, if_neg inside]
  by_cases held : u.tagHeld = 0
  · simp [held, State.act, OK, BUSY]
  · simp [held, OK, BUSY]

end

theorem wordBytes_length (words : List W64) : (wordBytes words).length = 8 * words.length := by
  have bytes (n v : Nat) : (leBytes n v).length = n := by
    induction n generalizing v with
    | zero => rfl
    | succ n ih => rw [leBytes, List.length_cons, ih]
  induction words with
  | nil => rfl
  | cons w ws ih =>
    rw [wordBytes, List.map_cons, List.flatten_cons, List.length_append, bytes]
    rw [wordBytes] at ih
    rw [ih, List.length_cons]
    omega

/-! ### The status line (R431) -/

/-- The status line with a text: its 48 bytes are stored, or wait for the field. -/
theorem State.statusLine_line {s u : State} {text : String} (set : s.tag.statusOff ≠ 0)
    (mem : u.tag.mem = s.tag.mem ∧ u.tag.wire = s.tag.wire ∧ u.tag.txnTb = s.tag.txnTb ∧ u.tag.statusOff = s.tag.statusOff) :
    (s.tag.txnTb = none → s.tag.wire = [] → Memory.wf s.tag.mem = true →
      Memory.readBytes (u.statusLine text).tag.mem (0x140 + s.tag.statusOff) 48 = (ascii text ++ List.replicate 48 0x20#8).take 48 ∧
      ∀ a, a < 0x140 + s.tag.statusOff ∨ 0x140 + s.tag.statusOff + 48 ≤ a →
        Memory.read (u.statusLine text).tag.mem a = Memory.read s.tag.mem a) ∧
    (s.tag.txnTb ≠ none → (u.statusLine text).tag.mem = s.tag.mem ∧ (u.statusLine text).tag.wire = s.tag.wire ++
      pageSplit 258 (0x140 + s.tag.statusOff) ((ascii text ++ List.replicate 48 0x20#8).take 48)) := by
  obtain ⟨mem, wire, txn, off⟩ := mem
  have e : u.statusLine text = u.wireWrite (0x140 + s.tag.statusOff) ((ascii text ++ List.replicate 48 0x20#8).take 48) := by
    rw [State.statusLine, off, if_neg set]
  have len : ((ascii text ++ List.replicate 48 0x20#8).take 48).length = 48 := by simp
  rw [e]
  constructor
  · intro none empty wf
    obtain ⟨stored, -⟩ := State.wireWrite_stores (s := u) (a := 0x140 + s.tag.statusOff) (d := (ascii text ++ List.replicate 48 0x20#8).take 48)
      (txn.trans none) (wire.trans empty) (by rwa [mem]) (by omega)
    have read := stored.readBytes
    have outside := stored.outside
    rw [len] at read outside
    rw [mem] at outside
    exact ⟨read, outside⟩
  · intro some_
    rw [State.wireWrite_waits (by rwa [txn]), ← mem, ← wire]
    exact ⟨rfl, rfl⟩

theorem State.TagOnly.statusLine {s t : State} (h : s.TagOnly t) (text : String) : s.TagOnly (t.statusLine text) := .ite h (h.wireWrite _ _)

theorem tenSeconds : 10 * tbSecond = 250000000 := by decide

/-- TB since which FAULT_N has been found low. -/
def State.faultLowSince (s : State) : Option Nat := if s.faultN then some (s.tag.faultSince.getD s.clock.tb) else none

/-- The text that the Hearth, or the boot ROM in recovery service, writes. -/
def State.statusText (s : State) : String :=
  if s.pwr.recovery then "recovery mode"
  else if s.faultLowSince.any (fun t => decide (t + 10 * tbSecond ≤ s.clock.tb)) then "out of service: fault"
  else "in service: " ++ decimal s.readyCount.1 ++ " of " ++ decimal s.readyCount.2 ++ " outputs ready"

theorem statusHearth_eq {s : State} (writer : s.pwr.recovery = true ∨ s.hearth.running = true) :
    statusHearth s = (s.onTag fun t => { t with faultSince := s.faultLowSince }).statusLine s.statusText := by
  have writes : ¬(s.hearth.running = false ∧ s.pwr.recovery = false) := by
    rcases writer with h | h <;> simp [h]
  have e : statusHearth s = if s.pwr.recovery then _ else if s.faultLowSince.any (fun t => decide (t + 10 * tbSecond ≤ s.clock.tb)) then _ else _ :=
    if_neg writes
  rw [e, State.statusText, apply_ite (State.statusLine _), apply_ite (State.statusLine _)]
  rfl

theorem statusHearth_idle {s : State} (recovery : s.pwr.recovery = false) (stopped : s.hearth.running = false) : statusHearth s = s :=
  if_pos ⟨stopped, recovery⟩

theorem State.statusText_recovery {s : State} (recovery : s.pwr.recovery = true) : s.statusText = "recovery mode" := if_pos recovery

/-- FAULT_N has been low for `ten` ticks or longer. -/
theorem State.faultLowSince_long {s : State} {t0 ten : Nat} (fault : s.faultN = true) (since : s.tag.faultSince = some t0)
    (long : t0 + ten ≤ s.clock.tb) : s.faultLowSince.any (fun t => decide (t + ten ≤ s.clock.tb)) = true := by
  simp [State.faultLowSince, fault, since, long]

/-- FAULT_N is high, or has been low for less than `ten` ticks. -/
theorem State.faultLowSince_brief {s : State} {ten : Nat} (some_ : 0 < ten)
    (well : s.faultN = false ∨ ∀ t0, s.tag.faultSince = some t0 → s.clock.tb < t0 + ten) :
    s.faultLowSince.any (fun t => decide (t + ten ≤ s.clock.tb)) = false := by
  unfold State.faultLowSince
  split
  case isFalse => rfl
  case isTrue fault =>
    have brief := well.resolve_left (by simp [fault])
    cases since : s.tag.faultSince with
    | none => simp [Nat.ne_zero_of_lt some_]
    | some t0 => simp [brief t0 since]

theorem State.statusText_fault {s : State} {t0 : Nat} (recovery : s.pwr.recovery = false) (fault : s.faultN = true)
    (since : s.tag.faultSince = some t0) (long : t0 + 250000000 ≤ s.clock.tb) : s.statusText = "out of service: fault" := by
  unfold State.statusText
  rw [if_neg (by simp [recovery]), if_pos (State.faultLowSince_long fault since (by rw [tenSeconds]; exact long))]

theorem State.statusText_service {s : State} (recovery : s.pwr.recovery = false)
    (well : s.faultN = false ∨ ∀ t0, s.tag.faultSince = some t0 → s.clock.tb < t0 + 250000000) :
    s.statusText = "in service: " ++ toString s.readyCount.1 ++ " of " ++ toString s.readyCount.2 ++ " outputs ready" := by
  have brief := State.faultLowSince_brief (s := s) (ten := 10 * tbSecond) (by rw [tenSeconds]; decide) (by rw [tenSeconds]; exact well)
  unfold State.statusText
  rw [if_neg (by simp [recovery]), if_neg (ne_true_of_eq_false brief)]
  rfl

/-- Without a place for the status line nothing is written. -/
theorem State.statusLine_off {s : State} (off : s.tag.statusOff = 0) (text : String) : s.statusLine text = s := if_pos off

section
variable {s : State} {sid : Sid} {h : Session} {offset : Nat} {words : WordList}

/-- TAG_WINDOW_WRITE of a ready session, from an aligned offset within the window. -/
theorem State.Ready.tagHostWindow (rd : s.Ready sid h) (aligned : offset % 8 = 0) (some_ : 1 ≤ words.length) (few : words.length ≤ 128) :
    tagHostWindow sid offset words s =
      let f := s.frameOf sid h 2 (0x20000000 + offset) words.length words
      ((s.nextRuns f sid h).writeAccess sid h (0x20000000 + offset) words).answer s f sid h :=
  rd.ask words _ (by simp [countOk, some_, few]) (by simp [addrOk]; omega)

end

/-- Settles O45: field commands run after `State.tagHold`, wired writes are `State.wireWrite`, whose bytes `State.wireWrite_stores` gives. -/
theorem tagFilesAndWire : Obligations.TagFilesAndWire := by
  unfold Obligations.TagFilesAndWire
  refine ⟨?fieldOn, ?hold, ?selectApp, ?selectFile, ?read, ?fieldEnd, ?fdet, ?window, ?denied, ?serve, ?line, ?noLine⟩
  case fieldOn =>
    intro s off canon
    have e : tagOn s = s.onTag (fun t => { t.replay with field := 1, fdet := t.fdetEn, lostTb := none }) := if_pos off
    refine ⟨tagOn s, rfl, by rw [e]; rfl, ?_, ?_, fun none => ?_, fun p set => ?_, by rw [e]; rfl⟩
    · rw [e]; unfold Tag.replay State.onTag; cases s.tag.commit <;> rfl
    · rw [e]; unfold Tag.replay State.onTag; cases c : s.tag.commit <;> simp [c]
    · rw [e]; simp [Tag.replay, none]
    · have stored := Memory.writeBytes_stored canon (64 * p) s.tag.shadow
      have mem : (tagOn s).tag.mem = Memory.writeBytes (64 * p) s.tag.shadow s.tag.mem := by rw [e]; simp [Tag.replay, set]
      rw [mem]
      exact ⟨by rw [e]; simp [Tag.replay, set, satAdd], stored.inside, stored.outside⟩
  case hold =>
    intro s
    refine ⟨State.tagHold_none, fun txn free wire => ⟨s.onTag Tag.serve, congrArg Host.Outcome.next (if_pos free), ?_⟩⟩
    obtain ⟨m, sh, c, frame⟩ := s.tag.serve_frame
    simp only [State.tagHold_serves txn free wire, State.onTag, frame, satAdd]
    exact ⟨trivial, trivial, rfl, trivial⟩
  case selectApp =>
    intro aid s field
    refine ⟨tagSelectApp aid s, rfl, ?_⟩
    by_cases ndef : aid = ndefAid
    · subst ndef
      rw [tagSelectApp_ndef field]
      exact ⟨by simp [State.tagAnswer], rfl, by simp [State.tagAnswer], fun _ => ⟨rfl, rfl, rfl⟩, fun n => (n rfl).elim,
        ((s.tagHold_tagOnly.onTag _).onTag _).tagAnswer ..⟩
    · rw [tagSelectApp_other field ndef]
      exact ⟨by simp [State.tagAnswer], rfl, by simp [State.tagAnswer], fun n => (ndef n).elim, fun _ => ⟨by simp [State.tagAnswer], rfl⟩,
        (s.tagHold_tagOnly.onTag _).tagAnswer ..⟩
  case selectFile =>
    intro fid s field
    refine ⟨tagSelectFileId fid s, rfl, fun f app known => ?_, fun no => ?_, ?_⟩
    · rw [tagSelectFileId_found field app known]
      exact ⟨rfl, rfl⟩
    · rw [tagSelectFileId_none field no]
      exact ⟨by simp [State.tagAnswer], rfl⟩
    · by_cases no : s.tag.app = false ∨ tagFileOf fid.toNat = none
      · rw [tagSelectFileId_none field no]
        exact ⟨rfl, s.tagHold_tagOnly.tagAnswer ..⟩
      · rw [not_or, Bool.not_eq_false, Option.eq_none_iff_forall_ne_some, not_forall_not] at no
        obtain ⟨app, f, known⟩ := no
        rw [tagSelectFileId_found field app known]
        exact ⟨rfl, (s.tagHold_tagOnly.onTag _).tagAnswer ..⟩
  case read =>
    intro offset le s field
    refine ⟨tagRead offset le s, rfl, fun f file may within => ?_, fun f file may past => ?_, fun f file open_ cc ndef => ?_, fun none => ?_, ?_⟩
    · rw [tagRead_some field file, if_pos (TagFile.mayRead_iff.mpr (by simpa using may)), if_neg (Nat.not_le.mpr within)]
      rfl
    · rw [tagRead_some field file, if_pos (TagFile.mayRead_iff.mpr (by simpa using may)), if_pos past]
      rfl
    · rw [tagRead_some field file, if_neg (by rw [TagFile.mayRead_iff]; simp [open_, cc, ndef])]
      rfl
    · rw [tagRead_none field none]
      rfl
    · obtain ⟨answer, e⟩ := tagRead_answer field offset le
      rw [e]
      exact (s.tagHold_tagOnly.onTag _)
  case fieldEnd =>
    intro s field
    have lost : tagLost s = s.onTag (fun t => { t.open_ 0 with lostTb := some s.clock.tb }) := if_pos field
    have end_ : tagEnd s = s.onTag (fun t => t.open_ 1) := if_pos field
    obtain ⟨sh, c, open0⟩ := s.tag.open_eq 0
    obtain ⟨sh', c', open1⟩ := s.tag.open_eq 1
    constructor
    · refine ⟨tagLost s, rfl, ?_⟩
      simp [lost, State.onTag, open0, Tag.opened]
    · refine ⟨tagEnd s, rfl, ?_⟩
      simp [end_, State.onTag, open1, Tag.opened]
  case fdet =>
    intro s t0 off lost
    by_cases due : t0 + 250000 ≤ s.clock.tb
    · have e : tagFdet s = s.onTag (fun t => { t with fdet := false, lostTb := none }) := if_pos ⟨off, by simpa [lost] using due⟩
      exact ⟨tagFdet s, rfl, fun _ => by rw [e]; rfl, fun early => (Nat.not_le.mpr early due).elim, by rw [e]; rfl, by rw [e]; rfl⟩
    · have e : tagFdet s = s := if_neg fun h => due (by simpa [lost] using h.2)
      exact ⟨tagFdet s, rfl, fun h => (due h).elim, fun _ => by rw [e], by rw [e], by rw [e]⟩
  case window =>
    intro sid offset words h s rd may comm up lit aligned at_ some_ few
    have r := rd.runs 2 (0x20000000 + offset) words.length words
    refine ⟨tagHostWindow sid offset words s, rfl, ?_⟩
    rw [rd.tagHostWindow aligned some_ few]
    dsimp only
    generalize s.frameOf sid h 2 (0x20000000 + offset) words.length words = f at r ⊢
    generalize s.nextRuns f sid h = u at r ⊢
    obtain ⟨hs, ks, cn, lg, hu⟩ := r.path.frame
    have may : u.mayWriteTag h.polder = true := by rw [hu]; exact may
    have up : u.pwr.recovery = false := by rw [hu]; exact up
    have lit : u.isDark 0x2000 = false := by rw [r.path.isDark, lit]
    have tag : u.tag = s.tag := by rw [hu]
    have held : u.tagHeld = s.tagHeld := by rw [hu]; rfl
    have access := State.writeAccess_tag (u := u) (i := sid) (words := words) at_ (open_ := comm) (up := up) (may := may) (lit := lit)
    refine ⟨fun past => ?_, fun system => ?_, fun from_ within busy => ?_, fun from_ within txn free => ?_, fun from_ within none empty canon => ?_⟩
    · rw [State.writeAccess_tag_past at_ past]
      exact r.noChange _ rfl
    · rw [State.writeAccess_tag_denied at_ (by omega) (.inr (.inr (.inr system)))]
      exact r.refused _ _ _ _ rfl
    · rw [access from_ within, if_pos (by rwa [held]), held]
      exact ⟨r.served _ rfl, r.hostKept _ rfl fun _ => rfl, (Act.answer_rest ..).trans (by rw [hu]; rfl)⟩
    · rw [access from_ within, if_neg (by simp [held, free]), State.wireWrite_waits (by rwa [tag])]
      exact ⟨r.served _ rfl, r.hostKept _ rfl fun _ => rfl, (Act.answer_rest ..).trans (by rw [hu]; rfl)⟩
    · rw [access from_ within, if_neg (by simp [held, State.tagHeld_none none])]
      have only := (State.TagOnly.same u).wireWrite offset (wordBytes words)
      obtain ⟨stored, served⟩ := State.wireWrite_stores (s := u) (a := offset) (d := wordBytes words) (by rwa [tag]) (by rwa [tag]) (by rwa [tag])
        (by rw [wordBytes_length]; omega)
      generalize u.wireWrite offset (wordBytes words) = v at *
      have answer : ((v.act OK words.length).answer s f sid h).tag = v.tag := by rw [Act.answer_rest]; rfl
      have read := stored.readBytes
      have outside := stored.outside
      rw [wordBytes_length] at read outside
      rw [answer, ← tag]
      refine ⟨r.served _ ?_, r.hostKept _ ?_ fun _ => ?_, served, read, outside, (Act.answer_rest ..).trans ?_⟩
      · rw [only]; rfl
      · rw [only]; rfl
      · rw [only]; rfl
      · rw [only, hu]; rfl
  case denied =>
    intro sid offset words h s rd aligned within some_ few no
    have r := rd.runs 2 (0x20000000 + offset) words.length words
    refine ⟨tagHostWindow sid offset words s, rfl, ?_⟩
    rw [rd.tagHostWindow aligned some_ few]
    dsimp only
    generalize s.frameOf sid h 2 (0x20000000 + offset) words.length words = f at r ⊢
    generalize s.nextRuns f sid h = u at r ⊢
    obtain ⟨hs, ks, cn, lg, hu⟩ := r.path.frame
    rw [State.writeAccess_tag_denied (by omega) within]
    · exact r.refused _ _ _ _ rfl
    · rw [hu]
      rcases no with no | no | no
      · exact .inr (.inr (.inl no))
      · exact .inl no
      · exact .inr (.inl no)
  case serve =>
    intro s
    obtain ⟨m, sh, c, frame⟩ := s.tag.serve_frame
    by_cases free : s.tagHeld = 0
    · have e : tagServe s = s.onTag Tag.serve := if_pos free
      refine ⟨tagServe s, rfl, fun h => (h free).elim, fun _ => ?_, fun a d _ one fits canon => ?_, by rw [e]; rfl⟩
      · rw [e, State.onTag_tag, frame]
      · have mem : (tagServe s).tag.mem = bytesWritten s.tag.mem a d := by rw [e, State.onTag_tag, Tag.serve_mem, one]; rfl
        have stored := bytesWritten_stored canon (a := a) (d := d) (by omega)
        rw [← mem] at stored
        exact ⟨stored.readBytes, stored.outside⟩
    · have e : tagServe s = s := if_neg free
      exact ⟨tagServe s, rfl, fun _ => e, fun h => (free h).elim, fun _ _ h => (free h).elim, by rw [e]⟩
  case line =>
    intro s text c set writes
    have line : ∃ u, exec c s = .next (u.statusLine text) ∧ s.TagOnly u ∧ u.tag.mem = s.tag.mem ∧ u.tag.wire = s.tag.wire ∧
        u.tag.txnTb = s.tag.txnTb ∧ u.tag.statusOff = s.tag.statusOff := by
      have hearth (writer : s.pwr.recovery = true ∨ s.hearth.running = true) (t : s.statusText = text) :
          exec .statusLineWrite s = .next ((s.onTag fun t => { t with faultSince := s.faultLowSince }).statusLine text) := by
        rw [← t, ← statusHearth_eq writer]
        rfl
      rcases writes with ⟨rfl, recovery, rfl⟩ | ⟨rfl, recovery, running, fault, ⟨t0, since, long⟩, rfl⟩ |
        ⟨rfl, recovery, running, well, rfl⟩ |        ⟨rfl, nrst, vin, rfl⟩ | ⟨rfl, stopped, vin, nrst, rfl⟩
      · exact ⟨_, hearth (.inl recovery) (State.statusText_recovery recovery), rfl, rfl, rfl, rfl, rfl⟩
      · exact ⟨_, hearth (.inr running) (State.statusText_fault recovery fault since long), rfl, rfl, rfl, rfl, rfl⟩
      · exact ⟨_, hearth (.inr running) (State.statusText_service recovery well), rfl, rfl, rfl, rfl, rfl⟩
      · exact ⟨s, congrArg Host.Outcome.next (if_pos ⟨nrst, vin⟩), rfl, rfl, rfl, rfl, rfl⟩
      · exact ⟨s, congrArg Host.Outcome.next (if_pos ⟨stopped, vin, nrst⟩), rfl, rfl, rfl, rfl, rfl⟩
    obtain ⟨u, run, only, same⟩ := line
    obtain ⟨stores, waits⟩ := State.statusLine_line (text := text) set same
    exact ⟨u.statusLine text, run, stores, waits, only.statusLine text⟩
  case noLine =>
    intro s c off cmd
    rcases cmd with rfl | rfl | rfl
    · refine ⟨statusHearth s, rfl, ?_⟩
      by_cases writer : s.pwr.recovery = true ∨ s.hearth.running = true
      · rw [statusHearth_eq writer, State.statusLine_off (by exact off)]
        exact ⟨rfl, rfl⟩
      · rw [not_or, Bool.not_eq_true, Bool.not_eq_true] at writer
        rw [statusHearth_idle writer.1 writer.2]
        exact ⟨rfl, rfl⟩
    · refine ⟨statusReset s, rfl, ?_⟩
      unfold statusReset
      rw [State.statusLine_off off, ite_self]
      exact ⟨rfl, rfl⟩
    · refine ⟨statusStopped s, rfl, ?_⟩
      unfold statusStopped
      rw [State.statusLine_off off, ite_self]
      exact ⟨rfl, rfl⟩

end Sys2Proof.Machine
end

section
/-!
O14: the course of a job from its SUBMIT to the release of its slot, and SET_PASSWORD (R108, R116, R118, R120 to R122, R496, R498).
-/

namespace Sys2Proof.Machine

/-! ### What an answer leaves of the jobs (R118) -/

section
variable (a : Act) (s : State) (f : Frame) (i : Fin 64) (h : Session)

theorem Act.answer_jobs : (a.answer s f i h).jobs = a.state.jobs := by rw [Act.answer_rest]

theorem Act.answer_job (k : Fin 16) : (a.answer s f i h).job k = a.state.job k := State.job_of_jobs (a.answer_jobs s f i h) k

/-- An answer leaves the progress of the next tree, which an ATTEST's status word shows, as it was. -/
theorem Act.answer_hss : (a.answer s f i h).keys.hss = a.state.keys.hss := by
  rcases a.state.respond_keys f i.1 a.status a.count a.payload (a.state.attn h.polder) ((s.taken f).wrapOf f h) with e | ⟨w, -, e⟩
  · exact congrArg KeyReg.hss e
  · exact (congrArg KeyReg.hss e).trans (State.keyUse_hss ..)

theorem Act.answer_jobWord (k : Fin 16) : (a.answer s f i h).jobWord k = a.state.jobWord k := by
  have clock : (a.answer s f i h).clock = a.state.clock := by rw [Act.answer_rest]
  unfold State.jobWord
  rw [a.answer_job, a.answer_hss, clock]

end

/-! ### SUBMIT (R116, R117) -/

/-- Nothing that exists stands against a job of this code and these parameters: no job reserves a key job's target, no update and no charging
session is there for a LIFECYCLE, and no update for an UPDATE. -/
def State.Unopposed (s : State) (code : Nat) (ws : List W64) : Prop :=
  ((code = 0x20 ∨ code = 0x21 ∨ code = 0x22) → s.reservedBy (Config.jobTarget code ws % 256) = none) ∧
  (code = 0x24 → s.updateExists = false ∧ ∀ o : Output, (s.so o).sid = none) ∧ (code = 0x30 → s.updateExists = false)

/-- A known code is a byte. -/
theorem mod_of_knownJob {code : Nat} (known : knownJob code = true) : code % 256 = code := by
  simp [knownJob] at known
  omega

section
variable {u : State} {i : Fin 64} {h : Session} {addr : Nat} {w : W64} {ws : List W64}

theorem State.submitNow_denied (known : knownJob w.toNat = true) (may : u.mayRun h w.toNat ((newJob h 0 w.toNat ws).param 1) = false) :
    u.submitNow i h addr (w :: ws) = (u.dikeRefuse h.polder h.port.1 0).act DENIED 0 := by
  unfold State.submitNow
  simp only [List.headD_cons, List.drop_one, List.tail_cons, mod_of_knownJob known, known, Bool.true_eq_false, if_false]
  exact if_pos may

/-- A job that nothing stands against goes to a slot, with the slot that it targets if it is a key job. -/
theorem State.submitNow_unopposed (known : knownJob w.toNat = true) (may : u.mayRun h w.toNat ((newJob h 0 w.toNat ws).param 1) = true)
    (free : u.Unopposed w.toNat ws) :
    ∃ target, u.submitNow i h addr (w :: ws) = u.submitTo i addr { newJob h u.jobs.nextId w.toNat ws with target } := by
  obtain ⟨key, life, update⟩ := free
  have may' : ¬ u.mayRun h w.toNat ((newJob h u.jobs.nextId w.toNat ws).param 1) = false := by rw [Bool.not_eq_false]; exact may
  unfold State.submitNow
  simp only [List.headD_cons, List.drop_one, List.tail_cons, mod_of_knownJob known, known, Bool.true_eq_false, if_false, if_neg may']
  split
  case isTrue c => exact ⟨none, by rw [State.submitUpdate, if_pos (update c)]; rfl⟩
  case isFalse =>
    split
    case isTrue c =>
      obtain ⟨none_, idle⟩ := life c
      exact ⟨none, by simp [State.submitLife, none_, idle]; rfl⟩
    case isFalse =>
      split
      case isTrue c =>
        refine ⟨some (Config.jobTarget w.toNat ws % 256), ?_⟩
        have e : u.reservedBy (Config.jobTarget (newJob h u.jobs.nextId w.toNat ws).code (newJob h u.jobs.nextId w.toNat ws).params % 256) = none :=
          key c
        unfold State.submitKey
        simp only [e]
        rfl
      case isFalse => exact ⟨none, rfl⟩

theorem State.submitNow_update (code : w.toNat = 0x30) (may : u.mayRun h 0x30 ((newJob h 0 0x30 ws).param 1) = true) :
    u.submitNow i h addr (w :: ws) = u.submitUpdate i addr (newJob h u.jobs.nextId 0x30 ws) := by
  have may' : ¬ u.mayRun h 0x30 ((newJob h u.jobs.nextId 0x30 ws).param 1) = false := by rw [Bool.not_eq_false]; exact may
  unfold State.submitNow
  simp only [List.headD_cons, List.drop_one, List.tail_cons, code, Nat.reduceMod, if_neg may', reduceIte]
  exact if_neg (by decide)

/-- A RESUME that may take taking the update there does so. -/
theorem State.submitUpdate_takesOver {b : Job} {x : UpdateJob} (taking : u.takesOver b i.1 = some x) :
    u.submitUpdate i addr b = (u.onFw fun y => { y with job := some x }).statusAct x.job := by
  have exists_ : u.updateExists ≠ false := by
    cases job : u.fw.job with
    | none => simp [State.takesOver, job] at taking
    | some y => simp [State.updateExists, job]
  rw [State.submitUpdate, if_neg exists_, taking]

/-- An UPDATE that asks for none finds the one there in its way. -/
theorem State.submitUpdate_busy {b : Job} (exists_ : u.updateExists = true) (fresh : updResume (b.param 1) = false) :
    u.submitUpdate i addr b = u.busyAct u.updatePolder := by
  have taking : u.takesOver b i.1 = none := by
    unfold State.takesOver
    split
    · simp [fresh]
    · rfl
  rw [State.submitUpdate, if_neg (by simp [exists_]), taking]
  simp [fresh]

end

/-! ### The placing of a job (R117, R496) -/

/-- The start of an update changes the update alone. -/
theorem State.beginUpdate_frame (s : State) (j : Fin 16) (sid : Nat) : ∃ fw, s.beginUpdate j sid = { s with fw := fw } := by
  unfold State.beginUpdate
  dsimp only
  split
  · split
    · split <;> exact ⟨_, rfl⟩
    · exact ⟨_, rfl⟩
  · exact ⟨_, rfl⟩

theorem State.updateStart_frame (s : State) (j : Fin 16) (sid : Nat) :
    ∃ fw, s.updateStart j sid = { s with fw := fw } ∧ ((s.job j).code ≠ 0x30 → fw = s.fw) := by
  unfold State.updateStart
  split
  case isTrue code => exact (s.beginUpdate_frame j sid).imp fun _ e => ⟨e, fun no => absurd code no⟩
  case isFalse => exact ⟨_, rfl, fun _ => rfl⟩

theorem State.placeJob_job_self (s : State) (j : Fin 16) (b : Job) : (s.placeJob j b).job j = b := by
  simp [State.placeJob, State.job]

theorem State.placeJob_job_other (s : State) {j k : Fin 16} (b : Job) (hk : k ≠ j) : (s.placeJob j b).job k = s.job k :=
  Vector.getElem_set_ne j.2 k.2 fun e => hk (Fin.ext e.symm)

/-- A job's place: the slot that ADDR names, or the lowest idle one. -/
theorem State.submitTo_placed {u : State} {i : Fin 64} {addr : Nat} {j : Fin 16} (slot : u.freeSlot addr = some j) (b : Job) :
    u.submitTo i addr b = ((u.placeJob j b).updateStart j i.1).statusAct j := by
  unfold State.submitTo
  rw [slot]

theorem State.submitTo_full {u : State} {i : Fin 64} {addr : Nat} (slot : u.freeSlot addr = none) (b : Job) :
    u.submitTo i addr b = u.act FULL 0 := by
  unfold State.submitTo
  rw [slot]

section
variable {s u : State} {f : Frame} {i : Fin 64} {h : Session} {seq e : Nat}

/-- What a SUBMIT asks of a state is the same where nothing but its path has happened. -/
theorem State.PathOnly.unopposed (po : s.PathOnly u i h) {code : Nat} {ws : List W64} (free : s.Unopposed code ws) : u.Unopposed code ws := by
  obtain ⟨hs, ks, cn, lg, hu⟩ := po.frame
  rw [hu]
  exact free

theorem State.PathOnly.mayRun (po : s.PathOnly u i h) (code w : Nat) : u.mayRun h code w = s.mayRun h code w := by
  rw [po.rest]; rfl

theorem State.PathOnly.freeSlot (po : s.PathOnly u i h) (addr : Nat) : u.freeSlot addr = s.freeSlot addr := by
  rw [po.rest]; rfl

theorem State.PathOnly.jobs (po : s.PathOnly u i h) : u.jobs = s.jobs := by rw [po.rest]

/-- A job that is placed stands in its slot, and all else that a SUBMIT changes is an update that begins. -/
theorem State.submitTo_state {addr : Nat} {j : Fin 16} (slot : u.freeSlot addr = some j) (b : Job) :
    ∃ fw, (u.submitTo i addr b).state = { u.placeJob j b with fw := fw } ∧ (b.code ≠ 0x30 → fw = u.fw) := by
  obtain ⟨fw, start, same⟩ := (u.placeJob j b).updateStart_frame j i.1
  rw [State.placeJob_job_self] at same
  exact ⟨fw, by rw [State.submitTo_placed slot]; exact start, same⟩

/-- The status word of a job that waits is that of its slot alone. -/
theorem State.jobWord_queued {j : Fin 16} (queued : (u.job j).state = .queued) : u.jobWord j = (u.job j).statusWord := by
  simp [State.jobWord, queued]

end

/-! ### FEED (R120, R497) -/

section
variable {u : State} {i : Fin 64} {h : Session} {j : Fin 16} {words : List W64}

/-- A FEED that reaches a job that waits or runs is taken or finds its buffer full. -/
theorem State.feedNow_live (plain : h.commissioning = false) (owns : u.ownsJob h.polder j = true) (live : (u.job j).live)
    (holds : (u.job j).code = 0x30 → u.holds i.1 = true) :
    u.feedNow i h j words = if 128 < (u.job j).input.length + words.length ∨ ((u.job j).code = 0x30 ∧ (u.job j).input ≠ []) then u.act FULL 0
      else (u.onJob j fun x => { x with input := x.input ++ words }).act OK words.length := by
  unfold State.feedNow
  dsimp only
  rw [if_neg (by simp [plain, owns]), if_neg (Job.not_over live), if_neg (fun c => absurd (holds c.1) (by simp [c.2]))]

end

/-! ### JOB_CTRLn (R121, R122) -/

theorem jobCtrl_decoded (j : Slot) : R.JOB_CTRLn.Decoded [j.1] := by
  revert j
  have aligned : ∀ j : Slot, addrOk 2 (R.JOB_CTRLn.addr [j.1]) = true := by decide
  have inside : ∀ j : Slot, inRegion (R.JOB_CTRLn.addr [j.1]) 1 = true := by decide
  have plain : ∀ j : Slot, windowAt (R.JOB_CTRLn.addr [j.1]) = none := by intro j; fin_cases j <;> rfl
  have here : ∀ j : Slot, regAt (R.JOB_CTRLn.addr [j.1]) = some (R.JOB_CTRLn, [j.1]) := by intro j; fin_cases j <;> rfl
  exact fun j => ⟨aligned j, inside j, plain j, here j⟩

theorem writeReg_jobCtrl (i : Fin 64) (polder : Nat) (j : Slot) (v : W64) (u : State) :
    writeReg R.JOB_CTRLn i polder [j.1] v u = u.writeJobCtrl j v.toNat := by
  have e : Fin.ofNat 16 j.1 = j := Fin.ext (Nat.mod_eq_of_lt j.2)
  rw [show writeReg R.JOB_CTRLn i polder [j.1] v u = u.writeJobCtrl (Fin.ofNat 16 j.1) v.toNat from rfl, e]

section
variable {u : State} {j : Fin 16} {v : Nat}

theorem State.writeJobCtrl_idle (idle : (u.job j).state = .idle) : u.writeJobCtrl j v = (OK, u) := if_pos idle

theorem State.writeJobCtrl_cancel (used : (u.job j).state ≠ .idle) : u.writeJobCtrl j 1 = u.jobStop j := by
  unfold State.writeJobCtrl
  rw [if_neg used]
  exact if_pos rfl

theorem State.writeJobCtrl_release (used : (u.job j).state ≠ .idle) : u.writeJobCtrl j 2 = u.jobFree j := by
  unfold State.writeJobCtrl
  rw [if_neg used, if_neg (by decide)]
  exact if_pos rfl

/-- An update ends with its job, and no other update does. -/
theorem State.dropUpdateOf_fw (s : State) (j : Fin 16) :
    (∀ x, s.fw.job = some x → x.job = j → (s.dropUpdateOf j).fw.job = none) ∧
    ((∀ x, s.fw.job = some x → x.job ≠ j) → (s.dropUpdateOf j).fw = s.fw) := by
  constructor
  · intro x job mine
    simp [State.dropUpdateOf, State.dropUpdate, job, mine]
  · intro other
    have none_ : s.fw.job.any (fun x => x.job == j) = false := by simpa [Option.any_eq_false] using other
    simp [State.dropUpdateOf, none_]

end

/-! ### Sessions that close together (R108, R114) -/

section
variable (q : Session → Bool)

/-- Session `i` closes if it is one of those that close. -/
def State.closeIf (s : State) (i : Fin 64) : State :=
  match s.anySession i with
  | some h => if q h then s.closeSession i else s
  | none => s

theorem State.closeWhere_eq (s : State) : s.closeWhere q = (idx 64).foldl (fun s i => s.closeIf q i) s := rfl

theorem State.closeIf_anySession (s : State) (i k : Fin 64) :
    (s.closeIf q i).anySession k = if k = i then (s.anySession k).filter (fun h => !q h) else s.anySession k := by
  unfold State.closeIf
  split
  case h_1 h has =>
    have c := State.closeSession_closed has
    by_cases hk : k = i
    · subst hk
      by_cases closes : q h = true
      · rw [if_pos closes, if_pos rfl, has, State.anySession, c.sidUse_self]
        simp [Option.filter, closes]
      · rw [if_neg closes, if_pos rfl, has]
        simp [Option.filter, closes]
    · rw [if_neg hk]
      split
      · rw [State.anySession, c.sidUse_other hk, ← State.anySession]
      · rfl
  case h_2 none_ =>
    split
    case isTrue hk => rw [hk, none_]; rfl
    case isFalse => rfl

theorem State.closeIfs_anySession (l : List (Fin 64)) (s : State) (k : Fin 64) :
    (l.foldl (fun s i => s.closeIf q i) s).anySession k = if k ∈ l then (s.anySession k).filter (fun h => !q h) else s.anySession k := by
  induction l generalizing s with
  | nil => simp
  | cons i l ih =>
    rw [List.foldl_cons, ih, State.closeIf_anySession]
    by_cases hk : k = i
    · by_cases hl : k ∈ l <;> simp [hk, Option.filter_filter]
    · simp [hk]

/-- Of the sessions that there are, those that close go and the others stay. -/
theorem State.closeWhere_anySession (s : State) (k : Fin 64) : (s.closeWhere q).anySession k = (s.anySession k).filter (fun h => !q h) := by
  exact (State.closeIfs_anySession q (idx 64) s k).trans (if_pos (List.mem_finRange k))

/-- From `s` to `t` nothing has changed but parts of the host ports, the Key Register and the update, and no password. -/
structure State.OnlyCloses (s t : State) : Prop where
  password3 : t.host.password3 = s.host.password3
  password5 : t.host.password5 = s.host.password5
  rest : t = { s with host := t.host, keys := t.keys, fw := t.fw }

theorem State.OnlyCloses.trans {s t u : State} (st : s.OnlyCloses t) (tu : t.OnlyCloses u) : s.OnlyCloses u where
  password3 := tu.password3.trans st.password3
  password5 := tu.password5.trans st.password5
  rest := by rw [tu.rest, st.rest]

theorem State.closeIf_only (s : State) (i : Fin 64) : s.OnlyCloses (s.closeIf q i) := by
  unfold State.closeIf
  split
  case h_1 h has =>
    split
    · have c := State.closeSession_closed has
      exact ⟨by rw [c.host], by rw [c.host], c.rest⟩
    · exact ⟨rfl, rfl, rfl⟩
  case h_2 => exact ⟨rfl, rfl, rfl⟩

theorem State.closeIfs_only (l : List (Fin 64)) (s : State) : s.OnlyCloses (l.foldl (fun s i => s.closeIf q i) s) := by
  induction l generalizing s with
  | nil => exact ⟨rfl, rfl, rfl⟩
  | cons i l ih => exact (s.closeIf_only q i).trans (ih _)

theorem State.closeWhere_only (s : State) : s.OnlyCloses (s.closeWhere q) := s.closeIfs_only q _

end

/-! ### SET_PASSWORD (R108) -/

/-- The stored password of a polder that may have one. -/
theorem State.setPasswordOf_passwordOf {polder : Nat} (has : polder = 3 ∨ polder = 5) (s : State) (k : Option Bytes) (p : Nat) :
    (s.setPasswordOf polder k).passwordOf p = if p = polder then k else s.passwordOf p := by
  rcases has with rfl | rfl
  · by_cases hp : p = 3 <;> simp [State.setPasswordOf, State.passwordOf, State.onHost, hp]
  · by_cases hp : p = 5
    · simp [State.setPasswordOf, State.passwordOf, State.onHost, hp]
    · simp [State.setPasswordOf, State.passwordOf, State.onHost, hp]

theorem State.OnlyCloses.passwordOf {s t : State} (c : s.OnlyCloses t) (p : Nat) : t.passwordOf p = s.passwordOf p := by
  unfold State.passwordOf
  rw [c.password3, c.password5]

/-- A password job that is taken ends done, after its polder's password sessions. -/
theorem setPassword_taken {s : State} {j : Slot} {polder : Nat} {pw : Bytes} (turn : s.jobTurn j 0x02 = true) (has : polder = 3 ∨ polder = 5)
    (length : pw = [] ∨ (8 ≤ pw.length ∧ pw.length ≤ 32)) :
    setPassword j polder pw.length pw s =
      ((s.setPasswordOf polder (if pw = [] then none else some (sha384 (leBytes 8 s.life.serial.toNat ++ pw)))).closeWhere
        (fun h => h.polder == polder && h.password)).finishJob j 0 := by
  have length' : pw.length = 0 ∨ (8 ≤ pw.length ∧ pw.length ≤ 32) := by rwa [List.length_eq_zero_iff]
  unfold setPassword
  rw [if_pos turn, if_neg (by omega)]
  simp only [List.length_eq_zero_iff]

theorem setPassword_malformed {s : State} {j : Slot} {polder len : Nat} {pw : Bytes} (turn : s.jobTurn j 0x02 = true)
    (bad : (polder ≠ 3 ∧ polder ≠ 5) ∨ (1 ≤ len ∧ len ≤ 7) ∨ 32 < len ∨ pw.length ≠ len) :
    setPassword j polder len pw s = s.finishJob j BADFRAME := by
  unfold setPassword
  rw [if_pos turn, if_pos bad]

/-- Settles O14: a SUBMIT is `State.submitTo` where nothing opposes it, a FEED `State.feedNow_live`, CANCEL and RELEASE the writer of JOB_CTRLn, and
SET_PASSWORD a `State.closeWhere` between the new password and the end of its job. -/
theorem jobsRunTheirCourse : Obligations.JobsRunTheirCourse := by
  unfold Obligations.JobsRunTheirCourse
  refine ⟨?placed, ?full, ?denied, ?takenOver, ?busy, ?feed, ?cancel, ?release, ?expire, ?password, ?malformed⟩
  case placed =>
    intro f s i h e j w ws k p payload known may slot key life update
    refine ⟨_, exec_submit_passes k p, ?_⟩
    have r := p.runs
    rw [payload]
    generalize s.begun f i h e = u at r ⊢
    obtain ⟨target, run⟩ := State.submitNow_unopposed (i := i) (addr := f.addr.toNat) known ((r.path.mayRun ..).trans may)
      (r.path.unopposed ⟨key, life, update⟩)
    rw [← r.path.freeSlot] at slot
    rw [run, r.path.jobs]
    have ok : (u.submitTo i f.addr.toNat { newJob h s.jobs.nextId w.toNat ws with target }) =
        (u.submitTo i f.addr.toNat { newJob h s.jobs.nextId w.toNat ws with target }).state.statusAct j := by rw [State.submitTo_placed slot]; rfl
    obtain ⟨fw, state, same⟩ := State.submitTo_state (i := i) slot { newJob h s.jobs.nextId w.toNat ws with target }
    rw [ok, state]
    obtain ⟨hs, ks, cn, lg, hu⟩ := r.path.frame
    set v : State := { u.placeJob j { newJob h s.jobs.nextId w.toNat ws with target } with fw := fw } with hv
    have job : v.job j = { newJob h s.jobs.nextId w.toNat ws with target } := State.placeJob_job_self ..
    have jobs : v.jobs = (s.placeJob j { newJob h s.jobs.nextId w.toNat ws with target }).jobs := by rw [hv, hu]; rfl
    have served := r.served (v.statusAct j) rfl
    have kept := r.hostKept (v.statusAct j) rfl fun _ => rfl
    have frame := Act.answer_rest (v.statusAct j) s f i h
    rw [Act.answer_jobWord, Act.answer_job, Act.answer_jobs]
    refine ⟨served, kept, ?_, ?_, ?_, ?_, ?_, ?_, ?_, ?_, ?_, fun x hx => ?_, fun no => ?_, ?_⟩
    · exact congrArg Job.id job
    · exact congrArg Job.code job
    · exact congrArg Job.polder job
    · exact congrArg Job.params job
    · exact congrArg Job.state job
    · exact congrArg Job.records job
    · exact congrArg Job.commissioning job
    · exact congrArg Jobs.nextId jobs
    · exact congrArg Jobs.order jobs
    · rw [Act.answer_job]
      exact (State.job_of_jobs jobs x).trans (s.placeJob_job_other _ hx)
    · rw [frame]
      exact (same no).trans (by rw [hu])
    · rw [Act.answer_rest, hv, hu]; rfl
  case full =>
    intro f s i h e w ws k p payload known may slot key life update
    refine ⟨_, exec_submit_passes k p, ?_⟩
    have r := p.runs
    rw [payload]
    generalize s.begun f i h e = u at r ⊢
    obtain ⟨target, run⟩ := State.submitNow_unopposed (i := i) (addr := f.addr.toNat) known ((r.path.mayRun ..).trans may)
      (r.path.unopposed ⟨key, life, update⟩)
    rw [← r.path.freeSlot] at slot
    rw [run, State.submitTo_full slot]
    exact r.noChange _ rfl
  case denied =>
    intro f s i h e w ws k p payload known may
    refine ⟨_, exec_submit_passes k p, ?_⟩
    have r := p.runs
    rw [payload]
    generalize s.begun f i h e = u at r ⊢
    rw [State.submitNow_denied known ((r.path.mayRun ..).trans may)]
    exact r.refused _ _ _ _ rfl
  case takenOver =>
    intro f s i h e w ws x k p payload code may taking
    refine ⟨_, exec_submit_passes k p, ?_⟩
    have r := p.runs
    rw [payload]
    generalize s.begun f i h e = u at r ⊢
    obtain ⟨hs, ks, cn, lg, hu⟩ := r.path.frame
    have taking' : u.takesOver (newJob h u.jobs.nextId 0x30 ws) i.1 = some x := by rw [hu]; exact taking
    rw [State.submitNow_update code ((r.path.mayRun ..).trans may), State.submitUpdate_takesOver taking', Act.answer_jobWord]
    exact ⟨r.served _ rfl, r.hostKept _ rfl fun _ => rfl, by rw [Act.answer_rest, hu]; rfl⟩
  case busy =>
    intro f s i h e w ws k p payload code may exists_ fresh
    refine ⟨_, exec_submit_passes k p, ?_⟩
    have r := p.runs
    rw [payload]
    generalize s.begun f i h e = u at r ⊢
    obtain ⟨hs, ks, cn, lg, hu⟩ := r.path.frame
    have exists' : u.updateExists = true := by rw [hu]; exact exists_
    have fresh' : updResume ((newJob h u.jobs.nextId 0x30 ws).param 1) = false := fresh
    have polder : u.updatePolder = s.updatePolder := by rw [hu]; rfl
    rw [State.submitNow_update code ((r.path.mayRun ..).trans may), State.submitUpdate_busy exists' fresh', polder]
    exact r.noChange _ rfl
  case feed =>
    intro f s i h e j k p plain owns addr live holds
    refine ⟨_, exec_feed_passes k p, ?_⟩
    have r := p.runs
    rw [show Fin.ofNat 16 f.addr.toNat = j from Fin.ext ((congrArg (· % 16) addr).trans (Nat.mod_eq_of_lt j.2))]
    generalize s.begun f i h e = u at r ⊢
    obtain ⟨hs, ks, cn, lg, hu⟩ := r.path.frame
    have job : ∀ k, u.job k = s.job k := State.job_of_jobs r.path.jobs
    have owns' : u.ownsJob h.polder j = true := by rw [hu]; exact owns
    have holds' : (u.job j).code = 0x30 → u.holds i.1 = true := by rw [hu]; exact holds
    rw [State.feedNow_live plain owns' (by rw [job]; exact live) holds', job]
    split
    case isTrue c =>
      obtain ⟨served, path⟩ := r.noChange (u.act FULL 0) rfl
      refine ⟨path.kept, by rw [Act.answer_rest, hu]; rfl, fun ⟨room, empty⟩ => ?_, fun _ => ⟨served, path.jobs⟩⟩
      rcases c with c | ⟨code, used⟩
      · omega
      · exact absurd (empty code) used
    case isFalse c =>
      refine ⟨r.hostKept _ rfl fun _ => rfl, by rw [Act.answer_rest, hu]; rfl, fun _ => ⟨r.served _ rfl, ?_, fun k hk => ?_⟩,
        fun no => absurd no c⟩
      · rw [Act.answer_job, ← job]
        exact State.onJob_job_self ..
      · rw [Act.answer_job, ← job]
        exact State.onJob_job_other hk ..
  case cancel =>
    intro sid j s h g
    refine ⟨_, congrArg Host.Outcome.next (g.askReg (jobCtrl_decoded j)), ?_⟩
    have r := g.ready.runs 2 (R.JOB_CTRLn.addr [j.1]) 1 [(1 : W64)]
    dsimp only
    generalize s.frameOf sid h 2 (R.JOB_CTRLn.addr [j.1]) 1 [(1 : W64)] = f at r ⊢
    generalize s.nextRuns f sid h = u at r ⊢
    obtain ⟨hs, ks, cn, lg, hu⟩ := r.path.frame
    have job : ∀ k, u.job k = s.job k := State.job_of_jobs r.path.jobs
    have fw : u.fw = s.fw := by rw [hu]
    rw [writeReg_jobCtrl, ← job, ← fw, ← r.path.jobs]
    by_cases idle : (u.job j).state = .idle
    · rw [State.writeJobCtrl_idle idle, wrote_ok]
      obtain ⟨served, path⟩ := r.noChange _ (rfl : Act.state { status := OK, count := 1, payload := [], state := u } = u)
      refine ⟨path.kept, fun k _ => ?_, by rw [Act.answer_rest, hu], fun _ => ⟨served, Act.answer_jobs .., by rw [Act.answer_rest]⟩,
        fun no => absurd idle no, fun no => absurd idle no⟩
      rw [Act.answer_job, job]
    · rw [show BitVec.toNat (1 : W64) = 1 from rfl, State.writeJobCtrl_cancel idle, State.jobStop]
      by_cases may : (u.job j).cancellable = true
      · obtain ⟨new, drop⟩ := (u.cancelJob j).dropUpdateOf_frame j
        obtain ⟨mine, others⟩ := (u.cancelJob j).dropUpdateOf_fw j
        rw [if_pos may, wrote_ok]
        refine ⟨r.hostKept _ (by rw [drop]; rfl) (fun _ => by rw [drop]; rfl), fun k hk => ?_, by rw [Act.answer_rest, drop, hu]; rfl,
          fun no => absurd no idle, fun _ _ => ⟨r.served _ (by rw [drop]; rfl), ?_, ?_⟩, fun _ no => absurd may (by simp [no])⟩
        · rw [Act.answer_job, ← job, drop]
          exact State.onJob_job_other hk ..
        · rw [Act.answer_job, drop, show s.clock = u.clock by rw [hu]]
          exact State.onJob_job_self ..
        · rw [Act.answer_rest]
          exact ⟨mine, others⟩
      · rw [if_neg may]
        obtain ⟨served, path⟩ := r.noChange (wrote (LOCKED, u)) rfl
        refine ⟨path.kept, fun k _ => ?_, by rw [Act.answer_rest, hu]; rfl, fun no => absurd no idle, fun _ yes => absurd yes may,
          fun _ _ => ⟨served, Act.answer_jobs .., by rw [Act.answer_rest]; rfl⟩⟩
        rw [Act.answer_job, ← job]
        rfl
  case release =>
    intro sid j s h g
    refine ⟨_, congrArg Host.Outcome.next (g.askReg (jobCtrl_decoded j)), ?_⟩
    have r := g.ready.runs 2 (R.JOB_CTRLn.addr [j.1]) 1 [(2 : W64)]
    dsimp only
    generalize s.frameOf sid h 2 (R.JOB_CTRLn.addr [j.1]) 1 [(2 : W64)] = f at r ⊢
    generalize s.nextRuns f sid h = u at r ⊢
    obtain ⟨hs, ks, cn, lg, hu⟩ := r.path.frame
    have job : ∀ k, u.job k = s.job k := State.job_of_jobs r.path.jobs
    have freed : u.writeJobCtrl j 2 = (OK, if (u.job j).finished = true then u.onJob j (fun _ => Job.reset) else u) := by
      by_cases idle : (u.job j).state = .idle
      · rw [State.writeJobCtrl_idle idle, if_neg (by simp [Job.finished, idle])]
      · rw [State.writeJobCtrl_release idle, State.jobFree]
        split <;> rfl
    rw [writeReg_jobCtrl, show BitVec.toNat (2 : W64) = 2 from rfl, freed, wrote_ok, ← job]
    split
    · refine ⟨r.hostKept _ rfl fun _ => rfl, r.served _ rfl, fun k hk => ?_, ?_, by rw [Act.answer_rest, hu]; rfl⟩
      · rw [Act.answer_job, ← job]
        exact State.onJob_job_other hk ..
      · rw [Act.answer_job]
        exact State.onJob_job_self ..
    · refine ⟨r.hostKept _ rfl fun _ => rfl, r.served _ rfl, fun k hk => ?_, ?_, by rw [Act.answer_rest, hu]⟩
      · rw [Act.answer_job, ← job]
      · rw [Act.answer_job]
  case expire =>
    intro j s finished late
    exact ⟨s.onJob j fun _ => Job.reset, congrArg Host.Outcome.next (if_pos ⟨finished, late⟩), State.onJob_job_self ..,
      fun k hk => State.onJob_job_other hk .., rfl⟩
  case password =>
    intro j polder pw s turn has length
    refine ⟨_, congrArg Host.Outcome.next (setPassword_taken turn has length), ?_⟩
    set new := if pw = [] then none else some (sha384 (leBytes 8 s.life.serial.toNat ++ pw))
    set q : Session → Bool := fun h => h.polder == polder && h.password with hq
    have only := (s.setPasswordOf polder new).closeWhere_only q
    have sessions := (s.setPasswordOf polder new).closeWhere_anySession q
    generalize (s.setPasswordOf polder new).closeWhere q = v at only sessions ⊢
    have job : ∀ k, v.job k = s.job k := State.job_of_jobs (by rw [only.rest]; rfl)
    have live : (v.job j).live := .inl (by rw [job]; exact (State.queued_of_jobTurn turn).1)
    have same : ∀ p, v.passwordOf p = if p = polder then new else s.passwordOf p := fun p =>
      (only.passwordOf p).trans (State.setPasswordOf_passwordOf has s new p)
    have before : ∀ i, (s.setPasswordOf polder new).anySession i = s.anySession i := fun i => by
      have table : (s.setPasswordOf polder new).host.table = s.host.table := by
        simp only [State.setPasswordOf, State.onHost]
        split <;> rfl
      simp only [State.anySession, State.sidUse_of_table table]
    rw [State.finishJob_eq live]
    refine ⟨(same polder).trans (if_pos rfl), fun p hp => (same p).trans (if_neg hp), ?_, ?_, fun i h open_ mine => ?_, fun i h open_ other => ?_,
      fun k hk => (State.onJob_job_other hk ..).trans (job k), ?_⟩
    · rw [State.onJob_job_self]; rfl
    · rw [State.onJob_job_self]; rfl
    · have left : (s.anySession i).filter (fun h => !q h) = some h := by rw [← before, ← sessions]; exact open_
      simp [Option.filter_eq_some_iff, hq, mine] at left
    · have stays : v.anySession i = some h := by
        rw [sessions, before, open_]
        simp only [not_and, Bool.not_eq_true] at other
        by_cases mine : h.polder = polder <;> simp [Option.filter, hq, mine, other]
      exact stays
    · have rest := only.rest
      show { v with jobs := _ } = { s with host := v.host, jobs := _, keys := v.keys, fw := v.fw }
      rw [rest]
      rfl
  case malformed =>
    intro j polder len pw s turn bad
    have live : (s.job j).live := .inl (State.queued_of_jobTurn turn).1
    refine ⟨_, congrArg Host.Outcome.next (setPassword_malformed turn bad), State.finishJob_rest .., ?_, ?_,
      fun k hk => State.finishJob_job_other hk ..⟩
    · rw [State.finishJob_eq live, State.onJob_job_self]; rfl
    · rw [State.finishJob_eq live, State.onJob_job_self]; rfl

end Sys2Proof.Machine
end

section
/-! O13: HELLO takes an ID (R105), PROVE opens its session or fails (R106, R107, R109), and recovery opens P4's at once (R516). -/

namespace Sys2Proof.Machine

/-! ### A request outside an open session -/

/-- A port that takes a frame clears the response and counts the frame. -/
theorem State.taken_rest (s : State) (f : Frame) : s.taken f = { s with host := { s.host with resp := none }, cnt := (s.taken f).cnt } := by
  apply State.parts <;> simp [State.taken]

/-- An answer that no session seals changes the response and counters. -/
theorem State.respond_bare_rest (s : State) (f : Frame) (sid status count : Nat) (payload : List W64) (attn : Bool) :
    s.respond f sid status count payload attn none = { s with host := (s.respond f sid status count payload attn none).host,
                                                              cnt := (s.respond f sid status count payload attn none).cnt } := by
  unfold State.respond
  dsimp only
  apply State.parts <;> (repeat' split) <;> simp

theorem sidOf_OK (f : Frame) (sid : Nat) : sidOf f sid OK = sid := if_neg fun h => absurd h.1 (by decide)

theorem sidOf_AUTHFAIL (f : Frame) (sid : Nat) : sidOf f sid AUTHFAIL = sid := if_neg fun h => absurd h.1 (by decide)

/-- A frame names the same session once it has been taken. -/
theorem State.taken_sessionOf (s : State) (f g : Frame) : (s.taken f).sessionOf g = s.sessionOf g := by
  rw [s.taken_rest]; rfl

/-- The ID of a frame's session is in use by it. -/
theorem State.sidUse_of_sessionOf {s : State} {f : Frame} {i : Fin 64} {h : Session} (names : s.sessionOf f = some (i, h)) : s.sidUse i = .host h := by
  unfold State.sessionOf at names
  dsimp only at names
  split at names
  · cases names
  · split at names
    case h_1 x has =>
      split at names
      · obtain ⟨rfl, rfl⟩ := Prod.mk.inj (Option.some.inj names)
        exact State.sidUse_of_anySession has
      · cases names
    case h_2 => cases names

/-! ### HELLO (R104, R105, R516) -/

section
variable {u : State} {f : Frame} {i : Fin 64} {rest : List (Fin 64)}

/-- The session that a HELLO makes, with the next 32 free bytes as the device nonce. -/
def State.helloSession (u : State) (f : Frame) : Session := newSession f (u.drawBytes 32).1 u.clock.tb

/-- The state with session `x` under the first free ID. -/
def State.seated (u : State) (i : Fin 64) (rest : List (Fin 64)) (x : Session) : State :=
  { u with host := { u.host with freeSids := rest, table := u.host.table.set i (.host x) }, draws := u.draws + 32 }

/-- A HELLO that is taken seats its session and answers with the serial and the device nonce. -/
theorem State.takeIn_seats (room : u.sidCount SidUse.isHost < 32) (free : u.host.freeSids = i :: rest) (g : Session → Session) :
    u.takeIn f g = ((u.seated i rest (g (u.helloSession f))).bump 12 1).plain f i.1 OK (u.life.serial :: bytesWords (u.drawBytes 32).1) := by
  have alloc : (u.drawBytes 32).2.allocSid (.host (g (u.helloSession f))) = some (i, u.seated i rest (g (u.helloSession f))) := by
    unfold State.allocSid
    rw [if_pos (by exact room)]
    rw [show (u.drawBytes 32).2.host.freeSids = i :: rest from free]
    rfl
  unfold State.takeIn
  rw [State.helloSession] at alloc
  dsimp only
  rw [alloc]
  rfl

theorem State.drawBytes_length (u : State) (n : Nat) : (u.drawBytes n).1.length = n := by simp [State.drawBytes]

/-- What a HELLO that is taken leaves. -/
structure State.Seats (s t : State) (f : Frame) (i : Fin 64) (rest : List (Fin 64)) (x : Session) : Prop where
  answer : ∃ r, t.host.resp = some r ∧ r.status = OK ∧ r.sid = i.1 ∧ r.seq = f.seq.toNat ∧ r.count = 5 ∧
    r.payload = s.life.serial :: bytesWords (s.drawBytes 32).1 ∧ r.attn = false
  self : t.sidUse i = .host x
  free : t.host.freeSids = rest
  others : ∀ k, k ≠ i → t.sidUse k = s.sidUse k
  rest : t = { s with host := t.host, cnt := t.cnt, draws := s.draws + 32 }

theorem State.takeIn_leaves {s : State} (room : s.sidCount SidUse.isHost < 32) (free : s.host.freeSids = i :: rest) (g : Session → Session) :
    s.Seats ((s.taken f).takeIn f g) f i rest (g (s.helloSession f)) := by
  have e : (s.taken f).takeIn f g =
      (((s.taken f).seated i rest (g (s.helloSession f))).bump 12 1).plain f i.1 OK (s.life.serial :: bytesWords (s.drawBytes 32).1) := by
    have seats := State.takeIn_seats (u := s.taken f) (f := f) (i := i) (rest := rest)
      (by rw [s.taken_rest]; exact room) (by rw [s.taken_rest]; exact free) g
    rw [seats, s.taken_rest]
    rfl
  have table : ((s.taken f).takeIn f g).host.table = s.host.table.set i (.host (g (s.helloSession f))) := by
    rw [e, State.plain, State.respond_host, s.taken_rest]
    rfl
  constructor
  case answer =>
    obtain ⟨r, resp, status, sid, count, payload, attn, seq, -⟩ :=
      State.respond_resp (((s.taken f).seated i rest (g (s.helloSession f))).bump 12 1) f i.1 OK (s.life.serial :: bytesWords (s.drawBytes 32).1).length (s.life.serial :: bytesWords (s.drawBytes 32).1) false none
    refine ⟨r, by rw [e]; exact resp, status, sid.trans (sidOf_OK ..), seq, ?_, payload, attn⟩
    rw [count, List.length_cons, bytesWords_length, State.drawBytes_length]
  case self =>
    rw [State.sidUse, table]
    simp
  case free =>
    rw [e, State.plain, State.respond_host]
    rfl
  case others =>
    intro k hk
    rw [State.sidUse, table]
    exact Vector.getElem_set_ne i.2 k.2 fun e => hk (Fin.ext e.symm)
  case rest =>
    rw [e, State.plain, State.respond_bare_rest, s.taken_rest]
    rfl

/-- A HELLO with room, in no back-off and of a polder that may open is taken (R105, R108, R109). -/
theorem State.helloNow_takes (recovery : u.pwr.recovery = false) (idle : u.hearthBusy = false) (room : u.sidCount SidUse.isHost < 32)
    (opening : u.openingOn f.port < 4) (polder : helloPolder (f.payload.headD 0).toNat ≠ 0)
    (back : ∀ t, (u.backoffOf f.port (helloPolder (f.payload.headD 0).toNat)).until_ = some t → t ≤ u.clock.tb)
    (password : helloPassword (f.payload.headD 0).toNat = true → (u.passwordOf (helloPolder (f.payload.headD 0).toNat)).isSome = true ∨
      (u.life.state = .returned ∧ (helloPolder (f.payload.headD 0).toNat = 3 ∨ helloPolder (f.payload.headD 0).toNat = 5))) :
    u.helloNow f = u.takeIn f id := by
  have quota : SidUse.quota (.host (newSession f [] 0)) = 32 := rfl
  generalize hw : (f.payload.headD 0).toNat = w at *
  have noWait : ((u.backoffOf f.port (helloPolder w)).until_.any fun t => decide (u.clock.tb < t)) = false := by
    cases until_ : (u.backoffOf f.port (helloPolder w)).until_ with
    | none => rfl
    | some t => simpa using back t until_
  have may : ¬ (helloPassword w = true ∧ (u.passwordOf (helloPolder w)).isNone = true ∧
      (u.life.state ≠ .returned ∨ (helloPolder w ≠ 3 ∧ helloPolder w ≠ 5))) := by
    rintro ⟨asks, none_, bars⟩
    rcases password asks with has | ⟨returned, three | five⟩
    · rw [Option.isNone_iff_eq_none.mp none_] at has; cases has
    · exact bars.elim (· returned) (·.1 three)
    · exact bars.elim (· returned) (·.2 five)
  unfold State.helloNow
  simp only [hw, recovery, quota, noWait, idle, Bool.false_eq_true, if_false, if_neg (Nat.not_le.mpr room),
    if_neg (Nat.not_le.mpr opening), if_neg polder, if_neg may]

/-- In recovery a HELLO opens P4's session where there is none (R516). -/
theorem State.helloNow_recovery (recovery : u.pwr.recovery = true) (alone : u.sidCount SidUse.isHost = 0)
    (polder : helloPolder (f.payload.headD 0).toNat ≠ 0) :
    u.helloNow f = u.takeIn f (fun h => { h with opening := false, polder := 4, password := false }) := by
  unfold State.helloNow
  dsimp only
  rw [if_pos recovery, if_neg (not_not.mpr alone), if_neg polder]

/-- In recovery no HELLO that is well formed asks for SEAL (R516). -/
theorem State.Takes.unsealed {s : State} (k : s.Takes 3 f) (recovery : s.pwr.recovery = true) : helloSeal (f.payload.headD 0).toNat = false := by
  have form := k.form
  by_contra sealed
  rw [Bool.not_eq_false] at sealed
  rw [malformed, helloBad, recovery, if_pos rfl, sealed] at form
  simp at form

end

/-! ### PROVE (R106, R107, R109) -/

section
variable {s u : State} {f : Frame} {i : Fin 64} {h : Session} {k : Bytes} {n : Fin 256}

/-- The use of the host key for a proof: none for a password or a commissioning open. -/
def State.useForProof (u : State) (h : Session) (comm : Bool) : State :=
  if h.password = true ∨ comm = true then u else (u.keyUse (hostKeySlot h.polder) engHMAC h.polder).2

/-- A session as its PROVE opens it at TB `tb`, with a full bucket. -/
def Session.proven (x : Session) (f : Frame) (comm : Bool) (slot : Option (Fin 256)) (bucket tb : Nat) : Session :=
  { x with opening := false, commissioning := comm, keySlot := slot, ext := f.seq.toNat, extFirst := f.seq.toNat, consumed := [f.seq.toNat],
           bucket, refillTb := tb, lastTb := tb }

/-- The state before the answer to a PROVE that opens session `i`, whose key is in `slot`. -/
def State.proven (u : State) (f : Frame) (i : Fin 64) (h : Session) (comm : Bool) (slot : Option (Fin 256)) (tb : Nat) : State :=
  let s1 := u.onSession i (fun x => x.proven f comm slot ((u.damperOf h.polder).2 * tbSecond) tb)
  ((s1.onBackoff h.port h.polder (fun _ => { n := 0, until_ := none })).bump 12 1).onPwr (fun p => { p with idleTb := tb })

/-- The answer to a PROVE that opens session `i`: the device's own proof under `k`. -/
def State.accepted (u : State) (f : Frame) (i : Fin 64) (h : Session) (k : Bytes) : State :=
  u.respond f i.1 OK 6 (bytesWords (proofOf "LV3750-ACPT" k h i)) (u.attn h.polder) none

/-- A PROVE with the proof of R106 in password mode opens its session. -/
theorem State.proveNow_password (mode : h.password = true) (key : u.openKey h = some k)
    (proof : wordBytes f.payload = proofOf "LV3750-OPEN" k h i) :
    u.proveNow f i h = (u.proven f i h (u.mayCommission h) none u.clock.tb).accepted f i h k := by
  unfold State.proveNow
  dsimp only
  rw [key]
  dsimp only
  rw [if_neg (not_not.mpr proof)]
  simp only [mode, true_or, if_true]
  rfl

/-- A PROVE with the proof of R106 in key mode opens its session with the key that is derived. -/
theorem State.proveNow_key {comm : Bool} {v : State} (mode : h.password = false) (key : u.openKey h = some k)
    (proof : wordBytes f.payload = proofOf "LV3750-OPEN" k h i) (may : u.mayCommission h = comm)
    (derived : (u.useForProof h comm).sessionKey i h k = (OK, some n, v)) :
    u.proveNow f i h = ((v.useForProof h comm).proven f i h comm (some n) u.clock.tb).accepted f i h k := by
  subst may
  unfold State.useForProof at derived
  unfold State.proveNow
  dsimp only
  rw [key]
  dsimp only
  rw [if_neg (not_not.mpr proof), derived]
  simp only [if_neg (show ¬ h.password = true by simp [mode])]
  rw [if_neg (not_not.mpr rfl)]
  rfl

/-- A PROVE without the proof of R106 fails its open, after at most one use of the host key. -/
theorem State.proveNow_fails (none_ : ∀ k, u.openKey h = some k → wordBytes f.payload ≠ proofOf "LV3750-OPEN" k h i) :
    ∃ v, (v = u ∨ v = (u.keyUse (hostKeySlot h.polder) engHMAC h.polder).2) ∧ u.proveNow f i h = (v.failOpen i h).plain f i.1 AUTHFAIL [] := by
  unfold State.proveNow
  dsimp only
  split
  case h_1 =>
    split
    · exact ⟨_, .inr rfl, rfl⟩
    · exact ⟨_, .inl rfl, rfl⟩
  case h_2 k key =>
    rw [if_pos (none_ k key)]
    split
    · exact ⟨_, .inl rfl, rfl⟩
    · exact ⟨_, .inr rfl, rfl⟩

/-! ### What an accepted PROVE leaves (R106, R111) -/

/-- From `u` to `t` the PROVE of frame `f` has opened session `i` at TB `tb`, with its key in `slot`, under K `k`. -/
structure State.Opens (u t : State) (f : Frame) (i : Fin 64) (h : Session) (k : Bytes) (comm : Bool) (slot : Option (Fin 256)) (tb : Nat) : Prop where
  answer : ∃ r, t.host.resp = some r ∧ r.status = OK ∧ r.sid = i.1 ∧ r.seq = f.seq.toNat ∧ r.count = 6 ∧
    r.payload = bytesWords (proofOf "LV3750-ACPT" k h i) ∧ r.sealed = false ∧ r.attn = t.attn h.polder
  session : ∃ bucket, t.session i = some (h.proven f comm slot bucket tb)
  backoff : t.backoffOf h.port h.polder = { n := 0, until_ := none }
  others : ∀ j, j ≠ i → t.sidUse j = u.sidUse j
  keys : t.keys = u.keys
  rest : t = { u with host := t.host, cnt := t.cnt, pwr := { u.pwr with idleTb := tb } }

/-- The back-off of a port and polder after it has changed. -/
theorem State.onBackoff_backoffOf (s : State) (p : Fin 4) (polder : Nat) (g : Backoff → Backoff) :
    (s.onBackoff p polder g).backoffOf p polder = g (s.backoffOf p polder) := by
  unfold State.backoffOf State.onBackoff State.onHost
  dsimp only
  rw [upd_same]
  exact upd_same ..

/-- An answer leaves every back-off as it was. -/
theorem State.respond_backoffOf (s : State) (f : Frame) (sid status count : Nat) (payload : List W64) (attn : Bool)
    (wrap : Option (Fin 256 × Bytes × Nat)) (p : Fin 4) (polder : Nat) :
    (s.respond f sid status count payload attn wrap).backoffOf p polder = s.backoffOf p polder := by
  unfold State.backoffOf
  rw [State.respond_host]

theorem State.proven_accepted (has : u.sidUse i = .host h) (comm : Bool) (slot : Option (Fin 256)) (tb : Nat) :
    u.Opens ((u.proven f i h comm slot tb).accepted f i h k) f i h k comm slot tb := by
  have table : ((u.proven f i h comm slot tb).accepted f i h k).host.table =
      (u.onSession i (fun x => x.proven f comm slot ((u.damperOf h.polder).2 * tbSecond) tb)).host.table := by
    rw [State.accepted, State.respond_host]; rfl
  constructor
  case answer =>
    obtain ⟨r, resp, status, sid, count, payload, attn, seq, -, sealed, -⟩ := (u.proven f i h comm slot tb).respond_resp f i.1 OK 6
      (bytesWords (proofOf "LV3750-ACPT" k h i)) ((u.proven f i h comm slot tb).attn h.polder) none
    refine ⟨r, resp, status, sid.trans (sidOf_OK ..), seq, count, payload, sealed, ?_⟩
    rw [attn, State.accepted, State.respond_attn]
  case session =>
    refine ⟨(u.damperOf h.polder).2 * tbSecond, State.session_of_sidUse ?_ rfl⟩
    rw [State.sidUse, table, State.onSession, State.onHost_host, upd_same, ← State.sidUse, has]
  case backoff =>
    rw [State.accepted, State.respond_backoffOf]
    exact State.onBackoff_backoffOf ..
  case others =>
    intro j hj
    rw [State.sidUse, table]
    exact upd_other _ _ _ _ hj.symm
  case keys => rw [State.accepted, State.respond_bare_rest]; rfl
  case rest => rw [State.accepted, State.respond_bare_rest]; rfl

/-! ### The session key (R107) -/

/-- Using a key empties no slot and fills none. -/
theorem State.keyUse_empty (s : State) (m n : Fin 256) (engine polder : Nat) :
    (((s.keyUse m engine polder).2.slot n).state == .empty) = ((s.slot n).state == .empty) := by
  rw [State.keyUse_slot]
  split
  next c =>
    obtain ⟨rfl, no⟩ := c
    have valid := KeySlot.valid_of_refusal no
    unfold KeySlot.used
    dsimp only
    rw [valid]
    split <;> rfl
  · rfl

theorem State.keyUse_freeKeySlot (s : State) (m : Fin 256) (engine polder : Nat) : (s.keyUse m engine polder).2.freeKeySlot = s.freeKeySlot := by
  unfold State.freeKeySlot
  simp only [State.keyUse_empty, State.keyUse_same]

theorem State.keyUse_mayCommission (s : State) (m : Fin 256) (engine polder : Nat) (h : Session) :
    (s.keyUse m engine polder).2.mayCommission h = s.mayCommission h := by
  unfold State.mayCommission
  rw [State.keyUse_empty]
  simp [State.doorOpen]

/-- The slot that a session finds free is EMPTY. -/
theorem State.freeKeySlot_empty (free : u.freeKeySlot = some n) : (u.slot n).state = .empty := by
  have found := List.find?_some free
  rw [Bool.and_eq_true, beq_iff_eq] at found
  exact found.1

/-- A proof in key mode outside a commissioning open is made with the host key, which may be used for it. -/
theorem State.openKey_host (mode : h.password = false) (may : u.mayCommission h = false) (key : u.openKey h = some k) :
    (u.slot (hostKeySlot h.polder)).refusal engHMAC u.clock.tb = none := by
  unfold State.openKey at key
  rw [mode, may] at key
  dsimp only at key
  split at key
  · cases key
  · simp only [Bool.false_eq_true, if_false] at key
    split at key
    next none_ => exact Option.isNone_iff_eq_none.mp none_
    · cases key

/-- The key slot of a session that is derived from `k` (R107). -/
def State.sessionSlot (u : State) (i : Fin 64) (h : Session) (k : Bytes) : KeySlot :=
  { KeySlot.reset with kind := 1, engines := 2 ^ engAESX + 2 ^ engHMAC, grant := h.polder, parent := (hostKeySlot h.polder).1, hasParent := true,
                       parentGen := (u.slot (hostKeySlot h.polder)).gen,
                       key := kdf k (ascii "LV3750-SESSION") (h.devNonce ++ h.hostNonce ++ leBytes 1 h.port.1 ++ leBytes 1 i.1) 128 }

theorem State.sessionKey_commissioning (may : u.mayCommission h = true) (free : u.freeKeySlot = some n) :
    u.sessionKey i h k = (OK, some n, (u.fillSlot n (u.sessionSlot i h k)).2) := by
  unfold State.sessionKey
  dsimp only
  rw [may, free]
  rfl

theorem State.sessionKey_derived (may : u.mayCommission h = false) (free : u.freeKeySlot = some n)
    (kdf : (u.slot (hostKeySlot h.polder)).refusal engKDF u.clock.tb = none) :
    u.sessionKey i h k = (OK, some n, ((u.keyUse (hostKeySlot h.polder) engKDF h.polder).2.fillSlot n (u.sessionSlot i h k)).2) := by
  unfold State.sessionKey
  dsimp only
  rw [may, free]
  simp only [Bool.false_eq_true, if_false, State.keyUse_none kdf]
  rfl

/-- A slot as a session key has just filled it. -/
structure KeySlot.IsSessionKey (x : KeySlot) (k : Bytes) (i : Fin 64) (h : Session) (gen : Nat) : Prop where
  valid : x.state = .valid
  gen : x.gen = gen + 1
  key : x.key = kdf k (ascii "LV3750-SESSION") (h.devNonce ++ h.hostNonce ++ leBytes 1 h.port.1 ++ leBytes 1 i.1) 128
  parent : x.parent = (hostKeySlot h.polder).1
  hasParent : x.hasParent = true
  grant : x.grant = h.polder

theorem State.fillSlot_sessionSlot (v u : State) (n : Fin 256) (i : Fin 64) (h : Session) (k : Bytes) :
    ((v.fillSlot n (u.sessionSlot i h k)).2.slot n).IsSessionKey k i h (v.slot n).gen := by
  obtain ⟨share, e⟩ := v.fillSlot_slot n (u.sessionSlot i h k)
  rw [e]
  exact ⟨rfl, rfl, rfl, rfl, rfl, rfl⟩

/-- A session key is derived with the use of the host key for the proof before and after it; the slot that it fills is another one. -/
theorem State.sessionKey_fills (mode : h.password = false) (key : u.openKey h = some k) (free : u.freeKeySlot = some n)
    (kdf : u.mayCommission h = false →
      ((u.keyUse (hostKeySlot h.polder) engHMAC h.polder).2.slot (hostKeySlot h.polder)).refusal engKDF u.clock.tb = none) :
    ∃ v, (u.useForProof h (u.mayCommission h)).sessionKey i h k = (OK, some n, v) ∧ v.host = u.host ∧
      ((v.useForProof h (u.mayCommission h)).slot n).IsSessionKey k i h (u.slot n).gen := by
  cases may : u.mayCommission h with
  | true =>
    have use (w : State) : w.useForProof h true = w := if_pos (.inr rfl)
    rw [use]
    refine ⟨_, State.sessionKey_commissioning may free, by simp, ?_⟩
    rw [use]
    exact State.fillSlot_sessionSlot ..
  | false =>
    have valid := KeySlot.valid_of_refusal (State.openKey_host mode may key)
    have other : n ≠ hostKeySlot h.polder := by
      rintro rfl
      rw [State.freeKeySlot_empty free] at valid
      cases valid
    have use (w : State) : w.useForProof h false = (w.keyUse (hostKeySlot h.polder) engHMAC h.polder).2 := if_neg (by simp [mode])
    rw [use]
    refine ⟨_, State.sessionKey_derived ((u.keyUse_mayCommission ..).trans may) ((u.keyUse_freeKeySlot ..).trans free) ?_, by simp, ?_⟩
    · simpa using kdf may
    · rw [use, State.keyUse_slot_other _ other]
      simpa using State.fillSlot_sessionSlot ((u.keyUse (hostKeySlot h.polder) engHMAC h.polder).2.keyUse (hostKeySlot h.polder) engKDF h.polder).2
        (u.keyUse (hostKeySlot h.polder) engHMAC h.polder).2 n i h k

/-! ### A PROVE that fails (R106, R109) -/

/-- The closing of a session leaves every back-off as it was. -/
theorem State.closeSession_backoffOf (s : State) (i : Fin 64) (p : Fin 4) (polder : Nat) :
    (s.closeSession i).backoffOf p polder = s.backoffOf p polder := by
  have kept : ∀ x : State, x.host = s.host → (x.freeSid i).backoffOf p polder = s.backoffOf p polder := by
    intro x hx
    unfold State.freeSid State.backoffOf
    split
    · rw [hx]
    · simp [hx]
  have port : ∀ (x : State) (q : Fin 4),
      (x.onHost fun y => { y with ports := upd y.ports q fun z => { z with idleSince := s.clock.tb } }).backoffOf p polder =
      x.backoffOf p polder := by
    intro x q
    unfold State.backoffOf State.onHost
    dsimp only
    by_cases hq : q = p
    · subst hq; rw [upd_same]
    · rw [upd_other _ _ _ _ hq]
  unfold State.closeSession
  split
  · rfl
  case h_2 x _ =>
    dsimp only
    have freed : ∀ y : State, y.host = s.host →
        ((y.freeSid i).onFw fun w =>
            { w with job := w.job.map fun j => if j.holder = some i.1 then { j with holder := none } else j }).backoffOf p polder =
          s.backoffOf p polder := fun y hy => kept y hy
    split <;> split
    · exact freed _ (by simp)
    · exact (port ..).trans (freed _ (by simp))
    · exact freed _ rfl
    · exact (port ..).trans (freed _ rfl)

/-- A failed open frees its ID and grows the back-off of its port and polder. -/
theorem State.failOpen_leaves (has : u.sidUse i = .host h) :
    (u.failOpen i h).sidUse i = .free ∧ (∀ j, j ≠ i → (u.failOpen i h).sidUse j = u.sidUse j) ∧
    (u.failOpen i h).backoffOf h.port h.polder =
      { n := (u.backoffOf h.port h.polder).n + 1,
        until_ := some (u.clock.tb + min (2 ^ (u.backoffOf h.port h.polder).n) 64 * tbSecond) } := by
  unfold State.failOpen
  dsimp only
  generalize hv : u.logEv .authFail 0 h.polder 0 h.port.1 _ = v
  have host : v.host = u.host := by rw [← hv]; simp
  have backoff : v.backoffOf h.port h.polder = u.backoffOf h.port h.polder := by rw [State.backoffOf, host]; rfl
  generalize hb : (fun b : Backoff => ({ n := b.n + 1, until_ := some (u.clock.tb + min (2 ^ b.n) 64 * tbSecond) } : Backoff)) = grow
  have table : (v.onBackoff h.port h.polder grow).host.table = u.host.table := by rw [← host]; rfl
  have has' : (v.onBackoff h.port h.polder grow).anySession i = some h := by
    rw [State.anySession, State.sidUse_of_table table, has]
  have c := State.closeSession_closed has'
  refine ⟨c.sidUse_self, fun j hj => (c.sidUse_other hj).trans (State.sidUse_of_table table j), ?_⟩
  rw [State.closeSession_backoffOf, State.onBackoff_backoffOf, backoff, ← hb]

end

/-! ### The two operations -/

section
variable {s : State} {f : Frame} {i : Fin 64} {h : Session}

/-- A HELLO that a port takes. -/
theorem exec_hello_takes (k : s.Takes 3 f) : exec (.hello f) s = .next ((s.taken f).helloNow f) :=
  congrArg Host.Outcome.next (State.intake_takes k _)

/-- A PROVE that a port takes for a session that is opening. -/
theorem exec_prove_takes (k : s.Takes 4 f) (names : s.sessionOf f = some (i, h)) (opening : h.opening = true) (idle : s.hearthBusy = false) :
    exec (.prove f) s = .next ((s.taken f).proveNow f i h) := by
  have idle' : (s.taken f).hearthBusy = false := by rw [s.taken_rest]; exact idle
  refine congrArg Host.Outcome.next ((State.intake_takes k _).trans ?_)
  simp only [State.taken_sessionOf, names, opening, idle', Bool.true_eq_false, Bool.false_eq_true, if_false]

end

/-- Settles O13: a HELLO that is taken is `State.takeIn`; a PROVE is `State.accepted` after its key, which `State.sessionKey_fills` derives, or
`State.failOpen`. -/
theorem sessionsOpen : Obligations.SessionsOpen := by
  unfold Obligations.SessionsOpen
  refine ⟨?hello, ?recovery, ?password, ?key, ?fails⟩
  case hello =>
    intro f s i rest k recovery idle room opening free polder back password
    have e : exec (.hello f) s = .next ((s.taken f).takeIn f id) := by
      rw [exec_hello_takes k, State.helloNow_takes (polder := polder)]
      all_goals rw [s.taken_rest]; assumption
    obtain ⟨⟨r, answer⟩, self, free', others, rest'⟩ := State.takeIn_leaves (f := f) room free id
    obtain ⟨resp, status, sid, seq, count, payload, attn⟩ := answer
    exact ⟨_, r, s.helloSession f, e, resp, status, sid, seq, count, payload, attn, self, rfl, rfl, rfl, rfl, rfl, rfl, rfl, rfl,
      s.drawBytes_length 32, free', others, rest'⟩
  case recovery =>
    intro f s i rest k recovery alone free polder
    have e : exec (.hello f) s = .next ((s.taken f).takeIn f fun h => { h with opening := false, polder := 4, password := false }) := by
      rw [exec_hello_takes k, State.helloNow_recovery (polder := polder)]
      all_goals rw [s.taken_rest]; assumption
    obtain ⟨⟨r, answer⟩, self, free', -, -⟩ := State.takeIn_leaves (f := f) (s := s) (by omega) free
      fun h => { h with opening := false, polder := 4, password := false }
    obtain ⟨resp, status, sid, -, count, -, -⟩ := answer
    exact ⟨_, r, _, e, resp, status, sid, count, State.session_of_sidUse self rfl, rfl, rfl, rfl, k.unsealed recovery, free'⟩
  case password =>
    intro f s i h k takes names opening idle mode key proof
    have has : (s.taken f).sidUse i = .host h := State.sidUse_of_sessionOf ((s.taken_sessionOf f f).trans names)
    have key' : (s.taken f).openKey h = some k := by rw [s.taken_rest]; exact key
    have comm : (s.taken f).mayCommission h = false := by simp [State.mayCommission, mode]
    obtain ⟨answer, ⟨bucket, session⟩, backoff, others, -, rest⟩ :=
      State.proven_accepted (f := f) (k := k) has ((s.taken f).mayCommission h) none (s.taken f).clock.tb
    refine ⟨_, _, (exec_prove_takes takes names opening idle).trans (congrArg _ (State.proveNow_password mode key' proof)), answer, session, rfl, rfl,
      rfl, rfl, comm, backoff, fun j hj => ?_, rest.trans ?_⟩
    · rw [others j hj, s.taken_rest]; rfl
    · rw [s.taken_rest]
  case key =>
    intro f s i h k n takes names opening idle mode key proof free kdf
    have has : (s.taken f).sidUse i = .host h := State.sidUse_of_sessionOf ((s.taken_sessionOf f f).trans names)
    have key' : (s.taken f).openKey h = some k := by rw [s.taken_rest]; exact key
    have comm : (s.taken f).mayCommission h = s.mayCommission h := by rw [s.taken_rest]; rfl
    have free' : (s.taken f).freeKeySlot = some n := by rw [s.taken_rest]; exact free
    have slot : (s.taken f).slot = s.slot := by rw [s.taken_rest]; rfl
    obtain ⟨v, derived, host, isKey⟩ := State.sessionKey_fills (i := i) mode key' free' fun may => by
      have refusal := kdf (comm.symm.trans may)
      rw [State.keyUse_slot] at refusal ⊢
      rw [slot, show (s.taken f).clock = s.clock by rw [s.taken_rest]]
      exact refusal
    have e := (exec_prove_takes takes names opening idle).trans (congrArg _ (State.proveNow_key mode key' proof rfl derived))
    have has' : (v.useForProof h ((s.taken f).mayCommission h)).sidUse i = .host h := by
      have host' : (v.useForProof h ((s.taken f).mayCommission h)).host = v.host := by unfold State.useForProof; split <;> simp
      rw [State.sidUse, host', host, ← State.sidUse, has]
    obtain ⟨answer, ⟨bucket, session⟩, backoff, -, keys, -⟩ :=
      State.proven_accepted (f := f) (k := k) has' ((s.taken f).mayCommission h) (some n) (s.taken f).clock.tb
    obtain ⟨valid, gen, bytes, parent, hasParent, grant⟩ := isKey
    rw [slot] at gen
    refine ⟨_, _, e, answer, session, rfl, rfl, rfl, rfl, comm, backoff, ?_⟩
    rw [State.slot_of_keys keys]
    exact ⟨valid, gen, bytes, parent, hasParent, grant⟩
  case fails =>
    intro f s i h takes names opening idle none_
    have has : (s.taken f).sidUse i = .host h := State.sidUse_of_sessionOf ((s.taken_sessionOf f f).trans names)
    obtain ⟨v, hv, e⟩ := State.proveNow_fails (u := s.taken f) (f := f) (i := i) (h := h) fun k key => by
      rw [s.taken_rest] at key
      exact none_ k key
    have host : v.host = (s.taken f).host := by rcases hv with rfl | rfl <;> simp
    have clock : v.clock = s.clock := by rcases hv with rfl | rfl <;> simp [State.taken]
    have table : v.host.table = s.host.table := by rw [host, State.taken_host]
    have backoff : v.backoffOf h.port h.polder = s.backoffOf h.port h.polder := by rw [State.backoffOf, host, State.taken_host]; rfl
    obtain ⟨self, others, grows⟩ := State.failOpen_leaves (u := v) ((State.sidUse_of_table (host ▸ rfl) i).trans has)
    obtain ⟨r, resp, status, sid, count, -⟩ := (v.failOpen i h).respond_resp f i.1 AUTHFAIL 0 [] false none
    rw [backoff, clock] at grows
    refine ⟨(v.failOpen i h).plain f i.1 AUTHFAIL [], r, (exec_prove_takes takes names opening idle).trans (congrArg _ e), resp, status,
      sid.trans (sidOf_AUTHFAIL ..), count, ?_, ?_, ?_, fun j hj => ?_⟩
    · exact (State.respond_sidUse ..).trans self
    · rw [State.plain, State.respond_backoffOf, grows]
    · rw [State.plain, State.respond_backoffOf, grows]
    · exact (State.respond_sidUse ..).trans ((others j hj).trans (State.sidUse_of_table table j))

end Sys2Proof.Machine
end

section
/-! O12: READ and WRITE of registers and windows (R6, R39, R42, R83, R84, R102, R125). -/

namespace Sys2Proof.Machine

/-! ### What an address decodes to (R83) -/

theorem indexIn_offset {ds : List (Nat × Nat)} {off : Nat} {ix : List Nat} (at_ : indexIn ds off = some ix) :
    ((ds.zip ix).map fun p => p.1.1 * p.2).sum = off := by
  induction ds generalizing off ix with
  | nil =>
    unfold indexIn at at_
    split at at_
    next zero => rw [zero, ← Option.some.inj at_]; rfl
    · cases at_
  | cons d ds ih =>
    obtain ⟨stride, count⟩ := d
    unfold indexIn at at_
    dsimp only at at_
    split at at_
    · obtain ⟨js, js_at, rfl⟩ := Option.map_eq_some_iff.mp at_
      have below : off / stride * stride ≤ off := Nat.div_mul_le_self ..
      rw [List.zip_cons_cons, List.map_cons, List.sum_cons, ih js_at, Nat.mul_comm]
      exact Nat.add_sub_of_le below
    · cases at_

theorem findReg_addr {a : Nat} {l : List RegSpec} {r : RegSpec} {ix : List Nat} (at_ : findReg a l = some (r, ix)) : r.addr ix = a := by
  induction l with
  | nil => cases at_
  | cons x l ih =>
    unfold findReg at at_
    split at at_
    case h_1 js here =>
      obtain ⟨rfl, rfl⟩ := Prod.mk.inj (Option.some.inj at_)
      unfold RegSpec.index? at here
      split at here
      · rw [RegSpec.addr, indexIn_offset here]
        omega
      · cases here
    case h_2 => exact ih at_

/-- The register at an address lies at that address. -/
theorem regAt_addr {a : Nat} {r : RegSpec} {ix : List Nat} (at_ : regAt a = some (r, ix)) : r.addr ix = a := findReg_addr at_

/-- The address of a WRITE that a port takes is one that a WRITE may name. -/
theorem State.Takes.addrOk {s : State} {op : Nat} {f : Frame} (k : s.Takes op f) : addrOk op f.addr.toNat = true := by
  have form := k.form
  by_contra no
  rw [Bool.not_eq_true] at no
  simp [malformed, no] at form

/-- A register that a WRITE names is decoded as that register. -/
theorem State.Takes.decoded {s : State} {f : Frame} {r : RegSpec} {ix : List Nat} (k : s.Takes 2 f) (inside : inRegion f.addr.toNat 1 = true)
    (plain : windowAt f.addr.toNat = none) (here : regAt f.addr.toNat = some (r, ix)) : r.Decoded ix := by
  have at_ := regAt_addr here
  constructor <;> rw [at_]
  exacts [k.addrOk, inside, plain, here]

/-! ### What a read changes (R6, R102, R124) -/

/-- From `s` to `t` no more has changed than reading registers may: kept conditions, jobs that are seen, counters, and the marks of GRATE and SENSE. -/
def State.OnlyReads (s t : State) : Prop :=
  t = { s with sticky := t.sticky, jobs := t.jobs, cnt := t.cnt, grate := t.grate, sens := t.sens }

theorem State.OnlyReads.same (s : State) : s.OnlyReads s := rfl

theorem State.OnlyReads.trans {s t u : State} (st : s.OnlyReads t) (tu : t.OnlyReads u) : s.OnlyReads u := by
  unfold State.OnlyReads at *
  rw [tu, st]

section
variable (s : State) (i : Fin 64) (r : RegSpec) (ix : List Nat)

theorem State.seeJob_only : s.OnlyReads (s.seeJob r ix) := by
  unfold State.seeJob
  split <;> rfl

theorem State.rearm_only : s.OnlyReads (s.rearm i r ix) := by
  unfold State.rearm
  dsimp only
  (repeat' split) <;> rfl

theorem State.clearRead_only : s.OnlyReads (s.clearRead i r ix) := by
  have fields : s.OnlyReads (if s.kept r ix &&& r.clearMask = 0 then s
      else { s with sticky := putKey (r.addr ix) (mergeMask (s.kept r ix) 0 r.clearMask) s.sticky }) := by split <;> rfl
  unfold State.clearRead
  dsimp only
  refine fields.trans ?_
  generalize (if s.kept r ix &&& r.clearMask = 0 then s
      else { s with sticky := putKey (r.addr ix) (mergeMask (s.kept r ix) 0 r.clearMask) s.sticky }) = u
  (repeat' split) <;> rfl

end

/-- The completion of a READ: the fields of the registers that it has read are cleared, and follow the live conditions again. -/
def State.readDone (s : State) (i : Fin 64) (l : List (RegSpec × List Nat)) : State :=
  l.foldl (fun (s : State) x => (s.clearRead i x.1 x.2).rearm i x.1 x.2) s

theorem State.readDone_only (i : Fin 64) (l : List (RegSpec × List Nat)) (s : State) : s.OnlyReads (s.readDone i l) := by
  induction l generalizing s with
  | nil => rfl
  | cons x l ih => exact ((s.clearRead_only i x.1 x.2).trans (State.rearm_only ..)).trans (ih _)

/-- A wider choice of fields has at least the bits of a narrower one. -/
theorem RegSpec.maskOf_zero {r : RegSpec} {p q : Field → Bool} (zero : r.maskOf q = 0) (wider : ∀ f, p f = true → q f = true) :
    r.maskOf p = 0 := by
  rw [RegSpec.maskOf, List.sum_eq_zero_iff] at zero ⊢
  intro x hx
  obtain ⟨f, hf, rfl⟩ := List.mem_map.mp hx
  rw [List.mem_filter] at hf
  exact zero _ (List.mem_map.mpr ⟨f, List.mem_filter.mpr ⟨hf.1, wider f hf.2⟩, rfl⟩)

/-- The registers whose reading has an effect beyond fields that it clears. -/
def readEffects : List Nat :=
  [R.JOB_STATUSn.base, R.GRT_PROBE_FLAGS.base, R.MET_CAL_STATE.base, R.CNT_BWPEAKn.base, R.CNT_EVk.base, R.PWR_TEMP.base]

section
variable {s : State} {i : Fin 64} {r : RegSpec} {ix : List Nat}

theorem State.seeJob_other (no : r.base ≠ R.JOB_STATUSn.base) : s.seeJob r ix = s := if_neg no

/-- A register without fields that reading clears is read without a trace. -/
theorem State.readDone_none (zero : r.clearMask = 0) (no : r.base ∉ readEffects) : (s.seeJob r ix).readDone i [(r, ix)] = s := by
  simp only [readEffects, List.mem_cons, List.not_mem_nil, or_false, not_or] at no
  obtain ⟨job, probe, cal, peak, event, temp⟩ := no
  have clear : s.clearRead i r ix = s := by
    unfold State.clearRead
    simp only [zero, Nat.and_zero, if_true, probe, cal, peak, event, if_false]
  have lh : r.maskOf (fun f => f.acc == .lh) = 0 := RegSpec.maskOf_zero zero fun f h => by simp [h]
  have ll : r.maskOf (fun f => f.acc == .ll) = 0 := RegSpec.maskOf_zero zero fun f h => by simp [h]
  have arm : s.rearm i r ix = s := by
    unfold State.rearm
    simp [temp, lh, ll]
  rw [State.seeJob_other job, State.readDone, List.foldl_cons, List.foldl_nil, clear, arm]

end

/-! ### The dike's word on a READ (R42, R77) -/

/-- Using a key changes no slot's grant. -/
theorem State.keyUse_grantOf (s : State) (m n : Fin 256) (engine polder : Nat) : (s.keyUse m engine polder).2.grantOf n = s.grantOf n := by
  have grant : ((s.keyUse m engine polder).2.slot n).grant = (s.slot n).grant := by
    rw [State.keyUse_slot]
    split <;> rfl
  have empty : ((s.keyUse m engine polder).2.slot n).state = .empty ↔ (s.slot n).state = .empty := by
    have e := s.keyUse_empty m n engine polder
    rwa [Bool.eq_iff_iff, beq_iff_eq, beq_iff_eq] at e
  unfold State.grantOf
  simp only [empty, grant]

section
variable {s : State} {f : Frame} {i : Fin 64} {h : Session} {e : Nat} (p : s.Passes f i h e)
include p

/-- The slot that a session has selected stays, and so does every slot's grant, until its operation runs. -/
theorem State.Passes.selSlot : (s.begun f i h e).selSlot i = s.selSlot i := by
  have before : s.anySession i = some h := by rw [State.anySession, State.sidUse_of_sessionOf p.names]
  have table : (s.taken f).host.table[i] = .host h := by rw [State.taken_host]; exact p.inTable
  obtain ⟨b, after⟩ := State.consumed_session e table
  unfold State.selSlot
  rw [before, State.anySession, State.begun, after]
  rfl

omit p in
theorem State.begun_grantOf (s : State) (f : Frame) (i : Fin 64) (h : Session) (e : Nat) (n : Fin 256) :
    (s.begun f i h e).grantOf n = s.grantOf n := by
  have of_keys : ∀ u v : State, u.keys = v.keys → u.grantOf n = v.grantOf n := fun u v hk => by
    unfold State.grantOf
    rw [State.slot_of_keys hk]
  have taken : (s.taken f).grantOf n = s.grantOf n := of_keys _ _ (by simp [State.taken])
  rcases (s.taken f).consumed_keys i h e with same | used
  · exact (of_keys _ _ same).trans taken
  · exact ((of_keys _ _ used).trans (State.keyUse_grantOf ..)).trans taken

/-- The dike's word on a READ is the same once the frame has been taken. -/
theorem State.Passes.mayRead (r : RegSpec) (ix : List Nat) : (s.begun f i h e).mayRead i h r ix = s.mayRead i h r ix := by
  obtain ⟨hs, ks, cn, lg, hu⟩ := p.runs.path.frame
  unfold State.mayRead
  rw [p.selSlot, State.begun_grantOf, hu]
  rfl

end

/-! ### READ and WRITE of registers (R102) -/

section
variable {u : State} {i : Fin 64} {h : Session} {a n : Nat} {v : List W64}

theorem State.readAccess_regs (inside : inRegion a n = true) (plain : windowAt a = none) : u.readAccess i h a n = u.readRegs i h a n := by
  rw [State.readAccess, if_neg (by simp [inside]), plain]

theorem State.writeAccess_regs (inside : inRegion a v.length = true) (plain : windowAt a = none) : u.writeAccess i h a v = u.writeRegs i h a v := by
  rw [State.writeAccess, if_neg (by simp [inside]), plain]

/-- No register that may be read now waits for the time. -/
theorem not_timeless {x : RegSpec} {wall : Option (Nat × Nat)} (time : needsTime x = true → wall.isSome = true) :
    ¬ (needsTime x = true ∧ wall.isNone = true) := fun ⟨needs, no⟩ => by
  rw [Option.isNone_iff_eq_none.mp no] at time
  exact absurd (time needs) (by simp)

theorem State.readRegs_nothing (none_ : regAt a = none) : u.readRegs i h a 1 = u.act NOADDR 0 := by
  unfold State.readRegs State.readRun
  rw [none_]
  rfl

variable {r : RegSpec} {ix : List Nat}

theorem State.readRegs_denied (here : regAt a = some (r, ix)) (no : u.mayRead i h r ix = false) :
    u.readRegs i h a 1 = (u.dikeRefuse h.polder h.port.1 a).act DENIED 0 := by
  unfold State.readRegs State.readRun
  simp only [here, no, if_true]
  rfl

theorem State.readRegs_dark (here : regAt a = some (r, ix)) (may : u.mayRead i h r ix = true) (dark : u.isDark (a / 0x10000) = true) :
    u.readRegs i h a 1 = { status := DARK, count := 1, payload := [0], state := u.darkAccess (a / 0x10000) } := by
  unfold State.readRegs State.readRun
  simp only [here, may, dark, Bool.true_eq_false, if_false, if_true]
  rfl

theorem State.readRegs_one (here : regAt a = some (r, ix)) (may : u.mayRead i h r ix = true) (lit : u.isDark (a / 0x10000) = false)
    (time : needsTime r = true → u.clock.wall.isSome = true) :
    u.readRegs i h a 1 = { status := OK, count := 1, payload := [u.readReg i r ix], state := (u.seeJob r ix).readDone i [(r, ix)] } := by
  unfold State.readRegs State.readRun
  simp only [here, may, lit, Bool.true_eq_false, Bool.false_eq_true, if_false, if_neg (not_timeless time)]
  rfl

/-- Every register of `n` words from `a` may be read, is lit, has its time known, and is no job's status word. -/
def State.Readable (u : State) (i : Fin 64) (h : Session) (a n : Nat) : Prop :=
  ∀ k, k < n → ∃ x, regAt (a + 8 * k) = some x ∧ u.mayRead i h x.1 x.2 = true ∧ u.isDark ((a + 8 * k) / 0x10000) = false ∧
    x.1.base ≠ R.JOB_STATUSn.base ∧ (needsTime x.1 = true → u.clock.wall.isSome = true)

/-- A run of readable registers gives all their words and changes nothing until it completes. -/
theorem State.readRun_words (all : u.Readable i h a n) :
    ∃ words reads, State.readRun i h n a u = { status := OK, count := n, words, extra := [], read := reads, state := u } ∧ words.length = n ∧
      ∀ k x, k < n → regAt (a + 8 * k) = some x → words[k]? = some (u.readReg i x.1 x.2) := by
  induction n generalizing a with
  | zero => exact ⟨[], [], rfl, rfl, fun k x hk => absurd hk (Nat.not_lt_zero k)⟩
  | succ n ih =>
    obtain ⟨⟨r, ix⟩, here, may, lit, noJob, time⟩ := all 0 (Nat.succ_pos n)
    have next (k : Nat) : a + 8 + 8 * k = a + 8 * (k + 1) := by ring
    obtain ⟨words, reads, run, length, each⟩ := ih (a := a + 8) fun k hk => by
      rw [next]
      exact all (k + 1) (Nat.succ_lt_succ hk)
    rw [Nat.mul_zero, Nat.add_zero] at here lit
    refine ⟨u.readReg i r ix :: words, (r, ix) :: reads, ?_, by rw [List.length_cons, length], fun k x hk at_ => ?_⟩
    · unfold State.readRun
      simp only [here, may, lit, Bool.true_eq_false, Bool.false_eq_true, if_false, if_neg (not_timeless time), State.seeJob_other noJob, run]
      rfl
    · cases k with
      | zero =>
        rw [Nat.mul_zero, Nat.add_zero, here] at at_
        rw [← Option.some.inj at_]
        rfl
      | succ k =>
        rw [List.getElem?_cons_succ]
        exact each k x (Nat.lt_of_succ_lt_succ hk) (by rw [next]; exact at_)

theorem State.readRegs_run (all : u.Readable i h a n) :
    ∃ words reads, u.readRegs i h a n = { status := OK, count := n, payload := words, state := u.readDone i reads } ∧ words.length = n ∧
      ∀ k x, k < n → regAt (a + 8 * k) = some x → words[k]? = some (u.readReg i x.1 x.2) := by
  obtain ⟨words, reads, run, facts⟩ := State.readRun_words all
  refine ⟨words, reads, ?_, facts⟩
  unfold State.readRegs
  rw [run]
  rfl

variable {w : W64}

theorem State.writeRegs_nothing (none_ : regAt a = none) : u.writeRegs i h a [w] = u.act NOADDR 0 := by
  unfold State.writeRegs State.writeRun
  rw [none_]
  rfl

theorem State.writeRegs_denied (here : regAt a = some (r, ix)) (no : u.mayWriteAt i h r ix w.toNat = false) :
    u.writeRegs i h a [w] = (u.dikeRefuse h.polder h.port.1 a).act DENIED 0 := by
  unfold State.writeRegs State.writeRun
  simp only [here, no, if_true]
  rfl

/-- A register without a writer of its own takes the word in its RW fields. -/
theorem writeReg_plain (own : writers.all (fun x => x.1 != r.base) = true) (polder : Nat) :
    writeReg r i polder ix w u = (OK, u.setReg r ix (mergeMask (u.reg r ix) w.toNat r.rwMask)) := by
  have none_ : writers.find? (fun x => x.1 == r.base) = none := by
    rw [List.find?_eq_none]
    intro x hx
    simpa using List.all_eq_true.mp own x hx
  unfold writeReg
  rw [none_]
  simp [plainWriter, State.putFields]

end

/-! ### READ and WRITE of windows (R83, R84) -/

section
variable {u : State} {i : Fin 64} {h : Session} {a n base size : Nat} {v : List W64} {w : Window}

theorem State.readAccess_window (inside : inRegion a n = true) (at_ : windowAt a = some (w, base, size)) (start : w.startOk (a - base) = true)
    (may : u.mayReadWindow h w (a - base) = true) (lit : u.isDark w.block = false) :
    u.readAccess i h a n = u.readWindow h w (a - base) n := by
  rw [State.readAccess, if_neg (by simp [inside]), at_]
  simp only [State.windowAccess, start, may, lit, Bool.true_eq_false, Bool.false_eq_true, if_false]

theorem State.writeAccess_window (inside : inRegion a v.length = true) (at_ : windowAt a = some (w, base, size)) (start : w.startOk (a - base) = true)
    (may : u.mayWriteWindow h w (a - base) = true) (lit : u.isDark w.block = false) :
    u.writeAccess i h a v = u.writeWindow w (a - base) v := by
  rw [State.writeAccess, if_neg (by simp [inside]), at_]
  simp only [State.windowAccess, start, may, lit, Bool.true_eq_false, Bool.false_eq_true, if_false]

end

/-- A sluice with room takes a message. -/
theorem State.sluicePut_room {u : State} {n : Fin 8} (room : (u.host.sluices[n]).msgs.length < 8) (msg : List W64) :
    u.sluicePut n msg = (OK, u.onHost (fun h => { h with sluices := upd h.sluices n (fun q => { q with msgs := q.msgs ++ [msg] }) })) := by
  unfold State.sluicePut
  rw [if_neg (Nat.not_le.mpr room)]

/-- The number of words of a frame is one, where its COUNT is. -/
theorem count_one {f : Frame} (one : f.count = 1) : f.count.toNat = 1 := by rw [one]; rfl

/-- Settles O12: a READ of registers is `State.readRegs_one` or `State.readRegs_run`, a WRITE goes to the register's writer, and a window is read and
written by `State.readWindow` and `State.writeWindow`, each from the state in which the frame has been taken. -/
theorem readAndWriteRegisters : Obligations.ReadAndWriteRegisters := by
  unfold Obligations.ReadAndWriteRegisters
  refine ⟨?readOne, ?readRun, ?readWindow, ?readRefused, ?writeOne, ?writePlain, ?writeWindow, ?writeRefused⟩
  case readOne =>
    intro f s i h e r ix k p one inside plain here may lit time
    have may' := (p.mayRead r ix).trans may
    refine ⟨_, s.begun f i h e, exec_read_passes k p, p.runs.path, ?_⟩
    have run := p.runs
    generalize s.begun f i h e = u at run may' ⊢
    obtain ⟨hs, ks, cn, lg, hu⟩ := run.path.frame
    have wall : u.clock.wall = s.clock.wall := by rw [hu]
    rw [count_one one, State.readAccess_regs inside plain, State.readRegs_one here may' (by rw [run.path.isDark]; exact lit) (by rw [wall]; exact time)]
    have only := (u.seeJob_only r ix).trans (State.readDone_only i [(r, ix)] (u.seeJob r ix))
    have none_ := State.readDone_none (s := u) (i := i) (r := r) (ix := ix)
    generalize (u.seeJob r ix).readDone i [(r, ix)] = v at only none_ ⊢
    refine ⟨run.served _ (by rw [only]), ?_, fun zero no => Act.pathOnly ?_⟩
    · rw [Act.answer_rest, only, hu]
    · rw [none_ zero no]
      exact run.path
  case readRun =>
    intro f s i h e k p inside plain all
    have all' : (s.begun f i h e).Readable i h f.addr.toNat f.count.toNat := fun j hj => by
      obtain ⟨x, here, may, lit, noJob, time⟩ := all j hj
      refine ⟨x, here, (p.mayRead ..).trans may, by rw [p.runs.path.isDark]; exact lit, noJob, ?_⟩
      obtain ⟨hs, ks, cn, lg, hu⟩ := p.runs.path.frame
      rw [hu]
      exact time
    obtain ⟨words, reads, run, length, each⟩ := State.readRegs_run all'
    refine ⟨_, s.begun f i h e, words, exec_read_passes k p, p.runs.path, length, ?_, each⟩
    have only := State.readDone_only i reads (s.begun f i h e)
    rw [State.readAccess_regs inside plain, run]
    exact p.runs.served _ (by rw [only])
  case readWindow =>
    intro f s i h e w base size k p inside at_ start may lit
    refine ⟨_, ((s.begun f i h e).readWindow h w (f.addr.toNat - base) f.count.toNat).payload, exec_read_passes k p, ?_⟩
    have run := p.runs
    generalize s.begun f i h e = u at run ⊢
    obtain ⟨hs, ks, cn, lg, hu⟩ := run.path.frame
    have may' : u.mayReadWindow h w (f.addr.toNat - base) = true := by rw [hu]; exact may
    rw [State.readAccess_window inside at_ start may' (by rw [run.path.isDark]; exact lit)]
    generalize f.addr.toNat - base = off
    refine ⟨?results, ?log, ?card, ?relay, ?tag, ?sluice⟩
    case results =>
      rintro j rfl
      rw [show s.job j = u.job j by rw [hu]; rfl]
      exact ⟨rfl, run.noChange _ rfl⟩
    case log =>
      rintro rfl
      rw [show s.logSlot h.polder = u.logSlot h.polder by rw [hu]; rfl, show s.job = u.job by rw [hu]; rfl]
      exact ⟨rfl, run.noChange _ rfl⟩
    case card =>
      rintro rfl
      rw [show s.rdr = u.rdr by rw [hu]]
      exact ⟨rfl, run.noChange _ rfl⟩
    case relay =>
      rintro o rfl
      rw [show s.veh = u.veh by rw [hu]]
      exact ⟨rfl, run.noChange _ rfl⟩
    case tag =>
      rintro rfl free
      rw [show s.tag = u.tag by rw [hu]]
      have free' : ¬ u.tagHeld ≠ 0 := not_not.mpr (by rw [hu]; exact free)
      have e : u.readWindow h .tag off f.count.toNat =
          { status := OK, count := f.count.toNat, payload := bytesWords (Memory.readBytes u.tag.mem off (8 * f.count.toNat)), state := u } :=
        if_neg free'
      rw [e]
      exact ⟨rfl, run.noChange _ rfl⟩
    case sluice =>
      rintro n rfl
      rw [← run.path.sluices]
      refine ⟨rfl, run.served _ rfl, ?_, fun m hm => ?_, by rw [Act.answer_rest, hu]; rfl⟩
      · rw [Act.answer_host]
        exact congrArg Sluice.msgs (upd_same ..)
      · rw [Act.answer_host]
        exact upd_other _ _ _ _ hm.symm
  case readRefused =>
    intro f s i h e k p one inside plain
    refine ⟨_, exec_read_passes k p, ?_⟩
    have run := p.runs
    have dike (r : RegSpec) (ix : List Nat) := p.mayRead r ix
    generalize s.begun f i h e = u at run dike ⊢
    obtain ⟨hs, ks, cn, lg, hu⟩ := run.path.frame
    rw [count_one one, State.readAccess_regs inside plain]
    refine ⟨fun none_ => ?_, fun r ix here no => ?_, fun r ix here may dark => ?_⟩
    · rw [State.readRegs_nothing none_]
      exact run.noChange _ rfl
    · rw [State.readRegs_denied here ((dike r ix).trans no)]
      exact run.refused _ _ _ _ rfl
    · rw [State.readRegs_dark here ((dike r ix).trans may) (by rw [run.path.isDark]; exact dark)]
      refine ⟨run.served _ rfl, ?_, ?_⟩
      · have before : u.host.darkCount = s.host.darkCount := by rw [run.path.kept.host]
        rw [Act.answer_host, ← before]
        rfl
      · rw [Act.answer_rest, hu]
        rfl
  case writeOne =>
    intro f s i h e r ix v k p payload inside plain here may lit
    refine ⟨_, s.begun f i h e, exec_write_passes k p, p.runs.path, ?_⟩
    have run := p.runs
    have at_ := regAt_addr here
    have decoded := k.decoded inside plain here
    generalize s.begun f i h e = u at run ⊢
    rw [payload, ← at_, State.writeAccess_one decoded (by rw [run.path.mayWriteAt]; exact may) (by rw [run.path.isDark, at_]; exact lit)]
    refine ⟨?_, Act.answer_rest ..⟩
    have answers := run.answers (wrote (writeReg r i h.polder ix v u))
    have count : b2n ((writeReg r i h.polder ix v u).1 == OK) = if (writeReg r i h.polder ix v u).1 = OK then 1 else 0 := by simp [b2n]
    rw [count]
    exact answers
  case writePlain =>
    intro f s i h e r ix v k p payload inside plain here may lit own
    refine ⟨_, exec_write_passes k p, ?_⟩
    have run := p.runs
    have at_ := regAt_addr here
    have decoded := k.decoded inside plain here
    generalize s.begun f i h e = u at run ⊢
    obtain ⟨hs, ks, cn, lg, hu⟩ := run.path.frame
    rw [payload, ← at_, State.writeAccess_one decoded (by rw [run.path.mayWriteAt]; exact may) (by rw [run.path.isDark, at_]; exact lit),
      writeReg_plain own, wrote_ok]
    have regs : u.regs = s.regs := by rw [hu]
    refine ⟨run.served _ rfl, run.hostKept _ rfl fun _ => rfl, ?_, fun a ha => ?_, by rw [Act.answer_rest, hu]; rfl⟩
    · rw [State.reg, Act.answer_rest, show s.reg r ix = u.reg r ix by rw [State.reg, State.reg, regs]]
      simp only [State.setReg, getKey_putKey_same, Option.getD_some]
    · rw [Act.answer_rest, ← regs]
      exact getKey_putKey_other _ _ _ _ ha
  case writeWindow =>
    intro f s i h e w base size k p inside at_ start may lit
    refine ⟨_, exec_write_passes k p, ?_⟩
    have run := p.runs
    generalize s.begun f i h e = u at run ⊢
    obtain ⟨hs, ks, cn, lg, hu⟩ := run.path.frame
    have may' : u.mayWriteWindow h w (f.addr.toNat - base) = true := by rw [hu]; exact may
    rw [State.writeAccess_window inside at_ start may' (by rw [run.path.isDark]; exact lit)]
    generalize f.addr.toNat - base = off
    refine ⟨?card, ?relay, ?sluice⟩
    case card =>
      rintro rfl
      refine ⟨run.served _ rfl, run.hostKept _ rfl fun _ => rfl, ?_, by rw [Act.answer_rest, hu]; rfl⟩
      rw [Act.answer_rest, show s.rdr = u.rdr by rw [hu]]
      rfl
    case relay =>
      rintro o rfl
      refine ⟨run.served _ rfl, run.hostKept _ rfl fun _ => rfl, ?_, fun q hq => ?_, by rw [Act.answer_rest, hu]; rfl⟩
      · rw [Act.answer_rest, show s.veh = u.veh by rw [hu]]
        exact congrArg Relay.response (upd_same ..)
      · rw [Act.answer_rest, show s.veh = u.veh by rw [hu]]
        exact upd_other _ _ _ _ hq.symm
    case sluice =>
      rintro n rfl room
      rw [← run.path.sluices] at room ⊢
      have e : u.writeWindow (.sluiceTx n) off f.payload =
          (u.onHost fun h => { h with sluices := upd h.sluices n fun q => { q with msgs := q.msgs ++ [f.payload] } }).act OK f.payload.length := by
        rw [State.writeWindow, State.sluicePut_room room]
        rfl
      rw [e]
      refine ⟨run.served _ rfl, ?_, fun m hm => ?_, by rw [Act.answer_rest, hu]; rfl⟩
      · rw [Act.answer_host]
        exact congrArg Sluice.msgs (upd_same ..)
      · rw [Act.answer_host]
        exact upd_other _ _ _ _ hm.symm
  case writeRefused =>
    intro f s i h e v k p payload inside plain
    refine ⟨_, exec_write_passes k p, ?_⟩
    have run := p.runs
    generalize s.begun f i h e = u at run ⊢
    rw [payload, State.writeAccess_regs inside plain]
    refine ⟨fun none_ => ?_, fun r ix here no => ?_⟩
    · rw [State.writeRegs_nothing none_]
      exact run.noChange _ rfl
    · rw [State.writeRegs_denied here (by rw [run.path.mayWriteAt]; exact no)]
      exact run.refused _ _ _ _ rfl

end Sys2Proof.Machine
end

section
/-!
What a frame of the Grate leaves of a state (R129): the running plan and its count of frames, the CAL_MEASURE that runs, the lane's run and the
counter of frames, until its end counts them.
-/

namespace Sys2Proof.Machine

/-! ### The cells (R129 to R135) -/

/-- From `g` to `k` the plan and its place in the run and in the tick are as they were. -/
structure Grate.RunsOn (g k : Grate) : Prop where
  plan : k.plan = g.plan
  frames : k.frames = g.frames
  tickFrame : k.tickFrame = g.tickFrame

theorem Grate.RunsOn.refl (g : Grate) : g.RunsOn g := ⟨rfl, rfl, rfl⟩

theorem Grate.RunsOn.trans {g k m : Grate} (h : g.RunsOn k) (h' : k.RunsOn m) : g.RunsOn m :=
  ⟨h'.plan.trans h.plan, h'.frames.trans h.frames, h'.tickFrame.trans h.tickFrame⟩

theorem Grate.RunsOn.foldl {β : Type} {f : Grate → β → Grate} (hf : ∀ (k : Grate) (x : β), k.RunsOn (f k x)) (l : List β) (g : Grate) :
    g.RunsOn (l.foldl f g) := by
  induction l generalizing g with
  | nil => exact .refl g
  | cons x xs ih => exact (hf g x).trans (ih _)

theorem evalMa_runsOn (p : Plan) (sens : Sensing) (g : Grate) (r : MaRec) : g.RunsOn (evalMa p sens g r) := by
  unfold evalMa
  split
  · exact ⟨rfl, rfl, rfl⟩
  · exact .refl g

theorem frameFast_runsOn (p : Plan) (bits : IcRec → List Bool) (before : Vector IcState 48) (g : Grate) : g.RunsOn (frameFast p bits before g) := by
  unfold frameFast
  refine .trans (.trans (k := { g with tc := g.tc.map (fun t => { t with rises := 0 }) }) ⟨rfl, rfl, rfl⟩ (.foldl (fun g f => ?filter) ..))
    (.foldl (fun g t => ?window) ..)
  case filter => (repeat' split) <;> exact ⟨rfl, rfl, rfl⟩
  case window => (repeat' split) <;> exact ⟨rfl, rfl, rfl⟩

theorem frameFir_runsOn (p : Plan) (sens : Sensing) (g : Grate) : g.RunsOn (frameFir p sens g) :=
  .foldl (fun g f => by split <;> exact ⟨rfl, rfl, rfl⟩) ..

theorem frameArith_runsOn (p : Plan) (sens : Sensing) (arrives : Nat → Bool) (g : Grate) : g.RunsOn (frameArith p sens arrives g) := by
  unfold frameArith
  refine .trans (.foldl (fun g l => .foldl (evalMa_runsOn p sens) l g) ..) (.foldl (fun g t => ?_) ..)
  dsimp only
  (repeat' split) <;> exact ⟨rfl, rfl, rfl⟩

theorem stepSqs_runsOn (p : Plan) (sens : Sensing) (tick : Bool) (g : Grate) : g.RunsOn (stepSqs p sens tick g) :=
  .foldl (fun g r => by split <;> exact ⟨rfl, rfl, rfl⟩) ..

/-! ### What the steps of a frame leave -/

/-- From `a` to `t` no more has happened than in the steps of a frame but CAL_MEASURE's and the last. -/
structure State.InFrame (a t : State) : Prop where
  rest : t = { a with use := t.use, sticky := t.sticky, cnt := t.cnt, log := t.log, grate := t.grate, sens := t.sens, nrg := t.nrg,
                      mseal := t.mseal, guard := t.guard }
  runs : a.grate.RunsOn t.grate
  measure : t.sens.measure = a.sens.measure
  laneRun : t.guard.laneRun = a.guard.laneRun
  count : t.cnt.count[(4 : Fin 24)] = a.cnt.count[(4 : Fin 24)]

theorem State.InFrame.refl (a : State) : a.InFrame a := ⟨rfl, .refl _, rfl, rfl, rfl⟩

theorem State.InFrame.trans {a s t : State} (h : a.InFrame s) (k : s.InFrame t) : a.InFrame t where
  rest := k.rest.trans (by rw [h.rest])
  runs := h.runs.trans k.runs
  measure := k.measure.trans h.measure
  laneRun := k.laneRun.trans h.laneRun
  count := k.count.trans h.count

section
variable {a s : State} (h : a.InFrame s)
include h

theorem State.InFrame.fold {β : Type} {f : State → β → State} {l : List β} (hf : ∀ u x, a.InFrame u → a.InFrame (f u x)) :
    a.InFrame (l.foldl f s) := by
  induction l generalizing s with
  | nil => exact h
  | cons x xs ih => exact ih (hf _ _ h)

/-- What may be done then. -/
theorem State.InFrame.maybe {c : Prop} {d : Decidable c} {t : State} (ht : a.InFrame s → a.InFrame t) : a.InFrame (if c then t else s) := by
  split
  · exact ht h
  · exact h

/-- What may be done then, with the reason for it. -/
theorem State.InFrame.dmaybe {c : Prop} {d : Decidable c} {t : c → State} (ht : ∀ x, a.InFrame s → a.InFrame (t x)) :
    a.InFrame (if x : c then t x else s) := by
  split
  · exact ht _ h
  · exact h

theorem State.InFrame.latch {r ix bits} : a.InFrame (s.latch r ix bits) := h.trans ⟨rfl, .refl _, rfl, rfl, rfl⟩
theorem State.InFrame.span {outs bit} : a.InFrame (s.span outs bit) := h.trans ⟨rfl, .refl _, rfl, rfl, rfl⟩
theorem State.InFrame.onNrg {f} : a.InFrame (s.onNrg f) := h.trans ⟨rfl, .refl _, rfl, rfl, rfl⟩

theorem State.InFrame.onGrate {f : Grate → Grate} (hf : s.grate.RunsOn (f s.grate)) : a.InFrame (s.onGrate f) :=
  h.trans ⟨rfl, hf, rfl, rfl, rfl⟩

theorem State.InFrame.onSens {f : Sensing → Sensing} (hf : (f s.sens).measure = s.sens.measure) : a.InFrame (s.onSens f) :=
  h.trans ⟨rfl, .refl _, hf, rfl, rfl⟩

theorem State.InFrame.onGuard {f : Guard → Guard} (hf : (f s.guard).laneRun = s.guard.laneRun) : a.InFrame (s.onGuard f) :=
  h.trans ⟨rfl, .refl _, rfl, hf, rfl⟩

theorem State.InFrame.logEv {ev inst polder origin x y} : a.InFrame (s.logEv ev inst polder origin x y) := by
  obtain ⟨cn, lg, hl, hc⟩ := s.logEv_frame ev inst polder origin x y
  rw [hl]
  exact h.trans ⟨rfl, .refl _, rfl, rfl, hc 4 (by decide)⟩

theorem State.InFrame.takeUp {c q} : a.InFrame (s.takeUp c q) := by
  refine h.fold fun u e hu => ?_
  split
  · exact hu.maybe fun k => k.trans ⟨rfl, .refl _, rfl, rfl, rfl⟩
  · exact hu

theorem State.InFrame.fgFrame {i} : a.InFrame (fgFrame i s) := by
  unfold Machine.fgFrame State.magKeep
  exact (h.onSens rfl).onSens rfl

theorem State.InFrame.rcdFrame {i} : a.InFrame (rcdFrame i s) := by
  unfold Machine.rcdFrame
  exact h.onGuard rfl

theorem State.InFrame.icLoss {p n} : a.InFrame (s.icLoss p n) := by
  unfold State.icLoss
  exact h.latch.maybe fun k => k.logEv

theorem State.InFrame.icBits {p n format bits} : a.InFrame (s.icBits p n format bits) :=
  .maybe (.maybe (State.InFrame.latch (h.onGrate ⟨rfl, rfl, rfl⟩)) fun k => k.icLoss) fun k => .maybe k.latch fun k => k.span

theorem State.InFrame.frameIcs {p bits} : a.InFrame (frameIcs p bits s) := h.fold fun _ _ k => k.dmaybe fun _ k => k.icBits

theorem State.InFrame.endRun {index i} : a.InFrame (s.endRun index i) := by
  unfold State.endRun
  exact h.maybe fun k => k.logEv

theorem State.InFrame.frameInteg {p} : a.InFrame (frameInteg p s) :=
  h.fold fun _ _ k => k.dmaybe fun _ k =>
    .dmaybe (.onGrate (.maybe (.maybe k fun k => k.span) fun k => k.endRun) ⟨rfl, rfl, rfl⟩) fun _ k => .maybe k.onNrg fun k => k.latch

theorem State.InFrame.frameVotes {p} : a.InFrame (frameVotes p s) :=
  h.fold fun _ _ k => k.dmaybe fun _ k => .maybe (k.onGrate ⟨rfl, rfl, rfl⟩) fun k => k.latch

theorem State.InFrame.frameLive {p} : a.InFrame (frameLive p s) := by
  unfold Machine.frameLive
  refine State.InFrame.fold (h.fold fun u q k => ?quantity) fun u o k => ?crossings
  case quantity =>
    split
    · exact k.dmaybe fun _ k => k.onNrg
    · exact k
  case crossings =>
    dsimp only
    split
    · exact .maybe k.onNrg fun k => k.latch.span
    · exact k

theorem State.InFrame.blankLatch {p} : a.InFrame (blankLatch p s) := h.latch
theorem State.InFrame.countLosses {p} : a.InFrame (countLosses p s) := (h.onGrate ⟨rfl, rfl, rfl⟩).onSens rfl
theorem State.InFrame.trackFrames {p} : a.InFrame (trackFrames p s) := h.onSens rfl

end

/-! ### CAL_MEASURE's step (R181) -/

/-- The end of a job changes the jobs alone. -/
theorem State.finishJob_frame (s : State) (j : Fin 16) (err : Nat) : ∃ js, s.finishJob j err = { s with jobs := js } := by
  unfold State.finishJob
  split <;> exact ⟨_, rfl⟩

/-- A record of a job changes the jobs alone. -/
theorem State.addRecord_frame (s : State) (j : Fin 16) (type : Nat) (words : List W64) :
    ∃ js, s.addRecord j type words = { s with jobs := js } := by
  unfold State.addRecord
  dsimp only
  split
  · exact ⟨_, rfl⟩
  · split
    · exact ⟨_, rfl⟩
    · exact s.finishJob_frame ..

/-- CAL_MEASURE's step changes the jobs and the sensing alone. -/
theorem measureFrame_frame (s : State) : ∃ js sn, measureFrame s = { s with jobs := js, sens := sn } := by
  unfold measureFrame
  split
  case h_1 => exact ⟨_, _, rfl⟩
  case h_2 m _ =>
    split
    case isTrue => exact ⟨_, _, rfl⟩
    case isFalse =>
      split
      case h_1 => obtain ⟨js, hf⟩ := s.finishJob_frame m.job 0x42; rw [hf]; exact ⟨_, _, rfl⟩
      case h_2 x _ =>
        have partialRecord : ∃ js,
            (if x.ok ∧ (m.take x).n % 48000 = 0 then s.addRecord m.job 0x0049 (m.take x).words else s) = { s with jobs := js } := by
          split
          · exact s.addRecord_frame ..
          · exact ⟨_, rfl⟩
        obtain ⟨js, hr⟩ := partialRecord
        dsimp only
        rw [hr]
        split
        · obtain ⟨js1, h1⟩ := State.addRecord_frame { s with jobs := js } m.job 0x0049 (m.take x).words
          obtain ⟨js2, h2⟩ := State.finishJob_frame { s with jobs := js1 } m.job 0
          rw [h1, h2]; exact ⟨_, _, rfl⟩
        · split
          · obtain ⟨js1, h1⟩ := State.finishJob_frame { s with jobs := js } m.job 0x41
            rw [h1]; exact ⟨_, _, rfl⟩
          · exact ⟨_, _, rfl⟩

/-- Without a CAL_MEASURE nothing is done. -/
theorem measureFrame_of_idle {s : State} (h : s.sens.measure = none) : measureFrame s = s := by
  unfold measureFrame
  rw [h]

/-- A CAL_MEASURE that finds no plan ends. -/
theorem measureFrame_of_no_plan {s : State} (h : s.grate.plan = none) : (measureFrame s).sens.measure = none := by
  unfold measureFrame
  split
  case h_1 hm => exact hm
  case h_2 =>
    split
    · rfl
    · rw [h]; rfl

/-! ### The frame (R129, R347) -/

/-- A frame of plan `p` up to CAL_MEASURE's step. -/
def frameBegun (p : Plan) (i : FrameIn) (s : State) : State :=
  let s0 := rcdFrame i (fgFrame i (s.takeUp .f (fun a => !inBlock 7 a)))
  let s1 := frameIcs p (frameBits i s0.sens.mclkOn) s0
  let s2 := s1.onGrate (fun g => frameArith p s1.sens (fun n => (i.fg[n]?.getD none).isSome)
    (frameFir p s1.sens (frameFast p (frameBits i s0.sens.mclkOn) s0.grate.ic g)))
  let s4 := (frameLive p (frameVotes p (frameInteg p s2))).onNrg (fun e => { e with pulses := e.pulses.map PulseOut.frame })
  trackFrames p (countLosses p (blankLatch p (s4.onGrate (stepSqs p s4.sens false))))

/-- The last step of a frame of plan `p`: the frame is counted. -/
def frameCounted (p : Plan) (s : State) : State :=
  let ok := metroValid p s
  let u := s.onGrate (fun g => { g with frames := g.frames + 1, tickFrame := g.tickFrame + 1, validRun := if ok then g.validRun + 1 else 0,
                                        integ := g.integ.map (fun x => { x with fresh := if ok then x.fresh + 1 else 0 }) })
  (u.bump 4 1).bump 5 (250 * p.ics.length)

theorem frameStep_eq (p : Plan) (i : FrameIn) (s : State) :
    frameStep p i s = frameCounted p (laneFrame p (measureFrame (frameBegun p i s))) := rfl

theorem frameBegun_inFrame (p : Plan) (i : FrameIn) (s : State) : s.InFrame (frameBegun p i s) := by
  have cells : ∀ (sens : Sensing) (arrives : Nat → Bool) (bits : IcRec → List Bool) (before : Vector IcState 48) (g : Grate),
      g.RunsOn (frameArith p sens arrives (frameFir p sens (frameFast p bits before g))) := fun _ _ _ _ _ =>
    (frameFast_runsOn ..).trans ((frameFir_runsOn ..).trans (frameArith_runsOn ..))
  unfold frameBegun
  exact (State.InFrame.refl s).takeUp.fgFrame.rcdFrame.frameIcs.onGrate (cells ..)
    |>.frameInteg.frameVotes.frameLive.onNrg.onGrate (stepSqs_runsOn ..) |>.blankLatch.countLosses.trackFrames

/-- What a frame of a running plan makes of `s`. -/
structure State.Framed (s t : State) : Prop where
  rest : t = { s with use := t.use, sticky := t.sticky, jobs := t.jobs, cnt := t.cnt, log := t.log, grate := t.grate, sens := t.sens, nrg := t.nrg,
                      mseal := t.mseal, guard := t.guard }
  plan : t.grate.plan = s.grate.plan
  frames : t.grate.frames = s.grate.frames + 1
  tickFrame : t.grate.tickFrame = s.grate.tickFrame + 1
  count : t.cnt.count[(4 : Fin 24)] = (s.cnt.count[(4 : Fin 24)] + 1) % 2 ^ 48
  laneTb : t.guard.laneTb = s.clock.tb
  laneRun : t.guard.laneRun = min 48000 (s.guard.laneRun + 1)
  jobs : s.sens.measure = none → t.jobs = s.jobs

theorem frameStep_framed (p : Plan) (i : FrameIn) (s : State) : s.Framed (frameStep p i s) := by
  have begun := frameBegun_inFrame p i s
  rw [frameStep_eq]
  generalize frameBegun p i s = u at begun ⊢
  obtain ⟨js, sn, hm⟩ := measureFrame_frame u
  exact {
    rest := by
      rw [hm, begun.rest]
      rfl
    plan := by
      rw [hm, ← begun.runs.plan]
      rfl
    frames := by
      rw [hm, ← begun.runs.frames]
      rfl
    tickFrame := by
      rw [hm, ← begun.runs.tickFrame]
      rfl
    count := by
      rw [hm, frameCounted, State.bump_count, if_neg (by decide), State.bump_count, if_pos rfl, ← begun.count]
      rfl
    laneTb := by
      rw [hm, begun.rest]
      rfl
    laneRun := by
      rw [hm, ← begun.laneRun]
      rfl
    jobs := fun idle => by
      rw [measureFrame_of_idle (begun.measure.trans idle), begun.rest]
      rfl }

theorem exec_grateFrame_of_plan {s : State} {p : Plan} (hp : s.grate.plan = some p) (hf : s.grate.tickFrame < 480) (x : FrameIn) :
    exec (.grateFrame x) s = .next (frameStep p x s) := by
  refine congrArg Host.Outcome.next ?_
  unfold grateFrame
  rw [hp]
  exact if_pos hf

theorem exec_grateFrame_of_full {s : State} {p : Plan} (hp : s.grate.plan = some p) (hf : 480 ≤ s.grate.tickFrame) (x : FrameIn) :
    exec (.grateFrame x) s = .next s := by
  refine congrArg Host.Outcome.next ?_
  unfold grateFrame
  rw [hp]
  exact if_neg (Nat.not_lt.mpr hf)

theorem exec_grateFrame_of_no_plan {s : State} (hp : s.grate.plan = none) (x : FrameIn) :
    exec (.grateFrame x) s = .next (measureFrame (s.takeUp .f (fun a => !inBlock 7 a))) := by
  refine congrArg Host.Outcome.next ?_
  unfold grateFrame
  rw [hp]

/-- Values that are taken up change the words in use alone. -/
theorem State.takeUp_frame (s : State) (c : Cls) (q : Nat → Bool) : ∃ us, s.takeUp c q = { s with use := us } := by
  refine List.foldlRecOn (motive := fun t : State => ∃ us, t = { s with use := us }) _ _ ⟨s.use, rfl⟩ ?_
  rintro _ ⟨us, rfl⟩ e -
  split
  · split <;> exact ⟨_, rfl⟩
  · exact ⟨us, rfl⟩

end Sys2Proof.Machine
end

section
/-! O22: the frame of the Grate (R129, R347) and TRIP lines (R351, R353). -/

namespace Sys2Proof.Machine

/-! ### What a drop of HV_EN leaves of the Grate (R351) -/

section
variable (s : State)

@[simp] theorem State.grate_ite (c : Prop) [Decidable c] (a b : State) : (if c then a else b).grate = if c then a.grate else b.grate :=
  apply_ite State.grate c a b

@[simp] theorem foldl_grate {β : Type} {f : State → β → State} (hf : ∀ s x, (f s x).grate = s.grate) (l : List β) (s : State) :
    (l.foldl f s).grate = s.grate := by
  induction l generalizing s with
  | nil => rfl
  | cons x xs ih => exact (ih _).trans (hf s x)

@[simp] theorem State.dropTracks_grate (o) : (s.dropTracks o).grate = s.grate := by unfold State.dropTracks; split <;> simp
@[simp] theorem State.onChan_grate (n f) : (s.onChan n f).grate = s.grate := by simp [State.onChan]
@[simp] theorem State.gateChans_grate (o closed) : (s.gateChans o closed).grate = s.grate := by simp [State.gateChans]
@[simp] theorem State.setGate_grate (o v) : (s.setGate o v).grate = s.grate := by simp [State.setGate]
@[simp] theorem State.regate_grate (o) : (s.regate o).grate = s.grate := by simp [State.regate]
@[simp] theorem State.setHv_grate (o v) : (s.setHv o v).grate = s.grate := by simp [State.setHv]
@[simp] theorem State.request_grate (o v) : (s.request o v).grate = s.grate := by simp [State.request]
@[simp] theorem State.drivePilot_grate (o d) : (s.drivePilot o d).grate = s.grate := by simp [State.drivePilot]
@[simp] theorem State.isoDrive_grate (n halfB on) : (s.isoDrive n halfB on).grate = s.grate := by simp [State.isoDrive]

@[simp] theorem State.monitorOf_grate (o was now) : (s.monitorOf o was now).grate = s.grate := by
  unfold State.monitorOf
  split <;> simp

@[simp] theorem State.enter_grate (o x) : (s.enter o x).grate = s.grate := by simp [State.enter]
@[simp] theorem State.storeUse_grate : s.storeUse.grate = s.grate := by simp [State.storeUse]
@[simp] theorem State.onJournal_grate (f) : (s.onJournal f).grate = s.grate := by simp [State.onJournal]
@[simp] theorem State.notice_grate (kind sid pilot cause seq idType ident p) :
    (s.notice kind sid pilot cause seq idType ident p).grate = s.grate := by simp [State.notice]
@[simp] theorem State.endSession_grate (o) : (s.endSession o).grate = s.grate := by simp [State.endSession, State.billEnd]
@[simp] theorem State.toFault_grate (o cause) : (s.toFault o cause).grate = s.grate := by simp [State.toFault, State.withdraw, State.stopCause]
@[simp] theorem State.hvFell_grate (o cause) : (s.hvFell o cause).grate = s.grate := by simp [State.hvFell]
@[simp] theorem State.drop_grate (o r) : (s.drop o r).grate = s.grate := by simp [State.drop]
@[simp] theorem State.dropAll_grate (os r) : (s.dropAll os r).grate = s.grate := by simp [State.dropAll]

@[simp] theorem State.revertSlots_grate (k cause) : (s.revertSlots k cause).grate = s.grate := by
  have restore : ∀ u : State, u.restoreSettings.grate = u.grate := fun u => by unfold State.restoreSettings; split <;> rfl
  simp [State.revertSlots, restore]

@[simp] theorem State.countStart_grate (k) : (s.countStart k).grate = s.grate := by simp [State.countStart]
@[simp] theorem State.guardRestart_grate (cause) : (s.guardRestart cause).grate = s.grate := by simp [State.guardRestart]

@[simp] theorem State.safeEnd_grate : s.safeEnd.grate = s.grate := by
  unfold State.safeEnd
  (repeat' split) <;> simp

@[simp] theorem State.safeOff_grate (trigger outs thenReset) : (s.safeOff trigger outs thenReset).grate = s.grate := by simp [State.safeOff]

end

/-! ### TRIP lines (R351, R353) -/

section
variable {s : State} {n : LineNo} {outs a : Nat}

/-- A drop lowers the HV_EN of its output. -/
theorem State.drop_hv_self (s : State) (o : Fin 6) (r : Nat) : hvOf (s.drop o r).guard.outs o = false := by
  unfold State.drop
  dsimp only
  split
  case isTrue => simp [State.setHv_hv]
  case isFalse hv =>
    have low : hvOf s.guard.outs o = false := Bool.eq_false_of_not_eq_true hv
    split <;> simp [low]

/-- A drop of several outputs lowers the HV_EN of each. -/
theorem State.dropAll_hv_of_mem {os : List (Fin 6)} {o : Fin 6} (ho : o ∈ os) (s : State) (r : Nat) :
    hvOf (s.dropAll os r).guard.outs o = false := by
  induction os generalizing s with
  | nil => cases ho
  | cons x xs ih =>
    rcases List.mem_cons.mp ho with rfl | hx
    · exact Bool.eq_false_of_le_false (State.dropAll_hv_le _ xs r (le_of_eq (s.drop_hv_self o r)))
    · exact ih hx _

/-- A line as it asserts: it is shown, now and until the next read. -/
def State.lineShown (s : State) (n : LineNo) : State :=
  (s.onGrate (fun g => { g with lines := g.lines.set n true })).latch R.GRT_TRIP [] (2 ^ (F.GRT_TRIP_SEEN.lo + n.1))

/-- The outputs that a line record names. -/
def namedOutputs (outs : Nat) : List (Fin 6) := (idx 6).filter (fun o => bitOf outs o.1)

/-- What the assertion of a line that a record binds does: a drop, and with action 1 a safe-off. -/
def State.lineTrips (s : State) (outs a : Nat) : State :=
  if a = 1 then ((s.bump 21 1).dropAll (namedOutputs outs) 2).safeOff 9 outs none else (s.bump 21 1).dropAll (namedOutputs outs) 1

theorem exec_tripLineAssert_bound (hd : s.lineDriven n = true) (hl : s.grate.lines[n] = false) (hr : s.lineRec n = some (outs, a)) :
    exec (.tripLineAssert n) s = .next ((s.lineShown n).lineTrips outs a) := by
  refine congrArg Host.Outcome.next ?_
  unfold tripAssert
  rw [if_pos ⟨hd, hl⟩, hr]
  rfl

theorem exec_tripLineAssert_unbound (hd : s.lineDriven n = true) (hl : s.grate.lines[n] = false) (hr : s.lineRec n = none) :
    exec (.tripLineAssert n) s = .next (s.lineShown n) := by
  refine congrArg Host.Outcome.next ?_
  unfold tripAssert
  rw [if_pos ⟨hd, hl⟩, hr]
  rfl

theorem exec_tripLineClear_of_undriven (hd : s.lineDriven n = false) (hl : s.grate.lines[n] = true) :
    exec (.tripLineClear n) s =
      .next (s.onGrate (fun g => { g with lines := g.lines.set n false, lineOffTb := g.lineOffTb.set n s.clock.tb })) :=
  congrArg Host.Outcome.next (if_pos ⟨hd, hl⟩)

/-- What a line's trip does leaves the Grate as it was. -/
theorem State.lineTrips_grate (s : State) (outs a : Nat) : (s.lineTrips outs a).grate = s.grate := by
  simp [State.lineTrips]

/-- A line's trip raises no HV_EN. -/
theorem State.lineTrips_hv_le (s : State) (outs a : Nat) (o : Fin 6) : hvOf (s.lineTrips outs a).guard.outs o ≤ hvOf s.guard.outs o := by
  simp [State.lineTrips]

/-- A line's trip lowers the HV_EN of every output that its record names. -/
theorem State.lineTrips_hv_named {o : Fin 6} (ho : bitOf outs o.1 = true) (s : State) (a : Nat) : hvOf (s.lineTrips outs a).guard.outs o = false := by
  have named : o ∈ namedOutputs outs := List.mem_filter.mpr ⟨List.mem_finRange o, ho⟩
  unfold State.lineTrips
  split
  · exact Bool.eq_false_of_le_false (State.safeOff_hv_le _ _ _ _ (le_of_eq (State.dropAll_hv_of_mem named _ 2)))
  · exact State.dropAll_hv_of_mem named _ 1

end

/-- Settles O22: a frame is `frameStep_framed`, without a plan values are taken up and `measureFrame_of_no_plan` ends what ran; a bound line's trip is
a drop of the outputs that its record names, which raises nothing and leaves the Grate. -/
theorem framesAndTripLines : Obligations.FramesAndTripLines := by
  unfold Obligations.FramesAndTripLines
  refine ⟨?frame, ?noPlan, ?full, ?bound, ?unbound, ?clear⟩
  case frame =>
    intro x s p hp hf
    have t := frameStep_framed p x s
    refine ⟨_, exec_grateFrame_of_plan hp hf x, t.frames, t.tickFrame, t.plan.trans hp, t.count, fun o => ?_, t.laneTb, t.laneRun, t.jobs, t.rest⟩
    rw [State.raised_eq, State.raised_eq, frameStep_hv]
  case noPlan =>
    intro x s hp
    obtain ⟨us, hu⟩ := s.takeUp_frame .f (fun a => !inBlock 7 a)
    refine ⟨_, exec_grateFrame_of_no_plan hp x, ?_, measureFrame_of_no_plan (by rw [hu]; exact hp), fun idle => ?_⟩
    · obtain ⟨js, sn, hm⟩ := measureFrame_frame (s.takeUp .f (fun a => !inBlock 7 a))
      rw [hm, hu]
    · rw [measureFrame_of_idle (by rw [hu]; exact idle), hu]
  case full => exact fun x s p hp hf => exec_grateFrame_of_full hp hf x
  case bound =>
    intro n s outs a hd hl hr
    refine ⟨_, exec_tripLineAssert_bound hd hl hr, ?_, fun k hk => ?_, fun o ho => State.lineTrips_hv_named ho _ a, fun o ht => ?_⟩
    · rw [State.lineTrips_grate]
      exact Vector.getElem_set_self n.2
    · rw [State.lineTrips_grate]
      exact upd_other _ _ _ (fun _ => true) hk.symm
    · exact Bool.eq_true_of_true_le (ht ▸ (s.lineShown n).lineTrips_hv_le outs a o)
  case unbound =>
    intro n s hd hl hr
    exact ⟨_, exec_tripLineAssert_unbound hd hl hr, Vector.getElem_set_self n.2, rfl⟩
  case clear =>
    intro n s hd hl
    exact ⟨_, exec_tripLineClear_of_undriven hd hl, Vector.getElem_set_self n.2, Vector.getElem_set_self n.2,
      fun k hk => upd_other _ _ _ (fun _ => false) hk.symm, rfl⟩

end Sys2Proof.Machine
end

section
/-!
Shared rules: a field that is put into a word reads back, an occurrence of the tamper ledger (R264 to R267), and a write of the sealed record (R256).
-/

namespace Sys2Proof.Machine

/-! ### Fields of a word -/

/-- A field reads back what it was set to. -/
theorem Field.get_set (f : Field) (v : Nat) {x : Nat} (hx : x < 2 ^ f.width) : f.get (f.set v x) = x := by
  have rest : v - f.get v * 2 ^ f.lo = v % 2 ^ f.lo + 2 ^ f.lo * (2 ^ f.width * (v / 2 ^ f.lo / 2 ^ f.width)) := by
    refine Nat.sub_eq_of_eq_add ?_
    calc v = v % 2 ^ f.lo + 2 ^ f.lo * (f.get v + 2 ^ f.width * (v / 2 ^ f.lo / 2 ^ f.width)) := by rw [Field.get, Nat.mod_add_div, Nat.mod_add_div]
      _ = _ := by ring
  have parts : f.set v x = v % 2 ^ f.lo + 2 ^ f.lo * (x + 2 ^ f.width * (v / 2 ^ f.lo / 2 ^ f.width)) := by
    rw [Field.set, rest, Nat.mod_eq_of_lt hx]
    ring
  rw [Field.get, parts, Nat.add_mul_div_left _ _ (by positivity), Nat.div_eq_of_lt (Nat.mod_lt _ (by positivity)), Nat.zero_add,
    Nat.add_mul_mod_self_left, Nat.mod_eq_of_lt hx]

/-- A field that lies within a word of 64 bits reads back what was put into it. -/
theorem Field.get_put {f : Field} (inside : f.lo + f.width ≤ 64) (v : W64) {x : Nat} (hx : x < 2 ^ f.width) : f.get (f.put v x).toNat = x := by
  have word : 2 ^ 64 = 2 ^ f.lo * (2 ^ f.width * 2 ^ (64 - f.lo - f.width)) := by
    rw [← pow_add, ← pow_add]
    congr 1
    omega
  have cut : f.get (f.put v x).toNat = f.get (f.set v.toNat x) := by
    simp only [Field.get, Field.put, w64, BitVec.toNat_ofNat, word, Nat.mod_mul_right_div_self, Nat.mod_mul_right_mod]
  rw [cut, f.get_set _ hx]

/-! ### The tamper ledger (R264 to R267) -/

/-- An occurrence that the digital die raises is counted in the ledger and logged: of the seal it changes no record. -/
theorem State.tamper_frame (s : State) (k : Fin 11) (arg : Nat) :
    ∃ m cn lg, s.tamper k arg true = { s with mseal := m, cnt := cn, log := lg } ∧
      m.ledger = upd s.mseal.ledger k (fun e => e.occur s.clock.tb s.wall0 arg true) ∧ m.record = s.mseal.record := by
  unfold State.tamper State.tamperWall
  dsimp only
  rw [if_pos rfl]
  obtain ⟨cn, lg, hl, -⟩ := State.logEv_frame ((s.onMseal (fun m =>
    { m with ledger := upd m.ledger k (fun e => e.occur s.clock.tb s.wall0 arg true), changed := m.changed || k == T_CONFIG })).span 0x3F 13)
    .tamper k.1 7 0 arg 0
  exact ⟨_, cn, lg, hl, rfl, rfl⟩

/-- In a ledger with one more occurrence of code `k` the delta of `k` has counted it, with its argument. -/
theorem occur_counts {l m : Vector LedgerEntry 11} {k : Fin 11} {tb wall arg : Nat} {digital : Bool}
    (h : m = upd l k (fun e => e.occur tb wall arg digital)) :
    (m[k]).dCount = min (2 ^ 32 - 1) ((l[k]).dCount + 1) ∧ (m[k]).dLastArg = arg := by
  rw [h, upd_same]
  exact ⟨rfl, rfl⟩

/-! ### The sealed record (R256) -/

/-- A write of the sealed record changes the record and its older copy, and uses the storage key. -/
theorem State.sealWrite_frame (s : State) (f : SealedRecord → SealedRecord) :
    ∃ ks cn lg, s.sealWrite f = { s with
      keys := ks, cnt := cn, log := lg,
      mseal := { s.mseal with older := some s.mseal.record,
                              record := { f s.mseal.record with seq := s.mseal.record.seq + 1, root := s.life.rootFused } } } := by
  obtain ⟨ks, cn, lg, hu⟩ := s.storeUse_frame
  rw [State.sealWrite, hu]
  exact ⟨ks, cn, lg, rfl⟩

end Sys2Proof.Machine
end

section
/-! O24: the swap of plans (R151 to R157). -/

namespace Sys2Proof.Machine

/-! ### GRT_SWAP (R151, R152, R157) -/

theorem grtSwap_decoded : R.GRT_SWAP.Decoded [] where
  aligned := by decide
  inside := by decide
  plain := by decide
  here := by rfl

section
variable {s : State} {i : Fin 64} {h : Session} {v : W64}

/-- The frame with which a session writes GRT_SWAP. -/
def State.swapFrame (s : State) (i : Fin 64) (h : Session) (v : W64) : Frame := s.frameOf i h 2 (R.GRT_SWAP.addr []) 1 [v]

/-- The state in which the write of GRT_SWAP reaches its writer. -/
def State.swapRuns (s : State) (i : Fin 64) (h : Session) (v : W64) : State := s.nextRuns (s.swapFrame i h v) i h

/-- A granted write of GRT_SWAP is answered as its writer has it. -/
theorem State.Granted.grtSwap (g : s.Granted i h R.GRT_SWAP [] v) :
    s.askReg i R.GRT_SWAP [] v = (wrote ((s.swapRuns i h v).writeSwap h.polder v.toNat)).answer s (s.swapFrame i h v) i h :=
  g.askReg grtSwap_decoded

/-- The path of a request of GRT_SWAP. -/
theorem State.Granted.swapRuns (g : s.Granted i h R.GRT_SWAP [] v) :
    s.Runs (s.swapRuns i h v) (s.swapFrame i h v) i h ((h.ext + 1) % 65536) (h.ext + 1) :=
  g.ready.runs ..

/-- A write that arms goes to the arming where it does not abandon as well. -/
theorem State.writeSwap_arm (u : State) (polder : Nat) (only : F.GRT_SWAP_ABANDON.get (F.GRT_SWAP_ARM.put v 1).toNat = 0) :
    u.writeSwap polder (F.GRT_SWAP_ARM.put v 1).toNat = u.armSwap polder (F.GRT_SWAP_ARM.put v 1).toNat := by
  have arm : F.GRT_SWAP_ARM.get (F.GRT_SWAP_ARM.put v 1).toNat = 1 := Field.get_put (by decide) v (by decide)
  unfold State.writeSwap
  rw [if_neg (by rw [only]; decide), if_pos arm]

/-- A write that abandons takes an armed swap back. -/
theorem State.writeSwap_abandon (u : State) (polder : Nat) (v : W64) :
    u.writeSwap polder (F.GRT_SWAP_ABANDON.put v 1).toNat = (OK, u.onGrate (fun g => if u.armed then { g with shadowState := 1 } else g)) := by
  refine (if_pos (Field.get_put (by decide) v (by decide))).trans (congrArg (OK, ·) ?_)
  unfold State.abandonSwap
  split <;> rfl

/-- The Grate with an armed swap that waits from `tb` on for the time that the word `v` names. -/
def Grate.armedAt (g : Grate) (tb v : Nat) : Grate :=
  { g with shadowState := 2,
           waitUntil := tb + (if F.GRT_SWAP_WAIT.get v = 0 then 60 else min 3600 (F.GRT_SWAP_WAIT.get v)) * tbSecond }

/-- A verified shadow plan is armed by a polder that may. -/
theorem State.armSwap_verified {polder : Nat} {v : Nat} (verified : s.grate.shadowState = 1)
    (may : s.grate.sealedDiff = true → polder = 1 ∧ s.mseal.record.open_ = true) :
    s.armSwap polder v = (OK, s.onGrate (fun g => g.armedAt s.clock.tb v)) := by
  have idle : ¬s.armed = true := by simp [State.armed, verified]
  have allowed : ¬(s.grate.sealedDiff = true ∧ !(decide (polder = 1) && s.mseal.record.open_)) := by
    rintro ⟨diff, no⟩
    obtain ⟨p1, open_⟩ := may diff
    simp [p1, open_] at no
  unfold State.armSwap
  rw [if_neg idle, if_neg (not_not.mpr verified)]
  refine (if_neg ?_).trans rfl
  simpa using allowed

/-- Where the shadow plan is not verified, or its swap is armed already, an arming write changes nothing. -/
theorem State.armSwap_not_verified {polder : Nat} {v : Nat} (other : s.grate.shadowState ≠ 1) : s.armSwap polder v = (OK, s) := by
  unfold State.armSwap
  rw [if_pos other, ite_self]

/-- A granted write of GRT_SWAP whose writer changes the Grate alone: the parts of the statement. -/
theorem State.Granted.swapAnswered (g : s.Granted i h R.GRT_SWAP [] v) {f : Grate → Grate}
    (w : (s.swapRuns i h v).writeSwap h.polder v.toNat = (OK, (s.swapRuns i h v).onGrate f)) :
    ∃ t, s.askReg i R.GRT_SWAP [] v = t ∧ s.Replies t i h OK 1 [] ∧ s.HostKept t i h ∧ t.grate = f s.grate ∧
      t = { s with grate := t.grate, host := t.host, keys := t.keys, cnt := t.cnt, log := t.log, pwr := { s.pwr with idleTb := s.clock.tb } } := by
  have run := g.swapRuns
  obtain ⟨hs, ks, cn, lg, hu⟩ := run.path.frame
  refine ⟨_, g.grtSwap, ?_⟩
  rw [w, wrote_ok]
  refine ⟨run.served _ rfl, run.hostKept _ rfl fun _ => rfl, ?_, ?_⟩
  · rw [Act.answer_rest, hu]
    rfl
  · rw [Act.answer_rest, hu]
    rfl

/-- A granted write of GRT_SWAP whose writer changes nothing. -/
theorem State.Granted.swapIdle (g : s.Granted i h R.GRT_SWAP [] v) (w : (s.swapRuns i h v).writeSwap h.polder v.toNat = (OK, s.swapRuns i h v)) :
    ∃ t, s.askReg i R.GRT_SWAP [] v = t ∧ s.Replies t i h OK 1 [] ∧ s.PathOnly t i h := by
  refine ⟨_, g.grtSwap, ?_⟩
  rw [w, wrote_ok]
  exact g.swapRuns.noChange _ rfl

end

/-! ### The swap (R152 to R156) -/

section
variable {s : State} {b : Plan}

/-- Sensing that starts with a plan changes the words in use and the sensing alone. -/
theorem State.startSensing_frame (s : State) (locked : Bool) : ∃ us sn, s.startSensing locked = { s with use := us, sens := sn } := by
  obtain ⟨us, hu⟩ := s.takeUp_frame .s (inBlock 5)
  unfold State.startSensing
  rw [hu]
  exact ⟨us, _, rfl⟩

/-- Runs that end at a swap are logged and change nothing else. -/
theorem State.endRuns_frame (s : State) (a b : Plan) : ∃ cn lg, s.endRuns a b = { s with cnt := cn, log := lg } := by
  refine List.foldlRecOn (motive := fun t : State => ∃ cn lg, t = { s with cnt := cn, log := lg }) _ _ ⟨_, _, rfl⟩ ?_
  rintro _ ⟨cn, lg, rfl⟩ r -
  split
  · exact ⟨cn, lg, rfl⟩
  · unfold State.endRun
    split
    · obtain ⟨cn', lg', hl, -⟩ := State.logEv_frame { s with cnt := cn, log := lg } .invalidRun r.index 7 0 _ _
      exact ⟨cn', lg', hl⟩
    · exact ⟨cn, lg, rfl⟩

/-- Fractions that a swap discards are logged and change nothing else. -/
theorem foldl_logEv_frame {β : Type} (ev : Ev) (x1 x2 x3 x4 x5 : β → Nat) (l : List β) (s : State) :
    ∃ cn lg, l.foldl (fun (s : State) q => s.logEv ev (x1 q) (x2 q) (x3 q) (x4 q) (x5 q)) s = { s with cnt := cn, log := lg } := by
  induction l generalizing s with
  | nil => exact ⟨_, _, rfl⟩
  | cons q l ih =>
    obtain ⟨cn, lg, hl, -⟩ := s.logEv_frame ev (x1 q) (x2 q) (x3 q) (x4 q) (x5 q)
    obtain ⟨cn', lg', hi⟩ := ih { s with cnt := cn, log := lg }
    exact ⟨cn', lg', by rw [List.foldl_cons, hl, hi]⟩

/-- The replacing of the running plan, or the start of the first: the new plan runs, and the shadow file and the seal are as they were. -/
theorem State.replacePlan_plan (s : State) (b : Plan) :
    (s.replacePlan b).grate.plan = some b ∧ (s.replacePlan b).grate.shadowFile = s.grate.shadowFile ∧ (s.replacePlan b).mseal = s.mseal := by
  unfold State.replacePlan
  split
  case h_1 =>
    unfold State.startPlan
    obtain ⟨us, sn, hs⟩ := State.startSensing_frame ((s.onGrate (fun g => { g.startCells with plan := some b })).watchPilots) s.pwr.pll
    dsimp only
    rw [hs]
    exact ⟨rfl, rfl, rfl⟩
  case h_2 a _ =>
    obtain ⟨cn, lg, he⟩ := s.endRuns_frame a b
    obtain ⟨cn', lg', hf⟩ := foldl_logEv_frame .swapFraction (fun q : EnRec × Int => q.1.output) (fun _ => 7) (fun _ => 0) (fun q => q.1.reg)
      (fun q => q.2.natAbs) (lostFractions a b s.grate.integ) { s with cnt := cn, log := lg }
    rw [he]
    dsimp only
    rw [hf]
    split
    · exact ⟨rfl, rfl, rfl⟩
    · obtain ⟨us, sn, hs⟩ := State.startSensing_frame _ s.pwr.pll
      rw [hs]
      exact ⟨rfl, rfl, rfl⟩

/-- What a swap with another sealed part does first: an occurrence of T_CONFIG, and the plan is recorded as the selected one (R155). -/
def State.planSelected (s : State) (b : Plan) : State :=
  ((s.tamper T_CONFIG 1 true).sealWrite (fun r => { r with selector := b.planId, mdigest := some b.mdigest })).span 0x3F 11

/-- Before a swap: the plan is selected, and the guard's test is demanded where the swap asks for it (R155, R156). -/
def State.swapPrepared (s : State) (b : Plan) : State :=
  let u := if s.grate.sealedDiff then s.planSelected b else s
  if s.grate.liveOk = false ∧ (s.grate.tripDiff ∨ s.grate.sealedDiff) then u.demandTest 3 else u

/-- The seal once a plan is selected. -/
theorem State.planSelected_mseal (s : State) (b : Plan) :
    (s.planSelected b).mseal.record.selector = b.planId ∧ (s.planSelected b).mseal.record.mdigest = some b.mdigest ∧
      (s.planSelected b).mseal.ledger = upd s.mseal.ledger T_CONFIG (fun e => e.occur s.clock.tb s.wall0 1 true) := by
  obtain ⟨m, cn, lg, ht, hledger, -⟩ := s.tamper_frame T_CONFIG 1
  obtain ⟨ks, cn', lg', hw⟩ := State.sealWrite_frame { s with mseal := m, cnt := cn, log := lg }
    (fun r => { r with selector := b.planId, mdigest := some b.mdigest })
  rw [State.planSelected, ht, hw]
  exact ⟨rfl, rfl, hledger⟩

/-- What comes before a swap leaves the Grate as it was. -/
theorem State.swapPrepared_grate (s : State) (b : Plan) : (s.swapPrepared b).grate = s.grate := by
  simp [State.swapPrepared, State.planSelected, State.sealWrite, State.demandTest]

/-- Before a swap with another sealed part its plan is selected. -/
theorem State.swapPrepared_mseal (diff : s.grate.sealedDiff = true) (b : Plan) : (s.swapPrepared b).mseal = (s.planSelected b).mseal := by
  unfold State.swapPrepared
  rw [if_pos diff]
  dsimp only
  split <;> rfl

/-- The Grate after a swap: the shadow plane is empty, and its file is the stored one. -/
def Grate.swapped (g : Grate) : Grate :=
  { g with stored := g.shadowFile, shadow := none, shadowFile := [], shadowState := 0, sealedDiff := false, tripDiff := false, liveOk := false }

theorem exec_planSwap_of_boundary (hb : s.grate.shadow = some b) (armed : s.armed = true) (boundary : s.swapBoundary = true)
    (open_ : s.grate.sealedDiff = true → s.mseal.record.open_ = true) :
    exec .planSwap s = .next (((s.swapPrepared b).replacePlan b).onGrate Grate.swapped) := by
  refine congrArg Host.Outcome.next ?_
  unfold planSwap
  rw [hb]
  dsimp only
  rw [if_neg (by simp [armed, boundary]), if_neg]
  · rfl
  · rintro ⟨diff, closed⟩
    rw [open_ diff] at closed
    cases closed

theorem exec_planSwap_of_closed (hb : s.grate.shadow = some b) (armed : s.armed = true) (boundary : s.swapBoundary = true)
    (diff : s.grate.sealedDiff = true) (closed : s.mseal.record.open_ = false) :
    exec .planSwap s = .next (s.onGrate (fun g => { g with shadowState := 4, refuse := 12 })) := by
  refine congrArg Host.Outcome.next ?_
  unfold planSwap
  rw [hb]
  dsimp only
  rw [if_neg (by simp [armed, boundary]), if_pos ⟨diff, closed⟩]

theorem exec_planSwapWaitExpire_of_due (armed : s.armed = true) (wait : s.grate.liveOk = false) (due : s.grate.waitUntil ≤ s.clock.tb) :
    exec .planSwapWaitExpire s = .next (s.onGrate (fun g => { g with shadowState := 4, refuse := 11 })) :=
  congrArg Host.Outcome.next (if_pos ⟨armed, wait, due⟩)

end

/-- Settles O24: a granted write of GRT_SWAP goes to `writeSwap`, which arms or abandons; at a boundary that qualifies the swap is `replacePlan` after
`swapPrepared`, which records the plan first where its sealed part differs. -/
theorem swapArmsAndReplaces : Obligations.SwapArmsAndReplaces := by
  unfold Obligations.SwapArmsAndReplaces
  refine ⟨?arm, ?armAgain, ?abandon, ?swap, ?closed, ?expire⟩
  case arm =>
    intro sid v s h g only verified may
    have run := g.swapRuns.path.rest
    have w : (s.swapRuns sid h (F.GRT_SWAP_ARM.put v 1)).writeSwap h.polder (F.GRT_SWAP_ARM.put v 1).toNat =
        (OK, (s.swapRuns sid h (F.GRT_SWAP_ARM.put v 1)).onGrate (fun g => g.armedAt s.clock.tb (F.GRT_SWAP_ARM.put v 1).toNat)) := by
      rw [State.writeSwap_arm _ _ only, State.armSwap_verified (by rw [run]; exact verified) (by rw [run]; exact may), run]
    obtain ⟨t, ht, parts⟩ := g.swapAnswered w
    exact ⟨t, congrArg Host.Outcome.next ht, parts⟩
  case armAgain =>
    intro sid v s h g only other
    have run := g.swapRuns.path.rest
    obtain ⟨t, ht, parts⟩ := g.swapIdle (by rw [State.writeSwap_arm _ _ only, State.armSwap_not_verified (by rw [run]; exact other)])
    exact ⟨t, congrArg Host.Outcome.next ht, parts⟩
  case abandon =>
    intro sid v s h g
    have run := g.swapRuns.path.rest
    have armed : (s.swapRuns sid h (F.GRT_SWAP_ABANDON.put v 1)).armed = s.armed := by rw [run]; rfl
    obtain ⟨t, ht, parts⟩ := g.swapAnswered (State.writeSwap_abandon _ _ v)
    rw [armed] at parts
    exact ⟨t, congrArg Host.Outcome.next ht, parts⟩
  case swap =>
    intro s b hb armed open_ boundary
    obtain ⟨plan, file, mseal⟩ := (s.swapPrepared b).replacePlan_plan b
    refine ⟨_, exec_planSwap_of_boundary hb armed boundary open_, plan, rfl, rfl, ?_, fun diff => ?_⟩
    · rw [← s.swapPrepared_grate b, ← file]
      rfl
    · obtain ⟨selector, mdigest, ledger⟩ := s.planSelected_mseal b
      rw [State.onGrate_mseal, mseal, State.swapPrepared_mseal diff]
      exact ⟨selector, mdigest, occur_counts ledger⟩
  case closed => exact fun s b hb armed diff closed boundary => exec_planSwap_of_closed hb armed boundary diff closed
  case expire => exact fun s armed wait due => exec_planSwapWaitExpire_of_due armed wait due

end Sys2Proof.Machine
end

section
/-! O23: input conditioners, vote groups, sensors, magnetic episodes and offset tracking (R136, R138, R160 to R184). -/

namespace Sys2Proof.Machine

/-! ### Input conditioners (R136, R160) -/

/-- A conditioner whose VALID is taken away at once. -/
def IcState.cut (c : IcState) : IcState := if c.valid then c.lose else c

@[simp] theorem IcState.cut_valid (c : IcState) : c.cut.valid = false := by
  unfold IcState.cut
  split
  case isTrue => rfl
  case isFalse low => exact Bool.eq_false_of_not_eq_true low

@[simp] theorem IcState.cut_noTrans (c : IcState) : c.cut.noTrans = c.noTrans := by unfold IcState.cut; split <;> rfl

@[simp] theorem IcState.cut_highSide (c : IcState) : c.cut.highSide = c.highSide := by unfold IcState.cut; split <;> rfl

/-- The change of an entry of a table depends on what it makes of that entry alone. -/
theorem upd_congr {α : Type} {n : Nat} {v : Vector α n} {i : Fin n} {f g : α → α} (h : f v[i] = g v[i]) : upd v i f = upd v i g :=
  congrArg (fun x => v.set i.1 x i.2) h

/-- A table stays where the change of an entry leaves it as it was. -/
theorem upd_eq_self {α : Type} {n : Nat} {v : Vector α n} {i : Fin n} {f : α → α} (h : f v[i] = v[i]) : upd v i f = v :=
  (upd_congr (g := id) h).trans (Vector.set_getElem_self i.2)

/-- A loss of VALID is kept for the next read and may be logged. -/
theorem State.icLoss_frame (s : State) (p : Plan) (n : Fin 48) : ∃ st cn lg, s.icLoss p n = { s with sticky := st, cnt := cn, log := lg } := by
  unfold State.icLoss
  dsimp only
  split
  · obtain ⟨cn, lg, hl, -⟩ := (s.latch R.GRT_IC_VALID [] (2 ^ n.1)).logEv_frame .sensorLost n.1 7 0 n.1 0
    exact ⟨_, cn, lg, hl⟩
  · exact ⟨_, _, _, rfl⟩

section
variable {s : State} {p : Plan} {n : IcNo}

/-- A conditioner of the running plan loses VALID. -/
theorem State.loseIc_frame (hp : s.grate.plan = some p) (hn : p.ics.any (fun x => x.index == n.1) = true) :
    ∃ st cn lg, s.loseIc n = { s with grate := { s.grate with ic := upd s.grate.ic n IcState.cut }, sticky := st, cnt := cn, log := lg } := by
  unfold State.loseIc
  rw [hp]
  dsimp only
  by_cases valid : (s.grate.ic[n]).valid = true
  · obtain ⟨st, cn, lg, hl⟩ := (s.onGrate (fun g => { g with ic := upd g.ic n IcState.lose })).icLoss_frame p n
    have cut : upd s.grate.ic n IcState.cut = upd s.grate.ic n IcState.lose := upd_congr (if_pos valid)
    rw [if_pos ⟨hn, valid⟩, hl, cut]
    exact ⟨st, cn, lg, rfl⟩
  · have cut : upd s.grate.ic n IcState.cut = s.grate.ic := upd_eq_self (if_neg valid)
    rw [if_neg fun both => valid both.2, cut]
    exact ⟨_, _, _, rfl⟩

/-- The conditioner that has shown 64 bit periods without a transition. -/
def IcState.still (r : IcRec) (c : IcState) : IcState := { c with noTrans := true, highSide := lossLevel r.format c.level }

/-- The conditioner shows its steady line, now and until the next read. -/
def State.stillShown (s : State) (n : IcNo) (r : IcRec) : State :=
  (s.onGrate (fun g => { g with ic := g.ic.set n ((s.grate.ic[n]).still r) })).keepSteady n [(s.grate.ic[n]).still r]

/-- What IC_VALID_LOST makes of a conditioner of the running plan: with `steady` it shows the steady line, and it loses VALID. -/
theorem exec_icValidLost_of_lost {r : IcRec} {b : Bool} (hp : s.grate.plan = some p) (hr : p.ics.find? (fun x => x.index == n.1) = some r)
    (steady : b = true → (s.grate.ic[n]).steady = 64) (stopped : b = false → (s.sens.mclkOn[r.mclk]?).getD false = false) :
    ∃ st cn lg, exec (.icValidLost n b) s = .next { s with
      grate := { s.grate with ic := upd s.grate.ic n (fun c => (if b then c.still r else c).cut) }, sticky := st, cnt := cn, log := lg } := by
  have hn : p.ics.any (fun x => x.index == n.1) = true := by rw [← List.isSome_find?, hr]; rfl
  have hx : exec (.icValidLost n b) s = .next (icLost n b s) := rfl
  rw [hx]
  unfold icLost
  rw [hp]
  simp only [Option.map_some, Option.getD_some, hr]
  cases b with
  | true =>
    obtain ⟨st, cn, lg, hl⟩ := State.loseIc_frame (s := s.stillShown n r) hp hn
    have twice : upd (s.stillShown n r).grate.ic n IcState.cut = upd s.grate.ic n (fun c => (c.still r).cut) := by
      simp [State.stillShown, upd, State.keepSteady]
    refine ⟨st, cn, lg, congrArg Host.Outcome.next ?_⟩
    rw [if_pos rfl, if_pos (steady rfl)]
    refine hl.trans ?_
    rw [twice]
    rfl
  | false =>
    obtain ⟨st, cn, lg, hl⟩ := State.loseIc_frame hp hn
    refine ⟨st, cn, lg, congrArg Host.Outcome.next ?_⟩
    rw [if_neg (by decide), stopped rfl]
    exact hl

theorem exec_icValidRestored_of_good (hp : s.grate.plan = some p) (hn : p.ics.any (fun x => x.index == n.1) = true)
    (lost : (s.grate.ic[n]).valid = false) (good : (s.grate.ic[n]).good = 250) :
    exec (.icValidRestored n) s = .next (s.onGrate (fun g => { g with ic := upd g.ic n IcState.restore })) := by
  refine congrArg Host.Outcome.next ?_
  unfold icBack
  rw [hp]
  exact if_pos ⟨hn, lost, good⟩

/-- A conditioner that is not VALID stays so when an entry of the table loses VALID. -/
theorem upd_cut_valid {v : Vector IcState 48} {k : Fin 48} (low : (v[k]).valid = false) (n : Fin 48) : ((upd v n IcState.cut)[k]).valid = false := by
  by_cases e : n = k
  · subst e; rw [upd_same, IcState.cut_valid]
  · rw [upd_other _ _ _ _ e]; exact low

/-- The conditioner of a record loses VALID where it is on clock `m`. -/
def State.loseOnClock (m : MclkNo) (s : State) (r : IcRec) : State :=
  if h : r.index < 48 ∧ r.mclk = m.1 then s.loseIc ⟨r.index, h.1⟩ else s

/-- Of a list of the plan's conditioners those on clock `m` lose VALID, and none regains it. -/
theorem foldl_loseOnClock_frame (m : MclkNo) (l : List IcRec) (hp : s.grate.plan = some p) (hl : ∀ r ∈ l, r ∈ p.ics) :
    ∃ ic st cn lg, l.foldl (State.loseOnClock m) s = { s with grate := { s.grate with ic := ic }, sticky := st, cnt := cn, log := lg } ∧
      (∀ k : Fin 48, (s.grate.ic[k]).valid = false → (ic[k]).valid = false) ∧
      ∀ r ∈ l, ∀ h : r.index < 48, r.mclk = m.1 → (ic[r.index]).valid = false := by
  induction l generalizing s with
  | nil => exact ⟨_, _, _, _, rfl, fun _ low => low, fun r hr => absurd hr List.not_mem_nil⟩
  | cons x xs ih =>
    rw [List.foldl_cons]
    have tail : ∀ r ∈ xs, r ∈ p.ics := fun r hr => hl r (List.mem_cons_of_mem _ hr)
    by_cases on : x.index < 48 ∧ x.mclk = m.1
    · have used : p.ics.any (fun r => r.index == x.index) = true :=
        List.any_eq_true.mpr ⟨x, hl x List.mem_cons_self, beq_self_eq_true _⟩
      obtain ⟨st, cn, lg, hx⟩ := State.loseIc_frame (n := ⟨x.index, on.1⟩) hp used
      have first : s.loseOnClock m x = s.loseIc ⟨x.index, on.1⟩ := dif_pos on
      rw [first, hx]
      obtain ⟨ic, st', cn', lg', hf, keep, lost⟩ := ih (s := { s with
        grate := { s.grate with ic := upd s.grate.ic ⟨x.index, on.1⟩ IcState.cut }, sticky := st, cnt := cn, log := lg }) hp tail
      refine ⟨ic, st', cn', lg', hf, fun k low => keep k (upd_cut_valid low _), fun r hr h onM => ?_⟩
      rcases List.mem_cons.mp hr with rfl | hr
      · refine keep ⟨r.index, h⟩ ?_
        exact (congrArg IcState.valid (upd_same s.grate.ic ⟨r.index, h⟩ IcState.cut)).trans (IcState.cut_valid _)
      · exact lost r hr h onM
    · have first : s.loseOnClock m x = s := dif_neg on
      rw [first]
      obtain ⟨ic, st, cn, lg, hf, keep, lost⟩ := ih hp tail
      refine ⟨ic, st, cn, lg, hf, keep, fun r hr h onM => ?_⟩
      rcases List.mem_cons.mp hr with rfl | hr
      · exact absurd ⟨h, onM⟩ on
      · exact lost r hr h onM

/-- A pad fault, as it is shown now and until the next read. -/
def State.padFaulted (s : State) (m : MclkNo) : State :=
  (s.onSens (fun x => { x with padFault := upd x.padFault m (fun _ => true) })).latch R.MET_MCLK_STAT [] (2 ^ (4 + m.1))

/-- A pad fault is shown, and of the running plan's conditioners those on its clock lose VALID. -/
theorem mclkPadFault_frame (m : MclkNo) (s : State) (on : (s.sens.mclkOn)[m] = true) :
    ∃ ic st cn lg, mclkPadFault m s = { s with
        grate := { s.grate with ic := ic }, sens := { s.sens with padFault := upd s.sens.padFault m (fun _ => true) },
        sticky := st, cnt := cn, log := lg } ∧
      ∀ (p : Plan) (r : IcRec) (h : r.index < 48), s.grate.plan = some p → r ∈ p.ics → r.mclk = m.1 → (ic[r.index]).valid = false := by
  unfold mclkPadFault
  rw [if_pos on]
  dsimp only
  split
  case h_1 hp =>
    refine ⟨_, _, _, _, rfl, fun p r h hp' => ?_⟩
    rw [show s.grate.plan = none from hp] at hp'
    cases hp'
  case h_2 p hp =>
    obtain ⟨ic, st, cn, lg, hf, -, lost⟩ := foldl_loseOnClock_frame (s := s.padFaulted m) m p.ics hp fun r hr => hr
    refine ⟨ic, st, cn, lg, hf, fun p' r h hp' hr onM => lost r ?_ h onM⟩
    rw [show s.grate.plan = some p from hp] at hp'
    obtain rfl := Option.some.inj hp'
    exact hr

end

/-! ### Vote groups (R138) -/

section
variable {s : State} {p : Plan} {g : GroupNo}

theorem exec_votePersistentDisagree_of_bad (hp : s.grate.plan = some p)
    (two : p.votes.any (fun r => r.group == g.1 && r.members.length == 2) = true) (bad : 480 ≤ (s.grate.vote[g]).runBad)
    (fresh : (s.grate.vote[g]).persistent = false) :
    ∃ cn lg, exec (.votePersistentDisagree g) s = .next { s with
      grate := { s.grate with vote := upd s.grate.vote g (fun v => { v with persistent := true }) }, cnt := cn, log := lg } := by
  obtain ⟨cn, lg, hl, -⟩ := (s.onGrate (fun x => { x with vote := upd x.vote g (fun v => { v with persistent := true }) })).logEv_frame
    .voteDisagree g.1 7 0 g.1 0
  refine ⟨cn, lg, congrArg Host.Outcome.next ?_⟩
  unfold voteBad
  rw [hp]
  exact (if_pos ⟨two, bad, fresh⟩).trans hl

theorem exec_voteDisagreeClear_of_good (marked : (s.grate.vote[g]).persistent = true) (good : 480 ≤ (s.grate.vote[g]).runGood) :
    exec (.voteDisagreeClear g) s = .next (s.onGrate (fun x => { x with vote := upd x.vote g (fun v => { v with persistent := false }) })) :=
  congrArg Host.Outcome.next (if_pos ⟨marked, good⟩)

end

/-! ### Lost channels (R172) -/

section
variable {s : State} {p : Plan} {ch : ChannelNo}

/-- The counting of a loss changes the conditioner or the port. -/
theorem countLoss_frame (s : State) (ch : ChannelNo) : ∃ g sn, countLoss s ch = { s with grate := g, sens := sn } := by
  unfold countLoss
  split <;> exact ⟨_, _, rfl⟩

/-- A loss that has counted says so. -/
theorem lossOf_countLoss (s : State) (ch : ChannelNo) : (lossOf (countLoss s ch) ch).2 = true := by
  unfold lossOf countLoss
  by_cases h : ch.1 < 48 <;> simp [h, upd]

/-- A long loss counts once in the ledger. -/
theorem exec_sensorLongLoss_of_due (hp : s.grate.plan = some p) (metro : p.metroChannel ch.1 = true) (long : 48000 ≤ (lossOf s ch).1)
    (fresh : (lossOf s ch).2 = false) (late : 96000 < s.grate.frames - ((lossOf s ch).1 - 48000) - s.grate.restart[ch]) :
    ∃ g sn m cn lg, exec (.sensorLongLoss ch) s = .next { s with grate := g, sens := sn, mseal := m, cnt := cn, log := lg } ∧
      (lossOf { s with grate := g, sens := sn, mseal := m, cnt := cn, log := lg } ch).2 = true ∧
      m.ledger = upd s.mseal.ledger T_SENSOR (fun e => e.occur s.clock.tb s.wall0 ch.1 true) := by
  obtain ⟨g, sn, hc⟩ := countLoss_frame s ch
  have counted := lossOf_countLoss s ch
  rw [hc] at counted
  obtain ⟨m, cn, lg, ht, ledger, -⟩ := State.tamper_frame { s with grate := g, sens := sn } T_SENSOR ch.1
  refine ⟨g, sn, m, cn, lg, congrArg Host.Outcome.next ?_, counted, ledger⟩
  unfold longLoss
  rw [hp]
  refine (if_pos ⟨metro, long, fresh, late⟩).trans ?_
  rw [hc, ht]

end

/-! ### Fluxgate ports (R168) -/

section
variable {s : State} {n : FgNo}

/-- A port that faults: OPEN and SHORT switch its bridge off for 100 ms, SAT leaves it on. -/
def FgPort.fault (kind : FgFault) (tb : Nat) (f : FgPort) : FgPort :=
  match kind with
  | .open_ =>
    { f with valid := false, open_ := true, goodPeriods := 0, on := false, satSince := none, magSince := none, offUntil := some (tb + 2500000) }
  | .short =>
    { f with valid := false, short := true, goodPeriods := 0, on := false, satSince := none, magSince := none, offUntil := some (tb + 2500000) }
  | .sat => { f with valid := false, sat := true, goodPeriods := 0, satSince := some (f.satSince.getD tb) }

theorem FgPort.fault_valid (kind : FgFault) (tb : Nat) (f : FgPort) : (f.fault kind tb).valid = false := by cases kind <;> rfl

/-- A fault other than SAT switches the bridge off. -/
theorem FgPort.fault_off {kind : FgFault} (h : kind ≠ .sat) (tb : Nat) (f : FgPort) :
    (f.fault kind tb).on = false ∧ (f.fault kind tb).offUntil = some (tb + 2500000) := by
  cases kind with
  | open_ => exact ⟨rfl, rfl⟩
  | short => exact ⟨rfl, rfl⟩
  | sat => exact absurd rfl h

/-- A port that faults while its stream is VALID on a metrological channel is logged. -/
def State.fgLossLogged (s : State) (n : FgNo) : State :=
  if (s.sens.fg[n]).valid = true ∧ (s.grate.plan.map (fun p => p.metroChannel (48 + n.1))).getD false = true then
    s.logEv .sensorLost (48 + n.1) 7 0 (48 + n.1) 0
  else s

theorem State.fgLossLogged_frame (s : State) (n : FgNo) : ∃ cn lg, s.fgLossLogged n = { s with cnt := cn, log := lg } := by
  unfold State.fgLossLogged
  split
  · obtain ⟨cn, lg, hl, -⟩ := s.logEv_frame .sensorLost (48 + n.1) 7 0 (48 + n.1) 0
    exact ⟨cn, lg, hl⟩
  · exact ⟨_, _, rfl⟩

/-- The flag of `MET_FG_STATn` that shows a fault. -/
def fgFaultMask : FgFault → Nat
  | .open_ => F.MET_FG_STATn_OPEN.mask
  | .short => F.MET_FG_STATn_SHORT.mask
  | .sat => F.MET_FG_STATn_SAT.mask

theorem fgFault_of_on (kind : FgFault) (on : (s.sens.fg[n]).on = true) :
    fgFault n kind s = ((((s.latch R.GRT_IC_VALID [] (2 ^ (48 + n.1))).fgLossLogged n).onFg n (FgPort.fault kind s.clock.tb)).latch
      R.MET_FG_STATn [n.1] (fgFaultMask kind)) := by
  unfold fgFault
  rw [if_pos on]
  cases kind <;> rfl

/-- A port that is on faults. -/
theorem exec_fgPortFault_of_on (kind : FgFault) (on : (s.sens.fg[n]).on = true) :
    ∃ st cn lg, exec (.fgPortFault n kind) s = .next { s with
      sens := { s.sens with fg := upd s.sens.fg n (FgPort.fault kind s.clock.tb) }, sticky := st, cnt := cn, log := lg } := by
  obtain ⟨cn, lg, hl⟩ := (s.latch R.GRT_IC_VALID [] (2 ^ (48 + n.1))).fgLossLogged_frame n
  have hf := fgFault_of_on kind on
  rw [hl] at hf
  exact ⟨_, cn, lg, congrArg Host.Outcome.next hf⟩

/-- A bridge that tries again. -/
def FgPort.retry (f : FgPort) : FgPort := { f with on := true, offUntil := none, open_ := false, short := false, goodPeriods := 0 }

theorem exec_fgPortRetry_of_due {b : Nat} (off : (s.sens.fg[n]).offUntil = some b) (due : b ≤ s.clock.tb) :
    exec (.fgPortRetry n) s = .next (s.onFg n FgPort.retry) := by
  refine congrArg Host.Outcome.next ?_
  unfold fgRetry
  rw [off]
  exact if_pos due

/-- A stream that is VALID again. -/
def FgPort.back (f : FgPort) : FgPort :=
  { f with valid := true, goodPeriods := 4, open_ := false, short := false, sat := false, satSince := none, lostFrames := 0, sensorCounted := false }

theorem exec_fgStreamValidRestored_of_good (on : (s.sens.fg[n]).on = true) (lost : (s.sens.fg[n]).valid = false)
    (good : (s.sens.fg[n]).goodPeriods = 4) : exec (.fgStreamValidRestored n) s = .next (s.magKeep.onFg n FgPort.back) :=
  congrArg Host.Outcome.next (if_pos ⟨on, lost, good⟩)

end

/-! ### Magnetic episodes (R173, R174) -/

/-- A trigger: an episode runs from now on, and T_MAG counts where none ran. -/
theorem State.magTrigger_frame (s : State) (src : Nat) :
    ∃ m cn lg, s.magTrigger src = { s with
        sens := { s.sens with magEpisode := true, magLastTb := s.clock.tb }, mseal := m, cnt := cn, log := lg } ∧
      (s.sens.magEpisode = false → m.ledger = upd s.mseal.ledger T_MAG (fun e => e.occur s.clock.tb s.wall0 src true)) ∧
      (s.sens.magEpisode = true → m = s.mseal) := by
  obtain ⟨cn, lg, hl, -⟩ := s.logEv_frame .magTrigger src 7 0 src 0
  unfold State.magTrigger
  rw [hl]
  cases episode : s.sens.magEpisode with
  | true => exact ⟨s.mseal, cn, lg, rfl, fun no => absurd no (by decide), fun _ => rfl⟩
  | false =>
    obtain ⟨m, cn', lg', ht, ledger, -⟩ := State.tamper_frame { s with cnt := cn, log := lg } T_MAG src
    refine ⟨m, cn', lg', ?_, fun _ => ledger, fun no => absurd no (by decide)⟩
    dsimp only
    rw [if_neg (by decide), ht]
    rfl

section
variable {s : State} {n : FgNo}

/-- A magnetic condition that stands triggers, each in its own mode of the port. -/
theorem exec_magDetect_of_now {c : Instr}
    (h : (c = .magFieldDetect n ∧ s.useFld R.MET_FG_CFGn F.MET_FG_CFGn_MODE [n.1] = 2) ∨
      (c = .magSatDetect n ∧ s.useFld R.MET_FG_CFGn F.MET_FG_CFGn_MODE [n.1] = 1)) (now : s.magNow n = true) :
    exec c s = .next (s.magTrigger n.1) := by
  rcases h with ⟨rfl, mode⟩ | ⟨rfl, mode⟩
  · exact congrArg Host.Outcome.next (if_pos ⟨mode, now⟩)
  · exact congrArg Host.Outcome.next (if_pos ⟨mode, now⟩)

theorem exec_magEpisodeEnd_of_quiet (episode : s.sens.magEpisode = true) (quiet : ∀ n : FgNo, s.magNow n = false)
    (long : s.sens.magLastTb + 10 * tbSecond ≤ s.clock.tb) :
    exec .magEpisodeEnd s = .next (s.onSens (fun x => { x with magEpisode := false })) := by
  have none_ : (idx 8).all (fun n => !s.magNow n) = true := List.all_eq_true.mpr fun n _ => by rw [quiet n]; rfl
  exact congrArg Host.Outcome.next (if_pos ⟨episode, none_, long⟩)

end

/-! ### Offset tracking and temperatures (R177, R182 to R184) -/

section
variable {s : State} {p : Plan} {c : CalNo}

theorem exec_trackWindowOpen_of_ready (hp : s.grate.plan = some p) (ready : trackReady p c s = true) (idle : (s.sens.track[c]).window = none) :
    exec (.trackWindowOpen c) s =
      .next (s.onSens (fun x => { x with track := upd x.track c (fun t => { t with window := some (0, 0) }) })) := by
  refine congrArg Host.Outcome.next ?_
  unfold trackOpen
  rw [hp]
  exact if_pos ⟨ready, idle⟩

/-- The mean of a window less OFF. -/
def State.trackMean (s : State) (c : CalNo) (n : Nat) (sum : Int) : Int := rdiv sum n - (s.sens.calInUse[c]).off

/-- The mean lies outside ±LIMIT. -/
def State.trackOver (s : State) (c : CalNo) (n : Nat) (sum : Int) : Bool := decide ((s.sens.calInUse[c]).limit < (s.trackMean c n sum).natAbs)

/-- The tracking of a slot when its window is full: the mean within ±LIMIT waits, and the next window opens where tracking goes on. -/
def State.trackClosed (s : State) (p : Plan) (c : CalNo) (n : Nat) (sum : Int) (t : Track) : Track :=
  { t with next := some (max (-((s.sens.calInUse[c]).limit : Int)) (min (s.sens.calInUse[c]).limit (s.trackMean c n sum))),
           window := if trackReady p c s then some (0, 0) else none, limitHit := t.limitHit || s.trackOver c n sum }

/-- The limit shows as hit where it did before or the mean lies outside it. -/
theorem State.trackClosed_limitHit {n : Nat} {sum : Int} {t : Track} :
    (s.trackClosed p c n sum t).limitHit = true ↔ t.limitHit = true ∨ (s.sens.calInUse[c]).limit < (s.trackMean c n sum).natAbs := by
  rw [State.trackClosed, Bool.or_eq_true, State.trackOver, decide_eq_true_iff]

/-- A full window closes, and a mean outside ±LIMIT is logged. -/
def State.trackLogged (s : State) (p : Plan) (c : CalNo) (n : Nat) (sum : Int) : State :=
  let u := s.onSens (fun x => { x with track := upd x.track c (s.trackClosed p c n sum) })
  if s.trackOver c n sum then u.logEv .trackLimit c.1 7 0 c.1 0 else u

/-- Of the sensing the closing of a window changes the slot's tracking. -/
theorem State.trackLogged_frame (s : State) (p : Plan) (c : CalNo) (n : Nat) (sum : Int) :
    ∃ cn lg, s.trackLogged p c n sum =
      { s with sens := { s.sens with track := upd s.sens.track c (s.trackClosed p c n sum) }, cnt := cn, log := lg } := by
  unfold State.trackLogged
  dsimp only
  split
  · obtain ⟨cn, lg, hl, -⟩ :=
      (s.onSens (fun x => { x with track := upd x.track c (s.trackClosed p c n sum) })).logEv_frame .trackLimit c.1 7 0 c.1 0
    exact ⟨cn, lg, hl⟩
  · exact ⟨_, _, rfl⟩

/-- At the end of a full window a mean outside ±LIMIT is a magnetic trigger as well where the slot is a magnetic one. -/
theorem trackEnd_of_full {n : Nat} {sum : Int} (hp : s.grate.plan = some p) (hw : (s.sens.track[c]).window = some (n, sum)) (full : 48000 ≤ n) :
    trackEnd c s =
      if s.trackOver c n sum ∧ (s.sens.calInUse[c]).magnetic then (s.trackLogged p c n sum).magTrigger (0x80 + c.1)
      else s.trackLogged p c n sum := by
  unfold trackEnd
  rw [hp, hw]
  exact if_pos full

/-- A full window leaves the slot's tracking closed, and of the rest at most the magnetic episode, the seal, counters and the log changed. -/
theorem exec_trackWindowEnd_of_full {n : Nat} {sum : Int} (hp : s.grate.plan = some p) (hw : (s.sens.track[c]).window = some (n, sum))
    (full : 48000 ≤ n) :
    ∃ sn m cn lg, exec (.trackWindowEnd c) s = .next { s with sens := sn, mseal := m, cnt := cn, log := lg } ∧
      sn.track = upd s.sens.track c (s.trackClosed p c n sum) := by
  obtain ⟨cn, lg, hl⟩ := s.trackLogged_frame p c n sum
  have hx : exec (.trackWindowEnd c) s = .next (trackEnd c s) := rfl
  rw [hx, trackEnd_of_full hp hw full, hl]
  split
  · obtain ⟨m, cn', lg', ht, -, -⟩ := State.magTrigger_frame
      { s with sens := { s.sens with track := upd s.sens.track c (s.trackClosed p c n sum) }, cnt := cn, log := lg } (0x80 + c.1)
    rw [ht]
    exact ⟨_, m, cn', lg', rfl, rfl⟩
  · exact ⟨_, _, cn, lg, rfl, rfl⟩

theorem exec_tempStale_of_old {m : MaNo} (hp : s.grate.plan = some p) (cal : p.mas.any (fun r => r.index == m.1 && r.op == 5) = true)
    (old : 480000 ≤ (s.grate.ma[m]).tempAge) :
    exec (.tempStale m) s = .next (s.onGrate (fun g => { g with ma := upd g.ma m (fun x => { x with stale := true }) })) := by
  refine congrArg Host.Outcome.next ?_
  unfold tempStale
  rw [hp]
  exact if_pos ⟨cal, old⟩

end

/-- Settles O23: each event where it completes is the change of one entry that its `exec_` lemma gives; the ledger counts as `occur_counts` has it. -/
theorem conditionersSensorsAndTracking : Obligations.ConditionersSensorsAndTracking := by
  unfold Obligations.ConditionersSensorsAndTracking
  refine ⟨?lost, ?restored, ?pad, ?disagree, ?agree, ?longLoss, ?fault, ?retry, ?stream, ?magnetic, ?quiet, ?window, ?full, ?stale⟩
  case lost =>
    intro n b s p r hp hr steady stopped
    obtain ⟨st, cn, lg, hx⟩ := exec_icValidLost_of_lost hp hr steady stopped
    have entry := upd_same s.grate.ic n (fun c => (if b then c.still r else c).cut)
    refine ⟨_, hx, ?_, ?_, fun k hk => upd_other _ _ _ _ hk.symm, rfl⟩
    · exact (congrArg IcState.valid entry).trans (IcState.cut_valid _)
    · rintro rfl
      exact ⟨(congrArg IcState.noTrans entry).trans (IcState.cut_noTrans _), (congrArg IcState.highSide entry).trans (IcState.cut_highSide _)⟩
  case restored =>
    intro n s p hp hn lost good
    exact ⟨_, exec_icValidRestored_of_good hp hn lost good, congrArg IcState.valid (upd_same ..), fun k hk => upd_other _ _ _ _ hk.symm, rfl⟩
  case pad =>
    intro m s on
    obtain ⟨ic, st, cn, lg, hm, lost⟩ := mclkPadFault_frame m s on
    exact ⟨_, congrArg Host.Outcome.next hm, upd_same .., fun p r h => lost p r h, rfl⟩
  case disagree =>
    intro g s p hp two bad fresh
    obtain ⟨cn, lg, hx⟩ := exec_votePersistentDisagree_of_bad hp two bad fresh
    exact ⟨_, hx, congrArg VoteState.persistent (upd_same ..), fun k hk => upd_other _ _ _ _ hk.symm, rfl⟩
  case agree =>
    intro g s marked good
    exact ⟨_, exec_voteDisagreeClear_of_good marked good, congrArg VoteState.persistent (upd_same ..), fun k hk => upd_other _ _ _ _ hk.symm, rfl⟩
  case longLoss =>
    intro ch s p hp metro long fresh late
    obtain ⟨g, sn, m, cn, lg, hx, counted, ledger⟩ := exec_sensorLongLoss_of_due hp metro long fresh late
    obtain ⟨count, arg⟩ := occur_counts ledger
    exact ⟨_, hx, counted, count, arg, rfl⟩
  case fault =>
    intro n k s on
    obtain ⟨st, cn, lg, hx⟩ := exec_fgPortFault_of_on k on
    have entry := upd_same s.sens.fg n (FgPort.fault k s.clock.tb)
    refine ⟨_, hx, (congrArg FgPort.valid entry).trans (FgPort.fault_valid ..), fun hk => ?_, ?_, fun m hm => upd_other _ _ _ _ hm.symm, rfl⟩
    · obtain ⟨off, until_⟩ := FgPort.fault_off hk s.clock.tb (s.sens.fg[n])
      exact ⟨(congrArg FgPort.on entry).trans off, (congrArg FgPort.offUntil entry).trans until_⟩
    · rintro rfl
      exact ⟨(congrArg FgPort.on entry).trans on, congrArg FgPort.sat entry⟩
  case retry =>
    intro n s b off due
    have entry := upd_same s.sens.fg n FgPort.retry
    exact ⟨_, exec_fgPortRetry_of_due off due, congrArg FgPort.on entry, congrArg FgPort.offUntil entry, congrArg FgPort.open_ entry,
      fun m hm => upd_other _ _ _ _ hm.symm, rfl⟩
  case stream =>
    intro n s on lost good
    have entry := upd_same s.sens.fg n FgPort.back
    exact ⟨_, exec_fgStreamValidRestored_of_good on lost good, congrArg FgPort.valid entry, congrArg FgPort.sat entry, rfl⟩
  case magnetic =>
    intro n s c h now
    obtain ⟨m, cn, lg, ht, first, again⟩ := s.magTrigger_frame n.1
    exact ⟨_, (exec_magDetect_of_now h now).trans (congrArg Host.Outcome.next ht), rfl, rfl, fun no => occur_counts (first no), again, rfl⟩
  case quiet => exact fun s episode quiet long => exec_magEpisodeEnd_of_quiet episode quiet long
  case window =>
    intro c s p hp ready idle
    exact ⟨_, exec_trackWindowOpen_of_ready hp ready idle, congrArg Track.window (upd_same ..), fun k hk => upd_other _ _ _ _ hk.symm, rfl⟩
  case full =>
    intro c s p n sum hp hw full
    obtain ⟨sn, m, cn, lg, hx, track⟩ := exec_trackWindowEnd_of_full hp hw full
    have entry : sn.track[c] = s.trackClosed p c n sum (s.sens.track[c]) := by rw [track, upd_same]
    refine ⟨_, hx, congrArg Track.next entry, ?_, fun k hk => (congrArg (·[k]) track).trans (upd_other _ _ _ _ hk.symm), rfl⟩
    exact (iff_of_eq (congrArg (fun t : Track => t.limitHit = true) entry)).trans State.trackClosed_limitHit
  case stale =>
    intro m s p hp cal old
    exact ⟨_, exec_tempStale_of_old hp cal old, upd_same .., fun k hk => upd_other _ _ _ _ hk.symm, rfl⟩

end Sys2Proof.Machine
end

section
/-!
A stop of an output's session changes the sequencer of that output alone, and leaves its cause there (R318, R338).
-/

namespace Sys2Proof.Machine

/-! ### Beside the sequencer -/

/-- From `s` to `t` the sequencer is as it was, and beside it only parts that a change of state of an output reaches have changed. -/
def State.Beside (s t : State) : Prop :=
  t = { s with keys := t.keys, host := t.host, cnt := t.cnt, log := t.log, bil := t.bil, guard := t.guard, veh := t.veh, lsw := t.lsw }

section
variable {s t u : State} {o : Fin 6}

theorem State.Beside.refl : s.Beside s := rfl

theorem State.Beside.trans (h : s.Beside t) (k : t.Beside u) : s.Beside u :=
  Eq.trans k (by rw [h])

theorem State.Beside.so (h : s.Beside t) (p : Fin 6) : t.so p = s.so p := by rw [h]; rfl

/-- A list of changes, one after another. -/
theorem State.Beside.foldl {β : Type} {f : State → β → State} (hf : ∀ (u : State) (x : β), u.Beside (f u x)) (l : List β) :
    s.Beside (l.foldl f s) :=
  List.foldlRecOn l f .refl fun u h x _ => h.trans (hf u x)

theorem State.storeUse_beside : s.Beside s.storeUse := by
  obtain ⟨ks, cn, lg, hu⟩ := s.storeUse_frame
  rw [hu]
  rfl

theorem State.onJournal_beside {f : Billing → Billing} : s.Beside (s.onJournal f) :=
  State.Beside.trans (t := s.onBil f) rfl (State.Beside.foldl (fun _ _ => State.storeUse_beside) _)

theorem State.notice_beside {kind sid pilot cause seq idType : Nat} {ident : Bytes} {p : W64} :
    s.Beside (s.notice kind sid pilot cause seq idType ident p) := by
  unfold State.notice
  dsimp only
  split
  · rfl
  · rfl

theorem State.isoDrive_beside {n : Fin 4} {halfB on : Bool} : s.Beside (s.isoDrive n halfB on) := by
  unfold State.isoDrive
  refine State.Beside.foldl (fun u c => ?_) _
  split
  · rfl
  · exact .refl

theorem State.monitorOf_beside {was now : OutState} : s.Beside (s.monitorOf o was now) := by
  unfold State.monitorOf
  split
  case isFalse => exact .refl
  case isTrue =>
    dsimp only
    split
    case isTrue => exact .refl
    case isFalse =>
      split
      · exact State.Beside.trans (t := s.onGuard _) rfl State.isoDrive_beside
      · exact State.isoDrive_beside

theorem State.drivePilot_beside {d : PilotDrive} : s.Beside (s.drivePilot o d) := rfl

/-! ### One output's sequencer -/

theorem State.onSo_so_same {f : SeqOut → SeqOut} : (s.onSo o f).so o = f (s.so o) := upd_same ..

theorem State.onSo_so_other {p : Fin 6} (h : p ≠ o) {f : SeqOut → SeqOut} : (s.onSo o f).so p = s.so p := upd_other _ _ _ _ h.symm

/-- From `s` to `t` the sequencer of output `o` moves on and no other output's does; its stop cause stays. -/
structure State.Moves (s t : State) (o : Fin 6) : Prop where
  cause : (t.so o).cause = (s.so o).cause
  stopped : (t.so o).stopped = (s.so o).stopped
  others : ∀ p, p ≠ o → t.so p = s.so p
  frame : t = { s with keys := t.keys, host := t.host, cnt := t.cnt, log := t.log, bil := t.bil, guard := t.guard, seqr := t.seqr, veh := t.veh,
                       lsw := t.lsw }

theorem State.Moves.trans (h : s.Moves t o) (k : t.Moves u o) : s.Moves u o where
  cause := k.cause.trans h.cause
  stopped := k.stopped.trans h.stopped
  others p hp := (k.others p hp).trans (h.others p hp)
  frame := k.frame.trans (by rw [h.frame])

theorem State.Beside.moves (h : s.Beside t) : s.Moves t o where
  cause := congrArg SeqOut.cause (h.so o)
  stopped := congrArg SeqOut.stopped (h.so o)
  others p _ := h.so p
  frame := Eq.trans h (by rw [h])

theorem State.onSo_moves {f : SeqOut → SeqOut} (cause : (f (s.so o)).cause = (s.so o).cause) (stopped : (f (s.so o)).stopped = (s.so o).stopped) :
    s.Moves (s.onSo o f) o where
  cause := (congrArg SeqOut.cause State.onSo_so_same).trans cause
  stopped := (congrArg SeqOut.stopped State.onSo_so_same).trans stopped
  others _ hp := State.onSo_so_other hp
  frame := rfl

/-- An output that enters a state is in it. -/
theorem State.enter_state {x : OutState} : ((s.enter o x).so o).state = x := by
  unfold State.enter
  dsimp only
  rw [State.drivePilot_beside.so, State.monitorOf_beside.so, State.onSo_so_same]

theorem State.enter_moves {x : OutState} : s.Moves (s.enter o x) o :=
  ((State.onSo_moves rfl rfl).trans State.monitorOf_beside.moves).trans State.drivePilot_beside.moves

theorem State.startFive_moves : s.Moves (s.startFive o) o := State.onSo_moves rfl rfl

/-- The end of a session is told to billing and to the hosts. -/
theorem State.endSession_moves : s.Moves (s.endSession o) o := by
  unfold State.endSession
  dsimp only
  split
  case isTrue => exact State.Beside.refl.moves
  case isFalse =>
    refine State.Moves.trans ?_ State.notice_beside.moves
    refine State.Moves.trans ?_ (State.onSo_moves rfl rfl)
    split
    · exact State.onJournal_beside.moves
    · exact State.Beside.refl.moves

theorem State.toRollback_moves {toLink : Bool} : s.Moves (s.toRollback o toLink) o := (State.onSo_moves rfl rfl).trans State.enter_moves

/-! ### The stop (R318, R338) -/

/-- A cause that is recorded where a running session had none. -/
theorem State.stopCause_so {cause : Nat} (h : (s.so o).stopped = false) :
    ((s.stopCause o cause).so o).cause = cause ∧ ((s.stopCause o cause).so o).stopped = true := by
  unfold State.stopCause
  rw [State.onSo_so_same]
  simp [h]

theorem State.stopCause_state {cause : Nat} : ((s.stopCause o cause).so o).state = (s.so o).state := by
  unfold State.stopCause
  rw [State.onSo_so_same]
  split
  · rfl
  · rfl

/-- An output whose cause is recorded and which then moves on to the state that a stop leads to is stopped. -/
theorem State.Moves.stops {cause : Nat} (h : (s.stopCause o cause).Moves t o) (state : (t.so o).state = (s.so o).state.stop) :
    s.Stops t o cause where
  state := state
  cause _ fresh := by rw [h.cause, h.stopped]; exact State.stopCause_so fresh
  others p hp := (h.others p hp).trans (State.onSo_so_other hp)

/-- An output that a stop leads nowhere else is stopped as it is. -/
theorem State.Stops.still {cause : Nat} (h : (s.so o).state.stop = (s.so o).state) : s.Stops s o cause :=
  ⟨h.symm, fun moved => absurd h moved, fun _ _ => rfl⟩

/-- A stop depends on what the sequencers were alone. -/
theorem State.Stops.congr {cause : Nat} (h : s.Stops t o cause) (same : ∀ p, s.so p = u.so p) : u.Stops t o cause where
  state := same o ▸ h.state
  cause := same o ▸ h.cause
  others p hp := same p ▸ h.others p hp

/-- A stop either finds nothing to stop, or records its cause and moves the output on to the state that a stop leads to. -/
theorem State.stopOut_cases (s : State) (o : Fin 6) (cause : Nat) :
    (s.stopOut o cause = s ∧ (s.so o).state.stop = (s.so o).state) ∨
      ((s.stopCause o cause).Moves (s.stopOut o cause) o ∧ ((s.stopOut o cause).so o).state = (s.so o).state.stop) := by
  unfold State.stopOut
  dsimp only
  cases hx : (s.so o).state
  case lock | link => exact .inr ⟨(State.endSession_moves.trans State.startFive_moves).trans State.enter_moves, State.enter_state⟩
  case specCheck | specPrecharge | specReady => exact .inr ⟨State.toRollback_moves, State.enter_state⟩
  case check | precharge | ready | charging | paused => exact .inr ⟨State.enter_moves, State.enter_state⟩
  case rollback =>
    dsimp only
    split
    case isTrue =>
      refine .inr ⟨State.onSo_moves rfl rfl, ?_⟩
      rw [State.onSo_so_same, State.stopCause_state, hx]
      rfl
    case isFalse => exact .inl ⟨rfl, rfl⟩
  case idle | unavailable | stopping | weldcheck | unlock | waitUnplug | fault => exact .inl ⟨rfl, rfl⟩

theorem State.stopOut_stops (s : State) (o : Fin 6) (cause : Nat) : s.Stops (s.stopOut o cause) o cause := by
  rcases s.stopOut_cases o cause with ⟨same, still⟩ | ⟨moves, state⟩
  · rw [same]
    exact .still still
  · exact moves.stops state

/-- What a stop may change. -/
theorem State.stopOut_frame (s : State) (o : Fin 6) (cause : Nat) :
    ∃ ks hs cn lg bl gd sq vh lw, s.stopOut o cause =
      { s with keys := ks, host := hs, cnt := cn, log := lg, bil := bl, guard := gd, seqr := sq, veh := vh, lsw := lw } := by
  rcases s.stopOut_cases o cause with ⟨same, -⟩ | ⟨moves, -⟩
  · exact ⟨_, _, _, _, _, _, _, _, _, same⟩
  · exact ⟨_, _, _, _, _, _, _, _, _, moves.frame⟩

end

end Sys2Proof.Machine
end

section
/-!
The hand-off of energy at a tick boundary (R189 to R191, R220): what each binding adds to each register, and what the boundary leaves unchanged.
-/

namespace Sys2Proof.Machine

/-! ### One binding -/

/-- A binding adds to register `k` of output `o`, 6 for SITE: its own register and the same one of SITE (R191). -/
def EnRec.feeds (e : EnRec) (o : Fin 7) (k : Fin 4) : Bool :=
  decide ((e.integ < 32 ∧ e.output < 6 ∧ e.reg < 4) ∧ e.reg = k.1 ∧ (o = 6 ∨ e.output = o.1))

/-- Whole µWh in the integrator of a binding. -/
def State.uWhOf (s : State) (e : EnRec) : Nat := (s.grate.integ[e.integ]?.map (fun i => wholeUWh i.acc)).getD 0

/-- One binding hands its whole µWh to its register and to SITE (R189 to R191). -/
def State.handEntry (s : State) (e : EnRec) : State :=
  if h : e.integ < 32 ∧ e.output < 6 ∧ e.reg < 4 then
    let w := wholeUWh (s.grate.integ[e.integ]'h.1).acc
    let o : Fin 7 := ⟨e.output, by omega⟩
    let k : Fin 4 := ⟨e.reg, h.2.2⟩
    (s.onGrate (fun g => { g with integ := upd g.integ ⟨e.integ, h.1⟩ (fun i => { i with acc := i.acc - (w * uWhUnits : Nat) }) })).onNrg
      (fun n => { n with e := upd (upd n.e o (fun r => upd r k (· + w))) 6 (fun r => upd r k (· + w)) })
  else s

theorem State.handOff_eq (s : State) (p : Plan) : s.handOff p = p.energies.foldl State.handEntry s := rfl

section
variable {s : State} {e : EnRec}

theorem State.uWhOf_of_lt (h : e.integ < 32) : s.uWhOf e = wholeUWh (s.grate.integ[e.integ]'h).acc := by
  rw [State.uWhOf, Vector.getElem?_eq_getElem h]
  rfl

/-- An entry of a table of tables under a change. -/
theorem upd_upd_getElem {α : Type} {n m : Nat} (v : Vector (Vector α m) n) (i o : Fin n) (j k : Fin m) (f : α → α) :
    ((upd v i (fun r => upd r j f))[o])[k] = if i = o ∧ j = k then f (v[o])[k] else (v[o])[k] := by
  by_cases hi : i = o
  · subst hi
    by_cases hj : j = k
    · subst hj
      rw [upd_same, upd_same, if_pos ⟨rfl, rfl⟩]
    · rw [upd_same, upd_other _ _ _ _ hj, if_neg fun h => hj h.2]
  · rw [upd_other _ _ _ _ hi, if_neg fun h => hi h.1]

/-- A binding raises the registers that it feeds by the whole µWh of its integrator, and no other. -/
theorem State.handEntry_e (o : Fin 7) (k : Fin 4) :
    ((s.handEntry e).nrg.e[o])[k] = (s.nrg.e[o])[k] + if e.feeds o k then s.uWhOf e else 0 := by
  unfold State.handEntry
  split
  case isFalse h => rw [if_neg (by simp [EnRec.feeds, h])]; rfl
  case isTrue h =>
    have ne : (⟨e.output, by omega⟩ : Fin 7) ≠ 6 := fun c => by simp [Fin.ext_iff] at c; omega
    have feeds : e.feeds o k = true ↔ (⟨e.reg, h.2.2⟩ : Fin 4) = k ∧ (6 = o ∨ (⟨e.output, by omega⟩ : Fin 7) = o) := by
      simp [EnRec.feeds, h, Fin.ext_iff, eq_comm (a := o.1)]
    simp only [State.onNrg_nrg, State.onGrate_nrg, upd_upd_getElem, feeds, State.uWhOf_of_lt h.1]
    by_cases hk : (⟨e.reg, h.2.2⟩ : Fin 4) = k
    · by_cases ho : 6 = o
      · subst ho
        simp [hk, ne]
      · simp only [hk, ho, and_true, true_and, false_or, if_false]
        split <;> rfl
    · simp [hk]

/-- A binding takes from its own integrator alone. -/
theorem State.handEntry_uWhOf {x : EnRec} (h : e.integ ≠ x.integ) : (s.handEntry e).uWhOf x = s.uWhOf x := by
  unfold State.handEntry
  split
  case isFalse => rfl
  case isTrue =>
    simp only [State.uWhOf, State.onNrg_grate, State.onGrate_grate, upd]
    rw [Vector.getElem?_set_ne _ h]

/-- Of a state a binding changes the Grate and the energy registers. -/
theorem State.handEntry_frame (s : State) (e : EnRec) : ∃ g r, s.handEntry e = { s with grate := g, nrg := { s.nrg with e := r } } := by
  unfold State.handEntry
  split
  · exact ⟨_, _, rfl⟩
  · exact ⟨_, _, rfl⟩

/-! ### All bindings -/

/-- The energy registers after a list of bindings: a register has risen by the whole µWh of those that feed it, where none of these shares its
integrator with one before it. -/
theorem State.foldl_handEntry_e (o : Fin 7) (k : Fin 4) (l : List EnRec) (own : l.Pairwise (fun x y => y.feeds o k → x.integ ≠ y.integ)) :
    ((l.foldl State.handEntry s).nrg.e[o])[k] = (s.nrg.e[o])[k] + ((l.filter (·.feeds o k)).map s.uWhOf).sum := by
  induction l generalizing s with
  | nil => simp
  | cons x xs ih =>
    obtain ⟨first, rest⟩ := List.pairwise_cons.mp own
    have kept : (xs.filter (·.feeds o k)).map (s.handEntry x).uWhOf = (xs.filter (·.feeds o k)).map s.uWhOf :=
      List.map_congr_left fun y hy => State.handEntry_uWhOf (first y (List.mem_of_mem_filter hy) (List.mem_filter.mp hy).2)
    rw [List.foldl_cons, ih rest, kept, State.handEntry_e, List.filter_cons]
    split <;> simp [Nat.add_assoc]

/-- No hand-off lowers an energy register. -/
theorem State.foldl_handEntry_e_le (o : Fin 7) (k : Fin 4) (l : List EnRec) : (s.nrg.e[o])[k] ≤ ((l.foldl State.handEntry s).nrg.e[o])[k] := by
  induction l generalizing s with
  | nil => exact Nat.le_refl _
  | cons x xs ih =>
    have one : (s.nrg.e[o])[k] ≤ ((s.handEntry x).nrg.e[o])[k] := by rw [State.handEntry_e]; exact Nat.le_add_right ..
    exact one.trans ih

theorem State.foldl_handEntry_frame (l : List EnRec) (s : State) :
    ∃ g r, l.foldl State.handEntry s = { s with grate := g, nrg := { s.nrg with e := r } } := by
  refine List.foldlRecOn (motive := fun u : State => ∃ g r, u = { s with grate := g, nrg := { s.nrg with e := r } }) l _
    ⟨s.grate, s.nrg.e, rfl⟩ ?_
  rintro u ⟨_, _, rfl⟩ x _
  exact State.handEntry_frame _ x

end

/-- A binding `x` uses the integrator or the register of `e`. -/
def EnRec.shares (e x : EnRec) : Bool := x.integ == e.integ || (x.output == e.output && x.reg == e.reg)

section
variable {s : State} {p : Plan} {e : EnRec} {o : Fin 7} {k : Fin 4}

/-- What feeds a register of an output shares it with a binding of that register. -/
theorem EnRec.shares_of_feeds {x : EnRec} (low : o.1 < 6) (ho : e.output = o.1) (hk : e.reg = k.1) (h : x.feeds o k) : e.shares x := by
  obtain ⟨-, reg, site | output⟩ := of_decide_eq_true h
  · subst site
    exact absurd low (by decide)
  · simp [EnRec.shares, output, reg, ho, hk]

/-- A binding that alone uses its integrator and its register alone feeds it. -/
theorem filter_feeds_of_own {l : List EnRec} (low : o.1 < 6) (ho : e.output = o.1) (hk : e.reg = k.1) (feeds : e.feeds o k)
    (own : l.filter e.shares = [e]) : l.filter (·.feeds o k) = [e] := by
  calc l.filter (·.feeds o k) = (l.filter e.shares).filter (·.feeds o k) := by
        rw [List.filter_filter]
        refine List.filter_congr fun x _ => ?_
        cases hx : x.feeds o k with
        | false => rfl
        | true => exact (EnRec.shares_of_feeds low ho hk hx).symm
    _ = [e] := by rw [own]; exact List.filter_cons_of_pos feeds

/-- No binding before one that alone uses its integrator has the same one. -/
theorem integ_ne_of_own {l : List EnRec} {x : EnRec} (own : l.filter e.shares = [e]) (before : [x, e].Sublist l) : x.integ ≠ e.integ := by
  intro same
  have both := (before.filter e.shares).length_le
  rw [own] at both
  simp [EnRec.shares, same] at both

/-- The register of a binding that alone uses its integrator and its register rises by the whole µWh of the integrator. -/
theorem State.handOff_e_of_own (valid : e.integ < 32 ∧ e.output < 6 ∧ e.reg < 4) (ho : e.output = o.1) (hk : e.reg = k.1)
    (own : p.energies.filter e.shares = [e]) :
    ((s.handOff p).nrg.e[o])[k] = (s.nrg.e[o])[k] + wholeUWh (s.grate.integ[e.integ]'valid.1).acc := by
  have low : o.1 < 6 := ho ▸ valid.2.1
  have fed := filter_feeds_of_own low ho hk (decide_eq_true ⟨valid, hk, .inr ho⟩) own
  have apart : p.energies.Pairwise (fun x y => y.feeds o k → x.integ ≠ y.integ) := by
    refine List.pairwise_iff_forall_sublist.mpr fun {x y} before feeds => ?_
    have mem : y ∈ p.energies.filter (·.feeds o k) := List.mem_filter.mpr ⟨before.subset (by simp), feeds⟩
    rw [fed, List.mem_singleton] at mem
    subst mem
    exact integ_ne_of_own own before
  rw [State.handOff_eq, State.foldl_handEntry_e _ _ _ apart, fed, List.map_singleton, List.sum_singleton, State.uWhOf_of_lt valid.1]

/-- Where every binding has an integrator of its own, a register of SITE rises by the whole µWh of all bindings to that register. -/
theorem State.handOff_site (apart : p.energies.Pairwise (fun x y => x.integ ≠ y.integ))
    (valid : ∀ x ∈ p.energies, x.integ < 32 ∧ x.output < 6 ∧ x.reg < 4) :
    ((s.handOff p).nrg.e[(6 : Fin 7)])[k] = (s.nrg.e[(6 : Fin 7)])[k] + ((p.energies.filter (fun x => x.reg == k.1)).map s.uWhOf).sum := by
  have fed : p.energies.filter (·.feeds 6 k) = p.energies.filter (fun x => x.reg == k.1) :=
    List.filter_congr fun x hx => by simp [EnRec.feeds, valid x hx, beq_eq_decide]
  have alone : p.energies.Pairwise (fun x y => y.feeds 6 k → x.integ ≠ y.integ) := by
    refine apart.imp ?_
    exact fun h _ => h
  rw [State.handOff_eq, State.foldl_handEntry_e _ _ _ alone, fed]

end

/-! ### The tick boundary -/

/-- Spans that are noted, or not, change the seal at most. -/
theorem State.ite_span_frame {s : State} {c : Prop} {d : Decidable c} {outs bit : Nat} :
    ∃ m, (if c then s.span outs bit else s) = { s with mseal := m } := by
  split
  · exact ⟨_, rfl⟩
  · exact ⟨_, rfl⟩

/-- Publishing changes the live quantities and the spans of the seal. -/
theorem publishAll_frame (p : Plan) (s : State) :
    ∃ lv sl sv m, publishAll p s = { s with nrg := { s.nrg with live := lv, siteLive := sl, siteValid := sv }, mseal := m } := by
  unfold publishAll
  dsimp only
  generalize outs : List.foldl _ s (idx 6) = u
  have each : ∃ lv m, u = { s with nrg := { s.nrg with live := lv }, mseal := m } := by
    subst outs
    refine List.foldlRecOn (motive := fun u : State => ∃ lv m, u = { s with nrg := { s.nrg with live := lv }, mseal := m }) _ _
      ⟨s.nrg.live, s.mseal, rfl⟩ ?_
    rintro u ⟨lv, m, rfl⟩ o _
    exact ⟨_, State.ite_span_frame.imp fun _ spanned => spanned⟩
  obtain ⟨lv, m, rfl⟩ := each
  exact ⟨lv, _, _, m, rfl⟩

/-- The energy of a state at a hand-off, but for what is published: a tick more, and its entry for billing (R189, R220). -/
def State.handedOver (s : State) (p : Plan) : Energy :=
  { s.nrg with
    e := (s.handOff p).nrg.e, tick := s.nrg.tick + 1, tickTb := s.clock.tb, shortPending := false,
    waiting := s.nrg.waiting ++
      [{ startTb := s.nrg.tickTb, endTb := s.clock.tb, inc := increments s.nrg (s.handOff p).nrg, short := false }] }

theorem State.handTick_handedOver (s : State) (p : Plan) :
    ∃ g, (s.handTick p false).onNrg (fun n => { n with tick := n.tick + 1, tickTb := s.clock.tb, shortPending := false }) =
      { s with grate := g, nrg := s.handedOver p } := by
  obtain ⟨g, r, ho⟩ := State.foldl_handEntry_frame p.energies s
  rw [← State.handOff_eq] at ho
  unfold State.handTick State.handedOver
  rw [ho]
  exact ⟨g, rfl⟩

/-- The end of frame 479 hands off, publishes and begins a new tick. -/
theorem exec_tickHandoff_of_full {s : State} {p : Plan} (hp : s.grate.plan = some p) (full : 480 ≤ s.grate.tickFrame) :
    ∃ g sn m cn lv sl sv, exec .tickHandoff s = .next { s with
        cnt := cn, grate := g, sens := sn, nrg := { s.handedOver p with live := lv, siteLive := sl, siteValid := sv }, mseal := m } ∧
      g.tickFrame = 0 := by
  obtain ⟨g, handed⟩ := s.handTick_handedOver p
  obtain ⟨lv, sl, sv, m, published⟩ := publishAll_frame p { s with grate := g, nrg := s.handedOver p }
  have hx : exec .tickHandoff s = .next (tickHandoff s) := rfl
  rw [hx]
  unfold tickHandoff
  rw [hp]
  dsimp only
  rw [if_neg (Nat.not_lt.mpr full), handed, published]
  split
  · exact ⟨_, _, _, _, lv, sl, sv, rfl, rfl⟩
  · exact ⟨_, _, _, _, lv, sl, sv, rfl, rfl⟩

end Sys2Proof.Machine
end

section
/-! O25: energy registers, pulses, the periodic save and the supply episodes (R189, R191, R200, R209, R210, R214, R220). -/

namespace Sys2Proof.Machine

/-! ### Pulses (R200) -/

section
variable {s : State} {o : Output}

theorem exec_pulseStart_of_due (queued : 0 < (s.nrg.pulses[o]).queued) (inactive : (s.nrg.pulses[o]).active = false)
    (gap : s.useFld R.NRG_PULSE_CFGn F.NRG_PULSE_CFGn_WIDTH [o.1] ≤ (s.nrg.pulses[o]).gap) :
    exec (.pulseStart o) s = .next (s.onNrg (fun n => { n with pulses := upd n.pulses o (fun q =>
      { q with queued := q.queued - 1, active := true, left := s.useFld R.NRG_PULSE_CFGn F.NRG_PULSE_CFGn_WIDTH [o.1],
               width := s.useFld R.NRG_PULSE_CFGn F.NRG_PULSE_CFGn_WIDTH [o.1], gap := 0, emitted := (q.emitted + 1) % 2 ^ 32 }) })) :=
  congrArg Host.Outcome.next (if_pos ⟨queued, inactive, gap⟩)

theorem exec_pulseEnd_of_passed (active : (s.nrg.pulses[o]).active = true) (passed : (s.nrg.pulses[o]).left = 0) :
    exec (.pulseEnd o) s = .next (s.onNrg (fun n => { n with pulses := upd n.pulses o (fun q => { q with active := false, gap := 0 }) })) :=
  congrArg Host.Outcome.next (if_pos ⟨active, passed⟩)

end

/-! ### Saves (R213, R214) -/

/-- A save takes the place of the older copy, and the highest powers restart; the energy registers stay. -/
theorem State.metroSave_frame (s : State) (reason lastTb us : Nat) :
    ∃ ks cn lg en, s.metroSave reason lastTb us = { s with keys := ks, cnt := cn, log := lg, nrg := en } ∧ en.saveSeq = s.nrg.saveSeq + 1 ∧
      en.e = s.nrg.e ∧ (∀ o : Output, (en.live[o]).peakMw = 0) ∧
      ((en.copyA = some { s.saveRecord reason lastTb with doneTb := s.clock.tb + 25 * us } ∧ en.copyB = s.nrg.copyB) ∨
        (en.copyB = some { s.saveRecord reason lastTb with doneTb := s.clock.tb + 25 * us } ∧ en.copyA = s.nrg.copyA)) := by
  obtain ⟨ks, cn, lg, hu⟩ := s.storeUse_frame
  unfold State.metroSave
  rw [hu]
  refine ⟨ks, cn, lg, _, rfl, rfl, ?registers, ?peaks, ?copies⟩
  case peaks =>
    intro o
    dsimp only
    exact congrArg LiveState.peakMw (Vector.getElem_map ..)
  case registers =>
    dsimp only
    split
    · rfl
    · rfl
  case copies =>
    dsimp only
    split
    · exact .inl ⟨rfl, rfl⟩
    · exact .inr ⟨rfl, rfl⟩

theorem exec_periodicSave_of_due {s : State} (started : 0 < s.nrg.tick) (due : s.nrg.tick % 100 = 0) (plan : s.grate.plan.isSome = true) :
    exec .periodicSave s = .next (s.metroSave 0 s.nrg.tickTb 0) :=
  congrArg Host.Outcome.next (if_pos ⟨started, due, plan⟩)

/-! ### Episodes of the supply (R209, R210) -/

section
variable {s : State} {o : Outlet}

theorem exec_phaseseqReversed_of_held (reversed : (s.nrg.live[outletNo o]).seq = 2) (fresh : (s.nrg.live[outletNo o]).seqEpisode = false)
    (held : (s.nrg.live[outletNo o]).seqSince + tbSecond ≤ s.clock.tb) :
    exec (.phaseseqReversed o) s =
      .next ((s.onLive (outletNo o) (fun l => { l with seqEpisode := true })).tamper T_PHASESEQ o.1 true) :=
  congrArg Host.Outcome.next (if_pos ⟨reversed, fresh, held⟩)

theorem exec_phaseseqEpisodeEnd_of_right (episode : (s.nrg.live[outletNo o]).seqEpisode = true) (right : (s.nrg.live[outletNo o]).seq = 1)
    (held : (s.nrg.live[outletNo o]).seqSince + 10 * tbSecond ≤ s.clock.tb) :
    exec (.phaseseqEpisodeEnd o) s = .next (s.onLive (outletNo o) (fun l => { l with seqEpisode := false })) :=
  congrArg Host.Outcome.next (if_pos ⟨episode, right, held⟩)

/-- The missing neutral that is declared: its episode opens and its occurrence counts. -/
def State.neutralDeclared (s : State) (o : Outlet) : State :=
  (s.onLive (outletNo o) (fun l => { l with neutralEpisode := true })).tamper T_NEUTRAL o.1 true

theorem State.neutralDeclared_so (p : Fin 6) : (s.neutralDeclared o).so p = s.so p := by
  simp [State.neutralDeclared, State.onLive, State.so]

/-- A missing neutral that is declared stops a session. -/
theorem exec_neutralMissing_of_held (missing : (s.nrg.live[outletNo o]).neutral = true) (fresh : (s.nrg.live[outletNo o]).neutralEpisode = false)
    (held : (s.nrg.live[outletNo o]).neutralSince + tbSecond ≤ s.clock.tb) :
    exec (.neutralMissing o) s =
      .next (if (s.so (outletNo o)).sid.isSome then (s.neutralDeclared o).stopOut (outletNo o) 13 else s.neutralDeclared o) := by
  rw [← State.neutralDeclared_so (o := o)]
  exact congrArg Host.Outcome.next (if_pos ⟨missing, fresh, held⟩)

theorem exec_neutralEpisodeEnd_of_back (episode : (s.nrg.live[outletNo o]).neutralEpisode = true) (back : (s.nrg.live[outletNo o]).neutral = false)
    (held : (s.nrg.live[outletNo o]).neutralSince + 10 * tbSecond ≤ s.clock.tb) :
    exec (.neutralEpisodeEnd o) s = .next (s.onLive (outletNo o) (fun l => { l with neutralEpisode := false })) :=
  congrArg Host.Outcome.next (if_pos ⟨episode, back, held⟩)

end

/-- Settles O25: the hand-off by what the bindings add, each other event by the change of one entry that its `exec_` lemma gives; a session that
the missing neutral ends is stopped as `stopOut_stops` has it. -/
theorem energyTicksPulsesAndEpisodes : Obligations.EnergyTicksPulsesAndEpisodes := by
  unfold Obligations.EnergyTicksPulsesAndEpisodes
  refine ⟨?handoff, ?pulseStart, ?pulseEnd, ?save, ?reversed, ?seqEnd, ?neutral, ?neutralEnd⟩
  case handoff =>
    intro s p hp full
    obtain ⟨g, sn, m, cn, lv, sl, sv, hx, frame⟩ := exec_tickHandoff_of_full hp full
    refine ⟨_, increments s.nrg (s.handOff p).nrg, hx, rfl, rfl, frame, rfl, ?rises, ?increments, ?own, ?site, rfl⟩
    case rises => exact fun o k => State.foldl_handEntry_e_le o k p.energies
    case increments => exact fun o => Vector.getElem_ofFn ..
    case own => exact fun e valid own => State.handOff_e_of_own valid rfl rfl own
    case site => exact fun apart valid k => State.handOff_site apart valid
  case pulseStart =>
    intro o s queued inactive gap
    have entry := upd_same s.nrg.pulses o
    refine ⟨_, exec_pulseStart_of_due queued inactive gap, ?_, ?_, ?_, ?_, rfl, fun k hk => upd_other _ _ _ _ hk.symm⟩
    · exact congrArg PulseOut.active (entry _)
    · exact (congrArg (fun q : PulseOut => q.queued + 1) (entry _)).trans (Nat.sub_add_cancel queued)
    · exact congrArg PulseOut.emitted (entry _)
    · exact congrArg PulseOut.left (entry _)
  case pulseEnd =>
    intro o s active passed
    exact ⟨_, exec_pulseEnd_of_passed active passed, upd_same .., rfl, fun k hk => upd_other _ _ _ _ hk.symm⟩
  case save =>
    intro s started due plan
    obtain ⟨ks, cn, lg, en, hs, seq, registers, peaks, copies⟩ := s.metroSave_frame 0 s.nrg.tickTb 0
    exact ⟨_, _, (exec_periodicSave_of_due started due plan).trans (congrArg Host.Outcome.next hs), rfl, rfl, rfl, rfl, seq, copies, registers,
      peaks, rfl⟩
  case reversed =>
    intro o s reversed fresh held
    obtain ⟨m, cn, lg, ht, ledger, -⟩ := (s.onLive (outletNo o) (fun l => { l with seqEpisode := true })).tamper_frame T_PHASESEQ o.1
    obtain ⟨count, arg⟩ := occur_counts ledger
    exact ⟨_, (exec_phaseseqReversed_of_held reversed fresh held).trans (congrArg Host.Outcome.next ht),
      congrArg LiveState.seqEpisode (upd_same ..), count, arg, rfl⟩
  case seqEnd =>
    intro o s episode right held
    exact ⟨_, exec_phaseseqEpisodeEnd_of_right episode right held, upd_same .., rfl⟩
  case neutral =>
    intro o s missing fresh held
    obtain ⟨m, cn, lg, ht, ledger, -⟩ := (s.onLive (outletNo o) (fun l => { l with neutralEpisode := true })).tamper_frame T_NEUTRAL o.1
    obtain ⟨count, arg⟩ := occur_counts ledger
    have declared : s.neutralDeclared o = _ := ht
    have hx := exec_neutralMissing_of_held missing fresh held
    have opened := congrArg LiveState.neutralEpisode (upd_same s.nrg.live (outletNo o) (fun l => { l with neutralEpisode := true }))
    cases hsid : (s.so (outletNo o)).sid with
    | none =>
      rw [hsid, if_neg (by simp), declared] at hx
      exact ⟨_, hx, opened, count, arg, fun session => absurd session (by simp), fun _ => rfl, rfl⟩
    | some sid =>
      have stops := ((s.neutralDeclared o).stopOut_stops (outletNo o) 13).congr fun p => State.neutralDeclared_so p
      obtain ⟨ks, hs, cn', lg', bl, gd, sq, vh, lw, hf⟩ := (s.neutralDeclared o).stopOut_frame (outletNo o) 13
      rw [hsid, if_pos (Option.isSome_some ..), hf, declared] at hx
      rw [hf, declared] at stops
      exact ⟨_, hx, opened, count, arg, fun _ => stops, fun idle => absurd idle (by simp), rfl⟩
  case neutralEnd =>
    intro o s episode back held
    exact ⟨_, exec_neutralEpisodeEnd_of_back episode back held, upd_same .., rfl⟩

end Sys2Proof.Machine
end
section
/-!
What the journal changes of a state: an entry that is written, a re-booking with its event record, and the records that are signed or queued after it
(R225, R254, R255, R270 to R276).
-/

namespace Sys2Proof.Machine

/-! ### Entries of the journal (R65, R254) -/

/-- A change of the journal changes billing as it says; every JSEQ that it takes is a message of the storage key in slot 4. -/
theorem State.onJournal_frame (s : State) (f : Billing → Billing) :
    ∃ ks cn lg, s.onJournal f = { s with keys := ks, cnt := cn, log := lg, bil := f s.bil } ∧ ∀ n : Fin 256, n ≠ 4 → ks.slots[n] = s.slot n := by
  refine List.foldlRecOn (motive := fun t : State => ∃ ks cn lg, t = { s with keys := ks, cnt := cn, log := lg, bil := f s.bil } ∧
    ∀ n : Fin 256, n ≠ 4 → ks.slots[n] = s.slot n) _ _ ⟨s.keys, s.cnt, s.log, rfl, fun _ _ => rfl⟩ ?_
  rintro u ⟨ks, cn, lg, hu, slots⟩ _ -
  obtain ⟨ks', cn', lg', hs⟩ := u.storeUse_frame
  refine ⟨ks', cn', lg', by rw [hs, hu], fun n hn => ?_⟩
  have kept := u.storeUse_slot_other hn
  rw [hs, hu] at kept
  exact kept.trans (slots n hn)

/-- A tick that a rewrite of the ticks with `q` by `f` has left in the ring: one that it did not concern, or a rewritten one under a new JSEQ. -/
def Billing.Rewritten (b : Billing) (q : Tick → Bool) (f : Tick → Tick) (t : Tick) : Prop :=
  (t ∈ b.ticks ∧ (!t.committed && q t) = false) ∨ ∃ x ∈ b.ticks, x.committed = false ∧ q x = true ∧ ∃ j, t = { f x with jseq := j }

/-- A rewrite of ticks changes them and takes JSEQs. -/
theorem Billing.rewriteWhere_frame (b : Billing) (q : Tick → Bool) (f : Tick → Tick) :
    ∃ ts j, b.rewriteWhere q f = { b with ticks := ts, jseq := j } ∧ ∀ t ∈ ts, b.Rewritten q f t := by
  refine List.foldlRecOn (motive := fun c : Billing => ∃ ts j, c = { b with ticks := ts, jseq := j } ∧ ∀ t ∈ ts, b.Rewritten q f t) _ _
    ⟨[], b.jseq, rfl, fun _ h => absurd h List.not_mem_nil⟩ ?_
  rintro _ ⟨ts, j, rfl, rewritten⟩ x hx
  dsimp only
  split
  case isTrue concerned =>
    obtain ⟨uncommitted, hq⟩ := Bool.and_eq_true_iff.mp concerned
    refine ⟨_, _, rfl, fun t ht => ?_⟩
    rcases List.mem_append.mp ht with old | new
    · exact rewritten t old
    · exact .inr ⟨x, hx, by simpa using uncommitted, hq, j, List.mem_singleton.mp new⟩
  case isFalse other =>
    refine ⟨_, _, rfl, fun t ht => ?_⟩
    rcases List.mem_append.mp ht with old | same
    · exact rewritten t old
    · rw [List.mem_singleton.mp same]
      exact .inl ⟨hx, Bool.eq_false_of_not_eq_true other⟩

/-- A re-booking of an output's part changes ticks, JSEQ and the event area. -/
theorem Billing.rebook_frame (b : Billing) (o : Fin 6) (kind point : Nat) (q : Tick → TickOut → Bool) (a : Attr) (sid : Option Nat) :
    ∃ ts j ev, b.rebook o kind point q a sid = { b with ticks := ts, jseq := j, events := ev } ∧
      ∀ t ∈ ts, b.Rewritten (bookable o q) (fun t => { t with outs := upd t.outs o (fun x => { x with attr := a, sid := sid.getD x.sid }) }) t := by
  obtain ⟨ts, j, frame, rewritten⟩ := (b.note kind point [o.1, sid.getD 0] (bookable o q)).rewriteWhere_frame (bookable o q)
    (fun t => { t with outs := upd t.outs o (fun x => { x with attr := a, sid := sid.getD x.sid }) })
  exact ⟨ts, j, _, frame, rewritten⟩

/-- From `s` to `t` ticks have been re-booked and tariffs found again: bill time, the queue of commands and every register are as they were. -/
structure State.Rebooks (s t : State) : Prop where
  frame : t = { s with keys := t.keys, cnt := t.cnt, log := t.log,
                       bil := { s.bil with ticks := t.bil.ticks, jseq := t.bil.jseq, events := t.bil.events, lastB := t.bil.lastB,
                                           tariffNow := t.bil.tariffNow } }
  slots : ∀ n : Fin 256, n ≠ 4 → t.slot n = s.slot n

section
variable {s t u : State}

theorem State.Rebooks.refl : s.Rebooks s := ⟨rfl, fun _ _ => rfl⟩

theorem State.Rebooks.trans (h : s.Rebooks t) (k : t.Rebooks u) : s.Rebooks u where
  frame := k.frame.trans (by rw [h.frame])
  slots n hn := (k.slots n hn).trans (h.slots n hn)

/-- The event record of a re-booking is written. -/
theorem State.note_rebooks {kind point : Nat} {params : List Nat} {q : Tick → Bool} : s.Rebooks (s.onBil (fun b => b.note kind point params q)) :=
  ⟨rfl, fun _ _ => rfl⟩

/-- A change of the journal that re-books. -/
theorem State.onJournal_rebooks {f : Billing → Billing}
    (hf : ∃ ts j ev lb tn, f s.bil = { s.bil with ticks := ts, jseq := j, events := ev, lastB := lb, tariffNow := tn }) : s.Rebooks (s.onJournal f) := by
  obtain ⟨ks, cn, lg, frame, slots⟩ := s.onJournal_frame f
  obtain ⟨ts, j, ev, lb, tn, rebooked⟩ := hf
  rw [frame, rebooked]
  exact ⟨rfl, slots⟩

/-- Uncommitted ticks take their bill time again (R225, R246). -/
theorem State.retime_rebooks (s : State) (instant : Nat) : s.Rebooks (s.retime instant) := by
  refine State.onJournal_rebooks ?_
  dsimp only
  generalize hb : Billing.rebookWhere s.bil _ _ = b
  obtain ⟨ts, j, rewritten, -⟩ := s.bil.rewriteWhere_frame _ _
  rw [← hb, Billing.rebookWhere, rewritten]
  exact ⟨_, _, _, _, _, rfl⟩

/-- The tariffs in force are found again for the latest boundary. -/
def State.retariffNow (s : State) : State :=
  match s.bil.lastB with
  | some x => s.onBil (fun y => { y with tariffNow := Vector.ofFn (fun n => s.tariffAt n x) })
  | none => s

theorem State.retariffNow_rebooks : s.Rebooks s.retariffNow := by
  unfold State.retariffNow
  split
  · exact ⟨rfl, fun _ _ => rfl⟩
  · exact .refl

/-- An event is logged. -/
theorem State.logEv_rebooks {ev : Ev} {inst polder origin x y : Nat} : s.Rebooks (s.logEv ev inst polder origin x y) := by
  obtain ⟨cn, lg, frame, -⟩ := s.logEv_frame ev inst polder origin x y
  rw [frame]
  exact ⟨rfl, fun _ _ => rfl⟩

end

end Sys2Proof.Machine
end

section
/-!
A granted write of one register, from its writer to its answer (R42, R83, R102), for every writer that leaves the host ports alone.
-/

namespace Sys2Proof.Machine

/-- The state in which a granted write reaches its writer: the host ports, keys, counters, the log and the time of the last frame have moved. -/
def State.reaching (s : State) (hs : HostState) (ks : KeyReg) (cn : Counters) (lg : EventLog) : State :=
  { s with host := hs, keys := ks, cnt := cn, log := lg, pwr := { s.pwr with idleTb := s.clock.tb } }

/-- From `s` to `t` a write of session `h` has been answered with status `st`; its writer found state `u` and left state `a`. -/
structure State.Wrote (s u a t : State) (i : Fin 64) (h : Session) (st : Nat) : Prop where
  replies : s.Replies t i h st (if st = OK then 1 else 0) (if st = BUSY then [busyWord 0 7] else [])
  kept : (∀ n, a.slot n = u.slot n) → s.HostKept t i h
  stored : (∀ n : Fin 256, n ≠ 4 → a.slot n = u.slot n) → s.HostStored t i h
  path : a = u → s.PathOnly t i h
  frame : ∃ hs ks cn lg, t = { a with host := hs, keys := ks, cnt := cn, log := lg }

/-- A granted write goes to its register's writer and is answered as that has it. -/
theorem State.Granted.reaches {s : State} {i : Fin 64} {h : Session} {r : RegSpec} {ix : List Nat} {v : W64} (g : s.Granted i h r ix v)
    (d : r.Decoded ix) :
    ∃ hs ks cn lg, ∀ st a, writeReg r i h.polder ix v (s.reaching hs ks cn lg) = (st, a) → a.host = hs →
      ∃ t, s.askReg i r ix v = t ∧ s.Wrote (s.reaching hs ks cn lg) a t i h st := by
  have run := g.ready.runs 2 (r.addr ix) 1 [v]
  have write := g.askReg d
  obtain ⟨hs, ks, cn, lg, hu⟩ := run.path.frame
  change _ = s.reaching hs ks cn lg at hu
  dsimp only at write
  rw [hu] at run write
  refine ⟨hs, ks, cn, lg, fun st a taken host => ⟨_, write, ?_⟩⟩
  rw [taken]
  exact {
    replies := run.served _ (congrArg HostState.table host)
    kept := run.hostKept (wrote (st, a)) host
    stored := fun slots => by
      rw [← hu] at slots
      exact Act.answer_hostStored (host.trans (by rw [hu]; rfl)) slots
    path := fun same => Act.pathOnly (a := wrote (st, a)) (same ▸ run.path)
    frame := ⟨_, _, _, _, Act.answer_rest ..⟩ }

end Sys2Proof.Machine
end

section
/-! Period ends that bill time passes change what cuts the demand grid, and nothing else of billing (R233, R241). -/

namespace Sys2Proof.Machine

section
variable (b : Billing) (cal : List Nat)

/-- Period ends that are taken change the cuts and the latest one's calendar minute. -/
theorem Billing.foldl_takePeriodEnd_frame (at_ : Nat → Nat) (l : List Nat) :
    ∃ m c, l.foldl (fun b m => b.takePeriodEnd (at_ m) m) b = { b with lastPeriodMin := m, cuts := c } := by
  refine List.foldlRecOn (motive := fun x : Billing => ∃ m c, x = { b with lastPeriodMin := m, cuts := c }) _ _ ⟨_, _, rfl⟩ ?_
  rintro _ ⟨m, c, rfl⟩ x -
  unfold Billing.takePeriodEnd
  split
  · exact ⟨_, _, rfl⟩
  · exact ⟨_, _, rfl⟩

theorem Billing.periodsUnder_frame (off : Int) (lo hi : Nat) :
    ∃ m c, b.periodsUnder cal off lo hi = { b with lastPeriodMin := m, cuts := c } :=
  b.foldl_takePeriodEnd_frame (fun m => (((m * 60000 : Nat) : Int) - 60000 * off).toNat) _

theorem Billing.periodsJumped_frame (old new : Int) (t : Nat) : ∃ m c, b.periodsJumped cal old new t = { b with lastPeriodMin := m, cuts := c } :=
  b.foldl_takePeriodEnd_frame (fun _ => t) _

theorem Billing.periodEnds_frame (calcfg lo hi : Nat) : ∃ m c, b.periodEnds cal calcfg lo hi = { b with lastPeriodMin := m, cuts := c } := by
  unfold Billing.periodEnds
  extract_lets n old new
  split
  · obtain ⟨m, c, before⟩ := b.periodsUnder_frame cal old lo n
    obtain ⟨m', c', jumped⟩ := Billing.periodsJumped_frame { b with lastPeriodMin := m, cuts := c } cal old new n
    rw [before, jumped]
    exact Billing.periodsUnder_frame { b with lastPeriodMin := m', cuts := c' } cal new n hi
  · exact b.periodsUnder_frame cal old lo hi

end

end Sys2Proof.Machine
end

section
/-! O27: bill time meets wall time; tariff commands and demand synchronisations (R234, R235, R243, R246 to R249). -/

namespace Sys2Proof.Machine

theorem bilTimeset_decoded : R.BIL_TIMESET.Decoded [] := ⟨by decide, by decide, by decide, rfl⟩
theorem bilTcmd_decoded : R.BIL_TCMD.Decoded [] := ⟨by decide, by decide, by decide, rfl⟩
theorem bilDsync_decoded : R.BIL_DSYNC.Decoded [] := ⟨by decide, by decide, by decide, rfl⟩

/-- A condition that is latched is kept. -/
theorem State.latch_kept (s : State) (r : RegSpec) (ix : List Nat) (bits : Nat) : (s.latch r ix bits).kept r ix &&& bits = bits := by
  refine Nat.eq_of_testBit_eq fun k => ?_
  simpa [State.kept, State.latch] using Or.inr

/-! ### Bill time meets wall time (R246) -/

/-- Billing once bill time `b` has met wall time `w` at TB `instant`: stepped forward to it, slewing towards it, or held until it comes. -/
structure Billing.Meets (x : Billing) (b w instant : Nat) : Prop where
  step : b ≤ w → x.mode = .normal ∧ x.timeAt = 1000 * w
  slew : w < b → b ≤ w + 2000 → x.mode = .slew ∧ x.timeAt = 1000 * b
  hold : w + 2000 < b → x.mode = .hold ∧ x.timeAt = 1000 * b
  since : x.timeTb = instant

/-- What meets wall time: bill time, the cuts and marks that a step passes, and an occurrence of T_TIME where bill time is held. -/
theorem State.meetWall_frame (s : State) (b w instant : Nat) :
    ∃ m cn lg x, s.meetWall b w instant = { s with mseal := m, cnt := cn, log := lg, bil := x } ∧ x.Meets b w instant ∧ x.treg = s.bil.treg ∧
      (w + 2000 < b → (m.ledger[T_TIME]).dCount = min (2 ^ 32 - 1) ((s.mseal.ledger[T_TIME]).dCount + 1)) := by
  unfold State.meetWall
  by_cases step : b ≤ w
  · rw [if_pos step]
    obtain ⟨m, c, ends⟩ := (s.mark .skip b w).bil.periodEnds_frame s.calendar s.calcfg b w
    refine ⟨_, _, _, _, rfl, ⟨fun _ => ⟨rfl, rfl⟩, ?_, ?_, rfl⟩, ?_, ?_⟩
    · omega
    · omega
    · have treg := congrArg Billing.treg ends
      exact treg
    · omega
  rw [if_neg step]
  by_cases near : b - w ≤ 2000
  · rw [if_pos near]
    refine ⟨_, _, _, _, rfl, ⟨?_, fun _ _ => ⟨rfl, rfl⟩, ?_, rfl⟩, rfl, ?_⟩
    · omega
    · omega
    · omega
  · rw [if_neg near]
    obtain ⟨m, cn, lg, counted, ledger, -⟩ := (s.onBil (fun x => { x with mode := .hold, timeAt := 1000 * b, timeTb := instant })).tamper_frame
      T_TIME (min (2 ^ 32 - 1) ((b - w) / 1000))
    refine ⟨m, cn, lg, _, counted, ⟨?_, ?_, fun _ => ⟨rfl, rfl⟩, rfl⟩, rfl, fun _ => (occur_counts ledger).1⟩
    · omega
    · omega

/-! ### A write of BIL_TIMESET (R246 to R249) -/

/-- Wall time is `w` at TB `instant`. -/
def State.wallSet (s : State) (w instant : Nat) : State := { s with clock := { s.clock with wall := some (w, instant) } }

/-- From `s` to `t` wall time `w` has been set for TB `instant`, where bill time was `b`. -/
structure State.TimeSet (s t : State) (b w instant : Nat) : Prop where
  clock : t.clock = { s.clock with wall := some (w, instant) }
  meets : t.bil.Meets b w instant
  ledger : w + 2000 < b → (t.mseal.ledger[T_TIME]).dCount = min (2 ^ 32 - 1) ((s.mseal.ledger[T_TIME]).dCount + 1)
  treg : t.bil.treg = s.bil.treg
  wide : t.bil.wide = false
  slots : ∀ n : Fin 256, n ≠ 4 → t.slot n = s.slot n
  frame : t = { s with sticky := t.sticky, clock := t.clock, keys := t.keys, cnt := t.cnt, log := t.log, bil := t.bil, mseal := t.mseal }

section
variable {s : State} {wall back : Nat}

/-- With no bill time restored the first setting of time starts bill time at wall time. -/
theorem State.writeTimeset_start {v : Nat} (unknown : s.bil.mode = .unknown) (fresh : s.bil.timeAt < 1000) :
    ∃ x, s.writeTimeset v = (OK, { s with clock := { s.clock with wall := some (F.BIL_TIMESET_WALL.get v, s.clock.tb) }, bil := x }) ∧
      x.mode = .normal ∧ x.timeAt = 1000 * F.BIL_TIMESET_WALL.get v ∧ x.treg = s.bil.treg ∧ x.wide = false := by
  unfold State.writeTimeset State.firstTime
  dsimp only
  rw [if_pos unknown, if_pos (Nat.div_eq_of_lt fresh)]
  exact ⟨_, rfl, rfl, rfl, rfl, rfl⟩

/-- The first setting of time lets a restored bill time meet wall time. -/
theorem State.writeTimeset_restored {v : Nat} (unknown : s.bil.mode = .unknown) (restored : s.bil.timeAt / 1000 ≠ 0) :
    ∃ t, s.writeTimeset v = (OK, t) ∧ s.TimeSet t (s.bil.timeAt / 1000) (F.BIL_TIMESET_WALL.get v) s.clock.tb := by
  unfold State.writeTimeset State.firstTime
  dsimp only
  rw [if_pos unknown, if_neg restored]
  obtain ⟨m, cn, lg, x, met, meets, treg, ledger⟩ := (s.wallSet (F.BIL_TIMESET_WALL.get v) s.clock.tb).meetWall_frame
    (s.bil.timeAt / 1000) (F.BIL_TIMESET_WALL.get v) s.clock.tb
  rw [← State.wallSet, met]
  exact ⟨_, rfl, rfl, ⟨meets.step, meets.slew, meets.hold, meets.since⟩, ledger, treg, rfl, fun _ _ => rfl, rfl⟩

/-- A correction from an instant on, where bill time was `b`: bill time meets wall time `w`, and the uncommitted ticks from there on are booked again. -/
def State.corrected (s : State) (b w back instant : Nat) : State :=
  (((((s.wallSet w instant).meetWall b w instant).onBil
    (fun x => x.note 1 instant [b, w, back] (fun t => t.s.isSome && decide (instant ≤ t.startTb)))).retime instant).retariffNow).logEv
      .clockCorrection 0 7 0 w b

theorem State.corrected_rebooks (s : State) (b w back instant : Nat) :
    ((s.wallSet w instant).meetWall b w instant).Rebooks (s.corrected b w back instant) :=
  (State.note_rebooks.trans (State.retime_rebooks _ _)).trans (State.retariffNow_rebooks.trans State.logEv_rebooks)

/-- A correction takes the instant that it names, or, with TIME_LATE, the oldest one that may still move. -/
theorem State.correctTime_eq {first named b : Nat} (oldest : (s.bil.oldest.map (·.startTb)).getD s.boundTb = first)
    (names : s.clock.tb - 25000 * min 2000 back = named) (at_ : s.billAt (max first named) = some b) :
    s.correctTime wall back =
      if named < first then (s.corrected b (wall + (first - named) / 25000) back (max first named)).latch R.BIL_CMD_STAT [] F.BIL_CMD_STAT_TIME_LATE.mask
      else s.corrected b (wall + (first - named) / 25000) back (max first named) := by
  unfold State.correctTime
  dsimp only
  rw [oldest, names]
  by_cases late : named < first
  · rw [max_eq_left late.le] at at_ ⊢
    simp only [late, decide_true, if_true, at_]
    rfl
  · have early := Nat.not_lt.mp late
    rw [max_eq_right early] at at_ ⊢
    simp only [late, decide_false, Bool.false_eq_true, if_false, at_, Nat.sub_eq_zero_of_le early]
    rfl

/-- A later setting of time. -/
theorem State.writeTimeset_correct {v first named b : Nat} (known : s.bil.mode ≠ .unknown)
    (oldest : (s.bil.oldest.map (·.startTb)).getD s.boundTb = first)
    (names : s.clock.tb - 25000 * min 2000 (F.BIL_TIMESET_BACK.get v) = named) (at_ : s.billAt (max first named) = some b) :
    ∃ t, s.writeTimeset v = (OK, t) ∧ s.TimeSet t b (F.BIL_TIMESET_WALL.get v + (first - named) / 25000) (max first named) ∧
      (named < first → t.kept R.BIL_CMD_STAT [] &&& F.BIL_CMD_STAT_TIME_LATE.mask = F.BIL_CMD_STAT_TIME_LATE.mask) := by
  obtain ⟨m, cn, lg, x, met, meets, treg, ledger⟩ := (s.wallSet (F.BIL_TIMESET_WALL.get v + (first - named) / 25000) (max first named)).meetWall_frame b
    (F.BIL_TIMESET_WALL.get v + (first - named) / 25000) (max first named)
  have rebooks := s.corrected_rebooks b (F.BIL_TIMESET_WALL.get v + (first - named) / 25000) (F.BIL_TIMESET_BACK.get v) (max first named)
  unfold State.writeTimeset
  dsimp only
  rw [if_neg known, State.correctTime_eq oldest names at_]
  generalize s.corrected _ _ _ _ = u at rebooks ⊢
  rw [met] at rebooks
  have hu := rebooks.frame
  have timed : s.TimeSet (u.onBil (fun x => { x with wide := false })) b (F.BIL_TIMESET_WALL.get v + (first - named) / 25000) (max first named) := by
    rw [hu]
    exact ⟨rfl, ⟨meets.step, meets.slew, meets.hold, meets.since⟩, ledger, treg, rfl, rebooks.slots, rfl⟩
  split
  case isTrue late =>
    obtain ⟨clock, meets, ledger, treg, wide, slots, frame⟩ := timed
    exact ⟨_, rfl, ⟨clock, meets, ledger, treg, wide, slots, by rw [hu]; rfl⟩, fun _ => u.latch_kept ..⟩
  case isFalse early => exact ⟨_, rfl, timed, fun late => absurd late early⟩

end

/-! ### Tariff commands (R234, R235) -/

/-- A command that is queued stands in the queue, which has one more. -/
theorem mem_putCmd (c : TCmd) (l : List TCmd) : c ∈ putCmd c l ∧ (putCmd c l).length = l.length + 1 := by
  induction l with
  | nil => simp [putCmd]
  | cons x xs ih =>
    unfold putCmd
    split
    · simp
    · simp [ih]

/-- The command that a write of BIL_TCMD names, where bill time is `now` and nothing before `f` may move. -/
def State.tcmdOf (s : State) (now f v : Nat) : TCmd where
  tariff := F.BIL_TCMD_TARIFF.get v
  outputs := F.BIL_TCMD_OUTPUTS.get v
  site := F.BIL_TCMD_SITE.get v == 1
  effective := if F.BIL_TCMD_EFFECTIVE.get v = 0 then s.nextS else max (F.BIL_TCMD_EFFECTIVE.get v) f
  order := s.bil.cmdOrder
  applied := decide ((if F.BIL_TCMD_EFFECTIVE.get v = 0 then s.nextS else max (F.BIL_TCMD_EFFECTIVE.get v) f) ≤ now)

/-- From `s` to `t` the command `c` has been queued, late or not, and the ticks that it covers have been booked again. -/
structure State.Commanded (s t : State) (c : TCmd) (late : Prop) : Prop where
  queue : t.bil.queue = putCmd c s.bil.queue
  order : t.bil.cmdOrder = s.bil.cmdOrder + 1
  treg : t.bil.treg = s.bil.treg
  marked : late → t.kept R.BIL_CMD_STAT [] &&& F.BIL_CMD_STAT_TCMD_LATE.mask = F.BIL_CMD_STAT_TCMD_LATE.mask
  unmarked : ¬late → t.sticky = s.sticky
  slots : ∀ n : Fin 256, n ≠ 4 → t.slot n = s.slot n
  frame : t = { s with sticky := t.sticky, keys := t.keys, cnt := t.cnt, log := t.log, bil := t.bil }

/-- A queue with one more command. -/
def State.queued (s : State) (c : TCmd) : State := s.onBil (fun b => { b with queue := putCmd c b.queue, cmdOrder := b.cmdOrder + 1 })

/-- The ticks that a command covers are booked again, with its event record. -/
def State.commanded (s : State) (c : TCmd) : State :=
  ((s.queued c).onJournal (fun b => (b.note 0 c.effective [c.tariff, c.outputs, b2n c.site]
    (fun t => t.s.any (fun x => decide (c.effective ≤ x)))).rebookWhere (fun t => t.s.any (fun x => decide (c.effective ≤ x))) id)).retariffNow

theorem State.commanded_rebooks (s : State) (c : TCmd) : (s.queued c).Rebooks (s.commanded c) := by
  refine (State.onJournal_rebooks ?_).trans State.retariffNow_rebooks
  dsimp only
  generalize hb : Billing.rebookWhere _ _ _ = b
  obtain ⟨ts, j, rewritten, -⟩ := Billing.rewriteWhere_frame _ _ _
  rw [← hb, Billing.rebookWhere, rewritten]
  exact ⟨_, _, _, _, _, rfl⟩

/-- A command that is queued early, and one that is queued late, with TCMD_LATE. -/
theorem State.commanded_early (s : State) (c : TCmd) {late : Prop} (early : ¬late) : s.Commanded (s.commanded c) c late := by
  obtain ⟨frame, slots⟩ := s.commanded_rebooks c
  rw [frame]
  exact ⟨rfl, rfl, rfl, fun h => absurd h early, fun _ => rfl, slots, rfl⟩

theorem State.commanded_late (s : State) (c : TCmd) (behind : Nat) {late : Prop} (h : late) :
    s.Commanded (((s.commanded c).latch R.BIL_CMD_STAT [] F.BIL_CMD_STAT_TCMD_LATE.mask).logEv .tcmdLate 0 7 0 behind 0) c late := by
  obtain ⟨frame, slots⟩ := s.commanded_rebooks c
  have kept := (s.commanded c).latch_kept R.BIL_CMD_STAT [] F.BIL_CMD_STAT_TCMD_LATE.mask
  obtain ⟨cn, lg, logged, -⟩ := ((s.commanded c).latch R.BIL_CMD_STAT [] F.BIL_CMD_STAT_TCMD_LATE.mask).logEv_frame .tcmdLate 0 7 0 behind 0
  rw [logged]
  generalize s.commanded c = t at frame slots kept
  rw [frame] at kept ⊢
  exact ⟨rfl, rfl, rfl, fun _ => kept, fun early => absurd h early, slots, rfl⟩

section
variable {s : State} {v now f : Nat} (clock : s.billNow = some now) (front : s.front = some f)
include clock front

/-- Outside the limits a tariff command is ignored. -/
theorem State.writeTcmd_ignored
    (outside : 8 ≤ F.BIL_TCMD_TARIFF.get v ∧ F.BIL_TCMD_TARIFF.get v < 15 ∨ now + 86400000 < F.BIL_TCMD_EFFECTIVE.get v) :
    s.writeTcmd v = (OK, s.ignoreCmd) := by
  unfold State.writeTcmd
  rw [clock, front]
  exact if_pos outside

/-- A command more than the eight that may wait is refused. -/
theorem State.writeTcmd_full (tariff : F.BIL_TCMD_TARIFF.get v < 8 ∨ F.BIL_TCMD_TARIFF.get v = 15)
    (ahead : F.BIL_TCMD_EFFECTIVE.get v ≤ now + 86400000) (full : 8 ≤ (s.bil.queue.filter (fun c => !c.applied)).length) :
    s.writeTcmd v = (FULL, s) := by
  unfold State.writeTcmd
  rw [clock, front]
  exact (if_neg (by omega)).trans (if_pos full)

/-- A command within the limits is queued. -/
theorem State.writeTcmd_queued (tariff : F.BIL_TCMD_TARIFF.get v < 8 ∨ F.BIL_TCMD_TARIFF.get v = 15)
    (ahead : F.BIL_TCMD_EFFECTIVE.get v ≤ now + 86400000) (room : (s.bil.queue.filter (fun c => !c.applied)).length < 8) :
    ∃ t, s.writeTcmd v = (OK, t) ∧
      s.Commanded t (s.tcmdOf now f v) (F.BIL_TCMD_EFFECTIVE.get v ≠ 0 ∧ F.BIL_TCMD_EFFECTIVE.get v < f) := by
  unfold State.writeTcmd
  rw [clock, front]
  dsimp only
  rw [if_neg (by omega), if_neg (by omega)]
  split
  case isTrue late => exact ⟨_, rfl, s.commanded_late (s.tcmdOf now f v) _ late⟩
  case isFalse early => exact ⟨_, rfl, s.commanded_early (s.tcmdOf now f v) early⟩

/-! ### Demand synchronisations (R243) -/

/-- A synchronisation within its range cuts the interval that holds its point, or moves the grid at once. -/
theorem State.writeDsync_sync (ahead : f ≤ F.BIL_DSYNC_END.get v) (near : F.BIL_DSYNC_END.get v ≤ now + demLen s.bil.demcfg) :
    ∃ x, s.writeDsync v = (OK, { s with bil := x }) ∧ x.running = s.bil.running ∧
      (s.bil.running.start < F.BIL_DSYNC_END.get v →
        { at_ := F.BIL_DSYNC_END.get v, periodEnd := false, newPhase := some (F.BIL_DSYNC_END.get v % demLen s.bil.demcfg) } ∈ x.cuts ∧
          x.phase = s.bil.phase) ∧
      (F.BIL_DSYNC_END.get v ≤ s.bil.running.start → x.phase = F.BIL_DSYNC_END.get v % demLen s.bil.demcfg) := by
  unfold State.writeDsync
  rw [clock, front]
  dsimp only
  rw [if_neg (by omega)]
  by_cases past : F.BIL_DSYNC_END.get v ≤ s.bil.running.start
  · refine ⟨_, rfl, ?_, fun h => absurd past (by omega), fun _ => ?_⟩
    · simp only [past, if_true]
      rfl
    · simp only [past, if_true]
      rfl
  · refine ⟨_, rfl, ?_, fun _ => ?_, fun h => absurd h past⟩
    · simp only [past, if_false]
      rfl
    · simp only [past, if_false]
      exact ⟨List.mem_append_right _ (List.mem_singleton_self _), rfl⟩

/-- Outside its range a synchronisation is ignored. -/
theorem State.writeDsync_ignored (outside : F.BIL_DSYNC_END.get v < f ∨ now + demLen s.bil.demcfg < F.BIL_DSYNC_END.get v) :
    s.writeDsync v = (OK, s.ignoreCmd) := by
  unfold State.writeDsync
  rw [clock, front]
  exact if_pos outside

end

/-! ### While bill time is unknown (R234, R243) -/

section
variable {s : State} {v : Nat} (unknown : s.bil.mode = .unknown)
include unknown

theorem State.billNow_unknown : s.billNow = none := by
  unfold State.billNow State.billMicro
  rw [unknown]
  rfl

theorem State.writeTcmd_noTime : s.writeTcmd v = (NOTIME, s) := by
  unfold State.writeTcmd
  rw [State.billNow_unknown unknown]

theorem State.writeDsync_noTime : s.writeDsync v = (NOTIME, s) := by
  unfold State.writeDsync
  rw [State.billNow_unknown unknown]

end

/-! ### The answers -/

section
variable {s t : State} {i : Fin 64} {h : Session} {hs : HostState} {ks : KeyReg} {cn : Counters} {lg : EventLog}

/-- A command that is ignored is answered OK, keeps IGNORED, and changes nothing else. -/
theorem State.Wrote.ignored (w : s.Wrote (s.reaching hs ks cn lg) (s.reaching hs ks cn lg).ignoreCmd t i h OK) :
    s.Replies t i h OK 1 [] ∧ s.HostKept t i h ∧ t.kept R.BIL_CMD_STAT [] &&& F.BIL_CMD_STAT_IGNORED.mask = F.BIL_CMD_STAT_IGNORED.mask ∧
      t = { s with sticky := t.sticky, host := t.host, keys := t.keys, cnt := t.cnt, log := t.log, pwr := { s.pwr with idleTb := s.clock.tb } } := by
  obtain ⟨replies, kept, -, -, hs', ks', cn', lg', rfl⟩ := w
  exact ⟨replies, kept fun _ => rfl, (s.reaching hs ks cn lg).latch_kept .., rfl⟩

end

/-- Settles O27: each of the three registers is written as its writer has it (`Granted.reaches`); a setting of time is `meetWall` at the instant that
it stands for, a tariff command is put into the queue, a synchronisation cuts the grid. -/
theorem billTimeAndTariffCommands : Obligations.BillTimeAndTariffCommands := by
  unfold Obligations.BillTimeAndTariffCommands
  refine ⟨?start, ?set, ?slew, ?hold, ?queued, ?ignored, ?full, ?sync, ?notSynced, ?unknown⟩
  case start =>
    intro i v h s g unknown fresh
    obtain ⟨hs, ks, cn, lg, reach⟩ := g.reaches bilTimeset_decoded
    obtain ⟨x, taken, mode, timeAt, treg, wide⟩ := State.writeTimeset_start (s := s.reaching hs ks cn lg) (v := v.toNat) unknown fresh
    obtain ⟨t, asked, replies, kept, -, -, hs', ks', cn', lg', rfl⟩ := reach _ _ taken rfl
    exact ⟨_, congrArg Host.Outcome.next asked, replies, kept fun _ => rfl, mode, rfl, timeAt, treg, wide, rfl⟩
  case set =>
    intro i v h s wall w b first instant g hwall at_
    obtain ⟨hs, ks, cn, lg, reach⟩ := g.reaches bilTimeset_decoded
    have taken : ∃ a, (s.reaching hs ks cn lg).writeTimeset v.toNat = (OK, a) ∧ (s.reaching hs ks cn lg).TimeSet a b w instant ∧
        (s.bil.mode ≠ .unknown → s.clock.tb - 25000 * min 2000 (F.BIL_TIMESET_BACK.get v.toNat) < first →
          a.kept R.BIL_CMD_STAT [] &&& F.BIL_CMD_STAT_TIME_LATE.mask = F.BIL_CMD_STAT_TIME_LATE.mask) := by
      subst hwall
      rcases at_ with ⟨unknown, rfl, restored, -, rfl, rfl⟩ | ⟨known, oldest, rfl, rfl, at_⟩
      · obtain ⟨a, taken, timed⟩ := State.writeTimeset_restored (s := s.reaching hs ks cn lg) (v := v.toNat) unknown restored
        exact ⟨a, taken, timed, fun known => absurd unknown known⟩
      · obtain ⟨a, taken, timed, late⟩ := State.writeTimeset_correct (s := s.reaching hs ks cn lg) (v := v.toNat) known oldest.symm rfl at_
        exact ⟨a, taken, timed, fun _ => late⟩
    obtain ⟨a, taken, ⟨clock, ⟨step, slew, hold, since⟩, ledger, treg, wide, slots, frame⟩, late⟩ := taken
    obtain ⟨t, asked, replies, -, stored, -, hs', ks', cn', lg', rfl⟩ := reach _ _ taken (congrArg State.host frame)
    refine ⟨_, congrArg Host.Outcome.next asked, replies, stored slots, clock, step, slew, fun far => ?_, late, since, treg, wide, ?_⟩
    · exact ⟨(hold far).1, (hold far).2, ledger far⟩
    · rw [frame]
      rfl
  case slew => exact fun s w now slewing met => congrArg Host.Outcome.next (by unfold slewEnd; rw [now]; exact if_pos ⟨slewing, met⟩)
  case hold => exact fun s w now holding met => congrArg Host.Outcome.next (by unfold holdEnd; rw [now]; exact if_pos ⟨holding, met⟩)
  case queued =>
    intro i v h s now f eff tariff g clock front heff htariff low ahead room
    subst heff htariff
    obtain ⟨hs, ks, cn, lg, reach⟩ := g.reaches bilTcmd_decoded
    obtain ⟨a, taken, queue, order, treg, marked, unmarked, slots, frame⟩ :=
      State.writeTcmd_queued (s := s.reaching hs ks cn lg) (v := v.toNat) clock front low ahead room
    obtain ⟨t, asked, replies, -, stored, -, hs', ks', cn', lg', rfl⟩ := reach _ _ taken (congrArg State.host frame)
    obtain ⟨queued, longer⟩ := mem_putCmd ((s.reaching hs ks cn lg).tcmdOf now f v.toNat) s.bil.queue
    refine ⟨_, (s.reaching hs ks cn lg).tcmdOf now f v.toNat, congrArg Host.Outcome.next asked, replies, stored slots, queue ▸ queued, rfl, rfl, rfl, rfl,
      rfl, order, (congrArg List.length queue).trans longer, treg, fun named late => marked ⟨named, late⟩, fun early => unmarked ?_, ?_⟩
    · rintro ⟨named, late⟩
      omega
    · rw [frame]
      rfl
  case ignored =>
    intro i v h s now f g clock front outside
    obtain ⟨hs, ks, cn, lg, reach⟩ := g.reaches bilTcmd_decoded
    obtain ⟨t, asked, wrote⟩ := reach _ _ (State.writeTcmd_ignored clock front outside) rfl
    exact ⟨t, congrArg Host.Outcome.next asked, wrote.ignored⟩
  case full =>
    intro i v h s now f g clock front low ahead full
    obtain ⟨hs, ks, cn, lg, reach⟩ := g.reaches bilTcmd_decoded
    obtain ⟨t, asked, wrote⟩ := reach _ _ (State.writeTcmd_full clock front low ahead full) rfl
    exact ⟨t, congrArg Host.Outcome.next asked, wrote.replies, wrote.path rfl⟩
  case sync =>
    intro i v h s now f x g clock front hx ahead near
    subst hx
    obtain ⟨hs, ks, cn, lg, reach⟩ := g.reaches bilDsync_decoded
    obtain ⟨b, taken, running, cut, moved⟩ := State.writeDsync_sync (s := s.reaching hs ks cn lg) (v := v.toNat) clock front ahead near
    obtain ⟨t, asked, replies, kept, -, -, hs', ks', cn', lg', rfl⟩ := reach _ _ taken rfl
    exact ⟨_, congrArg Host.Outcome.next asked, replies, kept fun _ => rfl, running, cut, moved, rfl⟩
  case notSynced =>
    intro i v h s now f x g clock front hx outside
    subst hx
    obtain ⟨hs, ks, cn, lg, reach⟩ := g.reaches bilDsync_decoded
    obtain ⟨t, asked, wrote⟩ := reach _ _ (State.writeDsync_ignored clock front outside) rfl
    exact ⟨t, congrArg Host.Outcome.next asked, wrote.ignored⟩
  case unknown =>
    refine fun i v h s unknown => ⟨fun g => ?_, fun g => ?_⟩
    · obtain ⟨hs, ks, cn, lg, reach⟩ := g.reaches bilTcmd_decoded
      obtain ⟨t, asked, wrote⟩ := reach _ _ (State.writeTcmd_noTime unknown) rfl
      exact ⟨t, congrArg Host.Outcome.next asked, wrote.replies, wrote.path rfl⟩
    · obtain ⟨hs, ks, cn, lg, reach⟩ := g.reaches bilDsync_decoded
      obtain ⟨t, asked, wrote⟩ := reach _ _ (State.writeDsync_noTime unknown) rfl
      exact ⟨t, congrArg Host.Outcome.next asked, wrote.replies, wrote.path rfl⟩

end Sys2Proof.Machine
end

section
/-!
Records that a commit or a period end makes (R241, R270 to R276), and demand intervals that close (R236 to R244).
-/

namespace Sys2Proof.Machine

/-! ### Records (R270 to R276) -/

/-- A use of a key, refused or not, changes keys, counters and the log. -/
theorem State.keyUse_frame (s : State) (n : Fin 256) (engine polder : Nat) :
    ∃ ks cn lg, (s.keyUse n engine polder).2 = { s with keys := ks, cnt := cn, log := lg } := by
  unfold State.keyUse
  split
  case h_1 st _ =>
    obtain ⟨cn, lg, logged, -⟩ := (s.refuse st n.1 engine polder true).logEv_frame .keyRefusal n.1 polder 0 engine st
    exact ⟨_, cn, lg, logged⟩
  case h_2 => exact ⟨_, _, _, rfl⟩

/-- From `s` to `t` records have been made: signed, queued or lost; those that are due to sessions are struck off. -/
def State.Recorded (s t : State) : Prop :=
  t = { s with keys := t.keys, cnt := t.cnt, log := t.log, mseal := t.mseal, bil := { s.bil with attr := t.bil.attr } }

section
variable {s t u : State}

theorem State.Recorded.refl : s.Recorded s := rfl

theorem State.Recorded.trans (h : s.Recorded t) (k : t.Recorded u) : s.Recorded u := Eq.trans k (by rw [h])

theorem State.Recorded.foldl {β : Type} {f : State → β → State} (hf : ∀ (u : State) (x : β), u.Recorded (f u x)) (l : List β) :
    s.Recorded (l.foldl f s) :=
  List.foldlRecOn l f .refl fun u h x _ => h.trans (hf u x)

theorem State.signFlue_recorded {b : FlueBody} {polder : Nat} : s.Recorded (s.signFlue b polder) := by
  obtain ⟨ks, cn, lg, used⟩ := s.keyUse_frame 3 engFLUE polder
  unfold State.signFlue
  split
  case h_1 refused =>
    rw [refused] at used
    subst used
    rfl
  case h_2 s1 started =>
    rw [started] at used
    obtain ⟨ks', cn', lg', stored⟩ := s1.storeUse_frame
    rw [stored]
    subst used
    rfl

theorem State.makeFlue_recorded {b : FlueBody} : s.Recorded (s.makeFlue b) := by
  unfold State.makeFlue
  split
  · exact State.Recorded.trans State.signFlue_recorded rfl
  · split
    · rfl
    · rfl

theorem State.periodRecords_recorded {l : List PeriodClose} : s.Recorded (s.periodRecords l) :=
  .foldl (fun _ _ => .foldl (fun _ _ => State.makeFlue_recorded) _) _

theorem State.endRecords_recorded : s.Recorded s.endRecords := by
  refine .foldl (fun _ _ => .foldl (fun _ _ => ?_) _) _
  split
  · exact State.Recorded.trans State.makeFlue_recorded rfl
  · exact .refl

theorem State.startRecords_recorded : s.Recorded s.startRecords := by
  refine .foldl (fun _ _ => .foldl (fun _ _ => ?_) _) _
  split
  · exact State.Recorded.trans State.makeFlue_recorded rfl
  · exact .refl

end

/-! ### Demands of a closed interval (R237 to R240) -/

/-- A register that takes a demand holds the larger of the two. -/
theorem MaxDemand.take_d (m d : MaxDemand) : (m.take d).d = max m.d d.d := by
  unfold MaxDemand.take
  split
  case isTrue greater => exact (max_eq_right greater.le).symm
  case isFalse other => exact (max_eq_left (Nat.not_lt.mp other)).symm

/-- The registers of an output, by tariff and in all, once they have taken a demand (R240). -/
def MaxDemand.credit (d : MaxDemand) (m : Vector MaxDemand 9) : Vector MaxDemand 9 :=
  (if h : d.tariff < 8 then upd m ⟨d.tariff, by omega⟩ (fun x => x.take d) else m).set 8 ((m[8]).take d)

theorem MaxDemand.credit_all (d : MaxDemand) (m : Vector MaxDemand 9) : (d.credit m)[(8 : Fin 9)] = (m[8]).take d :=
  Vector.getElem_set_self _

/-- No register falls. -/
theorem MaxDemand.credit_le (d : MaxDemand) (m : Vector MaxDemand 9) (k : Fin 9) : (m[k]).d ≤ ((d.credit m)[k]).d := by
  by_cases all : k = 8
  · subst all
    rw [MaxDemand.credit_all, MaxDemand.take_d]
    exact le_max_left _ _
  have other : (d.credit m)[k] = (if h : d.tariff < 8 then upd m ⟨d.tariff, by omega⟩ (fun x => x.take d) else m)[k] :=
    Vector.getElem_set_ne _ _ fun e => all (Fin.ext e.symm)
  rw [other]
  split
  case isTrue h =>
    by_cases e : ⟨d.tariff, by omega⟩ = k
    · subst e
      rw [upd_same, MaxDemand.take_d]
      exact le_max_left _ _
    · rw [upd_other _ _ _ _ e]
  case isFalse => exact le_rfl

/-- The demand that a history of intervals forms for an output is the latest one, and the output's registers take it (R237 to R240). -/
def Billing.formDemand (hist : List Interval) (b : Billing) (n : Fin 7) : Billing :=
  match demandOf b.demcfg hist n with
  | none => b
  | some d => { b with last := b.last.set n d, md := upd b.md n d.credit }

section
variable {b : Billing} {hist : List Interval}

theorem Billing.formDemand_frame (n : Fin 7) : ∃ la md, b.formDemand hist n = { b with last := la, md := md } := by
  unfold Billing.formDemand
  split
  · exact ⟨_, _, rfl⟩
  · exact ⟨_, _, rfl⟩

theorem Billing.formDemand_md_le (m n : Fin 7) (k : Fin 9) : ((b.md[n])[k]).d ≤ (((b.formDemand hist m).md[n])[k]).d := by
  unfold Billing.formDemand
  split
  case h_1 => exact le_rfl
  case h_2 d _ =>
    dsimp only
    by_cases e : m = n
    · subst e
      rw [upd_same]
      exact d.credit_le _ k
    · rw [upd_other _ _ _ _ e]

theorem Billing.foldl_formDemand_frame (l : List (Fin 7)) : ∃ la md, l.foldl (Billing.formDemand hist) b = { b with last := la, md := md } ∧
    ∀ (n : Fin 7) (k : Fin 9), ((b.md[n])[k]).d ≤ ((md[n])[k]).d := by
  refine List.foldlRecOn (motive := fun c : Billing => ∃ la md, c = { b with last := la, md := md } ∧
    ∀ (n : Fin 7) (k : Fin 9), ((b.md[n])[k]).d ≤ ((md[n])[k]).d) _ _ ⟨_, _, rfl, fun _ _ => le_rfl⟩ ?_
  rintro c ⟨la, md, hc, le⟩ m -
  obtain ⟨la', md', frame⟩ := c.formDemand_frame (hist := hist) m
  refine ⟨la', md', by rw [frame, hc], fun n k => (le n k).trans ?_⟩
  have step := c.formDemand_md_le (hist := hist) m n k
  rw [frame] at step
  rw [hc] at step
  exact step

/-- Another output's demand leaves the registers of an output as they were. -/
theorem Billing.foldl_formDemand_other {l : List (Fin 7)} {n : Fin 7} (h : n ∉ l) :
    (l.foldl (Billing.formDemand hist) b).last[n] = b.last[n] ∧ (l.foldl (Billing.formDemand hist) b).md[n] = b.md[n] := by
  induction l generalizing b with
  | nil => exact ⟨rfl, rfl⟩
  | cons m l ih =>
    obtain ⟨ne, rest⟩ := List.ne_and_not_mem_of_not_mem_cons h
    rw [List.foldl_cons]
    obtain ⟨last, md⟩ := ih (b := b.formDemand hist m) rest
    rw [last, md]
    unfold Billing.formDemand
    split
    · exact ⟨rfl, rfl⟩
    · exact ⟨Vector.getElem_set_ne m.2 n.2 fun e => ne (Fin.ext e.symm), upd_other _ _ _ _ ne.symm⟩

/-- An output's demand that is formed is its latest one, and its registers take it. -/
theorem Billing.foldl_formDemand_own {l : List (Fin 7)} {n : Fin 7} {d : MaxDemand} (nodup : l.Nodup) (h : n ∈ l)
    (formed : demandOf b.demcfg hist n = some d) :
    (l.foldl (Billing.formDemand hist) b).last[n] = d ∧ (l.foldl (Billing.formDemand hist) b).md[n] = d.credit b.md[n] := by
  induction l generalizing b with
  | nil => exact absurd h List.not_mem_nil
  | cons m l ih =>
    obtain ⟨fresh, nodup⟩ := List.nodup_cons.mp nodup
    rw [List.foldl_cons]
    by_cases e : n = m
    · subst e
      obtain ⟨last, md⟩ := Billing.foldl_formDemand_other (b := b.formDemand hist n) fresh
      rw [last, md]
      unfold Billing.formDemand
      rw [formed]
      exact ⟨Vector.getElem_set_self _, upd_same ..⟩
    · obtain ⟨la, md, frame⟩ := b.formDemand_frame (hist := hist) m
      have cfg : (b.formDemand hist m).demcfg = b.demcfg := by rw [frame]
      have own := ih (b := b.formDemand hist m) nodup (List.mem_of_ne_of_mem e h) (by rw [cfg]; exact formed)
      have same := (Billing.foldl_formDemand_other (b := b) (hist := hist) (l := [m]) (n := n) (by simpa using e)).2
      rw [List.foldl_cons, List.foldl_nil] at same
      rw [same] at own
      exact own

end

/-! ### The close of an interval (R237 to R244) -/

/-- From `s` to `t` demand intervals have closed. -/
def State.Closes (s t : State) : Prop :=
  t = { s with bil := { s.bil with last := t.bil.last, md := t.bil.md, pmd := t.bil.pmd, subs := t.bil.subs, demcfg := t.bil.demcfg,
                                   phase := t.bil.phase, cuts := t.bil.cuts, marks := t.bil.marks, running := t.bil.running,
                                   period := t.bil.period } }

/-- The closed intervals, latest first, with the running one as it closes at `stop`. -/
def State.closedAt (s : State) (stop : Nat) : List Interval := (s.closing stop :: s.bil.subs).take 15

/-- Billing once the intervals up to `stop` have formed their demands. -/
def State.demandsAt (s : State) (stop : Nat) : Billing := (List.finRange 7).foldl (Billing.formDemand (s.closedAt stop)) s.bil

/-- Billing once the interval up to `stop` has closed and the next one runs, under demand settings and PHASE `g`. -/
def State.nextInterval (s : State) (stop : Nat) (g : Nat × Nat) : Billing :=
  { s.demandsAt stop with
    subs := if g.1 = s.bil.demcfg then s.closedAt stop else [], demcfg := g.1, phase := g.2,
    cuts := s.bil.cuts.filter (fun c => decide (stop < c.at_)), marks := s.bil.marks.filter (fun m => decide (stop ≤ m.hi)),
    running := Interval.zero stop (stopOf g.1 g.2 s.bil.cuts stop) }

/-- Billing once a period has closed with its interval and period `n` runs. -/
def Billing.nextPeriod (b : Billing) (n : Nat) : Billing :=
  { b with pmd := b.md, md := Vector.replicate 7 (Vector.replicate 9 MaxDemand.zero), period := n }

/-- What the records of a period that closes at `stop` need. -/
def State.periodClose (s : State) (stop : Nat) : PeriodClose := { period := s.bil.period + 1, md := (s.demandsAt stop).md.map (fun m => m[8]) }

section
variable (s : State) {t u : State}

theorem State.demandsAt_frame (stop : Nat) : ∃ la md, s.demandsAt stop = { s.bil with last := la, md := md } ∧
    ∀ (n : Fin 7) (k : Fin 9), ((s.bil.md[n])[k]).d ≤ ((md[n])[k]).d :=
  Billing.foldl_formDemand_frame _

/-- Where the demand settings give no sliding window, an interval's energy is its demand, and a register of the whole takes it. -/
theorem State.demandsAt_fixed (stop : Nat) (fixed : demSliding s.bil.demcfg = false) (n : Fin 7) :
    ((s.demandsAt stop).last[n]).d = (rdiv (s.bil.running.energy[n] * 3600 : Nat) (demLen s.bil.demcfg)).toNat ∧
      (((s.demandsAt stop).md[n])[(8 : Fin 9)]).d = max ((s.bil.md[n])[(8 : Fin 9)]).d ((s.demandsAt stop).last[n]).d := by
  have formed : demandOf s.bil.demcfg (s.closedAt stop) n = some
      { d := (rdiv (s.bil.running.energy[n] * 3600 : Nat) (demLen s.bil.demcfg)).toNat, flags := 0 ||| (s.closing stop).flags, stop := stop,
        tariff := (s.closing stop).tariff[n] } := by
    simp [demandOf, State.closedAt, fixed, State.closing]
  obtain ⟨last, md⟩ := Billing.foldl_formDemand_own (List.nodup_finRange 7) (List.mem_finRange n) formed
  rw [← State.demandsAt] at last md
  rw [last, md, MaxDemand.credit_all, MaxDemand.take_d]
  exact ⟨rfl, rfl⟩

/-- The close of the running interval: the next one begins, and where a period end cuts here the period closes too. -/
theorem State.closeInterval_eq {stop : Nat} (hs : stopOf s.bil.demcfg s.bil.phase s.bil.cuts s.bil.running.start = stop) :
    s.closeInterval = if s.bil.cuts.any (fun c => c.periodEnd && c.at_ == stop) then
        (some (s.periodClose stop),
          s.onBil (fun _ => (s.nextInterval stop (gridAfter s.bil.demcfg s.bil.phase (s.reg R.BIL_DEMCFG []) s.bil.cuts stop)).nextPeriod
            (s.bil.period + 1)))
      else (none, s.onBil (fun _ => s.nextInterval stop (gridAfter s.bil.demcfg s.bil.phase (s.reg R.BIL_DEMCFG []) s.bil.cuts stop))) := by
  subst hs
  rfl

theorem State.closeInterval_closes : s.Closes s.closeInterval.2 := by
  obtain ⟨la, md, frame, -⟩ := s.demandsAt_frame (stopOf s.bil.demcfg s.bil.phase s.bil.cuts s.bil.running.start)
  rw [s.closeInterval_eq rfl]
  unfold Billing.nextPeriod State.nextInterval
  rw [frame]
  split
  · rfl
  · rfl

theorem State.Closes.trans {s : State} (h : s.Closes t) (k : t.Closes u) : s.Closes u := Eq.trans k (by rw [h])

theorem State.closeUntil_closes (f fuel : Nat) : s.Closes (State.closeUntil f fuel s).2 := by
  induction fuel generalizing s with
  | zero => rfl
  | succ fuel ih =>
    unfold State.closeUntil
    split
    · exact s.closeInterval_closes.trans (ih _)
    · rfl

theorem State.closeDue_closes : s.Closes s.closeDue.2 := by
  unfold State.closeDue
  split
  · rfl
  · rfl
  · exact s.closeUntil_closes _ _

variable {s}

theorem State.closeDue_of_front {f : Nat} (known : s.bil.mode ≠ .unknown) (front : s.front = some f) :
    s.closeDue = s.closeUntil f ((f - s.bil.running.start) / 60000 + s.bil.cuts.length + 2) := by
  unfold State.closeDue
  rw [front]
  cases mode : s.bil.mode with
  | unknown => exact absurd mode known
  | normal | slew | hold => rfl

/-- One interval is due: it closes alone where the next one reaches beyond the front. -/
theorem State.closeUntil_one {f fuel stop : Nat} (hs : stopOf s.bil.demcfg s.bil.phase s.bil.cuts s.bil.running.start = stop) (due : stop ≤ f)
    (next : f < stopOf s.closeInterval.2.bil.demcfg s.closeInterval.2.bil.phase s.closeInterval.2.bil.cuts s.closeInterval.2.bil.running.start) :
    State.closeUntil f (fuel + 2) s = (s.closeInterval.1.toList, s.closeInterval.2) := by
  unfold State.closeUntil
  rw [hs, if_pos due]
  unfold State.closeUntil
  dsimp only
  rw [if_neg (Nat.not_le.mpr next)]
  simp

/-- With no cut on the grid the interval that is due closes on it, and nothing but the demands and the running interval changes. -/
theorem State.closeDue_on_grid {f stop : Nat} (known : s.bil.mode ≠ .unknown) (front : s.front = some f) (uncut : s.bil.cuts = [])
    (hs : stop = gridEnd s.bil.demcfg s.bil.phase s.bil.running.start) (due : stop ≤ f) (next : f < gridEnd s.bil.demcfg s.bil.phase stop) :
    s.closeDue = ([], s.onBil (fun _ => s.nextInterval stop (s.bil.demcfg, s.bil.phase))) := by
  have one : s.closeInterval = (none, s.onBil (fun _ => s.nextInterval stop (s.bil.demcfg, s.bil.phase))) := by
    rw [s.closeInterval_eq (stop := stop) (by rw [uncut]; exact hs.symm), uncut]
    rfl
  rw [State.closeDue_of_front known front, State.closeUntil_one (stop := stop) (by rw [uncut]; exact hs.symm) due, one]
  · rfl
  · rw [one]
    dsimp only [State.onBil, State.nextInterval]
    rw [uncut]
    exact next

/-- Where a period end alone cuts the grid, the interval that is due closes there, and the period with it. -/
theorem State.closeDue_at_period {f p : Nat} (known : s.bil.mode ≠ .unknown) (front : s.front = some f)
    (cut : s.bil.cuts = [{ at_ := p, periodEnd := true, newPhase := none }]) (within : s.bil.running.start < p)
    (before : p ≤ gridEnd s.bil.demcfg s.bil.phase s.bil.running.start) (due : p ≤ f)
    (next : f < gridEnd (s.reg R.BIL_DEMCFG []) (alignPhase (s.reg R.BIL_DEMCFG [])) p) :
    s.closeDue = ([s.periodClose p], s.onBil (fun _ =>
      (s.nextInterval p (s.reg R.BIL_DEMCFG [], alignPhase (s.reg R.BIL_DEMCFG []))).nextPeriod (s.bil.period + 1))) := by
  have stop : stopOf s.bil.demcfg s.bil.phase s.bil.cuts s.bil.running.start = p := by
    rw [cut, stopOf, List.foldl_cons, List.foldl_nil, if_pos within, min_eq_right before]
  have one : s.closeInterval = (some (s.periodClose p), s.onBil (fun _ =>
      (s.nextInterval p (s.reg R.BIL_DEMCFG [], alignPhase (s.reg R.BIL_DEMCFG []))).nextPeriod (s.bil.period + 1))) := by
    have after : gridAfter s.bil.demcfg s.bil.phase (s.reg R.BIL_DEMCFG []) s.bil.cuts p =
        (s.reg R.BIL_DEMCFG [], alignPhase (s.reg R.BIL_DEMCFG [])) := by
      simp [gridAfter, cut]
    rw [s.closeInterval_eq stop, after, if_pos]
    simp [cut]
  rw [State.closeDue_of_front known front, State.closeUntil_one stop due, one]
  · rfl
  · rw [one]
    dsimp only [State.onBil, State.nextInterval, Billing.nextPeriod]
    simpa [cut, stopOf, Interval.zero] using next

end

end Sys2Proof.Machine
end

section
/-! The booking of a handed-off tick and the boundary that follows it (R221, R222, R226, R230). -/

namespace Sys2Proof.Machine

/-! ### The entry of a tick (R222, R226) -/

/-- Entry `k` books the handed-off tick `h`, which starts at bill time `x`, with what is in force in `s`. -/
structure State.Books (s : State) (h : HandedTick) (x : Nat) (k : Tick) : Prop where
  jseq : k.jseq = s.bil.jseq
  startTb : k.startTb = h.startTb
  endTb : k.endTb = h.endTb
  start : k.s = some x
  uncommitted : k.committed = false
  outs : ∀ o : Fin 6, k.outs[o] =
    { imp := (h.inc[o])[0], exp := (h.inc[o])[1], sid := (s.bil.attr[o]).curSid, tariff := s.tariffAt ⟨o.1, by omega⟩ x, attr := (s.bil.attr[o]).cur }

/-- A tick that no short one began is booked at the end of the ring, with the next JSEQ. -/
theorem bookTick_books {s : State} {h : HandedTick} {x : Nat} (known : s.bil.mode ≠ .unknown) (start : s.bil.lastB = some x)
    (fresh : ∀ k ∈ s.bil.ticks, k.short = true → k.committed = false → k.startTb ≠ h.startTb) :
    ∃ k ks cn lg m, s.Books h x k ∧ bookTick s h = { s with
      keys := ks, cnt := cn, log := lg, mseal := m,
      bil := { s.bil with jseq := s.bil.jseq + 1, ticks := (s.bil.ticks ++ [k]).drop (s.bil.ticks.length - 415) } } := by
  have none : s.bil.ticks.any (fun t => t.short && !t.committed && t.startTb == h.startTb) = false := by
    rw [List.any_eq_false]
    intro k hk both
    simp only [Bool.and_eq_true, Bool.not_eq_true', beq_iff_eq] at both
    obtain ⟨⟨short, uncommitted⟩, same⟩ := both
    exact fresh k hk short uncommitted same
  unfold bookTick
  rw [none, if_neg known, start]
  extract_lets _ _ s1 k
  obtain ⟨ks, cn, lg, frame, -⟩ := s1.onJournal_frame
    (fun b => { b with jseq := b.jseq + 1, ticks := (b.ticks ++ [k]).drop (b.ticks.length - 415) })
  exact ⟨k, ks, cn, lg, _, ⟨rfl, rfl, rfl, rfl, rfl, fun o => Vector.getElem_ofFn ..⟩, frame⟩

/-! ### The boundary (R221, R230) -/

/-- An output's attribution once a tick begins at TB `tb`. -/
def OutAttr.begun (tb : Nat) (a : OutAttr) : OutAttr := if a.sinceTb ≤ tb then { a with cur := a.attr, curSid := a.sid } else a

theorem OutAttr.begun_cur (tb : Nat) (a : OutAttr) : (a.begun tb).cur = if a.sinceTb ≤ tb then a.attr else a.cur := by
  unfold OutAttr.begun
  split
  · rfl
  · rfl

/-- Period ends, and what a change of OFFSET jumps past, up to bill time `t`; then the calendar changes, where it does (R230). -/
theorem Billing.boundary_frame (b : Billing) (cal : List Nat) (calcfg lo t : Nat) (off off' : Int) (old : List Nat) (changed : Bool) :
    ∃ m c u, ((((b.periodEnds cal calcfg lo t).periodsJumped cal off off' t).leaveCalendar t old calcfg changed).setLastB t) =
      { b with lastPeriodMin := m, cuts := c, calUntil := u, lastB := some t } := by
  obtain ⟨m, c, ends⟩ := b.periodEnds_frame cal calcfg lo t
  obtain ⟨m', c', jumped⟩ := Billing.periodsJumped_frame { b with lastPeriodMin := m, cuts := c } cal off off' t
  rw [ends, jumped]
  unfold Billing.leaveCalendar
  split
  · exact ⟨_, _, _, rfl⟩
  · exact ⟨_, _, _, rfl⟩

theorem State.atBoundary_frame (s : State) (t : Nat) :
    ∃ us m c u tn q, s.atBoundary t = { s with
      use := us, bil := { s.bil with lastPeriodMin := m, cuts := c, calUntil := u, lastB := some t, tariffNow := tn, queue := q } } := by
  obtain ⟨us, taken⟩ := s.takeUp_frame .f (inBlock 7)
  obtain ⟨m, c, u, turned⟩ := Billing.boundary_frame ..
  unfold State.atBoundary
  dsimp only [State.onBil]
  rw [taken, turned]
  exact ⟨us, m, c, u, _, _, rfl⟩

/-- A boundary moves bill time and the attributions on. -/
theorem State.passBoundary_frame {s : State} {tb b : Nat} (at_ : s.billAt tb = some b) :
    ∃ us m c u tn q, s.passBoundary tb = { s with
      use := us,
      bil := { s.bil with lastPeriodMin := m, cuts := c, calUntil := u, tariffNow := tn, queue := q, lastB := some b,
                          boundaries := s.bil.boundaries + 1, attr := s.bil.attr.map (OutAttr.begun tb) } } := by
  obtain ⟨us, m, c, u, tn, q, frame⟩ := s.atBoundary_frame b
  unfold State.passBoundary
  rw [at_]
  dsimp only
  rw [frame]
  exact ⟨_, _, _, _, _, _, rfl⟩

end Sys2Proof.Machine
end

section
/-! The commit of a tick: where the energy of each output goes, and what follows it (R223, R226 to R228, R271). -/

namespace Sys2Proof.Machine

/-! ### Where the energy goes (R226, R227) -/

/-- Energy into an output, or out of it, in its part of a tick. -/
def TickOut.energy (x : TickOut) (d : Fin 2) : Nat := if d = 0 then x.imp else x.exp

/-- What an output's part of a tick adds to the service registers: all of it, where the output has neither a session nor a pending one. -/
def TickOut.toService (x : TickOut) (d : Fin 2) : Nat := if x.attr = .session ∨ x.attr = .pending then 0 else x.energy d

/-- What an output's part of a tick adds to the registers of tariff `j`: all of it, where a session runs under that tariff. -/
def TickOut.toTariff (x : TickOut) (j : Fin 8) (d : Fin 2) : Nat := if x.attr = .session ∧ x.tariff = j.1 then x.energy d else 0

/-- No session whose energy is held has an outcome. -/
def State.NoOutcome (s : State) : Prop := ∀ (o : Fin 6), ∀ h ∈ s.bil.holds[o], h.outcome = none

section
variable {s : State} {o p : Fin 6} {j : Fin 8} {d : Fin 2} {k : Tick}

/-- Energy in both directions added to a pair. -/
theorem pair_add_getElem (v : Vector Nat 2) (x : TickOut) : (#v[v[0] + x.imp, v[1] + x.exp] : Vector Nat 2)[d] = v[d] + x.energy d := by
  match d with
  | 0 => rfl
  | 1 => rfl

/-- A table of the outputs and SITE of which the entries of one output and of SITE change, at an output. -/
theorem upd_site_getElem {α : Type} (v : Vector α 7) (o p : Fin 6) (f : α → α) :
    (upd (upd v ⟨o.1, by omega⟩ f) 6 f)[p.1] = if o = p then f v[p.1] else v[p.1] := by
  have site : (6 : Fin 7) ≠ ⟨p.1, by omega⟩ := fun e => by simp [Fin.ext_iff] at e; omega
  refine (upd_other _ 6 ⟨p.1, by omega⟩ _ site).trans ?_
  split
  case isTrue same =>
    subst same
    exact upd_same ..
  case isFalse other => exact upd_other _ _ _ _ fun e => other (Fin.ext (Fin.mk.inj e))

theorem State.toService_svc (x : TickOut) :
    ((s.toService o x.imp x.exp).nrg.svc[p.1])[d] = (s.nrg.svc[p.1])[d] + if o = p then x.energy d else 0 := by
  unfold State.toService
  dsimp only [State.onNrg]
  rw [upd_site_getElem]
  split
  · exact pair_add_getElem _ x
  · rfl

/-- Energy in both directions added to the registers of a tariff. -/
theorem tariff_add_getElem (v : Vector (Vector Nat 2) 8) (x : TickOut) :
    ((if h : x.tariff < 8 then upd v ⟨x.tariff, h⟩ (fun r => #v[r[0] + x.imp, r[1] + x.exp]) else v)[j])[d] =
      (v[j])[d] + if x.tariff = j.1 then x.energy d else 0 := by
  by_cases low : x.tariff < 8
  · rw [dif_pos low]
    by_cases same : (⟨x.tariff, low⟩ : Fin 8) = j
    · subst same
      rw [upd_same, pair_add_getElem, if_pos rfl]
    · rw [upd_other _ _ _ _ same, if_neg fun e => same (Fin.ext e)]
      rfl
  · rw [dif_neg low, if_neg (by omega)]
    rfl

theorem State.toTariff_treg (x : TickOut) (sid : Nat) :
    (((s.toTariff o sid x.tariff x.imp x.exp).bil.treg[p.1])[j])[d] =
      ((s.bil.treg[p.1])[j])[d] + if o = p ∧ x.tariff = j.1 then x.energy d else 0 := by
  unfold State.toTariff
  dsimp only [State.onBil]
  rw [upd_site_getElem, ite_and]
  split
  · exact tariff_add_getElem _ x
  · rfl

theorem State.commitOut_svc :
    ((s.commitOut k o).nrg.svc[p.1])[d] = (s.nrg.svc[p.1])[d] + if o = p then (k.outs[o]).toService d else 0 := by
  unfold State.commitOut TickOut.toService
  dsimp only
  cases (k.outs[o]).attr with
  | session | pending => simp [State.toTariff]
  | none | service | noTime => simpa using State.toService_svc k.outs[o]

theorem State.commitOut_treg :
    (((s.commitOut k o).bil.treg[p.1])[j])[d] = ((s.bil.treg[p.1])[j])[d] + if o = p then (k.outs[o]).toTariff j d else 0 := by
  unfold State.commitOut TickOut.toTariff
  dsimp only
  cases (k.outs[o]).attr with
  | session => simpa [← ite_and] using State.toTariff_treg k.outs[o] _
  | pending | none | service | noTime => simp [State.toService]

theorem addHold_noOutcome {sid startTb t i e : Nat} {l : List Hold} (hl : ∀ h ∈ l, h.outcome = none) :
    ∀ h ∈ addHold sid startTb t i e l, h.outcome = none := by
  intro h hh
  unfold addHold at hh
  dsimp only at hh
  split at hh
  · obtain ⟨x, hx, rfl⟩ := List.mem_map.mp hh
    split
    · exact hl x hx
    · exact hl x hx
  · rcases List.mem_append.mp hh with old | new
    · exact hl h old
    · rw [List.mem_singleton.mp new]

theorem State.commitOut_noOutcome (undecided : s.NoOutcome) : (s.commitOut k o).NoOutcome := by
  intro p h hh
  unfold State.commitOut at hh
  dsimp only at hh
  split at hh
  · exact undecided p h hh
  · rw [State.onBil_bil] at hh
    by_cases e : o = p
    · subst e
      rw [upd_same] at hh
      exact addHold_noOutcome (undecided o) h hh
    · rw [upd_other _ _ _ _ e] at hh
      exact undecided p h hh
  · exact undecided p h hh

theorem State.commitOut_frame : ∃ sv tr hd at_, s.commitOut k o =
    { s with nrg := { s.nrg with svc := sv }, bil := { s.bil with treg := tr, holds := hd, attr := at_ } } := by
  unfold State.commitOut
  dsimp only
  split
  · exact ⟨_, _, _, _, rfl⟩
  · exact ⟨_, _, _, _, rfl⟩
  · exact ⟨_, _, _, _, rfl⟩

end

/-- What each member of a table adds for itself alone, all members add once. -/
theorem foldl_idx_add {n : Nat} {f : State → Fin n → State} {g : State → Nat} {c : Fin n → Nat} {p : Fin n}
    (hf : ∀ u o, g (f u o) = g u + if o = p then c o else 0) (s : State) : g ((idx n).foldl f s) = g s + c p := by
  have all (l : List (Fin n)) (u : State) : g (l.foldl f u) = g u + l.count p * c p := by
    induction l generalizing u with
    | nil => simp
    | cons x l ih =>
      rw [List.foldl_cons, ih, hf, List.count_cons]
      by_cases e : x = p
      · subst e
        simp
        ring
      · simp [e]
  rw [all, idx, List.count_eq_one_of_mem (List.nodup_finRange n) (List.mem_finRange p), one_mul]

/-! ### The commit step (R223, R228, R271) -/

/-- From `s` to `t` tick `k` has been committed: its entry counts as committed, and its energy went where the attributions say. -/
structure State.Commits (s t : State) (k : Tick) : Prop where
  throughTb : t.bil.throughTb = k.endTb
  ticks : t.bil.ticks = s.bil.ticks.map (fun x => if x.jseq = k.jseq then { x with committed := true } else x)
  svc : ∀ (p : Fin 6) (d : Fin 2), (t.nrg.svc[p.1])[d] = (s.nrg.svc[p.1])[d] + (k.outs[p]).toService d
  treg : ∀ (p : Fin 6) (j : Fin 8) (d : Fin 2), ((t.bil.treg[p.1])[j])[d] = ((s.bil.treg[p.1])[j])[d] + (k.outs[p]).toTariff j d
  frame : t = { s with keys := t.keys, cnt := t.cnt, log := t.log, nrg := t.nrg, bil := t.bil, mseal := t.mseal }

/-- From `s` to `t` the commit step has gone on past its tick: registers and entries are as they were. -/
structure State.CommitGoesOn (s t : State) : Prop where
  throughTb : t.bil.throughTb = s.bil.throughTb
  ticks : t.bil.ticks = s.bil.ticks
  treg : t.bil.treg = s.bil.treg
  frame : t = { s with keys := t.keys, cnt := t.cnt, log := t.log, bil := t.bil, mseal := t.mseal }

section
variable {s t u : State} {k : Tick}

theorem State.CommitGoesOn.trans (h : s.CommitGoesOn t) (g : t.CommitGoesOn u) : s.CommitGoesOn u where
  throughTb := g.throughTb.trans h.throughTb
  ticks := g.ticks.trans h.ticks
  treg := g.treg.trans h.treg
  frame := g.frame.trans (by rw [h.frame])

theorem State.Closes.goesOn (h : s.Closes t) : s.CommitGoesOn t := by
  rw [h]
  exact ⟨rfl, rfl, rfl, rfl⟩

theorem State.Recorded.goesOn (h : s.Recorded t) : s.CommitGoesOn t := by
  rw [h]
  exact ⟨rfl, rfl, rfl, rfl⟩

theorem State.foldCmds_goesOn : s.CommitGoesOn s.foldCmds := by
  unfold State.foldCmds
  split
  · exact ⟨rfl, rfl, rfl, rfl⟩
  · exact ⟨rfl, rfl, rfl, rfl⟩

theorem State.Commits.goesOn (h : s.Commits t k) (g : t.CommitGoesOn u) : s.Commits u k where
  throughTb := g.throughTb.trans h.throughTb
  ticks := g.ticks.trans h.ticks
  svc p d := by rw [g.frame]; exact h.svc p d
  treg := by rw [g.treg]; exact h.treg
  frame := by rw [g.frame, h.frame]

/-- While no held energy has an outcome, none moves (R228). -/
theorem State.moveHolds_of_noOutcome (undecided : s.NoOutcome) : s.moveHolds = s := by
  refine List.foldlRecOn (motive := fun t : State => t = s) _ _ rfl ?_
  rintro _ rfl o -
  refine List.foldlRecOn (motive := fun t : State => t = _) _ _ rfl ?_
  rintro _ rfl h hh
  rw [undecided o h hh]

theorem State.commitOuts_noOutcome (undecided : s.NoOutcome) (l : List (Fin 6)) : (l.foldl (fun s o => s.commitOut k o) s).NoOutcome :=
  List.foldlRecOn (motive := State.NoOutcome) _ _ undecided fun _ h _ _ => State.commitOut_noOutcome h

theorem State.commitOuts_frame (l : List (Fin 6)) : ∃ sv tr hd at_, l.foldl (fun s o => s.commitOut k o) s =
    { s with nrg := { s.nrg with svc := sv }, bil := { s.bil with treg := tr, holds := hd, attr := at_ } } := by
  refine List.foldlRecOn (motive := fun t : State => ∃ sv tr hd at_, t =
    { s with nrg := { s.nrg with svc := sv }, bil := { s.bil with treg := tr, holds := hd, attr := at_ } }) _ _ ⟨_, _, _, _, rfl⟩ ?_
  rintro t ⟨sv, tr, hd, at_, ht⟩ o -
  obtain ⟨sv', tr', hd', at_', frame⟩ := t.commitOut_frame (k := k) (o := o)
  exact ⟨sv', tr', hd', at_', by rw [frame, ht]⟩

/-- The tick itself is committed. -/
theorem State.commitTick_commits (undecided : s.NoOutcome) : s.Commits (s.commitTick k).2 k ∧ (s.commitTick k).2.NoOutcome := by
  unfold State.commitTick
  extract_lets r s1 e s2
  have closes : s.Closes r.2 := by
    unfold r
    split
    · rfl
    · exact s.closeUntil_closes _ _
  have undecided' : s1.NoOutcome := State.commitOuts_noOutcome (by rw [closes]; exact undecided) _
  have svc (p : Fin 6) (d : Fin 2) : (s1.nrg.svc[p.1])[d] = (s.nrg.svc[p.1])[d] + (k.outs[p]).toService d := by
    rw [show s.nrg = r.2.nrg by rw [closes]]
    exact foldl_idx_add (g := fun u : State => (u.nrg.svc[p.1])[d]) (c := fun o => (k.outs[o]).toService d)
      (fun _ _ => State.commitOut_svc) _
  have treg (p : Fin 6) (j : Fin 8) (d : Fin 2) :
      ((s1.bil.treg[p.1])[j])[d] = ((s.bil.treg[p.1])[j])[d] + (k.outs[p]).toTariff j d := by
    rw [show s.bil.treg = r.2.bil.treg by rw [closes]]
    exact foldl_idx_add (g := fun u : State => ((u.bil.treg[p.1])[j])[d]) (c := fun o => (k.outs[o]).toTariff j d)
      (fun _ _ => State.commitOut_treg) _
  obtain ⟨sv, tr, hd, at_, frame⟩ := r.2.commitOuts_frame (k := k) (idx 6)
  change s1 = _ at frame
  have same : s1.bil.ticks = s.bil.ticks := by rw [frame, closes]
  refine ⟨⟨rfl, congrArg (List.map _) same, svc, treg, ?_⟩, undecided'⟩
  unfold s2
  rw [frame, closes]
  rfl

/-- A commit step while no held energy has an outcome. -/
theorem State.commitStep_commits (undecided : s.NoOutcome) : s.Commits (s.commitStep k) k := by
  obtain ⟨commits, undecided'⟩ := State.commitTick_commits (k := k) undecided
  unfold State.commitStep
  dsimp only
  rw [State.moveHolds_of_noOutcome undecided']
  exact commits.goesOn ((State.closeDue_closes _).goesOn.trans (State.endRecords_recorded.goesOn.trans
    (State.periodRecords_recorded.goesOn.trans (State.startRecords_recorded.goesOn.trans State.foldCmds_goesOn))))

end

end Sys2Proof.Machine
end

section
/-! O26: ticks are booked and committed; intervals, periods and tariffs change (R221 to R223, R225 to R241, R255). -/

namespace Sys2Proof.Machine

/-- A field keeps its value where one above it is set. -/
theorem Field.get_set_above {f g : Field} (above : f.lo + f.width ≤ g.lo) (v x : Nat) : f.get (g.set v x) = f.get v := by
  have low : g.set v x % 2 ^ g.lo = v % 2 ^ g.lo := by
    have le : 2 ^ g.lo * g.get v ≤ v := calc
      2 ^ g.lo * g.get v ≤ 2 ^ g.lo * (v / 2 ^ g.lo) := Nat.mul_le_mul_left _ (Nat.mod_le _ _)
      _ ≤ v := Nat.mul_div_le _ _
    rw [Field.set, Nat.add_mul_mod_self_right, Nat.mul_comm, Nat.sub_mul_mod le]
  have part (y : Nat) : f.get y = y % 2 ^ g.lo % 2 ^ (f.lo + f.width) / 2 ^ f.lo := by
    rw [Nat.mod_mod_of_dvd _ (pow_dvd_pow 2 above), pow_add, Nat.mod_mul_right_div_self, Field.get]
  rw [part, low, ← part]

/-! ### An outcome of a session (R228, R229) -/

/-- An outcome books the pending ticks of its session again and is noted with what is held for it; other outputs stay as they were. -/
theorem State.billOutcome_denied (s : State) (o : Fin 6) (sid tb : Nat) :
    ∃ ks cn lg ts j ev at_, s.billOutcome o sid tb false = { s with
        keys := ks, cnt := cn, log := lg,
        bil := { s.bil with
          ticks := ts, jseq := j, events := ev, attr := upd s.bil.attr o at_,
          holds := upd s.bil.holds o (fun l => l.map (fun h => if h.sid = sid ∧ h.outcome = none then { h with outcome := some false } else h)) } } ∧
      ∀ k ∈ ts, k.committed = false → ¬((k.outs[o]).sid = sid ∧ (k.outs[o]).attr = .pending) := by
  obtain ⟨ks, cn, lg, frame, -⟩ := s.onJournal_frame (fun b => b.outcome o sid tb false)
  obtain ⟨ts, j, ev, rebooked, rewritten⟩ := s.bil.rebook_frame o 5 tb
    (fun t x => x.sid == sid && (x.attr == .pending || (x.attr == .session && decide (tb ≤ t.startTb)))) .service none
  have outcome : ∃ at_, s.bil.outcome o sid tb false = { s.bil with
      ticks := ts, jseq := j, events := ev, attr := upd s.bil.attr o at_,
      holds := upd s.bil.holds o (fun l => l.map (fun h => if h.sid = sid ∧ h.outcome = none then { h with outcome := some false } else h)) } := by
    unfold Billing.outcome
    dsimp only
    rw [if_neg Bool.false_ne_true, if_neg Bool.false_ne_true, rebooked]
    exact ⟨_, rfl⟩
  obtain ⟨at_, outcome⟩ := outcome
  refine ⟨ks, cn, lg, ts, j, ev, at_, by rw [State.billOutcome, frame, outcome], ?_⟩
  rintro k hk uncommitted ⟨ours, pending⟩
  rcases rewritten k hk with ⟨-, passed⟩ | ⟨x, -, -, -, n, rfl⟩
  · rw [Fin.getElem_fin] at ours pending
    simp [uncommitted, bookable, ours, pending] at passed
  · dsimp only at pending
    rw [upd_same] at pending
    cases pending

/-! ### The events -/

section
variable {s : State}

/-- One tick waits at a boundary. -/
theorem exec_billingBoundary_of_waiting {h : HandedTick} (waiting : s.nrg.waiting = [h]) (whole : h.short = false) :
    exec .billingBoundary s = .next (((bookTick s h).passBoundary h.endTb).onNrg (fun n => { n with waiting := [] })) := by
  refine congrArg Host.Outcome.next ?_
  unfold billingBoundary
  rw [if_pos (by simp [waiting]), State.bookAll, waiting, List.foldl_cons, List.foldl_nil, bookNext, whole]
  rfl

/-- A boundary while no plan runs. -/
theorem exec_billingBoundary_of_no_plan (waiting : s.nrg.waiting = []) (plan : s.grate.plan = none) :
    exec .billingBoundary s = .next ((s.passBoundary s.clock.tb).closeDue.2.periodRecords (s.passBoundary s.clock.tb).closeDue.1) := by
  refine congrArg Host.Outcome.next ?_
  unfold billingBoundary
  rw [if_neg (by simp [waiting]), if_neg (by simp [plan])]

theorem exec_tickCommit_of_due {k : Tick} {rest : List Tick} (oldest : s.bil.open_ = k :: rest) (due : k.endTb + 200 * tbTick ≤ s.clock.tb) :
    exec .tickCommit s = .next (s.commitStep k) := by
  refine congrArg Host.Outcome.next ?_
  unfold tickCommit
  rw [oldest]
  exact if_pos due

theorem exec_attrTimeout_of_due {o : Output} {h : Hold} (held : s.bil.holds[o] = [h]) (waits : h.outcome = none)
    (due : h.startTb + 300 * tbSecond ≤ s.clock.tb) :
    exec (.attrTimeout o) s = .next ((s.onBil (fun b => { b with
      holds := upd b.holds o (fun l => l.map (fun x => if x.sid = h.sid then { x with timedOut := true } else x)) })).billOutcome o h.sid s.clock.tb false) := by
  refine congrArg Host.Outcome.next ?_
  unfold attrTimeout
  rw [held]
  exact if_pos ⟨waits, due⟩

/-- Intervals that end on the grid close where the commit front has passed them. -/
theorem exec_demandIntervalEnd_of_due {f stop : Nat} (known : s.bil.mode ≠ .unknown) (front : s.front = some f) (uncut : s.bil.cuts = [])
    (hs : stop = gridEnd s.bil.demcfg s.bil.phase s.bil.running.start) (due : stop ≤ f) (next : f < gridEnd s.bil.demcfg s.bil.phase stop) :
    exec .demandIntervalEnd s = .next (s.onBil (fun _ => s.nextInterval stop (s.bil.demcfg, s.bil.phase))) := by
  refine congrArg Host.Outcome.next ?_
  unfold demandIntervalEnd
  rw [State.closeDue_on_grid known front uncut hs due next]
  rfl

/-- The interval that a period end cuts closes where the commit front has passed that, and the next period begins. -/
theorem exec_periodEnd_of_due {b lo f p : Nat} (known : s.bil.mode ≠ .unknown) (now : s.billNow = some b) (last : s.bil.lastB = some lo)
    (front : s.front = some f) (cut : (s.bil.periodEnds s.calendar s.calcfg lo b).cuts = [{ at_ := p, periodEnd := true, newPhase := none }])
    (within : s.bil.running.start < p) (before : p ≤ gridEnd s.bil.demcfg s.bil.phase s.bil.running.start) (due : p ≤ f)
    (next : f < gridEnd (s.reg R.BIL_DEMCFG []) (alignPhase (s.reg R.BIL_DEMCFG [])) p) :
    ∃ x l, exec .periodEnd s = .next ((s.onBil (fun _ => x)).periodRecords l) ∧ x.period = s.bil.period + 1 ∧ x.running.start = p ∧
      x.demcfg = s.reg R.BIL_DEMCFG [] ∧ (∀ (n : Fin 7) (k : Fin 9), (x.md[n])[k] = MaxDemand.zero) ∧
      ∀ n : Fin 7, ((s.bil.md[n])[8]).d ≤ ((x.pmd[n])[8]).d := by
  obtain ⟨m, c, ends⟩ := s.bil.periodEnds_frame s.calendar s.calcfg lo b
  rw [ends] at cut
  have closed := State.closeDue_at_period (s := { s with bil := { s.bil with lastPeriodMin := m, cuts := c } }) known front cut within before due next
  obtain ⟨la, md, formed, rises⟩ := State.demandsAt_frame { s with bil := { s.bil with lastPeriodMin := m, cuts := c } } p
  have hx : exec .periodEnd s = .next (periodEnd s) := rfl
  unfold periodEnd at hx
  rw [now, last] at hx
  dsimp only [State.onBil] at hx
  rw [ends, closed] at hx
  refine ⟨_, _, hx, rfl, rfl, rfl, fun n k => ?_, fun n => ?_⟩
  · dsimp only [Billing.nextPeriod]
    simp
  · dsimp only [Billing.nextPeriod, State.nextInterval]
    rw [formed]
    exact rises n 8

theorem exec_offsetChange_of_reached {b : Nat} (last : s.bil.lastB = some b) (planned : F.BIL_CALCFG_NEXT_AT.get s.calcfg ≠ 0)
    (reached : F.BIL_CALCFG_NEXT_AT.get s.calcfg * 60000 ≤ b) :
    ∃ us u, exec .offsetChange s = .next { s with
      regs := putKey (R.BIL_CALCFG.addr [])
        (F.BIL_CALCFG_NEXT_AT.set (F.BIL_CALCFG_OFFSET.set s.calcfg (F.BIL_CALCFG_NEXT_OFFSET.get s.calcfg)) 0) s.regs,
      use := us, bil := { s.bil with calUntil := u } } := by
  have change : exec .offsetChange s = .next (offsetChange s) := rfl
  rw [change]
  unfold offsetChange
  rw [last]
  dsimp only
  rw [if_pos ⟨planned, reached⟩]
  exact ⟨_, _, rfl⟩

theorem exec_calendarTariffSwitch_of_known {b : Nat} (now : s.billNow = some b) :
    exec .calendarTariffSwitch s = .next (s.onBil (fun x => { x with tariffNow := Vector.ofFn (fun n => s.tariffAt n b) })) := by
  refine congrArg Host.Outcome.next ?_
  unfold calendarSwitch
  rw [now]

theorem exec_tariffCommandEffective_of_due {b : Nat} {c : TCmd} (now : s.billNow = some b) (queued : c ∈ s.bil.queue) (waits : c.applied = false)
    (due : c.effective ≤ b) : exec .tariffCommandEffective s = .next (s.applyTariffs b) := by
  refine congrArg Host.Outcome.next ?_
  unfold tariffEffective
  rw [now]
  exact if_pos (List.any_eq_true.mpr ⟨c, queued, by simp [waits, due]⟩)

/-- The billing state is written over the older copy (R255). -/
theorem State.writeBilling_frame (s : State) : ∃ ks cn lg x, s.writeBilling = { s with keys := ks, cnt := cn, log := lg, bil := x } ∧
    x.saveSeq = s.bil.saveSeq + 1 ∧ x.treg = s.bil.treg ∧
    ((x.saveA = some s.billSave ∧ x.saveB = s.bil.saveB) ∨ (x.saveB = some s.billSave ∧ x.saveA = s.bil.saveA)) := by
  obtain ⟨ks, cn, lg, stored⟩ := s.storeUse_frame
  unfold State.writeBilling
  rw [stored]
  dsimp only [State.onBil]
  split
  · exact ⟨ks, cn, lg, _, rfl, rfl, rfl, .inl ⟨rfl, rfl⟩⟩
  · exact ⟨ks, cn, lg, _, rfl, rfl, rfl, .inr ⟨rfl, rfl⟩⟩

end

/-- Settles O26: a boundary is `bookTick` and `passBoundary`, a commit `commitStep`, whose energy goes output by output (`commitOut_svc`,
`commitOut_treg`); an interval or a period closes as `nextInterval` and `nextPeriod` have it, and each other event is
the change that its `exec_` lemma gives. -/
theorem ticksIntervalsAndPeriods : Obligations.TicksIntervalsAndPeriods := by
  unfold Obligations.TicksIntervalsAndPeriods
  refine ⟨?booked, ?noPlan, ?committed, ?timeout, ?saved, ?interval, ?period, ?offset, ?calendar, ?command⟩
  case booked =>
    intro s h b x waiting whole known start at_ fresh
    obtain ⟨k, ks, cn, lg, m, books, booked⟩ := bookTick_books known start fresh
    obtain ⟨us, lp, c, u, tn, q, passed⟩ := State.passBoundary_frame at_
    have hx := exec_billingBoundary_of_waiting waiting whole
    rw [passed, booked] at hx
    obtain ⟨jseq, startTb, endTb, start, uncommitted, outs⟩ := books
    refine ⟨_, k, hx, rfl, by dsimp only [State.onNrg], jseq, rfl, startTb, endTb, start, uncommitted, rfl, rfl, fun o => ?_, rfl⟩
    refine ⟨congrArg TickOut.imp (outs o), congrArg TickOut.exp (outs o), congrArg TickOut.attr (outs o), congrArg TickOut.tariff (outs o), ?_⟩
    exact (congrArg OutAttr.cur (Vector.getElem_map ..)).trans (OutAttr.begun_cur ..)
  case noPlan =>
    intro s b waiting plan known at_
    obtain ⟨us, lp, c, u, tn, q, passed⟩ := State.passBoundary_frame at_
    have hx := exec_billingBoundary_of_no_plan waiting plan
    have closes := (s.passBoundary s.clock.tb).closeDue_closes
    have recorded := State.periodRecords_recorded (s := (s.passBoundary s.clock.tb).closeDue.2) (l := (s.passBoundary s.clock.tb).closeDue.1)
    generalize State.periodRecords _ _ = t at hx recorded
    generalize State.closeDue _ = closed at closes recorded
    rw [passed] at closes
    rw [closes] at recorded
    exact ⟨t, hx, by rw [recorded], by rw [recorded], by rw [recorded], by rw [recorded], by rw [recorded]⟩
  case committed =>
    intro s k rest oldest due undecided
    obtain ⟨throughTb, ticks, svc, treg, frame⟩ := State.commitStep_commits (k := k) undecided
    exact ⟨_, exec_tickCommit_of_due oldest due, throughTb, ticks, fun o => ⟨svc o 0, svc o 1⟩, fun o j => ⟨treg o j 0, treg o j 1⟩, frame⟩
  case timeout =>
    intro o s h held waits due
    obtain ⟨ks, cn, lg, ts, j, ev, at_, denied, rebooked⟩ := State.billOutcome_denied (s.onBil (fun b => { b with
      holds := upd b.holds o (fun l => l.map (fun x => if x.sid = h.sid then { x with timedOut := true } else x)) })) o h.sid s.clock.tb
    have hx := exec_attrTimeout_of_due held waits due
    rw [denied] at hx
    refine ⟨_, hx, ?_, rebooked, rfl, fun p hp => ⟨?_, upd_other _ _ _ _ hp.symm⟩, rfl⟩
    · dsimp only [State.onBil]
      rw [upd_same, upd_same, held]
      simp [waits]
    · exact (upd_other _ _ _ _ hp.symm).trans (upd_other _ _ _ _ hp.symm)
  case saved =>
    intro s started hundredth
    obtain ⟨ks, cn, lg, x, written, seq, treg, copies⟩ := s.writeBilling_frame
    exact ⟨_, congrArg Host.Outcome.next ((if_pos ⟨started, hundredth⟩).trans written), seq, copies, treg, rfl⟩
  case interval =>
    intro s f stop known front uncut hs due next
    obtain ⟨la, md, formed, rises⟩ := s.demandsAt_frame stop
    have fixed := s.demandsAt_fixed stop
    have hx := exec_demandIntervalEnd_of_due known front uncut hs due next
    unfold State.nextInterval at hx
    rw [formed] at hx fixed
    exact ⟨_, hx, rfl, rfl, fun n => Vector.getElem_replicate .., rfl, rises, fixed, rfl⟩
  case period =>
    intro s b lo f p known now last front cut within before due next
    obtain ⟨x, l, hx, period, start, cfg, zero, kept⟩ := exec_periodEnd_of_due known now last front cut within before due next
    have recorded := State.periodRecords_recorded (s := s.onBil (fun _ => x)) (l := l)
    generalize State.periodRecords _ _ = t at hx recorded
    refine ⟨t, hx, ?_, ?_, ?_, ?_, ?_, by rw [recorded]; rfl⟩
    · rw [recorded]; exact period
    · rw [recorded]; exact start
    · rw [recorded]; exact cfg
    · rw [recorded]; exact zero
    · rw [recorded]; exact kept
  case offset =>
    intro s b last planned reached
    obtain ⟨us, u, hx⟩ := exec_offsetChange_of_reached last planned reached
    refine ⟨_, hx, ?_, ?_, rfl⟩
    · rw [State.fld, State.reg, getKey_putKey_same, Option.getD_some, Field.get_set_above (by decide)]
      exact Field.get_set _ _ (Nat.mod_lt _ (by decide))
    · rw [State.fld, State.reg, getKey_putKey_same, Option.getD_some, Field.get_set _ _ (by decide)]
  case calendar => exact fun s b now => ⟨_, exec_calendarTariffSwitch_of_known now, fun n => Vector.getElem_ofFn .., rfl⟩
  case command =>
    intro s b c now queued waits due
    refine ⟨_, exec_tariffCommandEffective_of_due now queued waits due, fun n => Vector.getElem_ofFn .., fun x hx reached => ?_, rfl⟩
    obtain ⟨y, -, rfl⟩ := List.mem_map.mp hx
    split at reached
    case isTrue early => rw [if_pos early]
    case isFalse late => exact absurd reached late

end Sys2Proof.Machine
end

section
/-!
Messages with a vehicle (R74, R287 to R290, R299, R303, R311): what a frame that comes or goes leaves of the modems, and the way of a message of a
linked vehicle from its receipt to its answer.
-/

namespace Sys2Proof.Machine

/-! ### Frames of the modem matrix (R287 to R290, R311) -/

/-- A modem over which frames have come or gone: its place in the matrix and its network are as they were. -/
structure Modem.Traffic (x y : Modem) : Prop where
  coupler : y.coupler = x.coupler
  failed : y.failed = x.failed
  matched : y.matched = x.matched
  inSlac : y.inSlac = x.inSlac
  mac : y.mac = x.mac
  nmk : y.nmk = x.nmk

theorem Modem.Traffic.refl (x : Modem) : x.Traffic x := ⟨rfl, rfl, rfl, rfl, rfl, rfl⟩

theorem Modem.Traffic.trans {x y z : Modem} (h : x.Traffic y) (k : y.Traffic z) : x.Traffic z :=
  ⟨k.coupler.trans h.coupler, k.failed.trans h.failed, k.matched.trans h.matched, k.inSlac.trans h.inSlac, k.mac.trans h.mac, k.nmk.trans h.nmk⟩

/-- A frame goes out where its bucket holds a token. -/
theorem Modem.take_fst (x : Modem) (mgmt : Bool) : (x.take mgmt).1 = decide (frameToken ≤ if mgmt then x.mgmt else x.data) := by
  unfold Modem.take
  by_cases enough : frameToken ≤ if mgmt then x.mgmt else x.data
  · rw [if_pos enough, decide_eq_true enough]
  · rw [if_neg enough, decide_eq_false enough]

/-- A frame is sent or held back. -/
theorem Modem.take_traffic (x : Modem) (mgmt : Bool) : x.Traffic (x.take mgmt).2 := by
  unfold Modem.take
  by_cases enough : frameToken ≤ if mgmt then x.mgmt else x.data
  · rw [if_pos enough]
    exact ⟨rfl, rfl, rfl, rfl, rfl, rfl⟩
  · rw [if_neg enough]
    exact ⟨rfl, rfl, rfl, rfl, rfl, rfl⟩

theorem Modem.refill_traffic (x : Modem) (tb damper : Nat) : x.Traffic (x.refill tb damper) := by
  obtain ⟨mgmt, data, refilled⟩ : ∃ mgmt data, x.refill tb damper = { x with mgmt := mgmt, data := data, refillTb := tb } := ⟨_, _, rfl⟩
  rw [refilled]
  exact ⟨rfl, rfl, rfl, rfl, rfl, rfl⟩

/-- Frames have come or gone over the modems of a table. -/
def ModemsMoved (v w : Vector Modem 7) : Prop := ∀ m : Fin 7, (v[m]).Traffic w[m]

theorem ModemsMoved.refl (v : Vector Modem 7) : ModemsMoved v v := fun _ => .refl _

theorem ModemsMoved.trans {v w x : Vector Modem 7} (h : ModemsMoved v w) (k : ModemsMoved w x) : ModemsMoved v x := fun m => (h m).trans (k m)

/-- Frames have come over the modems of a table. -/
def ModemsHeard (v w : Vector Modem 7) : Prop := ∀ m : Fin 7, ∃ n, w[m] = { v[m] with rxFrames := n }

theorem ModemsHeard.moved {v w : Vector Modem 7} (h : ModemsHeard v w) : ModemsMoved v w := fun m => by
  obtain ⟨n, hn⟩ := h m
  rw [hn]
  exact ⟨rfl, rfl, rfl, rfl, rfl, rfl⟩

/-- One modem of a table changes. -/
theorem upd_modem {v : Vector Modem 7} {m : Fin 7} {f : Modem → Modem} {r : Modem → Modem → Prop} (refl : ∀ x, r x x) (changed : r v[m] (f v[m])) (k : Fin 7) :
    r v[k] (upd v m f)[k] := by
  by_cases hmk : m = k
  · subst hmk
    rwa [upd_same]
  · rw [upd_other _ _ _ _ hmk]
    exact refl _

/-- `s` with other performance counters and another table of modems. -/
def State.carrying (s : State) (cn : Counters) (ms : Vector Modem 7) : State := { s with cnt := cn, veh := { s.veh with modems := ms } }

section
variable (s : State) (o : Fin 6)

theorem State.plcSend_frame (mgmt : Bool) : ∃ cn ms, (s.plcSend o mgmt).2 = s.carrying cn ms ∧ ModemsMoved s.veh.modems ms := by
  unfold State.plcSend
  dsimp only
  split
  · split
    · split
      · exact ⟨_, _, rfl, .refl _⟩
      · exact ⟨_, _, rfl, .refl _⟩
    · exact ⟨_, _, rfl, .refl _⟩
  · split
    case h_1 => exact ⟨_, _, rfl, .refl _⟩
    case h_2 m _ =>
      have moved : ModemsMoved s.veh.modems (upd s.veh.modems m (fun _ => (((s.veh.modems[m]).refill s.clock.tb (s.reg R.VEH_DAMPER [])).take mgmt).2)) :=
        upd_modem Modem.Traffic.refl ((Modem.refill_traffic ..).trans (Modem.take_traffic ..))
      split
      · exact ⟨_, _, rfl, moved⟩
      · exact ⟨_, _, rfl, moved⟩

theorem State.plcRecv_frame : ∃ cn ms, s.plcRecv o = s.carrying cn ms ∧ ModemsHeard s.veh.modems ms := by
  unfold State.plcRecv
  dsimp only
  split
  case h_1 m _ =>
    exact ⟨_, _, rfl, upd_modem (v := s.veh.modems) (m := m) (f := fun x => { x with rxFrames := (x.rxFrames + 1) % 65536 })
      (r := fun x y => ∃ n, y = { x with rxFrames := n }) (fun x => ⟨x.rxFrames, rfl⟩) ⟨_, rfl⟩⟩
  case h_2 => exact ⟨_, _, rfl, fun m => ⟨_, rfl⟩⟩

end

section
variable {s u : State} {o : Fin 6}

/-- Traffic moves no coupler to another modem. -/
theorem State.modemFor_moved (plc : u.plcOn o = s.plcOn o) (moved : ModemsMoved s.veh.modems u.veh.modems) : u.modemFor o = s.modemFor o := by
  unfold State.modemFor
  rw [plc]
  congr 2
  funext m
  rw [(moved m).coupler, (moved m).failed]

/-- Frames that have come leave the damper's word on the next frame as it was. -/
theorem State.plcSend_heard {mgmt : Bool} (plc : u.plcOn o = s.plcOn o) (mcs : u.isMcs o = s.isMcs o) (t1s : u.veh.t1s = s.veh.t1s)
    (clock : u.clock = s.clock) (regs : u.regs = s.regs) (heard : ModemsHeard s.veh.modems u.veh.modems) :
    (u.plcSend o mgmt).1 = (s.plcSend o mgmt).1 := by
  unfold State.plcSend
  dsimp only
  rw [mcs, t1s, State.modemFor_moved plc heard.moved]
  split
  · split
    · split <;> rfl
    · rfl
  · split
    · rfl
    case h_2 m _ =>
      obtain ⟨n, hn⟩ := heard m
      have damper : u.reg R.VEH_DAMPER [] = s.reg R.VEH_DAMPER [] := by rw [State.reg, State.reg, regs]
      have same : (((u.veh.modems[m]).refill u.clock.tb (u.reg R.VEH_DAMPER [])).take mgmt).1 =
          (((s.veh.modems[m]).refill s.clock.tb (s.reg R.VEH_DAMPER [])).take mgmt).1 := by
        rw [Modem.take_fst, Modem.take_fst, hn, clock, damper]
        rfl
      rw [same, apply_ite Prod.fst, apply_ite Prod.fst]

end

/-! ### A message from its receipt to its answer (R74, R299, R303) -/

/-- `s` once a message of the vehicle of output `o` has been opened: keys, counters and modems have moved, and the latest response is acknowledged. -/
def State.hearing (s : State) (o : Fin 6) (ks : KeyReg) (cn : Counters) (ms : Vector Modem 7) : State :=
  { s with keys := ks, cnt := cn,
           veh := { s.veh with modems := ms, proto := upd s.veh.proto o (fun p => { p with unacked := false }) } }

/-- `s` once response `r` has been sent to the vehicle of output `o`. -/
def State.answering (s : State) (o : Fin 6) (r : VehResp) (ks : KeyReg) (cn : Counters) (ms : Vector Modem 7) : State :=
  { s with keys := ks, cnt := cn,
           veh := { s.veh with modems := ms, resp := s.veh.resp.set o (some r), proto := upd s.veh.proto o (fun p => { p with unacked := true }) } }

/-- A response of output `o` can leave: where its vehicle has TLS, the record key seals. -/
def State.Seals (s : State) (o : Fin 6) : Prop :=
  (s.veh.proto[o]).tls = true → (s.slot (recordSlot o true)).refusal engTLSR s.clock.tb = none

section
variable {s : State} {o : Fin 6}

@[simp] theorem State.onProto_proto {f : Proto → Proto} : (s.onProto o f).veh.proto[o.1] = f s.veh.proto[o.1] := upd_same s.veh.proto o f

section
variable {ks : KeyReg} {cn : Counters} {ms : Vector Modem 7} {r : VehResp}

@[simp] theorem State.hearing_proto : (s.hearing o ks cn ms).veh.proto[o.1] = { s.veh.proto[o.1] with unacked := false } :=
  upd_same s.veh.proto o _

@[simp] theorem State.hearing_outRec (p : Fin 6) : (s.hearing o ks cn ms).outRec p = s.outRec p := rfl

@[simp] theorem State.hearing_so (p : Fin 6) : (s.hearing o ks cn ms).so p = s.so p := rfl

@[simp] theorem State.answering_so (p : Fin 6) : (s.answering o r ks cn ms).so p = s.so p := rfl

@[simp] theorem State.answering_proto : (s.answering o r ks cn ms).veh.proto[o.1] = { s.veh.proto[o.1] with unacked := true } :=
  upd_same s.veh.proto o _

@[simp] theorem State.answering_resp : (s.answering o r ks cn ms).veh.resp[o.1] = some r := Vector.getElem_set_self ..

theorem State.answering_answeredVeh {msg : String} {failed ongoing : Bool} (hr : r.msg = msg ∧ r.failed = failed ∧ r.ongoing = ongoing) :
    (s.answering o r ks cn ms).answeredVeh o msg failed ongoing := ⟨r, State.answering_resp, hr⟩

end

/-- A use of a key that is not refused changes its slot and a counter. -/
theorem State.keyUse_started {n : Fin 256} {engine polder : Nat} (starts : (s.slot n).refusal engine s.clock.tb = none) :
    ∃ ks cn, s.keyUse n engine polder = (none, { s with keys := ks, cnt := cn }) ∧
      ∀ m : Fin 256, ks.slots[m] = if n = m then (s.slot m).used else s.slot m := by
  have slots (m : Fin 256) := s.keyUse_slot n m engine polder
  unfold State.keyUse at slots ⊢
  rw [starts] at slots ⊢
  exact ⟨_, _, rfl, fun m => (slots m).trans (by simp)⟩

theorem recordSlot_ne (o : Fin 6) : recordSlot o true ≠ recordSlot o false := by
  intro same
  have := congrArg Fin.val same
  simp [recordSlot] at this

/-- A message of a linked vehicle is opened and handled. -/
theorem State.Linked.hears (l : s.Linked o) :
    ∃ ks cn ms, (∀ f, s.vehMsg o f = f (s.hearing o ks cn ms)) ∧ ModemsHeard s.veh.modems ms ∧
      ∀ n : Fin 256, n ≠ recordSlot o false → ks.slots[n] = s.slot n := by
  obtain ⟨link, session, opens, -⟩ := l
  obtain ⟨cn, ms, received, heard⟩ := s.plcRecv_frame o
  have reached : (s.linkUp o && (s.so o).sid.isSome) = true := by rw [link, session]; rfl
  by_cases tls : (s.veh.proto[o]).tls = true
  · have starts : ((s.hearing o s.keys cn ms).slot (recordSlot o false)).refusal engTLSR s.clock.tb = none := opens tls
    obtain ⟨ks, cn', used, slots⟩ := State.keyUse_started (polder := 0) starts
    refine ⟨ks, cn', ms, fun f => ?_, heard, fun n hn => (slots n).trans (if_neg hn.symm)⟩
    unfold State.vehMsg
    rw [if_pos reached, if_pos tls, received]
    change (match ((s.hearing o s.keys cn ms).keyUse (recordSlot o false) engTLSR 0).1 with
      | some _ => _
      | none => f ((s.hearing o s.keys cn ms).keyUse (recordSlot o false) engTLSR 0).2) = _
    rw [used]
    rfl
  · refine ⟨s.keys, cn, ms, fun f => ?_, heard, fun _ _ => rfl⟩
    unfold State.vehMsg
    rw [if_pos reached, if_neg tls, received]
    rfl

/-- Until a message of a linked vehicle is answered, the answer can be sealed. -/
theorem State.Linked.seals_of (l : s.Linked o) {u : State} (tls : (u.veh.proto[o]).tls = (s.veh.proto[o]).tls)
    (slot : u.slot (recordSlot o true) = s.slot (recordSlot o true)) (clock : u.clock = s.clock) : u.Seals o := by
  unfold State.Seals
  rw [tls, slot, clock]
  exact l.seals

/-- A response that can be sealed is sent. -/
theorem State.Seals.answers (seals : s.Seals o) (msg : String) (failed ongoing : Bool) (args : List Int) (body : Bytes) :
    ∃ ks cn ms, s.answer o msg failed ongoing args body =
        s.answering o { msg, isolation := s.isolationOf o, failed, ongoing, args, body } ks cn ms ∧ ModemsMoved s.veh.modems ms ∧
      ∀ n : Fin 256, ks.slots[n] = s.slot n ∨ ks.slots[n] = (s.slot n).used := by
  obtain ⟨ks, cn, used, slots⟩ : ∃ ks cn,
      (if (s.veh.proto[o]).tls then s.keyUse (recordSlot o true) engTLSR 0 else (none, s)) = (none, { s with keys := ks, cnt := cn }) ∧
        ∀ n : Fin 256, ks.slots[n] = s.slot n ∨ ks.slots[n] = (s.slot n).used := by
    by_cases tls : (s.veh.proto[o]).tls = true
    · obtain ⟨ks, cn, used, slots⟩ := State.keyUse_started (polder := 0) (seals tls)
      refine ⟨ks, cn, (if_pos tls).trans used, fun n => ?_⟩
      rw [slots n]
      split
      · exact .inr rfl
      · exact .inl rfl
    · exact ⟨s.keys, s.cnt, if_neg tls, fun _ => .inl rfl⟩
  obtain ⟨cn', ms, sent, moved⟩ := (s.answering o { msg, isolation := s.isolationOf o, failed, ongoing, args, body } ks cn s.veh.modems).plcSend_frame o false
  refine ⟨ks, cn', ms, ?_, moved, slots⟩
  unfold State.answer
  rw [used]
  exact sent

end

end Sys2Proof.Machine
end

section
/-!
What a move of the sequencer leaves of the rest of the machine (chapter 10): the link to the vehicle keeps all but the signals of the pilots, and an
outcome, a stop or a fault keeps the session table and every key but the storage key.
-/

namespace Sys2Proof.Machine

/-! ### What stays -/

/-- What is measured on a pilot is the same; its signal may be another. -/
structure Pilot.SameReading (p q : Pilot) : Prop where
  state : q.state = p.state
  diode : q.diode = p.diode
  high : q.high = p.high
  low : q.low = p.low
  tb : q.tb = p.tb

theorem Pilot.SameReading.refl (p : Pilot) : p.SameReading p := ⟨rfl, rfl, rfl, rfl, rfl⟩

theorem Pilot.SameReading.trans {p q r : Pilot} (h : p.SameReading q) (k : q.SameReading r) : p.SameReading r :=
  ⟨k.state.trans h.state, k.diode.trans h.diode, k.high.trans h.high, k.low.trans h.low, k.tb.trans h.tb⟩

/-- From `s` to `t` the sequencer has moved outputs: of the vehicle link only the signals of the pilots have changed. -/
structure State.Steers (s t : State) : Prop where
  frame : t = { s with use := t.use, keys := t.keys, host := t.host, cnt := t.cnt, log := t.log, sens := t.sens, bil := t.bil, guard := t.guard,
                       seqr := t.seqr, veh := t.veh, lsw := t.lsw, draws := t.draws }
  veh : t.veh = { s.veh with pilots := t.veh.pilots }
  readings : ∀ p : Fin 6, (s.veh.pilots[p]).SameReading t.veh.pilots[p]

/-- From `s` to `t` the sequencer has moved outputs, with no session or authorisation changed and no key used but the storage key. -/
structure State.Settles (s t : State) : Prop extends s.Steers t where
  table : t.host.table = s.host.table
  slots : ∀ n : Fin 256, n ≠ 4 → t.slot n = s.slot n
  auth : ∀ p, (t.so p).auth = (s.so p).auth

section
variable {s t u : State} {o : Fin 6}

theorem State.Steers.refl : s.Steers s := ⟨rfl, rfl, fun _ => .refl _⟩

theorem State.Steers.trans (h : s.Steers t) (k : t.Steers u) : s.Steers u where
  frame := k.frame.trans (by rw [h.frame])
  veh := k.veh.trans (by rw [h.veh])
  readings p := (h.readings p).trans (k.readings p)

theorem State.Steers.clock (h : s.Steers t) : t.clock = s.clock := by rw [h.frame]

theorem State.Settles.refl : s.Settles s := ⟨.refl, rfl, fun _ _ => rfl, fun _ => rfl⟩

theorem State.Settles.trans (h : s.Settles t) (k : t.Settles u) : s.Settles u where
  toSteers := h.toSteers.trans k.toSteers
  table := k.table.trans h.table
  slots n hn := (k.slots n hn).trans (h.slots n hn)
  auth p := (k.auth p).trans (h.auth p)

/-- One more change, part by part. -/
theorem State.Settles.step (h : s.Settles t)
    (frame : u = { t with use := u.use, keys := u.keys, host := u.host, cnt := u.cnt, log := u.log, sens := u.sens, bil := u.bil, guard := u.guard,
                          seqr := u.seqr, veh := u.veh, lsw := u.lsw, draws := u.draws } := by rfl)
    (veh : u.veh = { t.veh with pilots := u.veh.pilots } := by rfl)
    (readings : ∀ p : Fin 6, (t.veh.pilots[p]).SameReading u.veh.pilots[p] := by exact fun _ => .refl _)
    (table : u.host.table = t.host.table := by rfl)
    (slots : ∀ n : Fin 256, n ≠ 4 → u.slot n = t.slot n := by exact fun _ _ => rfl)
    (auth : ∀ p, (u.so p).auth = (t.so p).auth := by exact fun _ => rfl) : s.Settles u :=
  h.trans ⟨⟨frame, veh, readings⟩, table, slots, auth⟩

/-! ### The Fireguard, the load switches, billing and the hosts -/

section
variable (h : s.Settles t)
include h

theorem State.Settles.onSo {f : SeqOut → SeqOut} (auth : (f (t.so o)).auth = (t.so o).auth) : s.Settles (t.onSo o f) :=
  h.step (auth := fun p => by
    by_cases hp : p = o
    · subst hp
      rw [State.onSo_so_same, auth]
    · rw [State.onSo_so_other hp])

theorem State.Settles.onGuard {f : Guard → Guard} : s.Settles (t.onGuard f) := h.step
theorem State.Settles.onGo {f : GuardOut → GuardOut} : s.Settles (t.onGo o f) := h.step
theorem State.Settles.onSens {f : Sensing → Sensing} : s.Settles (t.onSens f) := h.step
theorem State.Settles.onHost {f : HostState → HostState} (table : (f t.host).table = t.host.table) : s.Settles (t.onHost f) := h.step (table := table)
theorem State.Settles.onChan {n : Fin 24} {f : LswChan → LswChan} : s.Settles (t.onChan n f) := h.step
theorem State.Settles.takeField {r : RegSpec} {f : Field} {ix : List Nat} : s.Settles (t.takeField r f ix) := h.step

theorem State.Settles.ite {c : Prop} [Decidable c] (k : s.Settles u) : s.Settles (if c then t else u) := by
  split
  · exact h
  · exact k

theorem State.Settles.foldl {β : Type} {f : State → β → State} (hf : ∀ (u : State) (x : β), s.Settles u → s.Settles (f u x)) (l : List β) :
    s.Settles (l.foldl f t) := List.foldlRecOn l f h fun u hu x _ => hf u x hu

theorem State.Settles.logEv {ev : Ev} {inst polder origin x y : Nat} : s.Settles (t.logEv ev inst polder origin x y) := by
  obtain ⟨cn, lg, logged, -⟩ := t.logEv_frame ev inst polder origin x y
  rw [logged]
  exact h.step

theorem State.Settles.notice {kind sid pilot cause seq idType : Nat} {ident : Bytes} {p : W64} :
    s.Settles (t.notice kind sid pilot cause seq idType ident p) := by
  unfold State.notice
  dsimp only
  split
  · exact h.step
  · exact h.step

theorem State.Settles.onJournal {f : Billing → Billing} : s.Settles (t.onJournal f) := by
  obtain ⟨ks, cn, lg, frame, slots⟩ := t.onJournal_frame f
  rw [frame]
  exact h.step (slots := slots)

/-! ### The request and the gate (R24, R25) -/

theorem State.Settles.dropTracks : s.Settles (t.dropTracks o) := by
  unfold State.dropTracks
  split
  · exact h
  · exact h.onSens

theorem State.Settles.gateChans {closed : Bool} : s.Settles (t.gateChans o closed) := by
  unfold State.gateChans
  refine h.foldl (fun u n hu => ?_) _
  dsimp only
  split
  · refine State.Settles.onChan ?_
    split
    · exact hu.takeField
    · exact hu
  · exact hu

theorem State.Settles.setGate {v : Bool} : s.Settles (t.setGate o v) := by
  unfold State.setGate
  exact h.ite (State.Settles.gateChans (State.Settles.onGo (.ite h.dropTracks h)))

theorem State.Settles.request {v : Bool} : s.Settles (t.request o v) := h.onGo.setGate

/-! ### States of an output (R316, R357) -/

theorem State.Settles.isoDrive {n : Fin 4} {halfB on : Bool} : s.Settles (t.isoDrive n halfB on) := by
  unfold State.isoDrive
  refine h.foldl (fun u c hu => ?_) _
  exact .ite hu.onChan hu

theorem State.Settles.monitorOf {was now : OutState} : s.Settles (t.monitorOf o was now) := by
  unfold State.monitorOf
  split
  · exact h.ite (.ite h.onGuard.isoDrive h.isoDrive)
  · exact h

theorem State.Settles.drivePilot {d : PilotDrive} : s.Settles (t.drivePilot o d) :=
  h.step (readings := fun p => by
    by_cases hp : o = p
    · subst hp
      change (t.veh.pilots[o]).SameReading (upd t.veh.pilots o _)[o]
      rw [upd_same, Pilot.choose]
      split
      · exact .refl _
      · exact ⟨rfl, rfl, rfl, rfl, rfl⟩
    · change (t.veh.pilots[p]).SameReading (upd t.veh.pilots o _)[p]
      rw [upd_other _ _ _ _ hp]
      exact .refl _)

theorem State.Settles.enter {x : OutState} : s.Settles (t.enter o x) := ((h.onSo rfl).monitorOf).drivePilot

/-! ### Session start, end and stop (R313, R338) -/

theorem State.Settles.reportStart : s.Settles (t.reportStart o) := by
  unfold State.reportStart
  dsimp only
  split
  · exact h
  · exact (h.onSo rfl).onJournal

theorem State.Settles.reportOutcome {accepted : Bool} : s.Settles (t.reportOutcome o accepted) := h.reportStart.onJournal

theorem State.Settles.endSession : s.Settles (t.endSession o) := by
  unfold State.endSession
  dsimp only
  refine h.ite (State.Settles.notice (State.Settles.onSo ?_ rfl))
  exact .ite h.onJournal h

theorem State.Settles.stopCause {cause : Nat} : s.Settles (t.stopCause o cause) := h.onSo (by split <;> rfl)

theorem State.Settles.startFive : s.Settles (t.startFive o) := h.onSo rfl

theorem State.Settles.toRollback {toLink : Bool} : s.Settles (t.toRollback o toLink) := (h.onSo rfl).enter

theorem State.Settles.withdraw : s.Settles (t.withdraw o) := h.request.endSession

theorem State.Settles.stopOut {cause : Nat} : s.Settles (t.stopOut o cause) := by
  unfold State.stopOut
  dsimp only
  split
  case h_1 | h_2 => exact h.stopCause.endSession.startFive.enter
  case h_3 | h_4 | h_5 => exact h.stopCause.toRollback
  case h_6 | h_7 | h_8 | h_9 | h_10 => exact h.stopCause.enter
  case h_11 => exact .ite (h.stopCause.onSo rfl) h
  case h_12 => exact h

theorem State.Settles.toFault {cause : Nat} : s.Settles (t.toFault o cause) := ((h.stopCause.withdraw.onSo rfl).enter).logEv

/-! ### Cable check and acceptance (R317, R321) -/

theorem State.Settles.startCheck {v : Nat} : s.Settles (t.startCheck o v) := by
  unfold State.startCheck
  split
  · exact h.onGuard
  · exact h

theorem State.Settles.judgeCheck : s.Settles (t.judgeCheck o) := by
  unfold State.judgeCheck
  split
  · exact h
  · exact .ite (.ite h.enter (.ite ((h.onSo rfl).enter).startCheck h)) h

theorem State.Settles.linkAccepted : s.Settles (t.linkAccepted o) := by
  unfold State.linkAccepted
  exact .ite (((h.onSo rfl).enter).startCheck).request h.enter

theorem State.Settles.trySpec : s.Settles (t.trySpec o) := by
  unfold State.trySpec
  exact .ite ((h.reportStart.enter).startCheck).request h

end

/-! ### A stop leaves the Fireguard and the load switches alone (R338, R357) -/

/-- A state entered from one that is energised like it: the insulation monitor runs on or stays off. -/
theorem State.enter_of_energised {x : OutState} (alike : (s.so o).state.energised = x.energised) :
    s.enter o x = (s.onSo o (fun q => { q with state := x, enterTb := s.clock.tb })).drivePilot o
      ((s.onSo o (fun q => { q with state := x, enterTb := s.clock.tb })).pilotOf o x) := by
  have still (u : State) : u.monitorOf o (s.so o).state x = u := by
    unfold State.monitorOf
    split
    · exact if_pos (.inl alike)
    · rfl
  unfold State.enter
  rw [still]

/-- `s` with the sequencer and the pilots moved on. -/
def State.moved (s : State) (sq : Seqr) (ps : Vector Pilot 6) : State := { s with seqr := sq, veh := { s.veh with pilots := ps } }

theorem State.enter_moved {x : OutState} (alike : (s.so o).state.energised = x.energised) :
    ∃ sq ps, s.enter o x = s.moved sq ps ∧ (sq.outs[o]).state = x := by
  rw [State.enter_of_energised alike]
  exact ⟨_, _, rfl, congrArg SeqOut.state State.onSo_so_same⟩

/-- From `s` to `t` the Fireguard, the load switches, the sensing, the values in use and the free values are as they were. -/
def State.Apart (s t : State) : Prop :=
  t.guard = s.guard ∧ t.lsw = s.lsw ∧ t.sens = s.sens ∧ t.use = s.use ∧ t.draws = s.draws

theorem State.enter_apart {x : OutState} (alike : (s.so o).state.energised = x.energised) : s.Apart (s.enter o x) := by
  rw [State.enter_of_energised alike]
  exact ⟨rfl, rfl, rfl, rfl, rfl⟩

theorem State.Apart.trans (h : s.Apart t) (k : t.Apart u) : s.Apart u := by
  obtain ⟨guard, lsw, sens, use, draws⟩ := h
  obtain ⟨guard', lsw', sens', use', draws'⟩ := k
  exact ⟨guard'.trans guard, lsw'.trans lsw, sens'.trans sens, use'.trans use, draws'.trans draws⟩

theorem State.endSession_apart : s.Apart (s.endSession o) := by
  unfold State.endSession
  dsimp only
  split
  · exact ⟨rfl, rfl, rfl, rfl, rfl⟩
  · obtain ⟨ks, cn, lg, bl, billed⟩ : ∃ ks cn lg bl, (if (s.so o).startTb.isSome then s.billEnd o s.clock.tb else s) =
        { s with keys := ks, cnt := cn, log := lg, bil := bl } := by
      split
      · obtain ⟨ks, cn, lg, ended, -⟩ := s.onJournal_frame _
        exact ⟨ks, cn, lg, _, ended⟩
      · exact ⟨_, _, _, _, rfl⟩
    rw [billed]
    exact ⟨rfl, rfl, rfl, rfl, rfl⟩

theorem State.endSession_state : ((s.endSession o).so o).state = (s.so o).state := by
  unfold State.endSession
  dsimp only
  split
  · rfl
  · rw [State.notice_beside.so, State.onSo_so_same]
    split
    · rw [State.billEnd, State.onJournal_beside.so]
    · rfl

/-- A stop leads an energised output to an energised state, and any other to one that is not energised. -/
theorem State.stopOut_apart {cause : Nat} : s.Apart (s.stopOut o cause) := by
  have recorded : s.Apart (s.stopCause o cause) := ⟨rfl, rfl, rfl, rfl, rfl⟩
  have state := State.stopCause_state (s := s) (o := o) (cause := cause)
  unfold State.stopOut
  dsimp only
  cases hx : (s.so o).state
  case lock | link =>
    have five : (((s.stopCause o cause).endSession o).startFive o).so o = _ := State.onSo_so_same
    refine recorded.trans (State.endSession_apart.trans (.trans (t := ((s.stopCause o cause).endSession o).startFive o) ⟨rfl, rfl, rfl, rfl, rfl⟩
      (State.enter_apart ?_)))
    rw [five]
    change ((State.so _ o).state).energised = _
    rw [State.endSession_state, state, hx]
    rfl
  case specCheck | specPrecharge | specReady =>
    refine recorded.trans (.trans (t := (s.stopCause o cause).onSo o (fun q => { q with toLink := false })) ⟨rfl, rfl, rfl, rfl, rfl⟩
      (State.enter_apart ?_))
    rw [State.onSo_so_same, state, hx]
    rfl
  case check | precharge | ready | charging | paused =>
    refine recorded.trans (State.enter_apart ?_)
    rw [state, hx]
    rfl
  case rollback =>
    dsimp only
    split
    · exact ⟨rfl, rfl, rfl, rfl, rfl⟩
    · exact ⟨rfl, rfl, rfl, rfl, rfl⟩
  case idle | unavailable | stopping | weldcheck | unlock | waitUnplug | fault => exact ⟨rfl, rfl, rfl, rfl, rfl⟩

/-- `s` once a session has ended or an output has been stopped. -/
def State.stopping (s : State) (ks : KeyReg) (hs : HostState) (cn : Counters) (lg : EventLog) (bl : Billing) (sq : Seqr) (ps : Vector Pilot 6) : State :=
  { s with keys := ks, host := hs, cnt := cn, log := lg, bil := bl, seqr := sq, veh := { s.veh with pilots := ps } }

theorem State.stopOut_stopping (s : State) (o : Fin 6) (cause : Nat) :
    ∃ ks hs cn lg bl sq ps, s.stopOut o cause = s.stopping ks hs cn lg bl sq ps := by
  obtain ⟨guard, lsw, sens, use, draws⟩ := State.stopOut_apart (s := s) (o := o) (cause := cause)
  have settles := State.Settles.stopOut (s := s) (o := o) (cause := cause) .refl
  generalize s.stopOut o cause = t at *
  refine ⟨t.keys, t.host, t.cnt, t.log, t.bil, t.seqr, t.veh.pilots, settles.frame.trans ?_⟩
  rw [guard, lsw, sens, use, draws, settles.veh]
  rfl

end

end Sys2Proof.Machine
end

section
/-! O32: the messages of the charging sequence (R302, R303, R306, R317, R321, R322, R329, R338, R341). -/

namespace Sys2Proof.Machine

section
variable {s t u : State} {o : Fin 6}

/-! ### Notices and relayed requests (R305, R306) -/

/-- `s` with other messages in the sluices. -/
def State.noticing (s : State) (sl : Vector Sluice 8) : State := { s with host := { s.host with sluices := sl } }

/-- A notice changes the sluices of the host ports. -/
theorem State.notice_frame (s : State) (kind sid pilot cause seq idType : Nat) (ident : Bytes) (p : W64) :
    ∃ sl, s.notice kind sid pilot cause seq idType ident p = s.noticing sl := by
  unfold State.notice
  dsimp only
  split
  · exact ⟨_, rfl⟩
  · exact ⟨_, rfl⟩

/-- `s` with a request of a kind in the window of a pilot's relay (R306). -/
def State.relaying (s : State) (o : Fin 6) (kind : Nat) (body : Bytes) (sl : Vector Sluice 8) : State :=
  { s.noticing sl with
           veh := { s.veh with relay := upd s.veh.relay o (fun r =>
             { r with kind := kind, seq := ((s.veh.relay[o]).seq + 1) % 65536, len := body.length, deadline := some (s.clock.tb + s.deadlineTb), request := body }) } }

theorem State.relayRequest_frame (s : State) (o : Fin 6) (kind idType : Nat) (ident body : Bytes) :
    ∃ sl, s.relayRequest o kind idType ident body = s.relaying o kind body sl := by
  obtain ⟨sl, noticed⟩ := (s.relaying o kind body s.host.sluices).notice_frame (if kind = 1 then 3 else 5) (s.so o).sidNat o.1 0 ((s.veh.relay[o]).seq + 1)
    idType ident (s.sessionPseud o ident)
  exact ⟨sl, noticed⟩

@[simp] theorem State.relaying_relay {kind : Nat} {body : Bytes} {sl : Vector Sluice 8} :
    (s.relaying o kind body sl).veh.relay[o.1] =
      { s.veh.relay[o.1] with kind := kind, seq := ((s.veh.relay[o.1]).seq + 1) % 65536, len := body.length,
                              deadline := some (s.clock.tb + s.deadlineTb), request := body } := upd_same s.veh.relay o _

@[simp] theorem State.relaying_proto {kind : Nat} {body : Bytes} {sl : Vector Sluice 8} : (s.relaying o kind body sl).veh.proto = s.veh.proto := rfl

@[simp] theorem State.noticing_veh {sl : Vector Sluice 8} : (s.noticing sl).veh = s.veh := rfl

@[simp] theorem State.noticing_so {sl : Vector Sluice 8} : (s.noticing sl).so o = s.so o := rfl

/-! ### A cable check that goes on (R321) -/

/-- From `s` to `t` the cable check of output `o` has gone on: its monitor, its state and its pilot may have moved, what the vehicle has said stays. -/
structure State.Checks (s t : State) (o : Fin 6) : Prop where
  vMax : (t.so o).vMax = (s.so o).vMax
  pReq : (t.so o).pReq = (s.so o).pReq
  cableReq : (t.so o).cableReq = (s.so o).cableReq
  others : ∀ p, p ≠ o → t.so p = s.so p
  frame : t = { s with guard := t.guard, seqr := t.seqr, veh := { s.veh with pilots := t.veh.pilots } }

theorem State.Checks.refl : s.Checks s o := ⟨rfl, rfl, rfl, fun _ _ => rfl, rfl⟩

theorem State.Checks.trans (h : s.Checks t o) (k : t.Checks u o) : s.Checks u o where
  vMax := k.vMax.trans h.vMax
  pReq := k.pReq.trans h.pReq
  cableReq := k.cableReq.trans h.cableReq
  others p hp := (k.others p hp).trans (h.others p hp)
  frame := k.frame.trans (by rw [h.frame])

theorem State.onSo_checks {f : SeqOut → SeqOut} (vMax : (f (s.so o)).vMax = (s.so o).vMax) (pReq : (f (s.so o)).pReq = (s.so o).pReq)
    (cableReq : (f (s.so o)).cableReq = (s.so o).cableReq) : s.Checks (s.onSo o f) o where
  vMax := (congrArg SeqOut.vMax State.onSo_so_same).trans vMax
  pReq := (congrArg SeqOut.pReq State.onSo_so_same).trans pReq
  cableReq := (congrArg SeqOut.cableReq State.onSo_so_same).trans cableReq
  others _ hp := State.onSo_so_other hp
  frame := rfl

theorem State.enter_checks {x : OutState} (alike : (s.so o).state.energised = x.energised) : s.Checks (s.enter o x) o := by
  rw [State.enter_of_energised alike]
  exact (State.onSo_checks rfl rfl rfl).trans ⟨rfl, rfl, rfl, fun _ _ => rfl, rfl⟩

theorem State.startCheck_checks {v : Nat} : s.Checks (s.startCheck o v) o := by
  unfold State.startCheck
  split
  · exact ⟨rfl, rfl, rfl, fun _ _ => rfl, rfl⟩
  · exact .refl

/-- A check that goes on after a message of the vehicle. -/
theorem State.Checks.framed {a : State} (h : a.Checks t o)
    (frame : a = { s with keys := a.keys, host := a.host, cnt := a.cnt, guard := a.guard, seqr := a.seqr, veh := a.veh }) :
    t = { s with keys := t.keys, host := t.host, cnt := t.cnt, guard := t.guard, seqr := t.seqr, veh := t.veh } := by
  rw [h.frame, frame]

theorem State.Checks.answeredVeh (h : s.Checks t o) {p : Fin 6} {msg : String} {failed ongoing : Bool} (answered : s.answeredVeh p msg failed ongoing) :
    t.answeredVeh p msg failed ongoing := by
  rw [h.frame]
  exact answered

/-- A check begins again from an energised state. -/
theorem State.recheck_checks {v : Nat} (energised : (s.so o).state.energised = true) :
    s.Checks (((s.onSo o (fun q => { q with verdictV := none })).enter o .check).startCheck o v) o := by
  have alike : ((s.onSo o (fun q => { q with verdictV := none })).so o).state.energised = OutState.check.energised := by
    rw [State.onSo_so_same]
    exact energised
  exact ((State.onSo_checks rfl rfl rfl).trans (State.enter_checks alike)).trans State.startCheck_checks

theorem State.judgeCheck_checks : s.Checks (s.judgeCheck o) o := by
  unfold State.judgeCheck
  split
  case h_1 => exact .refl
  case h_2 =>
    split
    case isFalse => exact .refl
    case isTrue judged =>
      split
      · exact State.enter_checks (by rw [judged.1]; rfl)
      · split
        · exact State.recheck_checks (by rw [judged.1]; rfl)
        · exact .refl

end

end Sys2Proof.Machine
end

section
/-! O32: the messages of the charging sequence (R302, R303, R306, R317, R321, R322, R329, R338, R341). -/

namespace Sys2Proof.Machine

/-- What the vehicle says of itself at CHARGE_PARAMETER_DISCOVERY; only a service with export takes a negative power (R303). -/
def SeqOut.parameters (vMax : Nat) (pMax : Int) (bpt : Bool) (q : SeqOut) : SeqOut :=
  { q with vMax := if vMax = 0 then q.vMax else vMax, pReq := if bpt then pMax else max 0 pMax }

/-- What the vehicle asks for in the charge loop; a DC output takes its voltage as the target where it names one (R329). -/
def SeqOut.chargeLoop (target : Int) (volts : Nat) (power : Int) (bpt dc : Bool) (q : SeqOut) : SeqOut :=
  { q with iTarget := if bpt then target else max 0 target, pReq := if bpt then power else max 0 power,
           target := if dc ∧ volts ≠ 0 then some volts else q.target }

/-- `s` once the parameters of a vehicle have been heard (R302). -/
def State.parametersTold (s : State) (o : Fin 6) (vMax : Nat) (pMax : Int) : State :=
  (s.onProto o (fun p => { p with stage := 6 })).onSo o (SeqOut.parameters vMax pMax ((s.veh.proto[o]).service == 3))

/-- The figures of ChargeParameterDiscoveryRes: the nominal voltage, and the power that the limits leave. -/
def State.parameterFigures (s : State) (o : Fin 6) : List Int :=
  [(s.outRec o).volt, max 0 (min (s.demandLimits o).1 (min (s.demandLimits o).2.1 (s.demandLimits o).2.2))]

/-- `s` with other requests in the windows of the relays, announced on the sluices. -/
def State.withRelay (s : State) (sl : Vector Sluice 8) (rl : Vector Relay 6) : State := { s.noticing sl with veh := { s.veh with relay := rl } }

section
variable {s u : State} {o : Fin 6} (l : s.Linked o)
include l

/-- Before the answer to a message of a linked vehicle no more has happened to its records than their opening: the response is sent. -/
theorem State.Linked.answers (tls : (u.veh.proto[o]).tls = (s.veh.proto[o]).tls) (slot : u.slot (recordSlot o true) = s.slot (recordSlot o true))
    (clock : u.clock = s.clock) (msg : String) (failed ongoing : Bool) (args : List Int) (body : Bytes) :
    ∃ i ks cn ms, u.answer o msg failed ongoing args body = u.answering o ⟨msg, i, failed, ongoing, args, body⟩ ks cn ms := by
  obtain ⟨ks, cn, ms, answered, -⟩ := (l.seals_of tls slot clock).answers msg failed ongoing args body
  exact ⟨_, ks, cn, ms, answered⟩

theorem exec_sessionSetup_of_linked (id : Bytes) :
    ∃ t, exec (.sessionSetup o id) s = .next t ∧ t.answeredVeh o "SessionSetupRes" false false ∧ (t.veh.proto[o]).stage = 4 ∧
      t = { s with keys := t.keys, host := t.host, cnt := t.cnt, veh := t.veh } := by
  obtain ⟨ks, cn, ms, hears, -, slots⟩ := l.hears
  obtain ⟨sl, noticed⟩ := ((s.hearing o ks cn ms).onProto o (fun p => { p with stage := 4 })).notice_frame 2 (s.so o).sidNat o.1 0 0 3 (id.take 64)
    (s.sessionPseud o (id.take 64))
  obtain ⟨i, ks', cn', ms', answered⟩ := l.answers (u := ((s.hearing o ks cn ms).onProto o (fun p => { p with stage := 4 })).noticing sl)
    (by simp) (slots _ (recordSlot_ne o)) rfl "SessionSetupRes" false false [] []
  refine ⟨_, congrArg Host.Outcome.next ((hears _).trans ((congrArg (fun u => u.answer o "SessionSetupRes" false false [] []) noticed).trans answered)),
    ?_, ?_, rfl⟩
  · exact State.answering_answeredVeh ⟨rfl, rfl, rfl⟩
  · simp

theorem exec_serviceDiscovery_of_linked (service : Nat) :
    ∃ t, exec (.serviceDiscovery o service) s = .next t ∧
      (service = 0 → t.answeredVeh o "ServiceDiscoveryRes" false false) ∧
      (service ≠ 0 → t.answeredVeh o "ServiceSelectionRes" (!offered (s.outRec o).kind (s.veh.proto[o]).protocol service) false) ∧
      (service ≠ 0 → offered (s.outRec o).kind (s.veh.proto[o]).protocol service = true → (t.veh.proto[o]).service = service) ∧
      t = { s with keys := t.keys, cnt := t.cnt, veh := t.veh } := by
  obtain ⟨ks, cn, ms, hears, -, slots⟩ := l.hears
  have heard : ((s.hearing o ks cn ms).veh.proto[o]).tls = (s.veh.proto[o]).tls := by simp
  have slot := slots _ (recordSlot_ne o)
  have said : offered ((s.hearing o ks cn ms).outRec o).kind ((s.hearing o ks cn ms).veh.proto[o]).protocol service =
      offered (s.outRec o).kind (s.veh.proto[o]).protocol service := by simp
  by_cases discovery : service = 0
  · obtain ⟨i, ks', cn', ms', answered⟩ := l.answers heard slot rfl "ServiceDiscoveryRes" false false [] []
    exact ⟨_, congrArg Host.Outcome.next ((hears _).trans ((if_pos discovery).trans answered)), fun _ => State.answering_answeredVeh ⟨rfl, rfl, rfl⟩,
      fun no => absurd discovery no, fun no => absurd discovery no, rfl⟩
  cases offer : offered (s.outRec o).kind (s.veh.proto[o]).protocol service
  case true =>
    obtain ⟨i, ks', cn', ms', answered⟩ := l.answers (u := (s.hearing o ks cn ms).onProto o (fun p => { p with service := service })) (by simp) slot rfl
      "ServiceSelectionRes" false false [] []
    exact ⟨_, congrArg Host.Outcome.next ((hears _).trans ((if_neg discovery).trans ((if_pos (said.trans offer)).trans answered))),
      fun yes => absurd yes discovery, fun _ => State.answering_answeredVeh ⟨rfl, rfl, rfl⟩, fun _ _ => by simp, rfl⟩
  case false =>
    obtain ⟨i, ks', cn', ms', answered⟩ := l.answers heard slot rfl "ServiceSelectionRes" true false [] []
    exact ⟨_, congrArg Host.Outcome.next ((hears _).trans ((if_neg discovery).trans ((if_neg (by rw [said, offer]; exact Bool.false_ne_true)).trans answered))),
      fun yes => absurd yes discovery, fun _ => State.answering_answeredVeh ⟨rfl, rfl, rfl⟩, fun _ => nofun, rfl⟩

theorem exec_certificateInstallation_of_linked {update : Bool} {exi : Bytes} (short : exi.length ≤ exiMax)
    (protocol : (s.veh.proto[o]).protocol = 2 ∨ ((s.veh.proto[o]).protocol = 3 ∧ update = false)) :
    ∃ t, exec (.certificateInstallation o update exi) s = .next t ∧ (t.veh.relay[o]).kind = (if update then 3 else 2) ∧
      (t.veh.relay[o]).seq = ((s.veh.relay[o]).seq + 1) % 65536 ∧ (t.veh.relay[o]).request = exi ∧
      (t.veh.relay[o]).deadline = some (s.clock.tb + s.deadlineTb) ∧
      t = { s with keys := t.keys, host := t.host, cnt := t.cnt, veh := t.veh } := by
  obtain ⟨ks, cn, ms, hears, -, -⟩ := l.hears
  obtain ⟨sl, relayed⟩ := (s.hearing o ks cn ms).relayRequest_frame o (if update then 3 else 2) 0 [] exi
  have same : ((s.hearing o ks cn ms).veh.proto[o]).protocol = (s.veh.proto[o]).protocol := by simp
  refine ⟨_, congrArg Host.Outcome.next ((hears _).trans ((if_pos ⟨short, by rw [same]; exact protocol⟩).trans relayed)), ?_, ?_, ?_, ?_, rfl⟩
  · simp
  · simp
    rfl
  · simp
  · simp
    rfl

theorem exec_chargeParameterDiscovery_of_linked (vMax : Nat) (pMax : Int) (schedule : Bool) :
    ∃ t, exec (.chargeParameterDiscovery o vMax pMax schedule) s = .next t ∧ t.answeredVeh o "ChargeParameterDiscoveryRes" false false ∧
      (t.so o).vMax = (if vMax = 0 then (s.so o).vMax else vMax) ∧
      (t.so o).pReq = (if (s.veh.proto[o]).service = 3 then pMax else max 0 pMax) ∧ (∀ p, p ≠ o → t.so p = s.so p) ∧
      t = { s with keys := t.keys, host := t.host, cnt := t.cnt, guard := t.guard, seqr := t.seqr, veh := t.veh } := by
  obtain ⟨ks, cn, ms, hears, -, slots⟩ := l.hears
  have told_so : ((s.hearing o ks cn ms).parametersTold o vMax pMax).so o =
      (s.so o).parameters vMax pMax (((s.hearing o ks cn ms).veh.proto[o]).service == 3) := State.onSo_so_same
  have told_others (p : Fin 6) (hp : p ≠ o) : ((s.hearing o ks cn ms).parametersTold o vMax pMax).so p = s.so p := State.onSo_so_other hp
  have told_tls : (((s.hearing o ks cn ms).parametersTold o vMax pMax).veh.proto[o]).tls = (s.veh.proto[o]).tls := by simp [State.parametersTold]
  obtain ⟨sl, rl, relayed⟩ : ∃ sl rl, (if schedule && (s.hearing o ks cn ms).p2Open && ((s.hearing o ks cn ms).veh.relay[o]).kind == 0 then
      ((s.hearing o ks cn ms).parametersTold o vMax pMax).relayRequest o 5 0 [] [] else (s.hearing o ks cn ms).parametersTold o vMax pMax) =
        ((s.hearing o ks cn ms).parametersTold o vMax pMax).withRelay sl rl := by
    split
    · obtain ⟨sl, relayed⟩ := ((s.hearing o ks cn ms).parametersTold o vMax pMax).relayRequest_frame o 5 0 [] []
      exact ⟨sl, _, relayed⟩
    · exact ⟨_, _, rfl⟩
  obtain ⟨i, ks', cn', ms', answered⟩ := l.answers (u := ((s.hearing o ks cn ms).parametersTold o vMax pMax).withRelay sl rl) told_tls
    (slots _ (recordSlot_ne o)) rfl "ChargeParameterDiscoveryRes" false false ((s.hearing o ks cn ms).parameterFigures o) []
  have checks := State.judgeCheck_checks (o := o) (s := (((s.hearing o ks cn ms).parametersTold o vMax pMax).withRelay sl rl).answering o
    ⟨"ChargeParameterDiscoveryRes", i, false, false, (s.hearing o ks cn ms).parameterFigures o, []⟩ ks' cn' ms')
  refine ⟨_, congrArg Host.Outcome.next ((hears _).trans (congrArg (fun u => u.judgeCheck o)
    ((congrArg (fun u => u.answer o "ChargeParameterDiscoveryRes" false false ((s.hearing o ks cn ms).parameterFigures o) []) relayed).trans answered))),
    checks.answeredVeh (State.answering_answeredVeh ⟨rfl, rfl, rfl⟩), ?_, ?_, fun p hp => ?_, ?_⟩
  · exact checks.vMax.trans (congrArg SeqOut.vMax told_so)
  · refine checks.pReq.trans ((congrArg SeqOut.pReq told_so).trans ?_)
    simp [SeqOut.parameters]
  · exact (checks.others p hp).trans (told_others p hp)
  · exact checks.framed rfl

theorem exec_cableCheckRequest_of_linked :
    ∃ t, exec (.cableCheckRequest o) s = .next t ∧ (t.so o).cableReq = true ∧
      t.answeredVeh o "CableCheckRes" (!isDc o || decide (12 ≤ (t.so o).state.code)) (decide ((t.so o).state.code < 8)) ∧
      t = { s with keys := t.keys, cnt := t.cnt, guard := t.guard, seqr := t.seqr, veh := t.veh } := by
  obtain ⟨ks, cn, ms, hears, -, slots⟩ := l.hears
  obtain ⟨v, checks, hx⟩ : ∃ v,
      (((s.hearing o ks cn ms).onProto o (fun p => { p with stage := 7 })).onSo o (fun q => { q with cableReq := true })).Checks v o ∧
        exec (.cableCheckRequest o) s = .next (v.answer o "CableCheckRes" (!isDc o || decide (12 ≤ (v.so o).state.code))
          (decide ((v.so o).state.code < 8)) [] []) := by
    refine ⟨_, ?_, congrArg Host.Outcome.next (hears _)⟩
    split
    case h_1 state _ =>
      split
      · refine State.recheck_checks ?_
        rw [State.onSo_so_same]
        exact congrArg OutState.energised state
      · exact .refl
    case h_2 => exact State.judgeCheck_checks
  have requested : (v.so o).cableReq = true := checks.cableReq.trans (congrArg SeqOut.cableReq State.onSo_so_same)
  have tls : (v.veh.proto[o]).tls = (s.veh.proto[o]).tls := by
    rw [checks.frame]
    simp
  obtain ⟨i, ks', cn', ms', answered⟩ := l.answers tls (by rw [checks.frame]; exact slots _ (recordSlot_ne o)) (by rw [checks.frame]; rfl)
    "CableCheckRes" (!isDc o || decide (12 ≤ (v.so o).state.code)) (decide ((v.so o).state.code < 8)) [] []
  rw [answered] at hx
  refine ⟨_, hx, requested, State.answering_answeredVeh ⟨rfl, rfl, rfl⟩, ?_⟩
  rw [checks.frame]
  rfl

theorem exec_prechargeRequest_of_linked (mv : Nat) :
    ∃ t, exec (.prechargeRequest o mv) s = .next t ∧ t.so o = { s.so o with target := some mv } ∧
      t.answeredVeh o "PreChargeRes" (!isDc o || decide (12 ≤ (s.so o).state.code)) (decide ((s.so o).state.code < 9)) ∧
      t = { s with keys := t.keys, cnt := t.cnt, seqr := t.seqr, veh := t.veh } := by
  obtain ⟨ks, cn, ms, hears, -, slots⟩ := l.hears
  obtain ⟨i, ks', cn', ms', answered⟩ := l.answers
    (u := ((s.hearing o ks cn ms).onProto o (fun p => { p with stage := 8 })).onSo o (fun q => { q with target := some mv })) (by simp)
    (slots _ (recordSlot_ne o)) rfl "PreChargeRes" (!isDc o || decide (12 ≤ (s.so o).state.code)) (decide ((s.so o).state.code < 9)) [s.outMv o] []
  refine ⟨_, congrArg Host.Outcome.next ((hears _).trans answered), ?_, ?_, rfl⟩
  · exact State.onSo_so_same
  · exact State.answering_answeredVeh ⟨rfl, rfl, rfl⟩

theorem exec_powerDelivery_of_linked (start : Bool) :
    ∃ t, exec (.powerDelivery o start) s = .next t ∧ t.answeredVeh o "PowerDeliveryRes" false false ∧
      (t.so o).state = (if start && isDc o && (s.so o).state == .ready then .charging else (s.so o).state) ∧
      t = { s with keys := t.keys, cnt := t.cnt, seqr := t.seqr, veh := t.veh } := by
  obtain ⟨ks, cn, ms, hears, -, slots⟩ := l.hears
  obtain ⟨sq, ps, started, state⟩ : ∃ sq ps, (if start && isDc o && (s.so o).state == .ready then
      ((s.hearing o ks cn ms).onProto o (fun p => { p with stage := 9 })).enter o .charging
        else (s.hearing o ks cn ms).onProto o (fun p => { p with stage := 9 })) =
      ((s.hearing o ks cn ms).onProto o (fun p => { p with stage := 9 })).moved sq ps ∧
        (sq.outs[o]).state = (if start && isDc o && (s.so o).state == .ready then .charging else (s.so o).state) := by
    split
    case isTrue ready =>
      have state : (s.so o).state = .ready := by simp at ready; exact ready.2
      obtain ⟨sq, ps, entered, same⟩ := State.enter_moved (s := (s.hearing o ks cn ms).onProto o (fun p => { p with stage := 9 })) (o := o)
        (x := .charging) ((congrArg OutState.energised state).trans rfl)
      exact ⟨sq, ps, entered, same⟩
    case isFalse => exact ⟨_, _, rfl, rfl⟩
  obtain ⟨i, ks', cn', ms', answered⟩ := l.answers (u := ((s.hearing o ks cn ms).onProto o (fun p => { p with stage := 9 })).moved sq ps)
    (by simp [State.moved]) (slots _ (recordSlot_ne o)) rfl "PowerDeliveryRes" false false [] []
  refine ⟨_, congrArg Host.Outcome.next ((hears _).trans ((congrArg (fun u => u.answer o "PowerDeliveryRes" false false [] []) started).trans answered)),
    ?_, ?_, rfl⟩
  · exact State.answering_answeredVeh ⟨rfl, rfl, rfl⟩
  · exact state

theorem exec_chargeLoop_of_linked (target : Int) (volts : Nat) (power : Int) :
    ∃ t r, exec (.chargeLoop o target volts power) s = .next t ∧ t.veh.resp[o] = some r ∧ r.msg = "ChargeLoopRes" ∧ r.failed = false ∧
      r.args = [(s.meterWh o : Int), s.outMv o] ∧ (t.so o).iTarget = (if (s.veh.proto[o]).service = 3 then target else max 0 target) ∧
      (t.so o).pReq = (if (s.veh.proto[o]).service = 3 then power else max 0 power) ∧ (t.so o).state = (s.so o).state ∧
      t = { s with keys := t.keys, cnt := t.cnt, seqr := t.seqr, veh := t.veh } := by
  obtain ⟨ks, cn, ms, hears, -, slots⟩ := l.hears
  obtain ⟨i, ks', cn', ms', answered⟩ := l.answers
    (u := ((s.hearing o ks cn ms).onProto o (fun p => { p with stage := 9 })).onSo o
      (SeqOut.chargeLoop target volts power (((s.hearing o ks cn ms).veh.proto[o]).service == 3) (isDc o)))
    (by simp) (slots _ (recordSlot_ne o)) rfl "ChargeLoopRes" false false [(s.meterWh o : Nat), s.outMv o] (leBytes 8 s.life.serial.toNat)
  refine ⟨_, _, congrArg Host.Outcome.next ((hears _).trans answered), State.answering_resp, rfl, rfl, rfl, ?_, ?_, ?_, rfl⟩
  · refine (congrArg SeqOut.iTarget State.onSo_so_same).trans ?_
    simp [SeqOut.chargeLoop]
  · refine (congrArg SeqOut.pReq State.onSo_so_same).trans ?_
    simp [SeqOut.chargeLoop]
  · exact (congrArg SeqOut.state State.onSo_so_same).trans rfl

theorem exec_meteringReceipt_of_linked (signed : Bytes) :
    ∃ t, exec (.meteringReceipt o signed) s = .next t ∧
      t.answeredVeh o "MeteringReceiptRes" (!decide (signed.length ≤ exiMax ∧ 2 ≤ (s.veh.proto[o]).protocol)) false ∧
      (signed.length ≤ exiMax → 2 ≤ (s.veh.proto[o]).protocol → (t.veh.relay[o]).kind = 4 ∧ (t.veh.relay[o]).request = signed) ∧
      t = { s with keys := t.keys, host := t.host, cnt := t.cnt, veh := t.veh } := by
  obtain ⟨ks, cn, ms, hears, -, slots⟩ := l.hears
  have same : ((s.hearing o ks cn ms).veh.proto[o]).protocol = (s.veh.proto[o]).protocol := by simp
  by_cases relays : signed.length ≤ exiMax ∧ 2 ≤ (s.veh.proto[o]).protocol
  · obtain ⟨sl, relayed⟩ := (s.hearing o ks cn ms).relayRequest_frame o 4 0 [] signed
    obtain ⟨i, ks', cn', ms', answered⟩ := l.answers (u := (s.hearing o ks cn ms).relaying o 4 signed sl) (by simp) (slots _ (recordSlot_ne o)) rfl
      "MeteringReceiptRes" false false [] []
    refine ⟨_, congrArg Host.Outcome.next ((hears _).trans ((if_pos (by rw [same]; exact relays)).trans
      ((congrArg (fun u => u.answer o "MeteringReceiptRes" false false [] []) relayed).trans answered))), ?_, fun _ _ => ?_, rfl⟩
    · rw [decide_eq_true relays]
      exact State.answering_answeredVeh ⟨rfl, rfl, rfl⟩
    · simp [State.answering]
  · obtain ⟨i, ks', cn', ms', answered⟩ := l.answers (u := s.hearing o ks cn ms) (by simp) (slots _ (recordSlot_ne o)) rfl
      "MeteringReceiptRes" true false [] []
    refine ⟨_, congrArg Host.Outcome.next ((hears _).trans ((if_neg (by rw [same]; exact relays)).trans answered)), ?_,
      fun short late => absurd ⟨short, late⟩ relays, rfl⟩
    rw [decide_eq_false relays]
    exact State.answering_answeredVeh ⟨rfl, rfl, rfl⟩

theorem exec_weldingDetection_of_linked :
    ∃ t, exec (.weldingDetection o) s = .next t ∧ t.answeredVeh o "WeldingDetectionRes" (!isDc o) false ∧
      t = { s with keys := t.keys, cnt := t.cnt, veh := t.veh } := by
  obtain ⟨ks, cn, ms, hears, -, slots⟩ := l.hears
  obtain ⟨i, ks', cn', ms', answered⟩ := l.answers (u := (s.hearing o ks cn ms).onProto o (fun p => { p with stage := 10 })) (by simp)
    (slots _ (recordSlot_ne o)) rfl "WeldingDetectionRes" (!isDc o) false [s.outMv o] []
  refine ⟨_, congrArg Host.Outcome.next ((hears _).trans answered), ?_, rfl⟩
  exact State.answering_answeredVeh ⟨rfl, rfl, rfl⟩

end

end Sys2Proof.Machine
end

section
/-! O32: the end of a charging sequence, and the obligation (R338, R339, R341). -/

namespace Sys2Proof.Machine

section
variable {s t u : State} {o : Fin 6}

theorem State.enter_so {x : OutState} : (s.enter o x).so o = { s.so o with state := x, enterTb := s.clock.tb } := by
  unfold State.enter
  dsimp only
  rw [State.drivePilot_beside.so, State.monitorOf_beside.so, State.onSo_so_same]

/-- After SessionStop no output stays at 5 % (R339). -/
theorem State.startFive_none (stage : (s.veh.proto[o]).stage = 11) : ((s.startFive o).so o).fiveUntil = none := by
  unfold State.startFive
  rw [State.onSo_so_same, stage]
  simp

theorem State.stopOut_fiveUntil {cause : Nat} (stage : (s.veh.proto[o]).stage = 11) (unset : (s.so o).fiveUntil = none) :
    ((s.stopOut o cause).so o).fiveUntil = none := by
  have recorded : ((s.stopCause o cause).so o).fiveUntil = none := by
    unfold State.stopCause
    rw [State.onSo_so_same]
    split
    · exact unset
    · exact unset
  unfold State.stopOut
  dsimp only
  cases (s.so o).state
  case lock | link =>
    have ended : (((s.stopCause o cause).endSession o).veh.proto[o]).stage = 11 := by
      rw [(State.Settles.endSession (s := s.stopCause o cause) .refl).veh]
      exact stage
    exact (congrArg SeqOut.fiveUntil State.enter_so).trans (State.startFive_none ended)
  case specCheck | specPrecharge | specReady =>
    exact (congrArg SeqOut.fiveUntil State.enter_so).trans ((congrArg SeqOut.fiveUntil State.onSo_so_same).trans recorded)
  case check | precharge | ready | charging | paused => exact (congrArg SeqOut.fiveUntil State.enter_so).trans recorded
  case rollback =>
    dsimp only
    split
    · exact (congrArg SeqOut.fiveUntil State.onSo_so_same).trans recorded
    · exact unset
  case idle | unavailable | stopping | weldcheck | unlock | waitUnplug | fault => exact unset

/-- A stop that follows changes to the 5 % phase and to the pilot of the output alone. -/
theorem State.Stops.of_so {cause : Nat} (h : u.Stops t o cause) (state : (u.so o).state = (s.so o).state) (stopped : (u.so o).stopped = (s.so o).stopped)
    (others : ∀ p, p ≠ o → u.so p = s.so p) : s.Stops t o cause where
  state := state ▸ h.state
  cause := state ▸ stopped ▸ h.cause
  others p hp := (h.others p hp).trans (others p hp)

/-- The 5 % phase of an output ends where it runs (R339). -/
theorem State.fiveEnds (s : State) (o : Fin 6) :
    ∃ sq ps, (if (s.so o).fiveUntil.isSome then (s.onSo o (fun q => { q with fiveUntil := none })).drivePilot o .steady else s) = s.moved sq ps ∧
      (sq.outs[o]).fiveUntil = none ∧ (sq.outs[o]).state = (s.so o).state ∧ (sq.outs[o]).stopped = (s.so o).stopped ∧
      ∀ p : Fin 6, p ≠ o → sq.outs[p] = s.so p := by
  by_cases five : (s.so o).fiveUntil.isSome = true
  · have ends : (s.onSo o (fun q => { q with fiveUntil := none })).so o = { s.so o with fiveUntil := none } := State.onSo_so_same
    exact ⟨_, _, if_pos five, congrArg SeqOut.fiveUntil ends, (congrArg SeqOut.state ends).trans rfl, (congrArg SeqOut.stopped ends).trans rfl,
      fun p hp => State.onSo_so_other hp⟩
  · exact ⟨s.seqr, s.veh.pilots, if_neg five, Option.not_isSome_iff_eq_none.mp five, rfl, rfl, fun _ _ => rfl⟩

theorem exec_sessionStop_of_linked (l : s.Linked o) (pause : Bool) :
    ∃ t, exec (.sessionStop o pause) s = .next t ∧ t.answeredVeh o "SessionStopRes" false false ∧ s.Stops t o 1 ∧
      (t.so o).fiveUntil = none ∧
      t = { s with keys := t.keys, host := t.host, cnt := t.cnt, log := t.log, bil := t.bil, seqr := t.seqr, veh := t.veh } := by
  obtain ⟨ks, cn, ms, hears, -, slots⟩ := l.hears
  obtain ⟨i, ks', cn', ms', answered⟩ := l.answers (u := (s.hearing o ks cn ms).onProto o (fun p => { p with stage := 11 })) (by simp)
    (slots _ (recordSlot_ne o)) rfl "SessionStopRes" false false [] []
  generalize hv : State.answering _ o _ ks' cn' ms' = v at answered
  obtain ⟨sq, ps, five, unset, state, stopped, others⟩ := v.fiveEnds o
  obtain ⟨ks₂, hs, cn₂, lg, bl, sq₂, ps₂, stops⟩ := (v.moved sq ps).stopOut_stopping o 1
  have said : v.answeredVeh o "SessionStopRes" false false := by
    rw [← hv]
    exact State.answering_answeredVeh ⟨rfl, rfl, rfl⟩
  have stage : (v.veh.proto[o]).stage = 11 := by
    rw [← hv]
    simp
  refine ⟨(v.moved sq ps).stopOut o 1, congrArg Host.Outcome.next ((hears _).trans ?_), ?_, ?_, ?_, ?_⟩
  · dsimp only
    rw [answered, five]
  · rw [stops]
    exact said
  · refine (State.stopOut_stops ..).of_so ?_ ?_ ?_
    · exact state.trans (by rw [← hv]; rfl)
    · exact stopped.trans (by rw [← hv]; rfl)
    · exact fun p hp => (others p hp).trans (by rw [← hv]; rfl)
  · exact State.stopOut_fiveUntil stage unset
  · rw [stops, ← hv]
    rfl

theorem exec_vehicleMessageTimeout (link : s.linkUp o = true) (session : (s.so o).sid.isSome = true) :
    ∃ t, exec (.vehicleMessageTimeout o) s = .next t ∧ s.Stops t o 15 ∧
      t = { s with keys := t.keys, host := t.host, cnt := t.cnt, log := t.log, bil := t.bil, seqr := t.seqr, veh := t.veh } := by
  obtain ⟨ks, hs, cn, lg, bl, sq, ps, stops⟩ := s.stopOut_stopping o 15
  refine ⟨s.stopOut o 15, congrArg Host.Outcome.next (if_pos ⟨link, session⟩), State.stopOut_stops .., ?_⟩
  rw [stops]
  rfl

end

/-- Settles O32: each message of a linked vehicle is opened, handled and answered. -/
theorem vehicleMessages : Obligations.VehicleMessages :=
  ⟨fun _ id _ l => exec_sessionSetup_of_linked l id, fun _ service _ l => exec_serviceDiscovery_of_linked l service,
    fun _ _ _ _ l short protocol => exec_certificateInstallation_of_linked l short protocol,
    fun _ vMax pMax schedule _ l => exec_chargeParameterDiscovery_of_linked l vMax pMax schedule,
    fun _ _ l => exec_cableCheckRequest_of_linked l, fun _ mv _ l => exec_prechargeRequest_of_linked l mv,
    fun _ start _ l => exec_powerDelivery_of_linked l start,
    fun _ target volts power _ l => exec_chargeLoop_of_linked l target volts power,
    fun _ signed _ l => exec_meteringReceipt_of_linked l signed, fun _ _ l => exec_weldingDetection_of_linked l,
    fun _ pause _ l => exec_sessionStop_of_linked l pause, fun _ _ link session => exec_vehicleMessageTimeout link session⟩

end Sys2Proof.Machine
end

section
/-! O31: the network of a vehicle, its TLS session and its application protocol (R296 to R298, R301, R302). -/

namespace Sys2Proof.Machine

section
variable {s u : State} {o : Fin 6}

/-! ### The link of a 10BASE-T1S port (R296, R297, R341) -/

/-- Communication that is lost stops an output that has a link to lose. -/
theorem State.commLost_eq (running : (s.so o).state ≠ .lock) : s.commLost o = s.stopOut o 6 := by
  unfold State.commLost
  split
  · contradiction
  · rfl

theorem exec_t1sDisable {n : DcNo} (enabled : (s.veh.t1s[n]).enabled = true) (away : (s.veh.pilots[n.1]'(by omega)).state = 0)
    (passed : (s.veh.pilots[n.1]'(by omega)).tb + tbSecond ≤ s.clock.tb) :
    ∃ t, exec (.t1sDisable n) s = .next t ∧ t.veh.t1s[n] = { s.veh.t1s[n] with enabled := false, link := false, lost := false } ∧
      t = { s with veh := { s.veh with t1s := t.veh.t1s } } := by
  refine ⟨_, congrArg Host.Outcome.next (if_pos ⟨enabled, away, passed⟩), ?_, rfl⟩
  exact upd_same s.veh.t1s n _

theorem exec_t1sLinkDrop {n : DcNo} (enabled : (s.veh.t1s[n]).enabled = true) (running : (s.so ⟨n.1, by omega⟩).state ≠ .lock) :
    ∃ t, exec (.t1sLinkDrop n) s = .next t ∧ (t.veh.t1s[n]).link = false ∧ (t.veh.t1s[n]).lost = true ∧ s.Stops t ⟨n.1, by omega⟩ 6 ∧
      t = { s with keys := t.keys, host := t.host, cnt := t.cnt, log := t.log, bil := t.bil, seqr := t.seqr, veh := t.veh } := by
  obtain ⟨cn, lg, logged, -⟩ := (s.onVeh (fun v => { v with t1s := upd v.t1s n (fun t =>
    { t with link := false, lost := true, drops := satAdd 16 t.drops 1 }) })).logEv_frame .network n.1 7 0 0 0
  generalize hu : State.logEv _ Ev.network n.1 7 0 0 0 = u at logged
  have dropped : u.veh.t1s[n] = { s.veh.t1s[n] with link := false, lost := true, drops := satAdd 16 (s.veh.t1s[n]).drops 1 } := by
    rw [logged]
    exact upd_same s.veh.t1s n _
  have so (p : Fin 6) : u.so p = s.so p := by rw [logged]; rfl
  obtain ⟨ks, hs, cn', lg', bl, sq, ps, stops⟩ := u.stopOut_stopping ⟨n.1, by omega⟩ 6
  have hx : exec (.t1sLinkDrop n) s = .next (u.stopOut ⟨n.1, by omega⟩ 6) := by
    refine congrArg Host.Outcome.next ((if_pos enabled).trans ?_)
    rw [hu]
    exact State.commLost_eq (by rwa [so])
  refine ⟨_, hx, ?_, ?_, (State.stopOut_stops ..).congr so, ?_⟩
  · rw [stops]
    exact congrArg T1s.link dropped
  · rw [stops]
    exact congrArg T1s.lost dropped
  · rw [stops, logged]
    rfl

/-! ### SDP and the application protocol (R302, R311) -/

/-- What a block takes up depends on its registers and on what is in use. -/
theorem State.takeUp_use {c : Cls} {q : Nat → Bool} (regs : u.regs = s.regs) (use : u.use = s.use) : (u.takeUp c q).use = (s.takeUp c q).use := by
  unfold State.takeUp
  rw [regs]
  refine List.foldl_rel (r := fun v w : State => v.use = w.use) use (fun e _ v w same => ?_)
  split
  · split
    · simp only [State.useAt, same]
    · exact same
  · exact same

/-- A word in use depends on its register and on what is in use. -/
theorem State.useFld_congr {r : RegSpec} {f : Field} {ix : List Nat} (regs : u.regs = s.regs) (use : u.use = s.use) :
    u.useFld r f ix = s.useFld r f ix := by
  simp only [State.useFld, State.inUse, State.reg, State.useAt, regs, use]

/-- `s` with SDP answered on output `o`. -/
def State.discovered (s : State) (o : Fin 6) (r : VehResp) : State :=
  (s.onProto o (fun p => { p with stage := 2 })).onVeh (fun v => { v with resp := v.resp.set o (some r) })

section
variable (l : s.Linked o)
include l

theorem exec_sdpRequest_of_linked (tls : Bool) (passes : (s.plcSend o true).1 = true) :
    ∃ t, exec (.sdpRequest o tls) s = .next t ∧ t.answeredVeh o "SDPRes" false false ∧ (t.veh.proto[o]).stage = 2 ∧
      t = { s with keys := t.keys, cnt := t.cnt, veh := t.veh } := by
  obtain ⟨ks, cn, ms, hears, heard, -⟩ := l.hears
  have sends : ((s.hearing o ks cn ms).plcSend o true).1 = true :=
    (State.plcSend_heard (s := s) (u := s.hearing o ks cn ms) rfl rfl rfl rfl rfl heard).trans passes
  obtain ⟨cn', ms', sent, -⟩ := (s.hearing o ks cn ms).plcSend_frame o true
  obtain ⟨r, hr, hx⟩ : ∃ r : VehResp, (r.msg = "SDPRes" ∧ r.failed = false ∧ r.ongoing = false) ∧
      exec (.sdpRequest o tls) s = .next (((s.hearing o ks cn ms).plcSend o true).2.discovered o r) :=
    ⟨_, ⟨rfl, rfl, rfl⟩, congrArg Host.Outcome.next ((hears _).trans (if_pos sends))⟩
  rw [sent] at hx
  exact ⟨_, hx, ⟨r, Vector.getElem_set_self .., hr⟩, congrArg Proto.stage (upd_same ..), rfl⟩

theorem exec_supportedAppProtocol_of_linked {offers : WordList} {c : Nat}
    (hc : c = chooseProtocol (s.chainOk 3) ((s.takeUp .s (fun a => a == R.VEH_PROTOCFG.addr [])).useFld R.VEH_PROTOCFG F.VEH_PROTOCFG_ORDER [])
      (offers.map BitVec.toNat) (s.veh.proto[o])) :
    ∃ t, exec (.supportedAppProtocol o offers) s = .next t ∧ t.answeredVeh o "supportedAppProtocolRes" (c == 0) false ∧
      (t.veh.proto[o]).protocol = c ∧ t = { s with use := t.use, keys := t.keys, cnt := t.cnt, veh := t.veh } := by
  obtain ⟨ks, cn, ms, hears, -, slots⟩ := l.hears
  have use := State.takeUp_use (u := s.hearing o ks cn ms) (s := s) (c := .s) (q := fun a => a == R.VEH_PROTOCFG.addr []) rfl rfl
  obtain ⟨us, taken⟩ := (s.hearing o ks cn ms).takeUp_frame .s (fun a => a == R.VEH_PROTOCFG.addr [])
  obtain ⟨us', kept⟩ := s.takeUp_frame .s (fun a => a == R.VEH_PROTOCFG.addr [])
  have order : ((s.hearing o ks cn ms).takeUp .s (fun a => a == R.VEH_PROTOCFG.addr [])).useFld R.VEH_PROTOCFG F.VEH_PROTOCFG_ORDER [] =
      (s.takeUp .s (fun a => a == R.VEH_PROTOCFG.addr [])).useFld R.VEH_PROTOCFG F.VEH_PROTOCFG_ORDER [] :=
    State.useFld_congr (by rw [taken, kept]; rfl) use
  have chosen : chooseProtocol (s.chainOk 3)
      (((s.hearing o ks cn ms).takeUp .s (fun a => a == R.VEH_PROTOCFG.addr [])).useFld R.VEH_PROTOCFG F.VEH_PROTOCFG_ORDER [])
      (offers.map BitVec.toNat) (((s.hearing o ks cn ms).takeUp .s (fun a => a == R.VEH_PROTOCFG.addr [])).veh.proto[o]) = c := by
    rw [order, hc, taken]
    simp
    rfl
  have hx : vehProtocol o offers s = (((s.hearing o ks cn ms).takeUp .s (fun a => a == R.VEH_PROTOCFG.addr [])).onProto o
      (fun p => { p with protocol := c })).answer o "supportedAppProtocolRes" (c == 0) false [(c : Nat)] [] := by
    rw [← chosen]
    unfold vehProtocol
    exact hears _
  rw [taken] at hx
  obtain ⟨i, ks', cn', ms', answered⟩ := l.answers (u := State.onProto { s.hearing o ks cn ms with use := us } o (fun p => { p with protocol := c }))
    (by simp) (slots _ (recordSlot_ne o)) rfl "supportedAppProtocolRes" (c == 0) false [(c : Nat)] []
  refine ⟨_, congrArg Host.Outcome.next (hx.trans answered), ?_, ?_, ?_⟩
  · exact State.answering_answeredVeh ⟨rfl, rfl, rfl⟩
  · simp
  · rfl

end

end

end Sys2Proof.Machine
end

section
/-! O31: the TLS handshake (R60, R65, R74, R298 to R301). -/

namespace Sys2Proof.Machine

section
variable {s u : State} {o : Fin 6}

/-! ### The record keys -/

/-- A key that is filled into a slot moves the generation of that slot alone. -/
theorem State.fillSlot_gen (v : State) (n c : Fin 256) (k : KeySlot) :
    ((v.fillSlot n k).2.slot c).gen = if c = n then (v.slot n).gen + 1 else (v.slot c).gen := by
  by_cases hc : c = n
  · subst hc
    obtain ⟨share, filled⟩ := v.fillSlot_slot c k
    rw [filled, if_pos rfl]
  · rw [State.fillSlot_slot_other v hc, State.orphanFrom_gen, if_neg hc]

/-- A record key in its slot: it may be used, without limit. -/
structure KeySlot.SealsRecords (k : KeySlot) (key : Bytes) : Prop where
  state : k.state = .valid
  engines : k.engines = 2 ^ engTLSR
  expiry : k.expiry = 0
  limit : k.limit = 0
  key : k.key = key

theorem KeySlot.SealsRecords.used {k : KeySlot} {key : Bytes} (h : k.SealsRecords key) : k.used.SealsRecords key where
  state := (if_neg fun spent => spent.1 h.limit).trans h.state
  engines := h.engines
  expiry := h.expiry
  limit := h.limit
  key := h.key

theorem KeySlot.SealsRecords.refusal {k : KeySlot} {key : Bytes} (h : k.SealsRecords key) (tb : Nat) : k.refusal engTLSR tb = none := by
  have engine : bitOf k.engines engTLSR = true := by
    rw [h.engines]
    rfl
  simp [KeySlot.refusal, engine, h.state, h.expiry, h.limit]

theorem State.fillSlot_frame (v : State) (n : Fin 256) (k : KeySlot) : ∃ ks dr, (v.fillSlot n k).2 = { v with keys := ks, draws := dr } := by
  unfold State.fillSlot State.orphanFrom State.drawBytes
  exact ⟨_, _, rfl⟩

/-- Both record slots of an output take a key, one generation on (R60, R298). -/
theorem State.fillRecords (s v : State) (o : Fin 6) (kind : Nat) (a b : Bytes) :
    ∃ ks dr, ((v.fillSlot (recordSlot o false) (tlsKey s kind a)).2.fillSlot (recordSlot o true) (tlsKey s kind b)).2 =
        { v with keys := ks, draws := dr } ∧
      (∀ d, (ks.slots[recordSlot o d]).gen = (v.slot (recordSlot o d)).gen + 1) ∧ (ks.slots[recordSlot o true]).SealsRecords b := by
  obtain ⟨ks, dr, first⟩ := v.fillSlot_frame (recordSlot o false) (tlsKey s kind a)
  obtain ⟨ks', dr', second⟩ := (v.fillSlot (recordSlot o false) (tlsKey s kind a)).2.fillSlot_frame (recordSlot o true) (tlsKey s kind b)
  have slot (n : Fin 256) : ((v.fillSlot (recordSlot o false) (tlsKey s kind a)).2.fillSlot (recordSlot o true) (tlsKey s kind b)).2.slot n = ks'.slots[n] :=
    congrArg (fun u : State => u.slot n) second
  refine ⟨ks', dr', second.trans (by rw [first]), fun d => ?_, ?_⟩
  · have later := (v.fillSlot (recordSlot o false) (tlsKey s kind a)).2.fillSlot_gen (recordSlot o true) (recordSlot o d) (tlsKey s kind b)
    rw [v.fillSlot_gen, v.fillSlot_gen, slot] at later
    refine later.trans ?_
    cases d
    · rw [if_neg (recordSlot_ne o).symm, if_pos rfl]
    · rw [if_pos rfl, if_neg (recordSlot_ne o)]
  · obtain ⟨share, filled⟩ := (v.fillSlot (recordSlot o false) (tlsKey s kind a)).2.fillSlot_slot (recordSlot o true) (tlsKey s kind b)
    rw [← slot, filled]
    exact ⟨rfl, rfl, rfl, rfl, rfl⟩

/-! ### The handshake (R298, R300, R301) -/

/-- `s` as a handshake of output `o` begins. -/
def State.shaking (s : State) (o : Fin 6) (cn : Counters) (ms : Vector Modem 7) : State := (s.carrying cn ms).onProto o (fun p => { p with stage := 3 })

/-- A chain that can be offered for what the vehicle offers. -/
def State.offers (s : State) (h : TlsHello) : Bool := h.suiteOk && (if h.version13 then s.chain20 && (!h.client || h.clientOk) else s.chainOk 3)

/-- The record keys of a session of output `o`, drawn and filled into its slots. -/
def State.keyed (s v : State) (o : Fin 6) (version13 : Bool) : State :=
  let a := v.drawBytes (if version13 then 32 else 16)
  let b := a.2.drawBytes (if version13 then 32 else 16)
  ((b.2.fillSlot (recordSlot o false) (tlsKey s (if version13 then 2 else 1) a.1)).2.fillSlot (recordSlot o true)
    (tlsKey s (if version13 then 2 else 1) b.1)).2

theorem State.keyed_frame (s v : State) (o : Fin 6) (version13 : Bool) :
    ∃ ks dr b, s.keyed v o version13 = { v with keys := ks, draws := dr } ∧ (∀ d, (ks.slots[recordSlot o d]).gen = (v.slot (recordSlot o d)).gen + 1) ∧
      (ks.slots[recordSlot o true]).SealsRecords b ∧ b.length = if version13 then 32 else 16 := by
  obtain ⟨ks, dr, filled, gens, seals⟩ := State.fillRecords s ((v.drawBytes (if version13 then 32 else 16)).2.drawBytes (if version13 then 32 else 16)).2 o
    (if version13 then 2 else 1) (v.drawBytes (if version13 then 32 else 16)).1
    ((v.drawBytes (if version13 then 32 else 16)).2.drawBytes (if version13 then 32 else 16)).1
  exact ⟨ks, dr, _, filled, gens, seals, State.drawBytes_length _ _⟩

/-- `s` with a TLS session of output `o` established. -/
def State.established (s : State) (o : Fin 6) (h : TlsHello) : State :=
  s.onProto o (fun p => { p with tls := true, tls13 := h.version13, clientCert := h.version13 && h.client })

/-- The use of the chain's key that a handshake asks for: none where no chain can be offered. -/
def State.chainUse (s v : State) (h : TlsHello) : Option Nat × State :=
  if s.offers h then v.keyUse (Fin.ofNat 256 (s.fw.stores[s.tlsChain h.version13]).slot) engECDSA 2 else (some 0, v)

/-- A handshake with a reachable vehicle goes on with the outcome of the use of the chain's key. -/
theorem vehTls_of_chainUse {h : TlsHello} (link : s.linkUp o = true) (session : (s.so o).sid.isSome = true) (tls : (s.veh.proto[o]).tls = false)
    {cn : Counters} {ms : Vector Modem 7} (received : s.plcRecv o = s.carrying cn ms) {r : Option Nat} {v : State}
    (use : s.chainUse (s.shaking o cn ms) h = (r, v)) :
    vehTls o h s = if r.isNone then ((s.keyed v o h.version13).established o h).answer o "TlsFinished" false false [] []
      else (v.answer o "TlsAlert" true false [] []).commLost o := by
  unfold vehTls
  rw [if_pos ⟨link, session, tls⟩, received]
  change (if (s.chainUse (s.shaking o cn ms) h).1.isNone = true then
    ((s.keyed (s.chainUse (s.shaking o cn ms) h).2 o h.version13).established o h).answer o "TlsFinished" false false [] []
      else ((s.chainUse (s.shaking o cn ms) h).2.answer o "TlsAlert" true false [] []).commLost o) = _
  rw [use]

theorem exec_tlsHandshake_of_signed {h : TlsHello} (link : s.linkUp o = true) (session : (s.so o).sid.isSome = true)
    (tls : (s.veh.proto[o]).tls = false) (offered : s.offers h = true)
    (signs : (s.slot (Fin.ofNat 256 (s.fw.stores[s.tlsChain h.version13]).slot)).refusal engECDSA s.clock.tb = none) :
    ∃ t, exec (.tlsHandshake o h) s = .next t ∧ t.answeredVeh o "TlsFinished" false false ∧ (t.veh.proto[o]).tls = true ∧
      (t.veh.proto[o]).tls13 = h.version13 ∧ (t.veh.proto[o]).clientCert = (h.version13 && h.client) ∧
      (∀ d, (t.slot (recordSlot o d)).gen = (s.slot (recordSlot o d)).gen + 1) ∧
      (t.slot (recordSlot o true)).state = .valid ∧ (t.slot (recordSlot o true)).key.length = (if h.version13 then 32 else 16) ∧
      t = { s with keys := t.keys, cnt := t.cnt, veh := t.veh, draws := t.draws } := by
  obtain ⟨cn, ms, received, -⟩ := s.plcRecv_frame o
  obtain ⟨ks, cn', used, slots⟩ := State.keyUse_started (s := s.shaking o cn ms) (polder := 2) signs
  have hx := vehTls_of_chainUse link session tls received ((if_pos offered).trans used)
  obtain ⟨ks₁, dr, b, keyed, gens, key, length⟩ := s.keyed_frame { s.shaking o cn ms with keys := ks, cnt := cn' } o h.version13
  have seals : State.Seals (State.established { s.shaking o cn ms with keys := ks₁, cnt := cn', draws := dr } o h) o := fun _ => key.refusal _
  obtain ⟨ks₂, cn₂, ms₂, answered, -, sealed⟩ := seals.answers "TlsFinished" false false [] []
  have sealedKey : (ks₂.slots[recordSlot o true]).SealsRecords b := by
    rcases sealed (recordSlot o true) with same | used
    · rw [same]
      exact key
    · rw [used]
      exact key.used
  refine ⟨_, congrArg Host.Outcome.next (hx.trans ((if_pos rfl).trans ((congrArg (fun v => (State.established v o h).answer o "TlsFinished" false false [] [])
    keyed).trans answered))), State.answering_answeredVeh ⟨rfl, rfl, rfl⟩, ?_, ?_, ?_, fun d => ?_, ?_, ?_, ?_⟩
  · simp [State.established]
  · simp [State.established]
  · simp [State.established]
  · have kept : (ks₂.slots[recordSlot o d]).gen = (ks₁.slots[recordSlot o d]).gen := by
      rcases sealed (recordSlot o d) with same | used
      · exact congrArg KeySlot.gen same
      · exact (congrArg KeySlot.gen used).trans rfl
    have chain : (ks.slots[recordSlot o d]).gen = (s.slot (recordSlot o d)).gen := by
      rw [slots]
      split <;> rfl
    exact kept.trans ((gens d).trans (congrArg (· + 1) chain))
  · exact sealedKey.state
  · exact (congrArg List.length sealedKey.key).trans length
  · rfl

theorem exec_tlsHandshake_of_refused {h : TlsHello} (link : s.linkUp o = true) (session : (s.so o).sid.isSome = true)
    (tls : (s.veh.proto[o]).tls = false)
    (refused : s.offers h = false ∨ (s.slot (Fin.ofNat 256 (s.fw.stores[s.tlsChain h.version13]).slot)).refusal engECDSA s.clock.tb ≠ none)
    (running : (s.so o).state ≠ .lock) :
    ∃ t, exec (.tlsHandshake o h) s = .next t ∧ t.answeredVeh o "TlsAlert" true false ∧ (t.veh.proto[o]).tls = false ∧ s.Stops t o 6 ∧
      t = { s with keys := t.keys, host := t.host, cnt := t.cnt, log := t.log, bil := t.bil, seqr := t.seqr, veh := t.veh } := by
  obtain ⟨cn, ms, received, -⟩ := s.plcRecv_frame o
  obtain ⟨r, ks, cn', lg, use⟩ : ∃ r ks cn' lg, s.chainUse (s.shaking o cn ms) h = (some r, { s.shaking o cn ms with keys := ks, cnt := cn', log := lg }) := by
    unfold State.chainUse
    by_cases offered : s.offers h = true
    · rw [if_pos offered]
      obtain ⟨ks, cn', lg, used⟩ := (s.shaking o cn ms).keyUse_frame (Fin.ofNat 256 (s.fw.stores[s.tlsChain h.version13]).slot) engECDSA 2
      obtain ⟨r, refusal⟩ := Option.ne_none_iff_exists'.mp (refused.resolve_left (by simp [offered]))
      have refuses : ((s.shaking o cn ms).keyUse (Fin.ofNat 256 (s.fw.stores[s.tlsChain h.version13]).slot) engECDSA 2).1 = some r := by
        unfold State.keyUse
        rw [show ((s.shaking o cn ms).slot _).refusal engECDSA (s.shaking o cn ms).clock.tb = some r from refusal]
      exact ⟨r, ks, cn', lg, Prod.ext refuses used⟩
    · exact ⟨0, _, _, _, if_neg offered⟩
  have hx := vehTls_of_chainUse link session tls received use
  have plain : ((s.shaking o cn ms).veh.proto[o]).tls = false := (congrArg Proto.tls State.onProto_proto).trans tls
  have seals : State.Seals { s.shaking o cn ms with keys := ks, cnt := cn', log := lg } o := fun yes => absurd (plain.symm.trans yes) Bool.false_ne_true
  obtain ⟨ks₁, cn₁, ms₁, answered, -, -⟩ := seals.answers "TlsAlert" true false [] []
  generalize hv : State.answering _ o _ ks₁ cn₁ ms₁ = v at answered
  have said : v.answeredVeh o "TlsAlert" true false := by
    rw [← hv]
    exact State.answering_answeredVeh ⟨rfl, rfl, rfl⟩
  have still : (v.veh.proto[o]).tls = false := by
    rw [← hv]
    exact (congrArg Proto.tls State.answering_proto).trans plain
  have so (p : Fin 6) : v.so p = s.so p := by rw [← hv]; rfl
  obtain ⟨ks₂, hs, cn₂, lg₂, bl, sq, ps, stops⟩ := v.stopOut_stopping o 6
  have ends : v.commLost o = v.stopOut o 6 := State.commLost_eq (by rwa [so])
  refine ⟨v.stopOut o 6, congrArg Host.Outcome.next (hx.trans ((congrArg (fun u => u.commLost o) answered).trans ends)), ?_, ?_,
    (State.stopOut_stops ..).congr so, ?_⟩
  · rw [stops]
    exact said
  · rw [stops]
    exact still
  · rw [stops, ← hv]
    rfl

end

/-- Settles O31: the port and its link, SDP, the handshake with and without a chain that signs, and the choice of the protocol. -/
theorem networkAndTls : Obligations.NetworkAndTls :=
  ⟨fun _ _ enabled away passed => exec_t1sDisable enabled away passed, fun _ _ enabled running => exec_t1sLinkDrop enabled running,
    fun _ tls _ l passes => exec_sdpRequest_of_linked l tls passes, fun _ _ _ _ l hc => exec_supportedAppProtocol_of_linked l hc,
    fun _ _ _ link session tls suite chain signs => exec_tlsHandshake_of_signed link session tls (Bool.and_eq_true_iff.mpr ⟨suite, chain⟩) signs,
    fun _ _ _ link session tls refused running => exec_tlsHandshake_of_refused link session tls refused running⟩

end Sys2Proof.Machine
end

section
/-! O33: an authorisation and its outcome (R304, R307, R313, R317). -/

namespace Sys2Proof.Machine

section
variable {s t u : State} {o : Fin 6}

/-! ### An outcome that reaches the sequencer (R313, R317) -/

theorem State.reportStart_moves : s.Moves (s.reportStart o) o := by
  unfold State.reportStart
  dsimp only
  split
  · exact State.Beside.refl.moves
  · exact (State.onSo_moves rfl rfl).trans State.onJournal_beside.moves

theorem State.reportStart_state : ((s.reportStart o).so o).state = (s.so o).state := by
  unfold State.reportStart
  dsimp only
  split
  · rfl
  · rw [State.billStart, State.onJournal_beside.so, State.onSo_so_same]

theorem State.reportOutcome_moves {accepted : Bool} : s.Moves (s.reportOutcome o accepted) o :=
  State.reportStart_moves.trans State.onJournal_beside.moves

theorem State.reportOutcome_state {accepted : Bool} : ((s.reportOutcome o accepted).so o).state = (s.so o).state :=
  (congrArg SeqOut.state (State.onJournal_beside.so o)).trans State.reportStart_state

section
variable (session : (s.so o).sid.isSome = true) (ended : (s.so o).ended = false)
include session ended

/-- An outcome for a session that is still open is not too late. -/
theorem State.not_tooLate : ¬ ((s.so o).sid.isNone = true ∨ (s.so o).ended = true) := by
  rintro (none | late)
  · rw [Option.isNone_eq_false_iff.mpr session] at none
    cases none
  · rw [ended] at late
    cases late

/-- A denial is entered and stops the output (R317). -/
theorem State.deny_eq {cause : Nat} (stopped : (s.so o).stopped = false) :
    s.deny o cause = ((s.onSo o (fun q => { q with auth := 3 })).reportOutcome o false).stopOut o cause := by
  unfold State.deny
  dsimp only
  rw [if_neg (State.not_tooLate session ended), stopped]
  rfl

theorem State.deny_settles {cause : Nat} (stopped : (s.so o).stopped = false) :
    (s.onSo o (fun q => { q with auth := 3 })).Settles (s.deny o cause) := by
  rw [State.deny_eq session ended stopped]
  exact (State.Settles.refl.reportOutcome).stopOut

theorem State.deny_stops {cause : Nat} (stopped : (s.so o).stopped = false) : s.Stops (s.deny o cause) o cause := by
  rw [State.deny_eq session ended stopped]
  have told : s.Moves ((s.onSo o (fun q => { q with auth := 3 })).reportOutcome o false) o := (State.onSo_moves rfl rfl).trans State.reportOutcome_moves
  exact (State.stopOut_stops ..).of_so (State.reportOutcome_state.trans ((congrArg SeqOut.state State.onSo_so_same).trans rfl)) told.stopped told.others

/-- An acceptance is entered, and the output goes on with it (R317). -/
theorem State.accept_settles (stopped : (s.so o).stopped = false) : (s.onSo o (fun q => { q with auth := 2 })).Settles (s.accept o) := by
  have told : (s.onSo o (fun q => { q with auth := 2 })).Settles ((s.onSo o (fun q => { q with auth := 2 })).reportOutcome o true) :=
    State.Settles.refl.reportOutcome
  unfold State.accept
  dsimp only
  rw [if_neg (State.not_tooLate session ended), stopped, if_neg Bool.false_ne_true]
  split
  · exact told.linkAccepted
  · exact told.enter.judgeCheck
  · exact told.enter
  · exact told.enter
  · exact told

end

/-! ### An identification that is settled (R304) -/

/-- From `s` to `t` the outcome of the identification on output `o` has been entered: its relay is idle, and no session has changed. -/
structure State.Decides (s t : State) (o : Fin 6) (auth : Nat) : Prop where
  auth : (t.so o).auth = auth
  relay : t.veh.relay[o] = { s.veh.relay[o] with kind := 0, len := 0, deadline := none, request := [] }
  proto : t.veh.proto = s.veh.proto
  clock : t.clock = s.clock
  table : t.host.table = s.host.table
  slots : ∀ n : Fin 256, n ≠ 4 → t.slot n = s.slot n

section
variable (session : (s.so o).sid.isSome = true) (ended : (s.so o).ended = false) (stopped : (s.so o).stopped = false) (idType : Nat) (ident : Bytes)
include session ended stopped

theorem State.settle_decides (accepted : Bool) : s.Decides (s.settle o accepted idType ident) o (if accepted then 2 else 3) := by
  obtain ⟨sl, told⟩ := (s.relayIdle o).notice_frame 4 ((s.relayIdle o).so o).sidNat o.1 (b2n accepted) ((s.relayIdle o).veh.relay[o]).seq idType ident
    ((s.relayIdle o).sessionPseud o ident)
  change (s.relayIdle o).tellOutcome o (b2n accepted) idType ident = (s.relayIdle o).noticing sl at told
  have settled : (((s.relayIdle o).noticing sl).onSo o (fun q => { q with auth := if accepted then 2 else 3 })).Settles
      (s.settle o accepted idType ident) := by
    unfold State.settle
    dsimp only
    rw [told]
    cases accepted
    · exact State.deny_settles (s := (s.relayIdle o).noticing sl) session ended stopped
    · exact State.accept_settles (s := (s.relayIdle o).noticing sl) session ended stopped
  exact {
    auth := (settled.auth o).trans (congrArg SeqOut.auth State.onSo_so_same)
    relay := by rw [settled.veh]; exact upd_same s.veh.relay o _
    proto := by rw [settled.veh]; rfl
    clock := settled.clock
    table := settled.table
    slots := settled.slots }

theorem State.settle_stops : s.Stops (s.settle o false idType ident) o 3 := by
  obtain ⟨sl, told⟩ := (s.relayIdle o).notice_frame 4 ((s.relayIdle o).so o).sidNat o.1 (b2n false) ((s.relayIdle o).veh.relay[o]).seq idType ident
    ((s.relayIdle o).sessionPseud o ident)
  change (s.relayIdle o).tellOutcome o (b2n false) idType ident = (s.relayIdle o).noticing sl at told
  unfold State.settle
  dsimp only
  rw [told]
  exact (State.deny_stops (s := (s.relayIdle o).noticing sl) session ended stopped).congr fun _ => rfl

end

end

end Sys2Proof.Machine
end

section
/-! O33: an identification and its deadline (R301, R304). -/

namespace Sys2Proof.Machine

section
variable {s t u : State} {o : Fin 6}

/-- `s` at AuthorizationReq, with the payment that the vehicle asks for. -/
def State.authorising (s : State) (o : Fin 6) (contract : Bool) : State :=
  s.onProto o (fun p => { p with stage := 5, payment := if contract then 2 else 1 })

/-- An identification that may be made is identified and answered as far as its session then is. -/
theorem exec_identification_of_may {id : Ident} {v : State} {ks : KeyReg} {cn : Counters} {ms : Vector Modem 7}
    (hears : ∀ f, s.vehMsg o f = f (s.hearing o ks cn ms))
    (may : (if id.contract then s.fld R.VEH_AUTHCFG F.VEH_AUTHCFG_PNC [] == 1 && (s.veh.proto[o]).tls && decide (2 ≤ (s.veh.proto[o]).protocol)
      else s.fld R.VEH_AUTHCFG F.VEH_AUTHCFG_EIM [] == 1) = true)
    (identified : ((s.hearing o ks cn ms).authorising o id.contract).identify o id.type (id.identity.take 64) (!id.contract || id.chainOk) = v) :
    exec (.identification o id) s =
      .next (v.answer o "AuthorizationRes" ((v.so o).auth == 3) (decide ((v.so o).auth ≤ 1)) [] []) := by
  have same : ((s.hearing o ks cn ms).veh.proto[o]).tls = (s.veh.proto[o]).tls ∧
      ((s.hearing o ks cn ms).veh.proto[o]).protocol = (s.veh.proto[o]).protocol := by simp
  subst identified
  refine congrArg Host.Outcome.next ((hears _).trans (if_pos ?_))
  rw [same.1, same.2]
  exact may

section
variable {contract : Bool} {ks : KeyReg} {cn : Counters} {ms : Vector Modem 7} {idType : Nat} {ident : Bytes}
  (session : (s.so o).sid.isSome = true) (ended : (s.so o).ended = false) (auth : (s.so o).auth ≤ 1) (free : (s.veh.relay[o]).kind ≠ 1)
include session ended auth free

/-- An identification whose checks fail is denied (R304). -/
theorem State.identify_denied : s.identify o idType ident false = s.settle o false idType ident := by
  unfold State.identify
  dsimp only
  rw [if_neg (State.not_tooLate session ended), if_neg (by omega), if_neg fun h => free h.1, if_pos rfl]

/-- With P2 open and no word of the list an identification goes to P2 (R304). -/
theorem State.identify_asked (p2 : s.p2Open = true) (first : s.fld R.VEH_AUTHCFG F.VEH_AUTHCFG_LIST_FIRST [] = 0) :
    s.identify o idType ident true = (s.onSo o (fun q => { q with auth := 1 })).relayRequest o 1 idType ident (identBody idType ident) := by
  unfold State.identify
  dsimp only
  rw [if_neg (State.not_tooLate session ended), if_neg (by omega), if_neg fun h => free h.1, if_neg Bool.false_ne_true.symm,
    if_neg (show ¬(_ ∨ _) by rw [p2, first]; simp)]
  exact if_pos p2

/-- With P2 away the list decides (R304). -/
theorem State.identify_listed (p2 : s.p2Open = false) {accepted : Bool} (listed : s.listLookup idType ident = some accepted) :
    s.identify o idType ident true = s.settle o accepted idType ident := by
  unfold State.identify
  dsimp only
  rw [if_neg (State.not_tooLate session ended), if_neg (by omega), if_neg fun h => free h.1, if_neg Bool.false_ne_true.symm, if_pos (.inr p2), listed]

end

/-- An identification that has been settled leaves the vehicle's TLS records as they were: the answer is sent. -/
theorem State.Decides.answers {auth : Nat} {ks : KeyReg} {cn : Counters} {ms : Vector Modem 7} {contract : Bool} (l : s.Linked o)
    (d : ((s.hearing o ks cn ms).authorising o contract).Decides u o auth) (slot : ks.slots[recordSlot o true] = s.slot (recordSlot o true))
    (msg : String) (failed ongoing : Bool) (args : List Int) (body : Bytes) :
    ∃ i ks cn ms, u.answer o msg failed ongoing args body = u.answering o ⟨msg, i, failed, ongoing, args, body⟩ ks cn ms := by
  refine l.answers ?_ ((d.slots _ fun four => ?_).trans slot) d.clock msg failed ongoing args body
  · rw [d.proto]
    simp [State.authorising]
  · have := congrArg Fin.val four
    simp [recordSlot] at this
    omega

section
variable {id : Ident} (l : s.Linked o) (ended : (s.so o).ended = false) (auth : (s.so o).auth ≤ 1) (free : (s.veh.relay[o]).kind ≠ 1)
  {ks : KeyReg} {cn : Counters} {ms : Vector Modem 7} (hears : ∀ f, s.vehMsg o f = f (s.hearing o ks cn ms))
  (slot : ks.slots[recordSlot o true] = s.slot (recordSlot o true))
  (may : (if id.contract then s.fld R.VEH_AUTHCFG F.VEH_AUTHCFG_PNC [] == 1 && (s.veh.proto[o]).tls && decide (2 ≤ (s.veh.proto[o]).protocol)
      else s.fld R.VEH_AUTHCFG F.VEH_AUTHCFG_EIM [] == 1) = true)
include l ended auth free hears slot may

theorem exec_identification_asked (checks : (!id.contract || id.chainOk) = true) (p2 : s.p2Open = true)
    (first : s.fld R.VEH_AUTHCFG F.VEH_AUTHCFG_LIST_FIRST [] = 0) :
    ∃ t, exec (.identification o id) s = .next t ∧ (t.so o).auth = 1 ∧ (t.so o).state = (s.so o).state ∧ (t.veh.relay[o]).kind = 1 ∧
      (t.veh.relay[o]).request = identBody id.type (id.identity.take 64) ∧ (t.veh.relay[o]).deadline = some (s.clock.tb + s.deadlineTb) ∧
      t.answeredVeh o "AuthorizationRes" false true := by
  have asked := State.identify_asked (s := (s.hearing o ks cn ms).authorising o id.contract) (idType := id.type) (ident := id.identity.take 64)
    l.session ended auth free p2 first
  obtain ⟨sl, relayed⟩ := (((s.hearing o ks cn ms).authorising o id.contract).onSo o (fun q => { q with auth := 1 })).relayRequest_frame o 1 id.type
    (id.identity.take 64) (identBody id.type (id.identity.take 64))
  generalize hu : State.relaying _ o 1 _ sl = u at relayed
  have outcome : (u.so o).auth = 1 := by
    rw [← hu]
    exact congrArg SeqOut.auth State.onSo_so_same
  have still : (u.so o).state = (s.so o).state := by
    rw [← hu]
    exact (congrArg SeqOut.state State.onSo_so_same).trans rfl
  have relay : (u.veh.relay[o]).kind = 1 ∧ (u.veh.relay[o]).request = identBody id.type (id.identity.take 64) ∧
      (u.veh.relay[o]).deadline = some (s.clock.tb + s.deadlineTb) := by
    rw [← hu]
    exact ⟨congrArg Relay.kind State.relaying_relay, congrArg Relay.request State.relaying_relay, congrArg Relay.deadline State.relaying_relay⟩
  obtain ⟨kind, request, deadline⟩ := relay
  obtain ⟨i, ks', cn', ms', answered⟩ := l.answers (u := u) (by rw [← hu]; simp [State.authorising]) (by rw [← hu]; exact slot) (by rw [← hu]; rfl)
    "AuthorizationRes" false true [] []
  have hx := exec_identification_of_may hears may ((congrArg (State.identify _ o id.type _) checks).trans (asked.trans relayed))
  rw [outcome] at hx
  exact ⟨_, hx.trans (congrArg Host.Outcome.next answered), outcome, still, kind, request, deadline,
    State.answering_answeredVeh ⟨rfl, rfl, rfl⟩⟩

theorem exec_identification_accepted (checks : (!id.contract || id.chainOk) = true) (p2 : s.p2Open = false)
    (listed : s.listLookup id.type (id.identity.take 64) = some true) (stopped : (s.so o).stopped = false) :
    ∃ t, exec (.identification o id) s = .next t ∧ (t.so o).auth = 2 ∧ t.answeredVeh o "AuthorizationRes" false false := by
  have accepted := State.identify_listed (s := (s.hearing o ks cn ms).authorising o id.contract) (idType := id.type) (ident := id.identity.take 64)
    l.session ended auth free p2 listed
  have decides := State.settle_decides (s := (s.hearing o ks cn ms).authorising o id.contract) l.session ended stopped id.type (id.identity.take 64) true
  have hx := exec_identification_of_may hears may ((congrArg (State.identify _ o id.type _) checks).trans accepted)
  obtain ⟨i, ks', cn', ms', answered⟩ := decides.answers l slot "AuthorizationRes" false false [] []
  rw [decides.auth] at hx
  exact ⟨_, hx.trans (congrArg Host.Outcome.next answered), decides.auth, State.answering_answeredVeh ⟨rfl, rfl, rfl⟩⟩

theorem exec_identification_denied (checks : (!id.contract || id.chainOk) = false) (stopped : (s.so o).stopped = false) :
    ∃ t, exec (.identification o id) s = .next t ∧ (t.so o).auth = 3 ∧ s.Stops t o 3 ∧ t.answeredVeh o "AuthorizationRes" true false := by
  have denied := State.identify_denied (s := (s.hearing o ks cn ms).authorising o id.contract) (idType := id.type) (ident := id.identity.take 64)
    l.session ended auth free
  have decides := State.settle_decides (s := (s.hearing o ks cn ms).authorising o id.contract) l.session ended stopped id.type (id.identity.take 64) false
  have stops := State.settle_stops (s := (s.hearing o ks cn ms).authorising o id.contract) l.session ended stopped id.type (id.identity.take 64)
  have hx := exec_identification_of_may hears may ((congrArg (State.identify _ o id.type _) checks).trans denied)
  obtain ⟨i, ks', cn', ms', answered⟩ := decides.answers l slot "AuthorizationRes" true false [] []
  rw [decides.auth] at hx
  exact ⟨_, hx.trans (congrArg Host.Outcome.next answered), decides.auth, ⟨stops.state, stops.cause, stops.others⟩, State.answering_answeredVeh ⟨rfl, rfl, rfl⟩⟩

end

theorem exec_identification_of_linked {id : Ident} (l : s.Linked o) (ended : (s.so o).ended = false) (auth : (s.so o).auth ≤ 1)
    (free : (s.veh.relay[o]).kind ≠ 1)
    (may : (if id.contract then s.fld R.VEH_AUTHCFG F.VEH_AUTHCFG_PNC [] == 1 && (s.veh.proto[o]).tls && decide (2 ≤ (s.veh.proto[o]).protocol)
      else s.fld R.VEH_AUTHCFG F.VEH_AUTHCFG_EIM [] == 1) = true) :
    ∃ t, exec (.identification o id) s = .next t ∧
      ((!id.contract || id.chainOk) = true → s.p2Open = true → s.fld R.VEH_AUTHCFG F.VEH_AUTHCFG_LIST_FIRST [] = 0 →
        (t.so o).auth = 1 ∧ (t.so o).state = (s.so o).state ∧ (t.veh.relay[o]).kind = 1 ∧
        (t.veh.relay[o]).request = identBody id.type (id.identity.take 64) ∧
        (t.veh.relay[o]).deadline = some (s.clock.tb + s.deadlineTb) ∧ t.answeredVeh o "AuthorizationRes" false true) ∧
      ((!id.contract || id.chainOk) = true → s.p2Open = false → s.listLookup id.type (id.identity.take 64) = some true →
        (s.so o).stopped = false → (t.so o).auth = 2 ∧ t.answeredVeh o "AuthorizationRes" false false) ∧
      ((!id.contract || id.chainOk) = false → (s.so o).stopped = false →
        (t.so o).auth = 3 ∧ s.Stops t o 3 ∧ t.answeredVeh o "AuthorizationRes" true false) := by
  obtain ⟨ks, cn, ms, hears, -, slots⟩ := l.hears
  have slot := slots _ (recordSlot_ne o)
  have hx := exec_identification_of_may hears may rfl
  refine ⟨_, hx, fun checks p2 first => ?_, fun checks p2 listed stopped => ?_, fun checks stopped => ?_⟩
  · obtain ⟨t, ht, asked⟩ := exec_identification_asked l ended auth free hears slot may checks p2 first
    cases hx.symm.trans ht
    exact asked
  · obtain ⟨t, ht, accepted⟩ := exec_identification_accepted l ended auth free hears slot may checks p2 listed stopped
    cases hx.symm.trans ht
    exact accepted
  · obtain ⟨t, ht, denied⟩ := exec_identification_denied l ended auth free hears slot may checks stopped
    cases hx.symm.trans ht
    exact denied

/-- An authorisation that P2 leaves without an outcome is denied (R304). -/
theorem exec_authDeadline {x : Nat} (asked : (s.veh.relay[o]).kind = 1) (deadline : (s.veh.relay[o]).deadline = some x) (passed : x ≤ s.clock.tb)
    (session : (s.so o).sid.isSome = true) (ended : (s.so o).ended = false) (stopped : (s.so o).stopped = false) :
    ∃ t, exec (.authDeadline o) s = .next t ∧ (t.so o).auth = 3 ∧ (t.veh.relay[o]).kind = 0 ∧ (t.veh.relay[o]).deadline = none ∧ s.Stops t o 3 := by
  have decides := State.settle_decides session ended stopped (s.pendingIdent o).1 (s.pendingIdent o).2 false
  have due : (s.veh.relay[o]).deadline.any (fun t => decide (t ≤ s.clock.tb)) = true := by
    rw [deadline]
    exact decide_eq_true passed
  exact ⟨_, congrArg Host.Outcome.next (if_pos ⟨asked, due⟩), decides.auth, congrArg Relay.kind decides.relay, congrArg Relay.deadline decides.relay,
    State.settle_stops session ended stopped _ _⟩

end

end Sys2Proof.Machine
end

section
/-! O33: the decisions of P2 (R306, R307). -/

namespace Sys2Proof.Machine

section
variable {s t u : State} {o : Fin 6}

/-! ### A granted write whose writer leaves the sessions alone (R42, R102) -/

/-- A granted write goes to its register's writer, which leaves the session table alone, and is answered. -/
theorem State.Granted.reachesTable {i : Fin 64} {h : Session} {r : RegSpec} {ix : List Nat} {v : W64} (g : s.Granted i h r ix v) (d : r.Decoded ix) :
    ∃ hs ks cn lg, ∀ st a, writeReg r i h.polder ix v (s.reaching hs ks cn lg) = (st, a) → a.host.table = hs.table →
      s.Replies (s.askReg i r ix v) i h st (if st = OK then 1 else 0) (if st = BUSY then [busyWord 0 7] else []) ∧
        ∃ hs ks cn lg, s.askReg i r ix v = { a with host := hs, keys := ks, cnt := cn, log := lg } := by
  have run := g.ready.runs 2 (r.addr ix) 1 [v]
  have write := g.askReg d
  obtain ⟨hs, ks, cn, lg, hu⟩ := run.path.frame
  change _ = s.reaching hs ks cn lg at hu
  dsimp only at write
  rw [hu] at run write
  refine ⟨hs, ks, cn, lg, fun st a taken table => ?_⟩
  rw [taken] at write
  rw [write]
  exact ⟨run.served _ table, _, _, _, _, Act.answer_rest ..⟩

/-! ### The answer to a relayed request (R303, R306) -/

theorem State.Settles.commLost (h : s.Settles t) : s.Settles (t.commLost o) := by
  unfold State.commLost
  split
  · exact h
  · exact h.stopOut

/-- A TLS session that is closed leaves the session table and the relays alone (R74). -/
theorem State.tlsClose_keeps (s : State) (o : Fin 6) : (s.tlsClose o).host.table = s.host.table ∧ (s.tlsClose o).veh.relay = s.veh.relay := by
  unfold State.tlsClose
  dsimp only
  generalize hu : State.onVeh _ _ = u
  have lost : u.Settles (u.commLost o) := State.Settles.refl.commLost
  rw [lost.table, lost.veh, ← hu]
  simp

/-- An answer to the vehicle, sent or not, leaves the session table and the relays alone. -/
theorem State.answer_keeps (s : State) (o : Fin 6) (msg : String) (failed ongoing : Bool) (args : List Int) (body : Bytes) :
    (s.answer o msg failed ongoing args body).host.table = s.host.table ∧ (s.answer o msg failed ongoing args body).veh.relay = s.veh.relay := by
  have sealed : ∃ ks cn lg, (if (s.veh.proto[o]).tls then s.keyUse (recordSlot o true) engTLSR 0 else (none, s)).2 =
      { s with keys := ks, cnt := cn, log := lg } := by
    split
    · exact s.keyUse_frame ..
    · exact ⟨_, _, _, rfl⟩
  obtain ⟨ks, cn, lg, sealed⟩ := sealed
  unfold State.answer
  dsimp only
  rw [sealed]
  split
  · exact State.tlsClose_keeps ..
  · generalize hu : State.onVeh _ _ = u
    obtain ⟨cn', ms, sent, -⟩ := u.plcSend_frame o false
    rw [sent, ← hu]
    exact ⟨rfl, rfl⟩

/-! ### What a decision does (R306, R307) -/

theorem vehDecide_decoded : ∀ o : Output, R.VEH_DECIDEn.Decoded [o.1] := by
  have aligned : ∀ o : Output, addrOk 2 (R.VEH_DECIDEn.addr [o.1]) = true := by decide
  have inside : ∀ o : Output, inRegion (R.VEH_DECIDEn.addr [o.1]) 1 = true := by decide
  have plain : ∀ o : Output, windowAt (R.VEH_DECIDEn.addr [o.1]) = none := by intro o; fin_cases o <;> rfl
  have here : ∀ o : Output, regAt (R.VEH_DECIDEn.addr [o.1]) = some (R.VEH_DECIDEn, [o.1]) := by intro o; fin_cases o <;> rfl
  exact fun o => ⟨aligned o, inside o, plain o, here o⟩

theorem writeReg_vehDecide (i : Fin 64) (polder : Nat) (o : Output) (v : W64) (u : State) :
    writeReg R.VEH_DECIDEn i polder [o.1] v u = (OK, u.takeDecision o v.toNat) := by
  have e : Fin.ofNat 6 o.1 = o := Fin.ext (Nat.mod_eq_of_lt o.2)
  rw [show writeReg R.VEH_DECIDEn i polder [o.1] v u = (OK, u.takeDecision (Fin.ofNat 6 o.1) v.toNat) from rfl, e]

section
variable {v : Nat}

/-- P2 settles the authorisation that is outstanding. -/
theorem State.takeDecision_settles (names : s.decisionMatches o v = true) (kind : F.VEH_DECIDEn_KIND.get v = 1)
    (asked : (s.veh.relay[o]).kind = 1) (outcome : F.VEH_DECIDEn_OUTCOME.get v ≤ 1) :
    s.takeDecision o v = s.settle o (F.VEH_DECIDEn_OUTCOME.get v == 1) (s.pendingIdent o).1 (s.pendingIdent o).2 := by
  unfold State.takeDecision
  dsimp only
  rw [if_neg (by omega), if_pos ⟨kind, outcome, asked, names⟩]

/-- P2 withdraws its acceptance (R307). -/
theorem State.takeDecision_withdraws (kind : F.VEH_DECIDEn_KIND.get v = 1) (outcome : F.VEH_DECIDEn_OUTCOME.get v = 2)
    (session : (s.so o).sid.isSome = true) (sid : F.VEH_DECIDEn_SID.get v = (s.so o).sidNat) (ended : (s.so o).ended = false)
    (accepted : (s.so o).auth = 2) : s.takeDecision o v = (s.tellOutcome o 2 0 []).withdrawAuth o 4 := by
  unfold State.takeDecision
  dsimp only
  rw [if_pos ⟨kind, outcome⟩, if_pos ⟨session, sid⟩, ended, if_neg Bool.false_ne_true, if_pos accepted]

/-- P2 answers a relayed request; a metering receipt is done with it. -/
theorem State.takeDecision_relays (names : s.decisionMatches o v = true) (kind : F.VEH_DECIDEn_KIND.get v = 2) (asked : 2 ≤ (s.veh.relay[o]).kind) :
    ((s.veh.relay[o]).kind = 4 ∧ s.takeDecision o v = s.relayIdle o) ∨
      ((s.veh.relay[o]).kind ≠ 4 ∧ ∃ msg failed body, s.takeDecision o v = (s.relayIdle o).answer o msg failed false [] body) := by
  unfold State.takeDecision
  dsimp only
  rw [if_neg (by omega), if_neg (by omega), if_pos ⟨kind, asked, names⟩]
  by_cases receipt : (s.veh.relay[o]).kind = 4
  · exact .inl ⟨receipt, if_pos receipt⟩
  · exact .inr ⟨receipt, _, _, _, if_neg receipt⟩

/-- A decision that names no outstanding request, or a withdrawal that names no session, is stale. -/
theorem State.takeDecision_stale
    (stale : (s.decisionMatches o v = false ∧ ¬(F.VEH_DECIDEn_KIND.get v = 1 ∧ F.VEH_DECIDEn_OUTCOME.get v = 2)) ∨
      (F.VEH_DECIDEn_KIND.get v = 1 ∧ F.VEH_DECIDEn_OUTCOME.get v = 2 ∧ ((s.so o).sid = none ∨ F.VEH_DECIDEn_SID.get v ≠ (s.so o).sidNat))) :
    s.takeDecision o v = s.stale o := by
  unfold State.takeDecision
  dsimp only
  rcases stale with ⟨names, other⟩ | ⟨kind, outcome, gone⟩
  · rw [if_neg other, names, if_neg (by simp), if_neg (by simp)]
  · rw [if_pos ⟨kind, outcome⟩, if_neg]
    rintro ⟨session, sid⟩
    rcases gone with none | other
    · rw [none] at session
      cases session
    · exact other sid

end

end

end Sys2Proof.Machine
end

section
/-! O33: what P2 decides over the host ports (R306, R307). -/

namespace Sys2Proof.Machine

section
variable {s : State} {o : Output} {sid : Sid} {h : Session} {v : W64} (g : s.Granted sid h R.VEH_DECIDEn [o.1] v)
include g

theorem exec_vehDecideAuthorisation_of_granted (names : s.decisionMatches o v.toNat = true) (kind : F.VEH_DECIDEn_KIND.get v.toNat = 1)
    (asked : (s.veh.relay[o]).kind = 1) (session : (s.so o).sid.isSome = true) (ended : (s.so o).ended = false) (stopped : (s.so o).stopped = false)
    (outcome : F.VEH_DECIDEn_OUTCOME.get v.toNat ≤ 1) :
    ∃ t, exec (.vehDecideAuthorisation sid o v) s = .next t ∧ s.Replies t sid h OK 1 [] ∧ (t.veh.relay[o]).kind = 0 ∧
      (F.VEH_DECIDEn_OUTCOME.get v.toNat = 1 → (t.so o).auth = 2) ∧
      (F.VEH_DECIDEn_OUTCOME.get v.toNat = 0 → (t.so o).auth = 3 ∧ s.Stops t o 3) := by
  obtain ⟨hs, ks, cn, lg, reaches⟩ := g.reachesTable (vehDecide_decoded o)
  have taken := (writeReg_vehDecide sid h.polder o v (s.reaching hs ks cn lg)).trans
    (congrArg (Prod.mk OK) (State.takeDecision_settles (s := s.reaching hs ks cn lg) names kind asked outcome))
  have decides := State.settle_decides (s := s.reaching hs ks cn lg) session ended stopped (s.pendingIdent o).1 (s.pendingIdent o).2
    (F.VEH_DECIDEn_OUTCOME.get v.toNat == 1)
  have stops := State.settle_stops (s := s.reaching hs ks cn lg) session ended stopped (s.pendingIdent o).1 (s.pendingIdent o).2
  obtain ⟨replies, hs', ks', cn', lg', ht⟩ := reaches _ _ taken decides.table
  refine ⟨s.askReg sid R.VEH_DECIDEn [o.1] v, rfl, replies, ?_, fun accepts => ?_, fun denies => ?_⟩
  · rw [ht]
    exact congrArg Relay.kind decides.relay
  · rw [ht]
    exact decides.auth.trans (by rw [accepts]; rfl)
  · rw [denies] at decides ht
    rw [ht]
    exact ⟨decides.auth, stops.state, stops.cause, stops.others⟩

theorem exec_vehDecideWithdraw_of_granted (kind : F.VEH_DECIDEn_KIND.get v.toNat = 1) (outcome : F.VEH_DECIDEn_OUTCOME.get v.toNat = 2)
    (session : (s.so o).sid.isSome = true) (names : F.VEH_DECIDEn_SID.get v.toNat = (s.so o).sidNat) (ended : (s.so o).ended = false)
    (accepted : (s.so o).auth = 2) (stopped : (s.so o).stopped = false) :
    ∃ t, exec (.vehDecideWithdraw sid o v) s = .next t ∧ s.Replies t sid h OK 1 [] ∧ (t.so o).auth = 3 ∧ s.Stops t o 4 := by
  obtain ⟨hs, ks, cn, lg, reaches⟩ := g.reachesTable (vehDecide_decoded o)
  obtain ⟨sl, told⟩ := (s.reaching hs ks cn lg).notice_frame 4 (s.so o).sidNat o.1 2 (s.veh.relay[o]).seq 0 []
    ((s.reaching hs ks cn lg).sessionPseud o [])
  have taken := (writeReg_vehDecide sid h.polder o v (s.reaching hs ks cn lg)).trans (congrArg (Prod.mk OK)
    ((State.takeDecision_withdraws (s := s.reaching hs ks cn lg) kind outcome session names ended accepted).trans
      (congrArg (fun u : State => u.deny o 4) told)))
  have settles := State.deny_settles (s := (s.reaching hs ks cn lg).noticing sl) (o := o) (cause := 4) session ended stopped
  have stops := State.deny_stops (s := (s.reaching hs ks cn lg).noticing sl) (o := o) (cause := 4) session ended stopped
  obtain ⟨replies, hs', ks', cn', lg', ht⟩ := reaches _ _ taken settles.table
  refine ⟨s.askReg sid R.VEH_DECIDEn [o.1] v, rfl, replies, ?_, ?_⟩
  · rw [ht]
    exact (settles.auth o).trans (congrArg SeqOut.auth State.onSo_so_same)
  · rw [ht]
    exact ⟨stops.state, stops.cause, stops.others⟩

theorem exec_vehDecideRelayResponse_of_granted (names : s.decisionMatches o v.toNat = true) (kind : F.VEH_DECIDEn_KIND.get v.toNat = 2)
    (asked : 2 ≤ (s.veh.relay[o]).kind) :
    ∃ t, exec (.vehDecideRelayResponse sid o v) s = .next t ∧ s.Replies t sid h OK 1 [] ∧ (t.veh.relay[o]).kind = 0 ∧
      ((s.veh.relay[o]).kind = 4 → t.veh.resp = s.veh.resp ∧ s.HostKept t sid h ∧
        t = { s with veh := t.veh, host := t.host, keys := t.keys, cnt := t.cnt, log := t.log, pwr := { s.pwr with idleTb := s.clock.tb } }) := by
  by_cases receipt : (s.veh.relay[o]).kind = 4
  · obtain ⟨hs, ks, cn, lg, reaches⟩ := g.reaches (vehDecide_decoded o)
    have taken : writeReg R.VEH_DECIDEn sid h.polder [o.1] v (s.reaching hs ks cn lg) = (OK, (s.reaching hs ks cn lg).relayIdle o) := by
      rw [writeReg_vehDecide]
      rcases State.takeDecision_relays (s := s.reaching hs ks cn lg) names kind asked with ⟨-, idle⟩ | ⟨other, -⟩
      · rw [idle]
      · exact absurd receipt other
    obtain ⟨t, ht, w⟩ := reaches _ _ taken rfl
    obtain ⟨hs', ks', cn', lg', frame⟩ := w.frame
    refine ⟨t, congrArg Host.Outcome.next ht, w.replies, ?_, fun _ => ⟨?_, w.kept fun _ => rfl, ?_⟩⟩
    · rw [frame]
      exact congrArg Relay.kind (upd_same s.veh.relay o _)
    · rw [frame]
      rfl
    · rw [frame]
      rfl
  · obtain ⟨hs, ks, cn, lg, reaches⟩ := g.reachesTable (vehDecide_decoded o)
    obtain ⟨msg, failed, body, taken⟩ : ∃ msg failed body, writeReg R.VEH_DECIDEn sid h.polder [o.1] v (s.reaching hs ks cn lg) =
        (OK, ((s.reaching hs ks cn lg).relayIdle o).answer o msg failed false [] body) := by
      rw [writeReg_vehDecide]
      rcases State.takeDecision_relays (s := s.reaching hs ks cn lg) names kind asked with ⟨same, -⟩ | ⟨-, msg, failed, body, answers⟩
      · exact absurd same receipt
      · exact ⟨msg, failed, body, by rw [answers]⟩
    obtain ⟨table, relay⟩ := ((s.reaching hs ks cn lg).relayIdle o).answer_keeps o msg failed false [] body
    obtain ⟨replies, hs', ks', cn', lg', ht⟩ := reaches _ _ taken table
    refine ⟨s.askReg sid R.VEH_DECIDEn [o.1] v, rfl, replies, ?_, fun same => absurd same receipt⟩
    rw [ht]
    change (State.veh _).relay[o].kind = 0
    rw [relay]
    exact congrArg Relay.kind (upd_same s.veh.relay o _)

theorem exec_vehDecide_stale {c : Instr}
    (decides : c ∈ [Instr.vehDecideAuthorisation sid o v, .vehDecideWithdraw sid o v, .vehDecideRelayResponse sid o v])
    (stale : (s.decisionMatches o v.toNat = false ∧ ¬(F.VEH_DECIDEn_KIND.get v.toNat = 1 ∧ F.VEH_DECIDEn_OUTCOME.get v.toNat = 2)) ∨
      (F.VEH_DECIDEn_KIND.get v.toNat = 1 ∧ F.VEH_DECIDEn_OUTCOME.get v.toNat = 2 ∧
        ((s.so o).sid = none ∨ F.VEH_DECIDEn_SID.get v.toNat ≠ (s.so o).sidNat))) :
    ∃ t, exec c s = .next t ∧ s.Replies t sid h OK 1 [] ∧ s.HostKept t sid h ∧
      t.kept R.VEH_RELAYn [o.1] &&& F.VEH_RELAYn_STALE.mask = F.VEH_RELAYn_STALE.mask ∧
      t = { s with sticky := t.sticky, host := t.host, keys := t.keys, cnt := t.cnt, log := t.log, pwr := { s.pwr with idleTb := s.clock.tb } } := by
  obtain ⟨hs, ks, cn, lg, reaches⟩ := g.reaches (vehDecide_decoded o)
  have taken := (writeReg_vehDecide sid h.polder o v (s.reaching hs ks cn lg)).trans
    (congrArg (Prod.mk OK) (State.takeDecision_stale (s := s.reaching hs ks cn lg) stale))
  obtain ⟨t, ht, w⟩ := reaches _ _ taken rfl
  obtain ⟨hs', ks', cn', lg', frame⟩ := w.frame
  have hx : exec c s = .next t := by
    rw [← ht]
    simp only [List.mem_cons, List.not_mem_nil, or_false] at decides
    rcases decides with rfl | rfl | rfl
    · rfl
    · rfl
    · rfl
  refine ⟨t, hx, w.replies, w.kept fun _ => rfl, ?_, ?_⟩
  · rw [frame]
    exact State.latch_kept (s.reaching hs ks cn lg) R.VEH_RELAYn [o.1] _
  · rw [frame]
    rfl

end

end Sys2Proof.Machine
end

section
/-! O33: the local list (R309, R310). -/

namespace Sys2Proof.Machine

section
variable {s t u : State} {i : Fin 64} {h : Session}

/-! ### A write of several words (R102) -/

/-- A block is dark at service level 1 and below alone, which the power state decides. -/
theorem State.isDark_congr (level : u.pwr.level = s.pwr.level) (b : Nat) : u.isDark b = s.isDark b := by
  have dark (v : State) : decide (v.serviceLevel ≤ 1) = decide (v.pwr.level ≤ 1) := by
    unfold State.serviceLevel
    grind
  unfold State.isDark
  rw [dark, dark, level]

/-- A word that its register takes; the run goes on. -/
theorem State.writeRun_word {r : RegSpec} {ix : List Nat} {v : W64} {vs : List W64} {a : Nat} (here : regAt a = some (r, ix))
    (may : s.mayWriteAt i h r ix v.toNat = true) (lit : s.isDark (a / 0x10000) = false) (taken : writeReg r i h.polder ix v s = (OK, t)) :
    s.writeRun i h (v :: vs) a = (t.writeRun i h vs (a + 8)).after v false [] := by
  simp only [State.writeRun, here, may, lit, taken, Bool.true_eq_false, Bool.false_eq_true, if_false, if_true]

/-- The last word of a run. -/
theorem State.writeRun_last {r : RegSpec} {ix : List Nat} {v : W64} {a st : Nat} (here : regAt a = some (r, ix))
    (may : s.mayWriteAt i h r ix v.toNat = true) (lit : s.isDark (a / 0x10000) = false) (taken : writeReg r i h.polder ix v s = (st, t))
    (idle : st ≠ BUSY) :
    (s.writeRun i h [v] a).status = st ∧ (s.writeRun i h [v] a).count = (if st = OK then 1 else 0) ∧ (s.writeRun i h [v] a).extra = [] ∧
      (s.writeRun i h [v] a).state = t := by
  simp only [State.writeRun, here, may, lit, taken, Bool.true_eq_false, Bool.false_eq_true, if_false]
  by_cases ok : st = OK
  · rw [if_pos ok, if_pos ok, ok]
    exact ⟨rfl, rfl, rfl, rfl⟩
  · rw [if_neg ok, if_neg ok, if_neg idle]
    exact ⟨rfl, rfl, rfl, rfl⟩

/-! ### An entry and its hash (R310) -/

/-- `s` with the hash of an entry in words 0 and 1. -/
def State.hashed (s : State) (w0 w1 : W64) : State := (s.setReg R.VEH_LISTWk [0] w0.toNat).setReg R.VEH_LISTWk [1] w1.toNat

theorem State.hashed_reg (w0 w1 : W64) :
    (s.hashed w0 w1).reg R.VEH_LISTWk [0] = w0.toNat ∧ (s.hashed w0 w1).reg R.VEH_LISTWk [1] = w1.toNat := by
  have apart : R.VEH_LISTWk.addr [0] ≠ R.VEH_LISTWk.addr [1] := by decide
  unfold State.reg State.hashed State.setReg
  simp only [getKey_putKey_same, getKey_putKey_other _ _ _ _ apart, Option.getD_some, and_self]

/-- The three words of an entry in one WRITE (R310). -/
theorem State.writeAccess_list {w0 w1 v : W64} {st : Nat} (may : s.mayWriteAt i h R.VEH_LISTWk [2] v.toNat = true)
    (may0 : s.mayWriteAt i h R.VEH_LISTWk [0] w0.toNat = true) (may1 : s.mayWriteAt i h R.VEH_LISTWk [1] w1.toNat = true)
    (lit : s.isDark 9 = false) (applied : (s.hashed w0 w1).applyList v.toNat = (st, t)) (idle : st ≠ BUSY) :
    s.writeAccess i h (R.VEH_LISTWk.addr [0]) [w0, w1, v] =
      { status := st, count := if st = OK then 3 else 2, payload := [], state := t } := by
  have held (k : Nat) (w : W64) (u : State) (hk : k ≠ 2) : writeReg R.VEH_LISTWk i h.polder [k] w u = (OK, u.setReg R.VEH_LISTWk [k] w.toNat) :=
    (show _ = u.writeListWord k w from rfl).trans (if_neg hk)
  have first := State.writeRun_word (a := R.VEH_LISTWk.addr [0]) (vs := [w1, v]) rfl may0 lit (held 0 w0 s (by decide))
  have lit1 : (s.setReg R.VEH_LISTWk [0] w0.toNat).isDark 9 = false := (State.isDark_congr (u := s.setReg _ _ _) (s := s) rfl 9).trans lit
  have lit2 : (s.hashed w0 w1).isDark 9 = false := (State.isDark_congr (u := s.hashed w0 w1) (s := s) rfl 9).trans lit
  have block : (R.VEH_LISTWk.addr [0] + 8 + 8) / 0x10000 = 9 := by decide
  have second : (s.setReg R.VEH_LISTWk [0] w0.toNat).writeRun i h [w1, v] (R.VEH_LISTWk.addr [0] + 8) =
      ((s.hashed w0 w1).writeRun i h [v] (R.VEH_LISTWk.addr [0] + 8 + 8)).after w1 false [] :=
    State.writeRun_word rfl may1 lit1 (held 1 w1 _ (by decide))
  obtain ⟨status, count, extra, state⟩ := State.writeRun_last (i := i) (a := R.VEH_LISTWk.addr [0] + 8 + 8) (s := s.hashed w0 w1) rfl may (by rw [block]; exact lit2) applied idle
  have inside : inRegion (R.VEH_LISTWk.addr [0]) [w0, w1, v].length = true := (show inRegion (R.VEH_LISTWk.addr [0]) 3 = true by decide)
  have plain : windowAt (R.VEH_LISTWk.addr [0]) = none := rfl
  unfold State.writeAccess State.writeRegs
  rw [inside, plain, if_neg Bool.false_ne_true.symm]
  dsimp only
  rw [first, second]
  simp only [Run.after, Bool.false_eq_true, false_and, if_false, status, count, extra, state]
  by_cases ok : st = OK
  · rw [if_pos ok, if_pos ok]
  · rw [if_neg ok, if_neg ok]

section
variable {w0 w1 v : W64} (g : s.Granted i h R.VEH_LISTWk [2] v) (may0 : s.mayWriteAt i h R.VEH_LISTWk [0] w0.toNat = true)
  (may1 : s.mayWriteAt i h R.VEH_LISTWk [1] w1.toNat = true)
include g may0 may1

/-- A granted WRITE of an entry is applied with its hash and answered. -/
theorem State.Granted.writesList :
    ∃ hs ks cn lg, ∀ st a, ((s.reaching hs ks cn lg).hashed w0 w1).applyList v.toNat = (st, a) → a.host = hs → st ≠ BUSY →
      ∃ t, s.askWrite i (R.VEH_LISTWk.addr [0]) [w0, w1, v] = t ∧ s.Replies t i h st (if st = OK then 3 else 2) [] ∧
        ((∀ n, a.slot n = (s.reaching hs ks cn lg).slot n) → s.HostKept t i h) ∧
        ((∀ n : Fin 256, n ≠ 4 → a.slot n = (s.reaching hs ks cn lg).slot n) → s.HostStored t i h) ∧
        ∃ hs ks cn lg, t = { a with host := hs, keys := ks, cnt := cn, log := lg } := by
  have run := g.ready.runs 2 (R.VEH_LISTWk.addr [0]) 3 [w0, w1, v]
  have asked := g.ready.ask [w0, w1, v] (fun i h s => s.writeAccess i h (R.VEH_LISTWk.addr [0]) [w0, w1, v]) (op := 2) (addr := R.VEH_LISTWk.addr [0])
    (count := 3) rfl rfl
  have path := run.path
  obtain ⟨hs, ks, cn, lg, hu⟩ := path.frame
  change _ = s.reaching hs ks cn lg at hu
  dsimp only at asked
  refine ⟨hs, ks, cn, lg, fun st a applied host idle => ?_⟩
  rw [State.writeAccess_list (t := a) (st := st) (by rw [path.mayWriteAt, g.may]) (by rw [path.mayWriteAt, may0]) (by rw [path.mayWriteAt, may1])
    ((path.isDark _).trans g.lit) (by rw [hu]; exact applied) idle] at asked
  have served := run.served { status := st, count := if st = OK then 3 else 2, payload := [], state := a } (by rw [hu]; exact congrArg HostState.table host)
  exact ⟨_, asked, served, fun slots => run.hostKept _ (by rw [hu]; exact host) (by rw [hu]; exact slots),
    fun slots => Act.answer_hostStored (by rw [hu]; exact host) (by rw [hu]; exact slots), _, _, _, _, Act.answer_rest ..⟩

end

end

end Sys2Proof.Machine
end

section
/-! O33: the words of the local list as P2 writes them, and the obligation (R309, R310). -/

namespace Sys2Proof.Machine

section
variable {s : State} {w0 w1 v : W64} {k : Nat}

/-! ### What an entry does to the list (R310) -/

/-- `s` with another local list, kept under the storage key. -/
def State.relisted (s : State) (l : List ListEntry) : State := s.storeUse.onVeh (fun x => { x with list := l })

theorem State.relisted_frame (s : State) (l : List ListEntry) :
    ∃ ks cn lg, s.relisted l = { s with keys := ks, cnt := cn, log := lg, veh := { s.veh with list := l } } ∧
      ∀ n : Fin 256, n ≠ 4 → ks.slots[n] = s.slot n := by
  obtain ⟨ks, cn, lg, stored⟩ := s.storeUse_frame
  refine ⟨ks, cn, lg, ?_, fun n hn => ?_⟩
  · unfold State.relisted
    rw [stored]
    rfl
  · have kept := s.storeUse_slot_other hn
    rw [stored] at kept
    exact kept

/-- The entries of the list whose hash is not `k`. -/
def State.unlisted (s : State) (k : Nat) : List ListEntry := s.veh.list.filter (fun e => e.hash != k)

section
variable (hk : k = w0.toNat + w1.toNat * 2 ^ 64)
include hk

theorem State.applyList_adds (op : F.VEH_LISTWk_OP.get v.toNat = 1) (room : (s.unlisted k).length < 4096) :
    (s.hashed w0 w1).applyList v.toNat = (OK, (s.hashed w0 w1).relisted
      (s.unlisted k ++ [{ hash := k, blocked := F.VEH_LISTWk_BLOCKED.get v.toNat == 1, expiry := F.VEH_LISTWk_EXPIRY.get v.toNat }])) := by
  obtain ⟨first, second⟩ := s.hashed_reg w0 w1
  subst hk
  unfold State.applyList
  dsimp only
  rw [op, first, second]
  exact if_neg (Nat.not_le.mpr room)

theorem State.applyList_full (op : F.VEH_LISTWk_OP.get v.toNat = 1) (full : 4096 ≤ (s.unlisted k).length) :
    (s.hashed w0 w1).applyList v.toNat = (FULL, s.hashed w0 w1) := by
  obtain ⟨first, second⟩ := s.hashed_reg w0 w1
  subst hk
  unfold State.applyList
  dsimp only
  rw [op, first, second]
  exact if_pos full

theorem State.applyList_removes (op : F.VEH_LISTWk_OP.get v.toNat = 2) :
    (s.hashed w0 w1).applyList v.toNat = (OK, (s.hashed w0 w1).relisted (s.unlisted k)) := by
  obtain ⟨first, second⟩ := s.hashed_reg w0 w1
  subst hk
  unfold State.applyList
  dsimp only
  rw [op, first, second]
  rfl

end

theorem State.applyList_empties (op : F.VEH_LISTWk_OP.get v.toNat = 3) : s.applyList v.toNat = (OK, s.relisted []) := by
  unfold State.applyList
  dsimp only
  rw [op]
  rfl

/-! ### The commands (R309, R310) -/

section
variable {sid : Sid} {h : Session}

section
variable (g : s.Granted sid h R.VEH_LISTWk [2] v) (may0 : s.mayWriteAt sid h R.VEH_LISTWk [0] w0.toNat = true)
  (may1 : s.mayWriteAt sid h R.VEH_LISTWk [1] w1.toNat = true) (hk : k = w0.toNat + w1.toNat * 2 ^ 64)
include g may0 may1 hk

theorem exec_listAdd_of_room (op : F.VEH_LISTWk_OP.get v.toNat = 1) (room : (s.veh.list.filter (fun e => e.hash != k)).length < 4096) :
    ∃ t, exec (.listAdd sid w0 w1 v) s = .next t ∧ s.Replies t sid h OK 3 [] ∧ s.HostStored t sid h ∧
      t.veh = { s.veh with list := s.veh.list.filter (fun e => e.hash != k) ++
        [{ hash := k, blocked := F.VEH_LISTWk_BLOCKED.get v.toNat == 1, expiry := F.VEH_LISTWk_EXPIRY.get v.toNat }] } ∧
      t = { s with regs := t.regs, veh := t.veh, host := t.host, keys := t.keys, cnt := t.cnt, log := t.log,
                   pwr := { s.pwr with idleTb := s.clock.tb } } := by
  obtain ⟨hs, ks, cn, lg, writes⟩ := g.writesList may0 may1
  have applied := State.applyList_adds (s := s.reaching hs ks cn lg) hk op room
  obtain ⟨ks', cn', lg', listed, slots⟩ := ((s.reaching hs ks cn lg).hashed w0 w1).relisted_frame ((s.reaching hs ks cn lg).unlisted k ++
    [{ hash := k, blocked := F.VEH_LISTWk_BLOCKED.get v.toNat == 1, expiry := F.VEH_LISTWk_EXPIRY.get v.toNat }])
  rw [listed] at applied
  obtain ⟨t, ht, replies, -, stored, hs₂, ks₂, cn₂, lg₂, frame⟩ := writes _ _ applied rfl (by decide)
  refine ⟨t, congrArg Host.Outcome.next ht, replies, stored slots, ?_, ?_⟩
  · rw [frame]
    rfl
  · rw [frame]
    rfl

theorem exec_listAdd_of_full (op : F.VEH_LISTWk_OP.get v.toNat = 1) (full : 4096 ≤ (s.veh.list.filter (fun e => e.hash != k)).length) :
    ∃ t, exec (.listAdd sid w0 w1 v) s = .next t ∧ s.Replies t sid h FULL 2 [] ∧ s.HostKept t sid h ∧
      t = { s with regs := t.regs, host := t.host, keys := t.keys, cnt := t.cnt, log := t.log, pwr := { s.pwr with idleTb := s.clock.tb } } := by
  obtain ⟨hs, ks, cn, lg, writes⟩ := g.writesList may0 may1
  obtain ⟨t, ht, replies, kept, -, hs₂, ks₂, cn₂, lg₂, frame⟩ :=
    writes _ _ (State.applyList_full (s := s.reaching hs ks cn lg) hk op full) rfl (by decide)
  refine ⟨t, congrArg Host.Outcome.next ht, replies, kept fun _ => rfl, ?_⟩
  rw [frame]
  rfl

theorem exec_listRemove_of_granted (op : F.VEH_LISTWk_OP.get v.toNat = 2) :
    ∃ t, exec (.listRemove sid w0 w1 v) s = .next t ∧ s.Replies t sid h OK 3 [] ∧ s.HostStored t sid h ∧
      t.veh = { s.veh with list := s.veh.list.filter (fun e => e.hash != k) } ∧
      t = { s with regs := t.regs, veh := t.veh, host := t.host, keys := t.keys, cnt := t.cnt, log := t.log,
                   pwr := { s.pwr with idleTb := s.clock.tb } } := by
  obtain ⟨hs, ks, cn, lg, writes⟩ := g.writesList may0 may1
  have applied := State.applyList_removes (s := s.reaching hs ks cn lg) hk op
  obtain ⟨ks', cn', lg', listed, slots⟩ := ((s.reaching hs ks cn lg).hashed w0 w1).relisted_frame ((s.reaching hs ks cn lg).unlisted k)
  rw [listed] at applied
  obtain ⟨t, ht, replies, -, stored, hs₂, ks₂, cn₂, lg₂, frame⟩ := writes _ _ applied rfl (by decide)
  refine ⟨t, congrArg Host.Outcome.next ht, replies, stored slots, ?_, ?_⟩
  · rw [frame]
    rfl
  · rw [frame]
    rfl

end

theorem exec_listClear_of_granted (g : s.Granted sid h R.VEH_LISTWk [2] v) (op : F.VEH_LISTWk_OP.get v.toNat = 3) :
    ∃ t, exec (.listClear sid v) s = .next t ∧ s.Replies t sid h OK 1 [] ∧ s.HostStored t sid h ∧
      t = { s with veh := { s.veh with list := [] }, host := t.host, keys := t.keys, cnt := t.cnt, log := t.log,
                   pwr := { s.pwr with idleTb := s.clock.tb } } := by
  obtain ⟨hs, ks, cn, lg, reaches⟩ := g.reaches ⟨by decide, by decide, by decide, rfl⟩
  obtain ⟨ks', cn', lg', listed, slots⟩ := (s.reaching hs ks cn lg).relisted_frame []
  have taken : writeReg R.VEH_LISTWk sid h.polder [2] v (s.reaching hs ks cn lg) = (OK, _) := (State.applyList_empties op).trans (congrArg _ listed)
  obtain ⟨t, ht, w⟩ := reaches _ _ taken rfl
  obtain ⟨hs₂, ks₂, cn₂, lg₂, frame⟩ := w.frame
  refine ⟨t, congrArg Host.Outcome.next ht, w.replies, w.stored slots, ?_⟩
  rw [frame]
  rfl

theorem listSalt_decoded (hi : Bool) : R.VEH_LIST_SALTk.Decoded [b2n hi] := by
  cases hi
  · exact ⟨by decide, by decide, by decide, rfl⟩
  · exact ⟨by decide, by decide, by decide, rfl⟩

theorem exec_listSaltWrite_of_granted {hi : Bool} (g : s.Granted sid h R.VEH_LIST_SALTk [b2n hi] v) :
    ∃ t, exec (.listSaltWrite sid hi v) s = .next t ∧ s.Replies t sid h OK 1 [] ∧ s.HostStored t sid h ∧
      t.reg R.VEH_LIST_SALTk [b2n hi] = v.toNat ∧
      t = { s with regs := t.regs, veh := { s.veh with list := [] }, host := t.host, keys := t.keys, cnt := t.cnt, log := t.log,
                   pwr := { s.pwr with idleTb := s.clock.tb } } := by
  obtain ⟨hs, ks, cn, lg, reaches⟩ := g.reaches (listSalt_decoded hi)
  obtain ⟨ks', cn', lg', stored⟩ := (s.reaching hs ks cn lg).storeUse_frame
  have slots (n : Fin 256) (hn : n ≠ 4) := (s.reaching hs ks cn lg).storeUse_slot_other hn
  rw [stored] at slots
  have taken : writeReg R.VEH_LIST_SALTk sid h.polder [b2n hi] v (s.reaching hs ks cn lg) =
      (OK, ((s.reaching hs ks cn lg).storeUse.setReg R.VEH_LIST_SALTk [b2n hi] v.toNat).onVeh (fun x => { x with list := [] })) := rfl
  rw [stored] at taken
  obtain ⟨t, ht, w⟩ := reaches _ _ taken rfl
  obtain ⟨hs₂, ks₂, cn₂, lg₂, frame⟩ := w.frame
  refine ⟨t, congrArg Host.Outcome.next ht, w.replies, w.stored slots, ?_, ?_⟩
  · rw [frame]
    simp [State.reg, State.setReg]
  · rw [frame]
    rfl

end

end

/-- Settles O33: identifications, their deadline, the decisions of P2 and the writes of the local list. -/
theorem authorisationAndLocalList : Obligations.AuthorisationAndLocalList :=
  ⟨fun _ _ _ l ended auth free may => exec_identification_of_linked l ended auth free may,
    fun _ _ _ asked deadline passed session ended stopped => exec_authDeadline asked deadline passed session ended stopped,
    fun _ _ _ _ _ g names kind asked session ended stopped outcome =>
      exec_vehDecideAuthorisation_of_granted g names kind asked session ended stopped outcome,
    fun _ _ _ _ _ g kind outcome session names ended accepted stopped =>
      exec_vehDecideWithdraw_of_granted g kind outcome session names ended accepted stopped,
    fun _ _ _ _ _ g names kind asked => exec_vehDecideRelayResponse_of_granted g names kind asked,
    fun _ _ _ _ _ _ g decides stale => exec_vehDecide_stale g decides stale,
    fun _ _ _ _ _ _ _ g may0 may1 op hk room => exec_listAdd_of_room g may0 may1 hk op room,
    fun _ _ _ _ _ _ g may0 may1 op full => exec_listAdd_of_full g may0 may1 rfl op full,
    fun _ _ _ _ _ _ g may0 may1 op => exec_listRemove_of_granted g may0 may1 rfl op,
    fun _ _ _ _ g op => exec_listClear_of_granted g op, fun _ _ _ _ _ g => exec_listSaltWrite_of_granted g⟩

end Sys2Proof.Machine
end

section
/-! O30: what a fault does to its output (R24, R313, R316, R319). -/

namespace Sys2Proof.Machine

section
variable {s t : State} {o : Fin 6}

/-! ### The request that is withdrawn (R24, R25) -/

theorem State.onGo_go {f : GuardOut → GuardOut} : (s.onGo o f).go o = f (s.go o) := upd_same s.guard.outs o f

theorem State.gateChans_seqr {closed : Bool} : (s.gateChans o closed).seqr = s.seqr := by
  unfold State.gateChans
  refine List.foldlRecOn (motive := fun u : State => u.seqr = s.seqr) _ _ rfl (fun u hu n _ => ?_)
  dsimp only
  split
  · split
    · exact hu
    · exact hu
  · exact hu

theorem State.dropTracks_seqr : (s.dropTracks o).seqr = s.seqr := by
  unfold State.dropTracks
  split
  · rfl
  · simp

theorem State.setGate_seqr {v : Bool} : (s.setGate o v).seqr = s.seqr := by
  unfold State.setGate
  split
  · rfl
  · dsimp only
    rw [State.gateChans_seqr]
    change State.seqr (if v then s.dropTracks o else s) = s.seqr
    split
    · exact State.dropTracks_seqr
    · rfl

theorem State.request_so {v : Bool} (p : Fin 6) : (s.request o v).so p = s.so p := by
  unfold State.request State.regate
  dsimp only
  rw [State.so, State.setGate_seqr]
  rfl

/-- A gate that is set is so, and the request for its output stays. -/
theorem State.setGate_go {v : Bool} : ((s.setGate o v).go o).gate = v ∧ ((s.setGate o v).go o).request = (s.go o).request := by
  unfold State.setGate
  split
  case isTrue same => exact ⟨same, rfl⟩
  case isFalse =>
    dsimp only
    rw [State.go, State.gateChans_guard]
    change ((State.onGo _ o _).go o).gate = v ∧ ((State.onGo _ o _).go o).request = (s.go o).request
    rw [State.onGo_go]
    refine ⟨rfl, ?_⟩
    split
    · rw [State.go, State.dropTracks_guard]
      rfl
    · rfl

/-- Without a request the gate is open. -/
theorem State.request_false_go : ((s.request o false).go o).gate = false ∧ ((s.request o false).go o).request = false := by
  unfold State.request State.regate
  dsimp only
  rw [State.onGo_go]
  dsimp only
  rw [Bool.and_false, Bool.false_and]
  obtain ⟨gate, request⟩ := State.setGate_go (s := s.onGo o (fun g =>
    { g with request := false, needEdge := g.needEdge && !(false && !g.request && g.hv) })) (o := o) (v := false)
  exact ⟨gate, request.trans (congrArg GuardOut.request State.onGo_go)⟩

theorem State.enter_go {x : OutState} (p : Fin 6) : (s.enter o x).go p = s.go p := by
  have monitor (u : State) (was : OutState) : (u.monitorOf o was x).guard.outs = u.guard.outs := by
    unfold State.monitorOf
    split
    · dsimp only
      split
      · rfl
      · split
        · rw [State.isoDrive_guard]
          rfl
        · rw [State.isoDrive_guard]
    · rfl
  exact congrArg (fun v : Vector GuardOut 6 => v[p]) (monitor _ _)

/-! ### FAULT (R316, R317, R319) -/

/-- From `s` to `t` output `o` has gone to FAULT with a cause: its request is withdrawn and its pilot is at F. -/
structure State.Faults (s t : State) (o : Fin 6) (cause : Nat) : Prop where
  state : (t.so o).state = .fault
  request : (t.go o).request = false
  gate : (t.go o).gate = false
  drive : (t.veh.pilots[o]).drive = .minus12
  cause : (s.so o).stopped = false → (t.so o).cause = cause

/-- An output in FAULT drives its pilot to F. -/
theorem State.enter_fault_drive : ((s.enter o .fault).veh.pilots[o]).drive = .minus12 := by
  refine (congrArg Pilot.drive (upd_same ..)).trans ?_
  unfold Pilot.choose
  split
  case isTrue same => exact same
  case isFalse => rfl

theorem State.toFault_faults {cause : Nat} : s.Faults (s.toFault o cause) o cause := by
  obtain ⟨gate, request⟩ := State.request_false_go (s := s.stopCause o cause) (o := o)
  have guard : ((s.stopCause o cause).withdraw o).guard = ((s.stopCause o cause).request o false).guard := State.endSession_apart.1
  have ends := State.endSession_moves (s := (s.stopCause o cause).request o false) (o := o)
  unfold State.toFault
  dsimp only
  generalize hu : State.onSo ((s.stopCause o cause).withdraw o) o _ = u
  have go : u.go o = ((s.stopCause o cause).request o false).go o := by
    rw [← hu]
    exact congrArg (fun g : Guard => g.outs[o]) guard
  obtain ⟨cn, lg, logged, -⟩ := (u.enter o .fault).logEv_frame .sequencer o.1 7 0 (s.so o).sidNat cause
  rw [logged]
  exact {
    state := State.enter_state
    request := (congrArg GuardOut.request ((State.enter_go o).trans go)).trans request
    gate := (congrArg GuardOut.gate ((State.enter_go o).trans go)).trans gate
    drive := State.enter_fault_drive
    cause := fun fresh => by
      have entered : ((u.enter o .fault).so o).cause = (u.so o).cause := (congrArg SeqOut.cause State.enter_so).trans rfl
      refine entered.trans ?_
      rw [← hu]
      refine (congrArg SeqOut.cause State.onSo_so_same).trans (ends.cause.trans ?_)
      rw [State.request_so]
      exact (State.stopCause_so fresh).1 }

end

end Sys2Proof.Machine
end

section
/-! O30: pilots and proximity (R283, R285, R316, R317, R340, R343). -/

namespace Sys2Proof.Machine

section
variable {s t u : State} {o : Fin 6}

/-! ### A step of the sequencer leaves what is measured (R312, R316, R317) -/

theorem State.Steers.ite {c : Prop} [Decidable c] (h : s.Steers t) (k : s.Steers u) : s.Steers (if c then t else u) := by
  split
  · exact h
  · exact k

section
variable (h : s.Steers t)
include h

theorem State.Steers.settles (k : t.Settles u) : s.Steers u := h.trans k.toSteers

/-- One more change, part by part. -/
theorem State.Steers.step
    (frame : u = { t with use := u.use, keys := u.keys, host := u.host, cnt := u.cnt, log := u.log, sens := u.sens, bil := u.bil, guard := u.guard,
                          seqr := u.seqr, veh := u.veh, lsw := u.lsw, draws := u.draws } := by rfl)
    (veh : u.veh = { t.veh with pilots := u.veh.pilots } := by rfl)
    (readings : ∀ p : Fin 6, (t.veh.pilots[p]).SameReading u.veh.pilots[p] := by exact fun _ => .refl _) : s.Steers u := h.trans ⟨frame, veh, readings⟩

theorem State.Steers.onSo {f : SeqOut → SeqOut} : s.Steers (t.onSo o f) := h.step

theorem State.Steers.onChan {n : Fin 24} {f : LswChan → LswChan} : s.Steers (t.onChan n f) := h.step

theorem State.Steers.takeUp {c : Cls} {q : Nat → Bool} : s.Steers (t.takeUp c q) := by
  obtain ⟨us, taken⟩ := t.takeUp_frame c q
  rw [taken]
  exact h.step

theorem State.Steers.newMask {sid : Nat} : s.Steers (t.newMask sid).2 := by
  obtain ⟨ks, cn, lg, used⟩ := t.keyUse_frame 6 engKDF 0
  unfold State.newMask
  dsimp only
  rw [used]
  exact h.step

theorem State.Steers.driveLock {release : Bool} : s.Steers (t.driveLock o release) := by
  unfold State.driveLock
  split
  · exact h
  · exact h.onChan.onChan

theorem State.Steers.toLink : s.Steers (t.toLink o) := by
  have linked : s.Steers (if !t.digital o && (t.so o).auth = 0 then (t.enter o .link).onSo o (fun q => { q with auth := 1 }) else t.enter o .link) := by
    have entered := h.settles (State.Settles.refl.enter (o := o) (x := .link))
    split
    · exact entered.onSo
    · exact entered
  unfold State.toLink
  dsimp only
  split
  · exact linked.settles State.Settles.refl.linkAccepted
  · exact linked.settles State.Settles.refl.trySpec

theorem State.Steers.tryLink : s.Steers (t.tryLink o) := by
  unfold State.tryLink
  exact .ite h.toLink h

/-- A session ID that is taken changes the session table. -/
theorem State.Steers.allocSid {x : SidUse} {i : Fin 64} (taken : t.allocSid x = some (i, u)) : s.Steers u := by
  unfold State.allocSid at taken
  split at taken
  case isTrue =>
    split at taken
    · cases taken
    · cases taken
      exact h.step
  case isFalse => cases taken

theorem State.Steers.toLock : s.Steers (t.toLock o) := by
  unfold State.toLock
  split
  case h_1 => exact h
  case h_2 i s1 taken =>
    have locked := (((h.allocSid taken).takeUp (c := .s) (q := fun a => a == R.SEQ_CFGn.addr [o.1])).newMask (sid := i.1)).onSo (o := o)
      (f := fun q => { SeqOut.reset with sid := some i, maskKey := ((s1.takeUp .s (fun a => a == R.SEQ_CFGn.addr [o.1])).newMask i.1).1, state := q.state,
                                         demand := 0, blocked := q.blocked, needClear := q.needClear, postRun := q.postRun })
    exact (((locked.settles State.Settles.refl.enter).driveLock).settles State.Settles.refl.notice).tryLink

theorem State.Steers.pollOut : s.Steers (t.pollOut o) := by
  unfold State.pollOut
  dsimp only
  split
  · split
    · split
      · exact h.toLock
      · exact h
    · exact h.settles State.Settles.refl.enter
  · split
    · split
      · exact h.settles State.Settles.refl.enter
      · split
        · exact h.toLock
        · exact h
    · exact h
  · exact h.tryLink
  · exact h.settles State.Settles.refl.trySpec
  · exact h

/-- A session whose vehicle is gone before it was energised ends (R317). -/
theorem State.Steers.endsGone : s.Steers ((((t.stopCause o 7).endSession o).startFive o).enter o .waitUnplug) :=
  h.settles (((State.Settles.refl.stopCause.endSession).startFive).enter)

theorem State.Steers.pilotSeen : s.Steers (t.pilotSeen o) := by
  unfold State.pilotSeen
  dsimp only
  split
  case h_1 | h_2 => exact h.pollOut
  case h_3 | h_4 =>
    split
    · exact h.endsGone
    · exact h.pollOut
  case h_5 =>
    split
    · exact h.settles State.Settles.refl.toFault
    · split
      · exact h
      · split
        case h_1 | h_2 | h_3 => exact h.settles (State.Settles.refl.request).enter
        case h_4 => exact h.settles State.Settles.refl.request
        case h_5 => exact h.settles (State.Settles.refl.withdraw).enter
        case h_6 => exact h

theorem State.Steers.ppSeen : s.Steers (t.ppSeen o) := by
  unfold State.ppSeen
  dsimp only
  split
  · split
    · exact h.settles State.Settles.refl.toFault
    · split
      · exact h.endsGone
      · exact h
  · exact h.pollOut

end

/-! ### A vehicle that is gone from an energised output (R317, R340) -/

/-- A pilot without a vehicle, in E or INVALID, on an energised output is a fault. -/
theorem State.pilotSeen_faults (energised : (s.so o).state.energised = true) (gone : (s.veh.pilots[o]).state ∈ [0, 4, 6]) :
    s.pilotSeen o = s.toFault o 7 := by
  have gone : (s.veh.pilots[o]).state = 0 ∨ (s.veh.pilots[o]).state = 4 ∨ (s.veh.pilots[o]).state = 6 := by simpa using gone
  unfold State.pilotSeen
  dsimp only
  split
  case h_1 hx | h_2 hx | h_3 hx | h_4 hx => exact absurd (hx ▸ energised) (by decide)
  case h_5 => exact if_pos ⟨energised, gone⟩

/-- No plug, or an invalid one, on an energised output is a fault. -/
theorem State.ppSeen_faults (energised : (s.so o).state.energised = true) (gone : (s.veh.pp[o]).1 = 0 ∨ (s.veh.pp[o]).1 = 7) :
    s.ppSeen o = s.toFault o 7 := (if_pos gone).trans (if_pos energised)

end

end Sys2Proof.Machine
end

section
/-! O30: the changes of a pilot's state and of a proximity code (R283, R285, R343, R545). -/

namespace Sys2Proof.Machine

section
variable {s t u : State} {o : Fin 6}

/-! ### Before the sequencer sees a pilot (R285, R296, R319) -/

/-- From `s` to `t` a pilot has been read: the sequencer of its output is where it was, and no pilot has changed. -/
structure State.Reads (s t : State) : Prop where
  frame : t = { s with use := t.use, guard := t.guard, seqr := t.seqr, veh := t.veh }
  pilots : t.veh.pilots = s.veh.pilots
  suspended : t.seqr.suspended = s.seqr.suspended
  state : ∀ p, (t.so p).state = (s.so p).state
  stopped : ∀ p, (t.so p).stopped = (s.so p).stopped

theorem State.Reads.refl : s.Reads s := ⟨rfl, rfl, rfl, fun _ => rfl, fun _ => rfl⟩

theorem State.Reads.trans (h : s.Reads t) (k : t.Reads u) : s.Reads u where
  frame := k.frame.trans (by rw [h.frame])
  pilots := k.pilots.trans h.pilots
  suspended := k.suspended.trans h.suspended
  state p := (k.state p).trans (h.state p)
  stopped p := (k.stopped p).trans (h.stopped p)

/-- A part of the sequencers that a change of one of them leaves alone. -/
theorem State.onSo_part {α : Type} (part : SeqOut → α) {f : SeqOut → SeqOut} (kept : part (f (s.so o)) = part (s.so o)) (p : Fin 6) :
    part ((s.onSo o f).so p) = part (s.so p) := by
  by_cases hp : p = o
  · subst hp
    rw [State.onSo_so_same, kept]
  · rw [State.onSo_so_other hp]

theorem State.settleA_reads : s.Reads (s.settleA o) := by
  have cleared : s.Reads (if s.latchClears o then s.onGo o (fun g => { g with latch := none }) else s) := by
    split
    · exact ⟨rfl, rfl, rfl, fun _ => rfl, fun _ => rfl⟩
    · exact .refl
  unfold State.settleA
  dsimp only
  split
  · refine cleared.trans ?_
    generalize (if s.latchClears o then s.onGo o (fun g => { g with latch := none }) else s) = v
    exact ⟨rfl, rfl, rfl, State.onSo_part SeqOut.state rfl, State.onSo_part SeqOut.stopped rfl⟩
  · exact cleared

theorem State.unmatch_reads : s.Reads (s.unmatch o) := by
  unfold State.unmatch
  split
  · exact ⟨rfl, rfl, rfl, fun _ => rfl, fun _ => rfl⟩
  · exact .refl

theorem State.pilotA_reads {was now : Nat} : s.Reads (s.pilotA o was now) := by
  unfold State.pilotA
  split
  · obtain ⟨us, taken⟩ := (s.unmatch o).takeUp_frame .s (fun a => a == R.VEH_PINCFGn.addr [o.1])
    refine State.unmatch_reads.trans (t := s.unmatch o) ?_
    rw [taken]
    exact ⟨rfl, rfl, rfl, fun _ => rfl, fun _ => rfl⟩
  · split
    · split
      · exact ⟨rfl, rfl, rfl, fun _ => rfl, fun _ => rfl⟩
      · exact .refl
    · exact .refl

/-- `s` with the plateaus of a pilot kept, and whether DIODE holds. -/
def State.pilotRead (s : State) (o : Fin 6) (i : PilotIn) (diode : Bool) : State :=
  let s1 := s.onPilot o (fun p => { p with high := i.high, low := i.low, diode := diode })
  if diode then s1.latch R.VEH_PILOTn [o.1] F.VEH_PILOTn_DIODE.mask else s1

theorem State.pilotRead_frame (s : State) (o : Fin 6) (i : PilotIn) (diode : Bool) :
    ∃ st, s.pilotRead o i diode = { s with sticky := st, veh := { s.veh with pilots := upd s.veh.pilots o (fun p =>
      { p with high := i.high, low := i.low, diode := diode }) } } := by
  unfold State.pilotRead
  dsimp only
  split
  · exact ⟨_, rfl⟩
  · exact ⟨_, rfl⟩

/-- `s` once a pilot has been accepted in another state. -/
def State.pilotAccepted (s : State) (o : Fin 6) (i : PilotIn) (j : Nat × Bool) : State :=
  ((s.settleA o).pilotRead o i j.2).onPilot o (fun p => { p with state := j.1, tb := s.clock.tb })

/-- `s` with the proximity code of a resistance. -/
def State.proximity (s : State) (o : Fin 6) (ohms : Nat) : State :=
  s.onVeh (fun v => { v with pp := v.pp.set o (ppCode (s.useFld R.VEH_PINCFGn F.VEH_PINCFGn_PP_TABLE [o.1]) ohms, min 0xFFFF ohms) })

/-! ### The change of a pilot (R283, R343, R545) -/

/-- A pilot that is measured is judged; the sequencer sees another state than the accepted one. -/
theorem vehPilot_eq (watched : bitOf s.veh.watched o.1 = true) (i : PilotIn) :
    vehPilot o i s = if ((s.veh.pilots[o]).judge s.clock.tb i).1 = (s.veh.pilots[o]).state then
        (s.settleA o).pilotRead o i ((s.veh.pilots[o]).judge s.clock.tb i).2
      else ((s.pilotAccepted o i ((s.veh.pilots[o]).judge s.clock.tb i)).pilotA o (s.veh.pilots[o]).state ((s.veh.pilots[o]).judge s.clock.tb i).1).pilotEvent o := by
  have reads := State.settleA_reads (s := s) (o := o)
  have pilots : (s.settleA o).veh.pilots = s.veh.pilots := reads.pilots
  have clock : (s.settleA o).clock = s.clock := by rw [reads.frame]
  unfold vehPilot
  rw [if_neg (by rw [watched]; exact Bool.false_ne_true.symm)]
  dsimp only
  rw [pilots, clock]
  rfl

/-- What the sequencer makes of an accepted state: it waits while it is suspended; else a vehicle that is gone from an energised output is a
fault. -/
theorem State.pilotEvent_sees (s : State) (o : Fin 6) :
    s.Steers (s.pilotEvent o) ∧ (s.seqr.suspended = true → ((s.pilotEvent o).so o).missed = true ∧ ((s.pilotEvent o).so o).state = (s.so o).state) ∧
      (s.seqr.suspended = false → (s.so o).state.energised = true → (s.veh.pilots[o]).state ∈ [0, 4, 6] → s.Faults (s.pilotEvent o) o 7) := by
  unfold State.pilotEvent
  by_cases suspended : s.seqr.suspended = true
  · rw [if_pos suspended]
    refine ⟨State.Steers.refl.onSo, fun _ => ⟨?_, State.onSo_part SeqOut.state rfl o⟩, fun runs => absurd (suspended.symm.trans runs) Bool.false_ne_true.symm⟩
    exact congrArg SeqOut.missed State.onSo_so_same
  · rw [if_neg suspended]
    refine ⟨State.Steers.refl.pilotSeen, fun yes => absurd yes suspended, fun _ energised gone => ?_⟩
    rw [State.pilotSeen_faults energised gone]
    exact State.toFault_faults

theorem exec_pilotStateChange_of_watched (watched : bitOf s.veh.watched o.1 = true) (i : PilotIn) :
    ∃ t, exec (.pilotStateChange o i) s = .next t ∧ (t.veh.pilots[o]).state = ((s.veh.pilots[o]).judge s.clock.tb i).1 ∧
      (t.veh.pilots[o]).diode = ((s.veh.pilots[o]).judge s.clock.tb i).2 ∧ (t.veh.pilots[o]).high = i.high ∧ (t.veh.pilots[o]).low = i.low ∧
      (((s.veh.pilots[o]).judge s.clock.tb i).1 ≠ (s.veh.pilots[o]).state → (t.veh.pilots[o]).tb = s.clock.tb) ∧
      (s.seqr.suspended = true → ((s.veh.pilots[o]).judge s.clock.tb i).1 ≠ (s.veh.pilots[o]).state →
        (t.so o).missed = true ∧ (t.so o).state = (s.so o).state) ∧
      (s.seqr.suspended = false → (s.so o).state.energised = true → ((s.veh.pilots[o]).judge s.clock.tb i).1 ≠ (s.veh.pilots[o]).state →
        ((s.veh.pilots[o]).judge s.clock.tb i).1 ∈ [0, 4, 6] →
        (t.so o).state = .fault ∧ (t.go o).request = false ∧ (t.go o).gate = false ∧ (t.veh.pilots[o]).drive = .minus12 ∧
        ((s.so o).stopped = false → (t.so o).cause = 7)) ∧
      t = { s with use := t.use, sticky := t.sticky, keys := t.keys, host := t.host, cnt := t.cnt, log := t.log, sens := t.sens, bil := t.bil,
                   guard := t.guard, seqr := t.seqr, veh := t.veh, lsw := t.lsw, draws := t.draws } := by
  have eq := vehPilot_eq watched i
  generalize (s.veh.pilots[o]).judge s.clock.tb i = j at eq ⊢
  have settled := State.settleA_reads (s := s) (o := o)
  obtain ⟨st, read⟩ := (s.settleA o).pilotRead_frame o i j.2
  have pilot : ((s.settleA o).pilotRead o i j.2).veh.pilots[o] = { s.veh.pilots[o] with high := i.high, low := i.low, diode := j.2 } := by
    rw [read, ← settled.pilots]
    exact upd_same ..
  by_cases same : j.1 = (s.veh.pilots[o]).state
  · rw [if_pos same] at eq
    refine ⟨_, congrArg Host.Outcome.next eq, ?_, ?_, ?_, ?_, fun other => absurd same other, fun _ other => absurd same other,
      fun _ _ other => absurd same other, ?_⟩
    · rw [pilot, same]
    · rw [pilot]
    · rw [pilot]
    · rw [pilot]
    · rw [read, settled.frame]
  · rw [if_neg same] at eq
    have sees := State.pilotA_reads (s := s.pilotAccepted o i j) (o := o) (was := (s.veh.pilots[o]).state) (now := j.1)
    generalize (s.pilotAccepted o i j).pilotA o (s.veh.pilots[o]).state j.1 = w at eq sees
    have accepted : w.veh.pilots[o] = { s.veh.pilots[o] with high := i.high, low := i.low, diode := j.2, state := j.1, tb := s.clock.tb } := by
      rw [sees.pilots]
      refine (upd_same ..).trans ?_
      rw [pilot]
    have frame : w = { s with use := w.use, sticky := w.sticky, guard := w.guard, seqr := w.seqr, veh := w.veh } := by
      rw [sees.frame, State.pilotAccepted, read, settled.frame]
      rfl
    have seqr : (s.pilotAccepted o i j).seqr = (s.settleA o).seqr := by
      rw [State.pilotAccepted, read]
      rfl
    have so : (w.so o).state = (s.so o).state ∧ (w.so o).stopped = (s.so o).stopped :=
      ⟨(sees.state o).trans ((congrArg (fun q : Seqr => (q.outs[o]).state) seqr).trans (settled.state o)),
        (sees.stopped o).trans ((congrArg (fun q : Seqr => (q.outs[o]).stopped) seqr).trans (settled.stopped o))⟩
    have suspended : w.seqr.suspended = s.seqr.suspended := sees.suspended.trans ((congrArg Seqr.suspended seqr).trans settled.suspended)
    obtain ⟨steers, waits, faults⟩ := w.pilotEvent_sees o
    have reading := steers.readings o
    rw [accepted] at reading faults
    rw [so.1, suspended] at waits faults
    refine ⟨_, congrArg Host.Outcome.next eq, reading.state, reading.diode, reading.high, reading.low, fun _ => reading.tb, fun yes _ => waits yes,
      fun runs energised _ gone => ?_, ?_⟩
    · obtain ⟨state, request, gate, drive, cause⟩ := faults runs energised gone
      exact ⟨state, request, gate, drive, fun fresh => cause (so.2.trans fresh)⟩
    · rw [steers.frame, frame]

/-! ### The change of a proximity code (R285, R343) -/

theorem exec_ppCodeChange (ohms c : Nat) (hc : c = ppCode (s.useFld R.VEH_PINCFGn F.VEH_PINCFGn_PP_TABLE [o.1]) ohms) :
    ∃ t, exec (.ppCodeChange o ohms) s = .next t ∧ t.veh.pp[o] = (c, min 0xFFFF ohms) ∧
      (s.seqr.suspended = true → (t.so o).missed = true ∧ (t.so o).state = (s.so o).state) ∧
      (s.seqr.suspended = false → (s.so o).state.energised = true → c = 0 ∨ c = 7 →
        (t.so o).state = .fault ∧ (t.go o).request = false ∧ ((s.so o).stopped = false → (t.so o).cause = 7)) ∧
      t = { s with use := t.use, keys := t.keys, host := t.host, cnt := t.cnt, log := t.log, sens := t.sens, bil := t.bil, guard := t.guard,
                   seqr := t.seqr, veh := t.veh, lsw := t.lsw, draws := t.draws } := by
  subst hc
  have coded : (s.proximity o ohms).veh.pp[o] = (ppCode (s.useFld R.VEH_PINCFGn F.VEH_PINCFGn_PP_TABLE [o.1]) ohms, min 0xFFFF ohms) :=
    Vector.getElem_set_self ..
  by_cases suspended : s.seqr.suspended = true
  · refine ⟨_, congrArg Host.Outcome.next (if_pos suspended), coded, fun _ => ⟨?_, ?_⟩, fun runs => absurd (suspended.symm.trans runs) Bool.false_ne_true.symm,
      rfl⟩
    · exact congrArg SeqOut.missed State.onSo_so_same
    · exact State.onSo_part (s := s.proximity o ohms) SeqOut.state rfl o
  · have steers : (s.proximity o ohms).Steers ((s.proximity o ohms).ppSeen o) := State.Steers.refl.ppSeen
    refine ⟨(s.proximity o ohms).ppSeen o, congrArg Host.Outcome.next (if_neg suspended), ?_, fun yes => absurd yes suspended,
      fun _ energised gone => ?_, ?_⟩
    · rw [steers.veh]
      exact coded
    · have faults := State.toFault_faults (s := s.proximity o ohms) (o := o) (cause := 7)
      rw [State.ppSeen_faults (s := s.proximity o ohms) energised (by rw [coded]; exact gone)]
      exact ⟨faults.state, faults.request, faults.cause⟩
    · rw [steers.frame]
      rfl

end

end Sys2Proof.Machine
end

section
/-! O30: a modem that fails (R30, R287, R289, R290). -/

namespace Sys2Proof.Machine

section
variable {s t u : State} {o : Fin 6}

/-- A modem that has failed: it drives no coupler. -/
def Modem.fails (x : Modem) : Modem := { x with failed := true, coupler := 7, matched := false, inSlac := false }

/-- A modem that takes the place of another in the matrix. -/
def Modem.replaces (y x : Modem) : Modem :=
  { y with coupler := x.coupler, matched := x.matched, inSlac := x.inSlac, mac := x.mac, nid := x.nid, nmk := x.nmk }

/-- `s` once a modem has failed. -/
def State.modemLost (s : State) (m : Fin 7) (us : Nat) : State := (s.onModem m Modem.fails).logEv .modem m.1 7 0 us 0

theorem State.modemLost_frame (s : State) (m : Fin 7) (us : Nat) :
    ∃ cn lg, s.modemLost m us = { s with cnt := cn, log := lg, veh := { s.veh with modems := upd s.veh.modems m Modem.fails } } := by
  obtain ⟨cn, lg, logged, -⟩ := (s.onModem m Modem.fails).logEv_frame .modem m.1 7 0 us 0
  exact ⟨cn, lg, logged⟩

/-- `s` with GP6 in the place of modem `x`. -/
def State.switched (s : State) (x : Modem) (us : Nat) : State :=
  (s.onModem 6 (fun y => y.replaces x)).onVeh (fun v => { v with serving := x.coupler, switches := satAdd 16 v.switches 1, lastUs := us % 2 ^ 16 })

/-- What GP6 does at once on the coupler that it has taken: SLAC starts over, or what is unacknowledged goes out again (R30). -/
def State.substitutes (s : State) (x : Modem) : State :=
  if h : x.coupler < 6 then (if x.inSlac then s.restartSlac ⟨x.coupler, h⟩ else s.resendUnacked ⟨x.coupler, h⟩) else s

/-- A run that starts over is as it was after CM_SLAC_PARM. -/
theorem State.restartSlac_starts {r : SlacRun} (member : r ∈ (s.restartSlac o).veh.slac) (candidate : bitOf r.candidates o.1 = true)
    (running : r.closed = false) : r.sounds = 0 ∧ r.startTb = none := by
  obtain ⟨x, -, hr⟩ := List.mem_map.mp member
  subst hr
  by_cases restarts : bitOf x.candidates o.1 = true ∧ x.closed = false
  · rw [if_pos restarts]
    exact ⟨rfl, rfl⟩
  · rw [if_neg restarts] at candidate running
    exact absurd ⟨candidate, running⟩ restarts

/-- Where GP6 has taken over, the matrix and the role of GP6 are as it took them. -/
theorem State.substitutes_moved (s : State) (x : Modem) :
    ModemsMoved s.veh.modems (s.substitutes x).veh.modems ∧ (s.substitutes x).veh.serving = s.veh.serving ∧
      s.substitutes x = { s with cnt := (s.substitutes x).cnt, veh := (s.substitutes x).veh } := by
  unfold State.substitutes
  split
  case isFalse => exact ⟨.refl _, rfl, rfl⟩
  case isTrue h =>
    split
    · exact ⟨.refl _, rfl, rfl⟩
    · unfold State.resendUnacked
      split
      · obtain ⟨cn, ms, sent, moved⟩ := s.plcSend_frame ⟨x.coupler, h⟩ false
        rw [sent]
        exact ⟨moved, rfl, rfl⟩
      · exact ⟨.refl _, rfl, rfl⟩

/-- GP6 takes the place of a failed modem while it is free (R289). -/
theorem exec_modemFailed_of_spare {m : ModemNo} (w : ModemFault) (us : Nat) (works : (s.veh.modems[m]).failed = false) (pilot : m.1 < 6)
    (spare : (s.veh.modems[(6 : Fin 7)]).failed = false) (free : s.veh.serving = 7) :
    ∃ t, exec (.modemFailed m w us) s = .next t ∧ (t.veh.modems[m]).failed = true ∧ t.veh.serving = (s.veh.modems[m]).coupler ∧
      (t.veh.modems[(6 : Fin 7)]).coupler = (s.veh.modems[m]).coupler ∧ (t.veh.modems[(6 : Fin 7)]).matched = (s.veh.modems[m]).matched ∧
      (t.veh.modems[(6 : Fin 7)]).mac = (s.veh.modems[m]).mac ∧ (t.veh.modems[(6 : Fin 7)]).nmk = (s.veh.modems[m]).nmk ∧
      (∀ c : Output, (s.veh.modems[m]).coupler = c.1 → (s.veh.modems[m]).inSlac = true →
        ∀ r ∈ t.veh.slac, bitOf r.candidates c.1 = true → r.closed = false → r.sounds = 0 ∧ r.startTb = none) ∧
      t = { s with cnt := t.cnt, log := t.log, veh := t.veh } := by
  obtain ⟨cn, lg, lost⟩ := s.modemLost_frame m us
  have hx : exec (.modemFailed m w us) s = .next (((s.modemLost m us).switched s.veh.modems[m] us).substitutes s.veh.modems[m]) :=
    congrArg Host.Outcome.next ((if_neg (by rw [works]; exact Bool.false_ne_true)).trans (if_pos ⟨pilot, spare, free⟩))
  obtain ⟨moved, serving, frame⟩ := ((s.modemLost m us).switched s.veh.modems[m] us).substitutes_moved s.veh.modems[m]
  have other : (6 : Fin 7) ≠ m := by
    rintro rfl
    exact absurd pilot (by decide)
  have failed : (((s.modemLost m us).switched s.veh.modems[m] us).veh.modems[m]) = (s.veh.modems[m]).fails := by
    rw [lost]
    exact (upd_other _ _ _ _ other).trans (upd_same ..)
  have replaced : (((s.modemLost m us).switched s.veh.modems[m] us).veh.modems[(6 : Fin 7)]) = (s.veh.modems[(6 : Fin 7)]).replaces s.veh.modems[m] := by
    rw [lost]
    exact (upd_same ..).trans (congrArg (fun y : Modem => y.replaces s.veh.modems[m]) (upd_other _ _ _ _ other.symm))
  have at_m := moved m
  have at_6 := moved 6
  rw [failed] at at_m
  rw [replaced] at at_6
  refine ⟨_, hx, at_m.failed, serving, at_6.coupler, at_6.matched, at_6.mac, at_6.nmk, fun c coupler slac r member => ?_, ?_⟩
  · have starts : ((s.modemLost m us).switched s.veh.modems[m] us).substitutes s.veh.modems[m] =
        ((s.modemLost m us).switched s.veh.modems[m] us).restartSlac c := by
      have within : (s.veh.modems[m]).coupler < 6 := coupler ▸ c.2
      refine (dif_pos within).trans ((if_pos slac).trans ?_)
      congr
    rw [starts] at member
    exact State.restartSlac_starts member
  · rw [frame, lost]
    rfl

/-- Without a spare the link of the failed modem's pilot is lost (R290). -/
theorem exec_modemFailed_of_none {m : ModemNo} (w : ModemFault) (us : Nat) {c : Output} (works : (s.veh.modems[m]).failed = false)
    (none : m.1 = 6 ∨ (s.veh.modems[(6 : Fin 7)]).failed = true ∨ s.veh.serving ≠ 7) (coupler : (s.veh.modems[m]).coupler = c.1)
    (plc : s.plcOn c = true) (running : (s.so c).state ≠ .lock) :
    ∃ t, exec (.modemFailed m w us) s = .next t ∧ (t.veh.modems[m]).failed = true ∧ (t.veh.modems[m]).matched = false ∧ s.Stops t c 6 ∧
      t = { s with keys := t.keys, host := t.host, cnt := t.cnt, log := t.log, bil := t.bil, seqr := t.seqr, veh := t.veh } := by
  obtain ⟨cn, lg, lost⟩ := s.modemLost_frame m us
  obtain ⟨sv, without⟩ : ∃ sv, (if m.1 = 6 then (s.modemLost m us).onVeh (fun v => { v with serving := 7 }) else s.modemLost m us) =
      (s.modemLost m us).onVeh (fun v => { v with serving := sv }) := by
    split
    · exact ⟨_, rfl⟩
    · exact ⟨(s.modemLost m us).veh.serving, rfl⟩
  have no_spare : ¬ (m.1 < 6 ∧ (s.veh.modems[(6 : Fin 7)]).failed = false ∧ s.veh.serving = 7) := by
    rintro ⟨pilot, spare, free⟩
    rcases none with last | gone | taken
    · omega
    · exact absurd (gone.symm.trans spare) Bool.false_ne_true.symm
    · exact taken free
  generalize hu : (s.modemLost m us).onVeh (fun v => { v with serving := sv }) = u at without
  have failed : u.veh.modems[m] = (s.veh.modems[m]).fails := by
    rw [← hu, lost]
    exact upd_same ..
  have so (p : Fin 6) : u.so p = s.so p := by
    rw [← hu, lost]
    rfl
  have hx : exec (.modemFailed m w us) s = .next (u.commLost c) := by
    have within : (s.veh.modems[m]).coupler < 6 := coupler ▸ c.2
    have pilot : (⟨(s.veh.modems[m]).coupler, within⟩ : Fin 6) = c := Fin.ext coupler
    refine congrArg Host.Outcome.next ((if_neg (by rw [works]; exact Bool.false_ne_true)).trans ((if_neg no_spare).trans ?_))
    refine (dif_pos within).trans ?_
    rw [pilot]
    exact (if_pos plc).trans (congrArg (fun v => v.commLost c) without)
  rw [State.commLost_eq (by rwa [so])] at hx
  obtain ⟨ks, hs, cn', lg', bl, sq, ps, stops⟩ := u.stopOut_stopping c 6
  refine ⟨_, hx, ?_, ?_, (State.stopOut_stops ..).congr so, ?_⟩
  · rw [stops]
    exact congrArg Modem.failed failed
  · rw [stops]
    exact congrArg Modem.matched failed
  · rw [stops, ← hu, lost]
    rfl

end

end Sys2Proof.Machine
end

section
/-! O30: SLAC (R291 to R295). -/

namespace Sys2Proof.Machine

section
variable {s t u : State} {o : Fin 6} {run : Bytes} {r : SlacRun}

/-- A frame of a vehicle and the frame that answers it. -/
theorem State.exchange_frame (s : State) (o : Fin 6) (mgmt : Bool) :
    ∃ cn ms, ((s.plcRecv o).plcSend o mgmt).2 = s.carrying cn ms ∧ ModemsMoved s.veh.modems ms := by
  obtain ⟨cn, ms, received, heard⟩ := s.plcRecv_frame o
  obtain ⟨cn', ms', sent, moved⟩ := (s.plcRecv o).plcSend_frame o mgmt
  rw [received] at sent moved ⊢
  exact ⟨cn', ms', sent, heard.moved.trans moved⟩

/-! ### One run at a time -/

theorem State.findRun_single (runs : s.veh.slac = [r]) (names : r.runId = run) : s.findRun run = some r := by
  unfold State.findRun
  rw [runs]
  simp [names]

theorem State.onRun_single (runs : s.veh.slac = [r]) (names : r.runId = run) (f : SlacRun → SlacRun) : (s.onRun run f).veh.slac = [f r] := by
  unfold State.onRun
  change s.veh.slac.map _ = _
  rw [runs]
  simp [names]

/-- A run that closes takes the coupler that wins, if any (R292). -/
theorem State.closeRun_frame (s : State) (r : SlacRun) :
    ∃ cn ms ps, s.closeRun r = { s with cnt := cn, veh := { (s.onRun r.runId (fun x => { x with closed := true, winner := (idx 6).find? r.wins })).veh with
      modems := ms, ports := ps } } := by
  unfold State.closeRun
  dsimp only
  generalize hu : State.onVeh (s.onRun r.runId _) _ = u
  split
  case h_1 c _ =>
    obtain ⟨cn, ms, sent, -⟩ := u.plcSend_frame c true
    rw [sent, ← hu]
    exact ⟨_, _, _, rfl⟩
  case h_2 =>
    rw [← hu]
    exact ⟨_, _, _, rfl⟩

theorem State.closeRun_single (x : SlacRun) (runs : s.veh.slac = [x]) (names : x.runId = r.runId) :
    (s.closeRun r).veh.slac = [{ x with closed := true, winner := (idx 6).find? r.wins }] := by
  obtain ⟨cn, ms, ps, closed⟩ := s.closeRun_frame r
  rw [closed]
  exact State.onRun_single runs names _

/-! ### Sounds (R292) -/

theorem exec_slacSound_single {atten : SampleList} {x : Nat} (runs : s.veh.slac = [r]) (names : r.runId = run) (unclosed : r.closed = false)
    (start : r.startTb = some x) (early : s.clock.tb ≤ x + slacWindow) :
    ∃ t q, exec (.slacSound run atten) s = .next t ∧ t.veh.slac = [q] ∧ q.sounds = r.sounds + 1 ∧ q.sums = (r.sound atten).sums ∧
      (q.closed = true ↔ 9 ≤ r.sounds) ∧ (9 ≤ r.sounds → q.winner = (idx 6).find? (r.sound atten).wins) ∧
      t = { s with cnt := t.cnt, veh := t.veh } := by
  have heard : r.closed = false ∧ r.startTb.any (fun t => decide (s.clock.tb ≤ t + slacWindow)) = true := by
    rw [start]
    exact ⟨unclosed, decide_eq_true early⟩
  have hx : exec (.slacSound run atten) s = .next (if 10 ≤ (r.sound atten).sounds then (s.onRun run (fun _ => r.sound atten)).closeRun (r.sound atten)
      else s.onRun run (fun _ => r.sound atten)) := by
    refine congrArg Host.Outcome.next ?_
    unfold slacAddSound
    rw [State.findRun_single runs names]
    exact if_pos heard
  have added : (s.onRun run (fun _ => r.sound atten)).veh.slac = [r.sound atten] := State.onRun_single runs names _
  have tenth : 10 ≤ (r.sound atten).sounds ↔ 9 ≤ r.sounds := Nat.succ_le_succ_iff
  by_cases last : 9 ≤ r.sounds
  · rw [if_pos (tenth.mpr last)] at hx
    obtain ⟨cn, ms, ps, closed⟩ := (s.onRun run (fun _ => r.sound atten)).closeRun_frame (r.sound atten)
    refine ⟨_, _, hx, State.closeRun_single _ added rfl, rfl, rfl, ⟨fun _ => last, fun _ => rfl⟩, fun _ => rfl, ?_⟩
    rw [closed]
    rfl
  · rw [if_neg (mt tenth.mp last)] at hx
    exact ⟨_, _, hx, added, rfl, rfl, ⟨fun closed => absurd (unclosed.symm.trans closed) Bool.false_ne_true, fun h => absurd h last⟩,
      fun h => absurd h last, rfl⟩

theorem slacDue_single {x : Nat} (runs : s.veh.slac = [r]) (unclosed : r.closed = false) (start : r.startTb = some x)
    (late : x + slacWindow ≤ s.clock.tb) :
    s.veh.slac.filter (fun r => !r.closed && r.startTb.any (fun t => decide (t + slacWindow ≤ s.clock.tb))) = [r] := by
  have due : (!r.closed && r.startTb.any (fun t => decide (t + slacWindow ≤ s.clock.tb))) = true := by
    rw [unclosed, start, Bool.not_false, Bool.true_and, Option.any_some]
    exact decide_eq_true late
  rw [runs]
  exact List.filter_cons_of_pos due

theorem slacClose_single {x : Nat} (runs : s.veh.slac = [r]) (unclosed : r.closed = false) (start : r.startTb = some x)
    (late : x + slacWindow ≤ s.clock.tb) : slacClose s = s.closeRun r := by
  unfold slacClose
  rw [slacDue_single runs unclosed start late, List.foldl_cons, List.foldl_nil]

theorem exec_slacWindowClose_single {x : Nat} (runs : s.veh.slac = [r]) (unclosed : r.closed = false) (start : r.startTb = some x)
    (late : x + slacWindow ≤ s.clock.tb) :
    ∃ t, exec .slacWindowClose s = .next t ∧ t.veh.slac = [{ r with closed := true, winner := (idx 6).find? r.wins }] ∧
      t = { s with cnt := t.cnt, veh := t.veh } := by
  have hx : exec .slacWindowClose s = .next (s.closeRun r) := congrArg Host.Outcome.next (slacClose_single runs unclosed start late)
  obtain ⟨cn, ms, ps, closed⟩ := s.closeRun_frame r
  refine ⟨_, hx, State.closeRun_single _ runs rfl, ?_⟩
  rw [closed]

/-! ### Validation and the end of a link (R294, R295) -/

/-- A run in which a pilot's toggles have been counted. -/
def SlacRun.toggled (r : SlacRun) (o : Fin 6) (n : Nat) : SlacRun :=
  { r with toggles := some ((r.toggles.getD (Vector.replicate 6 0)).set o n) }

theorem exec_cmValidate_single {n : Nat} (runs : s.veh.slac = [r]) (names : r.runId = run) (closed : r.closed = true) (winner : r.winner = none)
    (validates : F.VEH_SLACCFG_VALIDATE.get r.cfg = 1) (within : r.within o = true) :
    ∃ t v, exec (.cmValidate o run n) s = .next t ∧ t.veh.slac = [{ r with toggles := some v }] ∧ v[o] = n ∧
      t = { s with cnt := t.cnt, veh := t.veh } := by
  have counted : (s.onRun run (fun r => r.toggled o n)).veh.slac = [r.toggled o n] := State.onRun_single runs names _
  obtain ⟨cn, ms, answered, -⟩ := (s.onRun run (fun r => r.toggled o n)).exchange_frame o true
  have hx : slacValidate o run n s = (s.onRun run (fun r => r.toggled o n)).carrying cn ms := by
    unfold slacValidate
    rw [State.findRun_single runs names]
    exact (if_pos ⟨closed, winner, validates, within⟩).trans answered
  exact ⟨_, _, congrArg Host.Outcome.next hx, counted, Vector.getElem_set_self .., rfl⟩

theorem exec_slacFailed (plc : s.plcOn o = true) (link : s.linkUp o = false) (running : (s.so o).state ≠ .lock) :
    ∃ t, exec (.slacFailed o) s = .next t ∧ s.Stops t o 6 ∧
      (t.veh.ports[o]).result = (if (s.veh.ports[o]).result ≤ 1 then 6 else (s.veh.ports[o]).result) ∧
      t = { s with keys := t.keys, host := t.host, cnt := t.cnt, log := t.log, bil := t.bil, seqr := t.seqr, veh := t.veh } := by
  obtain ⟨ms, failed⟩ : ∃ ms, slacFail o s = ({ s with veh := { s.veh with modems := ms, ports := upd s.veh.ports o (fun p =>
      if p.result ≤ 1 then { p with result := 6 } else p) } } : State).commLost o := by
    unfold slacFail
    rw [if_pos ⟨plc, link⟩]
    dsimp only
    split
    · exact ⟨_, rfl⟩
    · exact ⟨s.veh.modems, rfl⟩
  generalize hu : State.mk .. = u at failed
  have port : (u.veh.ports[o]).result = (if (s.veh.ports[o]).result ≤ 1 then 6 else (s.veh.ports[o]).result) := by
    rw [← hu]
    exact (congrArg SlacPort.result (upd_same ..)).trans (apply_ite SlacPort.result ..)
  have so (p : Fin 6) : u.so p = s.so p := by rw [← hu]; rfl
  rw [State.commLost_eq (by rwa [so])] at failed
  obtain ⟨ks, hs, cn, lg, bl, sq, ps, stops⟩ := u.stopOut_stopping o 6
  refine ⟨_, congrArg Host.Outcome.next failed, (State.stopOut_stops ..).congr so, ?_, ?_⟩
  · rw [stops]
    exact port
  · rw [stops, ← hu]
    rfl

end

end Sys2Proof.Machine
end

section
/-! O30: a new SLAC run and the match that ends one, and the obligation (R291, R293, R294). -/

namespace Sys2Proof.Machine

section
variable {s t u : State} {o : Fin 6} {run : Bytes} {r : SlacRun}

/-! ### A new run (R291) -/

/-- The run that CM_SLAC_PARM.REQ begins. -/
def State.newRun (s : State) (run : Bytes) : SlacRun :=
  { runId := run, candidates := bitmap 6 s.slacCandidate, startTb := none, sounds := 0, sums := Vector.replicate 6 (0, 0), cfg := s.reg R.VEH_SLACCFG [],
    neighbours := [], closed := false, winner := none, toggles := none }

/-- `s` with a new run on its candidates. -/
def State.started (s : State) (run : Bytes) : State :=
  s.onVeh (fun v => { v with
    slac := v.slac ++ [s.newRun run],
    ports := updAll v.ports (fun c p => if bitOf (bitmap 6 s.slacCandidate) c.1 then { p with result := 1, runs := satAdd 8 p.runs 1 } else p) })

/-- A candidate hears the request and answers. -/
def State.answersParm (s : State) (candidates : Nat) (o : Fin 6) : State :=
  if bitOf candidates o.1 then
    ((match (s.plcRecv o).modemFor o with
      | some m => (s.plcRecv o).onModem m (fun x => { x with inSlac := true })
      | none => s.plcRecv o).plcSend o true).2
  else s

theorem State.answersParm_frame (s : State) (candidates : Nat) (o : Fin 6) : ∃ cn ms, s.answersParm candidates o = s.carrying cn ms := by
  unfold State.answersParm
  split
  · obtain ⟨cn, ms, received, -⟩ := s.plcRecv_frame o
    rw [received]
    split
    · obtain ⟨cn', ms', sent, -⟩ := ((s.carrying cn ms).onModem _ (fun x => { x with inSlac := true })).plcSend_frame o true
      exact ⟨cn', ms', sent⟩
    · obtain ⟨cn', ms', sent, -⟩ := (s.carrying cn ms).plcSend_frame o true
      exact ⟨cn', ms', sent⟩
  · exact ⟨s.cnt, s.veh.modems, rfl⟩

theorem State.answersParm_foldl (s : State) (candidates : Nat) (l : List (Fin 6)) :
    ∃ cn ms, l.foldl (fun u o => u.answersParm candidates o) s = s.carrying cn ms := by
  refine List.foldlRecOn (motive := fun u : State => ∃ cn ms, u = s.carrying cn ms) _ _ ⟨s.cnt, s.veh.modems, rfl⟩ ?_
  rintro _ ⟨cn, ms, rfl⟩ o -
  exact (s.carrying cn ms).answersParm_frame candidates o

/-- An output in WAIT_UNPLUG that is ready begins a session with a new run (R317). -/
def State.beginsAnew (s : State) (o : Fin 6) : State :=
  if (s.so o).state = .waitUnplug ∧ s.plcOn o ∧ s.outputReady o ∧ 1 ≤ (s.veh.pilots[o]).state ∧ (s.veh.pilots[o]).state ≤ 3 then
    ((match (s.so o).sid with | some i => s.freeSid i | none => s).unmatch o).toLock o
  else s

theorem slacParm_eq (new : s.findRun run = none) :
    slacParm run s =
      if bitmap 6 ((idx 6).foldl State.beginsAnew s).slacCandidate = 0 then (idx 6).foldl State.beginsAnew s
      else (idx 6).foldl (fun u o => u.answersParm (bitmap 6 ((idx 6).foldl State.beginsAnew s).slacCandidate) o)
        (((idx 6).foldl State.beginsAnew s).started run) := by
  unfold slacParm
  rw [new]
  rfl

/-- Where no output waits for its vehicle to leave, a new run begins no session. -/
theorem exec_cmSlacParmReq_of_new (new : s.findRun run = none) (candidates : bitmap 6 s.slacCandidate ≠ 0)
    (awake : ∀ o, (s.so o).state ≠ .waitUnplug) :
    ∃ t r, exec (.cmSlacParmReq run) s = .next t ∧ t.veh.slac = s.veh.slac ++ [r] ∧ r.runId = run ∧
      r.candidates = bitmap 6 s.slacCandidate ∧ r.sounds = 0 ∧ r.closed = false ∧ r.startTb = none ∧
      t = { s with cnt := t.cnt, veh := t.veh } := by
  obtain ⟨cn, ms, answered⟩ := (s.started run).answersParm_foldl (bitmap 6 s.slacCandidate) (idx 6)
  have hx : slacParm run s = (s.started run).carrying cn ms := by
    have asleep : (idx 6).foldl State.beginsAnew s = s := List.foldl_fixed' (fun o => if_neg fun h => awake o h.1) _
    rw [slacParm_eq new, asleep, if_neg candidates]
    exact answered
  exact ⟨_, s.newRun run, congrArg Host.Outcome.next hx, rfl, rfl, rfl, rfl, rfl, rfl, rfl⟩

/-! ### The match (R293, R294) -/

/-- `s` with the modem of an output joined to its vehicle, and the run ended. -/
def State.matched (s : State) (o : Fin 6) (m : Fin 7) (run : Bytes) (nmk nid : Bytes) : State :=
  ((s.onModem m (fun x => { x with matched := true, inSlac := false, nmk := nmk, nid := nid })).onVeh (fun v =>
    { v with ports := upd v.ports o (fun p => { p with result := 2 }), slac := v.slac.filter (fun x => x.runId != run) })).onProto o
      (fun p => { p with stage := 1 })

theorem State.matched_frame (s : State) (o : Fin 6) (m : Fin 7) (run nmk nid : Bytes) :
    ∃ vh, s.matched o m run nmk nid = { s with veh := vh } := ⟨_, rfl⟩

theorem exec_cmSlacMatchReq_of_winner {m : Fin 7} (found : s.findRun run = some r) (closed : r.closed = true) (winner : r.winner = some o)
    (wins : r.wins o = true) (modem : s.modemFor o = some m) (passes : (s.plcSend o true).1 = true) :
    ∃ t, exec (.cmSlacMatchReq o run) s = .next t ∧ (t.veh.modems[m]).matched = true ∧ (t.veh.modems[m]).inSlac = false ∧
      (t.veh.modems[m]).nmk.length = 16 ∧ t.findRun run = none ∧ (t.veh.ports[o]).result = 2 ∧ (t.veh.proto[o]).stage = 1 ∧
      t = { s with cnt := t.cnt, log := t.log, veh := t.veh, draws := t.draws } := by
  obtain ⟨cn, ms, received, heard⟩ := s.plcRecv_frame o
  obtain ⟨cn', ms', sent, moved⟩ := (s.carrying cn ms).plcSend_frame o true
  have sends : ((s.carrying cn ms).plcSend o true).1 = true :=
    (State.plcSend_heard (s := s) (u := s.carrying cn ms) rfl rfl rfl rfl rfl heard).trans passes
  have drives : ((s.carrying cn ms).carrying cn' ms').modemFor o = some m :=
    (State.modemFor_moved (s := s) (u := (s.carrying cn ms).carrying cn' ms') rfl (heard.moved.trans moved)).trans modem
  obtain ⟨nmk, dr, drawn, length⟩ : ∃ nmk dr, ((s.carrying cn ms).carrying cn' ms').drawBytes 16 =
      (nmk, { (s.carrying cn ms).carrying cn' ms' with draws := dr }) ∧ nmk.length = 16 :=
    ⟨(State.drawBytes 16 ((s.carrying cn ms).carrying cn' ms')).1, _, rfl, State.drawBytes_length _ _⟩
  obtain ⟨nid, hx⟩ : ∃ nid, slacMatch o run s =
      (State.matched { (s.carrying cn ms).carrying cn' ms' with draws := dr } o m run nmk nid).logEv .vehicle o.1 7 0 (s.so o).sidNat 0 := by
    unfold slacMatch
    rw [found]
    dsimp only
    rw [if_pos ⟨closed, .inl ⟨winner, wins⟩⟩, received, sends, sent, drives]
    dsimp only
    rw [drawn]
    exact ⟨_, rfl⟩
  obtain ⟨cn₂, lg, logged, -⟩ := (State.matched { (s.carrying cn ms).carrying cn' ms' with draws := dr } o m run nmk nid).logEv_frame .vehicle o.1 7 0
    (s.so o).sidNat 0
  rw [logged] at hx
  have joined (v : State) : (v.matched o m run nmk nid).veh.modems[m] =
      { v.veh.modems[m] with matched := true, inSlac := false, nmk := nmk, nid := nid } := upd_same ..
  refine ⟨_, congrArg Host.Outcome.next hx, congrArg Modem.matched (joined _), congrArg Modem.inSlac (joined _), ?_, ?_, ?_, ?_, ?_⟩
  · exact (congrArg (fun x : Modem => x.nmk.length) (joined _)).trans length
  · exact List.find?_eq_none.mpr fun x member => by simpa using (List.mem_filter.mp member).2
  · exact congrArg SlacPort.result (upd_same ..)
  · exact congrArg Proto.stage (upd_same ..)
  · obtain ⟨vh, frame⟩ := State.matched_frame { (s.carrying cn ms).carrying cn' ms' with draws := dr } o m run nmk nid
    rw [frame]
    rfl

end

/-- Settles O30: pilots and proximity, the modems, and each step of SLAC. -/
theorem pilotsModemsAndSlac : Obligations.PilotsModemsAndSlac :=
  ⟨fun _ _ _ unwatched => congrArg Host.Outcome.next (if_pos unwatched), fun _ i _ watched => exec_pilotStateChange_of_watched watched i,
    fun _ ohms c _ hc => exec_ppCodeChange ohms c hc,
    fun _ w us _ works pilot spare free => exec_modemFailed_of_spare w us works pilot spare free,
    fun _ w us _ _ works none coupler plc running => exec_modemFailed_of_none w us works none coupler plc running,
    fun _ _ new candidates awake => exec_cmSlacParmReq_of_new new candidates awake, fun _ _ _ => ⟨rfl, rfl⟩,
    fun _ _ _ _ _ runs names unclosed start early => exec_slacSound_single runs names unclosed start early,
    fun _ _ _ runs unclosed start late => exec_slacWindowClose_single runs unclosed start late,
    fun _ _ _ _ _ found closed winner wins modem passes => exec_cmSlacMatchReq_of_winner found closed winner wins modem passes,
    fun _ _ _ _ _ runs names closed winner validates within => exec_cmValidate_single runs names closed winner validates within,
    fun _ _ plc link running => exec_slacFailed plc link running⟩

end Sys2Proof.Machine
end
